-- ==== Sys2Proof/Word.lean ====
section
/-!
DEFINITION. Sys2Proof/Word.lean: the 36-bit word (R7, R10), and the names of the small index types that the
commands and the state share. Only types and their plainest names stand here.
-/
namespace Sys2Proof

/-- A word of the LZ9 is 36 bits (00_scope, Conventions). -/
abbrev Word := BitVec 36

/-- A port of one of the nine-port blocks: 0 to 7 the word cores, 8 the host (R104, R186). -/
abbrev Port := Fin 9

/-- A task class C0 to C7 (R117). -/
abbrev Cls := Fin 8

/-- A word core 0 to 7. -/
abbrev CoreId := Fin 8

/-- A fabric quire 0 to 7 (R156). -/
abbrev QuireId := Fin 8

/-- A field channel FCH0 to FCH31. -/
abbrev FieldCh := Fin 32

/-- A CAN controller 0 to 3. -/
abbrev CanId := Fin 4

/-- One field of a register: the word address of the register, its lowest bit and its width. -/
structure Fld where
  addr : Nat
  lo : Nat
  width : Nat
  deriving DecidableEq, Repr

end Sys2Proof
end

