-- ==== Sys2Proof/Machine/Bits.lean ====
section
/-!
DEFINITION. Sys2Proof/Machine/Bits.lean: bit fields of a 36-bit word, signed readings, and the byte packing of
words (R70, R71) with its CRC-32C (R509).
-/
namespace Sys2Proof.Machine

/-- The field of `width` bits from bit `lo` of a word, as a number. -/
def bitsOf (w : Word) (lo width : Nat) : Nat := (w.extractLsb' lo width).toNat

/-- A word with the `width` bits from `lo` replaced by `v`, reduced modulo 2^width (R10). -/
def withBits (w : Word) (lo width v : Nat) : Word :=
  (w &&& ~~~((BitVec.allOnes width).setWidth 36 <<< lo)) |||
    ((BitVec.ofNat width v).setWidth 36 <<< lo)

/-- Bit `i` of a number. -/
def bitAt (n i : Nat) : Bool := n.testBit i

/-- A number with bit `i` set to `b`. -/
def withBit (n i : Nat) (b : Bool) : Nat :=
  if n.testBit i = b then n else if b then n + 2 ^ i else n - 2 ^ i

/-- A truth value as a bit. -/
def bitNat (b : Bool) : Nat := if b then 1 else 0

/-- A number of `width` bits read as two's complement. -/
def signedOf (width n : Nat) : Int :=
  let m := n % 2 ^ width
  if m < 2 ^ (width - 1) then (m : Int) else (m : Int) - (2 ^ width : Nat)

/-- An integer reduced modulo 2^width (R10). -/
def natOfInt (width : Nat) (i : Int) : Nat := (i % (2 ^ width : Nat)).toNat

/-- The word of an integer, modulo 2^36. -/
def wordOfInt (i : Int) : Word := BitVec.ofInt 36 i

/-- A word read as a two's-complement number. -/
def wordInt (w : Word) : Int := w.toInt

/-- The number of the bits of `n` below `k` that are set. -/
def popCount (n : Nat) : Nat → Nat
  | 0 => 0
  | k + 1 => popCount n k + bitNat (n.testBit k)

/-- Rounding a quotient up. -/
def ceilDiv (a b : Nat) : Nat := (a + b - 1) / b

/-- A signed number held to the range of `width` bits. -/
def saturate (width : Nat) (i : Int) : Int :=
  if i < -(2 ^ (width - 1) : Nat) then -(2 ^ (width - 1) : Nat)
  else if i ≥ (2 ^ (width - 1) : Nat) then (2 ^ (width - 1) : Nat) - 1 else i

/-- The nine bytes of a pair of words, most significant bit first (R70). -/
def packPair (a b : Word) : List Nat :=
  let n := a.toNat * 2 ^ 36 + b.toNat
  (List.range 9).map fun i => n / 2 ^ (8 * (8 - i)) % 256

/-- Words packed two per nine bytes; an odd number of words gets one word of 0 appended (R70). -/
def packWords : List Word → List Nat
  | [] => []
  | [a] => packPair a 0
  | a :: b :: rest => packPair a b ++ packWords rest

/-- One bit of the reflected CRC-32C. -/
def crcBit (c : Nat) : Nat := if c % 2 = 1 then (c / 2) ^^^ 0x82F63B78 else c / 2

/-- One byte of the CRC-32C. -/
def crcByte (c b : Nat) : Nat := Nat.repeat crcBit 8 (c ^^^ b)

/-- CRC-32C of a byte string: polynomial 16#1EDC6F41 reflected, initial value and final inversion all ones. -/
def crc32c (bytes : List Nat) : Nat := (bytes.foldl crcByte 0xFFFFFFFF) ^^^ 0xFFFFFFFF

/-- The first element that satisfies a test, changed; the rest unchanged. -/
def updateFirst {α : Type} (p : α → Bool) (f : α → α) : List α → List α
  | [] => []
  | x :: xs => if p x then f x :: xs else x :: updateFirst p f xs

/-- Element `i` of a list changed, when there is one. -/
def updateAt {α : Type} (f : α → α) : Nat → List α → List α
  | _, [] => []
  | 0, x :: xs => f x :: xs
  | i + 1, x :: xs => x :: updateAt f i xs

end Sys2Proof.Machine
end

