-- ==== Sys2Proof/Machine/Content.lean ====
section
/-!
DEFINITION. Sys2Proof/Machine/Content.lean: what a folio or a tip-in carries (03_folio R73 to R98). The manual lays
out the header, the gathering headers, the wrap table, the SEAL and MAP bodies and the fabric records bit by bit; it
gives no layout for the bodies of STRUCT, DATA, SYMBOL, CHANNEL, SPINE, TIME and POLICY, so their content stands here
decoded (DESIGN CHOICE, log 6).
-/
namespace Sys2Proof.Machine

/-- What an image point is bound to (R123, R124): nothing, element `elem` of a channel, a fast pin, or a point of
another node of the spine. -/
inductive Source where
  | unbound
  | channel (cls idx elem : Nat)
  | pin (i : Nat)
  | spine (node : Nat)
  deriving DecidableEq, Repr

/-- One image point as STRUCT assigns it (R147): its kind, number, owning class, direction and binding. -/
structure Point where
  word : Bool
  global : Bool
  num : Nat
  cls : Nat
  out : Bool
  src : Source
  deriving DecidableEq, Repr

/-- An arm bit: the local output bit point it follows and its fallback (R177). -/
structure ArmBit where
  point : Nat
  fallback : Bool
  deriving DecidableEq, Repr

/-- A fabric unit (R156 to R176): its STRUCT number, host class, pass count and records as the FABRIC gathering
carries them, the initial CV of its counters, and the places that STRUCT names for its retained cells, as cell and address
(R611). -/
structure FabricUnit where
  id : Nat
  cls : Nat
  passes : Nat
  leaves : List Word
  timers : List Word
  counters : List Word
  inTaps : List Word
  outTaps : List Word
  reflex : List Word
  arms : List ArmBit
  cvInit : List Word
  timerRet : List (Nat × Nat)
  counterRet : List (Nat × Nat)
  fixed : Option Nat
  hint : Option Nat
  deriving DecidableEq, Repr

/-- The retained cells among records of `n` words (bit 30 of word 0, R169, R170), with the places that STRUCT names. -/
def retainedCells (records : List Word) (n : Nat) (places : List (Nat × Nat)) : List (Nat × Nat) :=
  places.filter fun p => (records.getD (n * p.1) 0).getLsbD 30

/-- The retained timer cells of a unit, as cell and address (R611). -/
def FabricUnit.retTimers (u : FabricUnit) : List (Nat × Nat) := retainedCells u.timers 2 u.timerRet

/-- The retained counter cells of a unit, as cell and address (R611). -/
def FabricUnit.retCounters (u : FabricUnit) : List (Nat × Nat) := retainedCells u.counters 4 u.counterRet

/-- A core unit, a task or an event task (R133, R263, R273): bounds in nanoseconds, code and entry offset, the
offsets of the code words that relocation entries name with the segment each takes its base from, and the global points
that a relocatable unit reads and writes (R274), by kind and number. -/
structure CoreUnit where
  id : Nat
  name : Nat
  cls : Nat
  event : Option Nat
  bound : Nat
  minInterval : Option Nat
  reloc : Bool
  code : List Word
  entry : Nat
  relocs : List (Nat × Nat)
  segs : List Nat
  feedBytes : Nat
  returnBytes : Nat
  fixed : Option Nat
  hint : Option Nat
  inPoints : List (Bool × Nat)
  outPoints : List (Bool × Nat)
  deriving DecidableEq, Repr

/-- Where a data segment lies: in SRAM by placement, or at a fixed word address of the retain copy, the keeper's
PROGRAM partition or the mirror bank. -/
inductive SegHome where
  | sram
  | fixedAt (addr : Nat)
  deriving DecidableEq, Repr

/-- A data segment with its initial values (R76, R263). -/
structure Segment where
  id : Nat
  size : Nat
  home : SegHome
  retain : Bool
  init : List Word
  addrTaken : Bool
  apart : Option Nat
  fixed : Option Nat
  hint : Option Nat
  deriving DecidableEq, Repr

/-- The elementary types of a symbol (R91, R291). -/
inductive Scalar where
  | bit | h18 (signed : Bool) (upper : Bool) | w36 (signed : Bool) | d72 (signed : Bool) | f36 | q35
  deriving DecidableEq, Repr

/-- One member of a symbol: an array's element by its index, a structure's member by its name. -/
structure Member where
  name : Nat
  ty : Scalar
  off : Nat
  bit : Nat
  deriving DecidableEq, Repr

/-- Where a symbol's value lives: a segment, an image point (bit or word), or a leaf, timer or counter of a fabric
unit that it names as an instance (R295). -/
inductive SymHome where
  | seg (id off : Nat)
  | point (word : Bool) (num : Nat)
  | leaf (unit idx : Nat)
  | timer (unit idx : Nat)
  | counter (unit idx : Nat)
  deriving DecidableEq, Repr

/-- Scalar, array or structure (R292). -/
inductive Shape where
  | scalar | array | struct
  deriving DecidableEq, Repr

/-- One entry of the symbol table; `name` numbers the symbol's name. -/
structure Symbol where
  name : Nat
  shape : Shape
  members : List Member
  home : SymHome
  unit : Nat
  retain : Bool
  deriving DecidableEq, Repr

/-- An initial channel of the CHANNEL gathering: its class, index and class words (R103, R105). -/
structure ChannelDef where
  cls : Nat
  idx : Nat
  words : List Word
  deriving DecidableEq, Repr

/-- A gather or scatter run of the SPINE gathering (R330, R331): `count` points of one kind, local to the node from
`loc` on, global from `glob` on; `scatter` tells the direction. -/
structure Run where
  node : Nat
  cls : Nat
  scatter : Bool
  word : Bool
  loc : Nat
  glob : Nat
  count : Nat
  deriving DecidableEq, Repr

/-- A node that the SPINE gathering expects (R343): its address, whether it is required, whether it hosts units,
whether its folio is shelved here, its unit serial where one is listed, and the digest of the runs that concern it. -/
structure ExpectedNode where
  addr : Nat
  required : Bool
  hosting : Bool
  shelved : Bool
  serial : Option (List Word)
  runDigest : List Word
  deriving DecidableEq, Repr

/-- A program group of wide counters that STRUCT places (R501): the group's number, its counters and its address. -/
structure CounterGroup where
  group : Nat
  count : Nat
  addr : Nat
  deriving DecidableEq, Repr

/-- A mirror run (R552): the points of one kind that a window range of the snapshot shows. -/
structure MirrorRun where
  global : Bool
  word : Bool
  first : Nat
  count : Nat
  offset : Nat
  deriving DecidableEq, Repr

/-- The partner that the SPINE gathering configures (R350): its node address, and its serial where one is listed. -/
structure PairPartner where
  addr : Nat
  serial : Option (List Word)
  deriving DecidableEq, Repr

/-- What STRUCT and DATA give a unit of its own (R91): its data segments, and its image area as ranges of word or bit points,
each from a number on. -/
structure UnitArea where
  unit : Nat
  segs : List Nat
  points : List (Bool × Nat × Nat)
  deriving DecidableEq, Repr

/-- The content of a folio, or of a tip-in, whose lists are empty where it has no gathering for them. `settings` are the
basic-page registers that its gatherings name, with their values (R111); `pointInit` gives the initial values of image
points by kind (word), global, number; `wdgSlots` the enrolled slots by number, task name and token (R481); `areas` the data
and image areas of units (R91); `unitIds` the units that STRUCT names and `lz7` those that it marks LZ7-compatible (R98);
`snapshot` the snapshot segment and its PERIOD (R334); `mapDigests` the base and result digests of a MAP gathering (R96). -/
structure FolioContent where
  role : Nat
  standalone : Bool
  autostart : Bool
  startWarm : Bool
  settings : List (Nat × Word)
  pools : List (Nat × Nat)
  points : List Point
  pointInit : List (Bool × Bool × Nat × Word)
  mirror : List MirrorRun
  wdgToken : Nat
  wdgSlots : List (Nat × Nat × Nat)
  fabrics : List FabricUnit
  cores : List CoreUnit
  segments : List Segment
  areas : List UnitArea
  unitIds : List Nat
  lz7 : List Nat
  vbases : List Nat
  pinModes : List Nat
  pinFallback : Nat
  symbols : List Symbol
  channels : List ChannelDef
  runs : List Run
  nodes : List ExpectedNode
  ownAddr : Nat
  runDigest : List Word
  partner : Option PairPartner
  groups : List CounterGroup
  retainDigest : List Word
  keeperDigest : List Word
  snapshot : Option (Nat × Nat)
  map : List (Nat × Nat)
  mapDigests : Option (List Word × List Word)
  deriving DecidableEq, Repr

/-- A folio or tip-in as a source delivers it: its words, with the decoded content of the bodies whose layout the manual
does not give (log 6). -/
structure FolioImage where
  words : List Word
  content : FolioContent
  deriving DecidableEq, Repr

/-- What the samples of one line cycle give (R402, R406, R407, log 12), in micro-units: the measured period in ns, per
phase or element the means of v², i², v·i and v(t − T/4)·i, the mean of the neutral current squared, Urms(1/2) squared
by phase at the two zero crossings of the cycle, whether the voltages crossed zero in reversed order, and the mean square
of (v1 + v2 + v3) / 3. -/
structure CycleMeans where
  period : Nat
  vv : List Nat
  ii : List Nat
  vi : List Int
  vq : List Int
  nn : Nat
  halves : List (List Nat)
  reversed : Bool
  displaced : Nat
  deriving DecidableEq, Repr

/-- A CAN frame on the bus (R430, R434): format 0 classical, 1 FD, 2 XL, its control bits, identifier, XL fields, the
length in bytes and the payload four bytes a word. -/
structure CanFrame where
  fmt : Nat
  ide : Bool
  rtr : Bool
  brs : Bool
  esi : Bool
  id : Nat
  sdt : Nat
  vcid : Nat
  sec : Bool
  af : Nat
  len : Nat
  payload : List Word
  deriving DecidableEq, Repr

/-- A CAN frame that has been received, and how many nanoseconds ago its start-of-frame was sampled (R435). -/
structure CanHeard where
  frame : CanFrame
  age : Nat
  deriving DecidableEq, Repr

/-- A wake condition, with its frame under FRAME, and how many nanoseconds ago it came (R444). -/
structure CanWaking where
  frame : Option CanFrame
  age : Nat
  deriving DecidableEq, Repr

/-- The controller that has sent a frame, and how many nanoseconds ago its start-of-frame was sampled (R440). -/
structure CanDone where
  ctrl : Fin 4
  age : Nat
  deriving DecidableEq, Repr

/-- A raw input level (R378) and for how many samples in pulsed sampling, or times 0.5 µs in continuous sampling, it has been
held (R377). -/
structure RawLevel where
  level : Bool
  seen : Nat
  deriving DecidableEq, Repr

/-- A station frame as it arrives (R566): its bytes, and the source and the sequence number of its redundancy
tag where it has one (R559). -/
structure StationFrame where
  bytes : List (BitVec 8)
  tag : Option (BitVec 48 × BitVec 16)
  deriving DecidableEq, Repr

/-- The bits of a fence's word below its function, and whether accesses that it waits for are in flight (R262, log 149). -/
structure FenceWord where
  rest : BitVec 24
  inFlight : Bool
  deriving DecidableEq, Repr

/-- What the flash gives of the shelf, none where the read fails, and the capacity in bytes that it reports (R87). -/
structure ShelfRead where
  words : Option (List Word)
  capacity : Nat
  deriving DecidableEq, Repr

/-- An improvement's moves (entry, device, place), and the quires whose staged planes pass their check when they are read back
(R267, R173). -/
structure Proposal where
  moves : List (Nat × Nat × Nat)
  readback : BitVec 8
  deriving DecidableEq, Repr

/-- Whether a switch ends 1 µs before the major LATCH (R269), and the quires whose planes pass their check where some are staged
again (R173). -/
structure SwitchCheck where
  fits : Bool
  readback : BitVec 8
  deriving DecidableEq, Repr

/-- Why a transmission attempt failed (R440, R442): arbitration lost, or an error with the LEC code of CAN_STn.
`data` tells a bit error in the data field, `dominant` a dominant bit seen in the passive error flag, `inArb` a stuff
error in the arbitration field. -/
inductive CanTxError where
  | lostArbitration
  | stuff (inArb : Bool)
  | form
  | ack (dominant : Bool)
  | bit1 (data : Bool)
  | bit0 (data : Bool)
  | crc
  deriving DecidableEq, Repr

/-- The state of a leaf (R157, R160, R167): state bit, previous-state bit (none while unset, R145), and the function
value of its last evaluation, from which the previous-state bit is taken (R144). -/
structure LeafSt where
  bit : Bool
  prev : Option Bool
  val : Bool
  deriving DecidableEq, Repr

/-- The state of a timer cell (R141, R142): START in units of the timebase, and the preset in force. -/
structure TimerSt where
  start : Int
  et : Nat
  q : Bool
  inPrev : Bool
  pt : Nat
  deriving DecidableEq, Repr

/-- The state of a counter cell (R143, R170, R171). -/
structure CounterSt where
  cv : Int
  cuPrev : Option Bool
  cdPrev : Option Bool
  pv : Int
  q : Bool
  qd : Bool
  deriving DecidableEq, Repr

/-- The running state of a fabric unit. -/
structure UnitSt where
  id : Nat
  leaves : List LeafSt
  timers : List TimerSt
  counters : List CounterSt
  arms : List Bool
  deriving DecidableEq, Repr

/-- A firmware image as a flash slot or the host delivers it (R532, R533): the 64 header words, the chunk table with 8
words per chunk, and the chunks of the body as byte strings; `firmware` is the house firmware that the body holds, whose
layout the manual does not give (log 6). -/
structure FlashImage where
  header : List Word
  table : List Word
  chunks : List Nat
  firmware : List Word
  deriving DecidableEq, Repr

/-- What the house core meets on the xSPI port as it starts the flash devices (R568): their identification bytes, whether
one offers no 8D-8D-8D mode, and whether an access failed. -/
structure FlashPort where
  id0 : BitVec 24
  id1 : BitVec 24
  slow : Bool
  failed : Bool
  deriving DecidableEq, Repr

/-- What a chunk frame of a distribution carries (R542): the image's header and table with the number and the bytes of one
chunk; or to the acting manager, the state and cause that a node reports, as UPD_NODEa codes them, with its chunks
written. -/
inductive ChunkMsg where
  | data (img : FlashImage) (index : Nat) (bytes : Nat)
  | report (state cause chunks : Nat)
  deriving DecidableEq, Repr

/-- A channel in force (R99 to R106): class code, index, class words, whether the symbol table binds it to the image,
and whether the CHANNEL gathering made it. -/
structure Channel where
  cls : Nat
  idx : Nat
  words : List Word
  bound : Bool
  fromFolio : Bool
  deriving DecidableEq, Repr

/-- A pool slot whose generation is not 1 (R101); generation 4,096 marks a retired slot. -/
structure SlotGen where
  cls : Nat
  idx : Nat
  gen : Nat
  deriving DecidableEq, Repr

/-- One entry of the imposition sheet (R279), with the boundary of its last move and the places it left (R268). -/
structure SheetEntry where
  kind : Nat
  id : Nat
  cls : Nat
  pin : Bool
  foreign : Bool
  remote : Bool
  loop : Nat
  node : Nat
  place : Nat
  base : Nat
  size : Nat
  moves : Nat
  movedAt : Nat
  left : List (Nat × Nat)
  deriving DecidableEq, Repr

/-- STRUCT's fixed mark on the item of an entry (R263, R277). -/
def SheetEntry.fixed (e : SheetEntry) (c : FolioContent) : Bool :=
  !e.foreign &&
    match e.kind with
    | 1 => c.cores.any fun u => u.id == e.id && u.fixed.isSome
    | 2 => c.fabrics.any fun u => u.id == e.id && u.fixed.isSome
    | 3 => c.segments.any fun u => u.id == e.id && u.fixed.isSome
    | _ => false

/-- A force (R306): entry number, symbol, element, value, point and direction, type; whether the
owning class's LATCH has taken it in, whether it acts in the cycle that runs (R311), whether the next LATCH ends it
(R308), a value that the next LATCH puts in its place, and the quality of the source without it. -/
structure Force where
  entry : Nat
  sym : Nat
  elem : Nat
  value : Word
  word : Bool
  num : Nat
  cls : Nat
  out : Bool
  ty : Nat
  applied : Bool
  live : Bool
  ending : Bool
  next : Option Word
  srcq : Nat
  deriving DecidableEq, Repr

/-- A step or switch that a notice has announced (R457): a step of a domain by an amount, or a switch to a domain with the
ΔA that the acting manager has computed, in 10^−6 ns (none on the device that computes it itself, at the instant S). -/
inductive TimeChange where
  | step (dom : Nat) (by' : Int)
  | switch (dom : Nat) (delta : Option Int)
  deriving DecidableEq, Repr

/-- A change of time with its instant. -/
structure TimeNotice where
  at' : Nat
  change : TimeChange
  byCommand : Bool
  deriving DecidableEq, Repr

/-- The header of a spine or twin frame as a lane delivers it (R318), with the lane, the result of the trailer's CRC
check, and each field of words 0 to 2 that the receiver reads; `tref` is the instant, which the frame carries modulo
2^36. -/
structure FrameHead where
  lane : Nat
  crcOk : Bool
  src : Nat
  all : Bool
  dst : Nat
  seq : Nat
  tref : Nat
  cls : Nat
  west : Bool
  hops : Nat
  deriving DecidableEq, Repr

/-- What a TICK frame carries (R337): both domains at the instant in TREF, the active domain and the notices; and what
its receiver measures by it (R338 to R340): its offset in 0.25 ns and the hop count of its time path. -/
structure TickMsg where
  dom0 : Nat
  dom1 : Nat
  active : Nat
  notices : List TimeNotice
  offset : Int
  hops : Nat
  deriving DecidableEq, Repr

/-- What a STATUS frame carries (R319, R342, R26, R86, R94, R131, R273, R282): device state, whether a folio is in force,
whether a load has completed its second pass since the node last stood in STOP, the lanes that are up, whether time lock
has held for 2 ms, FOL_STAT.CAUSE, OLC_STAT.STATE and CAUSE, the ready report, the classes that latch there (R140), the
commit-check reports (the classes reported and those that had an overrun), and the works W per core and class, in
nanoseconds. -/
structure StatusMsg where
  state : Nat
  folio : Bool
  loaded : Bool
  lanes : Nat
  locked : Bool
  loadCause : Nat
  olcState : Nat
  olcCause : Nat
  ready : Bool
  latching : Nat
  checked : Nat
  overrun : Nat
  works : List (Nat × Nat × Nat)
  deriving DecidableEq, Repr

/-- The record that a node appends to a DISCOVER frame (R342), with the place at which discovery met it: its address by
position and MEMBER, its index from the acting manager and its hop count; `type` is the hardware type code. -/
structure NodeRecord where
  addr : Nat
  index : Nat
  hops : Nat
  serial : List Word
  state : Nat
  sysId : Nat
  folio : Bool
  runDigest : List Word
  reversed : Bool
  type : Word
  deriving DecidableEq, Repr

/-- A point's value and quality as a FEED, RETURN or TRKIN frame carries it. -/
structure PointValue where
  word : Bool
  global : Bool
  num : Nat
  value : Word
  qual : Nat
  deriving DecidableEq, Repr

/-- What a BULK frame delivers to its receiver (R319, R276, R301, R335): a piece of a folio, a tip-in once its last
piece has arrived, the code of a relocatable unit with its core here and the words of its segments, or the words of an update
image. -/
inductive BulkMsg where
  | folio (words : Nat) (last : Bool)
  | tipin (img : FolioImage)
  | code (unit : CoreUnit) (core : Nat) (data : List (Nat × List Word))
  | image (words : Nat)
  deriving DecidableEq, Repr

/-- What a REMOTE frame carries (R341): a request of a master of another device, or the answer to a request of a master
of this one (none: an error; an acknowledged store carries no value). A store that modifies a word in place keeps the bits of
`keep` and changes them by the value (R226). -/
inductive RemoteMsg where
  | read (addr : Nat)
  | write (addr : Nat) (value keep : Word)
  | answer (master ea : Nat) (store : Bool) (value : Option Word)
  deriving DecidableEq, Repr

/-- What a HEART frame carries (R351): device state, pair role, PSTATE, the departure flag with its TREF, and whether
the sender reaches the spine. -/
structure HeartMsg where
  state : Nat
  primary : Bool
  pstate : Nat
  departure : Option Nat
  reach : Bool
  deriving DecidableEq, Repr

/-- What an arm message prepares on both twins (R301). -/
inductive OlcAct where
  | switch | confirm | undo | discard
  deriving DecidableEq, Repr

/-- What the devices of a pair exchange at pairing (R355): serial, FAMILY, strap role and program digest. -/
structure PairId where
  serial : List Word
  family : Nat
  role : Nat
  digest : List Word
  deriving DecidableEq, Repr

/-- One item of a TRKCTL frame (R356); a commit decision is 0 COMMIT, 1 SKIP or 2 STRETCH (R131). -/
inductive TrkItem where
  | forces (table : List Force)
  | handles (channels : List Channel) (gens : List SlotGen)
  | released (on : Bool)
  | count (cls n : Nat)
  | olc (stat : Word) (digest : List Word)
  | sheet (entries : List SheetEntry)
  | decision (cls d : Nat)
  | store
  | leaveRun
  | switchAt (at' : Nat)
  deriving DecidableEq, Repr

/-- TAP instructions (R569). -/
inductive JtagInstr where
  | bypass | idcode | sample | extest | clamp | highz | debug
  deriving DecidableEq, Repr

/-- What the test access port is given: an instruction, and what a debugger scans in with it, a word address and the word of a
write (R569, R570). -/
structure JtagScan where
  instr : JtagInstr
  access : Option (BitVec 24 × Option Word)
  deriving DecidableEq, Repr

/-- The spaces of the PCIe endpoint (R545, R546). -/
inductive PcieSpace where
  | config | bar0 | bar2
  deriving DecidableEq, Repr

end Sys2Proof.Machine
end

