-- ==== Sys2Proof/Syntax.lean ====
section
/-!
DEFINITION. The commands of the LZ9: one constructor for each row of the command table. `master` is a master of R608
(0 to 7 the word cores, 8 the host, 9 the house controller, 10 the fabric, 11 the spine, 12 the twin link, 13 the
meter, 14 CAN, 15 Ethernet, 16 the field dies, 17 the debug unit), `port` a master's port, `core` a word core and
`cond` the predicate of its instruction; what a command takes from outside the device (a frame, a verified image, a
measured value) is its operand.
-/
namespace Sys2Proof
open Sys2Proof.Machine

/-- A command. -/
inductive Instr where
  /-- R40, R62: the required rails, PORST_N and PFAIL_N have been good for 2 ms; the strap levels, ROLE in bits 3:2.
  -/
  | powerUp (straps : Fin 16) (refRunning : Bool)
  /-- R43: VAON returns after VAON and VBAT were both absent. -/
  | aonPowerUp
  /-- R42: a required rail, numbered as in PWR_STAT.WARN, falls below its lost threshold. -/
  | railLost (rail : Fin 8)
  /-- R44: a good rail falls below its operating minimum. -/
  | railWarning (rail : Fin 8)
  /-- R55: PORST_N goes low. -/
  | porstAssert
  /-- R55: RST_N low for 1 µs. -/
  | rstNAssert
  /-- R57: PORST_N, or else RST_N, is released, with the strap levels then. -/
  | resetPinRelease (porst : Bool) (straps : Fin 16)
  /-- R55: the debug unit asks for a cold or a warm reset. -/
  | debugResetRequest (cold : Bool)
  /-- R58: the operation that held a warm reset has completed. -/
  | deferredResetProceed
  /-- R58: a deferral reaches 10 ms. -/
  | deferralExpiry
  /-- R49: no edge of the main reference for 1 µs. -/
  | mainReferenceLost
  /-- R63: the main reference has run for 5 ms. -/
  | mainReferenceStable
  /-- R48: no edge of the slow crystal for 4 slow-RC periods. -/
  | slowCrystalFail
  /-- R48: 32,768 good crystal cycles, at a grain boundary. -/
  | slowCrystalReturn
  /-- R52: after the last COMMIT. -/
  | corePllStop
  /-- R53: 40 µs before the next LATCH. -/
  | pllPrewake
  /-- R53: 20 µs after a restart without lock. -/
  | pllRelockLate
  /-- R54: an event trigger or an access needs the stopped core PLL. -/
  | pllWakeOnDemand
  /-- R530: step 6 of boot: what the colophon check finds, what the xSPI port shows, and what each slot holds. -/
  | secureStart (colophon : Fin 3) (offset : Nat) (flash : FlashPort) (slot0 slot1 : Option FlashImage)
  /-- a fatal fault of the housekeeping core. -/
  | houseFatalFault
  /-- the power fail is detected. -/
  | pfailDetect (pin : Bool)
  /-- R613: a low pulse of PFAIL_N shorter than 2 µs. -/
  | pfailGlitch
  /-- R65: the 1,000 µs commit window of step 3 ends. -/
  | pfailCommitWindowEnd
  /-- R65: step 8 of the power-fail sequence. -/
  | pfailComplete
  /-- R21: SYS_CMD START_COLD. -/
  | startCold (master : Fin 18)
  /-- R21: SYS_CMD START_WARM. -/
  | startWarm (master : Fin 18)
  /-- R33: SYS_CMD STOP. -/
  | stop (master : Fin 18)
  /-- R29: SYS_CMD RESET_WARM. -/
  | resetWarm (master : Fin 18)
  /-- R29: SYS_CMD RESET_COLD. -/
  | resetCold (master : Fin 18)
  /-- R32: SYS_CMD LEAVE_SAFE, with the offset that the master first writes to COL_SBADR, if it does. -/
  | leaveSafe (master : Fin 18) (ofs : Option (BitVec 16))
  /-- R114: a write to SYS_EXPERT with OP unlock step. -/
  | expertUnlockStep (master : Fin 18) (key : BitVec 12) (block : Fin 64)
  /-- R115: a write to SYS_EXPERT with OP relock. -/
  | expertRelock (master : Fin 18) (block : Fin 64)
  /-- R115: a write to SYS_EXPERT with OP RESTORE. -/
  | expertRestore (master : Fin 18) (block : Fin 64)
  /-- R610: the master, the word address of the register space, and the word written. -/
  | registerWrite (master : Fin 18) (addr : BitVec 17) (value : Word)
  /-- R14: a base tick's command frame, and whether the field die receives it as valid. -/
  | fieldCommandFrame (arrives : Bool)
  /-- R15: 32 base ticks without a valid command frame. -/
  | fieldLinkFallback
  /-- R373: a valid status frame, with output currents in mA, L+ voltages in 10 mV and pin readbacks. -/
  | fieldStatusFrame (amps volts : List Nat) (pins : BitVec 32)
  /-- R373: a status frame fails its check or does not arrive. -/
  | statusFrameMissing
  /-- R373: 32 consecutive ticks without a status frame. -/
  | dieLinkLost
  /-- R374: an L+ supply returns after all four were absent; the groups whose L+ is back. -/
  | fieldDiePowerUp (groups : BitVec 4)
  /-- FOL_CMD LOAD written by a master (R83). -/
  | folioLoad (master : Fin 18)
  /-- FOL_CMD CANCEL written by a master (R93). -/
  | folioCancel (master : Fin 18)
  /-- FOL_CMD FORWARD written by a master (R94). -/
  | folioForward (master : Fin 18)
  /-- The first pass ends: what the source delivered (R81). -/
  | firstPassDone (img : FolioImage)
  /-- The second pass ends, and whether its digest equals the first (R82). -/
  | secondPassDone (digestOk : Bool)
  /-- R88: a source fails, of this device's own load or of a delivery to a node (R87). -/
  | loadSourceFailure
  /-- 10 ms without a frame of the spine load (R86). -/
  | spineLoadTimeout
  /-- A listed worker reports STOP without a folio (R86), with the read of the shelf (R87). -/
  | shelfDelivery (node : Fin 128) (shelf : ShelfRead)
  /-- R106: HND_PCMD CREATE. -/
  | handleCreate (port : Port)
  /-- R106: HND_PCMD DESTROY. -/
  | handleDestroy (port : Port)
  /-- R106: HND_PCMD QUERY. -/
  | handleQuery (port : Port)
  /-- R107: the house core checks a port's command. -/
  | handleCheck (port : Port)
  /-- R109: a checked command's instant. -/
  | handleCommandEffect (port : Port)
  /-- R118: a grid instant of a class. -/
  | latch (cls : Cls)
  /-- R122: everything that GATHER waits for has arrived. -/
  | gatherComplete (cls : Cls)
  /-- R128: 5 µs + G after LATCH. -/
  | gatherDeadline (cls : Cls)
  /-- R122: passes and tasks of a class are over. -/
  | solveComplete (cls : Cls)
  /-- R122: everything outbound has been built. -/
  | scatterComplete (cls : Cls)
  /-- R128: O − K after LATCH. -/
  | commitCheck (cls : Cls)
  /-- R130: the check of a stretched COMMIT. -/
  | stretchCheck (cls : Cls)
  /-- R129: overrunning work has completed. -/
  | overrunWorkDone (cls : Cls)
  /-- R124: O after LATCH, or a stretched COMMIT. -/
  | commit (cls : Cls)
  /-- R131: the system's decision, issued here (none) or received: 0 COMMIT, 1 SKIP, 2 STRETCH. -/
  | commitDecision (cls : Cls) (msg : Option (FrameHead × Fin 3))
  /-- R140: STOP broadcast by a manager, issued here (none) or received. -/
  | stopBroadcast (head : Option FrameHead)
  /-- R133: a trigger of an event task. -/
  | eventTrigger (event : Fin 32)
  /-- R155: a write to CYC_ETSW. -/
  | softwareTrigger (mask : BitVec 32)
  /-- R136: the event task on a core exceeds its bound. -/
  | eventBoundExceeded (core : Fin 8)
  /-- R19: a connected debugger halts the device. -/
  | debugHalt
  /-- R152: a connected debugger resumes it. -/
  | debugResume
  /-- R165: a quire takes its next pass. -/
  | fabricPassStart (quire : Fin 8)
  /-- R161: the pass of a quire ends. -/
  | fabricPassComplete (quire : Fin 8)
  /-- R174: the planes of the quires named exchange. -/
  | planeSwitch (quires : BitVec 8)
  /-- R172: a port's write of a timer or counter preset, with the value. -/
  | presetWrite (port : Port) (value : Word)
  /-- R186: a write to FAB_CSEL. -/
  | probeSelect (port : Port) (what : Fin 8) (unit : Fin 512) (idx : Fin 32768)
  /-- R178: the condition of a reflex entry becomes 1. -/
  | reflexTrip (t : Fin 32)
  /-- R178: a write of 1 to a trip bit. -/
  | tripClear (t : Fin 32)
  /-- R182: a driven pin has read back wrong for 10 µs. -/
  | pinMismatch (pin : Fin 24)
  /-- R183: a scrubber's read: state bits or a word of the active or staged plane, what it finds (1 corrected, 2
  uncorrectable), and whether a round ends. -/
  | fabricScrub (quire : Fin 8) (stateBits staged : Bool) (offset : BitVec 18) (kind : Fin 3) (round : Bool)
  /-- R223: LDI loads a sign-extended 22-bit immediate into a general register. -/
  | ldi (core : Fin 8) (cond : Fin 16) (opnd : BitVec 26)
  /-- R223: LDIU loads an 18-bit immediate into the upper half of a general register. -/
  | ldiu (core : Fin 8) (cond : Fin 16) (opnd : BitVec 26)
  /-- R223: the modify does not apply to the register loaded. -/
  | lea (core : Fin 8) (cond : Fin 16) (opnd : BitVec 26) (lit : Word)
  /-- R223, R224: MFS reads a special register into a general register. -/
  | mfs (core : Fin 8) (cond : Fin 16) (opnd : BitVec 26)
  /-- R223, R224: a ring control that R198 excludes is refused, with the instruction's own address (R607). -/
  | mts (core : Fin 8) (cond : Fin 16) (opnd : BitVec 26)
  /-- R225: LD loads a word from memory into a general register. -/
  | ld (core : Fin 8) (cond : Fin 16) (opnd : BitVec 26) (lit : Word)
  /-- R225, R207: ST stores a general register to memory. -/
  | st (core : Fin 8) (cond : Fin 16) (opnd : BitVec 26) (lit : Word)
  /-- R225: LDH loads a half word with sign or zero extension. -/
  | ldh (core : Fin 8) (cond : Fin 16) (opnd : BitVec 26) (lit : Word)
  /-- R225, R226: STH indivisibly stores the lower 18 bits into a half of a memory word. -/
  | sth (core : Fin 8) (cond : Fin 16) (opnd : BitVec 26) (lit : Word)
  /-- R192, R225: the more significant word lies at the even address. -/
  | ldd (core : Fin 8) (cond : Fin 16) (opnd : BitVec 26) (lit : Word)
  /-- R192, R225, R207: STD stores a register pair to two words at an even address. -/
  | std (core : Fin 8) (cond : Fin 16) (opnd : BitVec 26) (lit : Word)
  /-- R225, R226: XADD sets the flags of the sum, and its V may trap (R195; log 30). -/
  | atom (core : Fin 8) (cond : Fin 16) (opnd : BitVec 26) (lit : Word)
  /-- R227, R228: ALU computes an integer, logic, shift, multiply, divide or Q35 function of two registers. -/
  | alu (core : Fin 8) (cond : Fin 16) (opnd : BitVec 26)
  /-- R227: ALUI computes an integer function of a register and a signed immediate. -/
  | alui (core : Fin 8) (cond : Fin 16) (opnd : BitVec 26)
  /-- R227: ALUM computes an integer function of a register and a memory word. -/
  | alum (core : Fin 8) (cond : Fin 16) (opnd : BitVec 26) (lit : Word)
  /-- R229: DALU performs D72 arithmetic on register pairs. -/
  | dalu (core : Fin 8) (cond : Fin 16) (opnd : BitVec 26)
  /-- R230, R231: FALU performs an F36 operation on registers. -/
  | falu (core : Fin 8) (cond : Fin 16) (opnd : BitVec 26)
  /-- R230, R231: FALUM performs an F36 operation with a memory operand. -/
  | falum (core : Fin 8) (cond : Fin 16) (opnd : BitVec 26) (lit : Word)
  /-- R232, R196: MAC performs an accumulator multiply, clear, add or extraction. -/
  | mac (core : Fin 8) (cond : Fin 16) (opnd : BitVec 26)
  /-- R234, R236: MACD multiplies two memory operands and adds the product to, or subtracts it from, an accumulator.
  -/
  | macd (core : Fin 8) (cond : Fin 16) (opnd : BitVec 26)
  /-- R237: BIT performs a bit operation on a register bit or the status word. -/
  | bit (core : Fin 8) (cond : Fin 16) (opnd : BitVec 26)
  /-- R237, R238, R604: BITM performs a bit operation on a memory bit, indivisibly for the write functions. -/
  | bitm (core : Fin 8) (cond : Fin 16) (opnd : BitVec 26) (lit : Word)
  /-- R239: BR branches to a PC-relative target. -/
  | br (core : Fin 8) (cond : Fin 16) (opnd : BitVec 26)
  /-- R239: CALL saves the return address in G15 and branches. -/
  | call (core : Fin 8) (cond : Fin 16) (opnd : BitVec 26)
  /-- R239: JMP jumps to a register address, optionally linking. -/
  | jmp (core : Fin 8) (cond : Fin 16) (opnd : BitVec 26)
  /-- R202, R240: REP starts a block repeat. -/
  | rep (core : Fin 8) (cond : Fin 16) (opnd : BitVec 26)
  /-- R203, R241: MOVS copies elements from X6 to X7 one at a time. -/
  | movs (core : Fin 8) (cond : Fin 16) (rest : BitVec 22)
  /-- R203, R241: FILL writes G13 to elements at X7. -/
  | fill (core : Fin 8) (cond : Fin 16) (rest : BitVec 22)
  /-- R203, R241: CMPS compares elements at X6 and X7 until they differ. -/
  | cmps (core : Fin 8) (cond : Fin 16) (rest : BitVec 22)
  /-- R203, R241: SCAN searches elements at X6 for G13. -/
  | scan (core : Fin 8) (cond : Fin 16) (rest : BitVec 22)
  /-- R242: NOP does nothing. -/
  | nop (core : Fin 8) (cond : Fin 16) (rest : BitVec 20)
  /-- R209, R242, R260: as a fence it reports a store error that is pending; in a handler it acts as TQUIT. -/
  | tend (core : Fin 8) (cond : Fin 16) (rest : BitVec 20)
  /-- R206, R242: TQUIT ends the faulting task and hands the fault to R139. -/
  | tquit (core : Fin 8) (cond : Fin 16) (rest : BitVec 20)
  /-- R206, R242: ILLEGAL at execution unless TCAUSE[5:0] names OVF. -/
  | rtt (core : Fin 8) (cond : Fin 16) (rest : BitVec 20)
  /-- R208, R242: halts every core when a debugger is connected, and is a no-operation otherwise. A store error that
  is pending is taken in place of the DEBUG trap (R207). Within a handler the DEBUG trap is a double trap as well;
  R205 gives it no TVAL, so that is a free value (log 2). -/
  | debug (core : Fin 8) (cond : Fin 16) (rest : BitVec 20)
  /-- R218, R219: An instruction word with an unassigned major opcode traps ILLEGAL. -/
  | unassignedOpcode (core : Fin 8) (word : Word)
  /-- R262: earlier accesses are in flight still, or not. -/
  | fenceC (core : Fin 8) (cond : Fin 16) (word : FenceWord)
  /-- R262: earlier accesses are in flight still, or not. -/
  | fenceD (core : Fin 8) (cond : Fin 16) (word : FenceWord)
  /-- R262: earlier accesses of the device are in flight still, or not. -/
  | fenceS (core : Fin 8) (cond : Fin 16) (word : FenceWord)
  /-- R244: A fence still waiting after its time limit traps FENCE_TIMEOUT. -/
  | fenceTimeout (core : Fin 8)
  /-- R164, R245, R246: FCALL requests a pass of a unit and waits for it to complete. -/
  | fcall (core : Fin 8) (cond : Fin 16) (unit : BitVec 9) (rest : BitVec 15)
  /-- R164, R245: FCALLP requests a pass of a unit and continues. -/
  | fcallp (core : Fin 8) (cond : Fin 16) (unit : BitVec 9) (rest : BitVec 15)
  /-- R164, R245, R246: FWAIT waits for every pass posted by the task. -/
  | fwait (core : Fin 8) (cond : Fin 16) (unit : BitVec 9) (rest : BitVec 15)
  /-- R247: HCMD CREATE writes HND_PARG and issues CREATE on the core's port, and waits unless posted. -/
  | hcmdCreate (core : Fin 8) (cond : Fin 16) (d a : Fin 16) (post : Bool) (rest : BitVec 15)
  /-- R247: HCMD DESTROY issues DESTROY on the core's port. -/
  | hcmdDestroy (core : Fin 8) (cond : Fin 16) (d a : Fin 16) (post : Bool) (rest : BitVec 15)
  /-- R247: HCMD QUERY issues QUERY on the core's port. -/
  | hcmdQuery (core : Fin 8) (cond : Fin 16) (d a : Fin 16) (post : Bool) (rest : BitVec 15)
  /-- R247, R248: A and POST must be 0. -/
  | hwait (core : Fin 8) (cond : Fin 16) (d a : Fin 16) (post : Bool) (rest : BitVec 15)
  /-- R207: the error of a retired store, which the core holds pending, arrives; it traps at the next point of R222,
  which the wait for a remote word is not. -/
  | storeError (core : Fin 8)
  /-- R206: ZC_XHLIM core clocks of a handler's own execution. -/
  | handlerLimit (core : Fin 8)
  /-- R256: a bank's scrubber reads a word and finds no error, a correctable or an uncorrectable one. -/
  | memoryScrub (addr : BitVec 24) (kind : Fin 3)
  /-- R267: a cycle boundary, with an improvement's trigger and its moves, or 0 and none. -/
  | imposerSearch (trig : Fin 16) (proposal : Proposal)
  /-- R269: the boundary of a prepared change. -/
  | placementSwitch (check : SwitchCheck)
  /-- R277: a write to IMP_XPINe. -/
  | imposerPinWrite (entry : Fin 2048) (value : Word)
  /-- OLC_CMD STAGE written by a master, with the tip-in that the bus-master reads deliver (R282). -/
  | olcStage (master : Fin 18) (img : Option FolioImage)
  /-- OLC_CMD FORWARD written by a master (R282). -/
  | olcForward (master : Fin 18)
  /-- R285: staging completes. -/
  | stagingDone
  /-- The background copy moves the carried values (R285). -/
  | backgroundCopy
  /-- OLC_CMD ARM with AT, written by a master (R286). -/
  | olcArm (master : Fin 18) (at' : Bool)
  /-- The gap of a cycle boundary, with a switch armed (R287, R289). -/
  | olcSwitch
  /-- OLC_CMD CONFIRM written by a master (R297). -/
  | olcConfirm (master : Fin 18)
  /-- The cycle boundary of a confirmation (R297). -/
  | olcConfirmApply
  /-- OLC_CMD UNDO written by a master (R298). -/
  | olcUndo (master : Fin 18)
  /-- A cycle boundary with an undo due (R298). -/
  | olcUndoApply
  /-- OLC_CMD DISCARD written by a master (R285). -/
  | olcDiscard (master : Fin 18)
  /-- UNDOT seconds have passed unconfirmed (R299). -/
  | undotExpiry
  /-- An arm message: issued here (none), or received with its action and boundary in base ticks (R301). -/
  | armMessage (msg : Option (FrameHead × OlcAct × Nat))
  /-- The standby's acknowledgement of a boundary (R301). -/
  | armAcknowledge (head : FrameHead) (boundary : Nat)
  /-- GO reaches the standby (R301). -/
  | goMessage (head : FrameHead)
  /-- R301: no GO in time. -/
  | goTimeout
  /-- FRC_PCMD SET written by the master of a port (R306 to R308). -/
  | forceSet (port : Port)
  /-- FRC_PCMD CLEAR written by the master of a port (R308). -/
  | forceClear (port : Port)
  /-- FRC_PCMD CLEARALL written by the master of a port (R308). -/
  | forceClearall (port : Port)
  /-- FRC_PCMD READ written by the master of a port (R307). -/
  | forceRead (port : Port)
  /-- R337: a TICK frame arrives. -/
  | tickFrame (head : FrameHead) (msg : TickMsg)
  /-- R319: a STATUS frame arrives. -/
  | statusFrame (head : FrameHead) (msg : StatusMsg)
  /-- R342: a DISCOVER frame arrives with the records appended so far. -/
  | discoverFrame (head : FrameHead) (records : List NodeRecord)
  /-- R343: discovery completes and the checks are made. -/
  | discoveryEnd
  /-- R342: discovery repeats. -/
  | discoveryRepeat
  /-- R330: a GATHER frame arrives. -/
  | gatherFrame (head : FrameHead) (payload : List Word)
  /-- R331: a SCATTER frame arrives. -/
  | scatterFrame (head : FrameHead) (payload : List Word)
  /-- R274: the inputs of a relocatable unit arrive. -/
  | feedFrame (head : FrameHead) (unit : Nat) (points : List PointValue)
  /-- R274: the outputs of a remote unit arrive, with its data segments by number. -/
  | returnFrame (head : FrameHead) (unit : Nat) (points : List PointValue) (data : List (Nat × List Word))
  /-- R332: a barrier completes, issued here (none) or received. -/
  | barrierCompletion (cls : Cls) (head : Option FrameHead)
  /-- R344: issued here (none), or received with the start instant and whether the mode is COLD. -/
  | startBroadcast (msg : Option (FrameHead × Nat × Bool))
  /-- R344: the start timeout expires. -/
  | startTimeout
  /-- R26: issued here (none), or received with the release instant. -/
  | releaseBroadcast (msg : Option (FrameHead × Nat))
  /-- R319: a BULK frame arrives. -/
  | bulkFrame (head : FrameHead) (msg : BulkMsg)
  /-- R341: a remote request or answer arrives. -/
  | remoteFrame (head : FrameHead) (msg : RemoteMsg)
  /-- R341: RTIME expires for the oldest access of a master. -/
  | remoteTimeout (master : Fin 9)
  /-- R320: a passing frame is forwarded. -/
  | frameForward (head : FrameHead)
  /-- R338: the link delay measured on a lane. -/
  | delayExchange (lane : Fin 4) (delay : BitVec 16)
  /-- R321: a spine lane, or twin lane 4 or 5, goes down; the hop count of a changed time path. -/
  | laneDown (lane : Fin 6) (path : Option Nat)
  /-- R321: a lane returns to service. -/
  | laneRestored (lane : Fin 6) (path : Option Nat)
  /-- R325: the acting manager declares a node lost. -/
  | nodeLost (node : Fin 128)
  /-- R326: no lane, or no TICK for three base ticks. -/
  | workerIsolated
  /-- R326: ISOLIM ms of isolation. -/
  | isolimExpiry
  /-- R327: admission of a node, issued here (none) or received. -/
  | nodeAdmission (node : Fin 128) (head : Option FrameHead)
  /-- R334: a snapshot instant, of PERIOD's grid or of SPN_SNAPT. -/
  | snapshot (grid : Bool)
  /-- R334: the snapshot copy is complete. -/
  | snapshotDone
  /-- R336: SPN_GOP BCAST by a master (none), or the words received. -/
  | bcast (master : Fin 18) (msg : Option (FrameHead × Vector Word 4))
  /-- R335: SPN_GOP RESET_WARM by a master (none), or received with its instant. -/
  | spineResetWarm (master : Fin 18) (msg : Option (FrameHead × Nat))
  /-- R335: SPN_GOP RESET_COLD by a master (none), or received with its instant. -/
  | spineResetCold (master : Fin 18) (msg : Option (FrameHead × Nat))
  /-- R335: the instant that a reset broadcast named. -/
  | resetInstant
  /-- R352: 2 µs before a multiple of 10 µs. -/
  | heartSend
  /-- R352: a heartbeat arrives. -/
  | heartFrame (head : FrameHead) (msg : HeartMsg)
  /-- R352: no valid heartbeat by instant g. -/
  | heartbeatMiss
  /-- R354: WAIT expires in LOAD. -/
  | pairWaitTimeout
  /-- R355: the partner's identity. -/
  | pairingCheck (peer : PairId)
  /-- R357: tracked inputs arrive. -/
  | trkinFrame (head : FrameHead) (points : List PointValue)
  /-- R356: logged writes arrive, of a class (bound) or of none; last completes the cycle's log. -/
  | trklogFrame (head : FrameHead) (bound : Bool) (runs : List (Nat × List Word)) (last : Bool)
  /-- R356: tracked control state arrives. -/
  | trkctlFrame (head : FrameHead) (items : List TrkItem)
  /-- R358: the primary's output digest arrives. -/
  | digestFrame (head : FrameHead) (digest : BitVec 32)
  /-- R362: the takeover instant. -/
  | takeover
  /-- R361: a yielding primary stops. -/
  | primaryYield
  /-- R365: TWN_CMD SWITCH. -/
  | twinSwitch (master : Fin 18)
  /-- R365: the major LATCH of an ordered switchover. -/
  | switchover
  /-- R19: TWN_CMD WITHDRAW. -/
  | twinWithdraw (master : Fin 18)
  /-- R366: copy words sent here (none), or received. -/
  | resyncCopy (msg : Option (FrameHead × List Word))
  /-- R367: a boundary with the fabric copy due (none), or the state received. -/
  | fabricStateCopy (msg : Option (FrameHead × List UnitSt))
  /-- R368: 1 s after a withdrawal. -/
  | autorejoin
  /-- R378: the raw level of an input has held a new value. -/
  | inputFilterAccept (ch : Fin 32) (raw : RawLevel)
  /-- R380: below 0.30 mA for 10 ms. -/
  | wireBreak (ch : Fin 32)
  /-- R380: 0.45 mA or more for 10 ms. -/
  | wireBreakEnd (ch : Fin 32)
  /-- R382: a qualified edge of a counter input. -/
  | counterEdge (ch : Fin 32) (rising : Bool)
  /-- R386: a thermal cycle completes. -/
  | thermalCycle (ch : Fin 32)
  /-- R386: 100 ms out of current limit. -/
  | tcntReset (ch : Fin 32)
  /-- R385: a group's sum above 3.0 A for 20 ms, with the channel of the largest current. -/
  | groupOverload (ch : Fin 32)
  /-- R385: an off stage with its pin above 12 V for 1 ms. -/
  | externalFeed (ch : Fin 32)
  /-- R385: the pin below 8 V for 1 ms. -/
  | externalFeedEnd (ch : Fin 32)
  /-- R385: an on stage below 2 mA for FIO_XOLT. -/
  | openLoad (ch : Fin 32)
  /-- R389: below 18.0 V for 1 ms. -/
  | lplusLow (group : Fin 4)
  /-- R389: 18.5 V or above for 1 ms. -/
  | lplusLowEnd (group : Fin 4)
  /-- R389: below 14.0 V for 100 µs. -/
  | lplusMissing (group : Fin 4)
  /-- R389: above 18.0 V after L+ missing. -/
  | recoveryBegin (group : Fin 4)
  /-- R389: 10 ms above 18.0 V. -/
  | recoveryEnd (group : Fin 4)
  /-- R390: a write to FIO_ACK. -/
  | fieldAck (mask : BitVec 4)
  /-- R386: a write to FIO_LACK. -/
  | latchRestart (mask : BitVec 32)
  /-- R395: a write to FIO_TEST. -/
  | frontEndTest (mask : BitVec 32)
  /-- R395: the 1 ms of the tests end; the channels that failed. -/
  | testDone (fails : BitVec 32)
  /-- R401: a sample of an input as a Q35 fraction of full scale, and whether its ones density was out of range. -/
  | modulatorSample (input : Fin 24) (raw : Word) (ovr : Bool)
  /-- R400: equal bits in a row or no clock edge. -/
  | modulatorInputFault (input : Fin 24)
  /-- R400: 10 ms without a fault condition. -/
  | modulatorFaultEnd (input : Fin 24)
  /-- R407: a line cycle of a channel ends. -/
  | lineCycleEnd (ch : Fin 24) (means : CycleMeans)
  /-- R414: KSAVE has passed. -/
  | meterCommit
  /-- R415: the demand interval of a MTR or PQC channel ends. -/
  | demandIntervalEnd (pqc : Bool) (ch : Fin 64)
  /-- R422: a rising edge of a fast pin. -/
  | pqcPinEdge (pin : Fin 24)
  /-- R423: LOAD has completed. -/
  | meterStart
  /-- R411: a read of MTR_TFIFO. -/
  | tfifoRead
  /-- R426: a read of MTR_AL. -/
  | accumulatorRead (port : Port)
  /-- R435: a frame has been received. -/
  | canFrameReceived (ctrl : Fin 4) (heard : CanHeard)
  /-- R440: a transmitted frame completes. -/
  | canFrameSent (sent : CanDone)
  /-- R440: an attempt loses arbitration or meets an error. -/
  | canTxError (ctrl : Fin 4) (cause : CanTxError)
  /-- R441: CAN_PCMD TXREQ. -/
  | txreq (port : Port)
  /-- R441: CAN_PCMD CANCEL, and whether start-of-frame has been sent. -/
  | cancel (port : Port) (started : Bool)
  /-- R443: 128 runs of 11 recessive bits. -/
  | busoffRecovery (ctrl : Fin 4)
  /-- R443: a write of RECOVER. -/
  | recover (ctrl : Fin 4)
  /-- R444: the frame in progress ends after a write of MODE sleep. -/
  | canSleep (ctrl : Fin 4)
  /-- R444: a wake condition, with its frame under FRAME. -/
  | canWake (ctrl : Fin 4) (wake : CanWaking)
  /-- R432: a write to CAN_BRn. -/
  | canRateWrite (master : Fin 18) (ctrl : Fin 4) (value : Word)
  /-- R449: the bus is idle after a timing write. -/
  | canTimingApply (ctrl : Fin 4)
  /-- R459: a PTP or gPTP message, with the measured offset from the source in 0.25 ns, the UTC offset of an Announce,
  and whether this device is grandmaster. -/
  | ptpMessage (dom : Fin 2) (offset : Int) (utc : Option (BitVec 16)) (gm : Bool)
  /-- R453: a domain loses its source. -/
  | sourceLoss (dom : Fin 2)
  /-- R453: HOLDLIM seconds in HOLDOVER. -/
  | holdoverExpiry (dom : Fin 2)
  /-- R456: NTM_CMD SWITCH. -/
  | switch (master : Fin 18) (dom : Fin 2)
  /-- R457: NTM_CMD SET. -/
  | set (master : Fin 18) (dom : Fin 2)
  /-- R457: the instant S of the earliest notice. -/
  | timeNoticeApply
  /-- R456: ΔA reaches 0. -/
  | slewDone
  /-- R462: a TMR channel expires. -/
  | tmrExpiry (idx : Fin 256)
  /-- R463: an edge at a TMR channel's input. -/
  | tmrCapture (idx : Fin 256) (rising : Bool)
  /-- R476: a write of 1 to NTM_PSNAP.TAKE. -/
  | timeSnapshot (port : Port)
  /-- R466: a read of RTC_SNAP. -/
  | rtcSnap
  /-- R467: RTC_CMD.APPLY. -/
  | apply
  /-- R468: RTC_CMD.SHIFT. -/
  | shift
  /-- R472: RTC_CMD.ARM. -/
  | arm
  /-- R472: RTC_CMD.DISARM. -/
  | disarm
  /-- R469: a second of the calendar ends. -/
  | calendarRollover
  /-- R472: the calendar has reached the alarm instant. -/
  | alarmFire
  /-- R473: PERIOD grains have passed. -/
  | periodicWake
  /-- R471: the comparison of each calendar second. -/
  | calendarSync
  /-- R479: a write to WDG_SVC. -/
  | watchdogService (master : Fin 18) (token : BitVec 12)
  /-- R481: a write to WDG_CHK. -/
  | watchdogCheckin (master : Fin 18) (slot : Fin 16) (token : BitVec 12)
  /-- R479: grain CLOSE begins. -/
  | windowClose
  /-- R493: a master writes STORE to RET_CMD. -/
  | retainStoreCmd (master : Fin 18)
  /-- R490: a waiting store's trigger instant. -/
  | retainStoreStart
  /-- R492: PERIOD after the last completed store. -/
  | periodicStore
  /-- R492: MINIV seconds after the last completed store. -/
  | minivExpiry
  /-- R490: the mark is written and read back; whether it passed, and the store's duration. -/
  | retainStoreDone (ok : Bool) (micros : BitVec 16)
  /-- R499: the array absorbs one buffered write. -/
  | keeperAbsorb
  /-- R501: a group commit completes. -/
  | wideCounterCommit
  /-- R508: KPR_PCMD STAGE. -/
  | stage (port : Port)
  /-- R508: KPR_PCMD COMMIT. -/
  | commitGroup (port : Port)
  /-- R508: KPR_PCMD ADD. -/
  | add (port : Port)
  /-- R503: a read of KPR_PVL. -/
  | keeperValueRead (port : Port)
  /-- R512: a report reaches its store. -/
  | reportAccept (toJournal : Bool) (code source : BitVec 8) (d0 d1 : Word)
  /-- R512: the keeper writes one record. -/
  | recordWrite
  /-- R513: 100 ms after the first occurrence of a held record. -/
  | heldRecordRelease (toJournal : Bool)
  /-- R517: EVR_CMD CLEAR, with the offset that the master first writes to COL_SBADR, if it does. -/
  | clear (master : Fin 18) (ofs : Option (BitVec 16))
  /-- R519: EVR_PCMD NEXT. -/
  | next (port : Port)
  /-- R519: EVR_PCMD MARK. -/
  | mark (port : Port)
  /-- R519: EVR_PCMD WRITE. -/
  | write (port : Port)
  /-- R525: COL_CMD CLAIM. -/
  | claim (master : Fin 18)
  /-- R526: COL_CMD EXEC over a block of OP INSTALL, with the offset that the master first writes to COL_SBADR, if it
  does. -/
  | install (master : Fin 18) (ofs : Option (BitVec 16))
  /-- R526: COL_CMD EXEC over a block of OP REVOKE, with the offset that the master first writes to COL_SBADR, if it
  does. -/
  | revoke (master : Fin 18) (ofs : Option (BitVec 16))
  /-- R526: COL_CMD EXEC over a block of OP SETPOL, with the offset that the master first writes to COL_SBADR, if it
  does. -/
  | setpol (master : Fin 18) (ofs : Option (BitVec 16))
  /-- R543: COL_CMD ATTEST, with the nonce that the master first writes to COL_ANONCE, if it does. -/
  | attest (master : Fin 18) (nonce : Option (Vector (BitVec 32) 8))
  /-- R540: UPD_CMD WRITE. -/
  | updWrite (master : Fin 18) (keepFolio : Bool)
  /-- R540: the slot read back, or a fault, 1 of the transfer and 2 of the flash. -/
  | slotWriteDone (fault : Fin 3) (img : Option FlashImage)
  /-- R540: UPD_CMD FOLWRITE with the folio read, none where that fails. -/
  | folwrite (master : Fin 18) (slot : Fin 2) (img : Option FolioImage)
  /-- R540: UPD_CMD FOLWRITE with SHELF 1, and the words that the transfer brings, none where it fails. -/
  | shelfWrite (master : Fin 18) (slot : Fin 2) (shelf : Option (List Word))
  /-- R542: UPD_CMD DISTRIBUTE with the image read. -/
  | distribute (master : Fin 18) (self : Bool) (img : Option FlashImage)
  /-- R542: a chunk with its bytes, or a node's report, arrives. -/
  | distributeChunk (head : FrameHead) (msg : ChunkMsg)
  /-- R542: 10 ms without credit. -/
  | creditTimeout (node : Fin 128)
  /-- R536: UPD_CMD ACTIVATE. -/
  | activate (master : Fin 18)
  /-- R539: UPD_CMD REJECT. -/
  | reject (master : Fin 18)
  /-- R540: UPD_CMD CANCEL. -/
  | updCancel (master : Fin 18)
  /-- R538: the firmware confirms its trial. -/
  | trialConfirm (testsOk : Bool)
  /-- R539: TRIALMAX expires. -/
  | trialmaxExpiry
  /-- R547: A host PCIe access is served. -/
  | pcieAccess (space : PcieSpace) (slot : BitVec 24) (first : Fin 8) (count : Fin 9) (data : Option (BitVec 64))
  /-- R56: PCI_PERST_N resets the endpoint. -/
  | pciPerst (low : Bool)
  /-- R549: the mask of vectors 24 to 31. -/
  | softwareInterrupt (mask : BitVec 8)
  /-- R550: A mirror-port read cycle returns a word. -/
  | mirrorRead (addr : BitVec 22)
  /-- R550: A mirror-port write cycle writes a word. -/
  | mirrorWrite (addr : BitVec 22) (value : Word)
  /-- R553: A copy completes and the planes exchange. -/
  | mirrorFlip
  /-- R554: a mirror-port write to the HOLD word. -/
  | mirrorHold (value : Word)
  /-- R554: HOLD is cleared after 10 ms. -/
  | holdExpiry
  /-- R555: a mirror-port write to the doorbell word. -/
  | doorbell (value : Word)
  /-- R555: a word core writes the reply doorbell. -/
  | replyDoorbell (core : Fin 8) (value : Word)
  /-- R557: a link comes up at a speed or goes down. -/
  | ethLinkChange (port : Fin 2) (up : Bool) (speed : Fin 4)
  /-- R557: an ARP or ICMP echo request for an IPv4 address. -/
  | arpIcmpRequest (port : Fin 2) (target : BitVec 32)
  /-- R566: a station frame arrives. -/
  | stationInFrame (port : Fin 2) (frame : StationFrame)
  /-- R566: no valid IN for TMO. -/
  | stationDrop (idx : Fin 256)
  /-- R564: a class period in STOP, SAFE or HALT. -/
  | keepAlive (cls : Cls)
  /-- R569: the instruction, and what a debugger scans in with it: a word address, and the word of a write. -/
  | jtagInstruction (scan : JtagScan)
  /-- R570: accepted while ENABLE is 1. -/
  | debugUartInput (byte : BitVec 8)
  /-- R44: VBAT falls below 2.1 V or goes absent. -/
  | vbatLow
  /-- R53: the restarted core PLL locks within 20 µs. -/
  | corePllLocked
  /-- R178: the level of a fast pin changes. -/
  | fastPinEdge (pin : Fin 24) (level : Bool)
  /-- R445: 11 recessive bits. -/
  | canBusIntegration (ctrl : Fin 4)
  /-- R442: a receive error with its LEC code, and whether the bit after the error flag was dominant. -/
  | canRxError (ctrl : Fin 4) (lec : Fin 7) (dominant : Bool)
  /-- R545: speed and width coded as in PCI_STAT. -/
  | pcieLinkChange (up : Bool) (speed width : Fin 4)
  /-- R467: a grain boundary. -/
  | grainBoundary
  /-- R344: the instant that the start broadcast named. -/
  | startInstant
  /-- R114: 100 µs without the second write. -/
  | expertUnlockTimeout
  /-- R55: TRST_N low resets the test access port alone; IDCODE is the instruction of a reset TAP. -/
  | tapReset
  /-- R557: a frame that the port does not carry, or one whose check fails. -/
  | ethFrameDiscard (port : Fin 2) (crc : Bool)
  /-- R559: a ring frame that is not for this node. -/
  | hsrRingForward (port : Fin 2) (src : BitVec 48) (seq : BitVec 16)
  /-- R560: an interval of the gate control list ends. -/
  | gateControlEntry (port : Fin 2)
  deriving DecidableEq, Repr

end Sys2Proof
end

