-- ==== Sys2Proof/Decode.lean ====
section
/-!
DEFINITION. The commands as words: the command table gives no row any bits, so no word spells a command of the table. The
instructions of a word core have words of their own (R214 to R219, R239 to R247), read and written here.
-/
namespace Sys2Proof
open Sys2Proof.Machine

/-- The command that the `nbits` bits of `w` spell in the command table: none, since its rows have no bits. -/
def decodeTableWord (_nbits _w : Nat) : Option Instr := none

/-- A SYS word, major 1 (R242). -/
def decodeSys (core : Fin 8) (cond : Fin 16) (w : Word) : Instr :=
  let rest := w.extractLsb' 0 20
  match bitsOf w 20 6 with
  | 0 => .nop core cond rest
  | 1 => .tend core cond rest
  | 2 => .tquit core cond rest
  | 3 => .rtt core cond rest
  | 4 => .debug core cond rest
  | _ => .unassignedOpcode core w

/-- A string word, major 36 (R241). -/
def decodeString (core : Fin 8) (cond : Fin 16) (w : Word) : Instr :=
  let rest := w.extractLsb' 0 22
  match bitsOf w 22 4 with
  | 0 => .movs core cond rest
  | 1 => .fill core cond rest
  | 2 => .cmps core cond rest
  | 3 => .scan core cond rest
  | _ => .unassignedOpcode core w

/-- A fence word, major 40 (R243). -/
def decodeFence (core : Fin 8) (cond : Fin 16) (w : Word) (inFlight : Bool) : Instr :=
  let rest := w.extractLsb' 0 24
  match bitsOf w 24 2 with
  | 1 => .fenceC core cond ⟨rest, inFlight⟩
  | 2 => .fenceD core cond ⟨rest, inFlight⟩
  | 3 => .fenceS core cond ⟨rest, inFlight⟩
  | _ => .unassignedOpcode core w

/-- A fabric call word, major 41 (R245). -/
def decodeFabric (core : Fin 8) (cond : Fin 16) (w : Word) : Instr :=
  let unit := w.extractLsb' 17 9
  let rest := w.extractLsb' 0 15
  match bitsOf w 15 2 with
  | 0 => .fcall core cond unit rest
  | 1 => .fcallp core cond unit rest
  | 2 => .fwait core cond unit rest
  | _ => .unassignedOpcode core w

/-- A handle word, major 42 (R247). -/
def decodeHandle (core : Fin 8) (cond : Fin 16) (w : Word) : Instr :=
  let d := Fin.ofNat 16 (bitsOf w 22 4)
  let a := Fin.ofNat 16 (bitsOf w 18 4)
  let post := w.getLsbD 15
  let rest := w.extractLsb' 0 15
  match bitsOf w 16 2 with
  | 0 => .hcmdCreate core cond d a post rest
  | 1 => .hcmdDestroy core cond d a post rest
  | 2 => .hcmdQuery core cond d a post rest
  | _ => .hwait core cond d a post rest

/-- The instruction of a word core that a word spells (R214, R217), with the literal word behind it and, for a fence, whether
earlier accesses are in flight. An unassigned major or function is the row of R218. -/
def decodeCore (core : Fin 8) (w lit : Word) (inFlight : Bool) : Instr :=
  let cond := Fin.ofNat 16 (bitsOf w 32 4)
  let o := w.extractLsb' 0 26
  match bitsOf w 26 6 with
  | 1 => decodeSys core cond w
  | 2 => .mfs core cond o
  | 3 => .mts core cond o
  | 4 => .ldi core cond o
  | 5 => .ldiu core cond o
  | 6 => .lea core cond o lit
  | 8 => .ld core cond o lit
  | 9 => .st core cond o lit
  | 10 => .ldh core cond o lit
  | 11 => .sth core cond o lit
  | 12 => .ldd core cond o lit
  | 13 => .std core cond o lit
  | 14 => .atom core cond o lit
  | 16 => .alu core cond o
  | 17 => .alui core cond o
  | 18 => .alum core cond o lit
  | 19 => .dalu core cond o
  | 20 => .falu core cond o
  | 21 => .falum core cond o lit
  | 24 => .mac core cond o
  | 25 => .macd core cond o
  | 26 => .bit core cond o
  | 27 => .bitm core cond o lit
  | 32 => .br core cond o
  | 33 => .call core cond o
  | 34 => .jmp core cond o
  | 35 => .rep core cond o
  | 36 => decodeString core cond w
  | 40 => decodeFence core cond w inFlight
  | 41 => decodeFabric core cond w
  | 42 => decodeHandle core cond w
  | _ => .unassignedOpcode core w

/-- The word of a condition, a major opcode and operand bits (R214). -/
def coreWordOf (cond : Fin 16) (major : Nat) (o : BitVec 26) : Word :=
  BitVec.ofNat 4 cond.val ++ BitVec.ofNat 6 major ++ o

/-- The operand bits of a handle word (R247). -/
def handleBits (d a : Fin 16) (fn : Nat) (post : Bool) (rest : BitVec 15) : BitVec 26 :=
  BitVec.ofNat 4 d.val ++ BitVec.ofNat 4 a.val ++ BitVec.ofNat 2 fn ++ BitVec.ofBool post ++ rest

/-- The first word of a word core's instruction; none for a command that is no such instruction. -/
def coreWord (i : Instr) : Option Word :=
  match i with
  | .nop _ cond rest => some (coreWordOf cond 1 (BitVec.ofNat 6 0 ++ rest))
  | .tend _ cond rest => some (coreWordOf cond 1 (BitVec.ofNat 6 1 ++ rest))
  | .tquit _ cond rest => some (coreWordOf cond 1 (BitVec.ofNat 6 2 ++ rest))
  | .rtt _ cond rest => some (coreWordOf cond 1 (BitVec.ofNat 6 3 ++ rest))
  | .debug _ cond rest => some (coreWordOf cond 1 (BitVec.ofNat 6 4 ++ rest))
  | .mfs _ cond o => some (coreWordOf cond 2 o)
  | .mts _ cond o => some (coreWordOf cond 3 o)
  | .ldi _ cond o => some (coreWordOf cond 4 o)
  | .ldiu _ cond o => some (coreWordOf cond 5 o)
  | .lea _ cond o _ => some (coreWordOf cond 6 o)
  | .ld _ cond o _ => some (coreWordOf cond 8 o)
  | .st _ cond o _ => some (coreWordOf cond 9 o)
  | .ldh _ cond o _ => some (coreWordOf cond 10 o)
  | .sth _ cond o _ => some (coreWordOf cond 11 o)
  | .ldd _ cond o _ => some (coreWordOf cond 12 o)
  | .std _ cond o _ => some (coreWordOf cond 13 o)
  | .atom _ cond o _ => some (coreWordOf cond 14 o)
  | .alu _ cond o => some (coreWordOf cond 16 o)
  | .alui _ cond o => some (coreWordOf cond 17 o)
  | .alum _ cond o _ => some (coreWordOf cond 18 o)
  | .dalu _ cond o => some (coreWordOf cond 19 o)
  | .falu _ cond o => some (coreWordOf cond 20 o)
  | .falum _ cond o _ => some (coreWordOf cond 21 o)
  | .mac _ cond o => some (coreWordOf cond 24 o)
  | .macd _ cond o => some (coreWordOf cond 25 o)
  | .bit _ cond o => some (coreWordOf cond 26 o)
  | .bitm _ cond o _ => some (coreWordOf cond 27 o)
  | .br _ cond o => some (coreWordOf cond 32 o)
  | .call _ cond o => some (coreWordOf cond 33 o)
  | .jmp _ cond o => some (coreWordOf cond 34 o)
  | .rep _ cond o => some (coreWordOf cond 35 o)
  | .movs _ cond rest => some (coreWordOf cond 36 (BitVec.ofNat 4 0 ++ rest))
  | .fill _ cond rest => some (coreWordOf cond 36 (BitVec.ofNat 4 1 ++ rest))
  | .cmps _ cond rest => some (coreWordOf cond 36 (BitVec.ofNat 4 2 ++ rest))
  | .scan _ cond rest => some (coreWordOf cond 36 (BitVec.ofNat 4 3 ++ rest))
  | .fenceC _ cond ⟨rest, _⟩ => some (coreWordOf cond 40 (BitVec.ofNat 2 1 ++ rest))
  | .fenceD _ cond ⟨rest, _⟩ => some (coreWordOf cond 40 (BitVec.ofNat 2 2 ++ rest))
  | .fenceS _ cond ⟨rest, _⟩ => some (coreWordOf cond 40 (BitVec.ofNat 2 3 ++ rest))
  | .fcall _ cond unit rest => some (coreWordOf cond 41 (unit ++ BitVec.ofNat 2 0 ++ rest))
  | .fcallp _ cond unit rest => some (coreWordOf cond 41 (unit ++ BitVec.ofNat 2 1 ++ rest))
  | .fwait _ cond unit rest => some (coreWordOf cond 41 (unit ++ BitVec.ofNat 2 2 ++ rest))
  | .hcmdCreate _ cond d a post rest => some (coreWordOf cond 42 (handleBits d a 0 post rest))
  | .hcmdDestroy _ cond d a post rest => some (coreWordOf cond 42 (handleBits d a 1 post rest))
  | .hcmdQuery _ cond d a post rest => some (coreWordOf cond 42 (handleBits d a 2 post rest))
  | .hwait _ cond d a post rest => some (coreWordOf cond 42 (handleBits d a 3 post rest))
  | .unassignedOpcode _ w => some w
  | _ => none

end Sys2Proof
end

