-- ==== Sys2Proof/Config.lean ====
section
/-!
DEFINITION. Sys2Proof/Config.lean: the values that the manual leaves open. Each is an opaque constant: no proof can
see what it is, so a claim holds whatever it is. A fresh value is drawn by applying `freeValue` to the counter that
State holds (`free`), which the step advances.
-/
namespace Sys2Proof.Config

/-- The values that an open result takes, one after another (log 2). -/
opaque freeValue : Nat → BitVec 72

/-- The sign and the 25 low fraction bits of the NaN that an F36 operation with a quiet NaN operand returns: R193
follows the principles of IEEE 754, which ask for a quiet NaN and leave its other bits open (log 3). -/
opaque freeNan : Word → Word → BitVec 26

/-- Whether an F36 result counts as tiny before it is rounded; otherwise after (R193: IEEE 754 leaves the choice to
the implementation; log 4). -/
opaque tinyBeforeRounding : Bool

end Sys2Proof.Config
end

