-- ==== Sys2Proof/Machine/F36.lean ====
section
/-!
DEFINITION. Sys2Proof/Machine/F36.lean: the F36 format and its arithmetic (R193, R230, R231). Every operation computes
the exact result and rounds it once, to nearest with ties to even.
-/
namespace Sys2Proof.Machine

/-- An F36 result with the exceptions it raises: inexact, underflow, overflow, division by zero, invalid. -/
structure FRes where
  val : Word
  nx : Bool := false
  uf : Bool := false
  ov : Bool := false
  dz : Bool := false
  nv : Bool := false
  deriving DecidableEq, Repr

/-- The default NaN, 8#377_600_000_000 (R193). -/
def fDefaultNan : Word := 0x7FE000000

/-- Sign bit of an F36 word. -/
def fSign (w : Word) : Bool := w.getLsbD 35

/-- Biased exponent of an F36 word. -/
def fExp (w : Word) : Nat := bitsOf w 26 9

/-- Fraction of an F36 word. -/
def fFrac (w : Word) : Nat := bitsOf w 0 26

def fIsNan (w : Word) : Bool := fExp w == 511 && fFrac w != 0
def fIsSignalling (w : Word) : Bool := fIsNan w && !(w.getLsbD 25)
def fIsInf (w : Word) : Bool := fExp w == 511 && fFrac w == 0
def fIsZero (w : Word) : Bool := fExp w == 0 && fFrac w == 0

/-- The word of a sign, a biased exponent and a fraction. -/
def fPack (s : Bool) (e f : Nat) : Word := BitVec.ofNat 36 (bitNat s * 2 ^ 35 + e * 2 ^ 26 + f)

/-- The infinity of a sign. -/
def fInf (s : Bool) : Word := fPack s 511 0

/-- The zero of a sign. -/
def fZero (s : Bool) : Word := fPack s 0 0

/-- The magnitude of a finite word in units of 2^−280, the smallest subnormal (R193). -/
def fMag (w : Word) : Nat :=
  if fExp w = 0 then fFrac w else (2 ^ 26 + fFrac w) * 2 ^ (fExp w - 1)

/-- A finite word's value in units of 2^−280, signed. -/
def fInt (w : Word) : Int := if fSign w then -(fMag w : Int) else fMag w

/-- The magnitude `n / d` in units of 2^−280, rounded to 27 significant bits, or to whole units below the normals:
the quotient, the shift of its last bit, and whether it was exact. -/
def fRoundMag (n d : Nat) : Nat × Nat × Bool :=
  let whole := n / d
  let k := if whole < 2 ^ 27 then 0 else Nat.log2 whole - 26
  let q := n / (d * 2 ^ k)
  let r := n % (d * 2 ^ k)
  let up := 2 * r > d * 2 ^ k || (2 * r == d * 2 ^ k && q % 2 == 1)
  (q + bitNat up, k, r == 0)

/-- The F36 result of the exact magnitude `n / d` in units of 2^−280 with a sign (R193). A nonzero result below the
least normal that is inexact underflows: below it before rounding, or once rounded to 27 bits with an unbounded exponent,
which the quarter below 2^26 no longer is. -/
def fRound (s : Bool) (n d : Nat) : FRes :=
  if n = 0 then { val := fZero s }
  else
    let (q, k, exact) := fRoundMag n d
    let m := q * 2 ^ k
    if m ≥ 2 ^ 27 * 2 ^ 509 then { val := fInf s, nx := true, ov := true }
    else
      let e := if m < 2 ^ 26 then 0 else Nat.log2 m - 25
      let f := if e = 0 then m else m / 2 ^ (e - 1) - 2 ^ 26
      let tiny := if Config.tinyBeforeRounding then n < 2 ^ 26 * d else 4 * n < (2 ^ 28 - 1) * d
      { val := fPack s e f, nx := !exact, uf := !exact && tiny }

/-- The quiet NaN that answers a quiet NaN operand; its sign and low fraction bits are free (log 3). -/
def fQuietNan (a b : Word) : Word :=
  let v := (Config.freeNan a b).toNat
  fPack (v.testBit 25) 511 (2 ^ 25 + v % 2 ^ 25)

/-- The answer when an operand is a NaN: a signalling NaN makes the operation invalid. -/
def fNanResult (a b : Word) : FRes :=
  if fIsSignalling a || fIsSignalling b then { val := fDefaultNan, nv := true }
  else { val := fQuietNan a b }

/-- An invalid operation (R193). -/
def fInvalid : FRes := { val := fDefaultNan, nv := true }

def fNeg (a : Word) : Word := a ^^^ 0x800000000
def fAbs (a : Word) : Word := a &&& 0x7FFFFFFFF

def fAdd (a b : Word) : FRes :=
  if fIsNan a || fIsNan b then fNanResult a b
  else if fIsInf a then (if fIsInf b && fSign a != fSign b then fInvalid else { val := a })
  else if fIsInf b then { val := b }
  else
    let v := fInt a + fInt b
    if v = 0 then { val := fZero (fSign a && fSign b) } else fRound (decide (v < 0)) v.natAbs 1

def fSub (a b : Word) : FRes :=
  if fIsNan a || fIsNan b then fNanResult a b else fAdd a (fNeg b)

def fMul (a b : Word) : FRes :=
  let s := fSign a != fSign b
  if fIsNan a || fIsNan b then fNanResult a b
  else if fIsInf a || fIsInf b then
    (if fIsZero a || fIsZero b then fInvalid else { val := fInf s })
  else fRound s (fMag a * fMag b) (2 ^ 280)

def fDiv (a b : Word) : FRes :=
  let s := fSign a != fSign b
  if fIsNan a || fIsNan b then fNanResult a b
  else if fIsInf a then (if fIsInf b then fInvalid else { val := fInf s })
  else if fIsInf b then { val := fZero s }
  else if fIsZero b then (if fIsZero a then fInvalid else { val := fInf s, dz := true })
  else fRound s (fMag a * 2 ^ 280) (fMag b)

/-- The integer square root, bit by bit from bit `k` down. -/
def natSqrt (n : Nat) : Nat → Nat → Nat
  | 0, r => r
  | k + 1, r => natSqrt n k (if (r + 2 ^ k) * (r + 2 ^ k) ≤ n then r + 2 ^ k else r)

/-- The square root: the magnitude m gives sqrt(m × 2^−280) = sqrt(m × 2^280) units; 2^64 more carries the guard bits,
and the last bit of the doubled root stands for what the integer root drops. -/
def fSqrt (a : Word) : FRes :=
  if fIsNan a then fNanResult a a
  else if fIsZero a then { val := a }
  else if fSign a then fInvalid
  else if fIsInf a then { val := a }
  else
    let n := fMag a * 2 ^ 408
    let r := natSqrt n 480 0
    fRound false (2 * r + bitNat (r * r != n)) (2 ^ 65)

/-- The order of two operands that are no NaN, −0 below +0 (FMIN, FMAX). -/
def fBelow (a b : Word) : Bool :=
  let key (w : Word) : Int :=
    let m : Int := if fIsInf w then 2 ^ 600 else fMag w
    if fSign w then -m - 1 else m
  decide (key a < key b)

def fMinMax (max : Bool) (a b : Word) : FRes :=
  if fIsSignalling a || fIsSignalling b then fInvalid
  else if fIsNan a && fIsNan b then { val := fQuietNan a b }
  else if fIsNan a then { val := b }
  else if fIsNan b then { val := a }
  else { val := if fBelow a b != max then a else b }

/-- A signed integer, scaled by 2^−`sh`, to F36 (FITOF with 0, FQTOF with 35). -/
def fOfInt (v : Int) (sh : Nat) : FRes :=
  if v = 0 then { val := fZero false } else fRound (decide (v < 0)) (v.natAbs * 2 ^ (280 - sh)) 1

/-- F36 to a signed 36-bit integer scaled by 2^`sh` (FFTOI with 0, FFTOQ with 35): rounded to nearest even, saturated
with NV, a NaN to 0 with NV. -/
def fToInt (a : Word) (sh : Nat) : FRes :=
  let top : Int := (2 ^ 35 : Nat)
  if fIsNan a then { val := 0, nv := true }
  else if fIsInf a then { val := wordOfInt (if fSign a then -top else top - 1), nv := true }
  else
    let n : Nat := fMag a * 2 ^ sh
    let q : Nat := n / 2 ^ 280
    let r : Nat := n % 2 ^ 280
    let up := 2 * r > 2 ^ 280 || (2 * r == 2 ^ 280 && q % 2 == 1)
    let m : Int := q + bitNat up
    let v := if fSign a then -m else m
    if v < -top then { val := wordOfInt (-top), nv := true }
    else if v ≥ top then { val := wordOfInt (top - 1), nv := true }
    else { val := wordOfInt v, nx := r != 0 }

/-- FCMP (R231): Z, N and V, and whether the operation is invalid. -/
def fCmp (a b : Word) : Bool × Bool × Bool × Bool :=
  if fIsNan a || fIsNan b then (false, false, true, fIsSignalling a || fIsSignalling b)
  else if fIsZero a && fIsZero b then (true, false, false, false)
  else if a = b then (true, false, false, false)
  else (false, fBelow a b, false, false)

/-- The function FN of FALU and FALUM but FCMP (R230): the result; FNEG and FABS raise nothing. -/
def fOp (fn : Nat) (a b : Word) : FRes :=
  match fn with
  | 0 => fAdd a b
  | 1 => fSub a b
  | 2 => fMul a b
  | 3 => fDiv a b
  | 4 => fSqrt a
  | 6 => { val := fNeg a }
  | 7 => { val := fAbs a }
  | 8 => fMinMax false a b
  | 9 => fMinMax true a b
  | 10 => fOfInt a.toInt 0
  | 11 => fToInt a 0
  | 12 => fOfInt a.toInt 35
  | _ => fToInt a 35

end Sys2Proof.Machine
end

