-- ==== Sys2Proof/Machine/Flags.lean ====
section
/-!
DEFINITION. Sys2Proof/Machine/Flags.lean: the results and the flags of the Zhorex-36 functions (R190 to R196, R200,
R227 to R238). Each function computes the exact result and narrows it once; a flag that a function leaves alone is
`none`.
-/
namespace Sys2Proof.Machine

/-- A flag of SW: true or false set, none unchanged. -/
abbrev FlagSet := Option Bool

/-- A result with what it does to Z, N, C and V, and whether a V that it sets may trap under R195. -/
structure AluRes where
  val : Word
  z : FlagSet := none
  n : FlagSet := none
  c : FlagSet := none
  v : FlagSet := none
  traps : Bool := true
  deriving DecidableEq, Repr

/-- Bit positions of SW (R190). -/
def swZ : Nat := 0
def swN : Nat := 1
def swC : Nat := 2
def swV : Nat := 3
def swBA : Nat := 4
def swSAT : Nat := 9
def swOVE : Nat := 10
def swNV : Nat := 11
def swDZ : Nat := 12
def swOF : Nat := 13
def swUF : Nat := 14
def swNX : Nat := 15
def swTH : Nat := 16

/-- A bit of the status word. -/
def swBit (sw : Word) (i : Nat) : Bool := sw.getLsbD i

/-- The status word with a bit set to a truth value. -/
def swPut (sw : Word) (i : Nat) (b : Bool) : Word := withBits sw i 1 (bitNat b)

/-- The status word with a flag set, or left alone. -/
def swApply (sw : Word) (i : Nat) : FlagSet → Word
  | none => sw
  | some b => swPut sw i b

/-- The privilege level in SW. -/
def swPL (sw : Word) : Nat := bitsOf sw 17 2

/-- The four result flags applied. -/
def swFlags (sw : Word) (r : AluRes) : Word :=
  swApply (swApply (swApply (swApply sw swZ r.z) swN r.n) swC r.c) swV r.v

/-- The condition of an instruction (R200). -/
def condHolds (cond : Nat) (sw : Word) : Bool :=
  let z := swBit sw swZ
  let n := swBit sw swN
  let c := swBit sw swC
  let v := swBit sw swV
  match cond with
  | 0 => true
  | 1 => z
  | 2 => !z
  | 3 => n
  | 4 => !n
  | 5 => c
  | 6 => !c
  | 7 => v
  | 8 => !c && !z
  | 9 => c || z
  | 10 => n == v
  | 11 => n != v
  | 12 => !z && n == v
  | 13 => z || n != v
  | 14 => swBit sw swBA
  | _ => !(swBit sw swBA)

/-- Whether an integer lies outside the signed range of a width. -/
def outOfRange (width : Nat) (i : Int) : Bool :=
  decide (i < -((2 ^ (width - 1) : Nat) : Int)) || decide (((2 ^ (width - 1) : Nat) : Int) ≤ i)

/-- A word with Z and N from it. -/
def aluZN (w : Word) : AluRes := { val := w, z := some (w == 0), n := some w.msb }

/-- A sum of two words and a carry: C is the carry out, V the signed overflow. -/
def aluAdd (a b : Word) (cin : Nat) : AluRes :=
  let u := a.toNat + b.toNat + cin
  let i := a.toInt + b.toInt + cin
  { aluZN (BitVec.ofNat 36 u) with c := some (decide (2 ^ 36 ≤ u)), v := some (outOfRange 36 i) }

/-- A difference of two words and a borrow: C is the borrow out (R190, R200). -/
def aluSub (a b : Word) (bin : Nat) : AluRes :=
  let i := a.toInt - b.toInt - bin
  { aluZN (wordOfInt i) with c := some (decide (a.toNat < b.toNat + bin)), v := some (outOfRange 36 i) }

/-- A Q35 result from the exact value in units of 2^−35 (R194). -/
def qResult (sat : Bool) (i : Int) : AluRes :=
  let ovr := outOfRange 36 i
  let w := if ovr && sat then wordOfInt (saturate 36 i) else wordOfInt i
  { aluZN w with v := some ovr, traps := !sat }

/-- An exact integer divided by 2^k and rounded to nearest, ties to even. -/
def roundShift (i : Int) (k : Nat) : Int :=
  let d : Int := (2 ^ k : Nat)
  let q := i / d
  let r := i % d
  if 2 * r > d || (2 * r == d && q % 2 == 1) then q + 1 else q

/-- Shifts (R227, R228): the count is op2[5:0]; for 0 the carry stays. -/
def aluShift (fn : Nat) (a op2 : Word) : AluRes :=
  let s := bitsOf op2 0 6
  if s = 0 then aluZN a
  else if fn = 10 then
    { aluZN (if 36 < s then 0 else a <<< s) with c := some (if 36 < s then false else a.getLsbD (36 - s)) }
  else if fn = 11 then
    { aluZN (if 36 < s then 0 else a >>> s) with c := some (if 36 < s then false else a.getLsbD (s - 1)) }
  else
    { aluZN (a.sshiftRight s) with c := some (if 36 < s then a.msb else a.getLsbD (s - 1)) }

/-- Division (R227, R228): by zero DIV and DIVU give 0 and REM gives Ga, with V. -/
def aluDiv (fn : Nat) (a b : Word) : AluRes :=
  if b = 0 then { aluZN (if fn = 19 then a else 0) with v := some true }
  else if fn = 17 then
    let q := a.toInt.tdiv b.toInt
    { aluZN (wordOfInt q) with v := some (outOfRange 36 q) }
  else if fn = 18 then { aluZN (BitVec.ofNat 36 (a.toNat / b.toNat)) with v := some false }
  else { aluZN (wordOfInt (a.toInt.tmod b.toInt)) with v := some false }

/-- The functions of ALU, ALUI and ALUM (R227, R228), with the carry in force and SW.SAT. -/
def aluOp (fn : Nat) (a b : Word) (carry sat : Bool) : AluRes :=
  match fn with
  | 0 => aluAdd a b 0
  | 1 => aluAdd a b (bitNat carry)
  | 2 => aluSub a b 0
  | 3 => aluSub a b (bitNat carry)
  | 4 => aluSub a b 0
  | 5 => aluZN (a &&& b)
  | 6 => aluZN (a ||| b)
  | 7 => aluZN (a ^^^ b)
  | 8 => aluZN (a &&& ~~~b)
  | 9 => aluZN (a &&& b)
  | 10 => aluShift 10 a b
  | 11 => aluShift 11 a b
  | 12 => aluShift 12 a b
  | 13 => aluZN (a.rotateLeft (bitsOf b 0 6 % 36))
  | 14 =>
    let p := a.toInt * b.toInt
    { aluZN (wordOfInt p) with v := some (outOfRange 36 p) }
  | 15 => aluZN (wordOfInt (a.toInt * b.toInt / (2 ^ 36 : Nat)))
  | 16 => aluZN (BitVec.ofNat 36 (a.toNat * b.toNat / 2 ^ 36))
  | 17 => aluDiv 17 a b
  | 18 => aluDiv 18 a b
  | 19 => aluDiv 19 a b
  | 20 => aluZN (if a.toInt ≤ b.toInt then a else b)
  | 21 => aluZN (if a.toInt ≤ b.toInt then b else a)
  | 22 => aluZN (if a.toNat ≤ b.toNat then a else b)
  | 23 => aluZN (if a.toNat ≤ b.toNat then b else a)
  | 24 => qResult sat (a.toInt + b.toInt)
  | 25 => qResult sat (a.toInt - b.toInt)
  | 26 => qResult sat (roundShift (a.toInt * b.toInt) 35)
  | 27 => aluSub 0 a 0
  | 28 => aluZN (~~~a)
  | 29 =>
    let i : Int := a.toInt.natAbs
    { aluZN (wordOfInt i) with v := some (outOfRange 36 i) }
  | 30 => aluZN a
  | 31 => aluZN (wordOfInt (signedOf 18 (bitsOf a 0 18)))
  | 32 => aluZN (BitVec.ofNat 36 (bitsOf a 0 18))
  | _ => aluZN (BitVec.ofNat 36 (bitsOf a 0 18 * 2 ^ 18 + bitsOf a 18 18))

/-- A D72 value of a register pair, the upper word first. -/
def pairNat (hi lo : Word) : Nat := hi.toNat * 2 ^ 36 + lo.toNat

/-- The upper and lower words of a D72 result. -/
def pairWords (n : Nat) : Word × Word := (BitVec.ofNat 36 (n / 2 ^ 36 % 2 ^ 36), BitVec.ofNat 36 (n % 2 ^ 36))

/-- A D72 result with its flags; `val` holds the lower word. -/
structure PairRes where
  hi : Word
  flags : AluRes
  deriving DecidableEq, Repr

/-- A D72 result from the exact value: Z and N from all 72 bits (R229). -/
def pairResult (i : Int) (c v : FlagSet) : PairRes :=
  let n := natOfInt 72 i
  let (hi, lo) := pairWords n
  ⟨hi, { val := lo, z := some (n == 0), n := some (n.testBit 71), c := c, v := v }⟩

/-- The functions of DALU (R229) on pairs A and B, or on words for the multiplications. -/
def daluOp (fn : Nat) (ahi alo bhi blo : Word) : PairRes :=
  let a := pairNat ahi alo
  let b := pairNat bhi blo
  let sa := signedOf 72 a
  let sb := signedOf 72 b
  match fn with
  | 0 => pairResult (sa + sb) (some (decide (2 ^ 72 ≤ a + b))) (some (outOfRange 72 (sa + sb)))
  | 1 | 2 => pairResult (sa - sb) (some (decide (a < b))) (some (outOfRange 72 (sa - sb)))
  | 3 => pairResult (-sa) (some (decide (0 < a))) (some (outOfRange 72 (-sa)))
  | 4 => pairResult (ahi.toInt * bhi.toInt) none (some false)
  | _ => pairResult (ahi.toNat * bhi.toNat : Nat) none (some false)

/-- An accumulator result from the exact sum: it wraps modulo 2^80 and sets V (R196). -/
structure AccRes where
  acc : BitVec 80
  flags : AluRes
  deriving DecidableEq, Repr

def accResult (i : Int) : AccRes :=
  let a := BitVec.ofInt 80 i
  ⟨a, { val := 0, z := some (a == 0), n := some a.msb, v := some (outOfRange 80 i) }⟩

/-- The functions 0 to 5 of MAC on an accumulator, two words and a second accumulator (R232). -/
def macOp (fn : Nat) (acc other : BitVec 80) (a b : Word) : AccRes :=
  match fn with
  | 0 => accResult (acc.toInt + a.toInt * b.toInt)
  | 1 => accResult (acc.toInt - a.toInt * b.toInt)
  | 2 => accResult (a.toInt * b.toInt)
  | 3 => accResult (acc.toInt + (a.toNat * b.toNat : Nat))
  | 4 => ⟨0, { val := 0 }⟩
  | _ => accResult (acc.toInt + other.toInt)

/-- Extraction to Q35 or to W36 (R196, R232). -/
def accExtract (q : Bool) (acc : BitVec 80) (sat : Bool) : AluRes :=
  if q then qResult sat (roundShift acc.toInt 35)
  else { aluZN (acc.setWidth 36) with v := some (outOfRange 36 acc.toInt) }

/-- BA after a bit function 0 to 6, and the bit after a function 7 to 11 (R237). -/
def bitOp (fn : Nat) (ba b : Bool) : Bool × Bool :=
  match fn with
  | 0 => (b, b)
  | 1 => (!b, b)
  | 2 => (ba && b, b)
  | 3 => (ba && !b, b)
  | 4 => (ba || b, b)
  | 5 => (ba || !b, b)
  | 6 => (ba != b, b)
  | 7 => (ba, ba)
  | 8 => (ba, !ba)
  | 9 => (ba, true)
  | 10 => (ba, false)
  | _ => (ba, !b)

end Sys2Proof.Machine
end

