-- ==== Sys2Proof/Machine/Crypto.lean ====
section
/-!
DEFINITION. Sys2Proof/Machine/Crypto.lean: the functions that the manual takes from standards: SHA-256 (FIPS 180-4), ECDSA
and ECDH over P-256 (FIPS 186-5), and AES-256-GCM (FIPS 197, SP 800-38D) (R78, R79, R92, R527, R533, R543; log 7). A byte
string is a natural number, its first byte the most significant, beside its length.
-/
namespace Sys2Proof.Machine

/-- A number evaluated before it is handed on. -/
def forced {α : Type} (x : Nat) (k : Nat → α) : α :=
  match x with
  | 0 => k 0
  | n + 1 => k (n + 1)

/-- The byte string of packed words (R70), as a number. -/
def packNat (ws : List Word) : Nat :=
  ws.foldl (fun v w => v * 2 ^ 36 + w.toNat) 0 * (if ws.length % 2 = 1 then 2 ^ 36 else 1)

/-- The length of packed words in bytes (R70). -/
def packLen (n : Nat) : Nat := 9 * ((n + 1) / 2)

/-- The words that a packed byte string of `n` words holds. -/
def unpackNat (n v : Nat) : List Word := (List.range n).map fun i => BitVec.ofNat 36 (v >>> (36 * (n - 1 - i)))

/-- Words of a byte string stored 4 bytes per word (R71), as a number. -/
def byteNat (ws : List Word) : Nat := ws.foldl (fun v w => v * 2 ^ 32 + bitsOf w 0 32) 0

/-- A byte string of `n` 4-byte groups stored under R71. -/
def byteWords (n v : Nat) : List Word := (List.range n).map fun i => BitVec.ofNat 36 (v >>> (32 * (n - 1 - i)) % 2 ^ 32)

/-! ### SHA-256 -/

/-- The round constants, the first in the highest 32 bits. -/
def shaK : Nat :=
  0x428a2f9871374491b5c0fbcfe9b5dba53956c25b59f111f1923f82a4ab1c5ed5 <<< 1792 +
  0xd807aa9812835b01243185be550c7dc372be5d7480deb1fe9bdc06a7c19bf174 <<< 1536 +
  0xe49b69c1efbe47860fc19dc6240ca1cc2de92c6f4a7484aa5cb0a9dc76f988da <<< 1280 +
  0x983e5152a831c66db00327c8bf597fc7c6e00bf3d5a7914706ca635114292967 <<< 1024 +
  0x27b70a852e1b21384d2c6dfc53380d13650a7354766a0abb81c2c92e92722c85 <<< 768 +
  0xa2bfe8a1a81a664bc24b8b70c76c51a3d192e819d6990624f40e3585106aa070 <<< 512 +
  0x19a4c1161e376c082748774c34b0bcb5391c0cb34ed8aa4a5b9cca4f682e6ff3 <<< 256 +
  0x748f82ee78a5636f84c878148cc7020890befffaa4506cebbef9a3f7c67178f2

/-- The initial hash value. -/
def shaStart : Nat := 0x6a09e667bb67ae853c6ef372a54ff53a510e527f9b05688c1f83d9ab5be0cd19

/-- A 32-bit rotation to the right. -/
def rotr (x n : Nat) : Nat := x >>> n + x % 2 ^ n * 2 ^ (32 - n)

/-- The 32-bit field `i`, counted from the most significant of `n`. -/
def lane32 (n x i : Nat) : Nat := x >>> (32 * (n - 1 - i)) % 2 ^ 32

/-- Round `t` on the eight working variables. -/
def shaRound (t w s : Nat) : Nat :=
  let f := lane32 8 s
  let e := f 4
  let a := f 0
  let ch := (e &&& f 5) ^^^ ((e ^^^ 0xFFFFFFFF) &&& f 6)
  let maj := (a &&& f 1) ^^^ (a &&& f 2) ^^^ (f 1 &&& f 2)
  let t1 := f 7 + (rotr e 6 ^^^ rotr e 11 ^^^ rotr e 25) + ch + lane32 64 shaK t + w
  let t2 := (rotr a 2 ^^^ rotr a 13 ^^^ rotr a 22) + maj
  ((t1 + t2) % 2 ^ 32) <<< 224 + a <<< 192 + f 1 <<< 160 + f 2 <<< 128 + ((f 3 + t1) % 2 ^ 32) <<< 96 + e <<< 64 + f 5 <<< 32 + f 6

/-- `n` rounds over the 16 message words that come next. -/
def shaRounds : Nat → Nat → Nat → Nat
  | 0, _, s => s
  | n + 1, m, s =>
    let w := lane32 16 m
    let s0 := rotr (w 1) 7 ^^^ rotr (w 1) 18 ^^^ w 1 >>> 3
    let s1 := rotr (w 14) 17 ^^^ rotr (w 14) 19 ^^^ w 14 >>> 10
    forced (m % 2 ^ 480 * 2 ^ 32 + (s1 + w 9 + s0 + w 0) % 2 ^ 32) fun m' =>
      forced (shaRound (63 - n) (w 0) s) fun s' => shaRounds n m' s'

/-- One block. -/
def shaBlock (h m : Nat) : Nat :=
  let s := shaRounds 64 m h
  (List.range 8).foldl (fun v i => v * 2 ^ 32 + (lane32 8 h i + lane32 8 s i) % 2 ^ 32) 0

/-- The first `n` of `total` blocks of a padded message. -/
def shaBlocks (msg total : Nat) : Nat → Nat → Nat
  | 0, h => h
  | n + 1, h => forced (shaBlock h (msg >>> (512 * n) % 2 ^ 512)) fun h' => shaBlocks msg total n h'

/-- The SHA-256 digest of a byte string. -/
def sha256 (len v : Nat) : Nat :=
  let total := (len + 72) / 64
  let pad := 512 * total - 8 * len
  forced (v * 2 ^ pad + 2 ^ (pad - 1) + 8 * len) fun m => shaBlocks m total total shaStart

/-- The SHA-256 digest of packed words. -/
def shaWords (ws : List Word) : Nat := sha256 (packLen ws.length) (packNat ws)

/-! ### P-256 -/

/-- The prime field. -/
def curveP : Nat := 0xffffffff00000001000000000000000000000000ffffffffffffffffffffffff

/-- The order of the base point. -/
def curveN : Nat := 0xffffffff00000000ffffffffffffffffbce6faada7179e84f3b9cac2fc632551

/-- The coefficient b of y² = x³ − 3x + b. -/
def curveB : Nat := 0x5ac635d8aa3a93e7b3ebbd55769886bc651d06b0cc53b0f63bce3c3e27d2604b

/-- The base point. -/
def curveG : Nat × Nat :=
  (0x6b17d1f2e12c4247f8bce6e563a440f277037d812deb33a0f4a13945d898c296,
   0x4fe342e2fe1a7f9b8ee7eb4a7c0f9e162bce33576b315ececbb6406837bf51f5)

/-- Difference in the field. -/
def subP (a b : Nat) : Nat := (a + curveP - b) % curveP

/-- A power by squaring: the `i` lowest bits of the exponent are still to come. -/
def powMod (m b e : Nat) : Nat → Nat → Nat
  | 0, acc => acc
  | i + 1, acc => forced (acc * acc * (if e.testBit i then b else 1) % m) fun acc' => powMod m b e i acc'

/-- The inverse modulo a prime. -/
def invMod (m a : Nat) : Nat := powMod m (a % m) (m - 2) 256 1

/-- A point in Jacobian coordinates; the neutral element has z = 0. -/
structure JPoint where
  x : Nat
  y : Nat
  z : Nat
  deriving DecidableEq, Repr

/-- A point with its coordinates evaluated. -/
def jPoint (x y z : Nat) : JPoint := forced x fun x => forced y fun y => forced z fun z => ⟨x, y, z⟩

/-- Twice a point. -/
def jDouble (p : JPoint) : JPoint :=
  let d := p.z * p.z % curveP
  let g := p.y * p.y % curveP
  let b := p.x * g % curveP
  let a := 3 * (subP p.x d * (p.x + d)) % curveP
  let x := subP (a * a % curveP) (8 * b % curveP)
  jPoint x (subP (a * subP (4 * b % curveP) x % curveP) (8 * g * g % curveP)) (2 * p.y * p.z % curveP)

/-- The sum of two points. -/
def jAdd (p q : JPoint) : JPoint :=
  if p.z = 0 then q
  else if q.z = 0 then p
  else
    let zp := p.z * p.z % curveP
    let zq := q.z * q.z % curveP
    let u := p.x * zq % curveP
    let s := p.y * zq * q.z % curveP
    let h := subP (q.x * zp % curveP) u
    let r := subP (q.y * zp * p.z % curveP) s
    if h = 0 then (if r = 0 then jDouble p else ⟨0, 1, 0⟩)
    else
      let h2 := h * h % curveP
      let h3 := h * h2 % curveP
      let v := u * h2 % curveP
      let x := subP (r * r % curveP) ((h3 + 2 * v) % curveP)
      jPoint x (subP (r * subP v x % curveP) (s * h3 % curveP)) (h * p.z * q.z % curveP)

/-- A multiple of a point: the `i` lowest bits of the scalar are still to come. -/
def jScale (k : Nat) (p : JPoint) : Nat → JPoint → JPoint
  | 0, acc => acc
  | i + 1, acc =>
    let d := jDouble acc
    jScale k p i (if k.testBit i then jAdd d p else d)

/-- The affine coordinates, none of the neutral element. -/
def affine (p : JPoint) : Option (Nat × Nat) :=
  if p.z = 0 then none
  else
    let i := invMod curveP p.z
    some (p.x * i * i % curveP, p.y * i * i % curveP * i % curveP)

/-- A multiple of an affine point. -/
def curveMul (k : Nat) (q : Nat × Nat) : JPoint := jScale k ⟨q.1, q.2, 1⟩ 256 ⟨0, 1, 0⟩

/-- A point lies on the curve. -/
def onCurve (q : Nat × Nat) : Bool :=
  decide (q.1 < curveP) && decide (q.2 < curveP) &&
    (q.2 * q.2 + 3 * q.1) % curveP == (q.1 * q.1 * q.1 + curveB) % curveP

/-- An ECDSA signature over a digest verifies under a public key. -/
def ecdsaOk (q : Nat × Nat) (e r s : Nat) : Bool :=
  if r = 0 ∨ curveN ≤ r ∨ s = 0 ∨ curveN ≤ s ∨ !onCurve q then false
  else
    let w := invMod curveN s
    match affine (jAdd (curveMul (e * w % curveN) curveG) (curveMul (r * w % curveN) q)) with
    | some p => p.1 % curveN == r
    | none => false

/-- The public key of a private key. -/
def publicKey (d : Nat) : Nat × Nat := (affine (curveMul d curveG)).getD (0, 0)

/-- An ECDSA signature over a digest, with the per-message secret `k`. -/
def ecdsaSign (d e k : Nat) : Nat × Nat :=
  let r := (publicKey (k % curveN)).1 % curveN
  (r, invMod curveN k * ((e + r * d) % curveN) % curveN)

/-- The shared secret of an ECDH key agreement: an x coordinate, none for a key that is no point of the curve. -/
def ecdh (d : Nat) (q : Nat × Nat) : Option Nat := if onCurve q then (affine (curveMul d q)).map (·.1) else none

/-! ### AES-256-GCM -/

/-- The S-box, its entry 0 in the highest byte. -/
def aesBox : Nat :=
  0x637c777bf26b6fc53001672bfed7ab76ca82c97dfa5947f0add4a2af9ca472c0 <<< 1792 +
  0xb7fd9326363ff7cc34a5e5f171d8311504c723c31896059a071280e2eb27b275 <<< 1536 +
  0x09832c1a1b6e5aa0523bd6b329e32f8453d100ed20fcb15b6acbbe394a4c58cf <<< 1280 +
  0xd0efaafb434d338545f9027f503c9fa851a3408f929d38f5bcb6da2110fff3d2 <<< 1024 +
  0xcd0c13ec5f974417c4a77e3d645d197360814fdc222a908846eeb814de5e0bdb <<< 768 +
  0xe0323a0a4906245cc2d3ac629195e479e7c8376d8dd54ea96c56f4ea657aae08 <<< 512 +
  0xba78252e1ca6b4c6e8dd741f4bbd8b8a703eb5664803f60e613557b986c11d9e <<< 256 +
  0xe1f8981169d98e949b1e87e9ce5528df8ca1890dbfe6426841992d0fb054bb16

/-- One byte through the S-box. -/
def subByte (b : Nat) : Nat := aesBox >>> (8 * (255 - b)) % 256

/-- Each byte of a 4-byte word through the S-box. -/
def subWord (w : Nat) : Nat :=
  (List.range 4).foldl (fun v i => v * 256 + subByte (w >>> (8 * (3 - i)) % 256)) 0

/-- The next eight words of the key schedule. -/
def keyNext (k rcon : Nat) : Nat :=
  let w := lane32 8 k
  let t := w 7 % 2 ^ 24 * 256 + w 7 >>> 24
  forced (w 0 ^^^ subWord t ^^^ rcon <<< 24) fun a =>
    forced (w 1 ^^^ a) fun b => forced (w 2 ^^^ b) fun c => forced (w 3 ^^^ c) fun d =>
      forced (w 4 ^^^ subWord d) fun e => forced (w 5 ^^^ e) fun f => forced (w 6 ^^^ f) fun g =>
        a <<< 224 + b <<< 192 + c <<< 160 + d <<< 128 + e <<< 96 + f <<< 64 + g <<< 32 + (w 7 ^^^ g)

/-- The key schedule: the key and seven groups after it, the first in the highest bits. -/
def keySchedule : Nat → Nat → Nat → Nat → Nat
  | 0, _, _, acc => acc
  | n + 1, rcon, k, acc =>
    forced (keyNext k rcon) fun k' => forced (acc * 2 ^ 256 + k') fun acc' => keySchedule n (2 * rcon) k' acc'

/-- Twice a byte in GF(2^8). -/
def xtime (b : Nat) : Nat := (2 * b ^^^ (if 128 ≤ b then 0x11B else 0)) % 256

/-- SubBytes and ShiftRows. -/
def subShift (s : Nat) : Nat :=
  (List.range 16).foldl (fun v i => v * 256 + subByte (s >>> (8 * (15 - (5 * i) % 16)) % 256)) 0

/-- MixColumns. -/
def mixColumns (s : Nat) : Nat :=
  (List.range 16).foldl (fun v i =>
    let a (k : Nat) : Nat := s >>> (8 * (15 - (i / 4 * 4 + (i + k) % 4))) % 256
    v * 256 + (xtime (a 0) ^^^ xtime (a 1) ^^^ a 1 ^^^ a 2 ^^^ a 3)) 0

/-- The 13 full rounds under the round keys from number 14 − n on. -/
def aesRounds (ks : Nat) : Nat → Nat → Nat
  | 0, s => s
  | n + 1, s => forced (mixColumns (subShift s) ^^^ ks >>> (128 * (n + 2)) % 2 ^ 128) fun s' => aesRounds ks n s'

/-- One block under a key schedule. -/
def aesBlock (ks b : Nat) : Nat :=
  subShift (aesRounds ks 13 (b ^^^ ks >>> 1920)) ^^^ ks >>> 128 % 2 ^ 128

/-- A product in the field of GHASH: bits of `x` from the highest, with `v` the shifted other factor. -/
def ghashMul : Nat → Nat → Nat → Nat → Nat
  | 0, _, _, z => z
  | n + 1, x, v, z =>
    forced (if x.testBit n then z ^^^ v else z) fun z' =>
      forced (v / 2 ^^^ (if v % 2 = 1 then 0xE1 <<< 120 else 0)) fun v' => ghashMul n x v' z'

/-- GHASH over the last `n` blocks of a string. -/
def ghash (h v : Nat) : Nat → Nat → Nat
  | 0, y => y
  | n + 1, y => forced (ghashMul 128 (y ^^^ v >>> (128 * n) % 2 ^ 128) h 0) fun y' => ghash h v n y'

/-- The key stream of `n` blocks from a counter block on. -/
def keyStream (ks : Nat) : Nat → Nat → Nat → Nat
  | 0, _, acc => acc
  | n + 1, c, acc => forced (acc * 2 ^ 128 + aesBlock ks c) fun acc' => keyStream ks n (c + 1) acc'

/-- What AES-256-GCM gives for a ciphertext: its plaintext and its tag, from a key, a 96-bit nonce and additional data. -/
def gcmOpen (key nonce alen aad len c : Nat) : Nat × Nat :=
  forced (keySchedule 7 1 key key) fun ks =>
    let h := aesBlock ks 0
    let blocks (n : Nat) : Nat := (n + 15) / 16
    let padded (n v : Nat) : Nat := v * 2 ^ (128 * blocks n - 8 * n)
    let y := ghash h (padded alen aad) (blocks alen) 0
    let y := ghash h (padded len c) (blocks len) y
    let y := ghash h (8 * alen * 2 ^ 64 + 8 * len) 1 y
    let stream := keyStream ks (blocks len) (nonce * 2 ^ 32 + 2) 0
    (c ^^^ stream >>> (128 * blocks len - 8 * len), y ^^^ aesBlock ks (nonce * 2 ^ 32 + 1))

end Sys2Proof.Machine
end

