-- ==== Sys2Proof/Machine/WMap.lean ====
section
/-!
DEFINITION. Sys2Proof/Machine/WMap.lean: the one form in which words are held by address, for memory and for the
registers: pairs in strictly rising address order, none of value 0; an address not listed reads 0 (R69: the memories
are initialised with contents 0; R609: a register with no reset value stated reads 0).
-/
namespace Sys2Proof.Machine

/-- Words by address, addresses strictly rising, no listed word 0. -/
abbrev WMap := List (Nat × Word)

/-- The word at an address; 0 where nothing is listed. -/
def WMap.rd : WMap → Nat → Word
  | [], _ => 0
  | (b, w) :: rest, a => if a = b then w else WMap.rd rest a

/-- The pairs without those of an address: it reads 0. -/
def WMap.drop (m : WMap) (a : Nat) : WMap := m.filter fun p => p.1 != a

/-- A pair put in its place by address, or in place of the one there. -/
def WMap.put : WMap → Nat → Word → WMap
  | [], a, v => [(a, v)]
  | (b, w) :: rest, a, v =>
    if a < b then (a, v) :: (b, w) :: rest
    else if a = b then (a, v) :: rest
    else (b, w) :: WMap.put rest a v

/-- The pairs with the word at an address replaced; writing 0 removes the entry. -/
def WMap.wr (m : WMap) (a : Nat) (v : Word) : WMap := if v = 0 then m.drop a else m.put a v

/-- Every address listed lies above a bound, in strictly rising order, with a word other than 0. -/
def WMap.above : Nat → WMap → Bool
  | _, [] => true
  | lo, (b, w) :: rest => decide (lo ≤ b) && decide (w ≠ 0) && WMap.above (b + 1) rest

/-- The canonical form. -/
def WMap.wf (m : WMap) : Bool := WMap.above 0 m

/-- Words written one after another from an address on. -/
def WMap.wrList (m : WMap) (a : Nat) : List Word → WMap
  | [] => m
  | w :: ws => WMap.wrList (m.wr a w) (a + 1) ws

/-- The `n` words from an address on. -/
def WMap.rdList (m : WMap) (a n : Nat) : List Word := (List.range n).map fun i => m.rd (a + i)

/-- The pairs whose addresses lie outside `[lo, hi)`: that range reads 0. -/
def WMap.clear (m : WMap) (lo hi : Nat) : WMap := m.filter fun p => decide (p.1 < lo) || decide (hi ≤ p.1)

end Sys2Proof.Machine
end

