-- ==== Sys2Proof/Machine/State.lean ====
section
/-!
DEFINITION. Sys2Proof/Machine/State.lean: the state of the LZ9, as plain data. The registers of the 32 blocks stand in
one map by word address, memory in another; what the manual describes without giving it a register stands in a
structure for each block. State.reset is the device as it enters BOOT after the always-on domain's power-up.
-/
namespace Sys2Proof.Machine

/-- The reasons for a fault. The manual gives every illegal access an effect (a BUS trap, an ignored write, a refusal
code), which the model takes, so that no command of today faults. -/
inductive Fault where
  /-- Raised by no command. Safe: a step that raised it would stop. -/
  | unspecified
  deriving DecidableEq, Repr

/-- The reasons for a refusal. -/
inductive Refusal where
  /-- Raised by the dispatch alone, for a command whose meaning is not written; today by none. Safe: the step stops. -/
  | notModelled (mnemonic : String)
  deriving DecidableEq, Repr

/-- The device states of R17. -/
inductive Dev where
  | off | boot | load | stop | run | standby | halt | safe
  deriving DecidableEq, Repr

/-- Supplies, pins and sequences that no register shows (R40 to R68). `pfStep` is 0 with no power-fail sequence, 3
while the commit window of step 3 is open and 7 once steps 4 to 7 have ended; `straps` are the strap levels, ROLE in
bits 3:2 and BOOTSRC in 1:0; `refOk` says that the main reference has run for 5 ms; `slowRc` that grains are counted
on the slow RC; `abortDue` the ABORT records that the next start writes (R60): 1 a folio load, 2 a slot write;
`bootKind` the kind of the last reset (R55): 0 power-up, 1 cold, 2 warm; `secureFailed` that secure start failed and the
device holds itself in reset (R531); `pfPin` and `pfMon` that PFAIL_N is low, and that VDDIO33 is below 3.05 V, as the
power-fail condition takes them (R613). -/
structure PowerSt where
  railsLost : Bool
  vaonLost : Bool
  porstLow : Bool
  rstLow : Bool
  straps : Nat
  warned : Nat
  pfStep : Nat
  refOk : Bool
  pllKeep : Bool
  pllWaking : Bool
  slowRc : Bool
  abortDue : Nat
  bootKind : Nat
  secureFailed : Bool
  pfPin : Bool
  pfMon : Bool
  deriving DecidableEq, Repr

/-- A folio load in progress (R81): source code as FOL_STAT.SRC, the image read in the first pass once it has been
accepted, whether FOL_CMD started it, and whether the other flash slot is still to be tried (R84). -/
structure FolioLoad where
  src : Nat
  byCommand : Bool
  accepted : Option FolioImage
  otherSlot : Bool
  deriving DecidableEq, Repr

/-- A handle command that its port has accepted (R107 to R109): code 1 CREATE, 2 DESTROY, 3 QUERY, the class and
index it acts on, the class words and whether the house core has checked it. -/
structure HandleCmd where
  port : Nat
  code : Nat
  cls : Nat
  idx : Nat
  words : List Word
  checked : Bool
  deriving DecidableEq, Repr

/-- The handle table (R99 to R110): slots, channels, commands accepted, and the state that QUERY returns of a channel of a
class, by class code and index, as its last completed cycle left it (R109). -/
structure HandleSt where
  gens : List SlotGen
  channels : List Channel
  cmds : List HandleCmd
  queried : List (Nat × Nat × List Word)
  deriving DecidableEq, Repr

/-- The phases of a class cycle (R122); `late` is overrunning work whose outputs will be discarded (R129). -/
inductive Phase where
  | idle | gather | solve | scatter | done | late
  deriving DecidableEq, Repr

/-- A class cycle (R117 to R132). Instants are nanoseconds of A; `latchLoc` is LOC at the last LATCH (R119).
`notBefore` holds the next LATCH back. In the cycle in progress: `checked` that its commit check has passed, `allowed` that
it may commit, `voided` that it commits nothing (R139), `overran` that this device overran, `stretchN` the tick of R130
that is checked next (0 while no COMMIT is stretched). `voidNext` marks the next cycle as one that commits nothing;
`faulted` a class that commits no more before the device stops (R139). `passesLeft` are the passes that SOLVE has still to
complete, `busUnit` the first task of the class and the unit on a disabled quire whose passes end it (R184), `view` the class view of the image windows (R147), `lateOut` the writes of event tasks after the commit check
(R136) as word point or bit point, global or local, number and value, `written` the points that tasks and passes have written (R358). -/
structure ClassSt where
  phase : Phase
  latchAt : Nat
  latchLoc : Nat
  notBefore : Nat
  checked : Bool
  allowed : Bool
  voided : Bool
  voidNext : Bool
  faulted : Bool
  overran : Bool
  stretchN : Nat
  passesLeft : List Nat
  busUnit : Option (Nat × Nat)
  view : WMap
  lateOut : List (Bool × Bool × Nat × Word)
  written : List (Bool × Bool × Nat)
  deriving DecidableEq, Repr

/-- An event task (R133 to R136): ready, running, and a merged trigger waiting. -/
structure EventSt where
  ready : Bool
  running : Bool
  again : Bool
  againAt : Nat
  deriving DecidableEq, Repr

/-- The state of a local point between cycles (R148 to R150): last GOOD value of an input, quality of an output as its
last COMMIT left it, and the missed scatters in a row. -/
structure PointSt where
  word : Bool
  num : Nat
  lastGood : Option Word
  qual : Nat
  missed : Nat
  deriving DecidableEq, Repr

/-- The cycle engine (R117 to R155). `stopping` is a STOP under way (R33), `stopDue` a STOP that begins at the next cycle
boundary (R139); `startAt` the instant from which the first LATCHes are sought (R120); `peerOverrun` the classes that other
devices report overrun, `peerChecked` the reports that have arrived for the checks now due, by class and node (R131);
`committed` the output points as their last COMMIT left them, `heldRelease` that outputs released before a HALT hold
(R151). -/
structure CycleSt where
  classes : Vector ClassSt 8
  events : Vector EventSt 32
  points : List PointSt
  stopping : Bool
  stopDue : Bool
  startAt : Nat
  peerOverrun : Nat
  peerChecked : List (Nat × Nat)
  committed : WMap
  heldRelease : Bool
  deriving DecidableEq, Repr

/-- Folio state that no register shows. `prevSrc` is the always-on copy of the source of the folio in force (R20,
R82); `forward` the node that a FORWARD serves (R94) and `shelfA`, `shelfB` the node served on each loop (R86), each with
whether it has entered LOAD; `carry` the values
that an LZ7-compatible replacement carries (R304): new symbol, old symbol and the values of its members; `carryFrom` the
old folio and its units for the instances carried; `carryFresh` until the first start; `waiting` the mode (1 COLD, 2 WARM)
in which a device that waits at step 11 of R62, or for its start broadcast, will start; `bodies` the bodies of the
gatherings in force as they count for the program digest, each with its type and tag (R92, R97). -/
structure FolioSt where
  loading : Option FolioLoad
  content : Option FolioContent
  prevSrc : Option Nat
  forward : Option (Nat × Bool)
  shelfA : Option (Nat × Bool)
  shelfB : Option (Nat × Bool)
  carry : List (Nat × Symbol × List Nat)
  carryFrom : Option (FolioContent × List UnitSt)
  carryFresh : Bool
  waiting : Option Nat
  bodies : List (Nat × Nat × List Word)
  deriving DecidableEq, Repr

/-- A task as it runs on a core: STRUCT number of its unit, class or host class, event number, and whether a manager
placed it here (R273). -/
structure TaskRef where
  id : Nat
  cls : Nat
  event : Option Nat
  foreign : Bool
  deriving DecidableEq, Repr

/-- Who asked for a pass: the class at the start of SOLVE, or a task on a core by FCALL or FCALLP (R163, R164); `ended` is
a task's activation, or an event task's, that has ended with the pass still outstanding on its core. -/
inductive PassBy where
  | cls
  | ended (c : Nat) (event : Bool)
  | core (c : Nat) (task : TaskRef) (posted : Bool)
  deriving DecidableEq, Repr

/-- A pass that waits or runs on a quire (R165). -/
structure Pass where
  unit : Nat
  cls : Nat
  by' : PassBy
  deriving DecidableEq, Repr

/-- A quire: the pass that runs, with what it will write when it completes (unit state, R161), and those that wait
(R165); and its two configuration planes, each with the records of its units: the active one, which passes and reflex
leaves evaluate, and the staged one (R173). -/
structure QuireSt where
  running : Option Pass
  next : Option UnitSt
  waiting : List Pass
  active : List FabricUnit
  staged : List FabricUnit
  deriving DecidableEq, Repr

/-- The bit-logic fabric (R156 to R188): unit states, quires, and what the device drives on the fast pins: the pins
driven, their levels, and the driven pins on which an outside source overrides the drive (R175). -/
structure FabricSt where
  units : List UnitSt
  quires : Vector QuireSt 8
  drive : Nat
  level : Nat
  held : Nat
  deriving DecidableEq, Repr

/-- What a word core waits for (R164, R203, R222, R244, R248); `called` is a wait of FCALL or FWAIT that has ended while the
task was preempted, with the unit of a pass that a disabled quire ended (R246); `handle` the register that takes the outcome
(R248). -/
inductive CoreWait where
  | none
  | fcall (unit : Nat)
  | fwait
  | called (fail : Option Nat)
  | handle (d : Nat)
  | fence (scope : Nat)
  | remote (ea : Nat)
  deriving DecidableEq, Repr

/-- A preempted task: what the manual keeps with its context block beside words 0 to 61 (R210): what it waits for, its
posted fabric calls with those that a disabled quire ended, and the vector of its handler's first trap. No store error is
outstanding: preemption is a FENCE.C for the task (R260). -/
structure Saved where
  task : TaskRef
  wait : CoreWait
  posted : List (Nat × Bool)
  firstTrap : Nat
  deriving DecidableEq, Repr

/-- A word core (R189): every architectural register, the task that runs, the tasks that wait on it preempted (the
newest first) and ready (in order), and the states that the manual describes without a register: a pending imprecise
BUS trap (R207) with whether its error has arrived inside an instruction, posted fabric calls (R164), what the core waits for, and the vector of the first trap of
the handler that runs (R208). -/
structure Core where
  g : Vector Word 16
  x : Vector (BitVec 24) 8
  xs : Vector (BitVec 24) 8
  xr : Vector Word 8
  a : Vector (BitVec 80) 4
  rpc : Word
  rps : BitVec 24
  rpe : BitVec 24
  rpf : Bool
  sw : Word
  pc : BitVec 24
  tpc : BitVec 24
  tsw : Word
  tcause : Word
  tval : Word
  vbase : BitVec 24
  task : Option TaskRef
  preempted : List Saved
  ready : List TaskRef
  imprecise : Option Nat
  arrived : Bool
  posted : List (Nat × Bool)
  wait : CoreWait
  firstTrap : Nat
  deriving DecidableEq, Repr

/-- The house core (R211): its registers, and its private code and data memories of 32,768 words each, outside the word
address space. No command of the table is one of its instructions: what its firmware does is what the rules have the house
core do (log 121). -/
structure HouseSt where
  core : Core
  code : WMap
  data : WMap
  deriving DecidableEq, Repr

/-- The keys that the factory gives a unit, which no register shows in full and no reset changes (R79, R525, log 122): the
unit's private key, whose public key COL_UPUB holds, and the public key that the boot ROM checks images with. -/
structure IdentitySt where
  unitKey : Nat
  romKey : Nat × Nat
  deriving DecidableEq, Repr

/-- A change that the imposer has prepared (R269): the entries it moves with the device and place of each, its
trigger code, and the boundaries at which it could not switch. -/
structure Prepared where
  moves : List (Nat × Nat × Nat)
  trig : Nat
  failed : Nat
  deriving DecidableEq, Repr

/-- The imposer (R263 to R281): the sheet, a prepared change, boundaries counted since LOAD, per class the last 64 cycles
in which CYC_DONE exceeded three quarters of O − K (R267), the major periods in a row in which each bank stalled for more
than 1/64 of its clocks (R267). On a worker: the core units that a manager delivered here (R276) with the sizes of their
segments, and the deliveries that wait for a boundary, each with its core and the words of its segments. On a manager: the
units with the workers that hold their code, and the units that the last report of a worker counts, by node, core and
unit. A loss whose search is due at each boundary, and whether it is new since the last one. The
places of the measured values in the source of open values: of IMP_SENT3.MEAS since the last boundary, of IMP_BSTALL since
the last major period; none until the first since LOAD (log 130). -/
structure ImposerSt where
  sheet : List SheetEntry
  prepared : Option Prepared
  boundary : Nat
  slow : List (Nat × Nat)
  bankRuns : List Nat
  foreignUnits : List CoreUnit
  foreignSegs : List (Nat × Nat)
  arrivals : List (CoreUnit × Nat × List (Nat × List Word))
  delivered : List (Nat × Nat)
  counted : List (Nat × Nat × Nat)
  lossDue : Bool
  lossNew : Bool
  measSeed : Option Nat
  stallSeed : Option Nat
  deriving DecidableEq, Repr

/-- The imposer of a device that holds no folio. -/
def ImposerSt.fresh : ImposerSt := ⟨[], none, 0, [], [], [], [], [], [], [], false, false, none, none⟩

/-- A force command that waits for LATCHes: its port and the classes still to latch (R308). -/
structure ForceCmd where
  port : Nat
  classes : List Nat
  deriving DecidableEq, Repr

/-- The program that an online change replaced, kept until confirmation or undo (R284, R298), with the values of its
removed symbols by index. -/
structure OldProgram where
  content : FolioContent
  sheet : List SheetEntry
  units : List UnitSt
  values : List (Nat × List Nat)
  deriving DecidableEq, Repr

/-- Online change (R282 to R303): what is staged, the program as it will run with its sheet, the words written since the
background copy and in this major period, the boundary that the standby has
acknowledged with what it is for, the boundary that ARM names, a confirmation due, an undo due (1 commanded, 2 after a
fault, 3 at UNDOT), the program replaced, and the node a FORWARD serves. -/
structure OlcSt where
  staged : Option FolioImage
  next : Option FolioContent
  sheet : List SheetEntry
  dirty : List Nat
  period : List Nat
  acked : Option (Nat × OlcAct)
  armAt : Option Nat
  confirmDue : Bool
  undoDue : Nat
  old : Option OldProgram
  forward : Option Nat
  deriving DecidableEq, Repr

/-- A TMR channel's state (R462 to R464). -/
structure TmrSt where
  idx : Nat
  armed : Bool
  missed : Bool
  count : Nat
  next : Nat
  time : Nat
  deriving DecidableEq, Repr

/-- Network time (R450 to R464). LOC in nanoseconds with its fraction in 2^−32 ns; each domain in nanoseconds with
its fraction in units of 2^−32 × 10^−12 ns, and the offset its servo has still to slew away in 10^−6 ns; ΔA in
10^−6 ns; `active` is none until LOAD, when A equals LOC (R455); `good` counts Sync messages below 1 µs (R453); `tdvs`
holds the words of each TDV channel as of the last LATCH (R465). -/
structure TimeSt where
  loc : Nat
  locFrac : Nat
  dom : Vector Nat 2
  domFrac : Vector Nat 2
  domSlew : Vector Int 2
  delta : Int
  active : Option Nat
  notices : List TimeNotice
  good : Vector Nat 2
  tmrs : List TmrSt
  tdvs : List (Nat × List Word)
  deriving DecidableEq, Repr

/-- The calendar in the layouts of RTC_RDATE, RTC_RTIME and RTC_RSUB (R466 to R473), which of APPLY and SHIFT is
pending, whether an adjustment has just been made (R472), and the grains counted towards the next wake (R473). -/
structure CalendarSt where
  date : Nat
  time : Nat
  grain : Nat
  applyDue : Bool
  shiftDue : Option Int
  adjusted : Bool
  wakeCount : Nat
  deriving DecidableEq, Repr

/-- Watchdog state that cannot be read back (R479 to R487): the service token, the slot tokens, the counts C_c, the
windows that became effective without a failure, the grain at which HALT stopped the window and the grains by which it has
moved its limits, the grain of the last failure that the ladder took, and whether the next LATCH arms it. -/
structure WatchdogSt where
  token : Nat
  slotTokens : Vector Nat 16
  counts : Vector Nat 8
  goodWindows : Nat
  haltAt : Option Nat
  shift : Nat
  failedAt : Option Nat
  armDue : Bool
  deriving DecidableEq, Repr

/-- A shadow bank (R488): its data words by offset, and its completion mark when the mark is complete: SEQ, COUNT,
LAYOUT, and whether DCRC matches. COUNT outlives an incomplete mark. -/
structure Bank where
  data : WMap
  complete : Bool
  seq : Nat
  count : Nat
  layout : Nat
  intact : Bool
  deriving DecidableEq, Repr

/-- A running store (R490): whether recto is its target, the SEQ its mark will hold, the working copy as it stood
at the start (R491), and whether it ends RET_CMD. -/
structure StoreRun where
  toRecto : Bool
  seq : Nat
  data : WMap
  byCommand : Bool
  deriving DecidableEq, Repr

/-- The retain store (R488 to R497): both banks, a running store, a trigger waiting for its instant and whether it
ignores MINIV, whether a store completed since the last entry into RUN, whether MINIV seconds have still to pass since
the last store, and whether RET_CMD waits for a store that has not begun. -/
structure RetainSt where
  recto : Bank
  verso : Bank
  running : Option StoreRun
  waiting : Bool
  ignoreMinInterval : Bool
  storedSinceRun : Bool
  inInterval : Bool
  byCommand : Bool
  deriving DecidableEq, Repr

/-- A wide-counter group commit in progress (R501): the group's address and count, for each counter that changes its
index, whether the value is added, and the value; the port that waits for it. -/
structure GroupCommit where
  addr : Nat
  count : Nat
  changes : List (Nat × Bool × Nat)
  port : Option Nat
  deriving DecidableEq, Repr

/-- The keeper (R498 to R508): the writes accepted and not yet absorbed, oldest first, each with the word that the
array still holds; commits in progress; the staging sets of the ports; the upper words latched by KPR_PVL reads; the
layout digest and the persistent SYSTEM values. -/
structure KeeperSt where
  buffer : List (Nat × Word)
  commits : List GroupCommit
  staged : List (Nat × Nat × Nat)
  latched : Vector Word 9
  layout : List Word
  epoch : Nat
  forces : List Force
  forceDigest : List Word
  demandSeq : Nat
  groups : List CounterGroup
  deriving DecidableEq, Repr

/-- A record accepted into a store's buffer (R509, R512): words 1 to 6 by field. -/
structure RecEntry where
  code : Nat
  kind : Nat
  source : Nat
  times : Nat
  stampDate : Word
  stampTime : Word
  stampEpoch : Word
  detail0 : Word
  detail1 : Word
  deriving DecidableEq, Repr

/-- One record store (R510 to R517): the entries accepted and not yet written, whether the newest is held, the pending
loss count, and the persistent counts: the next SEQ, records lost since manufacture. -/
structure RecStore where
  queue : List RecEntry
  held : Bool
  pending : Nat
  next : Nat
  lost : Nat
  deriving DecidableEq, Repr

/-- An EVV view (R518, R519): ribbon, end, and records passed over. -/
structure RecView where
  idx : Nat
  ribbon : Nat
  stopAt : Option Nat
  skip : Nat
  deriving DecidableEq, Repr

/-- Fault journal and event recorder (R509 to R521). -/
structure RecordSt where
  journal : RecStore
  recorder : RecStore
  fullSince : Nat
  epBase : Nat
  epUsed : Nat
  textNext : Nat
  textCount : Nat
  views : List RecView
  deriving DecidableEq, Repr

/-- A channel of the field die (R375 to R393): the class word the die was configured with, the class words of a CTR
channel, the filtered state, the conditions that the die finds, the stage, the CDIAG bits that the next status
frame reports, whether a front-end test runs, and whether the front end samples pulsed (R377). -/
structure DieCh where
  cfg : Word
  ctr : List Word
  level : Bool
  broken : Bool
  latched : Bool
  ilim : Bool
  feed : Bool
  tcnt : Nat
  stage : Bool
  count : Nat
  diag : Nat
  testing : Bool
  pulsed : Bool
  deriving DecidableEq, Repr

/-- The supply phases of a group (R389). -/
inductive LPhase where
  | ok | missing | recovery | awaiting
  deriving DecidableEq, Repr

/-- A group of the field die, with what the next status frame reports: entries into L+ low, into L+ missing, ends of
recovery. -/
structure DieGroup where
  phase : LPhase
  low : Bool
  newLow : Nat
  newMissing : Nat
  newRecovered : Nat
  deriving DecidableEq, Repr

/-- The field die and the field interface (R14 to R16, R372 to R397). The die's side: channels, groups, whether it is
configured, its restart flag, link fallback, whether command frames are absent, whether it reports LINK_LOST, the last
frame's command, fallback-request, release and DRIVE bits, the frames since DRIVE became set, whether no frame has set the release since
its configuration, and latch-offs not yet
reported (channel, cause). The logic die's side: the command and fallback-request bits of the next frame, the
configuration due, acknowledgements due, consecutive missing status frames, whether the link was declared lost, whether
the die has marked its inputs BAD, and the quality of each output at its last COMMIT. -/
structure FieldSt where
  chans : Vector DieCh 32
  groups : Vector DieGroup 4
  configured : Bool
  restart : Bool
  fallback : Bool
  silent : Bool
  reportLost : Bool
  frCmd : Nat
  frFb : Nat
  frRelease : Bool
  frDrive : Bool
  driveAge : Nat
  startup : Bool
  latchOffs : List (Nat × Nat)
  cmd : Nat
  fbReq : Nat
  cfgDue : Bool
  ackDue : Nat
  lackDue : Nat
  missed : Nat
  linkLost : Bool
  inputsBad : Bool
  outQual : Vector Nat 32
  deriving DecidableEq, Repr

/-- A channel of a field die that has no configuration. -/
def DieCh.fresh : DieCh := ⟨0, [], false, false, false, false, false, 0, false, 0, 0, false, false⟩

/-- A field die without supply, and the field interface as reset leaves it. -/
def FieldSt.fresh : FieldSt :=
  ⟨Vector.replicate 32 DieCh.fresh, Vector.replicate 4 ⟨.missing, false, 0, 0, 0⟩, false, false, true, true, false, 0, 0,
   false, false, 0, false, [], 0, 0xFFFFFFFF, false, 0, 0, 0, false, false, Vector.replicate 32 3⟩

/-- A supply event in progress (R417): half cycles since it began and the extreme Urms(1/2) squared. -/
structure PqRun where
  halves : Nat
  extreme : Nat
  deriving DecidableEq, Repr

/-- A meter channel as the engine runs it (R404 to R420): the live totals and the residues below one unit in
10^−21 J, the image record of the last completed cycle and the instant it completed, periods out of range in a row,
whether an input was overranged in the cycle that runs, supply events by phase, runs of reversed, correct, displaced and
undisplaced cycles, and what the demand interval in progress has gathered (R416). -/
structure MeterCh where
  idx : Nat
  totals : List Nat
  residues : List Nat
  image : List Word
  cycleAt : Option Nat
  badPeriods : Nat
  ovr : Bool
  sag : List (Option PqRun)
  swell : List (Option PqRun)
  intr : Option PqRun
  revRun : Nat
  seqRun : Nat
  dispRun : Nat
  neutralRun : Nat
  begins : List Nat
  meteredNs : Nat
  qmask : Nat
  creep : Bool
  tstep : Bool
  gap : Bool
  part : Bool
  deriving DecidableEq, Repr

/-- A pulse-quantity channel (R421, R422): live total, the source's last count, whether the count has stopped, the rate
window, the last rate and interval quantity, and the demand interval in progress. -/
structure PqcCh where
  idx : Nat
  total : Nat
  lastCount : Nat
  stopped : Bool
  ticks : Nat
  pulses : Nat
  rate : Word
  quantity : Word
  begins : Nat
  meteredNs : Nat
  tstep : Bool
  gap : Bool
  part : Bool
  deriving DecidableEq, Repr

/-- The metering engine (R398 to R429): last samples of the inputs, test instants, channels, and the ladder-clock grain
of the last commit, which the keeper holds across resets. -/
structure MeterSt where
  samples : Vector Word 24
  fifo : List Nat
  chs : List MeterCh
  pqcs : List PqcCh
  lastCommit : Option Nat
  deriving DecidableEq, Repr

/-- A CANB channel as its controller holds it (R433 to R441): a request outstanding, whether it is marked for
cancellation (then its start-of-frame has been sent), whether its frame was in progress when the transmissions of bound
buffers stopped (R151, R446), and LOC at the last store. -/
structure CanBuf where
  idx : Nat
  pend : Bool
  marked : Bool
  begun : Bool
  lastRx : Option Nat
  deriving DecidableEq, Repr

/-- A CAN controller (R430 to R449): error counters beyond the 255 that CAN_ST shows, a recovery asked for, the
instants of data-field bit errors while sending one identifier, the consecutive acknowledgement errors, and the timing
in force (R449). -/
structure CanCtl where
  tec : Nat
  rec' : Nat
  recovering : Bool
  clashId : Nat
  clashTimes : List Nat
  noAck : Nat
  nbt : Word
  dbt : Word
  deriving DecidableEq, Repr

/-- The CAN controllers and their buffers. -/
structure CanSt where
  ctls : Vector CanCtl 4
  bufs : List CanBuf
  deriving DecidableEq, Repr

/-- A station channel (R561 to R567): its state (1 UP, 2 SILENT, 3 DROPPED), LOC at the last valid IN and the instant it
was tagged with, the inputs and qualities it carried, the last ACK, and the last OUT frame with the instant A at which
it had been sent whole. -/
structure StationCh where
  idx : Nat
  state : Nat
  lastIn : Option Nat
  tag : Option Nat
  bits : List Bool
  bitQ : List Nat
  words : List Word
  wordQ : List Nat
  ack : Nat
  out : List Nat
  outAt : Option Nat
  deriving DecidableEq, Repr

/-- An Ethernet port (R557 to R560): the gate list in force with the entry that runs, frames answered and forwarded. -/
structure EthPort where
  gates : List Nat
  entry : Nat
  answered : Nat
  forwarded : Nat
  deriving DecidableEq, Repr

/-- Stations and Ethernet: duplicate discard keeps source, sequence number and LOC (R559). -/
structure NetSt where
  stations : List StationCh
  ports : Vector EthPort 2
  dups : List (Nat × Nat × Nat)
  deriving DecidableEq, Repr

/-- The mirror port (R550 to R556): the copy that runs with the words it will show, what MIR_D carries (none:
high-impedance), and what drives MIR_IRQ_N low: a flip, a reply doorbell. -/
structure MirrorSt where
  copy : Option (List (Nat × Word))
  hold : Bool
  data : Option Word
  flipIrq : Bool
  replyIrq : Bool
  deriving DecidableEq, Repr

/-- The PCIe endpoint (R545 to R549): the levels of the vector sources and PCI_VPEND AND PCI_VMASK when they were last
brought up to date, the MSI-X table by double word and its pending bits, messages sent by vector, the last completion
(data, poisoned), and an access during reset still to be counted. -/
structure HostSt where
  seen : Nat
  driven : Nat
  table : List Nat
  pba : Nat
  sent : Vector Nat 32
  completion : Option (BitVec 64 × Bool)
  resetAccess : Bool
  deriving DecidableEq, Repr

/-- The debug ports (R569, R570): the TAP instruction in force, the word that the last scan shifts out, and the input that the
debug UART accepted. -/
structure DebugSt where
  instr : JtagInstr
  out : Option Word
  uart : List Nat
  deriving DecidableEq, Repr


/-- A write command of UPD_CMD that runs (R540, R542): 1 WRITE, 2 FOLWRITE, 3 DISTRIBUTE, 4 FOLWRITE of a shelf, and its
slot. -/
structure UpdWrite where
  code : Nat
  slot : Nat
  deriving DecidableEq, Repr

/-- Firmware slots (R535 to R542): the trial counters of the boot record, whether something since the trial boot forbids
confirmation (R538), whether an ACTIVATE waits for its switchover (R536), why the trial ended (R544: 2 TRIALMAX, 3 REJECT),
RAISE of the running image (R533), and the write that runs. -/
structure UpdSt where
  attempt : Nat
  pwrTry : Nat
  reason : Nat
  raises : Bool
  spoiled : Bool
  activateDue : Bool
  run : Option UpdWrite
  deriving DecidableEq, Repr

/-- What the acting manager knows of a node beside the node table (R325 to R327, R343): its last STATUS, the record of
its discovery, whether its checks passed, and whether it has been lost. -/
structure NodeSt where
  addr : Nat
  status : Option StatusMsg
  record : Option NodeRecord
  passed : Bool
  lost : Bool
  deriving DecidableEq, Repr

/-- A frame as this device last sent one of its type and class (R318): class 8 where it serves none. -/
structure SentFrame where
  type : Nat
  cls : Nat
  tref : Nat
  payload : List Word
  deriving DecidableEq, Repr

/-- A remote access on its way (R226, R341): master, window address, whether a store, target, the data of a store, and the bits
of the old word that it keeps and changes by the data: none in a plain store. -/
structure RemoteReq where
  master : Nat
  ea : Nat
  store : Bool
  dev : Nat
  addr : Nat
  value : Word
  keep : Word
  deriving DecidableEq, Repr

/-- The spine unit (R315 to R349): own address; per source and type the last sequence number accepted (R320); the frame
last forwarded; records of the discovery in progress; nodes; the start and the reset that a broadcast has named; scatter
payloads taken for a COMMIT; the gather runs that have arrived in this cycle by class and node; units whose RETURN has
arrived, and the cycles in a row without one by unit (R274); remote accesses outstanding and answered; a snapshot being copied; LOC at the last TICK, TICKs in a row within
bound, a time step due at a boundary (R327); LOC of the last STATUS of a node other than the
partner, and of the partner (R360); barriers completed by class; the decisions received for the cycles in
progress by class, 0 COMMIT, 1 SKIP, 2 STRETCH (R131); the frames last sent; a discovery in progress; whether this worker
releases on its own (R27). -/
structure SpineSt where
  addr : Nat
  lastSeq : List (Nat × Nat × Nat)
  forwarded : Option FrameHead
  records : List NodeRecord
  nodes : List NodeSt
  startAt : Option (Nat × Nat)
  releaseAt : Option Nat
  resetAt : Option (Nat × Bool)
  scatters : List (Nat × Nat × List Word)
  gathered : List (Nat × Nat)
  returned : List Nat
  missed : List (Nat × Nat)
  requests : List RemoteReq
  answers : List (Nat × Nat × Option Word)
  snapshot : Option WMap
  tickAt : Option Nat
  tickGood : Nat
  stepDue : Int
  heardOther : Option Nat
  heardPartner : Option Nat
  barriers : Nat
  decisions : List (Nat × Nat)
  sent : List SentFrame
  discovering : Bool
  releaseOwn : Bool
  deriving DecidableEq, Repr

/-- The twin unit (R350 to R371): the partner's last heartbeat and the one sent last; consecutive misses; whether loss
has been declared; TREF of a departure notice; the instant from which C_T is sought, whether for a takeover (the primary
yields otherwise); an ordered switchover; the partner's identity; sequence numbers; the classes whose TRKIN has arrived
in this cycle, and those whose deadline passed without; logged writes by class with the classes whose log is complete;
digests; mismatch runs since SYNCED was regained and the cycles since; whether a recopy followed mismatches; the copy's
words done; whether the fabric copy is awaited and the boundaries skipped; the grains of the withdrawals; whether
AUTOREJOIN is off until power-up and a rejoin is due; whether LOAD waits for the partner (R354); whether a
departing or yielding primary has reached its takeover instant (R362); the tracked control items as last sent, the items of
the last TRKCTL frame (R356), and a sheet of the primary that waits for the cycle boundary (R272). -/
structure TwinSt where
  heart : Option HeartMsg
  sentHeart : Option HeartMsg
  missed : Nat
  lost : Bool
  departAt : Option Nat
  takeFrom : Option Nat
  yieldFrom : Option Nat
  switchAt : Option Nat
  partner : Option PairId
  lastSeq : List (Nat × Nat)
  trkin : List (Nat × List PointValue)
  trkLate : Nat
  logs : List (Nat × List (Nat × Word))
  logDone : Nat
  ownDigest : Vector (Option Nat) 8
  peerDigest : Vector (Option Nat) 8
  recopied : Bool
  sinceSync : Nat
  copyDone : Nat
  fabricDue : Bool
  skipped : Nat
  withdrawals : List Nat
  rejoinOff : Bool
  rejoinDue : Bool
  waiting : Bool
  departed : Bool
  tracked : List TrkItem
  sentItems : List TrkItem
  sheetDue : Option (List SheetEntry)
  sent : List SentFrame
  deriving DecidableEq, Repr


/-- The first of the two writes that unlock an expert page (R114): the master and the block it named. -/
structure UnlockMemo where
  master : Nat
  block : Nat
  deriving DecidableEq, Repr

/-- The state of the LZ9. `pending` is the queue of commands that wait, first in, first out; `regs` the words of the
register space and `mem` the words of every other range of R602, both by word address; `poison` the words that an
uncorrectable error has poisoned (R255); `overridden` the expert fields in their overridden state by address and
lowest bit (R112); `free` counts the free values drawn (log 2). -/
structure State where
  pending : List Instr
  dev : Dev
  regs : WMap
  mem : WMap
  poison : List Nat
  overridden : List (Nat × Nat)
  unlock : Option UnlockMemo
  free : Nat
  power : PowerSt
  folio : FolioSt
  handles : HandleSt
  cycle : CycleSt
  fabric : FabricSt
  cores : Vector Core 8
  imposer : ImposerSt
  forces : List Force
  forceCmds : List ForceCmd
  olc : OlcSt
  time : TimeSt
  calendar : CalendarSt
  watchdog : WatchdogSt
  retain : RetainSt
  keeper : KeeperSt
  records : RecordSt
  field : FieldSt
  meter : MeterSt
  can : CanSt
  net : NetSt
  mirror : MirrorSt
  host : HostSt
  dbg : DebugSt
  upd : UpdSt
  spine : SpineSt
  twin : TwinSt
  house : HouseSt
  ids : IdentitySt
  deriving DecidableEq, Repr

/-- A core as it stands at reset and at each activation, VBASE apart (R189, R209). -/
def Core.fresh : Core where
  g := Vector.replicate 16 0
  x := Vector.replicate 8 0
  xs := Vector.replicate 8 0
  xr := Vector.replicate 8 0
  a := Vector.replicate 4 0
  rpc := 0
  rps := 0
  rpe := 0
  rpf := false
  sw := 0
  pc := 0
  tpc := 0
  tsw := 0
  tcause := 0
  tval := 0
  vbase := 0
  task := none
  preempted := []
  ready := []
  imprecise := none
  arrived := false
  posted := []
  wait := .none
  firstTrap := 0

/-- The house core as reset leaves it: at HOUSE level, its private memories empty. -/
def HouseSt.fresh : HouseSt := ⟨{ Core.fresh with sw := 0x40000 }, [], []⟩

/-- A class that has not latched. -/
def ClassSt.fresh : ClassSt :=
  ⟨.idle, 0, 0, 0, false, false, false, false, false, false, 0, [], none, [], [], []⟩

/-- A shadow bank that has never been stored to. -/
def Bank.fresh : Bank := ⟨[], false, 0, 0, 0, false⟩

/-- A record store of a unit that has recorded nothing: its next SEQ is 1 (R510). -/
def RecStore.fresh : RecStore := ⟨[], false, 0, 1, 0⟩

/-- The entries of the gate control lists: every gate open (R572). -/
def gateReset : WMap := (List.range 128).map fun e => (0xC11400 + e, 0xFF0000000)

/-- COL_UPUB of a unit whose private key is 1 (log 122). -/
def unitKeyReset : WMap :=
  [(0xC1A060, 0x6B17D1F2), (0xC1A061, 0xE12C4247), (0xC1A062, 0xF8BCE6E5), (0xC1A063, 0x63A440F2), (0xC1A064,
   0x77037D81), (0xC1A065, 0x2DEB33A0), (0xC1A066, 0xF4A13945), (0xC1A067, 0xD898C296), (0xC1A068, 0x4FE342E2),
   (0xC1A069, 0xFE1A7F9B), (0xC1A06A, 0x8EE7EB4A), (0xC1A06B, 0x7C0F9E16), (0xC1A06C, 0x2BCE3357), (0xC1A06D,
   0x6B315ECE), (0xC1A06E, 0xCBB64068), (0xC1A06F, 0x37BF51F5)]

/-- The registers that R609 gives a value other than 0 at reset, and the expert fields at their derived
values. COL_TYPE names a unit of type LZ9-484-M, grade -I, revision 1: which unit it is, the model chooses (log 123). -/
def regsReset : WMap :=
  [(0xC00000, 0x1), (0xC01002, 0x13), (0xC03000, 0x1), (0xC07203, 0x2),
   (0xC08010, 0xFF00), (0xC08020, 0xFF00), (0xC08030, 0xFF00), (0xC08040, 0xFF00), (0xC08050, 0xFF00),
   (0xC08060, 0xFF00), (0xC08070, 0xFF00), (0xC08080, 0xFF00), (0xC08090, 0xFF00), (0xC08200, 0x400),
   (0xC09200, 0x4022), (0xC0A200, 0xA3F), (0xC0B002, 0x1), (0xC0C200, 0x14), (0xC0D200, 0xA), (0xC0E201, 0x64),
   (0xC0F200, 0xA0320A10)] ++ gateReset ++
  [(0xC13200, 0x800000000), (0xC13201, 0xC800003E8), (0xC14000, 0x10), (0xC14004, 0x101), (0xC16200, 0x3C),
   (0xC1A000, 0x259110100)] ++ unitKeyReset ++
  [(0xC1B000, 0x800000000), (0xC1F003, 0x1C200)]

/-- The LZ9 as it enters BOOT after the always-on domain's power-up, in a unit whose non-volatile stores have never
been written (log 5): every register at the value of R609. -/
def State.reset : State where
  pending := []
  dev := .boot
  regs := regsReset
  mem := []
  poison := []
  overridden := []
  unlock := none
  free := 0
  power := ⟨false, false, false, false, 0, 0, 0, false, false, false, false, 0, 0, false, false, false⟩
  folio := ⟨none, none, none, none, none, none, [], none, false, none, []⟩
  handles := ⟨[], [], [], []⟩
  cycle := ⟨Vector.replicate 8 ClassSt.fresh, Vector.replicate 32 ⟨false, false, false, 0⟩, [], false, false, 0, 0, [], [], false⟩
  fabric := ⟨[], Vector.replicate 8 ⟨none, none, [], [], []⟩, 0, 0, 0⟩
  cores := Vector.replicate 8 Core.fresh
  imposer := ImposerSt.fresh
  forces := []
  forceCmds := []
  olc := ⟨none, none, [], [], [], none, none, false, 0, none, none⟩
  time := ⟨0, 0, Vector.replicate 2 0, Vector.replicate 2 0, Vector.replicate 2 0, 0, none, [], Vector.replicate 2 0, [], []⟩
  calendar := ⟨0x101, 0, 0, false, none, false, 0⟩
  watchdog := ⟨0, Vector.replicate 16 0, Vector.replicate 8 0, 0, none, 0, none, false⟩
  retain := ⟨Bank.fresh, Bank.fresh, none, false, false, false, false, false⟩
  keeper := ⟨[], [], [], Vector.replicate 9 0, [], 0, [], [], 0, []⟩
  records := ⟨RecStore.fresh, RecStore.fresh, 0, 0, 0, 0, 0, []⟩
  field := FieldSt.fresh
  meter := ⟨Vector.replicate 24 0, [], [], [], none⟩
  can := ⟨Vector.replicate 4 ⟨0, 0, false, 0, [], 0, 0, 0⟩, []⟩
  net := ⟨[], Vector.replicate 2 ⟨[], 0, 0, 0⟩, []⟩
  mirror := ⟨none, false, none, false, false⟩
  host := ⟨0, 0, List.replicate 128 0, 0, Vector.replicate 32 0, none, false⟩
  dbg := ⟨.idcode, none, []⟩
  upd := ⟨0, 0, 0, false, false, false, none⟩
  spine := ⟨0, [], none, [], [], none, none, none, [], [], [], [], [], [], none, none, 0, 0, none, none, 0, [], [], false, false⟩
  twin := ⟨none, none, 0, false, none, none, none, none, none, [], [], 0, [], 0, Vector.replicate 8 none, Vector.replicate 8 none, false, 0, 0, false, 0, [], false, false, false, false, [], [], none, []⟩
  house := HouseSt.fresh
  ids := ⟨1, curveG⟩

end Sys2Proof.Machine
end

