-- ==== Sys2Proof/Machine/Operands.lean ====
section
/-!
DEFINITION. Sys2Proof/Machine/Operands.lean: the memory descriptors of the Zhorex-36 (R197), ring addressing (R198),
and the registers of a core as instructions name them (R189, R215, R224).
-/
namespace Sys2Proof.Machine

/-- A general register by number. -/
def Core.gr (c : Core) (i : Nat) : Word := c.g.toList.getD i 0

/-- A general register written. -/
def Core.setG (c : Core) (i : Nat) (w : Word) : Core := { c with g := c.g.setIfInBounds i w }

/-- An address register by number. -/
def Core.xn (c : Core) (i : Nat) : BitVec 24 := c.x.toList.getD i 0

/-- An address register written. -/
def Core.setX (c : Core) (i : Nat) (v : BitVec 24) : Core := { c with x := c.x.setIfInBounds i v }

/-- An accumulator by number. -/
def Core.acc (c : Core) (i : Nat) : BitVec 80 := c.a.toList.getD i 0

/-- An accumulator written. -/
def Core.setAcc (c : Core) (i : Nat) (v : BitVec 80) : Core := { c with a := c.a.setIfInBounds i v }

/-- Ring addressing is on for Xn (R198). -/
def Core.ringOn (c : Core) (n : Nat) : Bool := (c.xr.toList.getD n 0).getLsbD 35

/-- The ring length of Xn (R198). -/
def Core.ringLen (c : Core) (n : Nat) : Nat := bitsOf (c.xr.toList.getD n 0) 0 17

/-- Whether a ring-control word may be written to XRn (R198, R7). -/
def ringLegal (w : Word) : Bool :=
  !w.getLsbD 35 || (decide (1 ≤ bitsOf w 0 17) && decide (bitsOf w 0 17 ≤ 65536))

/-- The smallest power of two at or above a length up to 65,536. -/
def ringSize (len : Nat) : Nat := if len ≤ 1 then 1 else 2 ^ (Nat.log2 (len - 1) + 1)

/-- The modify of Xn by a step (R198). -/
def Core.modifyX (c : Core) (n : Nat) (step : Int) : Core :=
  let x := (c.xn n).toNat
  if c.ringOn n then
    let len := c.ringLen n
    let base := x / ringSize len * ringSize len
    c.setX n (BitVec.ofNat 24 (base + (((x - base : Nat) : Int) + step).emod len |>.toNat))
  else c.setX n (BitVec.ofInt 24 ((x : Int) + step))

/-- Mode, register and argument of a memory descriptor (R197). -/
def mdMode (md : Nat) : Nat := md / 128 % 8
def mdReg (md : Nat) : Nat := md / 16 % 8
def mdArg (md : Nat) : Nat := md % 16

/-- A descriptor takes a literal word (R214). -/
def mdLiteral (md : Nat) : Bool := mdMode md == 7

/-- An immediate operand. -/
def mdImmediate (md : Nat) : Bool := mdMode md == 7 && mdArg md == 1

/-- A descriptor that R197 does not make ILLEGAL by its own bits: an argument where none is allowed, or an undefined
argument of mode 7. -/
def mdLegal (md : Nat) : Bool :=
  match mdMode md with
  | 0 | 1 | 2 | 3 => mdArg md == 0
  | 7 => decide (mdArg md ≤ 1)
  | _ => true

/-- An absolute literal word with nonzero bits [35:24] is ILLEGAL (R197). -/
def mdLitLegal (md : Nat) (lit : Word) : Bool :=
  !(mdMode md == 7 && mdArg md == 0) || bitsOf lit 24 12 == 0

/-- The effective address of a descriptor (R197); for an immediate it is not used. -/
def Core.ea (c : Core) (md : Nat) (lit : Word) : Nat :=
  let x := (c.xn (mdReg md)).toNat
  match mdMode md with
  | 4 => ((x : Int) + signedOf 4 (mdArg md)).emod (2 ^ 24 : Nat) |>.toNat
  | 5 | 6 => (x + bitsOf (c.gr (mdArg md)) 0 24) % 2 ^ 24
  | 7 => bitsOf lit 0 24
  | _ => x

/-- The address registers after a descriptor's modify (R197, R198). -/
def Core.mdModify (c : Core) (md : Nat) : Core :=
  let n := mdReg md
  match mdMode md with
  | 1 => c.modifyX n 1
  | 2 => c.modifyX n (-1)
  | 3 => c.modifyX n (c.xs.toList.getD n 0).toInt
  | 6 => c.modifyX n (signedOf 24 (bitsOf (c.gr (mdArg md)) 0 24))
  | _ => c

/-- Part `p` of an accumulator as a word (R189). -/
def accPart (a : BitVec 80) (p : Nat) : Word :=
  match p with
  | 0 => a.extractLsb' 0 36
  | 1 => a.extractLsb' 36 36
  | _ => (a.extractLsb' 72 8).signExtend 36

/-- An accumulator with one part replaced (R189). -/
def accPut (a : BitVec 80) (p : Nat) (w : Word) : BitVec 80 :=
  match p with
  | 0 => a.extractLsb' 36 44 ++ w
  | 1 => a.extractLsb' 72 8 ++ w ++ a.extractLsb' 0 36
  | _ => w.extractLsb' 0 8 ++ a.extractLsb' 0 72

/-- The special registers that MFS reads (R224). -/
def Core.special (c : Core) (sr : Nat) : Word :=
  if sr < 8 then (c.xn sr).setWidth 36
  else if sr < 16 then (c.xs.toList.getD (sr - 8) 0).signExtend 36
  else if sr < 24 then c.xr.toList.getD (sr - 16) 0
  else match sr with
    | 24 => c.rpc
    | 25 => c.rps.setWidth 36
    | 26 => c.rpe.setWidth 36
    | 27 => BitVec.ofNat 36 (bitNat c.rpf * 2 ^ 35)
    | 28 => c.sw
    | 29 => (c.pc + 1).setWidth 36
    | 48 => c.tpc.setWidth 36
    | 49 => c.tsw
    | 50 => c.tcause
    | 51 => c.tval
    | 52 => c.vbase.setWidth 36
    | _ => accPart (c.acc ((sr - 32) / 3)) ((sr - 32) % 3)

/-- The special register numbers that R224 assigns. -/
def srAssigned (sr : Nat) : Bool := decide (sr ≤ 29) || (decide (32 ≤ sr) && decide (sr ≤ 43)) ||
  (decide (48 ≤ sr) && decide (sr ≤ 52))

/-- A write to SW: PL and TH keep their values, reserved bits stay 0 (R190, R191). -/
def swWrite (old w : Word) : Word := (old &&& 0x70000) ||| (w &&& 0xFFFF)

/-- A special register written by MTS (R224): VBASE only at HOUSE level; a ring control that R198 excludes is
handled by the caller. -/
def Core.setSpecial (c : Core) (sr : Nat) (w : Word) : Core :=
  let lo : BitVec 24 := w.extractLsb' 0 24
  if sr < 8 then c.setX sr lo
  else if sr < 16 then { c with xs := c.xs.setIfInBounds (sr - 8) lo }
  else if sr < 24 then
    { c with xr := c.xr.setIfInBounds (sr - 16) (w &&& 0x80001FFFF) }
  else match sr with
    | 24 => { c with rpc := w }
    | 25 => { c with rps := lo }
    | 26 => { c with rpe := lo }
    | 27 => { c with rpf := w.msb }
    | 28 => { c with sw := swWrite c.sw w }
    | 48 => { c with tpc := lo }
    | 49 => { c with tsw := w }
    | 50 => { c with tcause := w }
    | 51 => { c with tval := w }
    | 52 => if swPL c.sw = 2 then { c with vbase := lo } else c
    | 29 => c
    | _ => c.setAcc ((sr - 32) / 3) (accPut (c.acc ((sr - 32) / 3)) ((sr - 32) % 3) w)

/-- The registers of a core in the order of its context block, words 0 to 61 (R210). -/
def Core.context (c : Core) : List Word :=
  c.g.toList ++ c.x.toList.map (·.setWidth 36) ++ c.xs.toList.map (·.signExtend 36) ++ c.xr.toList ++
    (c.a.toList.flatMap fun a => [accPart a 0, accPart a 1, accPart a 2]) ++
    [c.rpc, c.rps.setWidth 36, c.rpe.setWidth 36, BitVec.ofNat 36 (bitNat c.rpf * 2 ^ 35), c.sw,
     c.pc.setWidth 36, c.tpc.setWidth 36, c.tsw, c.tcause, c.tval]

/-- A core with its registers taken from a context block (R210). -/
def Core.fromContext (c : Core) (w : List Word) : Core :=
  let at' (i : Nat) : Word := w.getD i 0
  let lo (i : Nat) : BitVec 24 := (at' i).extractLsb' 0 24
  { c with
    g := Vector.ofFn fun i : Fin 16 => at' i
    x := Vector.ofFn fun i : Fin 8 => lo (16 + i)
    xs := Vector.ofFn fun i : Fin 8 => lo (24 + i)
    xr := Vector.ofFn fun i : Fin 8 => at' (32 + i)
    a := Vector.ofFn fun i : Fin 4 => (at' (42 + 3 * i)).extractLsb' 0 8 ++ at' (41 + 3 * i) ++ at' (40 + 3 * i)
    rpc := at' 52, rps := lo 53, rpe := lo 54, rpf := (at' 55).msb, sw := at' 56, pc := lo 57, tpc := lo 58,
    tsw := at' 59, tcause := at' 60, tval := at' 61 }

end Sys2Proof.Machine
end

