-- ==== Sys2Proof/Machine/Regs.lean ====
section
/-!
DEFINITION. Sys2Proof/Machine/Regs.lean: every register of the 32 blocks (R602 to R610), its fields by name, and the
access table: for each register its place, its nine-port arrangement where it has one, and for each field its bits,
its access type (R6), its reset or derived value and the codes it admits (R7). Block n lies at 16#00C0_0000 + 4,096 n.
-/
namespace Sys2Proof.Machine

/-- The access types of R6. -/
inductive Acc where
  | ro | rw | w1c | wo | rwl | rwx
  deriving DecidableEq, Repr

/-- A field in the access table: bits, type, reset or derived value, and the ranges of admitted codes (none listed:
every code is admitted). -/
structure FieldRow where
  lo : Nat
  width : Nat
  acc : Acc
  reset : Nat
  legal : List (Nat × Nat)
  deriving DecidableEq, Repr

/-- A register, or an array of registers: `count` groups of `inner` words, `stride` apart, from `base` on; `port`
marks the words that belong to one master each (R104). -/
structure RegRow where
  base : Nat
  count : Nat
  stride : Nat
  inner : Nat
  port : Bool
  fields : List FieldRow
  deriving DecidableEq, Repr

/-! SYS_STATE (R17) -/
def R.SYS_STATE_TAKEN : Fld := ⟨0xC00000, 15, 1⟩
def R.SYS_STATE_DEFER : Fld := ⟨0xC00000, 14, 1⟩
def R.SYS_STATE_FOLIO : Fld := ⟨0xC00000, 13, 1⟩
def R.SYS_STATE_DEMOTED : Fld := ⟨0xC00000, 12, 1⟩
def R.SYS_STATE_RELEASED : Fld := ⟨0xC00000, 11, 1⟩
def R.SYS_STATE_ROLE : Fld := ⟨0xC00000, 9, 2⟩
def R.SYS_STATE_MODE : Fld := ⟨0xC00000, 7, 2⟩
def R.SYS_STATE_STATE : Fld := ⟨0xC00000, 0, 4⟩
/-! SYS_CMD (R29) -/
def R.SYS_CMD_STATUS : Fld := ⟨0xC00001, 8, 4⟩
def R.SYS_CMD_CODE : Fld := ⟨0xC00001, 0, 4⟩
/-! SYS_ERR (R607) -/
def R.SYS_ERR_RSVD : Fld := ⟨0xC00002, 0, 1⟩
/-! SYS_ERRADR (R607) -/
def R.SYS_ERRADR_MASTER : Fld := ⟨0xC00003, 24, 5⟩
def R.SYS_ERRADR_ADDR : Fld := ⟨0xC00003, 0, 24⟩
/-! SYS_EXPERT (R113) -/
def R.SYS_EXPERT_KEY : Fld := ⟨0xC00008, 24, 12⟩
def R.SYS_EXPERT_OP : Fld := ⟨0xC00008, 6, 2⟩
def R.SYS_EXPERT_BLOCK : Fld := ⟨0xC00008, 0, 6⟩
/-! SYS_XPERM (R113) -/
def R.SYS_XPERM_PERM : Fld := ⟨0xC00009, 0, 32⟩
/-! SYS_XOPEN (R113) -/
def R.SYS_XOPEN_RESULT : Fld := ⟨0xC0000A, 34, 2⟩
def R.SYS_XOPEN_XIGN : Fld := ⟨0xC0000A, 33, 1⟩
def R.SYS_XOPEN_OPEN : Fld := ⟨0xC0000A, 0, 32⟩
/-! PWR_STAT (R44) -/
def R.PWR_STAT_PFACT : Fld := ⟨0xC01000, 10, 1⟩
def R.PWR_STAT_PFPIN : Fld := ⟨0xC01000, 9, 1⟩
def R.PWR_STAT_VBATLOW : Fld := ⟨0xC01000, 8, 1⟩
def R.PWR_STAT_WARN : Fld := ⟨0xC01000, 0, 8⟩
/-! PWR_EVT (R44) -/
def R.PWR_EVT_PFGLITCH : Fld := ⟨0xC01001, 9, 1⟩
def R.PWR_EVT_VBATLOW : Fld := ⟨0xC01001, 8, 1⟩
def R.PWR_EVT_WARN : Fld := ⟨0xC01001, 0, 8⟩
/-! PWR_PFCFG (R68) -/
def R.PWR_PFCFG_LOCK : Fld := ⟨0xC01002, 35, 1⟩
def R.PWR_PFCFG_PFSTORE : Fld := ⟨0xC01002, 4, 1⟩
def R.PWR_PFCFG_PFSRC : Fld := ⟨0xC01002, 0, 2⟩
/-! CLK_STAT (R47) -/
def R.CLK_STAT_RELOCKLATE : Fld := ⟨0xC02000, 9, 1⟩
def R.CLK_STAT_STOPPED : Fld := ⟨0xC02000, 8, 1⟩
def R.CLK_STAT_PCILOCK : Fld := ⟨0xC02000, 7, 1⟩
def R.CLK_STAT_LANELOCK : Fld := ⟨0xC02000, 6, 1⟩
def R.CLK_STAT_PERLOCK : Fld := ⟨0xC02000, 5, 1⟩
def R.CLK_STAT_TIMELOCK : Fld := ⟨0xC02000, 4, 1⟩
def R.CLK_STAT_CORELOCK : Fld := ⟨0xC02000, 3, 1⟩
def R.CLK_STAT_XINOK : Fld := ⟨0xC02000, 2, 1⟩
def R.CLK_STAT_RC32 : Fld := ⟨0xC02000, 1, 1⟩
def R.CLK_STAT_X32OK : Fld := ⟨0xC02000, 0, 1⟩
/-! CLK_NAP (R51) -/
def R.CLK_NAP_PGATE : Fld := ⟨0xC02001, 1, 1⟩
def R.CLK_NAP_PLLSTOP : Fld := ⟨0xC02001, 0, 1⟩
/-! CLK_GATE (R51) -/
def R.CLK_GATE_MTR : Fld := ⟨0xC02002, 25, 1⟩
def R.CLK_GATE_ETH : Fld := ⟨0xC02002, 23, 2⟩
def R.CLK_GATE_CAN : Fld := ⟨0xC02002, 19, 4⟩
def R.CLK_GATE_TWN : Fld := ⟨0xC02002, 18, 1⟩
def R.CLK_GATE_LANE : Fld := ⟨0xC02002, 16, 2⟩
def R.CLK_GATE_QUIRE : Fld := ⟨0xC02002, 8, 8⟩
def R.CLK_GATE_CORE : Fld := ⟨0xC02002, 0, 8⟩
/-! CLK_STOPS (R53) -/
def R.CLK_STOPS_COUNT : Fld := ⟨0xC02003, 0, 36⟩
/-! RST_CAUSE (R56) -/
def R.RST_CAUSE_DEFERRED : Fld := ⟨0xC03000, 15, 1⟩
def R.RST_CAUSE_DEFEXP : Fld := ⟨0xC03000, 14, 1⟩
def R.RST_CAUSE_RAIL : Fld := ⟨0xC03000, 13, 1⟩
def R.RST_CAUSE_CLKFAIL : Fld := ⟨0xC03000, 12, 1⟩
def R.RST_CAUSE_HOUSE : Fld := ⟨0xC03000, 11, 1⟩
def R.RST_CAUSE_DEBUG : Fld := ⟨0xC03000, 10, 1⟩
def R.RST_CAUSE_SPINE : Fld := ⟨0xC03000, 9, 1⟩
def R.RST_CAUSE_WDG : Fld := ⟨0xC03000, 8, 1⟩
def R.RST_CAUSE_CMDWARM : Fld := ⟨0xC03000, 7, 1⟩
def R.RST_CAUSE_CMDCOLD : Fld := ⟨0xC03000, 6, 1⟩
def R.RST_CAUSE_PINWARM : Fld := ⟨0xC03000, 5, 1⟩
def R.RST_CAUSE_PORST : Fld := ⟨0xC03000, 4, 1⟩
def R.RST_CAUSE_PFTORN : Fld := ⟨0xC03000, 3, 1⟩
def R.RST_CAUSE_PFAIL : Fld := ⟨0xC03000, 2, 1⟩
def R.RST_CAUSE_POWERUP : Fld := ⟨0xC03000, 1, 1⟩
def R.RST_CAUSE_AONPOR : Fld := ⟨0xC03000, 0, 1⟩
/-! RST_STRAP (R61) -/
def R.RST_STRAP_ROLE : Fld := ⟨0xC03001, 2, 2⟩
def R.RST_STRAP_BOOTSRC : Fld := ⟨0xC03001, 0, 2⟩
/-! FOL_STAT (R89) -/
def R.FOL_STAT_COMPAT : Fld := ⟨0xC04000, 22, 1⟩
def R.FOL_STAT_DIVERGED : Fld := ⟨0xC04000, 21, 1⟩
def R.FOL_STAT_FOLIO : Fld := ⟨0xC04000, 20, 1⟩
def R.FOL_STAT_SRC : Fld := ⟨0xC04000, 18, 2⟩
def R.FOL_STAT_PASS : Fld := ⟨0xC04000, 17, 1⟩
def R.FOL_STAT_BUSY : Fld := ⟨0xC04000, 16, 1⟩
def R.FOL_STAT_CAUSE : Fld := ⟨0xC04000, 0, 5⟩
/-! FOL_CMD (R93) -/
def R.FOL_CMD_STATUS : Fld := ⟨0xC04001, 8, 4⟩
def R.FOL_CMD_CODE : Fld := ⟨0xC04001, 0, 4⟩
/-! FOL_SRC (R94) -/
def R.FOL_SRC_MEMBER : Fld := ⟨0xC04002, 8, 1⟩
def R.FOL_SRC_LOOP : Fld := ⟨0xC04002, 7, 1⟩
def R.FOL_SRC_NODE : Fld := ⟨0xC04002, 2, 5⟩
def R.FOL_SRC_SRC : Fld := ⟨0xC04002, 0, 2⟩
/-! FOL_HADDR0 (R92) -/
def R.FOL_HADDR0_ADDR : Fld := ⟨0xC04003, 0, 32⟩
/-! FOL_HADDR1 (R92) -/
def R.FOL_HADDR1_ADDR : Fld := ⟨0xC04004, 0, 32⟩
/-! FOL_POS (R92) -/
def R.FOL_POS_POS : Fld := ⟨0xC04005, 0, 36⟩
/-! FOL_LEN (R92) -/
def R.FOL_LEN_LEN : Fld := ⟨0xC04006, 0, 36⟩
/-! FOL_BUILD0 (R92) -/
def R.FOL_BUILD0_BUILD : Fld := ⟨0xC04007, 0, 36⟩
/-! FOL_BUILD1 (R92) -/
def R.FOL_BUILD1_BUILD : Fld := ⟨0xC04008, 0, 36⟩
/-! FOL_DIGEST (R92) -/
def R.FOL_DIGEST_DIGEST (i : Nat) : Fld := ⟨0xC04010 + 1 * i, 0, 36⟩
/-! FOL_PDIGEST (R92) -/
def R.FOL_PDIGEST_DIGEST (i : Nat) : Fld := ⟨0xC04018 + 1 * i, 0, 36⟩
/-! HND_EPOCH (R102) -/
def R.HND_EPOCH_EPOCH : Fld := ⟨0xC05000, 0, 12⟩
/-! HND_POOL (R103) -/
def R.HND_POOL_USED (i : Nat) : Fld := ⟨0xC05011 + 1 * i, 18, 18⟩
def R.HND_POOL_SIZE (i : Nat) : Fld := ⟨0xC05011 + 1 * i, 0, 18⟩
/-! HND_PCMD (R104) -/
def R.HND_PCMD_STATUS (i : Nat) : Fld := ⟨0xC05040 + 32 * i, 8, 4⟩
def R.HND_PCMD_CODE (i : Nat) : Fld := ⟨0xC05040 + 32 * i, 0, 4⟩
/-! HND_PHND (R104) -/
def R.HND_PHND_HANDLE (i : Nat) : Fld := ⟨0xC05041 + 32 * i, 0, 36⟩
/-! HND_PERR (R104) -/
def R.HND_PERR_CODE (i : Nat) : Fld := ⟨0xC05042 + 32 * i, 0, 4⟩
/-! HND_PARG (R104) -/
def R.HND_PARG_CLASS (i : Nat) : Fld := ⟨0xC05043 + 32 * i, 30, 6⟩
def R.HND_PARG_ANY (i : Nat) : Fld := ⟨0xC05043 + 32 * i, 29, 1⟩
def R.HND_PARG_INDEX (i : Nat) : Fld := ⟨0xC05043 + 32 * i, 0, 18⟩
/-! HND_PBLK (R104) -/
def R.HND_PBLK_WORD (i j : Nat) : Fld := ⟨0xC05044 + 32 * i + j, 0, 36⟩
/-! CYC_STAT (R152) -/
def R.CYC_STAT_CONF : Fld := ⟨0xC06000, 24, 8⟩
def R.CYC_STAT_ACTIVE : Fld := ⟨0xC06000, 16, 8⟩
def R.CYC_STAT_HALTED : Fld := ⟨0xC06000, 8, 8⟩
def R.CYC_STAT_READY : Fld := ⟨0xC06000, 0, 8⟩
/-! CYC_EVT (R152) -/
def R.CYC_EVT_XWRITE : Fld := ⟨0xC06001, 35, 1⟩
def R.CYC_EVT_CLKLATE : Fld := ⟨0xC06001, 34, 1⟩
def R.CYC_EVT_EVMISS : Fld := ⟨0xC06001, 33, 1⟩
def R.CYC_EVT_TSTEP : Fld := ⟨0xC06001, 32, 1⟩
def R.CYC_EVT_FAULT : Fld := ⟨0xC06001, 24, 8⟩
def R.CYC_EVT_STRETCH : Fld := ⟨0xC06001, 16, 8⟩
def R.CYC_EVT_SKIP : Fld := ⟨0xC06001, 8, 8⟩
def R.CYC_EVT_OVR : Fld := ⟨0xC06001, 0, 8⟩
/-! CYC_ETSW (R155) -/
def R.CYC_ETSW_TRIG : Fld := ⟨0xC06002, 0, 32⟩
/-! CYC_CHKLEAD (R128) -/
def R.CYC_CHKLEAD_K : Fld := ⟨0xC06003, 0, 24⟩
/-! CYC_GAP (R126) -/
def R.CYC_GAP_GAP : Fld := ⟨0xC06004, 0, 24⟩
/-! CYC_MAJOR (R118) -/
def R.CYC_MAJOR_M : Fld := ⟨0xC06005, 0, 36⟩
/-! CYC_CFG (R152) -/
def R.CYC_CFG_SYSCHK : Fld := ⟨0xC06006, 1, 1⟩
def R.CYC_CFG_HALTOUT : Fld := ⟨0xC06006, 0, 1⟩
/-! CYC_PER (R153) -/
def R.CYC_PER_TICKS (i : Nat) : Fld := ⟨0xC06020 + 16 * i, 0, 15⟩
/-! CYC_OFS (R153) -/
def R.CYC_OFS_OFS (i : Nat) : Fld := ⟨0xC06021 + 16 * i, 0, 24⟩
/-! CYC_POL (R153) -/
def R.CYC_POL_SLIM (i : Nat) : Fld := ⟨0xC06022 + 16 * i, 16, 8⟩
def R.CYC_POL_HOLD (i : Nat) : Fld := ⟨0xC06022 + 16 * i, 12, 4⟩
def R.CYC_POL_OVRLIM (i : Nat) : Fld := ⟨0xC06022 + 16 * i, 4, 8⟩
def R.CYC_POL_FLTPOL (i : Nat) : Fld := ⟨0xC06022 + 16 * i, 2, 2⟩
def R.CYC_POL_OVRPOL (i : Nat) : Fld := ⟨0xC06022 + 16 * i, 0, 2⟩
/-! CYC_BG (R153) -/
def R.CYC_BG_BOUND (i : Nat) : Fld := ⟨0xC06023 + 16 * i, 0, 24⟩
/-! CYC_BS (R153) -/
def R.CYC_BS_BOUND (i : Nat) : Fld := ⟨0xC06024 + 16 * i, 0, 24⟩
/-! CYC_BX (R153) -/
def R.CYC_BX_BOUND (i : Nat) : Fld := ⟨0xC06025 + 16 * i, 0, 24⟩
/-! CYC_BD (R153) -/
def R.CYC_BD_BOUND (i : Nat) : Fld := ⟨0xC06026 + 16 * i, 0, 24⟩
/-! CYC_CNT (R153) -/
def R.CYC_CNT_COUNT (i : Nat) : Fld := ⟨0xC06027 + 16 * i, 0, 36⟩
/-! CYC_OVC (R153) -/
def R.CYC_OVC_OVR (i : Nat) : Fld := ⟨0xC06028 + 16 * i, 18, 18⟩
def R.CYC_OVC_SKIP (i : Nat) : Fld := ⟨0xC06028 + 16 * i, 0, 18⟩
/-! CYC_DONE (R153) -/
def R.CYC_DONE_DONE (i : Nat) : Fld := ⟨0xC06029 + 16 * i, 0, 24⟩
/-! CYC_PEAK (R153) -/
def R.CYC_PEAK_PEAK (i : Nat) : Fld := ⟨0xC0602A + 16 * i, 0, 24⟩
/-! CYC_CONS (R153) -/
def R.CYC_CONS_CONS (i : Nat) : Fld := ⟨0xC0602B + 16 * i, 0, 8⟩
/-! CYC_ETCFG (R155) -/
def R.CYC_ETCFG_EDGE (i : Nat) : Fld := ⟨0xC060C0 + 4 * i, 24, 2⟩
def R.CYC_ETCFG_SEL (i : Nat) : Fld := ⟨0xC060C0 + 4 * i, 12, 12⟩
def R.CYC_ETCFG_HOST (i : Nat) : Fld := ⟨0xC060C0 + 4 * i, 8, 3⟩
def R.CYC_ETCFG_SRC (i : Nat) : Fld := ⟨0xC060C0 + 4 * i, 4, 4⟩
def R.CYC_ETCFG_PRIO (i : Nat) : Fld := ⟨0xC060C0 + 4 * i, 0, 4⟩
/-! CYC_ETCNT (R155) -/
def R.CYC_ETCNT_RUNS (i : Nat) : Fld := ⟨0xC060C1 + 4 * i, 18, 18⟩
def R.CYC_ETCNT_MERGED (i : Nat) : Fld := ⟨0xC060C1 + 4 * i, 0, 18⟩
/-! CYC_ETTIM (R155) -/
def R.CYC_ETTIM_TIME (i : Nat) : Fld := ⟨0xC060C2 + 4 * i, 0, 36⟩
/-! CYC_XPOL (R154) -/
def R.CYC_XPOL_SLIM (i : Nat) : Fld := ⟨0xC06200 + 1 * i, 16, 8⟩
def R.CYC_XPOL_HOLD (i : Nat) : Fld := ⟨0xC06200 + 1 * i, 12, 4⟩
def R.CYC_XPOL_OVRLIM (i : Nat) : Fld := ⟨0xC06200 + 1 * i, 4, 8⟩
def R.CYC_XPOL_FLTPOL (i : Nat) : Fld := ⟨0xC06200 + 1 * i, 2, 2⟩
def R.CYC_XPOL_OVRPOL (i : Nat) : Fld := ⟨0xC06200 + 1 * i, 0, 2⟩
/-! FAB_STAT (R185) -/
def R.FAB_STAT_DIS : Fld := ⟨0xC07000, 24, 8⟩
def R.FAB_STAT_REFLEX : Fld := ⟨0xC07000, 16, 8⟩
def R.FAB_STAT_USED : Fld := ⟨0xC07000, 8, 8⟩
def R.FAB_STAT_STAGED : Fld := ⟨0xC07000, 0, 8⟩
/-! FAB_EVT (R185) -/
def R.FAB_EVT_SELERR : Fld := ⟨0xC07001, 13, 1⟩
def R.FAB_EVT_PINMIS : Fld := ⟨0xC07001, 12, 1⟩
def R.FAB_EVT_CALLERR : Fld := ⟨0xC07001, 11, 1⟩
def R.FAB_EVT_TRIP : Fld := ⟨0xC07001, 10, 1⟩
def R.FAB_EVT_STAGEERR : Fld := ⟨0xC07001, 9, 1⟩
def R.FAB_EVT_UNCORR : Fld := ⟨0xC07001, 8, 1⟩
def R.FAB_EVT_CORR : Fld := ⟨0xC07001, 0, 8⟩
/-! FAB_CORR (R183) -/
def R.FAB_CORR_COUNT : Fld := ⟨0xC07002, 0, 36⟩
/-! FAB_SCRUB (R183) -/
def R.FAB_SCRUB_COUNT : Fld := ⟨0xC07003, 0, 36⟩
/-! FAB_PINMODE0 (R181) -/
def R.FAB_PINMODE0_MODES : Fld := ⟨0xC07004, 0, 36⟩
/-! FAB_PINMODE1 (R181) -/
def R.FAB_PINMODE1_MODES : Fld := ⟨0xC07005, 0, 12⟩
/-! FAB_PINLVL (R182) -/
def R.FAB_PINLVL_LEVEL : Fld := ⟨0xC07006, 0, 24⟩
/-! FAB_PINFB (R181) -/
def R.FAB_PINFB_LEVEL : Fld := ⟨0xC07007, 0, 24⟩
/-! FAB_PINMIS (R182) -/
def R.FAB_PINMIS_MIS : Fld := ⟨0xC07008, 0, 24⟩
/-! FAB_TRIP (R178) -/
def R.FAB_TRIP_T : Fld := ⟨0xC07009, 0, 32⟩
/-! FAB_TRIPEVT (R178) -/
def R.FAB_TRIPEVT_EVT : Fld := ⟨0xC0700A, 0, 32⟩
/-! FAB_CSEL (R186) -/
def R.FAB_CSEL_KIND (i : Nat) : Fld := ⟨0xC07040 + 4 * i, 34, 2⟩
def R.FAB_CSEL_UNIT (i : Nat) : Fld := ⟨0xC07040 + 4 * i, 20, 9⟩
def R.FAB_CSEL_INDEX (i : Nat) : Fld := ⟨0xC07040 + 4 * i, 0, 11⟩
/-! FAB_CVAL (R186) -/
def R.FAB_CVAL_VALUE (i : Nat) : Fld := ⟨0xC07041 + 4 * i, 0, 36⟩
/-! FAB_PSEL (R186) -/
def R.FAB_PSEL_WHAT (i : Nat) : Fld := ⟨0xC07042 + 4 * i, 33, 3⟩
def R.FAB_PSEL_UNIT (i : Nat) : Fld := ⟨0xC07042 + 4 * i, 20, 9⟩
def R.FAB_PSEL_INDEX (i : Nat) : Fld := ⟨0xC07042 + 4 * i, 0, 15⟩
/-! FAB_PVAL (R186) -/
def R.FAB_PVAL_VALUE (i : Nat) : Fld := ⟨0xC07043 + 4 * i, 0, 36⟩
/-! FAB_QSTAT (R187) -/
def R.FAB_QSTAT_DIS (i : Nat) : Fld := ⟨0xC07100 + 8 * i, 35, 1⟩
def R.FAB_QSTAT_PLANE (i : Nat) : Fld := ⟨0xC07100 + 8 * i, 34, 1⟩
def R.FAB_QSTAT_STAGED (i : Nat) : Fld := ⟨0xC07100 + 8 * i, 33, 1⟩
def R.FAB_QSTAT_REFLEX (i : Nat) : Fld := ⟨0xC07100 + 8 * i, 32, 1⟩
def R.FAB_QSTAT_UNITS (i : Nat) : Fld := ⟨0xC07100 + 8 * i, 16, 7⟩
def R.FAB_QSTAT_LEAVES (i : Nat) : Fld := ⟨0xC07100 + 8 * i, 0, 16⟩
/-! FAB_QCELL (R187) -/
def R.FAB_QCELL_TIMERS (i : Nat) : Fld := ⟨0xC07101 + 8 * i, 16, 12⟩
def R.FAB_QCELL_COUNTERS (i : Nat) : Fld := ⟨0xC07101 + 8 * i, 0, 12⟩
/-! FAB_QPASS (R187) -/
def R.FAB_QPASS_PASSES (i : Nat) : Fld := ⟨0xC07102 + 8 * i, 0, 36⟩
/-! FAB_QBUSY (R187) -/
def R.FAB_QBUSY_BUSY (i : Nat) : Fld := ⟨0xC07103 + 8 * i, 0, 36⟩
/-! FAB_QMAX (R187) -/
def R.FAB_QMAX_LEVELS (i : Nat) : Fld := ⟨0xC07104 + 8 * i, 0, 9⟩
/-! FAB_XFILT0 (R188) -/
def R.FAB_XFILT0_FILT : Fld := ⟨0xC07200, 0, 36⟩
/-! FAB_XFILT1 (R188) -/
def R.FAB_XFILT1_FILT : Fld := ⟨0xC07201, 0, 12⟩
/-! FAB_XSCRUB (R188) -/
def R.FAB_XSCRUB_RATE : Fld := ⟨0xC07202, 0, 2⟩
/-! FAB_XMIS (R188) -/
def R.FAB_XMIS_TIME : Fld := ⟨0xC07203, 0, 5⟩
/-! ZC_CFG (R211) -/
def R.ZC_CFG_SAT : Fld := ⟨0xC08000, 1, 1⟩
def R.ZC_CFG_OVE : Fld := ⟨0xC08000, 0, 1⟩
/-! ZC_EVT (R211) -/
def R.ZC_EVT_DBGIGN : Fld := ⟨0xC08001, 17, 1⟩
def R.ZC_EVT_HLIM : Fld := ⟨0xC08001, 16, 1⟩
def R.ZC_EVT_DOUBLE : Fld := ⟨0xC08001, 8, 8⟩
def R.ZC_EVT_TRAP : Fld := ⟨0xC08001, 0, 8⟩
/-! ZC_STAT (R212) -/
def R.ZC_STAT_TASK (i : Nat) : Fld := ⟨0xC08010 + 16 * i, 8, 8⟩
def R.ZC_STAT_EVT (i : Nat) : Fld := ⟨0xC08010 + 16 * i, 7, 1⟩
def R.ZC_STAT_CLASS (i : Nat) : Fld := ⟨0xC08010 + 16 * i, 4, 3⟩
def R.ZC_STAT_TH (i : Nat) : Fld := ⟨0xC08010 + 16 * i, 3, 1⟩
def R.ZC_STAT_PL (i : Nat) : Fld := ⟨0xC08010 + 16 * i, 1, 2⟩
def R.ZC_STAT_BUSY (i : Nat) : Fld := ⟨0xC08010 + 16 * i, 0, 1⟩
/-! ZC_TCAUSE (R212) -/
def R.ZC_TCAUSE_TASK (i : Nat) : Fld := ⟨0xC08011 + 16 * i, 8, 8⟩
def R.ZC_TCAUSE_CAUSE (i : Nat) : Fld := ⟨0xC08011 + 16 * i, 0, 6⟩
/-! ZC_TPC (R212) -/
def R.ZC_TPC_PC (i : Nat) : Fld := ⟨0xC08012 + 16 * i, 0, 24⟩
/-! ZC_TVAL (R212) -/
def R.ZC_TVAL_VAL (i : Nat) : Fld := ⟨0xC08013 + 16 * i, 0, 36⟩
/-! ZC_TRAPS (R212) -/
def R.ZC_TRAPS_COUNT (i : Nat) : Fld := ⟨0xC08014 + 16 * i, 0, 36⟩
/-! ZC_RET (R212) -/
def R.ZC_RET_COUNT (i : Nat) : Fld := ⟨0xC08015 + 16 * i, 0, 36⟩
/-! ZC_STALL (R212) -/
def R.ZC_STALL_COUNT (i : Nat) : Fld := ⟨0xC08016 + 16 * i, 0, 36⟩
/-! ZC_BUSY (R212) -/
def R.ZC_BUSY_COUNT (i : Nat) : Fld := ⟨0xC08017 + 16 * i, 0, 36⟩
/-! ZC_XHLIM (R213) -/
def R.ZC_XHLIM_LIM : Fld := ⟨0xC08200, 0, 16⟩
/-! IMP_STAT (R279) -/
def R.IMP_STAT_FROZEN : Fld := ⟨0xC09000, 11, 1⟩
def R.IMP_STAT_STAGED : Fld := ⟨0xC09000, 10, 1⟩
def R.IMP_STAT_WAIT : Fld := ⟨0xC09000, 9, 1⟩
def R.IMP_STAT_REMOTE : Fld := ⟨0xC09000, 8, 1⟩
def R.IMP_STAT_LAST : Fld := ⟨0xC09000, 4, 4⟩
def R.IMP_STAT_TRIG : Fld := ⟨0xC09000, 0, 4⟩
/-! IMP_EVT (R279) -/
def R.IMP_EVT_FROZENLOSS : Fld := ⟨0xC09001, 6, 1⟩
def R.IMP_EVT_PINREF : Fld := ⟨0xC09001, 5, 1⟩
def R.IMP_EVT_ABANDON : Fld := ⟨0xC09001, 4, 1⟩
def R.IMP_EVT_NOFIT : Fld := ⟨0xC09001, 3, 1⟩
def R.IMP_EVT_LOSS : Fld := ⟨0xC09001, 2, 1⟩
def R.IMP_EVT_REMOTE : Fld := ⟨0xC09001, 1, 1⟩
def R.IMP_EVT_MOVED : Fld := ⟨0xC09001, 0, 1⟩
/-! IMP_SGEN (R279) -/
def R.IMP_SGEN_GEN : Fld := ⟨0xC09002, 0, 36⟩
/-! IMP_SCOUNT (R279) -/
def R.IMP_SCOUNT_COUNT : Fld := ⟨0xC09003, 0, 12⟩
/-! IMP_MOVES (R279) -/
def R.IMP_MOVES_COUNT : Fld := ⟨0xC09004, 0, 36⟩
/-! IMP_MEMEVT (R255) -/
def R.IMP_MEMEVT_COR : Fld := ⟨0xC09008, 2, 1⟩
def R.IMP_MEMEVT_UNC : Fld := ⟨0xC09008, 1, 1⟩
def R.IMP_MEMEVT_SCRUB : Fld := ⟨0xC09008, 0, 1⟩
/-! IMP_ECCCOR (R255) -/
def R.IMP_ECCCOR_COUNT : Fld := ⟨0xC09009, 0, 36⟩
/-! IMP_ECCUNC (R255) -/
def R.IMP_ECCUNC_COUNT : Fld := ⟨0xC0900A, 0, 36⟩
/-! IMP_ECCADR (R255) -/
def R.IMP_ECCADR_ADDR : Fld := ⟨0xC0900B, 0, 24⟩
/-! IMP_TAGS (R253) -/
def R.IMP_TAGS_PEAK : Fld := ⟨0xC0900C, 16, 9⟩
def R.IMP_TAGS_NOW : Fld := ⟨0xC0900C, 0, 9⟩
/-! IMP_PS (R265) -/
def R.IMP_PS_S (i : Nat) : Fld := ⟨0xC09010 + 1 * i, 0, 24⟩
/-! IMP_PMARG (R265) -/
def R.IMP_PMARG_MARG (i : Nat) : Fld := ⟨0xC09018 + 1 * i, 0, 24⟩
/-! IMP_BSTALL (R252) -/
def R.IMP_BSTALL_COUNT (i : Nat) : Fld := ⟨0xC09020 + 1 * i, 0, 36⟩
/-! IMP_SSEL (R280) -/
def R.IMP_SSEL_ENTRY (i : Nat) : Fld := ⟨0xC09040 + 8 * i, 0, 11⟩
/-! IMP_SENT0 (R279) -/
def R.IMP_SENT0_KIND (i : Nat) : Fld := ⟨0xC09041 + 8 * i, 33, 3⟩
def R.IMP_SENT0_PIN (i : Nat) : Fld := ⟨0xC09041 + 8 * i, 32, 1⟩
def R.IMP_SENT0_FOREIGN (i : Nat) : Fld := ⟨0xC09041 + 8 * i, 31, 1⟩
def R.IMP_SENT0_REMOTE (i : Nat) : Fld := ⟨0xC09041 + 8 * i, 30, 1⟩
def R.IMP_SENT0_LOOP (i : Nat) : Fld := ⟨0xC09041 + 8 * i, 29, 1⟩
def R.IMP_SENT0_NODE (i : Nat) : Fld := ⟨0xC09041 + 8 * i, 24, 5⟩
def R.IMP_SENT0_PLACE (i : Nat) : Fld := ⟨0xC09041 + 8 * i, 20, 4⟩
def R.IMP_SENT0_CLASS (i : Nat) : Fld := ⟨0xC09041 + 8 * i, 16, 3⟩
def R.IMP_SENT0_ID (i : Nat) : Fld := ⟨0xC09041 + 8 * i, 0, 16⟩
/-! IMP_SENT1 (R279) -/
def R.IMP_SENT1_BASE (i : Nat) : Fld := ⟨0xC09042 + 8 * i, 0, 24⟩
/-! IMP_SENT2 (R279) -/
def R.IMP_SENT2_MOVES (i : Nat) : Fld := ⟨0xC09043 + 8 * i, 18, 18⟩
def R.IMP_SENT2_SIZE (i : Nat) : Fld := ⟨0xC09043 + 8 * i, 0, 18⟩
/-! IMP_SENT3 (R279) -/
def R.IMP_SENT3_MEAS (i : Nat) : Fld := ⟨0xC09044 + 8 * i, 0, 24⟩
/-! IMP_XCFG (R281) -/
def R.IMP_XCFG_FREEZE : Fld := ⟨0xC09200, 35, 1⟩
def R.IMP_XCFG_NOREMOTE : Fld := ⟨0xC09200, 34, 1⟩
def R.IMP_XCFG_HOLD : Fld := ⟨0xC09200, 8, 8⟩
def R.IMP_XCFG_HYST : Fld := ⟨0xC09200, 4, 4⟩
def R.IMP_XCFG_MARGIN : Fld := ⟨0xC09200, 0, 4⟩
/-! IMP_XPIN (R281) -/
def R.IMP_XPIN_STATE (i : Nat) : Fld := ⟨0xC09400 + 1 * i, 34, 2⟩
def R.IMP_XPIN_PIN (i : Nat) : Fld := ⟨0xC09400 + 1 * i, 33, 1⟩
def R.IMP_XPIN_DEV (i : Nat) : Fld := ⟨0xC09400 + 1 * i, 24, 6⟩
def R.IMP_XPIN_PLACE (i : Nat) : Fld := ⟨0xC09400 + 1 * i, 20, 4⟩
/-! OLC_STAT (R313) -/
def R.OLC_STAT_TWCAUSE : Fld := ⟨0xC0A000, 24, 5⟩
def R.OLC_STAT_TRIES : Fld := ⟨0xC0A000, 18, 6⟩
def R.OLC_STAT_NOUNDO : Fld := ⟨0xC0A000, 17, 1⟩
def R.OLC_STAT_TWINRDY : Fld := ⟨0xC0A000, 16, 1⟩
def R.OLC_STAT_CAUSE : Fld := ⟨0xC0A000, 8, 5⟩
def R.OLC_STAT_STATE : Fld := ⟨0xC0A000, 0, 4⟩
/-! OLC_CMD (R282) -/
def R.OLC_CMD_STATUS : Fld := ⟨0xC0A001, 8, 4⟩
def R.OLC_CMD_AT : Fld := ⟨0xC0A001, 4, 1⟩
def R.OLC_CMD_CODE : Fld := ⟨0xC0A001, 0, 4⟩
/-! OLC_SRC (R282) -/
def R.OLC_SRC_MEMBER : Fld := ⟨0xC0A002, 8, 1⟩
def R.OLC_SRC_LOOP : Fld := ⟨0xC0A002, 7, 1⟩
def R.OLC_SRC_NODE : Fld := ⟨0xC0A002, 2, 5⟩
/-! OLC_HADDR0 (R282) -/
def R.OLC_HADDR0_ADDR : Fld := ⟨0xC0A003, 0, 32⟩
/-! OLC_HADDR1 (R282) -/
def R.OLC_HADDR1_ADDR : Fld := ⟨0xC0A004, 0, 32⟩
/-! OLC_SWAT (R286) -/
def R.OLC_SWAT_AT : Fld := ⟨0xC0A005, 0, 36⟩
/-! OLC_LAST (R289) -/
def R.OLC_LAST_AT : Fld := ⟨0xC0A006, 0, 36⟩
/-! OLC_PRED (R288) -/
def R.OLC_PRED_T : Fld := ⟨0xC0A007, 0, 24⟩
/-! OLC_COUNT (R289) -/
def R.OLC_COUNT_SWITCHES : Fld := ⟨0xC0A008, 18, 18⟩
def R.OLC_COUNT_UNDOS : Fld := ⟨0xC0A008, 0, 18⟩
/-! OLC_CFG (R299) -/
def R.OLC_CFG_UNDOT : Fld := ⟨0xC0A009, 16, 20⟩
def R.OLC_CFG_AUTOUNDO : Fld := ⟨0xC0A009, 1, 1⟩
/-! OLC_CONV (R292) -/
def R.OLC_CONV_COUNT : Fld := ⟨0xC0A00A, 0, 36⟩
/-! OLC_DIGEST (R285) -/
def R.OLC_DIGEST_DIGEST (i : Nat) : Fld := ⟨0xC0A010 + 1 * i, 0, 32⟩
/-! OLC_XCFG (R314) -/
def R.OLC_XCFG_LEAD : Fld := ⟨0xC0A200, 8, 8⟩
def R.OLC_XCFG_TRIES : Fld := ⟨0xC0A200, 0, 6⟩
/-! FRC_STAT (R310) -/
def R.FRC_STAT_LED : Fld := ⟨0xC0B000, 11, 1⟩
def R.FRC_STAT_COUNT : Fld := ⟨0xC0B000, 0, 11⟩
/-! FRC_EVT (R307) -/
def R.FRC_EVT_DROP : Fld := ⟨0xC0B001, 2, 1⟩
def R.FRC_EVT_REFUSE : Fld := ⟨0xC0B001, 1, 1⟩
def R.FRC_EVT_CHANGE : Fld := ⟨0xC0B001, 0, 1⟩
/-! FRC_CTL (R309) -/
def R.FRC_CTL_ENABLE : Fld := ⟨0xC0B002, 0, 1⟩
/-! FRC_PERM (R307) -/
def R.FRC_PERM_PERM : Fld := ⟨0xC0B003, 0, 9⟩
/-! FRC_DROPS (R312) -/
def R.FRC_DROPS_COUNT : Fld := ⟨0xC0B004, 0, 36⟩
/-! FRC_GEN (R311) -/
def R.FRC_GEN_GEN : Fld := ⟨0xC0B005, 0, 36⟩
/-! FRC_PCMD (R307) -/
def R.FRC_PCMD_STATUS (i : Nat) : Fld := ⟨0xC0B040 + 8 * i, 8, 4⟩
def R.FRC_PCMD_CODE (i : Nat) : Fld := ⟨0xC0B040 + 8 * i, 0, 4⟩
/-! FRC_PSYM (R307) -/
def R.FRC_PSYM_ELEM (i : Nat) : Fld := ⟨0xC0B041 + 8 * i, 18, 18⟩
def R.FRC_PSYM_SYM (i : Nat) : Fld := ⟨0xC0B041 + 8 * i, 0, 18⟩
/-! FRC_PVAL (R307) -/
def R.FRC_PVAL_VALUE (i : Nat) : Fld := ⟨0xC0B042 + 8 * i, 0, 36⟩
/-! FRC_PENT (R307) -/
def R.FRC_PENT_ENTRY (i : Nat) : Fld := ⟨0xC0B043 + 8 * i, 0, 10⟩
/-! FRC_PERR (R307) -/
def R.FRC_PERR_CODE (i : Nat) : Fld := ⟨0xC0B044 + 8 * i, 0, 4⟩
/-! FRC_PINFO (R307) -/
def R.FRC_PINFO_VALID (i : Nat) : Fld := ⟨0xC0B045 + 8 * i, 35, 1⟩
def R.FRC_PINFO_DIR (i : Nat) : Fld := ⟨0xC0B045 + 8 * i, 34, 1⟩
def R.FRC_PINFO_TYPE (i : Nat) : Fld := ⟨0xC0B045 + 8 * i, 31, 3⟩
def R.FRC_PINFO_SRCQ (i : Nat) : Fld := ⟨0xC0B045 + 8 * i, 29, 2⟩
def R.FRC_PINFO_POINT (i : Nat) : Fld := ⟨0xC0B045 + 8 * i, 0, 21⟩
/-! SPN_STAT (R346) -/
def R.SPN_STAT_NA : Fld := ⟨0xC0C000, 30, 6⟩
def R.SPN_STAT_NB : Fld := ⟨0xC0C000, 24, 6⟩
def R.SPN_STAT_SYNC : Fld := ⟨0xC0C000, 20, 1⟩
def R.SPN_STAT_ADMITTED : Fld := ⟨0xC0C000, 19, 1⟩
def R.SPN_STAT_ISOL : Fld := ⟨0xC0C000, 18, 1⟩
def R.SPN_STAT_ACTING : Fld := ⟨0xC0C000, 17, 1⟩
def R.SPN_STAT_LOOPA : Fld := ⟨0xC0C000, 15, 2⟩
def R.SPN_STAT_LOOPB : Fld := ⟨0xC0C000, 13, 2⟩
def R.SPN_STAT_CAUSE : Fld := ⟨0xC0C000, 8, 5⟩
/-! SPN_EVT (R346) -/
def R.SPN_EVT_RTO : Fld := ⟨0xC0C001, 10, 1⟩
def R.SPN_EVT_SNAPMISS : Fld := ⟨0xC0C001, 9, 1⟩
def R.SPN_EVT_BRX : Fld := ⟨0xC0C001, 8, 1⟩
def R.SPN_EVT_TPATH : Fld := ⟨0xC0C001, 7, 1⟩
def R.SPN_EVT_LATEDEC : Fld := ⟨0xC0C001, 6, 1⟩
def R.SPN_EVT_UNKNOWN : Fld := ⟨0xC0C001, 5, 1⟩
def R.SPN_EVT_ISOL : Fld := ⟨0xC0C001, 4, 1⟩
def R.SPN_EVT_LOST : Fld := ⟨0xC0C001, 3, 1⟩
def R.SPN_EVT_JOIN : Fld := ⟨0xC0C001, 2, 1⟩
def R.SPN_EVT_CABLE : Fld := ⟨0xC0C001, 1, 1⟩
def R.SPN_EVT_BREAK : Fld := ⟨0xC0C001, 0, 1⟩
/-! SPN_CFG (R326) -/
def R.SPN_CFG_ISOLIM : Fld := ⟨0xC0C002, 8, 16⟩
def R.SPN_CFG_ISOPOL : Fld := ⟨0xC0C002, 2, 1⟩
def R.SPN_CFG_JOIN : Fld := ⟨0xC0C002, 1, 1⟩
def R.SPN_CFG_HOSTING : Fld := ⟨0xC0C002, 0, 1⟩
/-! SPN_GOP (R335) -/
def R.SPN_GOP_SELF : Fld := ⟨0xC0C003, 23, 1⟩
def R.SPN_GOP_ALL : Fld := ⟨0xC0C003, 22, 1⟩
def R.SPN_GOP_TARGET : Fld := ⟨0xC0C003, 15, 7⟩
def R.SPN_GOP_STATUS : Fld := ⟨0xC0C003, 8, 4⟩
def R.SPN_GOP_CODE : Fld := ⟨0xC0C003, 0, 4⟩
/-! SPN_BTX (R336) -/
def R.SPN_BTX_WORD (i : Nat) : Fld := ⟨0xC0C004 + 1 * i, 0, 36⟩
/-! SPN_BRX (R336) -/
def R.SPN_BRX_WORD (i : Nat) : Fld := ⟨0xC0C008 + 1 * i, 0, 36⟩
/-! SPN_SNAPT (R334) -/
def R.SPN_SNAPT_INSTANT : Fld := ⟨0xC0C00C, 0, 36⟩
/-! SPN_SNAPCTL (R334) -/
def R.SPN_SNAPCTL_PERIOD : Fld := ⟨0xC0C00D, 16, 15⟩
def R.SPN_SNAPCTL_ARM : Fld := ⟨0xC0C00D, 0, 1⟩
/-! SPN_SNAPBASE (R334) -/
def R.SPN_SNAPBASE_ADDR : Fld := ⟨0xC0C00E, 0, 24⟩
/-! SPN_SNAPSEQ (R334) -/
def R.SPN_SNAPSEQ_SEQ : Fld := ⟨0xC0C00F, 0, 36⟩
/-! SPN_LANE (R321) -/
def R.SPN_LANE_CRCERR (i : Nat) : Fld := ⟨0xC0C010 + 1 * i, 18, 18⟩
def R.SPN_LANE_WRAP (i : Nat) : Fld := ⟨0xC0C010 + 1 * i, 2, 1⟩
def R.SPN_LANE_ALIGN (i : Nat) : Fld := ⟨0xC0C010 + 1 * i, 1, 1⟩
def R.SPN_LANE_LINK (i : Nat) : Fld := ⟨0xC0C010 + 1 * i, 0, 1⟩
/-! SPN_LDLY (R338) -/
def R.SPN_LDLY_DELAY (i : Nat) : Fld := ⟨0xC0C014 + 1 * i, 0, 16⟩
/-! SPN_TERR (R340) -/
def R.SPN_TERR_ERR : Fld := ⟨0xC0C018, 0, 18⟩
/-! SPN_HOPS (R320) -/
def R.SPN_HOPS_HOPS : Fld := ⟨0xC0C019, 0, 6⟩
/-! SPN_RSEL (R347) -/
def R.SPN_RSEL_EN (i : Nat) : Fld := ⟨0xC0C040 + 2 * i, 35, 1⟩
def R.SPN_RSEL_DEV (i : Nat) : Fld := ⟨0xC0C040 + 2 * i, 2, 7⟩
def R.SPN_RSEL_QUARTER (i : Nat) : Fld := ⟨0xC0C040 + 2 * i, 0, 2⟩
/-! SPN_RSTAT (R347) -/
def R.SPN_RSTAT_PEND (i : Nat) : Fld := ⟨0xC0C041 + 2 * i, 0, 36⟩
/-! SPN_NODE (R348) -/
def R.SPN_NODE_PRESENT (i : Nat) : Fld := ⟨0xC0C100 + 2 * i, 35, 1⟩
def R.SPN_NODE_ADMITTED (i : Nat) : Fld := ⟨0xC0C100 + 2 * i, 34, 1⟩
def R.SPN_NODE_EXPECTED (i : Nat) : Fld := ⟨0xC0C100 + 2 * i, 33, 1⟩
def R.SPN_NODE_REQUIRED (i : Nat) : Fld := ⟨0xC0C100 + 2 * i, 32, 1⟩
def R.SPN_NODE_STATE (i : Nat) : Fld := ⟨0xC0C100 + 2 * i, 28, 4⟩
def R.SPN_NODE_INDEX (i : Nat) : Fld := ⟨0xC0C100 + 2 * i, 22, 6⟩
def R.SPN_NODE_HOPS (i : Nat) : Fld := ⟨0xC0C100 + 2 * i, 16, 6⟩
/-! SPN_NODE1 (R348) -/
def R.SPN_NODE1_CAUSE (i : Nat) : Fld := ⟨0xC0C101 + 2 * i, 31, 5⟩
def R.SPN_NODE1_LOSSES (i : Nat) : Fld := ⟨0xC0C101 + 2 * i, 0, 18⟩
/-! SPN_XCFG (R349) -/
def R.SPN_XCFG_RTIME : Fld := ⟨0xC0C200, 0, 8⟩
/-! TWN_STAT (R370) -/
def R.TWN_STAT_PSTATE : Fld := ⟨0xC0D000, 27, 3⟩
def R.TWN_STAT_PRIMARY : Fld := ⟨0xC0D000, 26, 1⟩
def R.TWN_STAT_MEMBER : Fld := ⟨0xC0D000, 25, 1⟩
def R.TWN_STAT_LANES : Fld := ⟨0xC0D000, 23, 2⟩
def R.TWN_STAT_CAUSE : Fld := ⟨0xC0D000, 18, 5⟩
def R.TWN_STAT_PARTNER : Fld := ⟨0xC0D000, 0, 4⟩
/-! TWN_EVT (R370) -/
def R.TWN_EVT_LOGFULL : Fld := ⟨0xC0D001, 11, 1⟩
def R.TWN_EVT_SYNCED : Fld := ⟨0xC0D001, 10, 1⟩
def R.TWN_EVT_YIELD : Fld := ⟨0xC0D001, 9, 1⟩
def R.TWN_EVT_DEPART : Fld := ⟨0xC0D001, 8, 1⟩
def R.TWN_EVT_ALONE : Fld := ⟨0xC0D001, 7, 1⟩
def R.TWN_EVT_WITHDRAW : Fld := ⟨0xC0D001, 6, 1⟩
def R.TWN_EVT_TRKLATE : Fld := ⟨0xC0D001, 5, 1⟩
def R.TWN_EVT_MISMATCH : Fld := ⟨0xC0D001, 4, 1⟩
def R.TWN_EVT_LANE : Fld := ⟨0xC0D001, 3, 1⟩
def R.TWN_EVT_HBLOSS : Fld := ⟨0xC0D001, 2, 1⟩
def R.TWN_EVT_SWITCH : Fld := ⟨0xC0D001, 1, 1⟩
def R.TWN_EVT_TAKEOVER : Fld := ⟨0xC0D001, 0, 1⟩
/-! TWN_CMD (R365) -/
def R.TWN_CMD_STATUS : Fld := ⟨0xC0D002, 8, 4⟩
def R.TWN_CMD_CODE : Fld := ⟨0xC0D002, 0, 4⟩
/-! TWN_CFG (R354) -/
def R.TWN_CFG_WAIT : Fld := ⟨0xC0D003, 20, 16⟩
def R.TWN_CFG_MMLIM : Fld := ⟨0xC0D003, 12, 8⟩
def R.TWN_CFG_AUTOREJOIN : Fld := ⟨0xC0D003, 0, 1⟩
/-! TWN_TAKES (R362) -/
def R.TWN_TAKES_COUNT : Fld := ⟨0xC0D004, 0, 36⟩
/-! TWN_TTIME (R362) -/
def R.TWN_TTIME_INSTANT : Fld := ⟨0xC0D005, 0, 36⟩
/-! TWN_HBMISS (R352) -/
def R.TWN_HBMISS_COUNT : Fld := ⟨0xC0D006, 0, 36⟩
/-! TWN_COPY (R366) -/
def R.TWN_COPY_WORDS : Fld := ⟨0xC0D007, 0, 24⟩
/-! TWN_PSER0 (R355) -/
def R.TWN_PSER0_SERIAL : Fld := ⟨0xC0D008, 0, 32⟩
/-! TWN_PSER1 (R355) -/
def R.TWN_PSER1_SERIAL : Fld := ⟨0xC0D009, 0, 32⟩
/-! TWN_MM (R358) -/
def R.TWN_MM_TOTAL (i : Nat) : Fld := ⟨0xC0D010 + 1 * i, 18, 18⟩
def R.TWN_MM_CONS (i : Nat) : Fld := ⟨0xC0D010 + 1 * i, 0, 8⟩
/-! TWN_TRK (R357) -/
def R.TWN_TRK_ARRIVAL (i : Nat) : Fld := ⟨0xC0D018 + 1 * i, 0, 24⟩
/-! TWN_XHB (R371) -/
def R.TWN_XHB_HBLIM : Fld := ⟨0xC0D200, 0, 4⟩
/-! FIO_STAT (R395) -/
def R.FIO_STAT_AWAIT : Fld := ⟨0xC0E000, 12, 4⟩
def R.FIO_STAT_MISSING : Fld := ⟨0xC0E000, 8, 4⟩
def R.FIO_STAT_LOW : Fld := ⟨0xC0E000, 4, 4⟩
def R.FIO_STAT_DIEUP : Fld := ⟨0xC0E000, 3, 1⟩
def R.FIO_STAT_LINK : Fld := ⟨0xC0E000, 2, 1⟩
def R.FIO_STAT_RELEASE : Fld := ⟨0xC0E000, 1, 1⟩
def R.FIO_STAT_DRIVE : Fld := ⟨0xC0E000, 0, 1⟩
/-! FIO_EVT (R395) -/
def R.FIO_EVT_TESTDONE : Fld := ⟨0xC0E001, 15, 1⟩
def R.FIO_EVT_DIERST : Fld := ⟨0xC0E001, 14, 1⟩
def R.FIO_EVT_LINKLOST : Fld := ⟨0xC0E001, 13, 1⟩
def R.FIO_EVT_CHDIAG : Fld := ⟨0xC0E001, 12, 1⟩
def R.FIO_EVT_MISSING : Fld := ⟨0xC0E001, 8, 4⟩
def R.FIO_EVT_LOW : Fld := ⟨0xC0E001, 4, 4⟩
def R.FIO_EVT_RECOVERED : Fld := ⟨0xC0E001, 0, 4⟩
/-! FIO_ACK (R390) -/
def R.FIO_ACK_ACK : Fld := ⟨0xC0E002, 0, 4⟩
/-! FIO_LACK (R386) -/
def R.FIO_LACK_ACK : Fld := ⟨0xC0E003, 0, 32⟩
/-! FIO_TEST (R395) -/
def R.FIO_TEST_START : Fld := ⟨0xC0E004, 0, 32⟩
/-! FIO_GLP (R389) -/
def R.FIO_GLP_CURR (i : Nat) : Fld := ⟨0xC0E008 + 1 * i, 16, 12⟩
def R.FIO_GLP_VOLT (i : Nat) : Fld := ⟨0xC0E008 + 1 * i, 0, 12⟩
/-! FIO_GCNT (R389) -/
def R.FIO_GCNT_MISS (i : Nat) : Fld := ⟨0xC0E00C + 1 * i, 18, 18⟩
def R.FIO_GCNT_LOW (i : Nat) : Fld := ⟨0xC0E00C + 1 * i, 0, 18⟩
/-! FIO_CCFG (R396) -/
def R.FIO_CCFG_CFG (i : Nat) : Fld := ⟨0xC0E040 + 4 * i, 11, 25⟩
/-! FIO_CST (R396) -/
def R.FIO_CST_IOUT (i : Nat) : Fld := ⟨0xC0E041 + 4 * i, 24, 12⟩
def R.FIO_CST_QUAL (i : Nat) : Fld := ⟨0xC0E041 + 4 * i, 16, 2⟩
def R.FIO_CST_TCNT (i : Nat) : Fld := ⟨0xC0E041 + 4 * i, 12, 4⟩
def R.FIO_CST_LATCHED (i : Nat) : Fld := ⟨0xC0E041 + 4 * i, 7, 1⟩
def R.FIO_CST_ILIM (i : Nat) : Fld := ⟨0xC0E041 + 4 * i, 6, 1⟩
def R.FIO_CST_FEED (i : Nat) : Fld := ⟨0xC0E041 + 4 * i, 5, 1⟩
def R.FIO_CST_BREAK (i : Nat) : Fld := ⟨0xC0E041 + 4 * i, 4, 1⟩
def R.FIO_CST_STAGE (i : Nat) : Fld := ⟨0xC0E041 + 4 * i, 3, 1⟩
def R.FIO_CST_CMD (i : Nat) : Fld := ⟨0xC0E041 + 4 * i, 2, 1⟩
def R.FIO_CST_PIN (i : Nat) : Fld := ⟨0xC0E041 + 4 * i, 1, 1⟩
def R.FIO_CST_LEVEL (i : Nat) : Fld := ⟨0xC0E041 + 4 * i, 0, 1⟩
/-! FIO_CDIAG (R396) -/
def R.FIO_CDIAG_TESTFAIL (i : Nat) : Fld := ⟨0xC0E042 + 4 * i, 8, 1⟩
def R.FIO_CDIAG_CNTGAP (i : Nat) : Fld := ⟨0xC0E042 + 4 * i, 7, 1⟩
def R.FIO_CDIAG_OPENLOAD (i : Nat) : Fld := ⟨0xC0E042 + 4 * i, 6, 1⟩
def R.FIO_CDIAG_GOVL (i : Nat) : Fld := ⟨0xC0E042 + 4 * i, 5, 1⟩
def R.FIO_CDIAG_SHORT (i : Nat) : Fld := ⟨0xC0E042 + 4 * i, 4, 1⟩
def R.FIO_CDIAG_FEED (i : Nat) : Fld := ⟨0xC0E042 + 4 * i, 3, 1⟩
def R.FIO_CDIAG_BREAK (i : Nat) : Fld := ⟨0xC0E042 + 4 * i, 2, 1⟩
def R.FIO_CDIAG_CMP (i : Nat) : Fld := ⟨0xC0E042 + 4 * i, 1, 1⟩
def R.FIO_CDIAG_STALE (i : Nat) : Fld := ⟨0xC0E042 + 4 * i, 0, 1⟩
/-! FIO_CCNT (R396) -/
def R.FIO_CCNT_COUNT (i : Nat) : Fld := ⟨0xC0E043 + 4 * i, 0, 36⟩
/-! FIO_XAUTO (R397) -/
def R.FIO_XAUTO_AUTO : Fld := ⟨0xC0E200, 0, 4⟩
/-! FIO_XOLT (R397) -/
def R.FIO_XOLT_TIME : Fld := ⟨0xC0E201, 0, 16⟩
/-! MTR_STAT (R423) -/
def R.MTR_STAT_INFLT : Fld := ⟨0xC0F000, 8, 24⟩
def R.MTR_STAT_CLKON : Fld := ⟨0xC0F000, 4, 4⟩
def R.MTR_STAT_TEST : Fld := ⟨0xC0F000, 3, 1⟩
def R.MTR_STAT_RUN : Fld := ⟨0xC0F000, 0, 1⟩
/-! MTR_EVT (R423) -/
def R.MTR_EVT_TOVF : Fld := ⟨0xC0F001, 7, 1⟩
def R.MTR_EVT_GAP : Fld := ⟨0xC0F001, 6, 1⟩
def R.MTR_EVT_WRAP : Fld := ⟨0xC0F001, 5, 1⟩
def R.MTR_EVT_PQ : Fld := ⟨0xC0F001, 4, 1⟩
def R.MTR_EVT_INFLT : Fld := ⟨0xC0F001, 3, 1⟩
def R.MTR_EVT_OVR : Fld := ⟨0xC0F001, 2, 1⟩
def R.MTR_EVT_NOREF : Fld := ⟨0xC0F001, 1, 1⟩
def R.MTR_EVT_DEMAND : Fld := ⟨0xC0F001, 0, 1⟩
/-! MTR_CLK (R398) -/
def R.MTR_CLK_EN3 : Fld := ⟨0xC0F002, 31, 1⟩
def R.MTR_CLK_DIV3 : Fld := ⟨0xC0F002, 24, 4⟩
def R.MTR_CLK_EN2 : Fld := ⟨0xC0F002, 23, 1⟩
def R.MTR_CLK_DIV2 : Fld := ⟨0xC0F002, 16, 4⟩
def R.MTR_CLK_EN1 : Fld := ⟨0xC0F002, 15, 1⟩
def R.MTR_CLK_DIV1 : Fld := ⟨0xC0F002, 8, 4⟩
def R.MTR_CLK_EN0 : Fld := ⟨0xC0F002, 7, 1⟩
def R.MTR_CLK_DIV0 : Fld := ⟨0xC0F002, 0, 4⟩
/-! MTR_TSEL (R411) -/
def R.MTR_TSEL_EN : Fld := ⟨0xC0F003, 35, 1⟩
def R.MTR_TSEL_CH : Fld := ⟨0xC0F003, 8, 5⟩
def R.MTR_TSEL_ACC : Fld := ⟨0xC0F003, 0, 3⟩
/-! MTR_TK (R411) -/
def R.MTR_TK_K : Fld := ⟨0xC0F004, 0, 36⟩
/-! MTR_TFIFO (R411) -/
def R.MTR_TFIFO_VALID : Fld := ⟨0xC0F005, 35, 1⟩
def R.MTR_TFIFO_TIME : Fld := ⟨0xC0F005, 0, 35⟩
/-! MTR_TCNT (R411) -/
def R.MTR_TCNT_COUNT : Fld := ⟨0xC0F006, 0, 36⟩
/-! MTR_INCFG (R425) -/
def R.MTR_INCFG_KIND (i : Nat) : Fld := ⟨0xC0F020 + 4 * i, 33, 3⟩
def R.MTR_INCFG_HPF (i : Nat) : Fld := ⟨0xC0F020 + 4 * i, 32, 1⟩
def R.MTR_INCFG_INV (i : Nat) : Fld := ⟨0xC0F020 + 4 * i, 31, 1⟩
def R.MTR_INCFG_PHC (i : Nat) : Fld := ⟨0xC0F020 + 4 * i, 0, 14⟩
/-! MTR_INSCL (R425) -/
def R.MTR_INSCL_SCALE (i : Nat) : Fld := ⟨0xC0F021 + 4 * i, 0, 36⟩
/-! MTR_INOFS (R425) -/
def R.MTR_INOFS_OFS (i : Nat) : Fld := ⟨0xC0F022 + 4 * i, 0, 36⟩
/-! MTR_INST (R425) -/
def R.MTR_INST_OVRCNT (i : Nat) : Fld := ⟨0xC0F023 + 4 * i, 18, 18⟩
def R.MTR_INST_OVR (i : Nat) : Fld := ⟨0xC0F023 + 4 * i, 1, 1⟩
def R.MTR_INST_FAULT (i : Nat) : Fld := ⟨0xC0F023 + 4 * i, 0, 1⟩
/-! MTR_ASEL (R426) -/
def R.MTR_ASEL_PQ (i : Nat) : Fld := ⟨0xC0F080 + 4 * i, 35, 1⟩
def R.MTR_ASEL_INDEX (i : Nat) : Fld := ⟨0xC0F080 + 4 * i, 8, 6⟩
def R.MTR_ASEL_ACC (i : Nat) : Fld := ⟨0xC0F080 + 4 * i, 0, 3⟩
/-! MTR_AL (R426) -/
def R.MTR_AL_LOW (i : Nat) : Fld := ⟨0xC0F081 + 4 * i, 0, 36⟩
/-! MTR_AH (R426) -/
def R.MTR_AH_HIGH (i : Nat) : Fld := ⟨0xC0F082 + 4 * i, 0, 36⟩
/-! MTR_CST (R427) -/
def R.MTR_CST_QUAD (i : Nat) : Fld := ⟨0xC0F100 + 4 * i, 34, 2⟩
def R.MTR_CST_CREEP (i : Nat) : Fld := ⟨0xC0F100 + 4 * i, 33, 1⟩
def R.MTR_CST_NOREF (i : Nat) : Fld := ⟨0xC0F100 + 4 * i, 32, 1⟩
def R.MTR_CST_OVR (i : Nat) : Fld := ⟨0xC0F100 + 4 * i, 31, 1⟩
def R.MTR_CST_REV (i : Nat) : Fld := ⟨0xC0F100 + 4 * i, 30, 1⟩
def R.MTR_CST_MISSN (i : Nat) : Fld := ⟨0xC0F100 + 4 * i, 29, 1⟩
def R.MTR_CST_SAG (i : Nat) : Fld := ⟨0xC0F100 + 4 * i, 26, 3⟩
def R.MTR_CST_SWELL (i : Nat) : Fld := ⟨0xC0F100 + 4 * i, 23, 3⟩
def R.MTR_CST_INTR (i : Nat) : Fld := ⟨0xC0F100 + 4 * i, 22, 1⟩
/-! MTR_CEVT (R427) -/
def R.MTR_CEVT_WRAP (i : Nat) : Fld := ⟨0xC0F101 + 4 * i, 8, 8⟩
def R.MTR_CEVT_DEMAND (i : Nat) : Fld := ⟨0xC0F101 + 4 * i, 7, 1⟩
def R.MTR_CEVT_EV (i : Nat) : Fld := ⟨0xC0F101 + 4 * i, 0, 7⟩
/-! MTR_CFREQ (R427) -/
def R.MTR_CFREQ_FREQ (i : Nat) : Fld := ⟨0xC0F102 + 4 * i, 0, 36⟩
/-! MTR_CCYC (R427) -/
def R.MTR_CCYC_COUNT (i : Nat) : Fld := ⟨0xC0F103 + 4 * i, 0, 36⟩
/-! MTR_QST (R428) -/
def R.MTR_QST_QUAL (i : Nat) : Fld := ⟨0xC0F160 + 2 * i, 34, 2⟩
def R.MTR_QST_NOSRC (i : Nat) : Fld := ⟨0xC0F160 + 2 * i, 33, 1⟩
def R.MTR_QST_GAP (i : Nat) : Fld := ⟨0xC0F160 + 2 * i, 32, 1⟩
def R.MTR_QST_WRAP (i : Nat) : Fld := ⟨0xC0F160 + 2 * i, 31, 1⟩
/-! MTR_QCNT (R428) -/
def R.MTR_QCNT_COUNT (i : Nat) : Fld := ⟨0xC0F161 + 2 * i, 0, 36⟩
/-! MTR_XCFG (R429) -/
def R.MTR_XCFG_KSAVE : Fld := ⟨0xC0F200, 28, 8⟩
def R.MTR_XCFG_INTC : Fld := ⟨0xC0F200, 16, 8⟩
def R.MTR_XCFG_HPFC : Fld := ⟨0xC0F200, 8, 8⟩
def R.MTR_XCFG_FLTN : Fld := ⟨0xC0F200, 0, 8⟩
/-! CAN_STAT (R446) -/
def R.CAN_STAT_SLEEP : Fld := ⟨0xC10000, 8, 4⟩
def R.CAN_STAT_EVT : Fld := ⟨0xC10000, 4, 4⟩
def R.CAN_STAT_ON : Fld := ⟨0xC10000, 0, 4⟩
/-! CAN_CTL (R447) -/
def R.CAN_CTL_MODE (i : Nat) : Fld := ⟨0xC10010 + 8 * i, 33, 3⟩
def R.CAN_CTL_FDEN (i : Nat) : Fld := ⟨0xC10010 + 8 * i, 32, 1⟩
def R.CAN_CTL_XLEN (i : Nat) : Fld := ⟨0xC10010 + 8 * i, 31, 1⟩
def R.CAN_CTL_XLPWM (i : Nat) : Fld := ⟨0xC10010 + 8 * i, 30, 1⟩
def R.CAN_CTL_AUTOREC (i : Nat) : Fld := ⟨0xC10010 + 8 * i, 29, 1⟩
def R.CAN_CTL_RECOVER (i : Nat) : Fld := ⟨0xC10010 + 8 * i, 28, 1⟩
def R.CAN_CTL_WAKE (i : Nat) : Fld := ⟨0xC10010 + 8 * i, 26, 2⟩
/-! CAN_BR (R447) -/
def R.CAN_BR_NRATE (i : Nat) : Fld := ⟨0xC10011 + 8 * i, 25, 11⟩
def R.CAN_BR_NSP (i : Nat) : Fld := ⟨0xC10011 + 8 * i, 18, 7⟩
def R.CAN_BR_DRATE (i : Nat) : Fld := ⟨0xC10011 + 8 * i, 10, 8⟩
def R.CAN_BR_DSP (i : Nat) : Fld := ⟨0xC10011 + 8 * i, 3, 7⟩
/-! CAN_ST (R447) -/
def R.CAN_ST_ERRST (i : Nat) : Fld := ⟨0xC10012 + 8 * i, 34, 2⟩
def R.CAN_ST_SYNC (i : Nat) : Fld := ⟨0xC10012 + 8 * i, 33, 1⟩
def R.CAN_ST_TEC (i : Nat) : Fld := ⟨0xC10012 + 8 * i, 16, 8⟩
def R.CAN_ST_REC (i : Nat) : Fld := ⟨0xC10012 + 8 * i, 8, 8⟩
def R.CAN_ST_LEC (i : Nat) : Fld := ⟨0xC10012 + 8 * i, 0, 3⟩
/-! CAN_EVT (R447) -/
def R.CAN_EVT_WAKE (i : Nat) : Fld := ⟨0xC10013 + 8 * i, 9, 1⟩
def R.CAN_EVT_NOPART (i : Nat) : Fld := ⟨0xC10013 + 8 * i, 8, 1⟩
def R.CAN_EVT_CLASH (i : Nat) : Fld := ⟨0xC10013 + 8 * i, 7, 1⟩
def R.CAN_EVT_BUSOFF (i : Nat) : Fld := ⟨0xC10013 + 8 * i, 6, 1⟩
def R.CAN_EVT_PASSIVE (i : Nat) : Fld := ⟨0xC10013 + 8 * i, 5, 1⟩
def R.CAN_EVT_WARN (i : Nat) : Fld := ⟨0xC10013 + 8 * i, 4, 1⟩
def R.CAN_EVT_RXOVR (i : Nat) : Fld := ⟨0xC10013 + 8 * i, 3, 1⟩
def R.CAN_EVT_RXDROP (i : Nat) : Fld := ⟨0xC10013 + 8 * i, 2, 1⟩
def R.CAN_EVT_RECOVERED (i : Nat) : Fld := ⟨0xC10013 + 8 * i, 1, 1⟩
def R.CAN_EVT_ERR (i : Nat) : Fld := ⟨0xC10013 + 8 * i, 0, 1⟩
/-! CAN_WID (R447) -/
def R.CAN_WID_ID (i : Nat) : Fld := ⟨0xC10014 + 8 * i, 0, 30⟩
/-! CAN_WMSK (R447) -/
def R.CAN_WMSK_MASK (i : Nat) : Fld := ⟨0xC10015 + 8 * i, 0, 29⟩
/-! CAN_CNT (R447) -/
def R.CAN_CNT_TXOK (i : Nat) : Fld := ⟨0xC10016 + 8 * i, 18, 18⟩
def R.CAN_CNT_RXOK (i : Nat) : Fld := ⟨0xC10016 + 8 * i, 0, 18⟩
/-! CAN_ERRC (R447) -/
def R.CAN_ERRC_ERRS (i : Nat) : Fld := ⟨0xC10017 + 8 * i, 18, 18⟩
def R.CAN_ERRC_NOACK (i : Nat) : Fld := ⟨0xC10017 + 8 * i, 0, 8⟩
/-! CAN_PHND (R448) -/
def R.CAN_PHND_HANDLE (i : Nat) : Fld := ⟨0xC10040 + 2 * i, 0, 36⟩
/-! CAN_PCMD (R448) -/
def R.CAN_PCMD_STATUS (i : Nat) : Fld := ⟨0xC10041 + 2 * i, 8, 4⟩
def R.CAN_PCMD_ERR (i : Nat) : Fld := ⟨0xC10041 + 2 * i, 4, 4⟩
def R.CAN_PCMD_CODE (i : Nat) : Fld := ⟨0xC10041 + 2 * i, 0, 4⟩
/-! CAN_XNBT (R449) -/
def R.CAN_XNBT_NBRP (i : Nat) : Fld := ⟨0xC10200 + 4 * i, 27, 9⟩
def R.CAN_XNBT_NTSEG1 (i : Nat) : Fld := ⟨0xC10200 + 4 * i, 18, 9⟩
def R.CAN_XNBT_NTSEG2 (i : Nat) : Fld := ⟨0xC10200 + 4 * i, 10, 8⟩
def R.CAN_XNBT_NSJW (i : Nat) : Fld := ⟨0xC10200 + 4 * i, 0, 8⟩
/-! CAN_XDBT (R449) -/
def R.CAN_XDBT_DBRP (i : Nat) : Fld := ⟨0xC10201 + 4 * i, 30, 5⟩
def R.CAN_XDBT_DTSEG1 (i : Nat) : Fld := ⟨0xC10201 + 4 * i, 24, 6⟩
def R.CAN_XDBT_DTSEG2 (i : Nat) : Fld := ⟨0xC10201 + 4 * i, 16, 5⟩
def R.CAN_XDBT_DSJW (i : Nat) : Fld := ⟨0xC10201 + 4 * i, 8, 5⟩
def R.CAN_XDBT_TDCO (i : Nat) : Fld := ⟨0xC10201 + 4 * i, 0, 7⟩
/-! ETH_STAT (R557) -/
def R.ETH_STAT_LINK : Fld := ⟨0xC11000, 0, 2⟩
/-! ETH_EVT (R559) -/
def R.ETH_EVT_DUP : Fld := ⟨0xC11001, 3, 1⟩
def R.ETH_EVT_RED : Fld := ⟨0xC11001, 2, 1⟩
def R.ETH_EVT_LINK : Fld := ⟨0xC11001, 0, 2⟩
/-! ETH_CFG (R559) -/
def R.ETH_CFG_RED : Fld := ⟨0xC11002, 0, 2⟩
/-! ETH_PCFG (R571) -/
def R.ETH_PCFG_MODE (i : Nat) : Fld := ⟨0xC11010 + 16 * i, 34, 2⟩
def R.ETH_PCFG_AN (i : Nat) : Fld := ⟨0xC11010 + 16 * i, 33, 1⟩
/-! ETH_PST (R571) -/
def R.ETH_PST_SPEED (i : Nat) : Fld := ⟨0xC11011 + 16 * i, 1, 2⟩
def R.ETH_PST_LINK (i : Nat) : Fld := ⟨0xC11011 + 16 * i, 0, 1⟩
/-! ETH_MACH (R571) -/
def R.ETH_MACH_MAC (i : Nat) : Fld := ⟨0xC11012 + 16 * i, 0, 32⟩
/-! ETH_MACL (R571) -/
def R.ETH_MACL_MAC (i : Nat) : Fld := ⟨0xC11013 + 16 * i, 16, 16⟩
/-! ETH_IP (R571) -/
def R.ETH_IP_IP (i : Nat) : Fld := ⟨0xC11014 + 16 * i, 0, 32⟩
/-! ETH_PLAT (R571) -/
def R.ETH_PLAT_EGR (i : Nat) : Fld := ⟨0xC11015 + 16 * i, 18, 18⟩
def R.ETH_PLAT_ING (i : Nat) : Fld := ⟨0xC11015 + 16 * i, 0, 18⟩
/-! ETH_CNT (R571) -/
def R.ETH_CNT_DROP (i : Nat) : Fld := ⟨0xC11016 + 16 * i, 18, 18⟩
def R.ETH_CNT_CRCERR (i : Nat) : Fld := ⟨0xC11016 + 16 * i, 0, 18⟩
/-! ETH_XGCFG (R572) -/
def R.ETH_XGCFG_EN (i : Nat) : Fld := ⟨0xC11200 + 1 * i, 16, 1⟩
def R.ETH_XGCFG_LEN (i : Nat) : Fld := ⟨0xC11200 + 1 * i, 8, 7⟩
def R.ETH_XGCFG_CLASS (i : Nat) : Fld := ⟨0xC11200 + 1 * i, 0, 3⟩
/-! ETH_XGCL (R572) -/
def R.ETH_XGCL_GATES (i : Nat) : Fld := ⟨0xC11400 + 1 * i, 28, 8⟩
def R.ETH_XGCL_INTERVAL (i : Nat) : Fld := ⟨0xC11400 + 1 * i, 0, 24⟩
/-! STN_STAT (R566) -/
def R.STN_STAT_UP : Fld := ⟨0xC12000, 0, 9⟩
/-! STN_EVT (R566) -/
def R.STN_EVT_FMT : Fld := ⟨0xC12001, 2, 1⟩
def R.STN_EVT_RETURN : Fld := ⟨0xC12001, 1, 1⟩
def R.STN_EVT_DROP : Fld := ⟨0xC12001, 0, 1⟩
/-! STN_CFG (R561) -/
def R.STN_CFG_UDP : Fld := ⟨0xC12002, 16, 16⟩
def R.STN_CFG_ETYPE : Fld := ⟨0xC12002, 0, 16⟩
/-! STN_SYS (R561) -/
def R.STN_SYS_SYSID : Fld := ⟨0xC12003, 0, 16⟩
/-! STN_ST (R566) -/
def R.STN_ST_STATE (i : Nat) : Fld := ⟨0xC12100 + 1 * i, 34, 2⟩
def R.STN_ST_MISS (i : Nat) : Fld := ⟨0xC12100 + 1 * i, 18, 16⟩
def R.STN_ST_RX (i : Nat) : Fld := ⟨0xC12100 + 1 * i, 0, 18⟩
/-! NTM_STAT (R475) -/
def R.NTM_STAT_PEND : Fld := ⟨0xC13000, 8, 1⟩
def R.NTM_STAT_SLEW : Fld := ⟨0xC13000, 7, 1⟩
def R.NTM_STAT_ACT : Fld := ⟨0xC13000, 6, 1⟩
def R.NTM_STAT_Q1 : Fld := ⟨0xC13000, 3, 3⟩
def R.NTM_STAT_Q0 : Fld := ⟨0xC13000, 0, 3⟩
/-! NTM_EVT (R475) -/
def R.NTM_EVT_FREE : Fld := ⟨0xC13001, 5, 1⟩
def R.NTM_EVT_HOLD : Fld := ⟨0xC13001, 4, 1⟩
def R.NTM_EVT_LOCK : Fld := ⟨0xC13001, 3, 1⟩
def R.NTM_EVT_SWITCH : Fld := ⟨0xC13001, 2, 1⟩
def R.NTM_EVT_STEP : Fld := ⟨0xC13001, 1, 1⟩
def R.NTM_EVT_SRCLOSS : Fld := ⟨0xC13001, 0, 1⟩
/-! NTM_CMD (R456) -/
def R.NTM_CMD_STATUS : Fld := ⟨0xC13002, 8, 4⟩
def R.NTM_CMD_DOM : Fld := ⟨0xC13002, 4, 1⟩
def R.NTM_CMD_CODE : Fld := ⟨0xC13002, 0, 4⟩
/-! NTM_SETH (R457) -/
def R.NTM_SETH_VALUE : Fld := ⟨0xC13003, 0, 36⟩
/-! NTM_SETL (R457) -/
def R.NTM_SETL_VALUE : Fld := ⟨0xC13004, 0, 36⟩
/-! NTM_UTCOFS (R459) -/
def R.NTM_UTCOFS_OFS : Fld := ⟨0xC13005, 0, 16⟩
/-! NTM_DELTA (R456) -/
def R.NTM_DELTA_DELTA : Fld := ⟨0xC13006, 0, 36⟩
/-! NTM_DCFG (R453) -/
def R.NTM_DCFG_MODE (i : Nat) : Fld := ⟨0xC13010 + 4 * i, 33, 3⟩
def R.NTM_DCFG_PORTS (i : Nat) : Fld := ⟨0xC13010 + 4 * i, 31, 2⟩
def R.NTM_DCFG_PTPDOM (i : Nat) : Fld := ⟨0xC13010 + 4 * i, 24, 7⟩
def R.NTM_DCFG_TS (i : Nat) : Fld := ⟨0xC13010 + 4 * i, 23, 1⟩
def R.NTM_DCFG_HOLDLIM (i : Nat) : Fld := ⟨0xC13010 + 4 * i, 0, 16⟩
/-! NTM_DSTAT (R453) -/
def R.NTM_DSTAT_STATE (i : Nat) : Fld := ⟨0xC13011 + 4 * i, 33, 3⟩
def R.NTM_DSTAT_GM (i : Nat) : Fld := ⟨0xC13011 + 4 * i, 32, 1⟩
def R.NTM_DSTAT_STEPS (i : Nat) : Fld := ⟨0xC13011 + 4 * i, 0, 18⟩
/-! NTM_DOFS (R458) -/
def R.NTM_DOFS_OFS (i : Nat) : Fld := ⟨0xC13012 + 4 * i, 0, 36⟩
/-! NTM_DRATE (R455) -/
def R.NTM_DRATE_RATE (i : Nat) : Fld := ⟨0xC13013 + 4 * i, 0, 36⟩
/-! NTM_PSNAP (R476) -/
def R.NTM_PSNAP_TAKE (i : Nat) : Fld := ⟨0xC13040 + 8 * i, 35, 1⟩
def R.NTM_PSNAP_SEQ (i : Nat) : Fld := ⟨0xC13040 + 8 * i, 0, 18⟩
/-! NTM_PAH (R476) -/
def R.NTM_PAH_A (i : Nat) : Fld := ⟨0xC13041 + 8 * i, 0, 36⟩
/-! NTM_PAL (R476) -/
def R.NTM_PAL_A (i : Nat) : Fld := ⟨0xC13042 + 8 * i, 0, 36⟩
/-! NTM_PD0H (R476) -/
def R.NTM_PD0H_D0 (i : Nat) : Fld := ⟨0xC13043 + 8 * i, 0, 36⟩
/-! NTM_PD0L (R476) -/
def R.NTM_PD0L_D0 (i : Nat) : Fld := ⟨0xC13044 + 8 * i, 0, 36⟩
/-! NTM_PD1H (R476) -/
def R.NTM_PD1H_D1 (i : Nat) : Fld := ⟨0xC13045 + 8 * i, 0, 36⟩
/-! NTM_PD1L (R476) -/
def R.NTM_PD1L_D1 (i : Nat) : Fld := ⟨0xC13046 + 8 * i, 0, 36⟩
/-! NTM_PLOC (R476) -/
def R.NTM_PLOC_LOC (i : Nat) : Fld := ⟨0xC13047 + 8 * i, 0, 36⟩
/-! NTM_XINC (R477) -/
def R.NTM_XINC_INC : Fld := ⟨0xC13200, 0, 36⟩
/-! NTM_XSTEP (R477) -/
def R.NTM_XSTEP_SLEW : Fld := ⟨0xC13201, 28, 8⟩
def R.NTM_XSTEP_STEPTH : Fld := ⟨0xC13201, 0, 20⟩
/-! RTC_STAT (R466) -/
def R.RTC_STAT_SYNCED : Fld := ⟨0xC14000, 5, 1⟩
def R.RTC_STAT_INVALID : Fld := ⟨0xC14000, 4, 1⟩
def R.RTC_STAT_RCTIME : Fld := ⟨0xC14000, 3, 1⟩
def R.RTC_STAT_ARMED : Fld := ⟨0xC14000, 2, 1⟩
def R.RTC_STAT_PEND : Fld := ⟨0xC14000, 1, 1⟩
def R.RTC_STAT_WAKEON : Fld := ⟨0xC14000, 0, 1⟩
/-! RTC_EVT (R466) -/
def R.RTC_EVT_SYNCSTEP : Fld := ⟨0xC14001, 5, 1⟩
def R.RTC_EVT_WAKE : Fld := ⟨0xC14001, 4, 1⟩
def R.RTC_EVT_ALARM_SKIPPED : Fld := ⟨0xC14001, 3, 1⟩
def R.RTC_EVT_ALARM : Fld := ⟨0xC14001, 2, 1⟩
def R.RTC_EVT_SHIFTED : Fld := ⟨0xC14001, 1, 1⟩
def R.RTC_EVT_APPLIED : Fld := ⟨0xC14001, 0, 1⟩
/-! RTC_CMD (R467) -/
def R.RTC_CMD_DISARM : Fld := ⟨0xC14002, 3, 1⟩
def R.RTC_CMD_ARM : Fld := ⟨0xC14002, 2, 1⟩
def R.RTC_CMD_SHIFT : Fld := ⟨0xC14002, 1, 1⟩
def R.RTC_CMD_APPLY : Fld := ⟨0xC14002, 0, 1⟩
/-! RTC_SNAP (R466) -/
def R.RTC_SNAP_SEQ : Fld := ⟨0xC14003, 0, 18⟩
/-! RTC_RDATE (R466) -/
def R.RTC_RDATE_CENT : Fld := ⟨0xC14004, 28, 1⟩
def R.RTC_RDATE_WDAY : Fld := ⟨0xC14004, 24, 3⟩
def R.RTC_RDATE_YEAR : Fld := ⟨0xC14004, 16, 8⟩
def R.RTC_RDATE_MONTH : Fld := ⟨0xC14004, 8, 8⟩
def R.RTC_RDATE_DAY : Fld := ⟨0xC14004, 0, 8⟩
/-! RTC_RTIME (R466) -/
def R.RTC_RTIME_HOUR : Fld := ⟨0xC14005, 16, 8⟩
def R.RTC_RTIME_MIN : Fld := ⟨0xC14005, 8, 8⟩
def R.RTC_RTIME_SEC : Fld := ⟨0xC14005, 0, 8⟩
/-! RTC_RSUB (R466) -/
def R.RTC_RSUB_GRAIN : Fld := ⟨0xC14006, 0, 15⟩
/-! RTC_WDATE (R467) -/
def R.RTC_WDATE_CENT : Fld := ⟨0xC14007, 28, 1⟩
def R.RTC_WDATE_WDAY : Fld := ⟨0xC14007, 24, 3⟩
def R.RTC_WDATE_YEAR : Fld := ⟨0xC14007, 16, 8⟩
def R.RTC_WDATE_MONTH : Fld := ⟨0xC14007, 8, 8⟩
def R.RTC_WDATE_DAY : Fld := ⟨0xC14007, 0, 8⟩
/-! RTC_WTIME (R467) -/
def R.RTC_WTIME_HOUR : Fld := ⟨0xC14008, 16, 8⟩
def R.RTC_WTIME_MIN : Fld := ⟨0xC14008, 8, 8⟩
def R.RTC_WTIME_SEC : Fld := ⟨0xC14008, 0, 8⟩
/-! RTC_WSUB (R467) -/
def R.RTC_WSUB_GRAIN : Fld := ⟨0xC14009, 0, 15⟩
/-! RTC_SHIFT (R468) -/
def R.RTC_SHIFT_GRAINS : Fld := ⟨0xC1400A, 0, 16⟩
/-! RTC_ALDATE (R472) -/
def R.RTC_ALDATE_CENT : Fld := ⟨0xC1400B, 28, 1⟩
def R.RTC_ALDATE_YEAR : Fld := ⟨0xC1400B, 16, 8⟩
def R.RTC_ALDATE_MONTH : Fld := ⟨0xC1400B, 8, 8⟩
def R.RTC_ALDATE_DAY : Fld := ⟨0xC1400B, 0, 8⟩
/-! RTC_ALTIME (R472) -/
def R.RTC_ALTIME_HOUR : Fld := ⟨0xC1400C, 16, 8⟩
def R.RTC_ALTIME_MIN : Fld := ⟨0xC1400C, 8, 8⟩
def R.RTC_ALTIME_SEC : Fld := ⟨0xC1400C, 0, 8⟩
/-! RTC_WAKE (R473) -/
def R.RTC_WAKE_PERIOD : Fld := ⟨0xC1400D, 0, 24⟩
/-! RTC_CFG (R471) -/
def R.RTC_CFG_SYNC : Fld := ⟨0xC1400E, 0, 2⟩
/-! RTC_BKP (R474) -/
def R.RTC_BKP_BYTES (i : Nat) : Fld := ⟨0xC14010 + 1 * i, 0, 32⟩
/-! WDG_STAT (R479) -/
def R.WDG_STAT_CHECKED : Fld := ⟨0xC15000, 20, 16⟩
def R.WDG_STAT_RUNG : Fld := ⟨0xC15000, 18, 2⟩
def R.WDG_STAT_CLASS : Fld := ⟨0xC15000, 15, 3⟩
def R.WDG_STAT_SLOT : Fld := ⟨0xC15000, 11, 4⟩
def R.WDG_STAT_CAUSE : Fld := ⟨0xC15000, 8, 3⟩
def R.WDG_STAT_HELD : Fld := ⟨0xC15000, 2, 1⟩
def R.WDG_STAT_FIRST : Fld := ⟨0xC15000, 1, 1⟩
def R.WDG_STAT_ARMED : Fld := ⟨0xC15000, 0, 1⟩
/-! WDG_EVT (R479) -/
def R.WDG_EVT_UNENROL : Fld := ⟨0xC15001, 6, 1⟩
def R.WDG_EVT_RUNG1 : Fld := ⟨0xC15001, 5, 1⟩
def R.WDG_EVT_TOKEN : Fld := ⟨0xC15001, 4, 1⟩
def R.WDG_EVT_MISSING : Fld := ⟨0xC15001, 3, 1⟩
def R.WDG_EVT_DOUBLE : Fld := ⟨0xC15001, 2, 1⟩
def R.WDG_EVT_LATE : Fld := ⟨0xC15001, 1, 1⟩
def R.WDG_EVT_EARLY : Fld := ⟨0xC15001, 0, 1⟩
/-! WDG_SVC (R479) -/
def R.WDG_SVC_TOKEN : Fld := ⟨0xC15002, 0, 12⟩
/-! WDG_CHK (R481) -/
def R.WDG_CHK_SLOT : Fld := ⟨0xC15003, 12, 4⟩
def R.WDG_CHK_TOKEN : Fld := ⟨0xC15003, 0, 12⟩
/-! WDG_WIN (R479) -/
def R.WDG_WIN_OPEN : Fld := ⟨0xC15004, 18, 18⟩
def R.WDG_WIN_CLOSE : Fld := ⟨0xC15004, 0, 18⟩
/-! WDG_CFG (R485) -/
def R.WDG_CFG_ENABLE : Fld := ⟨0xC15005, 35, 1⟩
def R.WDG_CFG_NRES : Fld := ⟨0xC15005, 31, 4⟩
def R.WDG_CFG_R1MAX : Fld := ⟨0xC15005, 27, 4⟩
def R.WDG_CFG_SPAN : Fld := ⟨0xC15005, 16, 11⟩
/-! WDG_FIRST (R478) -/
def R.WDG_FIRST_LEN : Fld := ⟨0xC15006, 0, 18⟩
/-! WDG_WSTART (R479) -/
def R.WDG_WSTART_GRAIN : Fld := ⟨0xC15007, 0, 36⟩
/-! WDG_LADDER (R485) -/
def R.WDG_LADDER_SAFE : Fld := ⟨0xC15008, 35, 1⟩
def R.WDG_LADDER_K : Fld := ⟨0xC15008, 0, 4⟩
/-! WDG_LT1 (R485) -/
def R.WDG_LT1_GRAIN : Fld := ⟨0xC15009, 0, 36⟩
/-! WDG_LCLK (R484) -/
def R.WDG_LCLK_GRAIN : Fld := ⟨0xC1500A, 0, 36⟩
/-! WDG_RESETS (R485) -/
def R.WDG_RESETS_COUNT : Fld := ⟨0xC1500B, 0, 16⟩
/-! WDG_RUNG1 (R485) -/
def R.WDG_RUNG1_COUNT : Fld := ⟨0xC1500C, 0, 16⟩
/-! WDG_RUNG3 (R486) -/
def R.WDG_RUNG3_COUNT : Fld := ⟨0xC1500D, 0, 16⟩
/-! WDG_SLOT (R481) -/
def R.WDG_SLOT_EN (i : Nat) : Fld := ⟨0xC15010 + 1 * i, 35, 1⟩
def R.WDG_SLOT_CLASS (i : Nat) : Fld := ⟨0xC15010 + 1 * i, 32, 3⟩
def R.WDG_SLOT_EVT (i : Nat) : Fld := ⟨0xC15010 + 1 * i, 31, 1⟩
def R.WDG_SLOT_TASK (i : Nat) : Fld := ⟨0xC15010 + 1 * i, 0, 16⟩
/-! RET_STAT (R506) -/
def R.RET_STAT_BUSY : Fld := ⟨0xC16000, 15, 1⟩
def R.RET_STAT_DIRTY : Fld := ⟨0xC16000, 14, 1⟩
def R.RET_STAT_POSTP : Fld := ⟨0xC16000, 13, 1⟩
def R.RET_STAT_WEAR : Fld := ⟨0xC16000, 12, 1⟩
def R.RET_STAT_VALID : Fld := ⟨0xC16000, 10, 2⟩
def R.RET_STAT_NEXT : Fld := ⟨0xC16000, 8, 2⟩
def R.RET_STAT_SRC : Fld := ⟨0xC16000, 6, 2⟩
def R.RET_STAT_LAST : Fld := ⟨0xC16000, 0, 4⟩
/-! RET_EVT (R506) -/
def R.RET_EVT_WEAR : Fld := ⟨0xC16001, 6, 1⟩
def R.RET_EVT_VERIFY : Fld := ⟨0xC16001, 5, 1⟩
def R.RET_EVT_PROTWR : Fld := ⟨0xC16001, 4, 1⟩
def R.RET_EVT_TORN : Fld := ⟨0xC16001, 3, 1⟩
def R.RET_EVT_FALLBACK : Fld := ⟨0xC16001, 2, 1⟩
def R.RET_EVT_ABORT : Fld := ⟨0xC16001, 1, 1⟩
def R.RET_EVT_DONE : Fld := ⟨0xC16001, 0, 1⟩
/-! RET_CMD (R493) -/
def R.RET_CMD_STATUS : Fld := ⟨0xC16002, 8, 4⟩
def R.RET_CMD_CODE : Fld := ⟨0xC16002, 0, 4⟩
/-! RET_CFG (R492) -/
def R.RET_CFG_LOCK : Fld := ⟨0xC16003, 35, 1⟩
def R.RET_CFG_PROT : Fld := ⟨0xC16003, 16, 2⟩
def R.RET_CFG_PERIOD : Fld := ⟨0xC16003, 0, 16⟩
/-! RET_SEQR (R488) -/
def R.RET_SEQR_SEQ : Fld := ⟨0xC16004, 0, 36⟩
/-! RET_SEQV (R488) -/
def R.RET_SEQV_SEQ : Fld := ⟨0xC16005, 0, 36⟩
/-! RET_CNTR (R488) -/
def R.RET_CNTR_COUNT : Fld := ⟨0xC16006, 0, 36⟩
/-! RET_CNTV (R488) -/
def R.RET_CNTV_COUNT : Fld := ⟨0xC16007, 0, 36⟩
/-! RET_DUR (R490) -/
def R.RET_DUR_DUR : Fld := ⟨0xC16008, 0, 16⟩
/-! RET_XCFG (R507) -/
def R.RET_XCFG_MINIV : Fld := ⟨0xC16200, 0, 16⟩
/-! KPR_STAT (R507) -/
def R.KPR_STAT_BUSY : Fld := ⟨0xC17000, 7, 1⟩
def R.KPR_STAT_BUF : Fld := ⟨0xC17000, 0, 6⟩
/-! KPR_EVT (R507) -/
def R.KPR_EVT_WCBAD : Fld := ⟨0xC17001, 4, 1⟩
def R.KPR_EVT_TORN : Fld := ⟨0xC17001, 3, 1⟩
def R.KPR_EVT_UNC : Fld := ⟨0xC17001, 2, 1⟩
def R.KPR_EVT_COR : Fld := ⟨0xC17001, 1, 1⟩
def R.KPR_EVT_INIT : Fld := ⟨0xC17001, 0, 1⟩
/-! KPR_TORN (R504) -/
def R.KPR_TORN_COUNT : Fld := ⟨0xC17002, 0, 36⟩
/-! KPR_DSEQ (R504) -/
def R.KPR_DSEQ_SEQ : Fld := ⟨0xC17003, 0, 36⟩
/-! KPR_ECCCOR (R499) -/
def R.KPR_ECCCOR_COUNT : Fld := ⟨0xC17004, 0, 36⟩
/-! KPR_ECCUNC (R499) -/
def R.KPR_ECCUNC_COUNT : Fld := ⟨0xC17005, 0, 36⟩
/-! KPR_PSEL (R508) -/
def R.KPR_PSEL_KIND (i : Nat) : Fld := ⟨0xC17040 + 4 * i, 34, 2⟩
def R.KPR_PSEL_GROUP (i : Nat) : Fld := ⟨0xC17040 + 4 * i, 16, 10⟩
def R.KPR_PSEL_INDEX (i : Nat) : Fld := ⟨0xC17040 + 4 * i, 0, 3⟩
/-! KPR_PVL (R508) -/
def R.KPR_PVL_LOW (i : Nat) : Fld := ⟨0xC17041 + 4 * i, 0, 36⟩
/-! KPR_PVH (R508) -/
def R.KPR_PVH_HIGH (i : Nat) : Fld := ⟨0xC17042 + 4 * i, 0, 36⟩
/-! KPR_PCMD (R508) -/
def R.KPR_PCMD_STATUS (i : Nat) : Fld := ⟨0xC17043 + 4 * i, 8, 4⟩
def R.KPR_PCMD_ERR (i : Nat) : Fld := ⟨0xC17043 + 4 * i, 4, 4⟩
def R.KPR_PCMD_CODE (i : Nat) : Fld := ⟨0xC17043 + 4 * i, 0, 4⟩
/-! JNL_STAT (R520) -/
def R.JNL_STAT_FULL : Fld := ⟨0xC18000, 23, 1⟩
def R.JNL_STAT_HOLD : Fld := ⟨0xC18000, 22, 1⟩
def R.JNL_STAT_STAGED : Fld := ⟨0xC18000, 17, 5⟩
def R.JNL_STAT_COUNT : Fld := ⟨0xC18000, 0, 13⟩
/-! JNL_EVT (R520) -/
def R.JNL_EVT_LOST : Fld := ⟨0xC18001, 2, 1⟩
def R.JNL_EVT_FULL : Fld := ⟨0xC18001, 1, 1⟩
def R.JNL_EVT_NEW : Fld := ⟨0xC18001, 0, 1⟩
/-! JNL_FULLSINCE (R515) -/
def R.JNL_FULLSINCE_COUNT : Fld := ⟨0xC18002, 0, 36⟩
/-! JNL_LOST (R514) -/
def R.JNL_LOST_COUNT : Fld := ⟨0xC18003, 0, 36⟩
/-! EVR_STAT (R520) -/
def R.EVR_STAT_WRAPPED : Fld := ⟨0xC19000, 23, 1⟩
def R.EVR_STAT_QUEUE : Fld := ⟨0xC19000, 17, 5⟩
def R.EVR_STAT_HOLD : Fld := ⟨0xC19000, 16, 1⟩
def R.EVR_STAT_EP : Fld := ⟨0xC19000, 0, 11⟩
/-! EVR_EVT (R520) -/
def R.EVR_EVT_CLEARED : Fld := ⟨0xC19001, 3, 1⟩
def R.EVR_EVT_LOST : Fld := ⟨0xC19001, 2, 1⟩
def R.EVR_EVT_WRAP : Fld := ⟨0xC19001, 1, 1⟩
def R.EVR_EVT_NEW : Fld := ⟨0xC19001, 0, 1⟩
/-! EVR_NEXT (R516) -/
def R.EVR_NEXT_SEQ : Fld := ⟨0xC19002, 0, 36⟩
/-! EVR_EPBASE (R517) -/
def R.EVR_EPBASE_SEQ : Fld := ⟨0xC19003, 0, 36⟩
/-! EVR_TWR (R516) -/
def R.EVR_TWR_SLOT : Fld := ⟨0xC19004, 0, 14⟩
/-! EVR_LOST (R514) -/
def R.EVR_LOST_COUNT : Fld := ⟨0xC19005, 0, 36⟩
/-! EVR_CMD (R517) -/
def R.EVR_CMD_STATUS : Fld := ⟨0xC19006, 8, 4⟩
def R.EVR_CMD_CODE : Fld := ⟨0xC19006, 0, 4⟩
/-! EVR_PHND (R521) -/
def R.EVR_PHND_HANDLE (i : Nat) : Fld := ⟨0xC19040 + 16 * i, 0, 36⟩
/-! EVR_PCMD (R521) -/
def R.EVR_PCMD_STATUS (i : Nat) : Fld := ⟨0xC19041 + 16 * i, 8, 4⟩
def R.EVR_PCMD_ERR (i : Nat) : Fld := ⟨0xC19041 + 16 * i, 4, 4⟩
def R.EVR_PCMD_CODE (i : Nat) : Fld := ⟨0xC19041 + 16 * i, 0, 4⟩
/-! EVR_PRIB (R521) -/
def R.EVR_PRIB_RIBBON (i : Nat) : Fld := ⟨0xC19042 + 16 * i, 0, 36⟩
/-! EVR_PSKIP (R521) -/
def R.EVR_PSKIP_SKIP (i : Nat) : Fld := ⟨0xC19043 + 16 * i, 0, 36⟩
/-! EVR_PREC (R521) -/
def R.EVR_PREC_WORD (i j : Nat) : Fld := ⟨0xC19044 + 16 * i + j, 0, 36⟩
/-! COL_TYPE (R523) -/
def R.COL_TYPE_TYPE : Fld := ⟨0xC1A000, 0, 36⟩
/-! COL_SER0 (R522) -/
def R.COL_SER0_SERIAL : Fld := ⟨0xC1A001, 0, 32⟩
/-! COL_SER1 (R522) -/
def R.COL_SER1_SERIAL : Fld := ⟨0xC1A002, 0, 32⟩
/-! COL_KSTAT (R525) -/
def R.COL_KSTAT_OWNSIGN : Fld := ⟨0xC1A003, 8, 1⟩
def R.COL_KSTAT_STATE : Fld := ⟨0xC1A003, 0, 8⟩
/-! COL_MINSVN (R522) -/
def R.COL_MINSVN_SVN : Fld := ⟨0xC1A004, 0, 16⟩
/-! COL_CMD (R525) -/
def R.COL_CMD_STATUS : Fld := ⟨0xC1A005, 8, 4⟩
def R.COL_CMD_CODE : Fld := ⟨0xC1A005, 0, 4⟩
/-! COL_SBADR (R527) -/
def R.COL_SBADR_OFS : Fld := ⟨0xC1A006, 0, 16⟩
/-! COL_CMDCNT (R529) -/
def R.COL_CMDCNT_COUNT : Fld := ⟨0xC1A007, 0, 36⟩
/-! COL_CAUSE (R528) -/
def R.COL_CAUSE_CAUSE : Fld := ⟨0xC1A008, 0, 4⟩
/-! COL_CERTLEN (R522) -/
def R.COL_CERTLEN_LEN : Fld := ⟨0xC1A009, 0, 11⟩
/-! COL_OKEY (R525) -/
def R.COL_OKEY_KEY (i : Nat) : Fld := ⟨0xC1A020 + 1 * i, 0, 32⟩
/-! COL_UPUB (R522) -/
def R.COL_UPUB_KEY (i : Nat) : Fld := ⟨0xC1A060 + 1 * i, 0, 32⟩
/-! COL_CERT (R522) -/
def R.COL_CERT_BYTES (i : Nat) : Fld := ⟨0xC1A080 + 1 * i, 0, 32⟩
/-! COL_ANONCE (R543) -/
def R.COL_ANONCE_NONCE (i : Nat) : Fld := ⟨0xC1A180 + 1 * i, 0, 32⟩
/-! COL_ASIG (R543) -/
def R.COL_ASIG_SIG (i : Nat) : Fld := ⟨0xC1A188 + 1 * i, 0, 32⟩
/-! UPD_STAT (R535) -/
def R.UPD_STAT_S0 : Fld := ⟨0xC1B000, 33, 3⟩
def R.UPD_STAT_S1 : Fld := ⟨0xC1B000, 30, 3⟩
def R.UPD_STAT_RUNSLOT : Fld := ⟨0xC1B000, 29, 1⟩
def R.UPD_STAT_TRIAL : Fld := ⟨0xC1B000, 28, 1⟩
def R.UPD_STAT_CAUSE : Fld := ⟨0xC1B000, 24, 4⟩
def R.UPD_STAT_CHUNKS : Fld := ⟨0xC1B000, 18, 6⟩
def R.UPD_STAT_BUSY : Fld := ⟨0xC1B000, 17, 1⟩
/-! UPD_CMD (R540) -/
def R.UPD_CMD_STATUS : Fld := ⟨0xC1B001, 8, 4⟩
def R.UPD_CMD_KEEPFOLIO : Fld := ⟨0xC1B001, 7, 1⟩
def R.UPD_CMD_SELF : Fld := ⟨0xC1B001, 6, 1⟩
def R.UPD_CMD_SHELF : Fld := ⟨0xC1B001, 5, 1⟩
def R.UPD_CMD_SLOT : Fld := ⟨0xC1B001, 4, 1⟩
def R.UPD_CMD_CODE : Fld := ⟨0xC1B001, 0, 4⟩
/-! UPD_HADDR0 (R540) -/
def R.UPD_HADDR0_ADDR : Fld := ⟨0xC1B002, 0, 32⟩
/-! UPD_HADDR1 (R540) -/
def R.UPD_HADDR1_ADDR : Fld := ⟨0xC1B003, 0, 32⟩
/-! UPD_SVN (R533) -/
def R.UPD_SVN_SVN : Fld := ⟨0xC1B004, 0, 16⟩
/-! UPD_CFG (R539) -/
def R.UPD_CFG_TRIALMAX : Fld := ⟨0xC1B005, 20, 16⟩
def R.UPD_CFG_HOLD : Fld := ⟨0xC1B005, 0, 16⟩
/-! UPD_TRIALT (R537) -/
def R.UPD_TRIALT_SECS : Fld := ⟨0xC1B006, 0, 24⟩
/-! UPD_FWDIG (R533) -/
def R.UPD_FWDIG_DIGEST (i : Nat) : Fld := ⟨0xC1B010 + 1 * i, 0, 32⟩
/-! UPD_NODE (R542) -/
def R.UPD_NODE_STATE (i : Nat) : Fld := ⟨0xC1B100 + 1 * i, 33, 3⟩
def R.UPD_NODE_CAUSE (i : Nat) : Fld := ⟨0xC1B100 + 1 * i, 29, 4⟩
def R.UPD_NODE_CHUNKS (i : Nat) : Fld := ⟨0xC1B100 + 1 * i, 0, 6⟩
/-! PCI_STAT (R545) -/
def R.PCI_STAT_BME : Fld := ⟨0xC1C000, 7, 1⟩
def R.PCI_STAT_PERST : Fld := ⟨0xC1C000, 6, 1⟩
def R.PCI_STAT_WIDTH : Fld := ⟨0xC1C000, 4, 2⟩
def R.PCI_STAT_SPEED : Fld := ⟨0xC1C000, 2, 2⟩
def R.PCI_STAT_LINK : Fld := ⟨0xC1C000, 0, 1⟩
/-! PCI_EVT (R547) -/
def R.PCI_EVT_RESETRD : Fld := ⟨0xC1C001, 5, 1⟩
def R.PCI_EVT_POISON : Fld := ⟨0xC1C001, 4, 1⟩
def R.PCI_EVT_REFUSED : Fld := ⟨0xC1C001, 3, 1⟩
def R.PCI_EVT_UPPER : Fld := ⟨0xC1C001, 2, 1⟩
def R.PCI_EVT_PARTIAL : Fld := ⟨0xC1C001, 1, 1⟩
/-! PCI_ERRADR (R547) -/
def R.PCI_ERRADR_ADDR : Fld := ⟨0xC1C002, 0, 24⟩
/-! PCI_VPEND (R549) -/
def R.PCI_VPEND_PEND : Fld := ⟨0xC1C003, 0, 32⟩
/-! PCI_VMASK (R549) -/
def R.PCI_VMASK_MASK : Fld := ⟨0xC1C004, 0, 32⟩
/-! PCI_IRQEN (R549) -/
def R.PCI_IRQEN_EN : Fld := ⟨0xC1C005, 0, 32⟩
/-! PCI_SWINT (R549) -/
def R.PCI_SWINT_RAISE : Fld := ⟨0xC1C006, 24, 8⟩
/-! MIR_STAT (R554) -/
def R.MIR_STAT_HOLD : Fld := ⟨0xC1D000, 3, 1⟩
def R.MIR_STAT_CLASS : Fld := ⟨0xC1D000, 0, 3⟩
/-! MIR_EVT (R551) -/
def R.MIR_EVT_HOLDEXP : Fld := ⟨0xC1D001, 4, 1⟩
def R.MIR_EVT_SKIP : Fld := ⟨0xC1D001, 3, 1⟩
def R.MIR_EVT_UNC : Fld := ⟨0xC1D001, 2, 1⟩
def R.MIR_EVT_WIGN : Fld := ⟨0xC1D001, 1, 1⟩
def R.MIR_EVT_DOOR : Fld := ⟨0xC1D001, 0, 1⟩
/-! MIR_CFG (R553) -/
def R.MIR_CFG_EN : Fld := ⟨0xC1D002, 35, 1⟩
def R.MIR_CFG_CLASS : Fld := ⟨0xC1D002, 0, 3⟩
/-! MIR_FLIPS (R553) -/
def R.MIR_FLIPS_COUNT : Fld := ⟨0xC1D003, 0, 36⟩
/-! MIR_DOORS (R555) -/
def R.MIR_DOORS_COUNT : Fld := ⟨0xC1D004, 0, 36⟩
/-! XSP_STAT (R568) -/
def R.XSP_STAT_SLOW : Fld := ⟨0xC1E000, 2, 1⟩
def R.XSP_STAT_BUSY : Fld := ⟨0xC1E000, 1, 1⟩
def R.XSP_STAT_CS : Fld := ⟨0xC1E000, 0, 1⟩
/-! XSP_EVT (R568) -/
def R.XSP_EVT_ERR : Fld := ⟨0xC1E001, 0, 1⟩
/-! XSP_ID (R568) -/
def R.XSP_ID_ID (i : Nat) : Fld := ⟨0xC1E002 + 1 * i, 0, 24⟩
/-! DBG_STAT (R570) -/
def R.DBG_STAT_CONN : Fld := ⟨0xC1F000, 1, 1⟩
def R.DBG_STAT_HALT : Fld := ⟨0xC1F000, 0, 1⟩
/-! DBG_EVT (R569) -/
def R.DBG_EVT_BSIGN : Fld := ⟨0xC1F001, 0, 1⟩
/-! DBG_CFG (R570) -/
def R.DBG_CFG_ENABLE : Fld := ⟨0xC1F002, 0, 1⟩
/-! DBG_UCFG (R570) -/
def R.DBG_UCFG_BAUD : Fld := ⟨0xC1F003, 0, 24⟩
/-! DBG_IDCODE (R569) -/
def R.DBG_IDCODE_IDCODE : Fld := ⟨0xC1F004, 0, 32⟩

/-- The access table of block 0, SYS_. -/
def rowsSys : List RegRow :=
  [⟨0xC00000, 1, 1, 1, false, [⟨15, 1, .ro, 0, []⟩, ⟨14, 1, .ro, 0, []⟩, ⟨13, 1, .ro, 0, []⟩, ⟨12, 1, .ro, 0, []⟩, ⟨11, 1, .ro, 0, []⟩, ⟨9, 2, .ro, 0, []⟩, ⟨7, 2, .ro, 0, []⟩, ⟨0, 4, .ro, 1, []⟩]⟩,
   ⟨0xC00001, 1, 1, 1, false, [⟨8, 4, .ro, 0, []⟩, ⟨0, 4, .rw, 0, [(0, 6)]⟩]⟩,
   ⟨0xC00002, 1, 1, 1, false, [⟨0, 1, .w1c, 0, []⟩]⟩,
   ⟨0xC00003, 1, 1, 1, false, [⟨24, 5, .ro, 0, []⟩, ⟨0, 24, .ro, 0, []⟩]⟩,
   ⟨0xC00008, 1, 1, 1, false, [⟨24, 12, .wo, 0, []⟩, ⟨6, 2, .wo, 0, []⟩, ⟨0, 6, .wo, 0, []⟩]⟩,
   ⟨0xC00009, 1, 1, 1, false, [⟨0, 32, .ro, 0, []⟩]⟩,
   ⟨0xC0000A, 1, 1, 1, false, [⟨34, 2, .ro, 0, []⟩, ⟨33, 1, .w1c, 0, []⟩, ⟨0, 32, .ro, 0, []⟩]⟩]

/-- The access table of block 1, PWR_. -/
def rowsPwr : List RegRow :=
  [⟨0xC01000, 1, 1, 1, false, [⟨10, 1, .ro, 0, []⟩, ⟨9, 1, .ro, 0, []⟩, ⟨8, 1, .ro, 0, []⟩, ⟨0, 8, .ro, 0, []⟩]⟩,
   ⟨0xC01001, 1, 1, 1, false, [⟨9, 1, .w1c, 0, []⟩, ⟨8, 1, .w1c, 0, []⟩, ⟨0, 8, .w1c, 0, []⟩]⟩,
   ⟨0xC01002, 1, 1, 1, false, [⟨35, 1, .rw, 0, []⟩, ⟨4, 1, .rwl, 1, []⟩, ⟨0, 2, .rwl, 3, [(1, 3)]⟩]⟩]

/-- The access table of block 2, CLK_. -/
def rowsClk : List RegRow :=
  [⟨0xC02000, 1, 1, 1, false, [⟨9, 1, .w1c, 0, []⟩, ⟨8, 1, .ro, 0, []⟩, ⟨7, 1, .ro, 0, []⟩, ⟨6, 1, .ro, 0, []⟩, ⟨5, 1, .ro, 0, []⟩, ⟨4, 1, .ro, 0, []⟩, ⟨3, 1, .ro, 0, []⟩, ⟨2, 1, .ro, 0, []⟩, ⟨1, 1, .ro, 0, []⟩, ⟨0, 1, .ro, 0, []⟩]⟩,
   ⟨0xC02001, 1, 1, 1, false, [⟨1, 1, .rw, 0, []⟩, ⟨0, 1, .rw, 0, []⟩]⟩,
   ⟨0xC02002, 1, 1, 1, false, [⟨25, 1, .ro, 0, []⟩, ⟨23, 2, .ro, 0, []⟩, ⟨19, 4, .ro, 0, []⟩, ⟨18, 1, .ro, 0, []⟩, ⟨16, 2, .ro, 0, []⟩, ⟨8, 8, .ro, 0, []⟩, ⟨0, 8, .ro, 0, []⟩]⟩,
   ⟨0xC02003, 1, 1, 1, false, [⟨0, 36, .ro, 0, []⟩]⟩]

/-- The access table of block 3, RST_. -/
def rowsRst : List RegRow :=
  [⟨0xC03000, 1, 1, 1, false, [⟨15, 1, .w1c, 0, []⟩, ⟨14, 1, .w1c, 0, []⟩, ⟨13, 1, .w1c, 0, []⟩, ⟨12, 1, .w1c, 0, []⟩, ⟨11, 1, .w1c, 0, []⟩, ⟨10, 1, .w1c, 0, []⟩, ⟨9, 1, .w1c, 0, []⟩, ⟨8, 1, .w1c, 0, []⟩, ⟨7, 1, .w1c, 0, []⟩, ⟨6, 1, .w1c, 0, []⟩, ⟨5, 1, .w1c, 0, []⟩, ⟨4, 1, .w1c, 0, []⟩, ⟨3, 1, .w1c, 0, []⟩, ⟨2, 1, .w1c, 0, []⟩, ⟨1, 1, .w1c, 0, []⟩, ⟨0, 1, .w1c, 1, []⟩]⟩,
   ⟨0xC03001, 1, 1, 1, false, [⟨2, 2, .ro, 0, []⟩, ⟨0, 2, .ro, 0, []⟩]⟩]

/-- The access table of block 4, FOL_. -/
def rowsFol : List RegRow :=
  [⟨0xC04000, 1, 1, 1, false, [⟨22, 1, .ro, 0, []⟩, ⟨21, 1, .ro, 0, []⟩, ⟨20, 1, .ro, 0, []⟩, ⟨18, 2, .ro, 0, []⟩, ⟨17, 1, .ro, 0, []⟩, ⟨16, 1, .ro, 0, []⟩, ⟨0, 5, .ro, 0, []⟩]⟩,
   ⟨0xC04001, 1, 1, 1, false, [⟨8, 4, .ro, 0, []⟩, ⟨0, 4, .rw, 0, [(0, 3)]⟩]⟩,
   ⟨0xC04002, 1, 1, 1, false, [⟨8, 1, .rw, 0, []⟩, ⟨7, 1, .rw, 0, []⟩, ⟨2, 5, .rw, 0, []⟩, ⟨0, 2, .rw, 0, [(0, 2)]⟩]⟩,
   ⟨0xC04003, 1, 1, 1, false, [⟨0, 32, .rw, 0, []⟩]⟩,
   ⟨0xC04004, 1, 1, 1, false, [⟨0, 32, .rw, 0, []⟩]⟩,
   ⟨0xC04005, 1, 1, 1, false, [⟨0, 36, .ro, 0, []⟩]⟩,
   ⟨0xC04006, 1, 1, 1, false, [⟨0, 36, .ro, 0, []⟩]⟩,
   ⟨0xC04007, 1, 1, 1, false, [⟨0, 36, .ro, 0, []⟩]⟩,
   ⟨0xC04008, 1, 1, 1, false, [⟨0, 36, .ro, 0, []⟩]⟩,
   ⟨0xC04010, 8, 1, 1, false, [⟨0, 36, .ro, 0, []⟩]⟩,
   ⟨0xC04018, 8, 1, 1, false, [⟨0, 36, .ro, 0, []⟩]⟩]

/-- The access table of block 5, HND_. -/
def rowsHnd : List RegRow :=
  [⟨0xC05000, 1, 1, 1, false, [⟨0, 12, .ro, 0, []⟩]⟩,
   ⟨0xC05011, 9, 1, 1, false, [⟨18, 18, .ro, 0, []⟩, ⟨0, 18, .ro, 0, []⟩]⟩,
   ⟨0xC05040, 9, 32, 1, true, [⟨8, 4, .ro, 0, []⟩, ⟨0, 4, .rw, 0, [(0, 3)]⟩]⟩,
   ⟨0xC05041, 9, 32, 1, true, [⟨0, 36, .rw, 0, []⟩]⟩,
   ⟨0xC05042, 9, 32, 1, true, [⟨0, 4, .ro, 0, []⟩]⟩,
   ⟨0xC05043, 9, 32, 1, true, [⟨30, 6, .rw, 0, []⟩, ⟨29, 1, .rw, 0, []⟩, ⟨0, 18, .rw, 0, []⟩]⟩,
   ⟨0xC05044, 9, 32, 28, true, [⟨0, 36, .rw, 0, []⟩]⟩]

/-- The access table of block 6, CYC_. -/
def rowsCyc : List RegRow :=
  [⟨0xC06000, 1, 1, 1, false, [⟨24, 8, .ro, 0, []⟩, ⟨16, 8, .ro, 0, []⟩, ⟨8, 8, .ro, 0, []⟩, ⟨0, 8, .ro, 0, []⟩]⟩,
   ⟨0xC06001, 1, 1, 1, false, [⟨35, 1, .w1c, 0, []⟩, ⟨34, 1, .w1c, 0, []⟩, ⟨33, 1, .w1c, 0, []⟩, ⟨32, 1, .w1c, 0, []⟩, ⟨24, 8, .w1c, 0, []⟩, ⟨16, 8, .w1c, 0, []⟩, ⟨8, 8, .w1c, 0, []⟩, ⟨0, 8, .w1c, 0, []⟩]⟩,
   ⟨0xC06002, 1, 1, 1, false, [⟨0, 32, .wo, 0, []⟩]⟩,
   ⟨0xC06003, 1, 1, 1, false, [⟨0, 24, .ro, 0, []⟩]⟩,
   ⟨0xC06004, 1, 1, 1, false, [⟨0, 24, .ro, 0, []⟩]⟩,
   ⟨0xC06005, 1, 1, 1, false, [⟨0, 36, .ro, 0, []⟩]⟩,
   ⟨0xC06006, 1, 1, 1, false, [⟨1, 1, .ro, 0, []⟩, ⟨0, 1, .ro, 0, []⟩]⟩,
   ⟨0xC06020, 8, 16, 1, false, [⟨0, 15, .ro, 0, []⟩]⟩,
   ⟨0xC06021, 8, 16, 1, false, [⟨0, 24, .ro, 0, []⟩]⟩,
   ⟨0xC06022, 8, 16, 1, false, [⟨16, 8, .ro, 0, []⟩, ⟨12, 4, .ro, 0, []⟩, ⟨4, 8, .ro, 0, []⟩, ⟨2, 2, .ro, 0, []⟩, ⟨0, 2, .ro, 0, []⟩]⟩,
   ⟨0xC06023, 8, 16, 1, false, [⟨0, 24, .ro, 0, []⟩]⟩,
   ⟨0xC06024, 8, 16, 1, false, [⟨0, 24, .ro, 0, []⟩]⟩,
   ⟨0xC06025, 8, 16, 1, false, [⟨0, 24, .ro, 0, []⟩]⟩,
   ⟨0xC06026, 8, 16, 1, false, [⟨0, 24, .ro, 0, []⟩]⟩,
   ⟨0xC06027, 8, 16, 1, false, [⟨0, 36, .ro, 0, []⟩]⟩,
   ⟨0xC06028, 8, 16, 1, false, [⟨18, 18, .ro, 0, []⟩, ⟨0, 18, .ro, 0, []⟩]⟩,
   ⟨0xC06029, 8, 16, 1, false, [⟨0, 24, .ro, 0, []⟩]⟩,
   ⟨0xC0602A, 8, 16, 1, false, [⟨0, 24, .rw, 0, []⟩]⟩,
   ⟨0xC0602B, 8, 16, 1, false, [⟨0, 8, .ro, 0, []⟩]⟩,
   ⟨0xC060C0, 32, 4, 1, false, [⟨24, 2, .ro, 0, []⟩, ⟨12, 12, .ro, 0, []⟩, ⟨8, 3, .ro, 0, []⟩, ⟨4, 4, .ro, 0, []⟩, ⟨0, 4, .ro, 0, []⟩]⟩,
   ⟨0xC060C1, 32, 4, 1, false, [⟨18, 18, .ro, 0, []⟩, ⟨0, 18, .ro, 0, []⟩]⟩,
   ⟨0xC060C2, 32, 4, 1, false, [⟨0, 36, .ro, 0, []⟩]⟩,
   ⟨0xC06200, 8, 1, 1, false, [⟨16, 8, .rwx, 0, []⟩, ⟨12, 4, .rwx, 0, []⟩, ⟨4, 8, .rwx, 0, []⟩, ⟨2, 2, .rwx, 0, [(0, 2)]⟩, ⟨0, 2, .rwx, 0, [(0, 0), (1, 1)]⟩]⟩]

/-- The access table of block 7, FAB_. -/
def rowsFab : List RegRow :=
  [⟨0xC07000, 1, 1, 1, false, [⟨24, 8, .ro, 0, []⟩, ⟨16, 8, .ro, 0, []⟩, ⟨8, 8, .ro, 0, []⟩, ⟨0, 8, .ro, 0, []⟩]⟩,
   ⟨0xC07001, 1, 1, 1, false, [⟨13, 1, .w1c, 0, []⟩, ⟨12, 1, .w1c, 0, []⟩, ⟨11, 1, .w1c, 0, []⟩, ⟨10, 1, .w1c, 0, []⟩, ⟨9, 1, .w1c, 0, []⟩, ⟨8, 1, .w1c, 0, []⟩, ⟨0, 8, .w1c, 0, []⟩]⟩,
   ⟨0xC07002, 1, 1, 1, false, [⟨0, 36, .ro, 0, []⟩]⟩,
   ⟨0xC07003, 1, 1, 1, false, [⟨0, 36, .ro, 0, []⟩]⟩,
   ⟨0xC07004, 1, 1, 1, false, [⟨0, 36, .ro, 0, []⟩]⟩,
   ⟨0xC07005, 1, 1, 1, false, [⟨0, 12, .ro, 0, []⟩]⟩,
   ⟨0xC07006, 1, 1, 1, false, [⟨0, 24, .ro, 0, []⟩]⟩,
   ⟨0xC07007, 1, 1, 1, false, [⟨0, 24, .ro, 0, []⟩]⟩,
   ⟨0xC07008, 1, 1, 1, false, [⟨0, 24, .w1c, 0, []⟩]⟩,
   ⟨0xC07009, 1, 1, 1, false, [⟨0, 32, .ro, 0, []⟩]⟩,
   ⟨0xC0700A, 1, 1, 1, false, [⟨0, 32, .w1c, 0, []⟩]⟩,
   ⟨0xC07040, 9, 4, 1, true, [⟨34, 2, .rw, 0, [(0, 0), (1, 1)]⟩, ⟨20, 9, .rw, 0, []⟩, ⟨0, 11, .rw, 0, []⟩]⟩,
   ⟨0xC07041, 9, 4, 1, true, [⟨0, 36, .rw, 0, []⟩]⟩,
   ⟨0xC07042, 9, 4, 1, true, [⟨33, 3, .rw, 0, [(0, 5)]⟩, ⟨20, 9, .rw, 0, []⟩, ⟨0, 15, .rw, 0, []⟩]⟩,
   ⟨0xC07043, 9, 4, 1, true, [⟨0, 36, .ro, 0, []⟩]⟩,
   ⟨0xC07100, 8, 8, 1, false, [⟨35, 1, .ro, 0, []⟩, ⟨34, 1, .ro, 0, []⟩, ⟨33, 1, .ro, 0, []⟩, ⟨32, 1, .ro, 0, []⟩, ⟨16, 7, .ro, 0, []⟩, ⟨0, 16, .ro, 0, []⟩]⟩,
   ⟨0xC07101, 8, 8, 1, false, [⟨16, 12, .ro, 0, []⟩, ⟨0, 12, .ro, 0, []⟩]⟩,
   ⟨0xC07102, 8, 8, 1, false, [⟨0, 36, .ro, 0, []⟩]⟩,
   ⟨0xC07103, 8, 8, 1, false, [⟨0, 36, .ro, 0, []⟩]⟩,
   ⟨0xC07104, 8, 8, 1, false, [⟨0, 9, .ro, 0, []⟩]⟩,
   ⟨0xC07200, 1, 1, 1, false, [⟨0, 36, .rwx, 0, []⟩]⟩,
   ⟨0xC07201, 1, 1, 1, false, [⟨0, 12, .rwx, 0, []⟩]⟩,
   ⟨0xC07202, 1, 1, 1, false, [⟨0, 2, .rwx, 0, [(0, 2)]⟩]⟩,
   ⟨0xC07203, 1, 1, 1, false, [⟨0, 5, .rwx, 2, [(1, 31)]⟩]⟩]

/-- The access table of block 8, ZC_. -/
def rowsZc : List RegRow :=
  [⟨0xC08000, 1, 1, 1, false, [⟨1, 1, .ro, 0, []⟩, ⟨0, 1, .ro, 0, []⟩]⟩,
   ⟨0xC08001, 1, 1, 1, false, [⟨17, 1, .w1c, 0, []⟩, ⟨16, 1, .w1c, 0, []⟩, ⟨8, 8, .w1c, 0, []⟩, ⟨0, 8, .w1c, 0, []⟩]⟩,
   ⟨0xC08010, 9, 16, 1, false, [⟨8, 8, .ro, 255, []⟩, ⟨7, 1, .ro, 0, []⟩, ⟨4, 3, .ro, 0, []⟩, ⟨3, 1, .ro, 0, []⟩, ⟨1, 2, .ro, 0, []⟩, ⟨0, 1, .ro, 0, []⟩]⟩,
   ⟨0xC08011, 8, 16, 1, false, [⟨8, 8, .ro, 0, []⟩, ⟨0, 6, .ro, 0, []⟩]⟩,
   ⟨0xC08012, 8, 16, 1, false, [⟨0, 24, .ro, 0, []⟩]⟩,
   ⟨0xC08013, 8, 16, 1, false, [⟨0, 36, .ro, 0, []⟩]⟩,
   ⟨0xC08014, 8, 16, 1, false, [⟨0, 36, .ro, 0, []⟩]⟩,
   ⟨0xC08015, 9, 16, 1, false, [⟨0, 36, .ro, 0, []⟩]⟩,
   ⟨0xC08016, 8, 16, 1, false, [⟨0, 36, .ro, 0, []⟩]⟩,
   ⟨0xC08017, 9, 16, 1, false, [⟨0, 36, .ro, 0, []⟩]⟩,
   ⟨0xC08200, 1, 1, 1, false, [⟨0, 16, .rwx, 1024, [(64, 65535)]⟩]⟩]

/-- The access table of block 9, IMP_. -/
def rowsImp : List RegRow :=
  [⟨0xC09000, 1, 1, 1, false, [⟨11, 1, .ro, 0, []⟩, ⟨10, 1, .ro, 0, []⟩, ⟨9, 1, .ro, 0, []⟩, ⟨8, 1, .ro, 0, []⟩, ⟨4, 4, .ro, 0, []⟩, ⟨0, 4, .ro, 0, []⟩]⟩,
   ⟨0xC09001, 1, 1, 1, false, [⟨6, 1, .w1c, 0, []⟩, ⟨5, 1, .w1c, 0, []⟩, ⟨4, 1, .w1c, 0, []⟩, ⟨3, 1, .w1c, 0, []⟩, ⟨2, 1, .w1c, 0, []⟩, ⟨1, 1, .w1c, 0, []⟩, ⟨0, 1, .w1c, 0, []⟩]⟩,
   ⟨0xC09002, 1, 1, 1, false, [⟨0, 36, .ro, 0, []⟩]⟩,
   ⟨0xC09003, 1, 1, 1, false, [⟨0, 12, .ro, 0, []⟩]⟩,
   ⟨0xC09004, 1, 1, 1, false, [⟨0, 36, .ro, 0, []⟩]⟩,
   ⟨0xC09008, 1, 1, 1, false, [⟨2, 1, .w1c, 0, []⟩, ⟨1, 1, .w1c, 0, []⟩, ⟨0, 1, .w1c, 0, []⟩]⟩,
   ⟨0xC09009, 1, 1, 1, false, [⟨0, 36, .ro, 0, []⟩]⟩,
   ⟨0xC0900A, 1, 1, 1, false, [⟨0, 36, .ro, 0, []⟩]⟩,
   ⟨0xC0900B, 1, 1, 1, false, [⟨0, 24, .ro, 0, []⟩]⟩,
   ⟨0xC0900C, 1, 1, 1, false, [⟨16, 9, .ro, 0, []⟩, ⟨0, 9, .ro, 0, []⟩]⟩,
   ⟨0xC09010, 8, 1, 1, false, [⟨0, 24, .ro, 0, []⟩]⟩,
   ⟨0xC09018, 8, 1, 1, false, [⟨0, 24, .ro, 0, []⟩]⟩,
   ⟨0xC09020, 16, 1, 1, false, [⟨0, 36, .ro, 0, []⟩]⟩,
   ⟨0xC09040, 9, 8, 1, true, [⟨0, 11, .rw, 0, []⟩]⟩,
   ⟨0xC09041, 9, 8, 1, true, [⟨33, 3, .ro, 0, []⟩, ⟨32, 1, .ro, 0, []⟩, ⟨31, 1, .ro, 0, []⟩, ⟨30, 1, .ro, 0, []⟩, ⟨29, 1, .ro, 0, []⟩, ⟨24, 5, .ro, 0, []⟩, ⟨20, 4, .ro, 0, []⟩, ⟨16, 3, .ro, 0, []⟩, ⟨0, 16, .ro, 0, []⟩]⟩,
   ⟨0xC09042, 9, 8, 1, true, [⟨0, 24, .ro, 0, []⟩]⟩,
   ⟨0xC09043, 9, 8, 1, true, [⟨18, 18, .ro, 0, []⟩, ⟨0, 18, .ro, 0, []⟩]⟩,
   ⟨0xC09044, 9, 8, 1, true, [⟨0, 24, .ro, 0, []⟩]⟩,
   ⟨0xC09200, 1, 1, 1, false, [⟨35, 1, .rwx, 0, []⟩, ⟨34, 1, .rwx, 0, []⟩, ⟨8, 8, .rwx, 64, [(1, 255)]⟩, ⟨4, 4, .rwx, 2, []⟩, ⟨0, 4, .rwx, 2, []⟩]⟩,
   ⟨0xC09400, 2048, 1, 1, false, [⟨34, 2, .ro, 0, []⟩, ⟨33, 1, .rwx, 0, []⟩, ⟨24, 6, .rwx, 0, []⟩, ⟨20, 4, .rwx, 0, []⟩]⟩]

/-- The access table of block 10, OLC_. -/
def rowsOlc : List RegRow :=
  [⟨0xC0A000, 1, 1, 1, false, [⟨24, 5, .ro, 0, []⟩, ⟨18, 6, .ro, 0, []⟩, ⟨17, 1, .ro, 0, []⟩, ⟨16, 1, .ro, 0, []⟩, ⟨8, 5, .ro, 0, []⟩, ⟨0, 4, .ro, 0, []⟩]⟩,
   ⟨0xC0A001, 1, 1, 1, false, [⟨8, 4, .ro, 0, []⟩, ⟨4, 1, .rw, 0, []⟩, ⟨0, 4, .rw, 0, [(0, 6)]⟩]⟩,
   ⟨0xC0A002, 1, 1, 1, false, [⟨8, 1, .rw, 0, []⟩, ⟨7, 1, .rw, 0, []⟩, ⟨2, 5, .rw, 0, []⟩]⟩,
   ⟨0xC0A003, 1, 1, 1, false, [⟨0, 32, .rw, 0, []⟩]⟩,
   ⟨0xC0A004, 1, 1, 1, false, [⟨0, 32, .rw, 0, []⟩]⟩,
   ⟨0xC0A005, 1, 1, 1, false, [⟨0, 36, .rw, 0, []⟩]⟩,
   ⟨0xC0A006, 1, 1, 1, false, [⟨0, 36, .ro, 0, []⟩]⟩,
   ⟨0xC0A007, 1, 1, 1, false, [⟨0, 24, .ro, 0, []⟩]⟩,
   ⟨0xC0A008, 1, 1, 1, false, [⟨18, 18, .ro, 0, []⟩, ⟨0, 18, .ro, 0, []⟩]⟩,
   ⟨0xC0A009, 1, 1, 1, false, [⟨16, 20, .rw, 0, []⟩, ⟨1, 1, .rw, 0, []⟩]⟩,
   ⟨0xC0A00A, 1, 1, 1, false, [⟨0, 36, .ro, 0, []⟩]⟩,
   ⟨0xC0A010, 8, 1, 1, false, [⟨0, 32, .ro, 0, []⟩]⟩,
   ⟨0xC0A200, 1, 1, 1, false, [⟨8, 8, .rwx, 10, []⟩, ⟨0, 6, .rwx, 63, [(1, 63)]⟩]⟩]

/-- The access table of block 11, FRC_. -/
def rowsFrc : List RegRow :=
  [⟨0xC0B000, 1, 1, 1, false, [⟨11, 1, .ro, 0, []⟩, ⟨0, 11, .ro, 0, []⟩]⟩,
   ⟨0xC0B001, 1, 1, 1, false, [⟨2, 1, .w1c, 0, []⟩, ⟨1, 1, .w1c, 0, []⟩, ⟨0, 1, .w1c, 0, []⟩]⟩,
   ⟨0xC0B002, 1, 1, 1, false, [⟨0, 1, .rw, 1, []⟩]⟩,
   ⟨0xC0B003, 1, 1, 1, false, [⟨0, 9, .ro, 0, []⟩]⟩,
   ⟨0xC0B004, 1, 1, 1, false, [⟨0, 36, .ro, 0, []⟩]⟩,
   ⟨0xC0B005, 1, 1, 1, false, [⟨0, 36, .ro, 0, []⟩]⟩,
   ⟨0xC0B040, 9, 8, 1, true, [⟨8, 4, .ro, 0, []⟩, ⟨0, 4, .rw, 0, [(0, 4)]⟩]⟩,
   ⟨0xC0B041, 9, 8, 1, true, [⟨18, 18, .rw, 0, []⟩, ⟨0, 18, .rw, 0, []⟩]⟩,
   ⟨0xC0B042, 9, 8, 1, true, [⟨0, 36, .rw, 0, []⟩]⟩,
   ⟨0xC0B043, 9, 8, 1, true, [⟨0, 10, .rw, 0, []⟩]⟩,
   ⟨0xC0B044, 9, 8, 1, true, [⟨0, 4, .ro, 0, []⟩]⟩,
   ⟨0xC0B045, 9, 8, 1, true, [⟨35, 1, .ro, 0, []⟩, ⟨34, 1, .ro, 0, []⟩, ⟨31, 3, .ro, 0, []⟩, ⟨29, 2, .ro, 0, []⟩, ⟨0, 21, .ro, 0, []⟩]⟩]

/-- The access table of block 12, SPN_. -/
def rowsSpn : List RegRow :=
  [⟨0xC0C000, 1, 1, 1, false, [⟨30, 6, .ro, 0, []⟩, ⟨24, 6, .ro, 0, []⟩, ⟨20, 1, .ro, 0, []⟩, ⟨19, 1, .ro, 0, []⟩, ⟨18, 1, .ro, 0, []⟩, ⟨17, 1, .ro, 0, []⟩, ⟨15, 2, .ro, 0, []⟩, ⟨13, 2, .ro, 0, []⟩, ⟨8, 5, .ro, 0, []⟩]⟩,
   ⟨0xC0C001, 1, 1, 1, false, [⟨10, 1, .w1c, 0, []⟩, ⟨9, 1, .w1c, 0, []⟩, ⟨8, 1, .w1c, 0, []⟩, ⟨7, 1, .w1c, 0, []⟩, ⟨6, 1, .w1c, 0, []⟩, ⟨5, 1, .w1c, 0, []⟩, ⟨4, 1, .w1c, 0, []⟩, ⟨3, 1, .w1c, 0, []⟩, ⟨2, 1, .w1c, 0, []⟩, ⟨1, 1, .w1c, 0, []⟩, ⟨0, 1, .w1c, 0, []⟩]⟩,
   ⟨0xC0C002, 1, 1, 1, false, [⟨8, 16, .ro, 0, []⟩, ⟨2, 1, .ro, 0, []⟩, ⟨1, 1, .ro, 0, []⟩, ⟨0, 1, .ro, 0, []⟩]⟩,
   ⟨0xC0C003, 1, 1, 1, false, [⟨23, 1, .rw, 0, []⟩, ⟨22, 1, .rw, 0, []⟩, ⟨15, 7, .rw, 0, []⟩, ⟨8, 4, .ro, 0, []⟩, ⟨0, 4, .rw, 0, [(0, 3)]⟩]⟩,
   ⟨0xC0C004, 4, 1, 1, false, [⟨0, 36, .rw, 0, []⟩]⟩,
   ⟨0xC0C008, 4, 1, 1, false, [⟨0, 36, .ro, 0, []⟩]⟩,
   ⟨0xC0C00C, 1, 1, 1, false, [⟨0, 36, .rw, 0, []⟩]⟩,
   ⟨0xC0C00D, 1, 1, 1, false, [⟨16, 15, .ro, 0, []⟩, ⟨0, 1, .rw, 0, []⟩]⟩,
   ⟨0xC0C00E, 1, 1, 1, false, [⟨0, 24, .ro, 0, []⟩]⟩,
   ⟨0xC0C00F, 1, 1, 1, false, [⟨0, 36, .ro, 0, []⟩]⟩,
   ⟨0xC0C010, 4, 1, 1, false, [⟨18, 18, .ro, 0, []⟩, ⟨2, 1, .ro, 0, []⟩, ⟨1, 1, .ro, 0, []⟩, ⟨0, 1, .ro, 0, []⟩]⟩,
   ⟨0xC0C014, 4, 1, 1, false, [⟨0, 16, .ro, 0, []⟩]⟩,
   ⟨0xC0C018, 1, 1, 1, false, [⟨0, 18, .ro, 0, []⟩]⟩,
   ⟨0xC0C019, 1, 1, 1, false, [⟨0, 6, .ro, 0, []⟩]⟩,
   ⟨0xC0C040, 9, 2, 1, true, [⟨35, 1, .rw, 0, []⟩, ⟨2, 7, .rw, 0, []⟩, ⟨0, 2, .rw, 0, [(0, 0), (1, 1)]⟩]⟩,
   ⟨0xC0C041, 9, 2, 1, true, [⟨0, 36, .ro, 0, []⟩]⟩,
   ⟨0xC0C100, 128, 2, 1, false, [⟨35, 1, .ro, 0, []⟩, ⟨34, 1, .ro, 0, []⟩, ⟨33, 1, .ro, 0, []⟩, ⟨32, 1, .ro, 0, []⟩, ⟨28, 4, .ro, 0, []⟩, ⟨22, 6, .ro, 0, []⟩, ⟨16, 6, .ro, 0, []⟩]⟩,
   ⟨0xC0C101, 128, 2, 1, false, [⟨31, 5, .ro, 0, []⟩, ⟨0, 18, .ro, 0, []⟩]⟩,
   ⟨0xC0C200, 1, 1, 1, false, [⟨0, 8, .rwx, 20, [(5, 255)]⟩]⟩]

/-- The access table of block 13, TWN_. -/
def rowsTwn : List RegRow :=
  [⟨0xC0D000, 1, 1, 1, false, [⟨27, 3, .ro, 0, []⟩, ⟨26, 1, .ro, 0, []⟩, ⟨25, 1, .ro, 0, []⟩, ⟨23, 2, .ro, 0, []⟩, ⟨18, 5, .ro, 0, []⟩, ⟨0, 4, .ro, 0, []⟩]⟩,
   ⟨0xC0D001, 1, 1, 1, false, [⟨11, 1, .w1c, 0, []⟩, ⟨10, 1, .w1c, 0, []⟩, ⟨9, 1, .w1c, 0, []⟩, ⟨8, 1, .w1c, 0, []⟩, ⟨7, 1, .w1c, 0, []⟩, ⟨6, 1, .w1c, 0, []⟩, ⟨5, 1, .w1c, 0, []⟩, ⟨4, 1, .w1c, 0, []⟩, ⟨3, 1, .w1c, 0, []⟩, ⟨2, 1, .w1c, 0, []⟩, ⟨1, 1, .w1c, 0, []⟩, ⟨0, 1, .w1c, 0, []⟩]⟩,
   ⟨0xC0D002, 1, 1, 1, false, [⟨8, 4, .ro, 0, []⟩, ⟨0, 4, .rw, 0, [(0, 2)]⟩]⟩,
   ⟨0xC0D003, 1, 1, 1, false, [⟨20, 16, .ro, 0, []⟩, ⟨12, 8, .ro, 0, []⟩, ⟨0, 1, .ro, 0, []⟩]⟩,
   ⟨0xC0D004, 1, 1, 1, false, [⟨0, 36, .ro, 0, []⟩]⟩,
   ⟨0xC0D005, 1, 1, 1, false, [⟨0, 36, .ro, 0, []⟩]⟩,
   ⟨0xC0D006, 1, 1, 1, false, [⟨0, 36, .ro, 0, []⟩]⟩,
   ⟨0xC0D007, 1, 1, 1, false, [⟨0, 24, .ro, 0, []⟩]⟩,
   ⟨0xC0D008, 1, 1, 1, false, [⟨0, 32, .ro, 0, []⟩]⟩,
   ⟨0xC0D009, 1, 1, 1, false, [⟨0, 32, .ro, 0, []⟩]⟩,
   ⟨0xC0D010, 8, 1, 1, false, [⟨18, 18, .ro, 0, []⟩, ⟨0, 8, .ro, 0, []⟩]⟩,
   ⟨0xC0D018, 8, 1, 1, false, [⟨0, 24, .ro, 0, []⟩]⟩,
   ⟨0xC0D200, 1, 1, 1, false, [⟨0, 4, .rwx, 10, [(4, 15)]⟩]⟩]

/-- The access table of block 14, FIO_. -/
def rowsFio : List RegRow :=
  [⟨0xC0E000, 1, 1, 1, false, [⟨12, 4, .ro, 0, []⟩, ⟨8, 4, .ro, 0, []⟩, ⟨4, 4, .ro, 0, []⟩, ⟨3, 1, .ro, 0, []⟩, ⟨2, 1, .ro, 0, []⟩, ⟨1, 1, .ro, 0, []⟩, ⟨0, 1, .ro, 0, []⟩]⟩,
   ⟨0xC0E001, 1, 1, 1, false, [⟨15, 1, .w1c, 0, []⟩, ⟨14, 1, .w1c, 0, []⟩, ⟨13, 1, .w1c, 0, []⟩, ⟨12, 1, .w1c, 0, []⟩, ⟨8, 4, .w1c, 0, []⟩, ⟨4, 4, .w1c, 0, []⟩, ⟨0, 4, .w1c, 0, []⟩]⟩,
   ⟨0xC0E002, 1, 1, 1, false, [⟨0, 4, .wo, 0, []⟩]⟩,
   ⟨0xC0E003, 1, 1, 1, false, [⟨0, 32, .wo, 0, []⟩]⟩,
   ⟨0xC0E004, 1, 1, 1, false, [⟨0, 32, .wo, 0, []⟩]⟩,
   ⟨0xC0E008, 4, 1, 1, false, [⟨16, 12, .ro, 0, []⟩, ⟨0, 12, .ro, 0, []⟩]⟩,
   ⟨0xC0E00C, 4, 1, 1, false, [⟨18, 18, .ro, 0, []⟩, ⟨0, 18, .ro, 0, []⟩]⟩,
   ⟨0xC0E040, 32, 4, 1, false, [⟨11, 25, .ro, 0, []⟩]⟩,
   ⟨0xC0E041, 32, 4, 1, false, [⟨24, 12, .ro, 0, []⟩, ⟨16, 2, .ro, 0, []⟩, ⟨12, 4, .ro, 0, []⟩, ⟨7, 1, .ro, 0, []⟩, ⟨6, 1, .ro, 0, []⟩, ⟨5, 1, .ro, 0, []⟩, ⟨4, 1, .ro, 0, []⟩, ⟨3, 1, .ro, 0, []⟩, ⟨2, 1, .ro, 0, []⟩, ⟨1, 1, .ro, 0, []⟩, ⟨0, 1, .ro, 0, []⟩]⟩,
   ⟨0xC0E042, 32, 4, 1, false, [⟨8, 1, .w1c, 0, []⟩, ⟨7, 1, .w1c, 0, []⟩, ⟨6, 1, .w1c, 0, []⟩, ⟨5, 1, .w1c, 0, []⟩, ⟨4, 1, .w1c, 0, []⟩, ⟨3, 1, .w1c, 0, []⟩, ⟨2, 1, .w1c, 0, []⟩, ⟨1, 1, .w1c, 0, []⟩, ⟨0, 1, .w1c, 0, []⟩]⟩,
   ⟨0xC0E043, 32, 4, 1, false, [⟨0, 36, .ro, 0, []⟩]⟩,
   ⟨0xC0E200, 1, 1, 1, false, [⟨0, 4, .rwx, 0, []⟩]⟩,
   ⟨0xC0E201, 1, 1, 1, false, [⟨0, 16, .rwx, 100, [(10, 65535)]⟩]⟩]

/-- The access table of block 15, MTR_. -/
def rowsMtr : List RegRow :=
  [⟨0xC0F000, 1, 1, 1, false, [⟨8, 24, .ro, 0, []⟩, ⟨4, 4, .ro, 0, []⟩, ⟨3, 1, .ro, 0, []⟩, ⟨0, 1, .ro, 0, []⟩]⟩,
   ⟨0xC0F001, 1, 1, 1, false, [⟨7, 1, .w1c, 0, []⟩, ⟨6, 1, .w1c, 0, []⟩, ⟨5, 1, .w1c, 0, []⟩, ⟨4, 1, .w1c, 0, []⟩, ⟨3, 1, .w1c, 0, []⟩, ⟨2, 1, .w1c, 0, []⟩, ⟨1, 1, .w1c, 0, []⟩, ⟨0, 1, .w1c, 0, []⟩]⟩,
   ⟨0xC0F002, 1, 1, 1, false, [⟨31, 1, .rw, 0, []⟩, ⟨24, 4, .rw, 0, [(5, 12)]⟩, ⟨23, 1, .rw, 0, []⟩, ⟨16, 4, .rw, 0, [(5, 12)]⟩, ⟨15, 1, .rw, 0, []⟩, ⟨8, 4, .rw, 0, [(5, 12)]⟩, ⟨7, 1, .rw, 0, []⟩, ⟨0, 4, .rw, 0, [(5, 12)]⟩]⟩,
   ⟨0xC0F003, 1, 1, 1, false, [⟨35, 1, .rw, 0, []⟩, ⟨8, 5, .rw, 0, []⟩, ⟨0, 3, .rw, 0, []⟩]⟩,
   ⟨0xC0F004, 1, 1, 1, false, [⟨0, 36, .rw, 0, []⟩]⟩,
   ⟨0xC0F005, 1, 1, 1, false, [⟨35, 1, .ro, 0, []⟩, ⟨0, 35, .ro, 0, []⟩]⟩,
   ⟨0xC0F006, 1, 1, 1, false, [⟨0, 36, .ro, 0, []⟩]⟩,
   ⟨0xC0F020, 24, 4, 1, false, [⟨33, 3, .rw, 0, [(0, 4)]⟩, ⟨32, 1, .rw, 0, []⟩, ⟨31, 1, .rw, 0, []⟩, ⟨0, 14, .rw, 0, []⟩]⟩,
   ⟨0xC0F021, 24, 4, 1, false, [⟨0, 36, .rw, 0, []⟩]⟩,
   ⟨0xC0F022, 24, 4, 1, false, [⟨0, 36, .rw, 0, []⟩]⟩,
   ⟨0xC0F023, 24, 4, 1, false, [⟨18, 18, .ro, 0, []⟩, ⟨1, 1, .ro, 0, []⟩, ⟨0, 1, .ro, 0, []⟩]⟩,
   ⟨0xC0F080, 9, 4, 1, true, [⟨35, 1, .rw, 0, []⟩, ⟨8, 6, .rw, 0, []⟩, ⟨0, 3, .rw, 0, []⟩]⟩,
   ⟨0xC0F081, 9, 4, 1, true, [⟨0, 36, .ro, 0, []⟩]⟩,
   ⟨0xC0F082, 9, 4, 1, true, [⟨0, 36, .ro, 0, []⟩]⟩,
   ⟨0xC0F100, 24, 4, 1, false, [⟨34, 2, .ro, 0, []⟩, ⟨33, 1, .ro, 0, []⟩, ⟨32, 1, .ro, 0, []⟩, ⟨31, 1, .ro, 0, []⟩, ⟨30, 1, .ro, 0, []⟩, ⟨29, 1, .ro, 0, []⟩, ⟨26, 3, .ro, 0, []⟩, ⟨23, 3, .ro, 0, []⟩, ⟨22, 1, .ro, 0, []⟩]⟩,
   ⟨0xC0F101, 24, 4, 1, false, [⟨8, 8, .w1c, 0, []⟩, ⟨7, 1, .w1c, 0, []⟩, ⟨0, 7, .w1c, 0, []⟩]⟩,
   ⟨0xC0F102, 24, 4, 1, false, [⟨0, 36, .ro, 0, []⟩]⟩,
   ⟨0xC0F103, 24, 4, 1, false, [⟨0, 36, .ro, 0, []⟩]⟩,
   ⟨0xC0F160, 64, 2, 1, false, [⟨34, 2, .ro, 0, []⟩, ⟨33, 1, .ro, 0, []⟩, ⟨32, 1, .w1c, 0, []⟩, ⟨31, 1, .w1c, 0, []⟩]⟩,
   ⟨0xC0F161, 64, 2, 1, false, [⟨0, 36, .ro, 0, []⟩]⟩,
   ⟨0xC0F200, 1, 1, 1, false, [⟨28, 8, .rwx, 10, [(1, 255)]⟩, ⟨16, 8, .rwx, 50, [(1, 255)]⟩, ⟨8, 8, .rwx, 10, [(1, 255)]⟩, ⟨0, 8, .rwx, 16, [(1, 255)]⟩]⟩]

/-- The access table of block 16, CAN_. -/
def rowsCan : List RegRow :=
  [⟨0xC10000, 1, 1, 1, false, [⟨8, 4, .ro, 0, []⟩, ⟨4, 4, .ro, 0, []⟩, ⟨0, 4, .ro, 0, []⟩]⟩,
   ⟨0xC10010, 4, 8, 1, false, [⟨33, 3, .rw, 0, [(0, 4)]⟩, ⟨32, 1, .rw, 0, []⟩, ⟨31, 1, .rw, 0, []⟩, ⟨30, 1, .rw, 0, []⟩, ⟨29, 1, .rw, 0, []⟩, ⟨28, 1, .wo, 0, []⟩, ⟨26, 2, .rw, 0, [(0, 2)]⟩]⟩,
   ⟨0xC10011, 4, 8, 1, false, [⟨25, 11, .rw, 0, [(10, 1000)]⟩, ⟨18, 7, .rw, 0, [(50, 95)]⟩, ⟨10, 8, .rw, 0, [(10, 200)]⟩, ⟨3, 7, .rw, 0, [(50, 95)]⟩]⟩,
   ⟨0xC10012, 4, 8, 1, false, [⟨34, 2, .ro, 0, []⟩, ⟨33, 1, .ro, 0, []⟩, ⟨16, 8, .ro, 0, []⟩, ⟨8, 8, .ro, 0, []⟩, ⟨0, 3, .ro, 0, []⟩]⟩,
   ⟨0xC10013, 4, 8, 1, false, [⟨9, 1, .w1c, 0, []⟩, ⟨8, 1, .w1c, 0, []⟩, ⟨7, 1, .w1c, 0, []⟩, ⟨6, 1, .w1c, 0, []⟩, ⟨5, 1, .w1c, 0, []⟩, ⟨4, 1, .w1c, 0, []⟩, ⟨3, 1, .w1c, 0, []⟩, ⟨2, 1, .w1c, 0, []⟩, ⟨1, 1, .w1c, 0, []⟩, ⟨0, 1, .w1c, 0, []⟩]⟩,
   ⟨0xC10014, 4, 8, 1, false, [⟨0, 30, .rw, 0, []⟩]⟩,
   ⟨0xC10015, 4, 8, 1, false, [⟨0, 29, .rw, 0, []⟩]⟩,
   ⟨0xC10016, 4, 8, 1, false, [⟨18, 18, .ro, 0, []⟩, ⟨0, 18, .ro, 0, []⟩]⟩,
   ⟨0xC10017, 4, 8, 1, false, [⟨18, 18, .ro, 0, []⟩, ⟨0, 8, .ro, 0, []⟩]⟩,
   ⟨0xC10040, 9, 2, 1, true, [⟨0, 36, .rw, 0, []⟩]⟩,
   ⟨0xC10041, 9, 2, 1, true, [⟨8, 4, .ro, 0, []⟩, ⟨4, 4, .ro, 0, []⟩, ⟨0, 4, .rw, 0, [(0, 2)]⟩]⟩,
   ⟨0xC10200, 4, 4, 1, false, [⟨27, 9, .rwx, 0, []⟩, ⟨18, 9, .rwx, 0, []⟩, ⟨10, 8, .rwx, 0, []⟩, ⟨0, 8, .rwx, 0, []⟩]⟩,
   ⟨0xC10201, 4, 4, 1, false, [⟨30, 5, .rwx, 0, []⟩, ⟨24, 6, .rwx, 0, []⟩, ⟨16, 5, .rwx, 0, []⟩, ⟨8, 5, .rwx, 0, []⟩, ⟨0, 7, .rwx, 0, []⟩]⟩]

/-- The access table of block 17, ETH_. -/
def rowsEth : List RegRow :=
  [⟨0xC11000, 1, 1, 1, false, [⟨0, 2, .ro, 0, []⟩]⟩,
   ⟨0xC11001, 1, 1, 1, false, [⟨3, 1, .w1c, 0, []⟩, ⟨2, 1, .w1c, 0, []⟩, ⟨0, 2, .w1c, 0, []⟩]⟩,
   ⟨0xC11002, 1, 1, 1, false, [⟨0, 2, .ro, 0, []⟩]⟩,
   ⟨0xC11010, 2, 16, 1, false, [⟨34, 2, .rw, 0, []⟩, ⟨33, 1, .rw, 0, []⟩]⟩,
   ⟨0xC11011, 2, 16, 1, false, [⟨1, 2, .ro, 0, []⟩, ⟨0, 1, .ro, 0, []⟩]⟩,
   ⟨0xC11012, 2, 16, 1, false, [⟨0, 32, .rw, 0, []⟩]⟩,
   ⟨0xC11013, 2, 16, 1, false, [⟨16, 16, .rw, 0, []⟩]⟩,
   ⟨0xC11014, 2, 16, 1, false, [⟨0, 32, .rw, 0, []⟩]⟩,
   ⟨0xC11015, 2, 16, 1, false, [⟨18, 18, .rw, 0, []⟩, ⟨0, 18, .rw, 0, []⟩]⟩,
   ⟨0xC11016, 2, 16, 1, false, [⟨18, 18, .ro, 0, []⟩, ⟨0, 18, .ro, 0, []⟩]⟩,
   ⟨0xC11200, 2, 1, 1, false, [⟨16, 1, .rwx, 0, []⟩, ⟨8, 7, .rwx, 0, [(0, 64)]⟩, ⟨0, 3, .rwx, 0, []⟩]⟩,
   ⟨0xC11400, 128, 1, 1, false, [⟨28, 8, .rwx, 255, []⟩, ⟨0, 24, .rwx, 0, []⟩]⟩]

/-- The access table of block 18, STN_. -/
def rowsStn : List RegRow :=
  [⟨0xC12000, 1, 1, 1, false, [⟨0, 9, .ro, 0, []⟩]⟩,
   ⟨0xC12001, 1, 1, 1, false, [⟨2, 1, .w1c, 0, []⟩, ⟨1, 1, .w1c, 0, []⟩, ⟨0, 1, .w1c, 0, []⟩]⟩,
   ⟨0xC12002, 1, 1, 1, false, [⟨16, 16, .ro, 0, []⟩, ⟨0, 16, .ro, 0, []⟩]⟩,
   ⟨0xC12003, 1, 1, 1, false, [⟨0, 16, .ro, 0, []⟩]⟩,
   ⟨0xC12100, 256, 1, 1, false, [⟨34, 2, .ro, 0, []⟩, ⟨18, 16, .ro, 0, []⟩, ⟨0, 18, .ro, 0, []⟩]⟩]

/-- The access table of block 19, NTM_. -/
def rowsNtm : List RegRow :=
  [⟨0xC13000, 1, 1, 1, false, [⟨8, 1, .ro, 0, []⟩, ⟨7, 1, .ro, 0, []⟩, ⟨6, 1, .ro, 0, []⟩, ⟨3, 3, .ro, 0, []⟩, ⟨0, 3, .ro, 0, []⟩]⟩,
   ⟨0xC13001, 1, 1, 1, false, [⟨5, 1, .w1c, 0, []⟩, ⟨4, 1, .w1c, 0, []⟩, ⟨3, 1, .w1c, 0, []⟩, ⟨2, 1, .w1c, 0, []⟩, ⟨1, 1, .w1c, 0, []⟩, ⟨0, 1, .w1c, 0, []⟩]⟩,
   ⟨0xC13002, 1, 1, 1, false, [⟨8, 4, .ro, 0, []⟩, ⟨4, 1, .rw, 0, []⟩, ⟨0, 4, .rw, 0, [(0, 2)]⟩]⟩,
   ⟨0xC13003, 1, 1, 1, false, [⟨0, 36, .rw, 0, []⟩]⟩,
   ⟨0xC13004, 1, 1, 1, false, [⟨0, 36, .rw, 0, []⟩]⟩,
   ⟨0xC13005, 1, 1, 1, false, [⟨0, 16, .ro, 0, []⟩]⟩,
   ⟨0xC13006, 1, 1, 1, false, [⟨0, 36, .ro, 0, []⟩]⟩,
   ⟨0xC13010, 2, 4, 1, false, [⟨33, 3, .ro, 0, []⟩, ⟨31, 2, .ro, 0, []⟩, ⟨24, 7, .ro, 0, []⟩, ⟨23, 1, .ro, 0, []⟩, ⟨0, 16, .ro, 0, []⟩]⟩,
   ⟨0xC13011, 2, 4, 1, false, [⟨33, 3, .ro, 0, []⟩, ⟨32, 1, .ro, 0, []⟩, ⟨0, 18, .ro, 0, []⟩]⟩,
   ⟨0xC13012, 2, 4, 1, false, [⟨0, 36, .ro, 0, []⟩]⟩,
   ⟨0xC13013, 2, 4, 1, false, [⟨0, 36, .rw, 0, [(0, 1000000000), (67719476736, 68719476735)]⟩]⟩,
   ⟨0xC13040, 9, 8, 1, true, [⟨35, 1, .wo, 0, []⟩, ⟨0, 18, .ro, 0, []⟩]⟩,
   ⟨0xC13041, 9, 8, 1, true, [⟨0, 36, .ro, 0, []⟩]⟩,
   ⟨0xC13042, 9, 8, 1, true, [⟨0, 36, .ro, 0, []⟩]⟩,
   ⟨0xC13043, 9, 8, 1, true, [⟨0, 36, .ro, 0, []⟩]⟩,
   ⟨0xC13044, 9, 8, 1, true, [⟨0, 36, .ro, 0, []⟩]⟩,
   ⟨0xC13045, 9, 8, 1, true, [⟨0, 36, .ro, 0, []⟩]⟩,
   ⟨0xC13046, 9, 8, 1, true, [⟨0, 36, .ro, 0, []⟩]⟩,
   ⟨0xC13047, 9, 8, 1, true, [⟨0, 36, .ro, 0, []⟩]⟩,
   ⟨0xC13200, 1, 1, 1, false, [⟨0, 36, .rwx, 34359738368, [(34325378630, 34394098106)]⟩]⟩,
   ⟨0xC13201, 1, 1, 1, false, [⟨28, 8, .rwx, 200, [(1, 255)]⟩, ⟨0, 20, .rwx, 1000, []⟩]⟩]

/-- The access table of block 20, RTC_. -/
def rowsRtc : List RegRow :=
  [⟨0xC14000, 1, 1, 1, false, [⟨5, 1, .ro, 0, []⟩, ⟨4, 1, .ro, 1, []⟩, ⟨3, 1, .ro, 0, []⟩, ⟨2, 1, .ro, 0, []⟩, ⟨1, 1, .ro, 0, []⟩, ⟨0, 1, .ro, 0, []⟩]⟩,
   ⟨0xC14001, 1, 1, 1, false, [⟨5, 1, .w1c, 0, []⟩, ⟨4, 1, .w1c, 0, []⟩, ⟨3, 1, .w1c, 0, []⟩, ⟨2, 1, .w1c, 0, []⟩, ⟨1, 1, .w1c, 0, []⟩, ⟨0, 1, .w1c, 0, []⟩]⟩,
   ⟨0xC14002, 1, 1, 1, false, [⟨3, 1, .wo, 0, []⟩, ⟨2, 1, .wo, 0, []⟩, ⟨1, 1, .wo, 0, []⟩, ⟨0, 1, .wo, 0, []⟩]⟩,
   ⟨0xC14003, 1, 1, 1, false, [⟨0, 18, .ro, 0, []⟩]⟩,
   ⟨0xC14004, 1, 1, 1, false, [⟨28, 1, .ro, 0, []⟩, ⟨24, 3, .ro, 0, []⟩, ⟨16, 8, .ro, 0, []⟩, ⟨8, 8, .ro, 1, []⟩, ⟨0, 8, .ro, 1, []⟩]⟩,
   ⟨0xC14005, 1, 1, 1, false, [⟨16, 8, .ro, 0, []⟩, ⟨8, 8, .ro, 0, []⟩, ⟨0, 8, .ro, 0, []⟩]⟩,
   ⟨0xC14006, 1, 1, 1, false, [⟨0, 15, .ro, 0, []⟩]⟩,
   ⟨0xC14007, 1, 1, 1, false, [⟨28, 1, .rw, 0, []⟩, ⟨24, 3, .rw, 0, []⟩, ⟨16, 8, .rw, 0, [(0, 9), (16, 25), (32, 41), (48, 57), (64, 73), (80, 89), (96, 105), (112, 121), (128, 137), (144, 153)]⟩, ⟨8, 8, .rw, 0, [(0, 9), (16, 25), (32, 41), (48, 57), (64, 73), (80, 89), (96, 105), (112, 121), (128, 137), (144, 153)]⟩, ⟨0, 8, .rw, 0, [(0, 9), (16, 25), (32, 41), (48, 57), (64, 73), (80, 89), (96, 105), (112, 121), (128, 137), (144, 153)]⟩]⟩,
   ⟨0xC14008, 1, 1, 1, false, [⟨16, 8, .rw, 0, [(0, 9), (16, 25), (32, 41), (48, 57), (64, 73), (80, 89), (96, 105), (112, 121), (128, 137), (144, 153)]⟩, ⟨8, 8, .rw, 0, [(0, 9), (16, 25), (32, 41), (48, 57), (64, 73), (80, 89), (96, 105), (112, 121), (128, 137), (144, 153)]⟩, ⟨0, 8, .rw, 0, [(0, 9), (16, 25), (32, 41), (48, 57), (64, 73), (80, 89), (96, 105), (112, 121), (128, 137), (144, 153)]⟩]⟩,
   ⟨0xC14009, 1, 1, 1, false, [⟨0, 15, .rw, 0, []⟩]⟩,
   ⟨0xC1400A, 1, 1, 1, false, [⟨0, 16, .rw, 0, [(0, 32767), (32769, 65535)]⟩]⟩,
   ⟨0xC1400B, 1, 1, 1, false, [⟨28, 1, .rw, 0, []⟩, ⟨16, 8, .rw, 0, [(0, 9), (16, 25), (32, 41), (48, 57), (64, 73), (80, 89), (96, 105), (112, 121), (128, 137), (144, 153)]⟩, ⟨8, 8, .rw, 0, [(0, 9), (16, 25), (32, 41), (48, 57), (64, 73), (80, 89), (96, 105), (112, 121), (128, 137), (144, 153)]⟩, ⟨0, 8, .rw, 0, [(0, 9), (16, 25), (32, 41), (48, 57), (64, 73), (80, 89), (96, 105), (112, 121), (128, 137), (144, 153)]⟩]⟩,
   ⟨0xC1400C, 1, 1, 1, false, [⟨16, 8, .rw, 0, [(0, 9), (16, 25), (32, 41), (48, 57), (64, 73), (80, 89), (96, 105), (112, 121), (128, 137), (144, 153)]⟩, ⟨8, 8, .rw, 0, [(0, 9), (16, 25), (32, 41), (48, 57), (64, 73), (80, 89), (96, 105), (112, 121), (128, 137), (144, 153)]⟩, ⟨0, 8, .rw, 0, [(0, 9), (16, 25), (32, 41), (48, 57), (64, 73), (80, 89), (96, 105), (112, 121), (128, 137), (144, 153)]⟩]⟩,
   ⟨0xC1400D, 1, 1, 1, false, [⟨0, 24, .rw, 0, []⟩]⟩,
   ⟨0xC1400E, 1, 1, 1, false, [⟨0, 2, .rw, 0, []⟩]⟩,
   ⟨0xC14010, 16, 1, 1, false, [⟨0, 32, .rw, 0, []⟩]⟩]

/-- The access table of block 21, WDG_. -/
def rowsWdg : List RegRow :=
  [⟨0xC15000, 1, 1, 1, false, [⟨20, 16, .ro, 0, []⟩, ⟨18, 2, .ro, 0, []⟩, ⟨15, 3, .ro, 0, []⟩, ⟨11, 4, .ro, 0, []⟩, ⟨8, 3, .ro, 0, []⟩, ⟨2, 1, .ro, 0, []⟩, ⟨1, 1, .ro, 0, []⟩, ⟨0, 1, .ro, 0, []⟩]⟩,
   ⟨0xC15001, 1, 1, 1, false, [⟨6, 1, .w1c, 0, []⟩, ⟨5, 1, .w1c, 0, []⟩, ⟨4, 1, .w1c, 0, []⟩, ⟨3, 1, .w1c, 0, []⟩, ⟨2, 1, .w1c, 0, []⟩, ⟨1, 1, .w1c, 0, []⟩, ⟨0, 1, .w1c, 0, []⟩]⟩,
   ⟨0xC15002, 1, 1, 1, false, [⟨0, 12, .wo, 0, []⟩]⟩,
   ⟨0xC15003, 1, 1, 1, false, [⟨12, 4, .wo, 0, []⟩, ⟨0, 12, .wo, 0, []⟩]⟩,
   ⟨0xC15004, 1, 1, 1, false, [⟨18, 18, .ro, 0, []⟩, ⟨0, 18, .ro, 0, []⟩]⟩,
   ⟨0xC15005, 1, 1, 1, false, [⟨35, 1, .ro, 0, []⟩, ⟨31, 4, .ro, 0, []⟩, ⟨27, 4, .ro, 0, []⟩, ⟨16, 11, .ro, 0, []⟩]⟩,
   ⟨0xC15006, 1, 1, 1, false, [⟨0, 18, .ro, 0, []⟩]⟩,
   ⟨0xC15007, 1, 1, 1, false, [⟨0, 36, .ro, 0, []⟩]⟩,
   ⟨0xC15008, 1, 1, 1, false, [⟨35, 1, .ro, 0, []⟩, ⟨0, 4, .ro, 0, []⟩]⟩,
   ⟨0xC15009, 1, 1, 1, false, [⟨0, 36, .ro, 0, []⟩]⟩,
   ⟨0xC1500A, 1, 1, 1, false, [⟨0, 36, .ro, 0, []⟩]⟩,
   ⟨0xC1500B, 1, 1, 1, false, [⟨0, 16, .ro, 0, []⟩]⟩,
   ⟨0xC1500C, 1, 1, 1, false, [⟨0, 16, .ro, 0, []⟩]⟩,
   ⟨0xC1500D, 1, 1, 1, false, [⟨0, 16, .ro, 0, []⟩]⟩,
   ⟨0xC15010, 16, 1, 1, false, [⟨35, 1, .ro, 0, []⟩, ⟨32, 3, .ro, 0, []⟩, ⟨31, 1, .ro, 0, []⟩, ⟨0, 16, .ro, 0, []⟩]⟩]

/-- The access table of block 22, RET_. -/
def rowsRet : List RegRow :=
  [⟨0xC16000, 1, 1, 1, false, [⟨15, 1, .ro, 0, []⟩, ⟨14, 1, .ro, 0, []⟩, ⟨13, 1, .ro, 0, []⟩, ⟨12, 1, .ro, 0, []⟩, ⟨10, 2, .ro, 0, []⟩, ⟨8, 2, .ro, 0, []⟩, ⟨6, 2, .ro, 0, []⟩, ⟨0, 4, .ro, 0, []⟩]⟩,
   ⟨0xC16001, 1, 1, 1, false, [⟨6, 1, .w1c, 0, []⟩, ⟨5, 1, .w1c, 0, []⟩, ⟨4, 1, .w1c, 0, []⟩, ⟨3, 1, .w1c, 0, []⟩, ⟨2, 1, .w1c, 0, []⟩, ⟨1, 1, .w1c, 0, []⟩, ⟨0, 1, .w1c, 0, []⟩]⟩,
   ⟨0xC16002, 1, 1, 1, false, [⟨8, 4, .ro, 0, []⟩, ⟨0, 4, .rw, 0, [(0, 1)]⟩]⟩,
   ⟨0xC16003, 1, 1, 1, false, [⟨35, 1, .rw, 0, []⟩, ⟨16, 2, .rwl, 0, []⟩, ⟨0, 16, .rwl, 0, []⟩]⟩,
   ⟨0xC16004, 1, 1, 1, false, [⟨0, 36, .ro, 0, []⟩]⟩,
   ⟨0xC16005, 1, 1, 1, false, [⟨0, 36, .ro, 0, []⟩]⟩,
   ⟨0xC16006, 1, 1, 1, false, [⟨0, 36, .ro, 0, []⟩]⟩,
   ⟨0xC16007, 1, 1, 1, false, [⟨0, 36, .ro, 0, []⟩]⟩,
   ⟨0xC16008, 1, 1, 1, false, [⟨0, 16, .ro, 0, []⟩]⟩,
   ⟨0xC16200, 1, 1, 1, false, [⟨0, 16, .rwx, 60, []⟩]⟩]

/-- The access table of block 23, KPR_. -/
def rowsKpr : List RegRow :=
  [⟨0xC17000, 1, 1, 1, false, [⟨7, 1, .ro, 0, []⟩, ⟨0, 6, .ro, 0, []⟩]⟩,
   ⟨0xC17001, 1, 1, 1, false, [⟨4, 1, .w1c, 0, []⟩, ⟨3, 1, .w1c, 0, []⟩, ⟨2, 1, .w1c, 0, []⟩, ⟨1, 1, .w1c, 0, []⟩, ⟨0, 1, .w1c, 0, []⟩]⟩,
   ⟨0xC17002, 1, 1, 1, false, [⟨0, 36, .ro, 0, []⟩]⟩,
   ⟨0xC17003, 1, 1, 1, false, [⟨0, 36, .ro, 0, []⟩]⟩,
   ⟨0xC17004, 1, 1, 1, false, [⟨0, 36, .ro, 0, []⟩]⟩,
   ⟨0xC17005, 1, 1, 1, false, [⟨0, 36, .ro, 0, []⟩]⟩,
   ⟨0xC17040, 9, 4, 1, true, [⟨34, 2, .rw, 0, [(0, 2)]⟩, ⟨16, 10, .rw, 0, []⟩, ⟨0, 3, .rw, 0, []⟩]⟩,
   ⟨0xC17041, 9, 4, 1, true, [⟨0, 36, .rw, 0, []⟩]⟩,
   ⟨0xC17042, 9, 4, 1, true, [⟨0, 36, .rw, 0, []⟩]⟩,
   ⟨0xC17043, 9, 4, 1, true, [⟨8, 4, .ro, 0, []⟩, ⟨4, 4, .ro, 0, []⟩, ⟨0, 4, .rw, 0, [(0, 3)]⟩]⟩]

/-- The access table of block 24, JNL_. -/
def rowsJnl : List RegRow :=
  [⟨0xC18000, 1, 1, 1, false, [⟨23, 1, .ro, 0, []⟩, ⟨22, 1, .ro, 0, []⟩, ⟨17, 5, .ro, 0, []⟩, ⟨0, 13, .ro, 0, []⟩]⟩,
   ⟨0xC18001, 1, 1, 1, false, [⟨2, 1, .w1c, 0, []⟩, ⟨1, 1, .w1c, 0, []⟩, ⟨0, 1, .w1c, 0, []⟩]⟩,
   ⟨0xC18002, 1, 1, 1, false, [⟨0, 36, .ro, 0, []⟩]⟩,
   ⟨0xC18003, 1, 1, 1, false, [⟨0, 36, .ro, 0, []⟩]⟩]

/-- The access table of block 25, EVR_. -/
def rowsEvr : List RegRow :=
  [⟨0xC19000, 1, 1, 1, false, [⟨23, 1, .ro, 0, []⟩, ⟨17, 5, .ro, 0, []⟩, ⟨16, 1, .ro, 0, []⟩, ⟨0, 11, .ro, 0, []⟩]⟩,
   ⟨0xC19001, 1, 1, 1, false, [⟨3, 1, .w1c, 0, []⟩, ⟨2, 1, .w1c, 0, []⟩, ⟨1, 1, .w1c, 0, []⟩, ⟨0, 1, .w1c, 0, []⟩]⟩,
   ⟨0xC19002, 1, 1, 1, false, [⟨0, 36, .ro, 0, []⟩]⟩,
   ⟨0xC19003, 1, 1, 1, false, [⟨0, 36, .ro, 0, []⟩]⟩,
   ⟨0xC19004, 1, 1, 1, false, [⟨0, 14, .ro, 0, []⟩]⟩,
   ⟨0xC19005, 1, 1, 1, false, [⟨0, 36, .ro, 0, []⟩]⟩,
   ⟨0xC19006, 1, 1, 1, false, [⟨8, 4, .ro, 0, []⟩, ⟨0, 4, .rw, 0, [(0, 1)]⟩]⟩,
   ⟨0xC19040, 9, 16, 1, true, [⟨0, 36, .rw, 0, []⟩]⟩,
   ⟨0xC19041, 9, 16, 1, true, [⟨8, 4, .ro, 0, []⟩, ⟨4, 4, .ro, 0, []⟩, ⟨0, 4, .rw, 0, [(0, 3)]⟩]⟩,
   ⟨0xC19042, 9, 16, 1, true, [⟨0, 36, .ro, 0, []⟩]⟩,
   ⟨0xC19043, 9, 16, 1, true, [⟨0, 36, .ro, 0, []⟩]⟩,
   ⟨0xC19044, 9, 16, 8, true, [⟨0, 36, .rw, 0, []⟩]⟩]

/-- The access table of block 26, COL_. -/
def rowsCol : List RegRow :=
  [⟨0xC1A000, 1, 1, 1, false, [⟨0, 36, .ro, 0, []⟩]⟩,
   ⟨0xC1A001, 1, 1, 1, false, [⟨0, 32, .ro, 0, []⟩]⟩,
   ⟨0xC1A002, 1, 1, 1, false, [⟨0, 32, .ro, 0, []⟩]⟩,
   ⟨0xC1A003, 1, 1, 1, false, [⟨8, 1, .ro, 0, []⟩, ⟨0, 8, .ro, 0, []⟩]⟩,
   ⟨0xC1A004, 1, 1, 1, false, [⟨0, 16, .ro, 0, []⟩]⟩,
   ⟨0xC1A005, 1, 1, 1, false, [⟨8, 4, .ro, 0, []⟩, ⟨0, 4, .rw, 0, [(0, 3)]⟩]⟩,
   ⟨0xC1A006, 1, 1, 1, false, [⟨0, 16, .rw, 0, []⟩]⟩,
   ⟨0xC1A007, 1, 1, 1, false, [⟨0, 36, .ro, 0, []⟩]⟩,
   ⟨0xC1A008, 1, 1, 1, false, [⟨0, 4, .ro, 0, []⟩]⟩,
   ⟨0xC1A009, 1, 1, 1, false, [⟨0, 11, .ro, 0, []⟩]⟩,
   ⟨0xC1A020, 64, 1, 1, false, [⟨0, 32, .ro, 0, []⟩]⟩,
   ⟨0xC1A060, 16, 1, 1, false, [⟨0, 32, .ro, 0, []⟩]⟩,
   ⟨0xC1A080, 256, 1, 1, false, [⟨0, 32, .ro, 0, []⟩]⟩,
   ⟨0xC1A180, 8, 1, 1, false, [⟨0, 32, .rw, 0, []⟩]⟩,
   ⟨0xC1A188, 16, 1, 1, false, [⟨0, 32, .ro, 0, []⟩]⟩]

/-- The access table of block 27, UPD_. -/
def rowsUpd : List RegRow :=
  [⟨0xC1B000, 1, 1, 1, false, [⟨33, 3, .ro, 0, []⟩, ⟨30, 3, .ro, 0, []⟩, ⟨29, 1, .ro, 0, []⟩, ⟨28, 1, .ro, 0, []⟩, ⟨24, 4, .ro, 0, []⟩, ⟨18, 6, .ro, 0, []⟩, ⟨17, 1, .ro, 0, []⟩]⟩,
   ⟨0xC1B001, 1, 1, 1, false, [⟨8, 4, .ro, 0, []⟩, ⟨7, 1, .rw, 0, []⟩, ⟨6, 1, .rw, 0, []⟩, ⟨5, 1, .rw, 0, []⟩, ⟨4, 1, .rw, 0, []⟩, ⟨0, 4, .rw, 0, [(0, 6)]⟩]⟩,
   ⟨0xC1B002, 1, 1, 1, false, [⟨0, 32, .rw, 0, []⟩]⟩,
   ⟨0xC1B003, 1, 1, 1, false, [⟨0, 32, .rw, 0, []⟩]⟩,
   ⟨0xC1B004, 1, 1, 1, false, [⟨0, 16, .ro, 0, []⟩]⟩,
   ⟨0xC1B005, 1, 1, 1, false, [⟨20, 16, .ro, 0, []⟩, ⟨0, 16, .ro, 0, []⟩]⟩,
   ⟨0xC1B006, 1, 1, 1, false, [⟨0, 24, .ro, 0, []⟩]⟩,
   ⟨0xC1B010, 8, 1, 1, false, [⟨0, 32, .ro, 0, []⟩]⟩,
   ⟨0xC1B100, 128, 1, 1, false, [⟨33, 3, .ro, 0, []⟩, ⟨29, 4, .ro, 0, []⟩, ⟨0, 6, .ro, 0, []⟩]⟩]

/-- The access table of block 28, PCI_. -/
def rowsPci : List RegRow :=
  [⟨0xC1C000, 1, 1, 1, false, [⟨7, 1, .ro, 0, []⟩, ⟨6, 1, .ro, 0, []⟩, ⟨4, 2, .ro, 0, []⟩, ⟨2, 2, .ro, 0, []⟩, ⟨0, 1, .ro, 0, []⟩]⟩,
   ⟨0xC1C001, 1, 1, 1, false, [⟨5, 1, .w1c, 0, []⟩, ⟨4, 1, .w1c, 0, []⟩, ⟨3, 1, .w1c, 0, []⟩, ⟨2, 1, .w1c, 0, []⟩, ⟨1, 1, .w1c, 0, []⟩]⟩,
   ⟨0xC1C002, 1, 1, 1, false, [⟨0, 24, .ro, 0, []⟩]⟩,
   ⟨0xC1C003, 1, 1, 1, false, [⟨0, 32, .w1c, 0, []⟩]⟩,
   ⟨0xC1C004, 1, 1, 1, false, [⟨0, 32, .rw, 0, []⟩]⟩,
   ⟨0xC1C005, 1, 1, 1, false, [⟨0, 32, .rw, 0, []⟩]⟩,
   ⟨0xC1C006, 1, 1, 1, false, [⟨24, 8, .wo, 0, []⟩]⟩]

/-- The access table of block 29, MIR_. -/
def rowsMir : List RegRow :=
  [⟨0xC1D000, 1, 1, 1, false, [⟨3, 1, .ro, 0, []⟩, ⟨0, 3, .ro, 0, []⟩]⟩,
   ⟨0xC1D001, 1, 1, 1, false, [⟨4, 1, .w1c, 0, []⟩, ⟨3, 1, .w1c, 0, []⟩, ⟨2, 1, .w1c, 0, []⟩, ⟨1, 1, .w1c, 0, []⟩, ⟨0, 1, .w1c, 0, []⟩]⟩,
   ⟨0xC1D002, 1, 1, 1, false, [⟨35, 1, .ro, 0, []⟩, ⟨0, 3, .ro, 0, []⟩]⟩,
   ⟨0xC1D003, 1, 1, 1, false, [⟨0, 36, .ro, 0, []⟩]⟩,
   ⟨0xC1D004, 1, 1, 1, false, [⟨0, 36, .ro, 0, []⟩]⟩]

/-- The access table of block 30, XSP_. -/
def rowsXsp : List RegRow :=
  [⟨0xC1E000, 1, 1, 1, false, [⟨2, 1, .ro, 0, []⟩, ⟨1, 1, .ro, 0, []⟩, ⟨0, 1, .ro, 0, []⟩]⟩,
   ⟨0xC1E001, 1, 1, 1, false, [⟨0, 1, .w1c, 0, []⟩]⟩,
   ⟨0xC1E002, 2, 1, 1, false, [⟨0, 24, .ro, 0, []⟩]⟩]

/-- The access table of block 31, DBG_. -/
def rowsDbg : List RegRow :=
  [⟨0xC1F000, 1, 1, 1, false, [⟨1, 1, .ro, 0, []⟩, ⟨0, 1, .ro, 0, []⟩]⟩,
   ⟨0xC1F001, 1, 1, 1, false, [⟨0, 1, .w1c, 0, []⟩]⟩,
   ⟨0xC1F002, 1, 1, 1, false, [⟨0, 1, .ro, 0, []⟩]⟩,
   ⟨0xC1F003, 1, 1, 1, false, [⟨0, 24, .rw, 115200, [(9600, 3000000)]⟩]⟩,
   ⟨0xC1F004, 1, 1, 1, false, [⟨0, 32, .ro, 0, []⟩]⟩]

/-- The access table of one block (R113). -/
def blockRows : Nat → List RegRow
  | 0 => rowsSys
  | 1 => rowsPwr
  | 2 => rowsClk
  | 3 => rowsRst
  | 4 => rowsFol
  | 5 => rowsHnd
  | 6 => rowsCyc
  | 7 => rowsFab
  | 8 => rowsZc
  | 9 => rowsImp
  | 10 => rowsOlc
  | 11 => rowsFrc
  | 12 => rowsSpn
  | 13 => rowsTwn
  | 14 => rowsFio
  | 15 => rowsMtr
  | 16 => rowsCan
  | 17 => rowsEth
  | 18 => rowsStn
  | 19 => rowsNtm
  | 20 => rowsRtc
  | 21 => rowsWdg
  | 22 => rowsRet
  | 23 => rowsKpr
  | 24 => rowsJnl
  | 25 => rowsEvr
  | 26 => rowsCol
  | 27 => rowsUpd
  | 28 => rowsPci
  | 29 => rowsMir
  | 30 => rowsXsp
  | 31 => rowsDbg
  | _ => []

/-- Where a word of the register space stands in a row: the group's index and the word within the group. -/
def RegRow.find (r : RegRow) (a : Nat) : Option (Nat × Nat) :=
  if a < r.base then none
  else
    let d := a - r.base
    let i := d / r.stride
    let j := d % r.stride
    if r.count = 1 ∧ d = 0 then some (0, 0)
    else if i < r.count ∧ j < r.inner then some (i, j)
    else none

/-- The first row of a list that holds the word at an address. -/
def findRow : List RegRow → Nat → Option (RegRow × Nat × Nat)
  | [], _ => none
  | r :: rest, a =>
    match r.find a with
    | some (i, j) => some (r, i, j)
    | none => findRow rest a

/-- The register named at a word address, if a chapter names one (R603). -/
def regRow (a : Nat) : Option (RegRow × Nat × Nat) :=
  if a < 0xC00000 then none else findRow (blockRows ((a - 0xC00000) / 0x1000)) a

end Sys2Proof.Machine
end

