-- ==== Sys2Proof/Machine/Ops.lean ====
section
/-!
DEFINITION. Sys2Proof/Machine/Ops.lean: the named operations over registers and memory that every command uses, the
active time (R455), and the report of an event to the fault journal or the event recorder (R509 to R515).
-/
namespace Sys2Proof.Machine

/-- The answer of every command that runs. -/
abbrev Result := Host.Outcome State Fault Refusal

/-- The answer of a command: the state that it leaves, with the queue of waiting commands as it was. -/
def State.answer (s t : State) : Result := .next { t with pending := s.pending }

/-- The value of a register field. -/
def State.get (s : State) (f : Fld) : Nat := bitsOf (s.regs.rd f.addr) f.lo f.width

/-- The state with a register field set, the value reduced to its width (R10). -/
def State.set (s : State) (f : Fld) (v : Nat) : State :=
  { s with regs := s.regs.wr f.addr (withBits (s.regs.rd f.addr) f.lo f.width v) }

/-- A one-bit field as a truth value; for a wider field, whether it is other than 0. -/
def State.flag (s : State) (f : Fld) : Bool := s.get f != 0

/-- A one-bit field set to a truth value. -/
def State.setFlag (s : State) (f : Fld) (b : Bool) : State := s.set f (bitNat b)

/-- A one-bit field set to 1. -/
def State.raise (s : State) (f : Fld) : State := s.set f 1

/-- A field raised by a number, modulo its width (R10). -/
def State.add (s : State) (f : Fld) (n : Nat) : State := s.set f (s.get f + n)

/-- A counter that saturates at the top of its field. -/
def State.addSat (s : State) (f : Fld) (n : Nat) : State :=
  s.set f (min (s.get f + n) (2 ^ f.width - 1))

/-- Bit `i` of a field. -/
def State.getBit (s : State) (f : Fld) (i : Nat) : Bool := (s.get f).testBit i

/-- Bit `i` of a field set to a truth value. -/
def State.putBit (s : State) (f : Fld) (i : Nat) (b : Bool) : State := s.set f (withBit (s.get f) i b)

/-- Bits of a field set that a mask names. -/
def State.orBits (s : State) (f : Fld) (m : Nat) : State := s.set f (s.get f ||| m)

/-- A field read as a two's-complement number. -/
def State.getInt (s : State) (f : Fld) : Int := signedOf f.width (s.get f)

/-- A whole register word. -/
def State.reg (s : State) (a : Nat) : Word := s.regs.rd a

/-- A whole register word replaced. -/
def State.setReg (s : State) (a : Nat) (w : Word) : State := { s with regs := s.regs.wr a w }

/-- Whether a field admits a code (R7). -/
def FieldRow.admits (f : FieldRow) (v : Nat) : Bool :=
  f.legal.isEmpty || f.legal.any fun p => decide (p.1 ≤ v) && decide (v ≤ p.2)

/-- A register that takes a folio's value (R111): its reserved bits stay 0, and a field keeps its value where the folio's is
a reserved code (R7). -/
def State.setting (s : State) (a : Nat) (w : Word) : State :=
  match regRow a with
  | some (r, _, _) => r.fields.foldl (fun s f =>
      let n := bitsOf w f.lo f.width
      if f.admits n then s.set ⟨a, f.lo, f.width⟩ n else s) s
  | none => s

/-- A word of memory. -/
def State.word (s : State) (a : Nat) : Word := s.mem.rd a

/-- A function applied to the state for each element of a list, in order. -/
def State.forEach {α : Type} (xs : List α) (f : α → State → State) (s : State) : State :=
  xs.foldl (fun t x => f x t) s

/-- The state changed when a condition holds. -/
def State.when (s : State) (c : Bool) (f : State → State) : State := if c then f s else s

/-- A free value of up to 72 bits drawn from the source of open values (log 2). -/
def State.draw (s : State) : Nat × State := ((Config.freeValue s.free).toNat, { s with free := s.free + 1 })

/-- The keeper window (R498). -/
def inKeeper (a : Nat) : Bool := decide (0x400000 ≤ a) && decide (a < 0x440000)

/-- The retain working copy (R250). -/
def inRetain (a : Nat) : Bool := decide (0x500000 ≤ a) && decide (a < 0x510000)

/-- The oldest write of the keeper's buffer absorbed by the array (R499). -/
def keeperAbsorbOne (s : State) : State :=
  let b := s.keeper.buffer.drop 1
  { s with keeper := { s.keeper with buffer := b } }.set R.KPR_STAT_BUF b.length

/-- A write accepted into the keeper's buffer; a full buffer first frees its oldest entry (R499). -/
def keeperAccept (s : State) (a : Nat) (old : Word) : State :=
  let s := s.when (decide (32 ≤ s.keeper.buffer.length)) keeperAbsorbOne
  let b := s.keeper.buffer ++ [(a, old)]
  { s with keeper := { s.keeper with buffer := b } }.set R.KPR_STAT_BUF b.length

/-- A word of memory written by any master: a full-word write ends the word's poison (R255), a write to the retain
working copy sets DIRTY (R492), a write to the keeper passes through its buffer (R499), and a word written while a
tip-in is staged is one for the background copy to copy again (R285). -/
def State.store (s : State) (a : Nat) (w : Word) : State :=
  let old := s.mem.rd a
  let s := { s with mem := s.mem.wr a w, poison := s.poison.filter (· != a) }
  let s := s.when (inRetain a) (·.raise R.RET_STAT_DIRTY)
  let s := s.when (inKeeper a) (keeperAccept · a old)
  s.when s.olc.staged.isSome fun s =>
    { s with olc := { s.olc with
        dirty := if s.olc.dirty.contains a then s.olc.dirty else a :: s.olc.dirty
        period := if s.olc.period.contains a then s.olc.period else a :: s.olc.period } }

/-- A range of memory written with zeros, which ends its words' poison (R255); `dest` lies behind the range. -/
def State.clearRange (s : State) (src dest : Nat) : State :=
  { s with mem := s.mem.clear src dest, poison := s.poison.filter fun a => decide (a < src) || decide (dest ≤ a) }

/-- Words written into memory from an address on by the device itself, which ends their poison (R255). -/
def State.fill (s : State) (a : Nat) (ws : List Word) : State :=
  { s with mem := s.mem.wrList a ws,
           poison := s.poison.filter fun x => decide (x < a) || decide (a + ws.length ≤ x) }

/-- Words stored one after another from an address on. -/
def State.storeList (s : State) (a : Nat) : List Word → State
  | [] => s
  | w :: ws => State.storeList (s.store a w) (a + 1) ws

/-- The words of memory from an address on. -/
def State.words (s : State) (a n : Nat) : List Word := s.mem.rdList a n

/-- The domain in force and ΔA in nanoseconds give the active time A; until LOAD it equals LOC (R455). -/
def State.now (s : State) : Nat :=
  match s.time.active with
  | none => s.time.loc
  | some d => (((s.time.dom.toList.getD d 0 : Nat) : Int) + s.time.delta / 1000000).toNat % 2 ^ 72

/-- An instant as the manual's nanosecond fields show it, modulo 2^36 (R455). -/
def instant36 (t : Nat) : Nat := t % 2 ^ 36

/-- The code of a device state in SYS_STATE.STATE (R17); OFF has none. -/
def Dev.code : Dev → Nat
  | .off => 0
  | .boot => 1
  | .load => 2
  | .stop => 3
  | .run => 4
  | .standby => 5
  | .halt => 6
  | .safe => 7

/-- The word of SYS_STATE. -/
def State.sysState (s : State) : Word := withBits (s.regs.rd R.SYS_STATE_STATE.addr) 0 4 s.dev.code

/-- The states in which the logic die works: every state but OFF. -/
def State.powered (s : State) : Bool := s.dev != .off

/-- The states in which class cycles run (R17). -/
def State.cycling (s : State) : Bool := s.dev == .run || s.dev == .standby

/-- A use by a master: the host's starts the core PLL where it is stopped (R54). -/
def State.usedBy (s : State) (master : Nat) : State :=
  if master = 8 ∧ s.flag R.CLK_STAT_STOPPED then { s with power := { s.power with pllWaking := true } } else s

/-- The answer of a command that a master gives: without power it does nothing. -/
def State.serve (s : State) (master : Nat) (f : State → State) : Result :=
  s.answer (if s.powered then f (s.usedBy master) else s)

/-- A refused write of R607: RSVD is set and SYS_ERRADR takes the master and the address. -/
def State.rsvd (s : State) (master a : Nat) : State :=
  ((s.raise R.SYS_ERR_RSVD).set R.SYS_ERRADR_MASTER master).set R.SYS_ERRADR_ADDR a

/-- A report of an event: its store, record code, reporting block and details (R511). -/
structure Report where
  toJournal : Bool
  code : Nat
  source : Nat
  detail0 : Word := 0
  detail1 : Word := 0
  deriving DecidableEq, Repr

/-- The entry that a report becomes, with the time of the grain in which it is accepted (R509). -/
def recEntry (s : State) (r : Report) (kind times : Nat) : RecEntry where
  code := r.code
  kind := kind
  source := r.source
  times := times
  stampDate := BitVec.ofNat 36
    (s.get R.RTC_STAT_INVALID * 2 ^ 35 + s.get R.RTC_STAT_RCTIME * 2 ^ 34 + s.calendar.date % 2 ^ 29)
  stampTime := BitVec.ofNat 36 (s.calendar.time % 2 ^ 24)
  stampEpoch := BitVec.ofNat 36 (s.keeper.epoch % 2 ^ 12 * 2 ^ 24 + s.calendar.grain % 2 ^ 15)
  detail0 := r.detail0
  detail1 := r.detail1

/-- A store's buffer of 16 entries with an entry placed at its end. -/
def RecStore.push (q : RecStore) (e : RecEntry) (hold : Bool) : RecStore :=
  { q with queue := q.queue ++ [e], held := hold }

/-- Whether a report is identical to a held record (R513). -/
def sameReport (e : RecEntry) (r : Report) : Bool :=
  e.code == r.code && e.source == r.source && e.detail0 == r.detail0 && e.detail1 == r.detail1

/-- A report offered to a store (R512 to R514): one identical to the held record raises its REPEAT; any other releases
the held record and takes a free entry, or is lost. The second component says that it was lost. -/
def RecStore.offer (q : RecStore) (r : Report) (e : RecEntry) : RecStore × Bool :=
  match q.held, q.queue.getLast? with
  | true, some last =>
    if sameReport last r then
      let n := last.times + 1
      ({ q with queue := q.queue.dropLast ++ [{ last with times := n }], held := n < 65535 }, false)
    else if q.queue.length < 16 then (q.push e (r.code != 1), false)
    else ({ q with held := false, pending := q.pending + 1, lost := (q.lost + 1) % 2 ^ 36 }, true)
  | _, _ =>
    if q.queue.length < 16 then (q.push e (r.code != 1), false)
    else ({ q with held := false, pending := q.pending + 1, lost := (q.lost + 1) % 2 ^ 36 }, true)

/-- The journal and recorder registers show the stores once BOOT has taken their values (R520 and the register
tables of chapter 19). -/
def recordSync (s : State) : State :=
  let j := s.records.journal
  let e := s.records.recorder
  if s.dev == .off || s.dev == .boot then s
  else
    let s := (s.set R.JNL_STAT_COUNT (min (j.next - 1) 4096)).set R.JNL_STAT_STAGED j.queue.length
    let s := (s.setFlag R.JNL_STAT_HOLD j.held).setFlag R.JNL_STAT_FULL (decide (4096 < j.next))
    let s := (s.set R.JNL_FULLSINCE_COUNT s.records.fullSince).set R.JNL_LOST_COUNT j.lost
    let s := (s.set R.EVR_STAT_EP s.records.epUsed).set R.EVR_STAT_QUEUE e.queue.length
    let s := (s.setFlag R.EVR_STAT_HOLD e.held).setFlag R.EVR_STAT_WRAPPED (decide (10752 < s.records.textCount))
    let s := (s.set R.EVR_NEXT_SEQ e.next).set R.EVR_EPBASE_SEQ s.records.epBase
    (s.set R.EVR_TWR_SLOT s.records.textNext).set R.EVR_LOST_COUNT e.lost

/-- The blocks whose recorder reports are accepted from step 2 of the power-fail sequence on (R520): cycle engine,
retain store, keeper and metering engine. -/
def pfReporter (source : Nat) : Bool := source == 6 || source == 22 || source == 23 || source == 15

/-- A report accepted, coalesced or lost (R512 to R514, R520). -/
def State.report (s : State) (r : Report) : State :=
  let e := recEntry s r 1 1
  if r.toJournal then
    let (q, lost) := s.records.journal.offer r e
    let s := { s with records := { s.records with journal := q } }
    recordSync (s.when lost (·.raise R.JNL_EVT_LOST))
  else if decide (0 < s.power.pfStep) && !pfReporter r.source then
    let q := s.records.recorder
    let q := { q with held := false, pending := q.pending + 1, lost := (q.lost + 1) % 2 ^ 36 }
    recordSync ({ s with records := { s.records with recorder := q } }.raise R.EVR_EVT_LOST)
  else
    let (q, lost) := s.records.recorder.offer r e
    let s := { s with records := { s.records with recorder := q } }
    recordSync (s.when lost (·.raise R.EVR_EVT_LOST))

/-- A fault-journal report (R511). -/
def State.journal (s : State) (code source d0 d1 : Nat) : State :=
  s.report ⟨true, code, source, BitVec.ofNat 36 d0, BitVec.ofNat 36 d1⟩

/-- An event-recorder report (R511). -/
def State.record (s : State) (code source d0 d1 : Nat) : State :=
  s.report ⟨false, code, source, BitVec.ofNat 36 d0, BitVec.ofNat 36 d1⟩

/-- A vector source seen (R549): its bit of PCI_VPEND. -/
def State.vector (s : State) (v : Nat) : State := s.putBit R.PCI_VPEND_PEND v true

/-- A command that ran on a port of a block ends; on port 8 it raises vector 2 (R549). -/
def State.portDone (s : State) (p : Nat) : State := if p = 8 then s.vector 2 else s

/-- OLC_CMD.STATUS leaves pending (R549). -/
def State.olcEnd (s : State) (status : Nat) : State := (s.set R.OLC_CMD_STATUS status).vector 19

/-- UPD_CMD.STATUS ends; it leaves pending as done or failed (R549). -/
def State.updEnd (s : State) (status : Nat) : State :=
  let s := s.set R.UPD_CMD_STATUS status
  if status = 2 ∨ status = 7 then s.vector 20 else s

/-- A field refusal code of a command register: STATUS at bits 11:8 of the register (R29, R612). -/
def State.status (s : State) (f : Fld) (code : Nat) : State := s.set f code

/-- PERLOCK and LANELOCK (R46, R49): the peripheral PLL stops while all four CAN controllers are power-gated, the lane PLLs
while their lanes are; the others lock with the time PLL. -/
def State.lockShow (s : State) : State :=
  let on := s.flag R.CLK_STAT_TIMELOCK
  (s.setFlag R.CLK_STAT_PERLOCK (on && s.get R.CLK_GATE_CAN != 15)).setFlag R.CLK_STAT_LANELOCK
    (on && s.get R.CLK_GATE_LANE != 3)

end Sys2Proof.Machine
end

