-- ==== Sys2Proof/Machine/Time.lean ====
section
/-!
DEFINITION. Sys2Proof/Machine/Time.lean: network time (R450 to R464). LOC, the two domains and ΔA advance by one period
of the time PLL at a time; the period is what the step of an idle block does (log 8).
-/
namespace Sys2Proof.Machine

/-- The name of an event task's trigger source (R155, R461): a fast pin, a field input, a counter's
compare (R382), a time trigger, a CAN buffer,
a station or metering. -/
inductive TriggerSource where
  | pin (i : Nat) (rising : Bool)
  | field (i : Nat) (rising : Bool)
  | counter (i : Nat)
  | time (sel : Nat)
  | can (idx : Nat)
  | station (idx : Nat)
  | meter (idx : Nat)
  deriving DecidableEq, Repr

/-- A domain's value. -/
def State.domain (s : State) (d : Nat) : Nat := s.time.dom.toList.getD d 0

/-- Units of 2^−32 × 10^−12 ns in a nanosecond. -/
def domUnit : Nat := 2 ^ 32 * 10 ^ 12

/-- A domain stepped by an amount of nanoseconds, modulo 2^72. -/
def stepDomain (s : State) (d : Nat) (by' : Int) : State :=
  { s with time := { s.time with dom := s.time.dom.setIfInBounds d (natOfInt 72 ((s.domain d : Int) + by')) } }

/-- The ppm that may be slewed in one 8 ns period, in 10^−6 ns: 8 × SLEW (R454, R456). -/
def slewStep (s : State) : Int := 8 * (s.get R.NTM_XSTEP_SLEW : Int)

/-- A quantity moved towards 0 by at most a step. -/
def towardsZero (v step : Int) : Int := if v.natAbs ≤ step.natAbs then 0 else if 0 < v then v - step else v + step

/-- One period for a domain: LOC's increment corrected by RATE, and a part of the offset that the servo removes by
slewing (R451, R454). -/
def tickDomain (s : State) (d : Nat) : State :=
  let inc : Int := s.get R.NTM_XINC_INC
  let rate := s.getInt (R.NTM_DRATE_RATE d)
  let rest := s.time.domSlew.toList.getD d 0
  let rest' := towardsZero rest (slewStep s)
  let total : Int := (s.domain d : Int) * domUnit + (s.time.domFrac.toList.getD d 0 : Nat) + inc * (10 ^ 12 + rate)
    + (rest - rest') * (2 ^ 32 * 10 ^ 6 : Nat)
  let t := s.time
  { s with time := { t with
    dom := t.dom.setIfInBounds d (natOfInt 72 (total / domUnit))
    domFrac := t.domFrac.setIfInBounds d (total % domUnit).toNat
    domSlew := t.domSlew.setIfInBounds d rest' } }

/-- ΔA shown in NTM_DELTA and NTM_STAT.SLEW (R456). -/
def showDelta (s : State) : State :=
  let s := s.set R.NTM_DELTA_DELTA (natOfInt 36 (saturate 36 (s.time.delta / 1000000)))
  s.setFlag R.NTM_STAT_SLEW (decide (s.time.delta ≠ 0))

/-- One 8 ns period of the time PLL (R450 to R456). -/
def tickTime (s : State) : State :=
  let f := s.time.locFrac + s.get R.NTM_XINC_INC
  let s := { s with time := { s.time with loc := (s.time.loc + f / 2 ^ 32) % 2 ^ 72, locFrac := f % 2 ^ 32 } }
  let s := tickDomain (tickDomain s 0) 1
  if s.time.delta = 0 then s
  else showDelta { s with time := { s.time with delta := towardsZero s.time.delta (slewStep s) } }

/-- What the block does while no command waits: 8 ns pass (R450; DESIGN CHOICE, log 8). -/
def idleStep (s : State) : State := if s.powered then tickTime s else s

/-- The step threshold in nanoseconds (R454, R477). -/
def stepThreshold (s : State) : Nat := s.get R.NTM_XSTEP_STEPTH * 1000

/-- A domain's state shown in NTM_DSTAT and NTM_STAT, with the event bit of an entry and the record of HOLDOVER
(R453). -/
def setDomainState (s : State) (d st : Nat) : State :=
  if s.get (R.NTM_DSTAT_STATE d) = st then s
  else
    let s := s.set (R.NTM_DSTAT_STATE d) st
    let s := if d = 0 then s.set R.NTM_STAT_Q0 st else s.set R.NTM_STAT_Q1 st
    match st with
    | 2 => s.raise R.NTM_EVT_LOCK
    | 3 => (s.raise R.NTM_EVT_HOLD).record 75 19 d 0
    | 4 => s.raise R.NTM_EVT_FREE
    | _ => s

/-- The domains as LOAD leaves them (R451 to R453, R455): a configured domain acquires; on a manager one that software or
the spine sets is locked, where elsewhere MODE does not apply yet. ACT takes its value from TIME. -/
def loadTime (s : State) (act : Nat) (manager : Bool) : State :=
  let s := State.forEach [0, 1] (fun d s =>
    match s.get (R.NTM_DCFG_MODE d) with
    | 0 => s
    | 1 | 5 => setDomainState s d (if manager then 2 else 1)
    | _ => setDomainState s d 1) s
  { s with time := { s.time with active := some act } }.set R.NTM_STAT_ACT act

/-- A TMR channel after a change of A from `before` to `after` by a step (R462): a forward step over n expiries raises
COUNT by n and sets MISSED; a backward step re-fires nothing. -/
def tmrAfterStep (params : List Word) (before after : Nat) (t : TmrSt) : TmrSt :=
  let kind := bitsOf (params.getD 0 0) 34 2
  let period := (params.getD 2 0).toNat
  if !t.armed || kind = 2 || after ≤ before || after < t.next then t
  else
    let n := if kind = 1 ∧ 0 < period then (after - t.next) / period + 1 else 1
    { t with count := (t.count + n) % 2 ^ 18, missed := true, armed := kind = 1,
             time := instant36 (t.next + (n - 1) * period), next := t.next + n * period }

/-- The first instant at or after `t` whose value modulo 2^36 is `start` (R462). -/
def firstExpiry (t start : Nat) : Nat := t + (start + 2 ^ 36 - t % 2 ^ 36) % 2 ^ 36

/-- The STEP event and record of a step of A or of the active domain (R457). -/
def stepReport (s : State) (dom : Nat) (by' : Int) : State :=
  (s.raise R.NTM_EVT_STEP).record 76 19 dom (natOfInt 36 (saturate 36 by'))

/-- Every TMR channel taken over a step of A. -/
def tmrStepAll (s : State) (before : Nat) : State :=
  let after := s.now
  { s with time := { s.time with tmrs := s.time.tmrs.map fun t =>
    match s.handles.channels.find? (fun c => c.cls == 6 && c.idx == t.idx) with
    | some c => tmrAfterStep c.words before after t
    | none => t } }

/-- A step or switch taking effect at its instant (R456, R457). The second component says whether A was stepped, so that
the grid skips (R119): a step of the active domain moves A while ΔA is being absorbed too (log 126). -/
def applyTimeChange (s : State) (c : TimeChange) : State × Bool :=
  let before := s.now
  match c with
  | .step d by' =>
    let s := (stepDomain s d by').add (R.NTM_DSTAT_STEPS d) 1
    if s.time.active = some d then (tmrStepAll (stepReport s d by') before, true) else (s, false)
  | .switch d given =>
    let delta := given.getD (((s.now : Int) - (s.domain d : Int)) * 1000000)
    let s := ({ s with time := { s.time with active := some d } }.set R.NTM_STAT_ACT d).raise R.NTM_EVT_SWITCH
    if delta.natAbs ≤ stepThreshold s * 1000000 then
      (showDelta { s with time := { s.time with delta := delta } }, false)
    else
      let s := showDelta { s with time := { s.time with delta := 0 } }
      (tmrStepAll (stepReport s 2 (-(delta / 1000000))) before, true)

/-- A device that is standalone or the acting manager disciplines the domains (R452, R459). -/
def timeMaster (s : State) : Bool :=
  match s.folio.content with
  | some c => c.standalone || s.flag R.SPN_STAT_ACTING
  | none => false

/-- A notice recorded for its instant (R457): PEND shows it. -/
def noticeAdd (s : State) (n : TimeNotice) : State :=
  { s with time := { s.time with notices := s.time.notices ++ [n] } }.raise R.NTM_STAT_PEND

/-- The next base-tick boundary after an instant (R118, R457). -/
def nextTick (t : Nat) : Nat := (t / 31250 + 1) * 31250

/-- The instant S of a change issued now (R457): the next base-tick boundary, in a spine system the first at least
T_B + 1 µs after issue, for the loop with the larger N. -/
def changeInstant (s : State) : Nat :=
  let standalone := match s.folio.content with
    | some c => c.standalone
    | none => true
  if standalone then nextTick s.now
  else
    let n := max (s.get R.SPN_STAT_NA) (s.get R.SPN_STAT_NB)
    nextTick (s.now + 800 + (n + 1) * 64 + 1000 - 1)

/-- The sources that a domain's servo may follow: the PTP modes (R451). -/
def ptpMode (s : State) (d : Nat) : Bool :=
  let m := s.get (R.NTM_DCFG_MODE d)
  m == 2 || m == 3 || m == 4

/-- A step that the servo of a domain has announced waits for its instant. -/
def stepDue (s : State) (d : Nat) : Bool := s.time.notices.any fun n => !n.byCommand &&
  match n.change with
  | .step e _ => e == d
  | .switch _ _ => false

/-- The RATE that a domain's servo keeps (R451), whose law the manual does not give: a free value (log 127). -/
def servoRate (s : State) (d : Nat) : State :=
  let (f, s) := s.draw
  s.set (R.NTM_DRATE_RATE d) f

/-- PTP_MESSAGE (R453, R454, R459): a Sync whose measured offset from the source is given in 0.25 ns. An offset at or
below STEPTH is slewed away, a larger one stepped under R457; 16 consecutive offsets below 1 µs lock the domain. An
Announce also carries the UTC offset and whether this device is grandmaster. -/
def ptpMessage (s : State) (d : Nat) (offset : Int) (utc : Option Nat) (gm : Bool) : State :=
  if !(timeMaster s && ptpMode s d) then s
  else
    let s := (s.set (R.NTM_DOFS_OFS d) (natOfInt 36 (saturate 36 offset))).setFlag (R.NTM_DSTAT_GM d) gm
    let s := match utc with
      | some u => s.set R.NTM_UTCOFS_OFS u
      | none => s
    let s := s.when (s.get (R.NTM_DSTAT_STATE d) == 4 || s.get (R.NTM_DSTAT_STATE d) == 0) (setDomainState · d 1)
    let good := if offset.natAbs < 4000 then s.time.good.toList.getD d 0 + 1 else 0
    let s := { s with time := { s.time with good := s.time.good.setIfInBounds d good } }
    let s := servoRate (s.when (decide (16 ≤ good)) (setDomainState · d 2)) d
    let ns := offset / 4
    if offset.natAbs ≤ 4 * stepThreshold s then
      { s with time := { s.time with domSlew := s.time.domSlew.setIfInBounds d (-offset * 250000) } }
    else if stepDue s d then s
    else noticeAdd s ⟨changeInstant s, .step d (-ns), false⟩

/-- SOURCE_LOSS (R453): the domain enters HOLDOVER. -/
def sourceLoss (s : State) (d : Nat) : State :=
  let st := s.get (R.NTM_DSTAT_STATE d)
  if st == 1 || st == 2 then
    let s := { s with time := { s.time with good := s.time.good.setIfInBounds d 0 } }
    setDomainState (s.raise R.NTM_EVT_SRCLOSS) d 3
  else s

/-- A NTM_CMD command (R456, R457): admitted in STOP, RUN and HALT on a standalone device or the acting manager. -/
def timeCommand (s : State) (master code dom : Nat) : State :=
  if s.get R.NTM_CMD_STATUS = 1 then s.rsvd master R.NTM_CMD_CODE.addr
  else
    let s := (s.set R.NTM_CMD_CODE code).set R.NTM_CMD_DOM dom
    if !timeMaster s then s.set R.NTM_CMD_STATUS 5
    else if !(s.dev == .stop || s.dev == .run || s.dev == .halt) then s.set R.NTM_CMD_STATUS 3
    else if code = 1 then
      if s.time.active = some dom then s.set R.NTM_CMD_STATUS 2
      else noticeAdd (s.set R.NTM_CMD_STATUS 1) ⟨changeInstant s, .switch dom none, true⟩
    else if s.get (R.NTM_DCFG_MODE dom) ≠ 5 ∧ s.get (R.NTM_DCFG_MODE dom) ≠ 1 then s.set R.NTM_CMD_STATUS 3
    else noticeAdd (s.set R.NTM_CMD_STATUS 1) ⟨changeInstant s, .step dom 0, true⟩

/-- The change of a notice at its instant: SET takes the value that NTM_SETH and NTM_SETL hold (the register table). -/
def noticeChange (s : State) (n : TimeNotice) : TimeChange :=
  match n.change, n.byCommand with
  | .step d _, true =>
    .step d (((s.get R.NTM_SETH_VALUE * 2 ^ 36 + s.get R.NTM_SETL_VALUE : Nat) : Int) - (s.domain d : Int))
  | c, _ => c

/-- Whether a notice is a step. -/
def TimeNotice.isStep (n : TimeNotice) : Bool :=
  match n.change with
  | .step _ _ => true
  | .switch _ _ => false

/-- The notices of the earliest instant taken, steps ahead of switches (R457); the second component says whether A was
stepped. -/
def applyNotices (s : State) : State × Bool :=
  match s.time.notices with
  | [] => (s, false)
  | n :: rest =>
    let at' := rest.foldl (fun m x => min m x.at') n.at'
    let due := s.time.notices.filter (·.at' == at')
    let left := s.time.notices.filter (·.at' != at')
    let order := due.filter (·.isStep) ++ due.filter (!·.isStep)
    let s := { s with time := { s.time with notices := left } }.setFlag R.NTM_STAT_PEND (!left.isEmpty)
    let (s, stepped) := order.foldl (fun p n =>
      let (s', b) := applyTimeChange p.1 (noticeChange p.1 n)
      (s'.when n.byCommand (·.set R.NTM_CMD_STATUS 2), p.2 || b)) (s, false)
    (s, stepped)

/-- NTM_PSNAP.TAKE (R476): A, D0, D1 and LOC at one instant, then SEQ. -/
def takeSnapshot (s : State) (p : Nat) : State :=
  let a := s.now
  let s := (s.set (R.NTM_PAH_A p) (a / 2 ^ 36)).set (R.NTM_PAL_A p) a
  let s := (s.set (R.NTM_PD0H_D0 p) (s.domain 0 / 2 ^ 36)).set (R.NTM_PD0L_D0 p) (s.domain 0)
  let s := (s.set (R.NTM_PD1H_D1 p) (s.domain 1 / 2 ^ 36)).set (R.NTM_PD1L_D1 p) (s.domain 1)
  (s.set (R.NTM_PLOC_LOC p) s.time.loc).add (R.NTM_PSNAP_SEQ p) 1

/-- PTP_MESSAGE (R459). -/
def execPtpMessage (dom : Fin 2) (offset : Int) (utc : Option (BitVec 16)) (gm : Bool) (s : State) : Result :=
  s.answer (if s.powered then ptpMessage s dom offset (utc.map (·.toNat)) gm else s)

/-- SOURCE_LOSS (R453). -/
def execSourceLoss (dom : Fin 2) (s : State) : Result :=
  s.answer (if s.powered && timeMaster s && ptpMode s dom then sourceLoss s dom else s)

/-- HOLDOVER_EXPIRY (R453): HOLDLIM seconds in HOLDOVER. -/
def execHoldoverExpiry (dom : Fin 2) (s : State) : Result :=
  s.answer (if s.powered && s.get (R.NTM_DSTAT_STATE dom) == 3 then setDomainState s dom 4 else s)

/-- SWITCH (R456). -/
def execSwitch (master : Fin 18) (dom : Fin 2) (s : State) : Result :=
  s.serve master fun s => timeCommand s master 1 dom

/-- SET (R457). -/
def execSet (master : Fin 18) (dom : Fin 2) (s : State) : Result := s.serve master fun s => timeCommand s master 2 dom

/-- SLEW_DONE (R456): ΔA has reached 0. -/
def execSlewDone (s : State) : Result :=
  s.answer (if s.powered then showDelta { s with time := { s.time with delta := 0 } } else s)

/-- TIME_SNAPSHOT (R476). -/
def execTimeSnapshot (port : Port) (s : State) : Result := s.serve port fun s => takeSnapshot s port

end Sys2Proof.Machine
end

