-- ==== Sys2Proof/Machine/Schedule.lean ====
section
/-!
DEFINITION. Sys2Proof/Machine/Schedule.lean: which task a word core runs: activation (R209), preemption by class and
event priority (R125, R133, R210), the end of a task, and the triggers of event tasks (R134, R135, R155).
-/
namespace Sys2Proof.Machine

/-- Core `c`. -/
def State.core (s : State) (c : Nat) : Core := s.cores.toList.getD c Core.fresh

/-- Core `c` replaced. -/
def State.setCore (s : State) (c : Nat) (k : Core) : State := { s with cores := s.cores.setIfInBounds c k }

/-- Class `c`'s cycle. -/
def State.cls (s : State) (c : Nat) : ClassSt := s.cycle.classes.toList.getD c ClassSt.fresh

/-- Class `c`'s cycle changed. -/
def State.setCls (s : State) (c : Nat) (k : ClassSt) : State :=
  { s with cycle := { s.cycle with classes := s.cycle.classes.setIfInBounds c k } }

/-- Event task `e`. -/
def State.event (s : State) (e : Nat) : EventSt := s.cycle.events.toList.getD e ⟨false, false, false, 0⟩

/-- Event task `e` changed. -/
def State.setEvent (s : State) (e : Nat) (k : EventSt) : State :=
  { s with cycle := { s.cycle with events := s.cycle.events.setIfInBounds e k } }

/-- The core units of the folio in force. -/
def State.coreUnits (s : State) : List CoreUnit :=
  match s.folio.content with
  | some c => c.cores
  | none => []

/-- The points of STRUCT. -/
def State.points (s : State) : List Point :=
  match s.folio.content with
  | some c => c.points
  | none => []

/-- The unit of a task. -/
def State.unitOf (s : State) (t : TaskRef) : Option CoreUnit :=
  (if t.foreign then s.imposer.foreignUnits else s.coreUnits).find? (·.id == t.id)

/-- The sheet entry of an item placed on this device (R279). -/
def State.placed (s : State) (kind id : Nat) (foreign : Bool) : Option SheetEntry :=
  s.imposer.sheet.find? fun e => e.kind == kind && e.id == id && e.foreign == foreign && !e.remote

/-- The core that runs a task. -/
def State.coreOf (s : State) (t : TaskRef) : Option Nat := (s.placed 1 t.id t.foreign).map (·.place)

/-- The priority rank of a task (R125, R133), lower ranks first: PRIO p of an event task lies just above class p. -/
def taskRank (s : State) (t : TaskRef) : Nat :=
  match t.event with
  | some e => 2 * s.get (R.CYC_ETCFG_PRIO e)
  | none => 2 * t.cls + 1

/-- ZC_STAT of a core shows its task and status word (R212). -/
def coreShow (s : State) (c : Nat) : State :=
  let k := s.core c
  let s := match k.task with
    | some t =>
      let s := (s.set (R.ZC_STAT_TASK c) t.id).setFlag (R.ZC_STAT_EVT c) t.event.isSome
      (s.set (R.ZC_STAT_CLASS c) t.cls).set (R.ZC_STAT_BUSY c) 1
    | none => ((s.set (R.ZC_STAT_TASK c) 255).set (R.ZC_STAT_EVT c) 0).set (R.ZC_STAT_CLASS c) 0 |>.set (R.ZC_STAT_BUSY c) 0
  (s.set (R.ZC_STAT_PL c) (swPL k.sw)).setFlag (R.ZC_STAT_TH c) (k.sw.getLsbD 16)

/-- A core with its registers at their activation values (R189, R190, R209): SW takes OVE and SAT from ZC_CFG. -/
def coreActivate (s : State) (k : Core) (entry : Nat) : Core :=
  { Core.fresh with
    vbase := k.vbase
    preempted := k.preempted
    ready := k.ready
    sw := BitVec.ofNat 36 (s.get R.ZC_CFG_OVE * 1024 + s.get R.ZC_CFG_SAT * 512)
    pc := BitVec.ofNat 24 entry }

/-- A task begins on a core (R209); RUNS of an event task counts the run (R155). The task that R184 names meets its BUS trap
at once. -/
def taskStart (s : State) (c : Nat) (t : TaskRef) : State :=
  let base := (s.placed 1 t.id t.foreign).elim 0 (·.base)
  let entry := (s.unitOf t).elim 0 (·.entry)
  let k := coreActivate s (s.core c) (base + entry)
  let v := s.cls t.cls
  let mine := t.event.isNone && v.busUnit.any (·.1 == t.id)
  let s := s.when mine (·.setCls t.cls { v with busUnit := none })
  let s := s.setCore c { k with
    task := some t, wait := if mine then .called (v.busUnit.map (·.2)) else .none }
  let s := match t.event with
    | some e => (s.setEvent e { s.event e with ready := false, running := true }).add (R.CYC_ETCNT_RUNS e) 1
    | none => s
  coreShow s c

/-- The context block's address of a task (R210). -/
def contextBase (s : State) (t : TaskRef) : Nat := (s.placed 4 t.id t.foreign).elim 0 (·.base)

/-- Preemption (R210): words 0 to 61 go to the context block; words 62 and 63, whose layout the manual does not give,
take free values (log 9). A FENCE that waits is issued again when its task resumes (R222). -/
def taskPreempt (s : State) (c : Nat) : State :=
  let k := s.core c
  match k.task with
  | none => s
  | some t =>
    let (f, s) := s.draw
    let b := contextBase s t
    let s := s.storeList b (k.context ++ [BitVec.ofNat 36 f, BitVec.ofNat 36 (f / 2 ^ 36)])
    let wait : CoreWait := match k.wait with
      | .fence _ => .none
      | w => w
    s.setCore c { k with task := none, preempted := ⟨t, wait, k.posted, k.firstTrap⟩ :: k.preempted }

/-- A core at no point at which its task can be preempted: inside an instruction that waits for a remote word (R222), or
with a store error outstanding, which preemption, as a FENCE.C, awaits (R260). -/
def preemptHeld (s : State) (c : Nat) : Bool :=
  let k := s.core c
  k.imprecise.isSome || s.spine.answers.any (·.1 == c) ||
  match k.wait with
  | .remote _ => true
  | _ => false

/-- A preempted task resumes exactly, from its context block (R210). -/
def taskResume (s : State) (c : Nat) : State :=
  let k := s.core c
  match k.preempted with
  | [] => s
  | v :: rest =>
    let k := k.fromContext (s.words (contextBase s v.task) 62)
    coreShow (s.setCore c { k with task := some v.task, preempted := rest, wait := v.wait, posted := v.posted,
                                   firstTrap := v.firstTrap }) c

/-- A task placed among those ready, behind every task of its rank or above; event tasks of one PRIO by number
(R133). -/
def insertReady (s : State) (t : TaskRef) : List TaskRef → List TaskRef
  | [] => [t]
  | x :: xs =>
    let before := decide (taskRank s t < taskRank s x) ||
      (taskRank s t == taskRank s x && t.event.isSome && decide (t.event.getD 0 < x.event.getD 0))
    if before then t :: x :: xs else x :: insertReady s t xs

/-- The core takes its next task: the preempted task or the first ready one, whichever ranks higher (R125). -/
def coreNext (s : State) (c : Nat) : State :=
  let k := s.core c
  match k.preempted, k.ready with
  | [], [] => coreShow s c
  | [], t :: ts => taskStart (s.setCore c { k with ready := ts }) c t
  | _ :: _, [] => taskResume s c
  | v :: _, t :: ts =>
    if taskRank s t < taskRank s v.task then taskStart (s.setCore c { k with ready := ts }) c t else taskResume s c

/-- The first ready task takes the core from the running one where it ranks higher and the core is at a point at which its
task can be preempted (R125, R222). -/
def preemptDue (s : State) (c : Nat) : Bool :=
  let k := s.core c
  match k.task, k.ready with
  | some r, t :: _ => decide (taskRank s t < taskRank s r)
  | _, _ => false

/-- A preemption that is due and can happen happens. -/
def preemptSettle (s : State) (c : Nat) : State :=
  if preemptDue s c && !preemptHeld s c then
    match (s.core c).ready with
    | [] => s
    | t :: ts => taskStart (taskPreempt (s.setCore c { s.core c with ready := ts }) c) c t
  else s

/-- A task becomes ready on its core: an idle core takes its highest task, a running task of lower priority is preempted,
otherwise it waits (R125). -/
def taskReady (s : State) (t : TaskRef) : State :=
  match s.coreOf t with
  | none => s
  | some c =>
    let k := s.core c
    let s := s.setCore c { k with ready := insertReady s t k.ready }
    if k.task.isNone then coreNext s c else preemptSettle s c

/-- An event task that has been triggered at an instant (R133, R135): accepted in RUN only; merged while the task is
pending or running. It wakes a stopped core PLL (R54). -/
def triggerEvent (s : State) (e at' : Nat) : State :=
  if s.dev != .run then s
  else
    let s := s.when (s.flag R.CLK_STAT_STOPPED) fun s => { s with power := { s.power with pllWaking := true } }
    let v := s.event e
    if v.ready || v.running then
      let s := (s.add (R.CYC_ETCNT_MERGED e) 1).raise R.CYC_EVT_EVMISS
      s.setEvent e { v with again := true, againAt := if v.again then v.againAt else at' }
    else
      match s.coreUnits.find? (·.event == some e) with
      | none => s
      | some u =>
        let s := (s.set (R.CYC_ETTIM_TIME e) (instant36 at')).setEvent e { v with ready := true }
        taskReady s ⟨u.id, s.get (R.CYC_ETCFG_HOST e), some e, false⟩

/-- The SRC code and number of a trigger source, and the edge that it carries: 0 none, 1 rising, 2 falling (R155). -/
def TriggerSource.code : TriggerSource → Nat × Nat × Nat
  | .pin i r => (1, i, if r then 1 else 2)
  | .field i r => (2, i, if r then 1 else 2)
  | .counter i => (2, 32 + i, 0)
  | .time sel => (3, sel, 0)
  | .can i => (4, i, 0)
  | .station i => (5, i, 0)
  | .meter i => (7, i, 0)

/-- Every event task that a source triggers (R155); pin and field sources by the edges that EDGE selects. -/
def triggerSource (s : State) (src : TriggerSource) : State :=
  let (code, num, edge) := src.code
  State.forEach (List.range 32) (fun e s =>
    if s.get (R.CYC_ETCFG_SRC e) = code ∧ s.get (R.CYC_ETCFG_SEL e) = num ∧
        (edge = 0 ∨ s.get (R.CYC_ETCFG_EDGE e) &&& edge ≠ 0)
    then triggerEvent s e s.now else s) s

/-- An event task's run has ended: a merged trigger makes it ready again (R135). -/
def eventDone (s : State) (e : Nat) : State :=
  let v := s.event e
  let s := s.setEvent e ⟨false, false, false, 0⟩
  if v.again then triggerEvent s e v.againAt else s

/-- The passes that ended activations have posted stay outstanding on their cores, and answer nobody (R164). -/
def passesOrphan (s : State) (mine : TaskRef → Bool) : State :=
  let orphan (p : Pass) : Pass := match p.by' with
    | .core c t _ => if mine t then { p with by' := .ended c t.event.isSome } else p
    | _ => p
  { s with fabric := { s.fabric with
    quires := s.fabric.quires.map fun (q : QuireSt) =>
      { q with running := q.running.map orphan, waiting := q.waiting.map orphan } } }

/-- The task on a core ends (R209): a merged trigger of an event task makes it ready again, and its core takes the next
one. -/
def taskEnd (s : State) (c : Nat) : State :=
  let k := s.core c
  match k.task with
  | none => s
  | some t =>
    let s := passesOrphan s (· == t)
    let s := s.setCore c { Core.fresh with vbase := k.vbase, preempted := k.preempted, ready := k.ready }
    let s := match t.event with
      | some e => eventDone s e
      | none => s
    if (s.core c).task.isNone then coreNext s c else s

/-- Every task and event task of a class leaves every core (R22, R210): nothing of it runs or waits. -/
def abandonClass (s : State) (c : Nat) : State :=
  let s := passesOrphan s (·.cls == c)
  let s := State.forEach (List.range 8) (fun i s =>
    let k := s.core i
    let k := { k with preempted := k.preempted.filter (·.task.cls != c), ready := k.ready.filter (·.cls != c) }
    let s := s.setCore i k
    if k.task.any (·.cls == c) then
      coreNext (s.setCore i { Core.fresh with vbase := k.vbase, preempted := k.preempted, ready := k.ready }) i
    else s) s
  State.forEach (List.range 32) (fun e s =>
    if s.get (R.CYC_ETCFG_SRC e) ≠ 0 ∧ s.get (R.CYC_ETCFG_HOST e) = c then s.setEvent e ⟨false, false, false, 0⟩
    else s) s

/-- A task or event task of a class that runs or waits on some core. -/
def classWorking (s : State) (c : Nat) (withEvents : Bool) : Bool :=
  s.cores.toList.any fun k =>
    let mine (t : TaskRef) := t.cls == c && (withEvents || t.event.isNone)
    k.task.any mine || k.preempted.any (mine ·.task) || k.ready.any mine

end Sys2Proof.Machine
end

