-- ==== Sys2Proof/Machine/Calendar.lean ====
section
/-!
DEFINITION. Sys2Proof/Machine/Calendar.lean: notices of time at their instant, TMR channels (R457, R462, R463), and the
calendar of the always-on domain (R466 to R473).
-/
namespace Sys2Proof.Machine

/-- A two-digit BCD value as a number. -/
def bcdNat (b : Nat) : Nat := b / 16 % 16 * 10 + b % 16

/-- A number below 100 in BCD. -/
def natBcd (n : Nat) : Nat := n / 10 % 10 * 16 + n % 10

/-- The fields of a date word: CENT, WDAY, YEAR, MONTH and DAY as numbers, and the fields of a time word: HOUR, MIN and
SEC (the RTC_ register table). -/
structure CalTime where
  cent : Nat
  wday : Nat
  year : Nat
  month : Nat
  day : Nat
  hour : Nat
  min : Nat
  sec : Nat
  deriving DecidableEq, Repr

/-- A calendar value from its date and time words. -/
def calOf (date time : Nat) : CalTime where
  cent := date / 2 ^ 28 % 2
  wday := date / 2 ^ 24 % 8
  year := bcdNat (date / 2 ^ 16 % 256)
  month := bcdNat (date / 2 ^ 8 % 256)
  day := bcdNat (date % 256)
  hour := bcdNat (time / 2 ^ 16 % 256)
  min := bcdNat (time / 2 ^ 8 % 256)
  sec := bcdNat (time % 256)

/-- The date word of a calendar value. -/
def CalTime.date (t : CalTime) : Nat :=
  t.cent * 2 ^ 28 + t.wday * 2 ^ 24 + natBcd t.year * 2 ^ 16 + natBcd t.month * 2 ^ 8 + natBcd t.day

/-- The time word of a calendar value. -/
def CalTime.time (t : CalTime) : Nat := natBcd t.hour * 2 ^ 16 + natBcd t.min * 2 ^ 8 + natBcd t.sec

/-- The month length of R469. -/
def monthLength (year month : Nat) : Nat :=
  if month = 4 ∨ month = 6 ∨ month = 9 ∨ month = 11 then 30
  else if month = 2 then (if year % 4 = 0 then 29 else 28) else 31

/-- The month advances (R469). -/
def monthAdvance (t : CalTime) : CalTime :=
  if 12 ≤ t.month then
    if 99 ≤ t.year then { t with month := 1, year := 0, cent := 1 - t.cent } else { t with month := 1, year := t.year + 1 }
  else { t with month := t.month + 1 }

/-- The day rolls over, WDAY with it (R469). -/
def dayAdvance (t : CalTime) : CalTime :=
  let t := { t with wday := if t.wday = 0 then 0 else if 7 ≤ t.wday then 1 else t.wday + 1 }
  if t.day = 0 then { t with day := 1 }
  else if monthLength t.year t.month ≤ t.day then monthAdvance { t with day := 1 }
  else { t with day := t.day + 1 }

/-- A second ends (R469). -/
def secondAdvance (t : CalTime) : CalTime :=
  if t.sec < 59 then { t with sec := t.sec + 1 }
  else if t.min < 59 then { t with sec := 0, min := t.min + 1 }
  else if t.hour < 23 then { t with sec := 0, min := 0, hour := t.hour + 1 }
  else dayAdvance { t with sec := 0, min := 0, hour := 0 }

/-- The month before (the inverse of R469's month advance). -/
def monthBack (t : CalTime) : CalTime :=
  if 1 < t.month then { t with month := t.month - 1 }
  else if t.year = 0 then { t with month := 12, year := 99, cent := 1 - t.cent }
  else { t with month := 12, year := t.year - 1 }

/-- A second borrowed (R468: "carrying or borrowing into the seconds and onward under R469"; DEDUCED, log 10: each
unit borrows as the inverse of its rollover). -/
def secondBack (t : CalTime) : CalTime :=
  if 0 < t.sec then { t with sec := t.sec - 1 }
  else if 0 < t.min then { t with sec := 59, min := t.min - 1 }
  else if 0 < t.hour then { t with sec := 59, min := 59, hour := t.hour - 1 }
  else
    let t := { t with sec := 59, min := 59, hour := 23,
                      wday := if t.wday = 0 then 0 else if t.wday = 1 then 7 else t.wday - 1 }
    if 1 < t.day then { t with day := t.day - 1 }
    else let t := monthBack t; { t with day := monthLength t.year t.month }

/-- The calendar set to a value. -/
def setCal (s : State) (t : CalTime) (grain : Nat) : State :=
  { s with calendar := { s.calendar with date := t.date, time := t.time, grain := grain } }

/-- The calendar's value. -/
def State.cal (s : State) : CalTime := calOf s.calendar.date s.calendar.time

/-- A second of the calendar ends (R469): the grain count within the second returns to 0. -/
def calendarRollover (s : State) : State :=
  (setCal s (secondAdvance s.cal) 0).when (s.flag R.UPD_STAT_TRIAL) (·.add R.UPD_TRIALT_SECS 1)

/-- A signed count of grains added to the calendar (R468), at most one second either way. -/
def calendarShift (s : State) (n : Int) : State :=
  let g := (s.calendar.grain : Int) + n
  if g < 0 then setCal s (secondBack s.cal) (g + 32768).toNat
  else if 32768 ≤ g then setCal s (secondAdvance s.cal) (g - 32768).toNat
  else setCal s s.cal g.toNat

/-- A staged APPLY takes effect (R467). -/
def calendarApply (s : State) : State :=
  let s := { s with calendar := { s.calendar with date := (s.reg R.RTC_WDATE_DAY.addr).toNat,
                                                  time := (s.reg R.RTC_WTIME_SEC.addr).toNat,
                                                  grain := s.get R.RTC_WSUB_GRAIN, applyDue := false, adjusted := true } }
  let s := (s.set R.RTC_STAT_INVALID 0).setFlag R.RTC_STAT_RCTIME s.power.slowRc
  s.raise R.RTC_EVT_APPLIED

/-- VAON is present: the always-on domain works, not the calendar alone (R13). -/
def State.aon (s : State) : Bool := !s.power.vaonLost

/-- GRAIN_BOUNDARY (R467, R468): one grain is counted, a staged set replaces the calendar and discards the rollover, a
SHIFT follows it, PEND clears; the ladder clock and the wake count advance while VAON is present (R473, R478). -/
def grainBoundary (s : State) : State :=
  let s := s.when s.aon fun s => (s.add R.WDG_LCLK_GRAIN 1)
  let s := s.when (s.aon && s.flag R.RTC_STAT_WAKEON) fun s =>
    { s with calendar := { s.calendar with wakeCount := s.calendar.wakeCount + 1 } }
  let s := s.when s.power.slowRc (·.raise R.RTC_STAT_RCTIME)
  let s := { s with calendar := { s.calendar with adjusted := false } }
  let s := if s.calendar.grain + 1 < 32768 then setCal s s.cal (s.calendar.grain + 1) else calendarRollover s
  let s := s.when s.calendar.applyDue calendarApply
  match s.calendar.shiftDue with
  | none => s.set R.RTC_STAT_PEND 0
  | some n =>
    let s := calendarShift s n
    let s := { s with calendar := { s.calendar with shiftDue := none, adjusted := true } }
    (s.raise R.RTC_EVT_SHIFTED).set R.RTC_STAT_PEND 0

/-- A calendar value as a number for R472's order: CENT, YEAR, MONTH, DAY, HOUR, MIN, SEC and sub-second, WDAY not
compared. -/
def calKey (t : CalTime) (grain : Nat) : Nat :=
  ((((((t.cent * 256 + t.year) * 256 + t.month) * 256 + t.day) * 256 + t.hour) * 256 + t.min) * 256 + t.sec) * 32768 + grain

/-- The calendar's place in that order. -/
def calNow (s : State) : Nat := calKey s.cal s.calendar.grain

/-- The alarm instant: its sub-second count is 0 (R472). -/
def alarmKey (s : State) : Nat :=
  calKey (calOf (s.reg R.RTC_ALDATE_DAY.addr).toNat (s.reg R.RTC_ALTIME_SEC.addr).toNat) 0

/-- ALARM_FIRE (R472): an armed alarm whose instant the calendar has reached, while VAON is present. ALARM_SKIPPED tells
a firing that follows an adjustment, or an instant passed without equality. -/
def alarmFire (s : State) : State :=
  if s.aon && s.flag R.RTC_STAT_ARMED && decide (alarmKey s ≤ calNow s) then
    let skipped := s.calendar.adjusted || decide (calNow s ≠ alarmKey s)
    let s := (s.set R.RTC_STAT_ARMED 0).raise R.RTC_EVT_ALARM
    triggerSource (s.when skipped (·.raise R.RTC_EVT_ALARM_SKIPPED)) (.time 256)
  else s

/-- PERIODIC_WAKE (R473): PERIOD grains have been counted. -/
def periodicWake (s : State) : State :=
  if s.aon && s.flag R.RTC_WAKE_PERIOD && decide (s.get R.RTC_WAKE_PERIOD ≤ s.calendar.wakeCount) then
    let s := { s with calendar := { s.calendar with wakeCount := 0 } }
    triggerSource (s.raise R.RTC_EVT_WAKE) (.time 257)
  else s

/-- Days from 2000-01-01 to a date of the Gregorian calendar, years counted from 2000. -/
def civilDays (year month day : Nat) : Int :=
  let y : Int := if month ≤ 2 then (year : Int) - 1 else year
  let m := if month ≤ 2 then month + 9 else month - 3
  365 * y + y.fdiv 4 - y.fdiv 100 + y.fdiv 400 + ((153 * m + 2) / 5 : Nat) + day - 1 + 60

/-- The Gregorian year (from 2000), month and day of a number of days from 2000-01-01, for the years 2000 to 2199. -/
def civilDate (days : Nat) : Nat × Nat × Nat :=
  let d := days + 730425
  let era := d / 146097
  let doe := d % 146097
  let yoe := (doe - doe / 1460 + doe / 36524 - doe / 146096) / 365
  let doy := doe - (365 * yoe + yoe / 4 - yoe / 100)
  let mp := (5 * doy + 2) / 153
  let month := if mp < 10 then mp + 3 else mp - 9
  (yoe + era * 400 + (if month ≤ 2 then 1 else 0) - 2000, month, doy - (153 * mp + 2) / 5 + 1)

/-- UTC in nanoseconds from 2000-01-01 00:00:00 as a domain gives it (R471): PTP is TAI minus NTM_UTCOFS and counts from
1970, ARB is taken as it stands. -/
def utcOf (s : State) (d value : Nat) : Int :=
  if s.flag (R.NTM_DCFG_TS d) then
    (value : Int) - s.getInt R.NTM_UTCOFS_OFS * 1000000000 - 946684800 * 1000000000
  else value

/-- The calendar in nanoseconds from 2000-01-01 00:00:00, its date read as a Gregorian one. -/
def calNanos (s : State) : Int :=
  let t := s.cal
  ((civilDays (t.cent * 100 + t.year) t.month t.day * 86400 + (t.hour * 3600 + t.min * 60 + t.sec : Nat)) * 1000000000)
    + (s.calendar.grain * 1000000000 / 32768 : Nat)

/-- The domain that RTC_CFG.SYNC names, and its time (R471). -/
def syncSource (s : State) : Option (Nat × Nat) :=
  match s.get R.RTC_CFG_SYNC with
  | 1 => some (0, s.domain 0)
  | 2 => some (1, s.domain 1)
  | 3 => s.time.active.map fun d => (d, s.now)
  | _ => none

/-- CALENDAR_SYNC (R471): a difference below 1 s becomes a SHIFT to the nearest grain, a larger one a staged set and
APPLY. The manual does not say which day WDAY 1 is: the set's WDAY is a free value from 1 to 7 (log 11). -/
def calendarSync (s : State) : State :=
  match syncSource s with
  | none => s
  | some (d, value) =>
    if s.get (R.NTM_DSTAT_STATE d) ≠ 2 then s
    else
      let utc := utcOf s d value
      let diff := utc - calNanos s
      let grains := (2 * diff * 32768 + 1000000000).fdiv 2000000000
      let s := s.setFlag R.RTC_STAT_SYNCED (decide (grains.natAbs ≤ 2))
      if grains = 0 then s
      else if diff.natAbs < 1000000000 then
        { s with calendar := { s.calendar with shiftDue := some grains } }.raise R.RTC_STAT_PEND
      else
        let t := (utc.toNat / 1000000000)
        let (y, m, day) := civilDate (t / 86400)
        let (f, s) := s.draw
        let c : CalTime := ⟨y / 100 % 2, 1 + f % 7, y % 100, m, day, t / 3600 % 24, t / 60 % 60, t % 60⟩
        let s := (s.setReg R.RTC_WDATE_DAY.addr (BitVec.ofNat 36 c.date)).setReg R.RTC_WTIME_SEC.addr (BitVec.ofNat 36 c.time)
        let s := s.set R.RTC_WSUB_GRAIN (utc.toNat % 1000000000 * 32768 / 1000000000)
        ({ s with calendar := { s.calendar with applyDue := true } }.raise R.RTC_STAT_PEND).raise R.RTC_EVT_SYNCSTEP

/-- Every class that has latched skips the grid instants that a step of A has passed over (R119): its next LATCH lies at
least P after its last on LOC. `before` is A ahead of the step; the instants passed over are counted as skipped. -/
def timeStepSkip (s : State) (before : Nat) : State :=
  State.forEach (List.range 8) (fun c s =>
    let k := s.cls c
    if s.getBit R.CYC_STAT_ACTIVE c && decide (0 < k.latchLoc) then
      let gone := s.time.loc - k.latchLoc
      let p := max 1 (s.get (R.CYC_PER_TICKS c) * 31250)
      let nb := s.now + (p - gone)
      let n := (nb + p - 1) / p - 1 - min before s.now / p
      let s := s.setCls c { k with notBefore := nb }
      if n = 0 then s else (s.raise R.CYC_EVT_TSTEP).add (R.CYC_OVC_SKIP c) n
    else s) s

/-- TIME_NOTICE_APPLY (R457): the earliest announced change of time takes effect; a TMR channel whose expiries a forward
step has passed triggers once (R462), and a demand interval in which A was stepped
carries TSTEP (R416). -/
def timeNoticeApply (s : State) : State :=
  let before := s.now
  let was := s.time.tmrs
  let (s, stepped) := applyNotices s
  s.when stepped fun s =>
    let s := State.forEach (s.time.tmrs.filter fun t => was.any fun o => o.idx == t.idx && o.count != t.count)
      (fun (t : TmrSt) s => triggerSource s (.time t.idx)) s
    let s := { s with
      meter := { s.meter with
        chs := s.meter.chs.map fun (c : MeterCh) => { c with tstep := true }
        pqcs := s.meter.pqcs.map fun (c : PqcCh) => { c with tstep := true } } }
    timeStepSkip s before

/-- The TMR entry of a channel. -/
def State.tmr (s : State) (i : Nat) : Option TmrSt := s.time.tmrs.find? (·.idx == i)

/-- A TMR entry changed. -/
def State.setTmr (s : State) (t : TmrSt) : State :=
  { s with time := { s.time with tmrs := updateFirst (·.idx == t.idx) (fun _ => t) s.time.tmrs } }

/-- The class words of a channel in force, class by class code. -/
def State.channel (s : State) (cls idx : Nat) : Option Channel :=
  s.handles.channels.find? fun c => c.cls == cls && c.idx == idx

/-- TMR_EXPIRY (R462): an armed trigger channel expires: COUNT rises, the instant is stored, the event task triggers; a
one-shot channel disarms. -/
def tmrExpiry (s : State) (i : Nat) : State :=
  match s.channel 6 i, s.tmr i with
  | some ch, some t =>
    let kind := bitsOf (ch.words.getD 0 0) 34 2
    if t.armed && kind != 2 then
      let t := { t with count := (t.count + 1) % 2 ^ 18, time := instant36 t.next, armed := kind == 1,
                        next := t.next + (ch.words.getD 2 0).toNat }
      triggerSource (s.setTmr t) (.time i)
    else s
  | _, _ => s

/-- TMR_CAPTURE (R463): a selected edge stores A and raises COUNT. -/
def tmrCapture (s : State) (i : Nat) (rising : Bool) : State :=
  match s.channel 6 i, s.tmr i with
  | some ch, some t =>
    let w := ch.words.getD 0 0
    let edge := bitsOf w 32 2
    if bitsOf w 34 2 = 2 ∧ edge &&& (if rising then 1 else 2) ≠ 0 then
      triggerSource (s.setTmr { t with count := (t.count + 1) % 2 ^ 18, time := instant36 s.now }) (.time i)
    else s
  | _, _ => s

/-- RTC_SNAP (R466): the shadows take the date, time and grain of one grain, and SEQ rises. -/
def rtcSnap (s : State) : State :=
  let s := (s.setReg R.RTC_RDATE_DAY.addr (BitVec.ofNat 36 s.calendar.date)).setReg R.RTC_RTIME_SEC.addr
    (BitVec.ofNat 36 s.calendar.time)
  (s.set R.RTC_RSUB_GRAIN s.calendar.grain).add R.RTC_SNAP_SEQ 1

/-- RTC_CMD.APPLY: the staged set waits for the next grain boundary (R467). -/
def rtcApply (s : State) : State :=
  { s with calendar := { s.calendar with applyDue := true } }.raise R.RTC_STAT_PEND

/-- RTC_CMD.SHIFT: RTC_SHIFT waits for the next grain boundary (R468). -/
def rtcShift (s : State) : State :=
  { s with calendar := { s.calendar with shiftDue := some (s.getInt R.RTC_SHIFT_GRAINS) } }.raise R.RTC_STAT_PEND

/-- TIME_NOTICE_APPLY (R457). -/
def execTimeNoticeApply (s : State) : Result := s.answer (if s.powered then timeNoticeApply s else s)

/-- TMR_EXPIRY (R462). -/
def execTmrExpiry (idx : Fin 256) (s : State) : Result := s.answer (if s.powered then tmrExpiry s idx else s)

/-- TMR_CAPTURE (R463). -/
def execTmrCapture (idx : Fin 256) (rising : Bool) (s : State) : Result :=
  s.answer (if s.powered then tmrCapture s idx rising else s)

/-- RTC_SNAP (R466). -/
def execRtcSnap (s : State) : Result := s.answer (if s.powered then rtcSnap s else s)

/-- APPLY (R467). -/
def execApply (s : State) : Result := s.answer (if s.powered then rtcApply s else s)

/-- SHIFT (R468). -/
def execShift (s : State) : Result := s.answer (if s.powered then rtcShift s else s)

/-- ARM (R472). -/
def execArm (s : State) : Result := s.answer (if s.powered then s.raise R.RTC_STAT_ARMED else s)

/-- DISARM (R472). -/
def execDisarm (s : State) : Result := s.answer (if s.powered then s.set R.RTC_STAT_ARMED 0 else s)

/-- CALENDAR_ROLLOVER (R469); the calendar counts in every state, on VBAT too (R13). -/
def execCalendarRollover (s : State) : Result := s.answer (calendarRollover s)

/-- ALARM_FIRE (R472). -/
def execAlarmFire (s : State) : Result := s.answer (alarmFire s)

/-- PERIODIC_WAKE (R473). -/
def execPeriodicWake (s : State) : Result := s.answer (periodicWake s)

/-- CALENDAR_SYNC (R471). -/
def execCalendarSync (s : State) : Result := s.answer (if s.powered then calendarSync s else s)

/-- GRAIN_BOUNDARY (R467). -/
def execGrainBoundary (s : State) : Result := s.answer (grainBoundary s)

end Sys2Proof.Machine
end

