-- ==== Sys2Proof/Machine/Can.lean ====
section
/-!
DEFINITION. Sys2Proof/Machine/Can.lean: the four CAN controllers (R430 to R449).
-/
namespace Sys2Proof.Machine

/-- Controller `n`. -/
def State.canCtl (s : State) (n : Nat) : CanCtl := s.can.ctls.toList.getD n ⟨0, 0, false, 0, [], 0, 0, 0⟩

/-- Controller `n` changed. -/
def State.setCanCtl (s : State) (n : Nat) (c : CanCtl) : State :=
  { s with can := { s.can with ctls := s.can.ctls.setIfInBounds n c } }

/-- A buffer's controller state. -/
def State.canBuf (s : State) (i : Nat) : Option CanBuf := s.can.bufs.find? (·.idx == i)

/-- A buffer's controller state changed. -/
def State.setCanBuf (s : State) (b : CanBuf) : State :=
  { s with can := { s.can with bufs := updateFirst (·.idx == b.idx) (fun _ => b) s.can.bufs } }

/-- The class words of a CANB channel (R433). -/
def canWords (s : State) (i : Nat) : List Word := (s.channel 3 i).elim [] (·.words)

def canCtrl (w : List Word) : Nat := bitsOf (w.getD 0 0) 34 2
def canKind (w : List Word) : Nat := bitsOf (w.getD 0 0) 32 2
def canFmt (w : List Word) : Nat := bitsOf (w.getD 0 0) 30 2
def canId (w : List Word) : Nat := bitsOf (w.getD 0 0) 0 29
def canIde (w : List Word) : Bool := (w.getD 0 0).getLsbD 29
def canMaxLen (w : List Word) : Nat := bitsOf (w.getD 2 0) 24 12
def canDepth (w : List Word) : Nat := bitsOf (w.getD 2 0) 18 6
def canAddr (w : List Word) : Nat := bitsOf (w.getD 3 0) 0 24

/-- Words of one record (R434). -/
def canRecSize (w : List Word) : Nat := 6 + ceilDiv (canMaxLen w) 4

/-- CAN_STAT and CAN_STn show the controllers (R446, R447). -/
def canShow (s : State) : State :=
  State.forEach (List.range 4) (fun n s =>
    let c := s.canCtl n
    let mode := s.get (R.CAN_CTL_MODE n)
    let s := s.putBit R.CAN_STAT_ON n (mode != 0)
    let s := s.when (mode != 4) (·.putBit R.CAN_STAT_SLEEP n false)
    let s := s.putBit R.CAN_STAT_EVT n ((s.reg (R.CAN_EVT_ERR n).addr) != 0)
    let s := (s.set (R.CAN_ST_TEC n) (min c.tec 255)).set (R.CAN_ST_REC n) (min c.rec' 255)
    s.set (R.CAN_ERRC_NOACK n) (min c.noAck 255)) s

/-- A CAN event: its bit in CAN_EVTn, and an event-recorder entry when R442 lists it. -/
def canEvent (s : State) (n bit : Nat) (record : Bool) : State :=
  let a := (R.CAN_EVT_ERR n).addr
  let s := s.setReg a (s.reg a ||| BitVec.ofNat 36 (2 ^ bit))
  canShow (s.when record (·.record 73 16 n bit))

/-- The error state that the counters call for (R442, ISO 11898-1): bus-off above 255 in TEC, passive from 128 on. -/
def canErrState (c : CanCtl) : Nat :=
  if 255 < c.tec then 2 else if 128 ≤ c.tec ∨ 128 ≤ c.rec' then 1 else 0

/-- The error counters replaced, with the changes of state and the events that follow (R442). A controller that is
bus-off leaves it only by recovery. -/
def canCount (s : State) (n : Nat) (c' : CanCtl) : State :=
  let c := s.canCtl n
  let was := s.get (R.CAN_ST_ERRST n)
  let now := if was = 2 then 2 else canErrState c'
  let warn := (decide (c.tec < 96) && decide (96 ≤ c'.tec)) || (decide (c.rec' < 96) && decide (96 ≤ c'.rec'))
  let s := (s.setCanCtl n c').set (R.CAN_ST_ERRST n) now
  let s := s.when warn (canEvent · n 4 true)
  let s := s.when (decide (was < now) && now == 1) (canEvent · n 5 true)
  let s := s.when (decide (was < now) && now == 2) fun s => canEvent (s.set (R.CAN_ST_SYNC n) 0) n 6 true
  canShow s

/-- A frame matches a receive channel (R435). -/
def canMatches (w : List Word) (f : CanFrame) : Bool :=
  let mask := bitsOf (w.getD 1 0) 0 29
  decide (canKind w ≤ 1) && (canFmt w == 3 || canFmt w == f.fmt) && canIde w == f.ide &&
    f.id &&& mask == canId w &&& mask

/-- Words 1 to 5 of a record and its payload, truncated to MAXLEN (R434, R435, R437). -/
def canRecord (w : List Word) (f : CanFrame) (time : Nat) : List Word :=
  let keep := ceilDiv (min f.len (canMaxLen w)) 4
  let odd := min f.len (canMaxLen w) % 4
  let trim (i : Nat) (x : Word) : Word :=
    if i + 1 = keep ∧ odd ≠ 0 then x &&& BitVec.ofNat 36 (2 ^ 32 - 2 ^ (8 * (4 - odd))) else x
  [BitVec.ofNat 36 (f.fmt * 2 ^ 34 + bitNat f.ide * 2 ^ 33 + bitNat f.rtr * 2 ^ 32 + bitNat f.brs * 2 ^ 31 +
      bitNat f.esi * 2 ^ 30 + f.id % 2 ^ 29),
   BitVec.ofNat 36 (f.sdt % 256 * 2 ^ 28 + f.vcid % 256 * 2 ^ 20 + bitNat f.sec * 2 ^ 19 + f.len % 4096),
   BitVec.ofNat 36 (f.af % 2 ^ 32), BitVec.ofNat 36 (instant36 time), 0] ++
    (f.payload.take keep).zipIdx.map fun p => trim p.2 (p.1 &&& 0xFFFFFFFF)

/-- A record stored at an address: the record words, then the status word, which sets NEW, adds 1 to COUNT and sets OVR
when NEW was already 1 (R436); `time` is the instant of R437. Word 5 is reserved and keeps its content. -/
def canStore (s : State) (a : Nat) (w : List Word) (f : CanFrame) (time : Nat) : State :=
  let ws := canRecord w f time
  let s := s.storeList (a + 1) (ws.take 4)
  let s := s.storeList (a + 6) (ws.drop 5)
  let st := s.word a
  let count := (bitsOf st 0 18 + 1) % 2 ^ 18
  s.store a (BitVec.ofNat 36 (2 ^ 35 + bitNat (st.getLsbD 35 || st.getLsbD 34) * 2 ^ 34 + count))

/-- A frame stored into channel `i` (R435, R436); a full FIFO discards it. -/
def canDeliver (s : State) (n i : Nat) (f : CanFrame) (time : Nat) : State :=
  let w := canWords s i
  let a := canAddr w
  let stored (s : State) : State :=
    let s := match s.canBuf i with
      | some b => s.setCanBuf { b with lastRx := some s.time.loc }
      | none => s
    triggerSource (s.add (R.CAN_CNT_RXOK n) 1) (.can i)
  if canKind w = 0 then stored (canStore s a w f time)
  else
    let ctl := s.word a
    let wr := bitsOf ctl 18 18
    let rd := bitsOf ctl 0 18
    let depth := canDepth w
    let slot (k : Nat) : Nat := a + 2 + k % depth * canRecSize w
    if (wr + 2 ^ 18 - rd) % 2 ^ 18 = depth then
      let last := slot (wr + 2 ^ 18 - 1)
      canEvent (s.store last (s.word last ||| 0x400000000)) n 3 false
    else
      let s := canStore s (slot wr) w f time
      stored (s.store a (withBits ctl 18 18 (wr + 1)))

/-- The indices of a controller's channels in ascending order. -/
def canChannels (s : State) (n : Nat) : List Nat :=
  (List.range 512).filter fun i => (s.channel 3 i).isSome && canCtrl (canWords s i) == n

/-- A received frame matched and stored under R435. -/
def canReceive (s : State) (n : Nat) (f : CanFrame) (time : Nat) : State :=
  match (canChannels s n).find? fun i => canMatches (canWords s i) f with
  | some i => canDeliver s n i f time
  | none => canEvent s n 2 false

/-- The states in which the controllers receive (R445). -/
def canServes (s : State) : Bool :=
  match s.dev with
  | .stop | .run | .standby | .halt | .safe => true
  | _ => false

/-- The controller takes part in the bus (R443 to R445): MODE normal, listen-only or internal loopback, or sleep while the
frame in progress has not ended; integrated, not bus-off. -/
def canOnBus (s : State) (n : Nat) : Bool :=
  let m := s.get (R.CAN_CTL_MODE n)
  (m == 1 || m == 2 || m == 3 || (m == 4 && !(s.get R.CAN_STAT_SLEEP).testBit n)) && s.flag (R.CAN_ST_SYNC n) &&
    s.get (R.CAN_ST_ERRST n) != 2 && canServes s

/-- The controller may send (R444, R359, R151): not in listen-only mode, in STANDBY or in SAFE. -/
def canSends (s : State) (n : Nat) : Bool :=
  canOnBus s n && s.get (R.CAN_CTL_MODE n) != 2 && s.dev != .standby && s.dev != .safe

/-- The class that latches or commits a channel (R109): that of its bound points, or the CLASS of an unbound station. -/
def channelClass (s : State) (c : Channel) : Option Nat :=
  match s.points.find? fun p : Point => match p.src with
      | .channel k i _ => k == c.cls && i == c.idx
      | _ => false with
  | some p => some p.cls
  | none => if c.cls = 2 then some (bitsOf (c.words.getD 0 0) 29 3) else none

/-- The transmissions of a bound buffer stop (R151): outside RUN, before the release, while its class is halted, and from
the detection of a power fail on. -/
def canStopped (s : State) (i : Nat) : Bool :=
  (s.channel 3 i).any fun ch =>
    ch.bound && (s.dev != .run || !s.flag R.SYS_STATE_RELEASED || decide (0 < s.power.pfStep) ||
      (channelClass s ch).any fun c => (s.get R.CYC_STAT_HALTED).testBit c)

/-- REC after a frame received without error: one less; above 127 it takes a value from 119 to 127 that ISO 11898-1
leaves open (log 2). -/
def recAfterGood (s : State) (r : Nat) : Nat × State :=
  if 127 < r then
    let (f, s) := s.draw
    (119 + f % 9, s)
  else (r - 1, s)

/-- CAN_FRAME_RECEIVED (R430, R435, R442): an FD or XL frame at a controller that has the format disabled is a protocol
exception. -/
def canFrameReceived (s : State) (n : Nat) (f : CanFrame) (time : Nat) : State :=
  if !canOnBus s n then s
  else if (f.fmt == 1 && !s.flag (R.CAN_CTL_FDEN n)) || (f.fmt == 2 && !s.flag (R.CAN_CTL_XLEN n)) then
    s.set (R.CAN_ST_SYNC n) 0
  else
    let (r, s) := recAfterGood s (s.canCtl n).rec'
    canReceive (canCount s n { s.canCtl n with rec' := r }) n f time

/-- The bus priority of a transmit buffer, lower first: base identifier, then base before extended, then the rest
(R440). -/
def canRank (w : List Word) : Nat := canId w / 2 ^ 18 * 2 ^ 19 + bitNat (canIde w) * 2 ^ 18 + canId w % 2 ^ 18

/-- The request that the controller sends (R440): one whose start-of-frame has been sent, else the lowest identifier,
ties to the lower index. Of the bound buffers that have stopped, only the frame in progress counts (R151, R446). -/
def canSending (s : State) (n : Nat) : Option Nat :=
  let ps := (canChannels s n).filter fun i => (s.canBuf i).any fun b => b.pend && (b.begun || !canStopped s i)
  match ps.find? fun i => (s.canBuf i).any fun b => b.marked || b.begun with
  | some i => some i
  | none =>
    ps.foldl (fun best i => match best with
      | none => some i
      | some j => if canRank (canWords s i) < canRank (canWords s j) then some i else some j) none

/-- The transmissions of bound buffers are about to stop: which frames are in progress then, no command tells, and a free
value decides (log 14). -/
def canHold (s : State) : State :=
  State.forEach (List.range 4) (fun n s =>
    match canSends s n, (canSending s n).bind s.canBuf with
    | true, some b =>
      if (s.channel 3 b.idx).any (·.bound) && !b.begun then
        let (f, s) := s.draw
        s.setCanBuf { b with begun := f % 2 == 1 }
      else s
    | _, _ => s) s

/-- A request ends (R440): PEND clears, CANCELLED tells a cancellation. -/
def canEnd (s : State) (i : Nat) (cancelled : Bool) : State :=
  let a := canAddr (canWords s i)
  let st := withBits (withBits (s.word a) 35 1 0) 34 1 (bitNat cancelled)
  let s := match s.canBuf i with
    | some b => s.setCanBuf { b with pend := false, marked := false, begun := false }
    | none => s
  s.store a st

/-- A transmission requested on a buffer: PEND is set (R434, R439, R441). -/
def canRequest (s : State) (i : Nat) : State :=
  let a := canAddr (canWords s i)
  let s := match s.canBuf i with
    | some b => s.setCanBuf { b with pend := true, marked := false, begun := false }
    | none => s
  s.store a (withBits (withBits (s.word a) 35 1 1) 34 1 0)

/-- CAN_FRAME_SENT (R437, R440, R442). -/
def canFrameSent (s : State) (n time : Nat) : State :=
  match canSends s n, canSending s n with
  | true, some i =>
    let a := canAddr (canWords s i)
    let s := canEnd s i false
    let s := s.store a (withBits (s.word a) 0 18 (bitsOf (s.word a) 0 18 + 1))
    let s := s.store (a + 4) (BitVec.ofNat 36 (instant36 time))
    let c := s.canCtl n
    canCount (s.add (R.CAN_CNT_TXOK n) 1) n { c with tec := c.tec - 1, noAck := 0 }
  | _, _ => s

/-- The LEC code of a transmission error (the CAN_STn table). -/
def CanTxError.lec : CanTxError → Nat
  | .lostArbitration => 0
  | .stuff _ => 1
  | .form => 2
  | .ack _ => 3
  | .bit1 _ => 4
  | .bit0 _ => 5
  | .crc => 6

/-- A bit error in the data field (R442). -/
def CanTxError.inData : CanTxError → Bool
  | .bit1 d | .bit0 d => d
  | _ => false

/-- CLASH (R442): 8 data-field bit errors with one identifier within 1 s. -/
def canClash (s : State) (n i : Nat) : State :=
  let c := s.canCtl n
  let id := canRank (canWords s i)
  let old := if c.clashId = id then c.clashTimes.filter (fun t => s.now - t ≤ 1000000000) else []
  let times := old ++ [s.now]
  if 8 ≤ times.length then
    let a := canAddr (canWords s i)
    let s := s.setCanCtl n { c with clashId := id, clashTimes := [] }
    canEvent (s.store a (withBits (s.word a) 33 1 1)) n 7 true
  else s.setCanCtl n { c with clashId := id, clashTimes := times }

/-- CAN_TX_ERROR (R440 to R442). TEC rises by 8, except for an acknowledgement error of an error-passive controller
without a dominant bit, and a stuff error in the arbitration field (ISO 11898-1). -/
def canTxError (s : State) (n : Nat) (e : CanTxError) : State :=
  match canSends s n, canSending s n with
  | true, some i =>
    let marked := (s.canBuf i).any (·.marked)
    let oneShot := (canWords s i |>.getD 1 0).getLsbD 35
    let s := match e with
      | .lostArbitration => s
      | _ =>
        let s := (s.set (R.CAN_ST_LEC n) e.lec).add (R.CAN_ERRC_ERRS n) 1
        let s := canEvent s n 0 false
        let passive := s.get (R.CAN_ST_ERRST n) == 1
        let still := match e with
          | .ack dominant => passive && !dominant
          | .stuff inArb => inArb
          | _ => false
        let c := s.canCtl n
        let noAck := match e with
          | .ack _ => c.noAck + 1
          | _ => 0
        let s := canCount s n { c with tec := if still then c.tec else c.tec + 8, noAck := noAck }
        let s := s.when (noAck == 128) (canEvent · n 8 true)
        s.when e.inData (canClash · n i)
    let s := match s.canBuf i with
      | some b => s.setCanBuf { b with begun := false }
      | none => s
    if marked then canEnd s i true else if oneShot then canEnd s i false else s
  | _, _ => s

/-- CAN_RX_ERROR (R442): a receive error; REC rises by 8 when the first bit after the error flag is dominant, else
by 1. -/
def canRxError (s : State) (n lec : Nat) (dominant : Bool) : State :=
  if canOnBus s n then
    let s := (s.set (R.CAN_ST_LEC n) lec).add (R.CAN_ERRC_ERRS n) 1
    let s := canEvent s n 0 false
    let c := s.canCtl n
    canCount s n { c with rec' := c.rec' + (if dominant then 8 else 1) }
  else s

/-- A CAN port command ended (R448). -/
def canPortEnd (s : State) (p status err : Nat) : State :=
  let s := (s.set (R.CAN_PCMD_STATUS p) status).set (R.CAN_PCMD_ERR p) err
  s.when (status = 2 ∨ status = 6) (·.portDone p)

/-- The generation of a pool slot (R101). -/
def slotGen (s : State) (cls idx : Nat) : Nat := (s.handles.gens.find? fun g => g.cls == cls && g.idx == idx).elim 1 (·.gen)

/-- The channel that a handle names, or the HND_PERR code of its failure (R100, R101, R107). -/
def handleChannel (s : State) (h : Word) : Except Nat Channel :=
  let cls := bitsOf h 30 6
  let idx := bitsOf h 0 18
  if cls = 0 ∨ 9 < cls ∨ s.get (R.HND_POOL_SIZE (cls - 1)) = 0 then .error 2
  else
    match s.channel cls idx with
    | some c => if slotGen s cls idx = bitsOf h 18 12 then .ok c else .error 5
    | none => .error 5

/-- A command of a CAN port (R441, R445, R448) on an unbound transmit buffer. -/
def canCommand (s : State) (p code : Nat) (run : Nat → State → State) : State :=
  let s := s.set (R.CAN_PCMD_CODE p) code
  if s.dev == .standby then canPortEnd s p 7 0
  else if !(s.dev == .stop || s.dev == .run || s.dev == .halt) then canPortEnd s p 4 0
  else
    match handleChannel s (s.reg (R.CAN_PHND_HANDLE p).addr) with
    | .error e => canPortEnd s p 6 e
    | .ok ch =>
      if ch.cls ≠ 3 ∨ canKind ch.words ≠ 2 then canPortEnd s p 6 2
      else if ch.bound then canPortEnd s p 4 0
      else run ch.idx s

/-- TXREQ (R441). -/
def canTxReq (s : State) (p : Nat) : State :=
  canCommand s p 1 fun i s =>
    canPortEnd (if (s.canBuf i).any (·.pend) then s else canRequest s i) p 2 0

/-- CANCEL (R441); `started` tells whether start-of-frame has been sent for the current attempt. -/
def canCancel (s : State) (p : Nat) (started : Bool) : State :=
  canCommand s p 2 fun i s =>
    match s.canBuf i with
    | some b =>
      if !b.pend then canPortEnd s p 2 0
      else if started then canPortEnd (s.setCanBuf { b with marked := true }) p 3 0
      else canPortEnd (canEnd s i true) p 2 0
    | none => canPortEnd s p 2 0

/-- The controller rejoins the bus after bus-off (R443). -/
def busoffRecovery (s : State) (n : Nat) : State :=
  if s.get (R.CAN_ST_ERRST n) == 2 && (s.flag (R.CAN_CTL_AUTOREC n) || (s.canCtl n).recovering) then
    let s := s.setCanCtl n { s.canCtl n with tec := 0, rec' := 0, recovering := false }
    canEvent ((s.set (R.CAN_ST_ERRST n) 0).raise (R.CAN_ST_SYNC n)) n 1 false
  else s

/-- RECOVER (R443). -/
def canRecover (s : State) (n : Nat) : State :=
  if s.get (R.CAN_ST_ERRST n) = 2 then s.setCanCtl n { s.canCtl n with recovering := true } else s

/-- CAN_SLEEP (R444): the frame in progress has ended. With EDGE the controller counts as power-gated (R46). -/
def canSleep (s : State) (n : Nat) : State :=
  if s.get (R.CAN_CTL_MODE n) = 4 then
    let s := (s.putBit R.CAN_STAT_SLEEP n true).set (R.CAN_ST_SYNC n) 0
    (s.putBit R.CLK_GATE_CAN n (s.get (R.CAN_CTL_WAKE n) == 1)).lockShow
  else s

/-- The wake of a sleeping controller (R444). -/
def canWakeUp (s : State) (n : Nat) : State :=
  let s := ((s.set (R.CAN_CTL_MODE n) 1).putBit R.CLK_GATE_CAN n false).lockShow
  triggerSource (canEvent s n 9 false) (.can (512 + n))

/-- CAN_WAKE (R444): by an edge, or by a frame whose identifier matches CAN_WIDn under CAN_WMSKn, which is stored. -/
def canWake (s : State) (n : Nat) (frame : Option CanFrame) (time : Nat) : State :=
  if s.get (R.CAN_CTL_MODE n) ≠ 4 ∨ !(s.get R.CAN_STAT_SLEEP).testBit n ∨ !canServes s then s
  else
    match s.get (R.CAN_CTL_WAKE n), frame with
    | 1, _ => canWakeUp s n
    | 2, some f =>
      let wid := s.get (R.CAN_WID_ID n)
      let mask := s.get (R.CAN_WMSK_MASK n)
      if f.ide = wid.testBit 29 ∧ f.id &&& mask = wid % 2 ^ 29 &&& mask then canReceive (canWakeUp s n) n f time else s
    | _, _ => s

/-- CAN_BUS_INTEGRATION (R445): 11 recessive bits. -/
def canIntegrate (s : State) (n : Nat) : State :=
  let m := s.get (R.CAN_CTL_MODE n)
  if (m == 1 || m == 2 || m == 3) && s.get (R.CAN_ST_ERRST n) != 2 then s.raise (R.CAN_ST_SYNC n) else s

/-- The derived timing of one phase (R432): BRP, TSEG1 and TSEG2, from the rate in kbit/s and the sample point in %. -/
def canTiming (brpMax nMin nMax t1Max t2Min t2Max rate sp : Nat) : Option (Nat × Nat × Nat) :=
  if rate = 0 then none
  else
    match (List.range brpMax).find? fun b =>
        decide (160000 % ((b + 1) * rate) = 0) && decide (nMin ≤ 160000 / ((b + 1) * rate)) &&
          decide (160000 / ((b + 1) * rate) ≤ nMax) with
    | none => none
    | some b =>
      let n := 160000 / ((b + 1) * rate)
      let t1 := (2 * n * sp + 100) / 200 - 1
      let t2 := n - 1 - t1
      if t1 ≤ t1Max ∧ t2Min ≤ t2 ∧ t2 ≤ t2Max ∧ t1 + t2 + 1 = n then some (b + 1, t1, t2) else none

/-- CAN_BRn with its two phases, when both are admissible (R431, R432). -/
def canRates (w : Word) : Option ((Nat × Nat × Nat) × (Nat × Nat × Nat)) :=
  match canTiming 256 8 257 256 2 128 (bitsOf w 25 11) (bitsOf w 18 7),
      canTiming 32 5 49 32 1 16 (bitsOf w 10 8 * 100) (bitsOf w 3 7) with
  | some a, some b => if 2 ≤ a.2.1 ∧ 1 ≤ b.2.1 then some (a, b) else none
  | _, _ => none

/-- The value ranges of CAN_BRn (R447). -/
def canRateLegal (w : Word) : Bool :=
  let nr := bitsOf w 25 11
  let ns := bitsOf w 18 7
  let dr := bitsOf w 10 8
  let ds := bitsOf w 3 7
  decide (10 ≤ nr ∧ nr ≤ 1000 ∧ 50 ≤ ns ∧ ns ≤ 95 ∧ 10 ≤ dr ∧ dr ≤ 200 ∧ 50 ≤ ds ∧ ds ≤ 95) && (canRates w).isSome

/-- An expert field in its derived state takes the derived value; an overridden one keeps its own (R112). -/
def State.derive (s : State) (f : Fld) (v : Nat) : State :=
  if s.overridden.contains (f.addr, f.lo) then s else s.set f v

/-- The expert timing fields derived from CAN_BRn (R432, R449). -/
def canDerive (s : State) (n : Nat) : State :=
  match canRates (s.reg (R.CAN_BR_NRATE n).addr) with
  | none => s
  | some ((b, t1, t2), (db, d1, d2)) =>
    let s := ((s.derive (R.CAN_XNBT_NBRP n) (b - 1)).derive (R.CAN_XNBT_NTSEG1 n) t1).derive (R.CAN_XNBT_NTSEG2 n) t2
    let s := (s.derive (R.CAN_XNBT_NSJW n) t2).derive (R.CAN_XDBT_DBRP n) (db - 1)
    let s := ((s.derive (R.CAN_XDBT_DTSEG1 n) d1).derive (R.CAN_XDBT_DTSEG2 n) d2).derive (R.CAN_XDBT_DSJW n) d2
    s.derive (R.CAN_XDBT_TDCO n) (d1 + 1)

/-- CAN_RATE_WRITE (R432): a value that R431 or the field limits exclude is ignored as a whole under R7. -/
def canRateWrite (s : State) (master n : Nat) (w : Word) : State :=
  if canRateLegal w then canDerive (s.setReg (R.CAN_BR_NRATE n).addr (w &&& 0xFFFFFFFF8)) n
  else s.rsvd master (R.CAN_BR_NRATE n).addr

/-- CAN_TIMING_APPLY (R449): the bus is idle, and the timing registers come in force. -/
def canTimingApply (s : State) (n : Nat) : State :=
  s.setCanCtl n { s.canCtl n with nbt := s.reg (R.CAN_XNBT_NBRP n).addr, dbt := s.reg (R.CAN_XDBT_DBRP n).addr }

/-- A CANB channel attached to its controller. -/
def canAttach (s : State) (i : Nat) : State :=
  { s with can := { s.can with bufs := (s.can.bufs.filter fun b : CanBuf => b.idx != i) ++ [⟨i, false, false, false, none⟩] } }

/-- A CANB channel detached. -/
def canDetach (s : State) (i : Nat) : State :=
  { s with can := { s.can with bufs := s.can.bufs.filter fun b : CanBuf => b.idx != i } }

/-- The quality of a bound receive buffer (R438). -/
def canQuality (s : State) (i : Nat) : Nat :=
  let w := canWords s i
  let n := canCtrl w
  let m := s.get (R.CAN_CTL_MODE n)
  let tmo := bitsOf (w.getD 2 0) 0 16
  if m == 0 || m == 4 || s.get (R.CAN_ST_ERRST n) == 2 then 3
  else if tmo = 0 then 0
  else
    match (s.canBuf i).bind (·.lastRx) with
    | none => 2
    | some t => if s.time.loc - t ≤ tmo * 1000000 then 0 else 2

/-- The consistent set that a LATCH takes of a bound receive channel (R438), and the state after it: a FIFO gives its
control word and its oldest unread entry, and RD advances. -/
def canLatch (s : State) (i : Nat) : List Word × State :=
  let w := canWords s i
  let a := canAddr w
  let rec' (b : Nat) : List Word := [s.word b, s.word (b + 1), s.word (b + 2)] ++ s.words (b + 6) (ceilDiv (canMaxLen w) 4)
  if canKind w = 0 then (rec' a, s)
  else
    let ctl := s.word a
    let rd := bitsOf ctl 0 18
    if bitsOf ctl 18 18 = rd then ([ctl], s)
    else (ctl :: rec' (a + 2 + rd % canDepth w * canRecSize w), s.store a (withBits ctl 0 18 (rd + 1)))

/-- A COMMIT of a bound transmit buffer (R439) with its LEC word and payload as committed. A request still pending has
its payload replaced only while start-of-frame has not been sent, which no command tells: a free value decides
(log 14). -/
def canCommit (s : State) (i : Nat) (len : Word) (payload : List Word) : State :=
  let w := canWords s i
  let a := canAddr w
  let mode := bitsOf (w.getD 1 0) 32 2
  let n := ceilDiv (canMaxLen w) 4
  let changed := decide (s.words (a + 6) n ≠ payload) || bitsOf (s.word (a + 2)) 0 12 != bitsOf len 0 12
  let calls := mode == 1 || (mode == 2 && changed)
  if !calls || s.dev == .standby || canStopped s i then s
  else
    let pend := (s.canBuf i).any (·.pend)
    let (f, s) := if pend then s.draw else (0, s)
    if pend && f % 2 == 1 then s
    else
      let head := BitVec.ofNat 36 (canFmt w * 2 ^ 34 + bitNat (canIde w) * 2 ^ 33 + bitsOf (w.getD 1 0) 34 1 * 2 ^ 31 + canId w)
      let w2 := withBits ((w.getD 4 0) &&& 0xFFFF80000) 0 12 (bitsOf len 0 12)
      let s := ((s.store (a + 1) head).store (a + 2) w2).store (a + 3) ((w.getD 5 0) &&& 0xFFFFFFFF)
      let s := s.storeList (a + 6) payload
      if pend then s else canRequest s i

/-- CAN_FRAME_RECEIVED (R435). -/
def execCanFrameReceived (ctrl : Fin 4) (heard : CanHeard) (s : State) : Result :=
  s.answer (if s.powered then canFrameReceived s ctrl heard.frame (s.now - heard.age) else s)

/-- CAN_FRAME_SENT (R440). -/
def execCanFrameSent (sent : CanDone) (s : State) : Result :=
  s.answer (if s.powered then canFrameSent s sent.ctrl (s.now - sent.age) else s)

/-- CAN_TX_ERROR (R440). -/
def execCanTxError (ctrl : Fin 4) (cause : CanTxError) (s : State) : Result :=
  s.answer (if s.powered then canTxError s ctrl cause else s)

/-- CAN_RX_ERROR (R442). -/
def execCanRxError (ctrl : Fin 4) (lec : Fin 7) (dominant : Bool) (s : State) : Result :=
  s.answer (if s.powered then canRxError s ctrl lec dominant else s)

/-- TXREQ (R441). -/
def execTxreq (port : Port) (s : State) : Result := s.serve port fun s => canTxReq s port

/-- CANCEL (R441). -/
def execCancel (port : Port) (started : Bool) (s : State) : Result := s.serve port fun s => canCancel s port started

/-- BUSOFF_RECOVERY (R443). -/
def execBusoffRecovery (ctrl : Fin 4) (s : State) : Result := s.answer (if s.powered then busoffRecovery s ctrl else s)

/-- RECOVER (R443). -/
def execRecover (ctrl : Fin 4) (s : State) : Result := s.answer (if s.powered then canRecover s ctrl else s)

/-- CAN_SLEEP (R444). -/
def execCanSleep (ctrl : Fin 4) (s : State) : Result := s.answer (if s.powered then canSleep s ctrl else s)

/-- CAN_WAKE (R444). -/
def execCanWake (ctrl : Fin 4) (wake : CanWaking) (s : State) : Result :=
  s.answer (if s.powered then canWake s ctrl wake.frame (s.now - wake.age) else s)

/-- CAN_RATE_WRITE (R432). -/
def execCanRateWrite (master : Fin 18) (ctrl : Fin 4) (value : Word) (s : State) : Result :=
  s.serve master fun s => canRateWrite s master ctrl value

/-- CAN_TIMING_APPLY (R449). -/
def execCanTimingApply (ctrl : Fin 4) (s : State) : Result := s.answer (if s.powered then canTimingApply s ctrl else s)

/-- CAN_BUS_INTEGRATION (R445). -/
def execCanBusIntegration (ctrl : Fin 4) (s : State) : Result := s.answer (if s.powered then canIntegrate s ctrl else s)

end Sys2Proof.Machine
end

