-- ==== Sys2Proof/Machine/Expert.lean ====
section
/-!
DEFINITION. Sys2Proof/Machine/Expert.lean: the expert pages (04_handles_and_control_levels R112 to R116): unlock in
two writes, relock, and the return of a block's expert fields to their derived state.
-/
namespace Sys2Proof.Machine

/-- Any write to SYS_EXPERT ends an attempt that waits for its second write: refused, sequence (R114). -/
def expertInterrupt (s : State) : State :=
  match s.unlock with
  | none => s
  | some _ => { s with unlock := none }.set R.SYS_XOPEN_RESULT 3

/-- EXPERT_UNLOCK_STEP (R114): the first write has KEY 8#5252, the second, from the same master for the same block,
KEY 8#2525. -/
def expertUnlockStep (s : State) (master key block : Nat) : State :=
  match s.unlock with
  | some m =>
    let s := { s with unlock := none }
    if m.master = master ∧ m.block = block ∧ key = 0x555 then
      if s.getBit R.SYS_XPERM_PERM block then (s.putBit R.SYS_XOPEN_OPEN block true).set R.SYS_XOPEN_RESULT 1
      else s.set R.SYS_XOPEN_RESULT 2
    else s.set R.SYS_XOPEN_RESULT 3
  | none =>
    if key = 0xAAA then { s with unlock := some ⟨master, block⟩ } else s.set R.SYS_XOPEN_RESULT 3

/-- A SYS_EXPERT write that R115 ignores: it interrupts an attempt and sets RSVD. -/
def expertIgnored (s : State) (master : Nat) : State := (expertInterrupt s).rsvd master R.SYS_EXPERT_OP.addr

/-- The expert fields of one register row that return to their derived state. -/
def restoreFields (a : Nat) (fs : List FieldRow) (s : State) : State :=
  State.forEach (fs.filter fun f => f.acc == .rwx)
    (fun f s => { s with overridden := s.overridden.filter (· != (a, f.lo)) }.set ⟨a, f.lo, f.width⟩ f.reset) s

/-- CYC_XPOLc follows CYC_POLc, field by field, where it is not overridden (R112, R154). -/
def polDerive (s : State) (c : Nat) : State :=
  let s := (s.derive (R.CYC_XPOL_SLIM c) (s.get (R.CYC_POL_SLIM c))).derive (R.CYC_XPOL_HOLD c) (s.get (R.CYC_POL_HOLD c))
  let s := s.derive (R.CYC_XPOL_OVRLIM c) (s.get (R.CYC_POL_OVRLIM c))
  (s.derive (R.CYC_XPOL_FLTPOL c) (s.get (R.CYC_POL_FLTPOL c))).derive (R.CYC_XPOL_OVRPOL c) (s.get (R.CYC_POL_OVRPOL c))

/-- Every expert field of a block in its derived state (R112): the fixed value of its table, the class policy for
CYC_XPOL, the rate's segments for the CAN timing. An item that IMP_XPINe pinned is unpinned, as by a write of PIN 0 (R277;
log 134). -/
def restoreBlock (s : State) (block : Nat) : State :=
  let addrs := (s.regs.map (·.1) ++ regsReset.map (·.1) ++ s.overridden.map (·.1)).filter fun a =>
    a / 0x1000 == 0xC00 + block && decide (0x200 ≤ a % 0x1000)
  let s := State.forEach addrs (fun a s => match regRow a with
    | some (r, _, _) => restoreFields a r.fields s
    | none => s) s
  if block = 9 then State.forEach (addrs.filter fun a => decide (0x400 ≤ a % 0x1000)) (fun a s => s.set ⟨a, 34, 2⟩ 0) s
  else if block = 6 then State.forEach (List.range 8) (fun c s => polDerive s c) s
  else if block = 16 then State.forEach (List.range 4) (fun n s => canDerive s n) s
  else s

/-- Every expert field of the device in its derived state, as a folio load leaves it (R112). -/
def restoreAll (s : State) : State := State.forEach (List.range 32) (fun b s => restoreBlock s b) s

/-- Every reset, entry to SAFE and folio load relocks every page (R115). -/
def relockAll (s : State) : State := { s with unlock := none }.set R.SYS_XOPEN_OPEN 0

/-- EXPERT_RELOCK (R115). -/
def expertRelock (s : State) (block : Nat) : State := (expertInterrupt s).putBit R.SYS_XOPEN_OPEN block false

/-- EXPERT_RESTORE (R115): ignored while the page is locked. -/
def expertRestore (s : State) (block : Nat) : State :=
  let s := expertInterrupt s
  if s.getBit R.SYS_XOPEN_OPEN block then restoreBlock s block else s

/-- EXPERT_UNLOCK_STEP (R114). -/
def execExpertUnlockStep (master : Fin 18) (key : BitVec 12) (block : Fin 64) (s : State) : Result :=
  s.serve master fun s =>
    if block.val < 32 then expertUnlockStep s master key.toNat block else expertIgnored s master

/-- EXPERT_RELOCK (R115). -/
def execExpertRelock (master : Fin 18) (block : Fin 64) (s : State) : Result :=
  s.serve master fun s =>
    if block.val < 32 then expertRelock s block else expertIgnored s master

/-- EXPERT_RESTORE (R115). -/
def execExpertRestore (master : Fin 18) (block : Fin 64) (s : State) : Result :=
  s.serve master fun s =>
    if block.val < 32 then expertRestore s block else expertIgnored s master

/-- EXPERT_UNLOCK_TIMEOUT (R114). -/
def execExpertUnlockTimeout (s : State) : Result := s.answer (if s.powered then expertInterrupt s else s)

end Sys2Proof.Machine
end

