-- ==== Sys2Proof/Machine/Image.lean ====
section
/-!
DEFINITION. Sys2Proof/Machine/Image.lean: the image windows (R146 to R149), the class views of tasks (R147), and the
forces that replace values at LATCH and COMMIT (R309 to R311).
-/
namespace Sys2Proof.Machine

/-- The image windows of R146. -/
def inImage (a : Nat) : Bool := decide (0x600000 ≤ a) && decide (a < 0x800000)

/-- The word address of a point's value (R146). -/
def pointAddr (word global : Bool) (n : Nat) : Nat :=
  match word, global with
  | false, false => 0x600000 + n / 32
  | true, false => 0x608000 + n
  | false, true => 0x620000 + n / 32
  | true, true => 0x680000 + n

/-- The word address of a point's quality (R146). -/
def qualAddr (word global : Bool) (n : Nat) : Nat :=
  match word, global with
  | false, false => 0x600800 + n / 16
  | true, false => 0x610000 + n / 16
  | false, true => 0x630000 + n / 16
  | true, true => 0x700000 + n / 16

/-- A point's value in a map of words; a bit point gives 0 or 1. -/
def pointIn (m : WMap) (word global : Bool) (n : Nat) : Word :=
  let w := m.rd (pointAddr word global n)
  if word then w else BitVec.ofNat 36 (bitsOf w (n % 32) 1)

/-- A map of words with a point's value replaced. -/
def putPointIn (m : WMap) (word global : Bool) (n : Nat) (v : Word) : WMap :=
  let a := pointAddr word global n
  m.wr a (if word then v else withBits (m.rd a) (n % 32) 1 v.toNat)

/-- A point's quality in a map of words. -/
def qualIn (m : WMap) (word global : Bool) (n : Nat) : Nat := bitsOf (m.rd (qualAddr word global n)) (2 * (n % 16)) 2

/-- A point's value in the image window. -/
def State.point (s : State) (word global : Bool) (n : Nat) : Word := pointIn s.mem word global n

/-- A point's value written to the image window; a word point's is a full-word write, which ends the word's poison
(R255). -/
def State.putPoint (s : State) (word global : Bool) (n : Nat) (v : Word) : State :=
  { s with
    mem := putPointIn s.mem word global n v
    poison := if word then s.poison.filter (· != pointAddr word global n) else s.poison }

/-- A point's quality in the image window. -/
def State.qual (s : State) (word global : Bool) (n : Nat) : Nat := qualIn s.mem word global n

/-- A point's quality written to the image window. -/
def State.putQual (s : State) (word global : Bool) (n q : Nat) : State :=
  let a := qualAddr word global n
  { s with mem := s.mem.wr a (withBits (s.mem.rd a) (2 * (n % 16)) 2 q) }

/-- A word of the image windows as it is held: bits 35:32 of a bit-value or quality word read 0 (R146). -/
def imageWord (a : Nat) (w : Word) : Word :=
  if (0x608000 ≤ a ∧ a < 0x610000) ∨ (0x680000 ≤ a ∧ a < 0x700000) then w else w &&& 0xFFFFFFFF

/-- The owner of a point, with its direction: class and whether it is an output (R147). -/
def pointOwner (s : State) (word global : Bool) (n : Nat) : Option Point :=
  s.points.find? fun p => p.word == word && p.global == global && p.num == n

/-- The state of a local point between cycles. -/
def State.pointSt (s : State) (word : Bool) (n : Nat) : PointSt :=
  (s.cycle.points.find? fun p => p.word == word && p.num == n).getD ⟨word, n, none, 0, 0⟩

/-- The state of a local point replaced. -/
def State.setPointSt (s : State) (p : PointSt) : State :=
  { s with cycle := { s.cycle with
    points := p :: s.cycle.points.filter fun q : PointSt => !(q.word == p.word && q.num == p.num) } }

/-- The force on a point that acts in the cycle that runs. -/
def liveForce (s : State) (word : Bool) (n : Nat) : Option Force :=
  s.forces.find? fun f => f.word == word && f.num == n && f.live

/-- The substitute policy of a channel and its substitute value (R149): none where the parameters have no such value. -/
structure Subst where
  policy : Nat
  value : Option Word
  deriving DecidableEq, Repr

/-- The value of an input whose quality is not GOOD (R149). A substitute value that the channel's parameters do not hold
is a free value. -/
def substitute (s : State) (sub : Subst) (delivered : Word) (last : Option Word) : Word × State :=
  match sub.policy with
  | 0 => (last.getD 0, s)
  | 1 =>
    match sub.value with
    | some v => (v, s)
    | none => let (f, s) := s.draw; (BitVec.ofNat 36 f, s)
  | _ => (delivered, s)

/-- An input point latched with a value and a quality (R123, R148, R149); a force replaces the value and reads GOOD
(R309). -/
def latchPoint (s : State) (word global : Bool) (n : Nat) (v : Word) (q : Nat) (sub : Subst) : State :=
  let p := s.pointSt word n
  let (v', s) := if q = 0 then (v, s) else substitute s sub v p.lastGood
  let s := if q = 0 ∧ !global then s.setPointSt { p with lastGood := some v } else s
  match (if global then none else liveForce s word n) with
  | some f =>
    let s := { s with forces := updateFirst (·.entry == f.entry) (fun g : Force => { g with srcq := q }) s.forces }
    (s.putPoint word global n f.value).putQual word global n 0
  | none => (s.putPoint word global n v').putQual word global n q

/-- The image windows as they stand: the class view that a LATCH takes (R147). -/
def imageOf (s : State) : WMap := s.mem.filter fun p => inImage p.1

/-- A class's view of the image. -/
def State.view (s : State) (c : Nat) : WMap := (s.cls c).view

/-- The committed value of an output point: a live force replaces the program's value (R310). -/
def committedValue (s : State) (c : Nat) (p : Point) : Word :=
  match (if p.global then none else liveForce s p.word p.num) with
  | some f => f.value
  | none => pointIn (s.view c) p.word p.global p.num

/-- How a write reaches the output image (R136): by a task or a pass, by an event task before its host's commit check, or
after it. -/
inductive Writer where
  | work | event | late
  deriving DecidableEq, Repr

/-- One write of a task or tap of class `c` to a point (R147): discarded with XWRITE where the class does not own the
point as an output. -/
def viewWrite (s : State) (c : Nat) (by' : Writer) (word global : Bool) (n : Nat) (v : Word) : State :=
  match pointOwner s word global n with
  | some p =>
    if p.cls = c ∧ p.out then
      let k := s.cls c
      if by' == .late then s.setCls c { k with lateOut := k.lateOut ++ [(word, global, n, v)] }
      else
        let new := by' == .work && !k.written.contains (word, global, n)
        s.setCls c { k with
          view := putPointIn k.view word global n v
          written := if new then (word, global, n) :: k.written else k.written }
    else s.raise R.CYC_EVT_XWRITE
  | none => s.raise R.CYC_EVT_XWRITE

/-- A store of a task of class `c` to a word of the image windows (R146, R147): one write to each of 32 bit points, or
one to a word point. A quality word or a reserved address is handled by the caller. -/
def viewStore (s : State) (c : Nat) (by' : Writer) (a : Nat) (w : Word) : State :=
  if a < 0x600800 then
    State.forEach (List.range 32) (fun i s =>
      viewWrite s c by' false false (32 * (a - 0x600000) + i) (BitVec.ofNat 36 (bitsOf w i 1))) s
  else if 0x608000 ≤ a ∧ a < 0x610000 then viewWrite s c by' true false (a - 0x608000) w
  else if 0x620000 ≤ a ∧ a < 0x630000 then
    State.forEach (List.range 32) (fun i s =>
      viewWrite s c by' false true (32 * (a - 0x620000) + i) (BitVec.ofNat 36 (bitsOf w i 1))) s
  else viewWrite s c by' true true (a - 0x680000) w

/-- The points of a class in one direction. -/
def classPoints (s : State) (c : Nat) (out : Bool) : List Point := s.points.filter fun p => p.cls == c && p.out == out

/-- Values of a run of points packed as a GATHER, SCATTER or mirror run (R329): 32 bits, or one word, in each word. -/
def runValues (m : WMap) (word global : Bool) (first count : Nat) : List Word :=
  if word then (List.range count).map fun i => pointIn m true global (first + i)
  else (List.range (ceilDiv count 32)).map fun k =>
    BitVec.ofNat 36 ((List.range (min 32 (count - 32 * k))).foldl (fun acc i =>
      acc + (pointIn m false global (first + 32 * k + i)).toNat * 2 ^ i) 0)

/-- Qualities of a run of points, sixteen in each word (R329, R146). -/
def runQuals (m : WMap) (word global : Bool) (first count : Nat) : List Word :=
  (List.range (ceilDiv count 16)).map fun k =>
    BitVec.ofNat 36 ((List.range (min 16 (count - 16 * k))).foldl (fun acc i =>
      acc + qualIn m word global (first + 16 * k + i) * 2 ^ (2 * i)) 0)

/-- The value of point `i` of a run as its payload carries it. -/
def runValue (word : Bool) (ws : List Word) (i : Nat) : Word :=
  if word then ws.getD i 0 else BitVec.ofNat 36 (bitsOf (ws.getD (i / 32) 0) (i % 32) 1)

/-- The quality of point `i` of a run as its quality words carry it. -/
def runQual (ws : List Word) (i : Nat) : Nat := bitsOf (ws.getD (i / 16) 0) (2 * (i % 16)) 2

/-- The payload words of a run's values. -/
def runLength (word : Bool) (count : Nat) : Nat := if word then count else ceilDiv count 32

end Sys2Proof.Machine
end

