-- ==== Sys2Proof/Machine/Fabric.lean ====
section
/-!
DEFINITION. Sys2Proof/Machine/Fabric.lean: the bit-logic fabric's passes (R156 to R171), the reflex paths (R175 to
R182), the fabric ports (R186), and the rows PRESET_WRITE, PROBE_SELECT, FAST_PIN_EDGE, REFLEX_TRIP, TRIP_CLEAR and
PIN_MISMATCH.
-/
namespace Sys2Proof.Machine

/-- The fabric units of the folio in force. -/
def State.fabricUnits (s : State) : List FabricUnit :=
  match s.folio.content with
  | some c => c.fabrics
  | none => []

/-- A fabric unit by its STRUCT number. -/
def State.fabricUnit (s : State) (id : Nat) : Option FabricUnit := s.fabricUnits.find? (·.id == id)

/-- The running state of a unit. -/
def State.unitSt (s : State) (id : Nat) : Option UnitSt := s.fabric.units.find? (·.id == id)

/-- The running state of a unit replaced. -/
def State.setUnit (s : State) (u : UnitSt) : State :=
  { s with fabric := { s.fabric with units := updateFirst (·.id == u.id) (fun _ => u) s.fabric.units } }

/-- A quire. -/
def State.quire (s : State) (q : Nat) : QuireSt := s.fabric.quires.toList.getD q ⟨none, none, [], [], []⟩

/-- A quire changed. -/
def State.setQuire (s : State) (q : Nat) (k : QuireSt) : State :=
  { s with fabric := { s.fabric with quires := s.fabric.quires.setIfInBounds q k } }

/-- The quire that holds a unit. -/
def State.quireOf (s : State) (id : Nat) : Option Nat := (s.placed 2 id false).map (·.place)

/-- A unit as the active plane of a quire holds it (R173). -/
def State.planeUnit (s : State) (q id : Nat) : Option FabricUnit := (s.quire q).active.find? (·.id == id)

/-- Number of leaves, timer cells and counter cells of a unit (R157, R169, R170). -/
def FabricUnit.leafCount (u : FabricUnit) : Nat := u.leaves.length / 6
def FabricUnit.timerCount (u : FabricUnit) : Nat := u.timers.length / 2
def FabricUnit.counterCount (u : FabricUnit) : Nat := u.counters.length / 4

/-- Word `k` of a leaf, timer or counter record. -/
def FabricUnit.leafWord (u : FabricUnit) (i k : Nat) : Word := u.leaves.getD (6 * i + k) 0
def FabricUnit.timerWord (u : FabricUnit) (i k : Nat) : Word := u.timers.getD (2 * i + k) 0
def FabricUnit.counterWord (u : FabricUnit) (i k : Nat) : Word := u.counters.getD (4 * i + k) 0

/-- LEVEL of a leaf or a cell. -/
def FabricUnit.leafLevel (u : FabricUnit) (i : Nat) : Nat := bitsOf (u.leafWord i 5) 27 9
def FabricUnit.timerLevel (u : FabricUnit) (i : Nat) : Nat := bitsOf (u.timerWord i 0) 21 9
def FabricUnit.counterLevel (u : FabricUnit) (i : Nat) : Nat := bitsOf (u.counterWord i 0) 21 9

/-- The highest level L of a unit (R160). -/
def FabricUnit.levels (u : FabricUnit) : Nat :=
  let l := (List.range u.leafCount).foldl (fun m i => max m (u.leafLevel i)) 0
  let l := (List.range u.timerCount).foldl (fun m i => max m (u.timerLevel i)) l
  (List.range u.counterCount).foldl (fun m i => max m (u.counterLevel i)) l

/-- The truth bit of a lookup function (R157). -/
def lutBit (luth lutl : Word) (n : Nat) : Bool := if n < 32 then lutl.getLsbD n else luth.getLsbD (n - 32)

/-- The index that six inputs form, I0 first. -/
def lutIndex (ins : List Bool) : Nat := (ins.foldr (fun b acc => 2 * acc + bitNat b) 0)

/-- The nanoseconds of a timer cell's timebase (R169). -/
def timebaseNs (tb : Nat) : Nat :=
  match tb with
  | 0 => 1000
  | 1 => 100000
  | 2 => 10000000
  | _ => 1000000000

/-- A timer cell's evaluation at `now` in its timebase (R142). TOF and TP keep ET once they have run out; TP's ET
returns to 0 with IN (log 15). -/
def timerEval (ty : Nat) (t : TimerSt) (inp : Bool) (now : Int) : TimerSt :=
  let elapsed (start : Int) : Nat := min (now - start).toNat t.pt
  match ty with
  | 0 =>
    if !inp then { t with et := 0, q := false, inPrev := inp }
    else
      let start := if t.inPrev then t.start else now
      { t with start := start, et := elapsed start, q := decide (t.pt ≤ elapsed start), inPrev := inp }
  | 1 =>
    if inp then { t with et := 0, q := true, inPrev := inp }
    else
      let start := if t.inPrev then now else t.start
      if t.inPrev || t.q then
        { t with start := start, et := elapsed start, q := decide (elapsed start < t.pt), inPrev := inp }
      else { t with inPrev := inp }
  | _ =>
    if !t.q && inp && !t.inPrev then
      { t with start := now, et := 0, q := decide (0 < t.pt), inPrev := inp }
    else if t.q then
      { t with et := elapsed t.start, q := decide (elapsed t.start < t.pt), inPrev := inp }
    else { t with et := if inp then t.et else 0, inPrev := inp }

/-- A rising pass edge; none while the previous state is unset (R143, R145). -/
def risingEdge (prev : Option Bool) (now : Bool) : Bool := prev == some false && now

/-- A counter's count by its edges: one up and one down leave CV, and CV saturates (R143). -/
def countEdges (cv : Int) (up down : Bool) : Int :=
  if up && down then cv else if up then saturate 36 (cv + 1) else if down then saturate 36 (cv - 1) else cv

/-- A counter cell's evaluation (R143, R171). -/
def counterEval (ty : Nat) (c : CounterSt) (cu cd r ld : Bool) : CounterSt :=
  let up := ty != 1 && risingEdge c.cuPrev cu
  let down := ty != 0 && risingEdge c.cdPrev cd
  let cv := if r then 0 else if ld then c.pv else countEdges c.cv up down
  { cv := cv, cuPrev := some cu, cdPrev := some cd, pv := c.pv
    q := if ty = 1 then decide (cv ≤ 0) else decide (c.pv ≤ cv)
    qd := ty == 2 && decide (cv ≤ 0) }

/-- A leaf's evaluation from its function value (R145, R167). -/
def leafEval (kind : Nat) (l : LeafSt) (v : Bool) : LeafSt :=
  let p := l.prev.getD v
  let out := if kind = 1 then v && !p else if kind = 2 then p && !v else v
  { bit := out, prev := some p, val := v }

/-- What a pass has captured at its start (R161): input taps, pin levels, the LATCH instant and its own. -/
structure Capture where
  taps : List Bool
  pins : Nat
  latch : Nat
  start : Nat
  deriving DecidableEq, Repr

/-- The value of a selector for a consumer at level `lvl` (R158, R160): `old` is the unit as the pass found it, `new`
with the levels below `lvl` evaluated. -/
def selValue (u : FabricUnit) (old new : UnitSt) (cap : Capture) (lvl sel : Nat) : Bool :=
  if sel < 0x8000 then
    ((if u.leafLevel sel < lvl then new else old).leaves[sel]?).elim false (·.bit)
  else if sel < 0xA000 then cap.taps.getD (sel - 0x8000) false
  else if sel < 0xA800 then
    ((if u.timerLevel (sel - 0xA000) < lvl then new else old).timers[sel - 0xA000]?).elim false (·.q)
  else if sel < 0xB000 then
    ((if u.counterLevel (sel - 0xA800) < lvl then new else old).counters[sel - 0xA800]?).elim false (·.q)
  else if sel < 0xB800 then
    ((if u.counterLevel (sel - 0xB000) < lvl then new else old).counters[sel - 0xB000]?).elim false (·.qd)
  else if sel < 0xB818 then cap.pins.testBit (sel - 0xB800)
  else sel == 0x3FFFF

/-- The six inputs of a leaf, I0 first. -/
def leafInputs (u : FabricUnit) (old new : UnitSt) (cap : Capture) (lvl i : Nat) : List Bool :=
  [2, 3, 4].flatMap fun k =>
    [selValue u old new cap lvl (bitsOf (u.leafWord i k) 0 18), selValue u old new cap lvl (bitsOf (u.leafWord i k) 18 18)]

/-- The leaves and cells of one level evaluated (R160). -/
def evalLevel (u : FabricUnit) (old : UnitSt) (cap : Capture) (lvl : Nat) (new : UnitSt) : UnitSt :=
  let sel := selValue u old new cap lvl
  { new with
    leaves := new.leaves.mapIdx fun i l =>
      if u.leafLevel i = lvl then
        leafEval (bitsOf (u.leafWord i 5) 25 2) l
          (lutBit (u.leafWord i 0) (u.leafWord i 1) (lutIndex (leafInputs u old new cap lvl i)))
      else l
    timers := new.timers.mapIdx fun i t =>
      let w := u.timerWord i 0
      if u.timerLevel i = lvl then
        timerEval (bitsOf w 34 2) t (sel (bitsOf w 0 18))
          ((if w.getLsbD 31 then cap.start else cap.latch) / timebaseNs (bitsOf w 32 2) : Nat)
      else t
    counters := new.counters.mapIdx fun i c =>
      if u.counterLevel i = lvl then
        counterEval (bitsOf (u.counterWord i 0) 34 2) c (sel (bitsOf (u.counterWord i 0) 0 18))
          (sel (bitsOf (u.counterWord i 1) 18 18)) (sel (bitsOf (u.counterWord i 1) 0 18))
          (sel (bitsOf (u.counterWord i 2) 0 18))
      else c }

/-- Previous-state bits of PASS scope at the end of a pass (R144). -/
def passScope (u : FabricUnit) (st : UnitSt) : UnitSt :=
  { st with leaves := st.leaves.mapIdx fun i l =>
      if (u.leafWord i 5).getLsbD 24 then l else { l with prev := some l.val } }

/-- Previous-state bits of CYCLE scope at the end of a class cycle (R144); one that is unset stays unset. -/
def cycleScope (u : FabricUnit) (st : UnitSt) : UnitSt :=
  { st with leaves := st.leaves.mapIdx fun i l =>
      if (u.leafWord i 5).getLsbD 24 then { l with prev := l.prev.map fun _ => l.val } else l }

/-- A whole pass: the unit's state as the pass leaves it (R160, R161). -/
def passResult (u : FabricUnit) (st : UnitSt) (cap : Capture) : UnitSt :=
  passScope u ((List.range u.levels).foldl (fun new l => evalLevel u st cap (l + 1) new) st)

/-- The words of the image that an input tap reads (R159, R255): the value's, and for a QUAL tap the quality's too. -/
def tapWords (w : Word) : List Nat :=
  let n := bitsOf w 0 21
  pointAddr false w.msb n :: if w.getLsbD 34 then [qualAddr false w.msb n] else []

/-- The input taps of a pass from a class view (R159); one that meets a poisoned word reads FALSE (R255). -/
def captureTaps (s : State) (u : FabricUnit) : List Bool :=
  u.inTaps.map fun w =>
    let n := bitsOf w 0 21
    if (tapWords w).any s.poison.contains then false
    else if w.getLsbD 34 then qualIn (s.view u.cls) false w.msb n == 0
    else pointIn (s.view u.cls) false w.msb n == 1

/-- The capture of a pass that starts now (R161). -/
def capture (s : State) (u : FabricUnit) : Capture :=
  ⟨captureTaps s u, s.get R.FAB_PINLVL_LEVEL, (s.cls u.cls).latchAt, s.now⟩

/-- Mode of a fast pin (R175): 0 unused, 1 input, 2 class output, 3 reflex output. -/
def pinMode (s : State) (i : Nat) : Nat :=
  if i < 18 then s.get R.FAB_PINMODE0_MODES / 2 ^ (2 * i) % 4 else s.get R.FAB_PINMODE1_MODES / 2 ^ (2 * (i - 18)) % 4

/-- The states in which reflex paths run (R18). -/
def reflexState (s : State) : Bool :=
  match s.dev with
  | .stop | .run | .standby | .halt | .safe => true
  | _ => false

/-- KIND of a reflex record: 1 COMB, 2 TRIP (R176). -/
def reflexKind (u : FabricUnit) (i : Nat) : Nat := bitsOf (u.reflex.getD (4 * i + 3) 0) 22 2

/-- The TRIP leaves among a unit's reflex records. -/
def tripLeaves (u : FabricUnit) : List Nat := (List.range (u.reflex.length / 4)).filter fun i => reflexKind u i == 2

/-- A unit with reflex leaves on a quire: its records, its running state, and the number of the first of its TRIP
leaves. -/
structure ReflexUnit where
  unit : FabricUnit
  st : UnitSt
  first : Nat
  deriving DecidableEq, Repr

/-- The units with reflex leaves that the active plane of a quire holds: the quire's leaves are theirs in order, and the
selectors of a unit name its own (log 6). -/
def reflexUnits (s : State) (q : Nat) : List ReflexUnit :=
  ((s.quire q).active.filter fun u : FabricUnit => !u.reflex.isEmpty).foldl (fun (acc : List ReflexUnit) u =>
    match s.unitSt u.id with
    | some st => acc ++ [⟨u, st, 4 * q + (acc.map fun r => (tripLeaves r.unit).length).foldl (· + ·) 0⟩]
    | none => acc) []

/-- Whether a quire's reflex leaves run (R18, R184). -/
def reflexRuns (s : State) (q : Nat) : Bool :=
  reflexState s && !s.flag (R.FAB_QSTAT_DIS q) && !(reflexUnits s q).isEmpty

/-- The TRIP number t of a reflex leaf (R178). -/
def tripNumber (r : ReflexUnit) (i : Nat) : Nat := r.first + ((tripLeaves r.unit).filter (· < i)).length

/-- A reflex selector's value, given the values of the unit's reflex leaves (R176). -/
def reflexSel (s : State) (st : UnitSt) (leaf : Nat → Bool) (sel : Nat) : Bool :=
  if sel < 24 then s.getBit R.FAB_PINLVL_LEVEL sel
  else if 32 ≤ sel ∧ sel < 64 then st.arms.getD (sel - 32) false
  else if 64 ≤ sel ∧ sel < 96 then leaf (sel - 64)
  else sel == 127

/-- The function value of a reflex record, given the values of the unit's reflex leaves. -/
def reflexLut (s : State) (u : FabricUnit) (st : UnitSt) (leaf : Nat → Bool) (i : Nat) : Bool :=
  let w (k : Nat) : Word := u.reflex.getD (4 * i + k) 0
  let ins := [bitsOf (w 2) 0 7, bitsOf (w 2) 7 7, bitsOf (w 2) 14 7, bitsOf (w 2) 21 7, bitsOf (w 3) 0 7, bitsOf (w 3) 7 7]
  lutBit (w 0) (w 1) (lutIndex (ins.map (reflexSel s st leaf)))

/-- The value of reflex leaf `i` of a unit (R178): T of a TRIP leaf, the function value of a COMB leaf; `n` bounds the
chain, which forms no loop (R179). -/
def reflexLeaf (s : State) (r : ReflexUnit) : Nat → Nat → Bool
  | 0, _ => false
  | n + 1, i =>
    if reflexKind r.unit i = 2 then s.getBit R.FAB_TRIP_T (tripNumber r i)
    else reflexLut s r.unit r.st (fun j => reflexLeaf s r n j) i

/-- The function value of TRIP leaf `i` as the other leaves stand. -/
def tripCause (s : State) (r : ReflexUnit) (i : Nat) : Bool := reflexLut s r.unit r.st (reflexLeaf s r 32) i

/-- T of a TRIP leaf becomes TRUE (R178). -/
def tripSet (s : State) (t : Nat) : State :=
  ((s.putBit R.FAB_TRIP_T t true).putBit R.FAB_TRIPEVT_EVT t true).raise R.FAB_EVT_TRIP

/-- The arm bit that resets a TRIP leaf (R176). -/
def tripReset (s : State) (r : ReflexUnit) (i : Nat) : Bool :=
  reflexSel s r.st (fun _ => false) (bitsOf (r.unit.reflex.getD (4 * i + 3) 0) 14 7)

/-- One TRIP leaf follows its cause and its reset (R178). -/
def tripUpdate (s : State) (r : ReflexUnit) (i : Nat) : State :=
  let t := tripNumber r i
  let on := s.getBit R.FAB_TRIP_T t
  if tripCause s r i then (if on then s else tripSet s t)
  else if on && tripReset s r i then s.putBit R.FAB_TRIP_T t false else s

/-- The ball of a pin at a level: PINLVL shows it, and an edge triggers the event tasks that watch the pin (R175). -/
def pinLevel (s : State) (i : Nat) (l : Bool) : State :=
  if s.getBit R.FAB_PINLVL_LEVEL i == l then s
  else triggerSource (s.putBit R.FAB_PINLVL_LEVEL i l) (.pin i l)

/-- A pin driven at a level (R175, R182): the ball takes it unless an outside source overrides the drive. -/
def pinDrive (s : State) (i : Nat) (l : Bool) : State :=
  let f := s.fabric
  let s := { s with fabric := { f with drive := withBit f.drive i true, level := withBit f.level i l } }
  if f.held.testBit i then s else pinLevel s i l

/-- A pin in its reset state: not driven (R18). -/
def pinRelease (s : State) (i : Nat) : State :=
  { s with fabric := { s.fabric with drive := withBit s.fabric.drive i false, held := withBit s.fabric.held i false } }

/-- The pin that a reflex leaf drives. -/
def reflexPin (u : FabricUnit) (i : Nat) : Option Nat :=
  let w := u.reflex.getD (4 * i + 3) 0
  if w.getLsbD 29 ∧ bitsOf w 24 5 < 24 then some (bitsOf w 24 5) else none

/-- The pins that a unit's COMB and TRIP leaves drive: none in STANDBY (R180). -/
def reflexPins (s : State) (r : ReflexUnit) : State :=
  State.forEach (List.range (r.unit.reflex.length / 4)) (fun i t =>
    match reflexPin r.unit i with
    | none => t
    | some pin =>
      if pinMode s pin ≠ 3 then t
      else if s.dev == .standby then pinRelease t pin else pinDrive t pin (reflexLeaf s r 32 i)) s

/-- The pins of a quire whose reflex leaves have stopped take their reset state (R18, R184). -/
def reflexStop (s : State) (q : Nat) : State :=
  State.forEach (reflexUnits s q) (fun r s =>
    State.forEach ((List.range (r.unit.reflex.length / 4)).filterMap (reflexPin r.unit)) (fun pin t => pinRelease t pin) s) s

/-- One quire's reflex leaves settle once: TRIP leaves, then the driven pins. -/
def reflexOnce (s : State) (q : Nat) : State :=
  let s := (s.setFlag (R.FAB_QSTAT_REFLEX q) (reflexRuns s q)).putBit R.FAB_STAT_REFLEX q (reflexRuns s q)
  if reflexRuns s q then
    State.forEach (reflexUnits s q) (fun r s =>
      reflexPins (State.forEach (tripLeaves r.unit) (fun i s => tripUpdate s r i) s) r) s
  else reflexStop s q

/-- The reflex paths of the device settle: a TRIP leaf changes at most twice in a chain, and a driven pin may feed
another quire, so four rounds reach the end of every chain that R179 admits (log 16). -/
def reflexSettle (s : State) : State :=
  Nat.repeat (fun s => State.forEach (List.range 8) (fun q s => reflexOnce s q) s) 4 s

/-- The reflex leaf that is TRIP number t. -/
def tripLeaf (s : State) (t : Nat) : Option (ReflexUnit × Nat) :=
  (reflexUnits s (t / 4)).findSome? fun r => ((tripLeaves r.unit).find? fun i => tripNumber r i == t).map (r, ·)

/-- The reflex paths after a change of planes (R180): T stays for each t that is TRIP before and after, and the pins that
no reflex leaf drives any more take their reset state. -/
def reflexSwitch (old s : State) : State :=
  let trips (s : State) (t : Nat) : Bool := (tripLeaf s t).isSome
  let s := State.forEach (List.range 32) (fun t s =>
    if trips old t && trips s t then s else s.putBit R.FAB_TRIP_T t false) s
  let pins (s : State) : List Nat := (List.range 8).flatMap fun q => (reflexUnits s q).flatMap fun r =>
    (List.range (r.unit.reflex.length / 4)).filterMap (reflexPin r.unit)
  reflexSettle (State.forEach ((pins old).filter fun i => !(pins s).contains i) (fun i s => pinRelease s i) s)

/-- The pins in class-output mode that a class drives, with their point (R175). -/
def classPins (s : State) (c : Nat) : List (Nat × Nat) :=
  (classPoints s c true).filterMap fun p =>
    match p.src with
    | .pin i => if pinMode s i = 2 && !p.global && !p.word then some (i, p.num) else none
    | _ => none

/-- The class-output pins of a class at their fallback levels (R151); in STANDBY they are not driven (R180). -/
def pinsFallback (s : State) (c : Nat) : State :=
  State.forEach (classPins s c) (fun (p : Nat × Nat) s =>
    if s.dev == .standby then pinRelease s p.1 else pinDrive s p.1 (s.getBit R.FAB_PINFB_LEVEL p.1)) s

/-- The arm bits of one unit whose point a class owns, set by a function of the arm bit. -/
def setUnitArms (s : State) (c : Nat) (f : ArmBit → Bool) (st : UnitSt) : UnitSt :=
  match s.fabricUnit st.id with
  | none => st
  | some u =>
    { st with arms := st.arms.mapIdx fun i b =>
        match u.arms[i]? with
        | some a => if (pointOwner s false false a.point).any (fun p => p.cls == c) then f a else b
        | none => b }

/-- The arm bits whose point a class owns, set by a function of the arm bit (R177). -/
def setArms (s : State) (c : Nat) (f : ArmBit → Bool) : State :=
  { s with fabric := { s.fabric with units := s.fabric.units.map (setUnitArms s c f) } }

/-- The arm bits of a class at fallback (R177). -/
def armsFallback (s : State) (c : Nat) : State := setArms s c (·.fallback)

/-- The cell or leaf that a port's selection names, when the unit holds it (R186): 0 timer, 1 counter, 2 leaf. -/
def portCell (s : State) (kind unit idx : Nat) : Option UnitSt :=
  match s.unitSt unit with
  | none => none
  | some st =>
    let n := match kind with
      | 0 => st.timers.length
      | 1 => st.counters.length
      | _ => st.leaves.length
    if idx < n then some st else none

/-- FAB_CVAL of a port as it reads (R186): the preset of the selected cell. -/
def presetValue (s : State) (p : Nat) : Option Word :=
  let i := s.get (R.FAB_CSEL_INDEX p)
  (portCell s (s.get (R.FAB_CSEL_KIND p)) (s.get (R.FAB_CSEL_UNIT p)) i).bind fun st =>
    if s.get (R.FAB_CSEL_KIND p) = 0 then (st.timers[i]?).map fun t => BitVec.ofNat 36 t.pt
    else (st.counters[i]?).map fun c => wordOfInt c.pv

/-- FAB_PVAL of a port as it reads (R186). -/
def probeValue (s : State) (p : Nat) : Option Word :=
  let i := s.get (R.FAB_PSEL_INDEX p)
  let w := s.get (R.FAB_PSEL_WHAT p)
  let bit (b : Bool) : Word := BitVec.ofNat 36 (bitNat b)
  (portCell s (if w < 2 then 2 else if w < 4 then 0 else 1) (s.get (R.FAB_PSEL_UNIT p)) i).bind fun st =>
    match w with
    | 0 => (st.leaves[i]?).map fun l => bit l.bit
    | 1 => (st.leaves[i]?).map fun l => bit (l.prev.getD false)
    | 2 => (st.timers[i]?).map fun t => BitVec.ofNat 36 t.et
    | 3 => (st.timers[i]?).map fun t => bit t.q
    | 4 => (st.counters[i]?).map fun c => wordOfInt c.cv
    | _ => (st.counters[i]?).map fun c => bit c.q

/-- FAB_CVAL and FAB_PVAL of a port brought up to date after a selection; SELERR tells a selection of nothing
configured (R186). -/
def portShow (s : State) (p : Nat) (probe : Bool) : State :=
  let f := if probe then R.FAB_PVAL_VALUE p else R.FAB_CVAL_VALUE p
  let r : Option Word := if probe then probeValue s p else presetValue s p
  match r with
  | some v => s.set f v.toNat
  | none => (s.set f 0).raise R.FAB_EVT_SELERR

/-- A preset written through a port (R172, R186). -/
def presetWrite (s : State) (p : Nat) (v : Word) : State :=
  let i := s.get (R.FAB_CSEL_INDEX p)
  match portCell s (s.get (R.FAB_CSEL_KIND p)) (s.get (R.FAB_CSEL_UNIT p)) i with
  | none => portShow s p false
  | some st =>
    let st := if s.get (R.FAB_CSEL_KIND p) = 0
      then { st with timers := updateAt (fun t : TimerSt => { t with pt := bitsOf v 0 32 }) i st.timers }
      else { st with counters := updateAt (fun c : CounterSt => { c with pv := v.toInt }) i st.counters }
    portShow (s.setUnit st) p false

/-- A fast pin's level changes at the ball, past its filter (R175, R188): readers see it, and the reflex paths follow
within the bound of R179. On a driven pin a level other than the driven one is an outside override, and its return to the
driven level the end of that. -/
def fastPinEdge (s : State) (i : Nat) (l : Bool) : State :=
  let f := s.fabric
  let s := { s with fabric := { f with held := withBit f.held i (f.drive.testBit i && f.level.testBit i != l) } }
  reflexSettle (pinLevel s i l)

/-- PRESET_WRITE (R172, R186): FAB_CVAL of a port written by the port's master. -/
def execPresetWrite (port : Port) (value : Word) (s : State) : Result := s.serve port fun s => presetWrite s port value

/-- FAB_PSEL written (R186); a reserved WHAT is kept from the field, and the rest of the write takes effect (R7). -/
def probeSelect (s : State) (p what unit idx : Nat) : State :=
  let s := if 6 ≤ what then s.rsvd p (R.FAB_PSEL_WHAT p).addr else s.set (R.FAB_PSEL_WHAT p) what
  portShow ((s.set (R.FAB_PSEL_UNIT p) unit).set (R.FAB_PSEL_INDEX p) idx) p true

/-- PROBE_SELECT (R186). -/
def execProbeSelect (port : Port) (what : Fin 8) (unit : Fin 512) (idx : Fin 32768) (s : State) : Result :=
  s.serve port fun s => probeSelect s port what unit idx

/-- FAST_PIN_EDGE (R175, R178, R179). -/
def execFastPinEdge (pin : Fin 24) (level : Bool) (s : State) : Result :=
  s.answer (if s.powered then fastPinEdge s pin level else s)

/-- REFLEX_TRIP (R178): TRIP leaf t trips while its function value is TRUE. -/
def execReflexTrip (t : Fin 32) (s : State) : Result :=
  s.answer <| match tripLeaf s t with
    | none => s
    | some (r, i) =>
      if reflexRuns s (t / 4) && tripCause s r i && !s.getBit R.FAB_TRIP_T t then reflexSettle (tripSet s t) else s

/-- TRIP_CLEAR (R178): a TRIP leaf clears while its function value is FALSE and its reset arm bit is TRUE. -/
def execTripClear (t : Fin 32) (s : State) : Result :=
  s.answer <| match tripLeaf s t with
    | none => s
    | some (r, i) =>
      if reflexRuns s (t / 4) && !tripCause s r i && tripReset s r i && s.getBit R.FAB_TRIP_T t
      then reflexSettle (s.putBit R.FAB_TRIP_T t false) else s

/-- PIN_MISMATCH (R182): a driven pin has differed from its driven level for longer than FAB_XMIS. -/
def execPinMismatch (pin : Fin 24) (s : State) : Result :=
  s.answer <| if s.powered && s.fabric.drive.testBit pin && decide (2 ≤ pinMode s pin)
    then (s.putBit R.FAB_PINMIS_MIS pin true).raise R.FAB_EVT_PINMIS else s

end Sys2Proof.Machine
end

