-- ==== Sys2Proof/Machine/Field.lean ====
section
/-!
DEFINITION. Sys2Proof/Machine/Field.lean: the field die and its link (R14 to R16, R372 to R397). What the die finds
reaches the logic die's registers with the next valid status frame (R373).
-/
namespace Sys2Proof.Machine

/-- Channel `n` of the field die. -/
def State.die (s : State) (n : Nat) : DieCh := s.field.chans.toList.getD n DieCh.fresh

/-- Channel `n` of the field die changed. -/
def State.setDie (s : State) (n : Nat) (d : DieCh) : State :=
  { s with field := { s.field with chans := s.field.chans.setIfInBounds n d } }

/-- Group `g` of the field die. -/
def State.group (s : State) (g : Nat) : DieGroup := s.field.groups.toList.getD g ⟨.missing, false, 0, 0, 0⟩

/-- Group `g` changed. -/
def State.setGroup (s : State) (g : Nat) (d : DieGroup) : State :=
  { s with field := { s.field with groups := s.field.groups.setIfInBounds g d } }

/-- The fields of class word 1 (R375). -/
def chType (w : Word) : Nat := bitsOf w 32 4
def chFb (w : Word) : Nat := bitsOf w 26 2
def chSubPol (w : Word) : Nat := bitsOf w 24 2
def chWire (w : Word) : Nat := bitsOf w 22 2
def chPeer (w : Word) : Nat := bitsOf w 17 5
def chTcyc (w : Word) : Nat := bitsOf w 13 4

/-- An input type of R375, counters among them. -/
def chInput (w : Word) : Bool := decide (1 ≤ chType w) && decide (chType w ≤ 4)

/-- A note of diagnostics for the next status frame. -/
def DieCh.note (d : DieCh) (bit : Nat) : DieCh := { d with diag := withBit d.diag bit true }

/-- The channel whose row of R392 a channel takes: PEER for a paralleled one. -/
def stageOwner (s : State) (n : Nat) : Nat := if chWire (s.die n).cfg = 2 then chPeer (s.die n).cfg else n

/-- Another channel of a paralleled pair (R387): the PEER of a channel, or the channel that names it. -/
def pairMates (s : State) (n : Nat) : List Nat :=
  (if chWire (s.die n).cfg = 2 then [chPeer (s.die n).cfg] else []) ++
    (List.range 32).filter fun m => chWire (s.die m).cfg == 2 && chPeer (s.die m).cfg == n

/-- The values of a command frame (R391): command bits, fallback-request bits, release state, DRIVE. -/
structure Frame where
  cmd : Nat
  fb : Nat
  release : Bool
  drive : Bool
  deriving DecidableEq, Repr

/-- The first row of R392 that applies to channel `n` under the values of a frame. -/
def stageRow (s : State) (fr : Frame) (n : Nat) : Nat :=
  let p := stageOwner s n
  let twin := chWire (s.die p).cfg == 1
  if (s.group (p / 8)).phase ≠ .ok then 1
  else if (s.die n).latched || (pairMates s n).any fun m => (s.die m).latched then 2
  else if !s.field.configured then 3
  else if s.field.fallback && twin then 4
  else if s.field.fallback then 5
  else if !fr.drive && twin then 6
  else if !fr.release then 7
  else if !fr.drive then 8
  else if fr.fb.testBit p then 9
  else 10

/-- The stage that a row of R392 gives: FB HOLD keeps the stage as it stood. -/
def stageOf (s : State) (fr : Frame) (n : Nat) : Bool :=
  let d := s.die n
  if chType d.cfg ≠ 5 then false
  else
    let fb := match chFb (s.die (stageOwner s n)).cfg with
      | 1 => true
      | 2 => d.stage
      | _ => false
    match stageRow s fr n with
    | 5 | 7 | 9 => fb
    | 10 => fr.cmd.testBit (stageOwner s n)
    | _ => false

/-- The frame that the die last received. -/
def lastFrame (s : State) : Frame := ⟨s.field.frCmd, s.field.frFb, s.field.frRelease, s.field.frDrive⟩

/-- Every output stage set by R392; a channel commanded off counts its thermal cycles from 0 again (R386), and external feed
holds only on a stage that is off (R385). -/
def setStages (s : State) : State :=
  let fr := lastFrame s
  let chans := Vector.ofFn fun i : Fin 32 =>
    let d := s.die i
    let on := stageOf s fr i
    let off := !fr.cmd.testBit (stageOwner s i)
    { d with stage := on, tcnt := if off then 0 else d.tcnt, ilim := d.ilim && on, feed := d.feed && !on }
  { s with field := { s.field with chans := chans } }

/-- A latch-off (R385, R386): both channels of a paralleled pair; `cause` 1 short, 2 group overload. -/
def latchOff (s : State) (n cause : Nat) : State :=
  let off (n : Nat) (s : State) : State := s.setDie n { s.die n with latched := true, stage := false, ilim := false }
  let s := State.forEach (n :: pairMates s n) off s
  let s := s.setDie n ((s.die n).note (if cause = 1 then 4 else 5))
  { s with field := { s.field with latchOffs := s.field.latchOffs ++ [(n, cause)] } }

/-- DRIVE (R391): a folio in force and the device its pair's primary, or without a configured partner. -/
def driveBit (s : State) : Bool :=
  s.flag R.SYS_STATE_FOLIO && !s.twin.departed && s.dev != .boot && s.dev != .load && s.dev != .standby && s.dev != .off &&
    match s.folio.content with
    | some c => c.partner.isNone || s.flag R.TWN_STAT_PRIMARY
    | none => false

/-- The quality that R393 gives an output channel at a COMMIT, from the row of R392 under the frame that begins there: BAD in
the rows that hold the output back, `q` of R148 and R150 otherwise. -/
def commitQuality (s : State) (n : Nat) (fb : Bool) (q : Nat) : Nat :=
  let rel := s.flag R.SYS_STATE_RELEASED || s.cycle.heldRelease
  let fr : Frame := ⟨0, if fb then 2 ^ 32 - 1 else 0, rel, driveBit s⟩
  let s' := { s with field := { s.field with fallback := s.field.fallback && (!rel || s.field.silent) } }
  match stageRow s' fr n with
  | 10 => q
  | 6 | 8 => if s.dev == .run then 3 else q
  | _ => 3

/-- The class word of an FCH channel in force, 0 where none exists. -/
def fchWord (s : State) (n : Nat) : Word := (s.channel 1 n).elim 0 (·.words.getD 0 0)

/-- The count of a CTR channel that a new configuration gives (R383): PRESET where the die held other words. -/
def configCount (old : DieCh) (ctr : List Word) : Nat :=
  if old.ctr = ctr then old.count else (ctr.getD 1 0).toNat

/-- Pulsed sampling (R377) of Type 1, Type 3 and wire-break inputs: from the configuration until a frame sets the release,
during a front-end test, and while the group recovers. -/
def samplesPulsed (s : State) (n : Nat) : Bool :=
  let d := s.die n
  decide (1 ≤ chType d.cfg) && decide (chType d.cfg ≤ 3) &&
    (s.field.startup || d.testing || (s.group (n / 8)).phase == .recovery)

/-- The front ends sample as R377 has them. -/
def setSampling (s : State) : State :=
  { s with field := { s.field with chans := Vector.ofFn fun i : Fin 32 => { s.die i with pulsed := samplesPulsed s i } } }

/-- The channel configuration, fallback table and wiring declarations taken by the die (R16, R374). -/
def configureDie (s : State) : State :=
  let chans := Vector.ofFn fun i : Fin 32 =>
    let d := s.die i
    let w := fchWord s i
    let ctr := (s.channel 7 i).elim [] (·.words)
    { d with cfg := w, ctr := ctr, count := configCount d ctr, stage := d.stage && chType w == 5,
             broken := d.broken && chType w == 3 }
  { s with field := { s.field with chans := chans, configured := true, startup := true, cfgDue := false } }

/-- A valid command frame arrives at the field die (R14 to R16, R386, R390, R391). -/
def dieFrame (s : State) (fr : Frame) : State :=
  let f := s.field
  let ack := f.ackDue
  let lack := f.lackDue
  let s := { s with field := { f with
    frCmd := fr.cmd, frFb := fr.fb, frRelease := fr.release, frDrive := fr.drive, ackDue := 0, lackDue := 0,
    driveAge := if fr.drive then f.driveAge + 1 else 0,
    reportLost := f.reportLost || f.silent, silent := false, fallback := f.fallback && !fr.release } }
  let s := s.when f.cfgDue configureDie
  let s := State.forEach (List.range 4) (fun g s =>
    let d := s.group g
    if ack.testBit g && d.phase == .awaiting then
      let s := s.setGroup g { d with phase := .ok }
      State.forEach (List.range 8) (fun i s => s.setDie (8 * g + i) { s.die (8 * g + i) with latched := false }) s
    else s) s
  let s := State.forEach (List.range 32) (fun n s =>
    if lack.testBit n then s.setDie n { s.die n with latched := false } else s) s
  let s := s.when fr.release fun s => { s with field := { s.field with startup := false } }
  setSampling (setStages s)

/-- FIELD_COMMAND_FRAME (R14, R391): the logic die, while it is powered, sends its frame; `arrives` tells that the die
takes it as valid. -/
def fieldCommandFrame (s : State) (arrives : Bool) : State :=
  let fr : Frame := ⟨s.field.cmd, s.field.fbReq, s.flag R.SYS_STATE_RELEASED || s.cycle.heldRelease, driveBit s⟩
  let s := (s.setFlag R.FIO_STAT_RELEASE fr.release).setFlag R.FIO_STAT_DRIVE fr.drive
  let s := State.forEach (List.range 32) (fun n s =>
    if (s.channel 1 n).isSome then s.setFlag (R.FIO_CST_CMD n) (fr.cmd.testBit n) else s) s
  s.when arrives (dieFrame · fr)

/-- FIELD_LINK_FALLBACK (R15): the die applies its fallback table and marks every input BAD. -/
def fieldLinkFallback (s : State) : State :=
  let s := { s with field := { s.field with fallback := true, silent := true } }
  setStages s

/-- FIO_CDIAGn takes diagnostics and FIO_EVT.CHDIAG tells it. -/
def chDiag (s : State) (n mask : Nat) : State :=
  if mask = 0 then s
  else
    let a := (R.FIO_CDIAG_STALE n).addr
    (s.setReg a (s.reg a ||| BitVec.ofNat 36 mask)).raise R.FIO_EVT_CHDIAG

/-- One channel's readback, diagnostics and count as a status frame gives them (R373, R396); a stage at its limit of 1.2 A is
in current limit (R385). -/
def statusChannel (n amps : Nat) (pin : Bool) (s : State) : State :=
  let d := { s.die n with ilim := (s.die n).stage && decide (1200 ≤ amps) }
  let s := s.setDie n { d with diag := 0 }
  if (s.channel 1 n).isNone then s
  else
    let s := ((s.set (R.FIO_CST_IOUT n) amps).set (R.FIO_CST_TCNT n) d.tcnt).setFlag (R.FIO_CST_LATCHED n) d.latched
    let s := ((s.setFlag (R.FIO_CST_ILIM n) d.ilim).setFlag (R.FIO_CST_FEED n) d.feed).setFlag (R.FIO_CST_BREAK n) d.broken
    let s := ((s.setFlag (R.FIO_CST_STAGE n) d.stage).setFlag (R.FIO_CST_PIN n) pin).setFlag (R.FIO_CST_LEVEL n) d.level
    let s := s.when (s.channel 7 n).isSome (·.set (R.FIO_CCNT_COUNT n) d.count)
    chDiag s n d.diag

/-- One group's supply as a status frame gives it, with the entries of the event recorder (R389, R390). -/
def statusGroup (g volts amps : Nat) (s : State) : State :=
  let d := s.group g
  let s := s.setGroup g { d with newLow := 0, newMissing := 0, newRecovered := 0 }
  let s := s.putBit R.FIO_STAT_AWAIT g (d.phase == .awaiting)
  let s := s.putBit R.FIO_STAT_MISSING g (d.phase == .missing || d.phase == .recovery)
  let s := (s.putBit R.FIO_STAT_LOW g d.low).set (R.FIO_GLP_VOLT g) volts
  let s := s.set (R.FIO_GLP_CURR g) amps
  let s := s.when (decide (0 < d.newLow)) fun s => (s.putBit R.FIO_EVT_LOW g true).add (R.FIO_GCNT_LOW g) d.newLow
  let s := s.when (decide (0 < d.newMissing)) fun s =>
    ((s.putBit R.FIO_EVT_MISSING g true).add (R.FIO_GCNT_MISS g) d.newMissing).record 69 14 g 1
  s.when (decide (0 < d.newRecovered)) fun s => (s.putBit R.FIO_EVT_RECOVERED g true).record 69 14 g 2

/-- The next configuration is to be sent (R374). -/
def configDue (s : State) : State := { s with field := { s.field with cfgDue := true } }

/-- FIELD_STATUS_FRAME (R373, R374): a valid frame, with the output currents in mA and pin readbacks of the 32 channels
and the L+ voltages of the groups in 10 mV. -/
def fieldStatusFrame (s : State) (amps volts : List Nat) (pins : BitVec 32) : State :=
  let s := State.forEach (List.range 32) (fun n => statusChannel n (amps.getD n 0) (pins.getLsbD n)) s
  let s := State.forEach (List.range 4) (fun g =>
    statusGroup g (volts.getD g 0) (((List.range 8).map fun i => amps.getD (8 * g + i) 0).sum)) s
  let f := s.field
  let s := s.when f.restart fun s => configDue ((s.raise R.FIO_EVT_DIERST).journal 11 14 0 0)
  let s := State.forEach f.latchOffs (fun p s => s.record 68 14 p.1 p.2) s
  let s := s.when (f.reportLost || f.linkLost) (·.journal 10 14 2 0)
  let s := { s with field := { s.field with restart := false, latchOffs := [], reportLost := false, linkLost := false,
                                            missed := 0, inputsBad := f.silent } }
  (s.raise R.FIO_STAT_LINK).setFlag R.FIO_STAT_DIEUP f.configured

/-- STATUS_FRAME_MISSING (R373): the previous values stay, with STALE. -/
def statusFrameMissing (s : State) : State :=
  let s := { s with field := { s.field with missed := s.field.missed + 1 } }
  State.forEach (List.range 32) (fun n s => if chInput (fchWord s n) then chDiag s n 1 else s) s

/-- DIE_LINK_LOST (R373): after 32 missing frames. -/
def dieLinkLost (s : State) : State :=
  if 32 ≤ s.field.missed ∧ !s.field.linkLost then
    let s := { s with field := { s.field with linkLost := true } }
    ((s.set R.FIO_STAT_LINK 0).raise R.FIO_EVT_LINKLOST).journal 10 14 1 0
  else s

/-- FIELD_DIE_POWER_UP (R374, R383): the die starts with every output off, no configuration and its counts to be preset;
the groups whose L+ has returned recover, the others stay missing. -/
def fieldDiePowerUp (s : State) (groups : BitVec 4) : State :=
  let chans := Vector.ofFn fun i : Fin 32 =>
    let keep := (s.die i).diag
    { DieCh.fresh with diag := if (s.channel 7 i).isSome then withBit keep 7 true else keep }
  let gs := Vector.ofFn fun g : Fin 4 =>
    { s.group g with phase := if groups.getLsbD g then LPhase.recovery else LPhase.missing }
  { s with field := { s.field with
    chans := chans, groups := gs, configured := false, restart := true, fallback := false, silent := false,
    frCmd := 0, frFb := 2 ^ 32 - 1, frRelease := false, frDrive := false, driveAge := 0, startup := false } }

/-- The quality of input `n` (R379), from what the last valid status frame told. -/
def fieldQuality (s : State) (n : Nat) : Nat :=
  let g := n / 8
  let w := (s.die n).cfg
  if s.field.linkLost || !s.flag R.FIO_STAT_LINK then 3
  else if decide (0 < s.field.missed) then 2
  else if s.getBit R.FIO_STAT_MISSING g || !s.flag R.FIO_STAT_DIEUP || s.field.inputsBad || !chInput w then 3
  else if chType w == 3 && s.flag (R.FIO_CST_BREAK n) then 1
  else 0

/-- The filter time T_f of a FILT code (R378), in units of 0.5 µs. -/
def filterTime (filt : Nat) : Nat :=
  match filt with
  | 0 => 0
  | 1 => 6
  | 2 => 20
  | 3 => 60
  | 4 => 200
  | 5 => 600
  | 6 => 2000
  | 7 => 6000
  | 8 => 20000
  | 9 => 60000
  | _ => 120000

/-- The raw level has held its new value for long enough (R378): `seen` counts, in continuous sampling, the 0.5 µs since the
first sample of it (the last pulsed one, where sampling has changed since), and in pulsed sampling its samples in a
row. -/
def filterPassed (d : DieCh) (seen : Nat) : Bool :=
  let t := filterTime (bitsOf d.cfg 28 4)
  if d.pulsed then decide (max 2 (ceilDiv (2 * t) 125) ≤ seen) else decide (t ≤ seen)

/-- INPUT_FILTER_ACCEPT (R378, R379): the filtered state changes, and an edge triggers while the quality would be GOOD
or SUBST. -/
def inputFilterAccept (s : State) (n : Nat) (level : Bool) (seen : Nat) : State :=
  let d := s.die n
  if chInput d.cfg && d.level != level && filterPassed d seen then
    let s := s.setDie n { d with level := level }
    s.when (decide (fieldQuality s n ≤ 1)) (triggerSource · (.field n level))
  else s

/-- Neither L+ missing nor recovery holds in a channel's group (R389). -/
def groupPresent (s : State) (n : Nat) : Bool :=
  let p := (s.group (n / 8)).phase
  p == .ok || p == .awaiting

/-- L+ of a channel's group is present, so that wire break is evaluated, in recovery too (R380, R389, R394). -/
def lplusPresent (s : State) (n : Nat) : Bool := (s.group (n / 8)).phase != .missing

/-- WIRE_BREAK (R380). -/
def wireBreak (s : State) (n : Nat) : State :=
  let d := s.die n
  if chType d.cfg = 3 ∧ lplusPresent s n ∧ !d.broken then s.setDie n ({ d with broken := true }.note 2) else s

/-- WIRE_BREAK_END (R380). -/
def wireBreakEnd (s : State) (n : Nat) : State :=
  if lplusPresent s n then s.setDie n { s.die n with broken := false } else s

/-- COUNTER_EDGE (R381, R382): a qualified edge of FCHn; the count wraps modulo 2^36, and reaching COMPARE is reported
and triggers SEL 32 + n. -/
def counterEdge (s : State) (n : Nat) (rising : Bool) : State :=
  let d := s.die n
  match d.ctr with
  | w :: _ =>
    if chType d.cfg = 4 ∧ groupPresent s n ∧ bitsOf w 32 2 &&& (if rising then 1 else 2) ≠ 0 then
      let down := match bitsOf w 34 2 with
        | 0 => false
        | 1 => true
        | _ => (s.die (bitsOf w 0 5)).level
      let c := if down then (d.count + 2 ^ 36 - 1) % 2 ^ 36 else (d.count + 1) % 2 ^ 36
      let hit := bitsOf w 30 1 == 1 && c == (d.ctr.getD 2 0).toNat
      let d := { d with count := c }
      let s := s.setDie n (if hit then d.note 1 else d)
      s.when (hit && s.flag R.FIO_STAT_LINK) (triggerSource · (.counter n))
    else s
  | [] => s

/-- The output stages on which short, feed and open load are detected: never in L+ missing or recovery (R389, R394). -/
def detecting (s : State) (n : Nat) : Bool := s.field.configured && chType (s.die n).cfg == 5 && groupPresent s n

/-- THERMAL_CYCLE (R386): one thermal cycle; the TCYC-th latches the channel off. -/
def thermalCycle (s : State) (n : Nat) : State :=
  let d := s.die n
  if detecting s n && d.stage && !d.latched then
    let t := min (d.tcnt + 1) 15
    let s := s.setDie n { d with tcnt := t, ilim := true }
    if chTcyc d.cfg ≤ t then latchOff s n 1 else s
  else s

/-- TCNT_RESET (R386): the channel has stayed out of current limit for 100 ms. -/
def tcntReset (s : State) (n : Nat) : State := s.setDie n { s.die n with tcnt := 0, ilim := false }

/-- GROUP_OVERLOAD (R385): the channel with the largest current is latched off. -/
def groupOverload (s : State) (n : Nat) : State :=
  if detecting s n && (s.die n).stage && !(s.die n).latched then latchOff s n 2 else s

/-- EXTERNAL_FEED (R385, R387, R393): not on a paralleled pair, nor on a twin-wired channel while DRIVE is clear or
within 1.5 ms (48 base ticks) after it is set. -/
def externalFeed (s : State) (n : Nat) : State :=
  let d := s.die n
  let quiet := chWire d.cfg == 1 && (!s.field.frDrive || decide (s.field.driveAge ≤ 48))
  if detecting s n && !d.stage && (pairMates s n).isEmpty && !quiet && !d.feed then
    s.setDie n ({ d with feed := true }.note 3)
  else s

/-- EXTERNAL_FEED_END (R385). -/
def externalFeedEnd (s : State) (n : Nat) : State := s.setDie n { s.die n with feed := false }

/-- OPEN_LOAD (R385). -/
def openLoad (s : State) (n : Nat) : State :=
  let d := s.die n
  if detecting s n && d.stage && bitsOf d.cfg 12 1 == 1 then s.setDie n (d.note 6) else s

/-- LPLUS_LOW (R389). -/
def lplusLow (s : State) (g : Nat) : State :=
  let d := s.group g
  if d.low then s else s.setGroup g { d with low := true, newLow := d.newLow + 1 }

/-- LPLUS_LOW_END (R389). -/
def lplusLowEnd (s : State) (g : Nat) : State := s.setGroup g { s.group g with low := false }

/-- LPLUS_MISSING (R389): the group's outputs are switched off in hardware, its counters stop. -/
def lplusMissing (s : State) (g : Nat) : State :=
  let d := s.group g
  if d.phase == .missing then s
  else
    let s := setSampling (s.setGroup g { d with phase := .missing, newMissing := d.newMissing + 1 })
    State.forEach (List.range 8) (fun i s =>
      let n := 8 * g + i
      let c := { s.die n with stage := false }
      s.setDie n (if c.ctr.isEmpty then c else c.note 7)) s

/-- RECOVERY_BEGIN (R389). -/
def recoveryBegin (s : State) (g : Nat) : State :=
  if (s.group g).phase == .missing then setSampling (s.setGroup g { s.group g with phase := .recovery }) else s

/-- RECOVERY_END (R389): the group awaits acknowledgement, or restores with FIO_XAUTO. -/
def recoveryEnd (s : State) (g : Nat) : State :=
  let d := s.group g
  if d.phase == .recovery then
    let p := if s.getBit R.FIO_XAUTO_AUTO g then LPhase.ok else .awaiting
    setSampling (s.setGroup g { d with phase := p, newRecovered := d.newRecovered + 1 })
  else s

/-- FIELD_ACK (R390): accepted for the groups whose AWAIT bit is set. -/
def fieldAck (s : State) (mask : Nat) : State :=
  let m := mask &&& s.get R.FIO_STAT_AWAIT
  let s := { s with field := { s.field with ackDue := s.field.ackDue ||| m } }
  State.forEach (List.range 4) (fun g s => if m.testBit g then s.record 69 14 g 3 else s) s

/-- LATCH_RESTART (R386): takes effect in the next command frame. -/
def latchRestart (s : State) (mask : Nat) : State :=
  { s with field := { s.field with lackDue := s.field.lackDue ||| mask } }

/-- FRONT_END_TEST (R394, R395): ignored for counters, outputs, and groups in L+ missing or recovery. -/
def frontEndTest (s : State) (mask : Nat) : State :=
  setSampling <| State.forEach (List.range 32) (fun n s =>
    let d := s.die n
    if mask.testBit n && s.field.configured && chInput d.cfg && chType d.cfg != 4 && groupPresent s n then
      s.setDie n { d with testing := true }
    else s) s

/-- TEST_DONE (R395): the tests that run end, those of `fails` with a failure. -/
def testDone (s : State) (fails : Nat) : State :=
  let tested := (List.range 32).filter fun n => (s.die n).testing
  if tested.isEmpty then s
  else
    let s := s.raise R.FIO_EVT_TESTDONE
    setSampling <| State.forEach tested (fun n s =>
      let s := s.setDie n { s.die n with testing := false }
      if fails.testBit n then (chDiag s n 256).journal 12 14 n 0 else s) s

/-- FIELD_COMMAND_FRAME (R14). -/
def execFieldCommandFrame (arrives : Bool) (s : State) : Result :=
  s.answer (if s.powered then fieldCommandFrame s arrives else s)

/-- FIELD_LINK_FALLBACK (R15). -/
def execFieldLinkFallback (s : State) : Result := s.answer (fieldLinkFallback s)

/-- STATUS_FRAME_MISSING (R373). -/
def execStatusFrameMissing (s : State) : Result := s.answer (if s.powered then statusFrameMissing s else s)

/-- DIE_LINK_LOST (R373). -/
def execDieLinkLost (s : State) : Result := s.answer (if s.powered then dieLinkLost s else s)

/-- FIELD_DIE_POWER_UP (R374). -/
def execFieldDiePowerUp (groups : BitVec 4) (s : State) : Result := s.answer (fieldDiePowerUp s groups)

/-- INPUT_FILTER_ACCEPT (R378). -/
def execInputFilterAccept (ch : Fin 32) (raw : RawLevel) (s : State) : Result :=
  s.answer (inputFilterAccept s ch raw.level raw.seen)

/-- WIRE_BREAK (R380). -/
def execWireBreak (ch : Fin 32) (s : State) : Result := s.answer (wireBreak s ch)

/-- WIRE_BREAK_END (R380). -/
def execWireBreakEnd (ch : Fin 32) (s : State) : Result := s.answer (wireBreakEnd s ch)

/-- COUNTER_EDGE (R382). -/
def execCounterEdge (ch : Fin 32) (rising : Bool) (s : State) : Result := s.answer (counterEdge s ch rising)

/-- THERMAL_CYCLE (R386). -/
def execThermalCycle (ch : Fin 32) (s : State) : Result := s.answer (thermalCycle s ch)

/-- TCNT_RESET (R386). -/
def execTcntReset (ch : Fin 32) (s : State) : Result := s.answer (tcntReset s ch)

/-- GROUP_OVERLOAD (R385); the operand is the channel with the largest current of its group. -/
def execGroupOverload (ch : Fin 32) (s : State) : Result := s.answer (groupOverload s ch)

/-- EXTERNAL_FEED (R385). -/
def execExternalFeed (ch : Fin 32) (s : State) : Result := s.answer (externalFeed s ch)

/-- EXTERNAL_FEED_END (R385). -/
def execExternalFeedEnd (ch : Fin 32) (s : State) : Result := s.answer (externalFeedEnd s ch)

/-- OPEN_LOAD (R385). -/
def execOpenLoad (ch : Fin 32) (s : State) : Result := s.answer (openLoad s ch)

/-- LPLUS_LOW (R389). -/
def execLplusLow (group : Fin 4) (s : State) : Result := s.answer (lplusLow s group)

/-- LPLUS_LOW_END (R389). -/
def execLplusLowEnd (group : Fin 4) (s : State) : Result := s.answer (lplusLowEnd s group)

/-- LPLUS_MISSING (R389). -/
def execLplusMissing (group : Fin 4) (s : State) : Result := s.answer (lplusMissing s group)

/-- RECOVERY_BEGIN (R389). -/
def execRecoveryBegin (group : Fin 4) (s : State) : Result := s.answer (recoveryBegin s group)

/-- RECOVERY_END (R389). -/
def execRecoveryEnd (group : Fin 4) (s : State) : Result := s.answer (recoveryEnd s group)

/-- FIELD_ACK (R390). -/
def execFieldAck (mask : BitVec 4) (s : State) : Result := s.answer (if s.powered then fieldAck s mask.toNat else s)

/-- LATCH_RESTART (R386). -/
def execLatchRestart (mask : BitVec 32) (s : State) : Result :=
  s.answer (if s.powered then latchRestart s mask.toNat else s)

/-- FRONT_END_TEST (R395). -/
def execFrontEndTest (mask : BitVec 32) (s : State) : Result :=
  s.answer (if s.powered then frontEndTest s mask.toNat else s)

/-- TEST_DONE (R395). -/
def execTestDone (fails : BitVec 32) (s : State) : Result := s.answer (if s.powered then testDone s fails.toNat else s)

end Sys2Proof.Machine
end

