-- ==== Sys2Proof/Machine/Keeper.lean ====
section
/-!
DEFINITION. Sys2Proof/Machine/Keeper.lean: the keeper's write buffer and wide counters (R498 to R508), and the rows
KEEPER_ABSORB, WIDE_COUNTER_COMMIT, STAGE, COMMIT_GROUP, ADD and KEEPER_VALUE_READ.
-/
namespace Sys2Proof.Machine

/-- Writes that the array had not absorbed are lost: the array's words return, newest first (R499, R506). -/
def keeperLose (s : State) : State :=
  let s := State.forEach s.keeper.buffer.reverse (fun p s => { s with mem := s.mem.wr p.1 p.2 }) s
  { s with keeper := { s.keeper with buffer := [], commits := [] } }

/-- Every accepted write absorbed (R499). -/
def keeperFlush (s : State) : State :=
  { s with keeper := { s.keeper with buffer := [] } }.set R.KPR_STAT_BUF 0

/-- The commit word of a group of `n` counters at `a` (R501). -/
def groupWordAt (a n : Nat) : Nat := a + 4 * n

/-- The first word of slot A (false) or B (true) of a group (R501). -/
def groupSlot (a n : Nat) (b : Bool) : Nat := if b then a + 2 * n else a

/-- SEL of a group: the slot that holds the committed values. -/
def groupSel (s : State) (a n : Nat) : Bool := (s.word (groupWordAt a n)).getLsbD 35

/-- The words of the selected slot. -/
def groupWords (s : State) (a n : Nat) : List Word := s.words (groupSlot a n (groupSel s a n)) (2 * n)

/-- The selected slot passes its CRC (R502). -/
def groupGood (s : State) (a n : Nat) : Bool :=
  crc32c (packWords (groupWords s a n)) == bitsOf (s.word (groupWordAt a n)) 0 32

/-- The committed value of counter `i`: the selected slot's, whatever its CRC (R502). -/
def groupValue (s : State) (a n i : Nat) : Nat :=
  let b := groupSlot a n (groupSel s a n) + 2 * i
  (s.word b).toNat * 2 ^ 36 + (s.word (b + 1)).toNat

/-- The words of a slot for a list of 72-bit values. -/
def slotWords (vs : List Nat) : List Word :=
  vs.flatMap fun v => [BitVec.ofNat 36 (v / 2 ^ 36), BitVec.ofNat 36 v]

/-- The new values of a commit: counters that it does not name keep their committed value. -/
def commitValues (s : State) (c : GroupCommit) : List Nat :=
  (List.range c.count).map fun i =>
    c.changes.foldl (fun v ch =>
      if ch.1 = i then (if ch.2.1 then (v + ch.2.2) % 2 ^ 72 else ch.2.2) else v) (groupValue s c.addr c.count i)

/-- A commit carried out: the slot that SEL does not select is written, then the commit word with SEL inverted and the
new CRC (R501). The words go through the keeper's buffer like any write. -/
def groupWrite (s : State) (c : GroupCommit) : State :=
  let sel := !groupSel s c.addr c.count
  let ws := slotWords (commitValues s c)
  let s := s.storeList (groupSlot c.addr c.count sel) ws
  s.store (groupWordAt c.addr c.count) (BitVec.ofNat 36 (bitNat sel * 2 ^ 35 + crc32c (packWords ws)))

/-- A commit begun (R501): KPR_STAT.BUSY until it completes; none begins during a deferral (R58), but those of step 6 of a
power-fail sequence, which ignores the deferred reset (R66). -/
def groupBegin (s : State) (c : GroupCommit) : State :=
  if s.flag R.SYS_STATE_DEFER && s.power.pfStep == 0 then s
  else { s with keeper := { s.keeper with commits := s.keeper.commits ++ [c] } }.raise R.KPR_STAT_BUSY

/-- The oldest commit completes; its port reads done (R501, R508). -/
def groupFinish (s : State) : State :=
  match s.keeper.commits with
  | [] => s
  | c :: rest =>
    let s := groupWrite s c
    let s := { s with keeper := { s.keeper with commits := rest } }
    let s := s.when rest.isEmpty (·.set R.KPR_STAT_BUSY 0)
    match c.port with
    | some p => (s.set (R.KPR_PCMD_STATUS p) 2).portDone p
    | none => s

/-- Every commit in progress carried out, `n` bounding them (R65 step 6). -/
def groupFinishAll : Nat → State → State
  | 0, s => s
  | n + 1, s => if s.keeper.commits.isEmpty then s else groupFinishAll n (groupFinish s)

/-- The address and size of the group that a port selects: a program group of STRUCT, a MTR group or a PQC group
(R498, R501, R502). -/
def portGroup (s : State) (p : Nat) : Option (Nat × Nat) :=
  let g := s.get (R.KPR_PSEL_GROUP p)
  match s.get (R.KPR_PSEL_KIND p) with
  | 0 => (s.keeper.groups.find? (·.group == g)).map fun c => (c.addr, c.count)
  | 1 => if g < 24 then some (0x404000 + 40 * g, 8) else none
  | _ => if g < 64 then some (0x404400 + 8 * g, 1) else none

/-- The value that a port has written to stage or add (R508). -/
def portValue (s : State) (p : Nat) : Nat :=
  s.get (R.KPR_PVH_HIGH p) * 2 ^ 36 + s.get (R.KPR_PVL_LOW p)

/-- A port command ended with a status and an error. -/
def portEnd (s : State) (p status err : Nat) : State :=
  let s := (s.set (R.KPR_PCMD_STATUS p) status).set (R.KPR_PCMD_ERR p) err
  s.when (status = 2 ∨ status = 5) (·.portDone p)

/-- A keeper port command of a code (R508, R612): ignored while one is pending; an INDEX at or above n, or a group of
metering, ends with failed and PARAM. -/
def keeperCommand (s : State) (p code : Nat) (run : Nat → Nat → State → State) : State :=
  if s.get (R.KPR_PCMD_STATUS p) = 1 then s.rsvd p (R.KPR_PCMD_CODE p).addr
  else
    let s := (s.set (R.KPR_PCMD_CODE p) code).set (R.KPR_PCMD_ERR p) 0
    match portGroup s p with
    | some (a, n) =>
      if s.get (R.KPR_PSEL_KIND p) ≠ 0 ∨ n ≤ s.get (R.KPR_PSEL_INDEX p) then portEnd s p 5 1
      else run a n s
    | none => portEnd s p 5 1

/-- Where COMMIT and ADD are not admitted (R508): refused: role in STANDBY, refused: state in BOOT, LOAD and OFF and
from step 2 of the power-fail sequence. -/
def keeperRefusal (s : State) : Option Nat :=
  if s.dev == .standby then some 6
  else if s.dev == .boot || s.dev == .load || s.dev == .off || decide (0 < s.power.pfStep) then some 3
  else none

/-- KEEPER_ABSORB (R499): the array absorbs one buffered write. -/
def execKeeperAbsorb (s : State) : Result :=
  s.answer (if s.powered && !s.keeper.buffer.isEmpty then keeperAbsorbOne s else s)

/-- WIDE_COUNTER_COMMIT (R501): the oldest commit in progress completes. -/
def execWideCounterCommit (s : State) : Result := s.answer (if s.powered then groupFinish s else s)

/-- STAGE (R508). -/
def keeperStage (s : State) (p : Nat) : State :=
  keeperCommand s p 1 fun _ _ s =>
    let i := s.get (R.KPR_PSEL_INDEX p)
    let rest := s.keeper.staged.filter fun e => !(e.1 == p && e.2.1 == i)
    let s := { s with keeper := { s.keeper with staged := rest ++ [(p, i, portValue s p)] } }
    portEnd s p 2 0

/-- A keeper command that changes counters: refused where it is not admitted (R508). -/
def keeperAdmit (s : State) (p code : Nat) (run : Nat → Nat → State → State) : State :=
  match keeperRefusal s with
  | some st =>
    if s.get (R.KPR_PCMD_STATUS p) = 1 then s.rsvd p (R.KPR_PCMD_CODE p).addr
    else portEnd (s.set (R.KPR_PCMD_CODE p) code) p st 0
  | none => keeperCommand s p code run

/-- COMMIT (R508): staged counters take their staged values, the others keep their committed values. -/
def keeperCommit (s : State) (p : Nat) : State :=
  keeperAdmit s p 2 fun a n s =>
    let mine := s.keeper.staged.filter (·.1 == p)
    let s := { s with keeper := { s.keeper with staged := s.keeper.staged.filter (·.1 != p) } }
    let s := groupBegin s ⟨a, n, (mine.filter (·.2.1 < n)).map fun e => (e.2.1, false, e.2.2), some p⟩
    portEnd s p 1 0

/-- ADD (R508): the value is added modulo 2^72 to counter INDEX, and the group commits. -/
def keeperAdd (s : State) (p : Nat) : State :=
  keeperAdmit s p 3 fun a n s =>
    let s := groupBegin s ⟨a, n, [(s.get (R.KPR_PSEL_INDEX p), true, portValue s p)], some p⟩
    portEnd s p 1 0

/-- STAGE (R508). -/
def execStage (port : Port) (s : State) : Result := s.serve port fun s => keeperStage s port

/-- COMMIT (R508). -/
def execCommitGroup (port : Port) (s : State) : Result := s.serve port fun s => keeperCommit s port

/-- ADD (R508). -/
def execAdd (port : Port) (s : State) : Result := s.serve port fun s => keeperAdd s port

/-- What a read of KPR_PVL returns, and the state after it (R502, R503): bits [35:0] of the committed value; the upper
word is latched; a slot that fails its CRC sets WCBAD, writes a record and shows in ERR. Where no group or counter is
selected the manual gives no value: it is free (log 2). -/
def readKeeperValue (s : State) (p : Nat) : Word × State :=
  let i := s.get (R.KPR_PSEL_INDEX p)
  let (v, s) :=
    match portGroup s p with
    | some (a, n) =>
      if i < n then
        let s' := if groupGood s a n then s
          else ((s.raise R.KPR_EVT_WCBAD).set (R.KPR_PCMD_ERR p) 2).journal 17 23 (groupWordAt a n) 0
        (groupValue s a n i, s')
      else s.draw
    | none => s.draw
  let l := s.keeper.latched.setIfInBounds p (BitVec.ofNat 36 (v / 2 ^ 36))
  (BitVec.ofNat 36 v, { s with keeper := { s.keeper with latched := l } })

/-- KEEPER_VALUE_READ (R503). -/
def execKeeperValueRead (port : Port) (s : State) : Result := s.serve port fun s => (readKeeperValue s port).2

end Sys2Proof.Machine
end

