-- ==== Sys2Proof/Machine/Metering.lean ====
section
/-!
DEFINITION. Sys2Proof/Machine/Metering.lean: the metering engine (R398 to R429), its pulse-quantity channels, and the
status frame of the field die, with which a pulse-quantity channel takes its counter's delta (R373, R422).
-/
namespace Sys2Proof.Machine

/-- The engine runs (R423). -/
def State.metering (s : State) : Bool := s.powered && s.flag R.MTR_STAT_RUN

/-- A ratio as F36, rounded to nearest even (R193). -/
def fRatio (n : Int) (d : Nat) : Word :=
  if n = 0 ∨ d = 0 then fZero false else (fRound (decide (n < 0)) (n.natAbs * 2 ^ 280) d).val

/-- The square root of a number of 10^−12 units as F36. -/
def fRoot (n : Nat) : Word := fRatio (natSqrt (n * 2 ^ 128) 160 0) (2 ^ 64 * 10 ^ 6)

/-- Whether a square in 10^−12 units lies below the square of `pct` per cent of an F36 value. -/
def belowPct (sq : Nat) (u : Word) (pct : Nat) : Bool :=
  decide (sq * 10 ^ 4 * 2 ^ 560 < pct * pct * (fMag u * fMag u) * 10 ^ 12)

/-- Whether a square in 10^−12 units lies above the square of `pct` per cent of an F36 value. -/
def abovePct (sq : Nat) (u : Word) (pct : Nat) : Bool :=
  decide (pct * pct * (fMag u * fMag u) * 10 ^ 12 < sq * 10 ^ 4 * 2 ^ 560)

/-- The root of a square in 10^−12 units, in 0.01 % of an F36 value. -/
def pctOf (sq : Nat) (u : Word) : Nat :=
  if fMag u = 0 then 0 else natSqrt (sq * 10 ^ 8 * 2 ^ 560 / (fMag u * fMag u * 10 ^ 12)) 40 0

/-- A meter channel's class words (R404). -/
def mtrWords (s : State) (m : Nat) : List Word := (s.channel 4 m).elim [] (·.words)

def mtrNet (w : List Word) : Nat := bitsOf (w.getD 0 0) 33 3

/-- The phases or elements that a network has (R403). -/
def mtrPhases (w : List Word) : List Nat :=
  match mtrNet w with
  | 1 => [0]
  | 2 => [0, 2]
  | 3 => [0, 1, 2]
  | _ => []

/-- The inputs that a channel uses, 31 apart (R404). -/
def mtrInputs (w : List Word) : List Nat :=
  ([28, 23, 18, 13, 8, 3].map (fun lo => bitsOf (w.getD 0 0) lo 5) ++ [bitsOf (w.getD 1 0) 31 5]).filter (· < 24)

/-- The channel measures the neutral current (R403, R404). -/
def mtrNeutral (w : List Word) : Bool := mtrNet w != 2 && bitsOf (w.getD 1 0) 31 5 < 24

def mtrUdin (w : List Word) : Word := w.getD 2 0

/-- The nominal period in nanoseconds (R404 FNOM). -/
def mtrNominal (w : List Word) : Nat := if bitsOf (w.getD 1 0) 18 2 = 1 then 16666667 else 20000000

/-- One unit of the channel in 10^−21 J: 1 µWh to 1 kWh. -/
def mtrUnit (w : List Word) : Nat := 36 * 10 ^ 17 * 1000 ^ bitsOf (w.getD 1 0) 28 3

/-- The demand interval in minutes (R415); 0 for none. -/
def dintMinutes (code : Nat) : Nat := [0, 1, 2, 3, 5, 10, 15, 20, 30, 60].getD code 0

/-- The METER groups of the keeper (R498). -/
def mtrGroup (m : Nat) : Nat := 0x404000 + 40 * m
def pqcGroup (q : Nat) : Nat := 0x404400 + 8 * q

/-- A meter channel's engine state. -/
def State.meterCh (s : State) (m : Nat) : Option MeterCh := s.meter.chs.find? (·.idx == m)

/-- A meter channel's engine state replaced. -/
def State.setMeterCh (s : State) (c : MeterCh) : State :=
  { s with meter := { s.meter with chs := updateFirst (·.idx == c.idx) (fun _ => c) s.meter.chs } }

/-- A pulse-quantity channel's engine state replaced. -/
def State.setPqc (s : State) (c : PqcCh) : State :=
  { s with meter := { s.meter with pqcs := updateFirst (·.idx == c.idx) (fun _ => c) s.meter.pqcs } }

/-- A meter channel that begins: its totals continue those of the keeper (R412, R414). -/
def MeterCh.begin (idx : Nat) (totals : List Nat) : MeterCh :=
  ⟨idx, totals, List.replicate 8 0, List.replicate 24 0, none, 0, false, [none, none, none], [none, none, none], none,
   0, 0, 0, 0, totals, 0, 0, false, false, false, true⟩

/-- A pulse-quantity channel that begins. -/
def PqcCh.begin (idx total count : Nat) : PqcCh :=
  ⟨idx, total, count, false, 0, 0, fZero false, fZero false, total, 0, false, false, true⟩

/-- A commit of a meter channel's accumulators as one group (R414). -/
def mtrCommit (s : State) (c : MeterCh) : State :=
  groupBegin s ⟨mtrGroup c.idx, 8, c.totals.zipIdx.map (fun p => (p.2, false, p.1)), none⟩

/-- A commit of a pulse-quantity total. -/
def pqcCommit (s : State) (c : PqcCh) : State := groupBegin s ⟨pqcGroup c.idx, 1, [(0, false, c.total)], none⟩

/-- Every total committed (R414), and the grain of it kept. -/
def meterCommitAll (s : State) : State :=
  let s := State.forEach s.meter.chs (fun c s => mtrCommit s c) s
  let s := State.forEach s.meter.pqcs (fun c s => pqcCommit s c) s
  { s with meter := { s.meter with lastCommit := some (s.get R.WDG_LCLK_GRAIN) } }

/-- A MTR channel attached to the engine at LOAD, CREATE or an online change (R404 CLR, R424). -/
def mtrAttach (s : State) (m : Nat) (clear : Bool) : State :=
  let totals := if clear then List.replicate 8 0 else (List.range 8).map (groupValue s (mtrGroup m) 8)
  let c := MeterCh.begin m totals
  let s := { s with meter := { s.meter with chs := (s.meter.chs.filter fun x : MeterCh => x.idx != m) ++ [c] } }
  s.when clear (mtrCommit · c)

/-- A PQC channel attached to the engine. -/
def pqcAttach (s : State) (q : Nat) (clear : Bool) : State :=
  let total := if clear then 0 else groupValue s (pqcGroup q) 1 0
  let w := (s.channel 5 q).elim 0 (·.words.getD 0 0)
  let c := PqcCh.begin q total (s.get (R.FIO_CCNT_COUNT (bitsOf w 28 5)))
  let s := { s with meter := { s.meter with pqcs := (s.meter.pqcs.filter fun x : PqcCh => x.idx != q) ++ [c] } }
  s.when clear (pqcCommit · c)

/-- A meter channel leaves the engine; its totals stay in the keeper (R424). -/
def mtrDetach (s : State) (m : Nat) : State :=
  let s := match s.meterCh m with
    | some c => mtrCommit s c
    | none => s
  { s with meter := { s.meter with chs := s.meter.chs.filter fun x => x.idx != m } }

/-- A pulse-quantity channel leaves the engine. -/
def pqcDetach (s : State) (q : Nat) : State :=
  let s := match s.meter.pqcs.find? (·.idx == q) with
    | some c => pqcCommit s c
    | none => s
  { s with meter := { s.meter with pqcs := s.meter.pqcs.filter fun x => x.idx != q } }

/-- MTR_CLK's EN bits as CLKON shows them while the engine runs. -/
def clkOn (s : State) : Nat :=
  bitNat (s.flag R.MTR_CLK_EN0) + 2 * bitNat (s.flag R.MTR_CLK_EN1) + 4 * bitNat (s.flag R.MTR_CLK_EN2) +
    8 * bitNat (s.flag R.MTR_CLK_EN3)

/-- METER_START (R414, R423): MTR_CLK and the input registers from the CHANNEL gathering, totals recalled, the enabled
clocks started; a gap since the last commit is recorded. -/
def meterStart (s : State) : State :=
  match s.folio.content with
  | none => s
  | some c =>
    let mine := c.settings.filter fun p => decide (0xC0F000 ≤ p.1) && decide (p.1 < 0xC10000)
    let s := State.forEach mine (fun p s => s.setting p.1 p.2) s
    let s := { s with meter := { s.meter with chs := [], pqcs := [], fifo := [] } }
    let s := State.forEach (s.handles.channels.filter (·.cls == 4)) (fun ch s => mtrAttach s ch.idx false) s
    let s := State.forEach (s.handles.channels.filter (·.cls == 5)) (fun ch s => pqcAttach s ch.idx false) s
    let s := (s.raise R.MTR_STAT_RUN).set R.MTR_STAT_CLKON (clkOn s)
    match s.meter.lastCommit with
    | none => s
    | some g =>
      let grains := (s.get R.WDG_LCLK_GRAIN + 2 ^ 36 - g) % 2 ^ 36
      let s := { s with meter := { s.meter with
        chs := s.meter.chs.map (fun c : MeterCh => { c with gap := true }),
        pqcs := s.meter.pqcs.map (fun c : PqcCh => { c with gap := true }) } }
      (s.raise R.MTR_EVT_GAP).journal 18 15 (min (grains * 1000 / 32768) (2 ^ 36 - 1)) 0

/-- The engine stopped (R423, R424): its clocks low, what it has not committed lost. -/
def meterStop (s : State) : State :=
  let s := { s with meter := { s.meter with chs := [], pqcs := [] } }
  (s.set R.MTR_STAT_RUN 0).set R.MTR_STAT_CLKON 0

/-- The clock of an input runs. -/
def inputClocked (s : State) (i : Nat) : Bool := s.metering && s.getBit R.MTR_STAT_CLKON (i / 6)

/-- MODULATOR_SAMPLE (R400 to R402): a sample of input `i`, as a fraction of full scale, and whether the period was
overranged. Sign and offset are exact; the high-pass filter, the coil integrator and the delay, whose arithmetic the
manual bounds and does not state, give a free value (log 12); SCALE multiplies. -/
def modulatorSample (s : State) (i : Nat) (raw : Word) (ovr : Bool) : State :=
  if !inputClocked s i then s
  else
    let s := s.setFlag (R.MTR_INST_OVR i) ovr
    let s := s.when ovr fun s =>
      let s := (s.add (R.MTR_INST_OVRCNT i) 1).raise R.MTR_EVT_OVR
      { s with meter := { s.meter with
        chs := s.meter.chs.map fun c => if (mtrInputs (mtrWords s c.idx)).contains i then { c with ovr := true } else c } }
    let x := if s.flag (R.MTR_INCFG_INV i) then -raw.toInt else raw.toInt
    let x := x - s.getInt (R.MTR_INOFS_OFS i)
    let filtered := s.flag (R.MTR_INCFG_HPF i) || s.get (R.MTR_INCFG_KIND i) == 4 || s.flag (R.MTR_INCFG_PHC i)
    let (f, s) := if filtered then s.draw else (0, s)
    let x := if filtered then signedOf 36 f else x
    let v := if s.flag (R.MTR_INST_FAULT i) then fZero false
      else (fMul (fOfInt x 35).val (BitVec.ofNat 36 (s.get (R.MTR_INSCL_SCALE i)))).val
    { s with meter := { s.meter with samples := s.meter.samples.setIfInBounds i v } }

/-- MODULATOR_INPUT_FAULT (R400, R419). -/
def modulatorFault (s : State) (i : Nat) : State :=
  if inputClocked s i && !s.flag (R.MTR_INST_FAULT i) then
    let s := (s.raise (R.MTR_INST_FAULT i)).putBit R.MTR_STAT_INFLT i true
    let s := s.raise R.MTR_EVT_INFLT
    State.forEach s.meter.chs (fun c s =>
      if (mtrInputs (mtrWords s c.idx)).contains i then triggerSource s (.meter (16 * c.idx + 9)) else s) s
  else s

/-- MODULATOR_FAULT_END (R400). -/
def modulatorFaultEnd (s : State) (i : Nat) : State :=
  (s.set (R.MTR_INST_FAULT i) 0).putBit R.MTR_STAT_INFLT i false

/-- The test FIFO shown in MTR_TFIFO (R411). -/
def tfifoShow (s : State) : State :=
  match s.meter.fifo with
  | [] => (s.set R.MTR_TFIFO_VALID 0).set R.MTR_TFIFO_TIME 0
  | t :: _ => (s.set R.MTR_TFIFO_VALID 1).set R.MTR_TFIFO_TIME t

/-- Test pulses of a cycle (R411): the accumulator went from `old` by `inc`, both in 10^−21 J, within the `t` ns that end
now; each crossing of a multiple of TK is a pulse at its interpolated instant. -/
def testPulses (s : State) (unit old inc t : Nat) : State :=
  let k := s.get R.MTR_TK_K * unit
  let n := (old + inc) / k - old / k
  let room := 64 - s.meter.fifo.length
  let start := s.now + 2 ^ 72 - t
  let times := (List.range (min n room)).map fun j => (start + t * ((old / k + 1 + j) * k - old) / inc) % 2 ^ 35
  let s := { s with meter := { s.meter with fifo := s.meter.fifo ++ times } }
  let s := (s.add R.MTR_TCNT_COUNT n).when (decide (room < n)) (·.raise R.MTR_EVT_TOVF)
  tfifoShow s

/-- What a cycle adds to the eight accumulators, in 10^−21 J (R409), from P, Q and S in 10^−12 W and T in ns. -/
def energies (p q : Int) (sv t : Nat) : List Nat :=
  let a := p.natAbs * t
  let r := q.natAbs * t
  let up := decide (0 ≤ p)
  let pos := decide (0 ≤ q)
  [if up then a else 0, if up then 0 else a,
   if up && pos then r else 0, if !up && pos then r else 0, if !up && !pos then r else 0, if up && !pos then r else 0,
   if up then sv * t else 0, if up then 0 else sv * t]

/-- One accumulator advanced (R412): total, residue, and whether the total wrapped. -/
def accStep (unit total residue inc : Nat) : Nat × Nat × Bool :=
  let v := residue + inc
  let t := total + v / unit
  (t % 2 ^ 72, v % unit, decide (2 ^ 72 ≤ t))

/-- The cycle's energies accumulated, with test pulses and wraps (R409, R411, R412). -/
def accumulate (s : State) (c : MeterCh) (w : List Word) (es : List Nat) (t : Nat) : State × MeterCh :=
  let unit := mtrUnit w
  let rs := (List.range 8).map fun i => accStep unit (c.totals.getD i 0) (c.residues.getD i 0) (es.getD i 0)
  let wraps := (List.range 8).foldl (fun m i => if (rs.getD i (0, 0, false)).2.2 then m + 2 ^ i else m) 0
  let s := s.when (decide (0 < wraps)) fun s => (s.orBits (R.MTR_CEVT_WRAP c.idx) wraps).raise R.MTR_EVT_WRAP
  let a := s.get R.MTR_TSEL_ACC
  let test := s.flag R.MTR_TSEL_EN && s.get R.MTR_TSEL_CH == c.idx && decide (0 < s.get R.MTR_TK_K) &&
    decide (0 < es.getD a 0)
  let s := s.when test (testPulses · unit (c.totals.getD a 0 * unit + c.residues.getD a 0) (es.getD a 0) t)
  (s, { c with totals := rs.map (·.1), residues := rs.map (·.2.1) })

/-- A bit of MTR_CEVTm.EV, MTR_EVT.PQ and the trigger of a supply event (R417 to R419). -/
def pqRaise (s : State) (m bit sel : Nat) : State :=
  triggerSource ((s.putBit (R.MTR_CEVT_EV m) bit true).raise R.MTR_EVT_PQ) (.meter (16 * m + sel))

/-- The end of a supply event: its record (R417), its report and trigger. -/
def pqEnd (s : State) (m phases kind sel : Nat) (u : Word) (r : PqRun) : State :=
  let s := s.record 70 15 (m % 64 * 2 ^ 30 + phases * 2 ^ 27 + kind * 2 ^ 24 + min r.halves (2 ^ 24 - 1)) (pctOf r.extreme u)
  triggerSource (s.raise R.MTR_EVT_PQ) (.meter (16 * m + sel))

/-- One Urms(1/2) of one phase judged for sag and swell (R417). -/
def pqPhase (w : List Word) (p sq : Nat) (sc : State × MeterCh) : State × MeterCh :=
  let (s, c) := sc
  let u := mtrUdin w
  let sagPct := bitsOf (w.getD 5 0) 28 8
  let swPct := bitsOf (w.getD 5 0) 20 8
  let hy := bitsOf (w.getD 5 0) 8 4
  let (s, c) := match c.sag.getD p none with
    | some r =>
      if belowPct sq u (sagPct + hy) then
        (s, { c with sag := c.sag.set p (some ⟨r.halves + 1, min r.extreme sq⟩) })
      else (pqEnd s c.idx (2 ^ p) 1 1 u r, { c with sag := c.sag.set p none })
    | none =>
      if belowPct sq u sagPct && c.intr.isNone then (pqRaise s c.idx 2 0, { c with sag := c.sag.set p (some ⟨1, sq⟩) })
      else (s, c)
  match c.swell.getD p none with
  | some r =>
    if abovePct sq u (swPct - hy) then (s, { c with swell := c.swell.set p (some ⟨r.halves + 1, max r.extreme sq⟩) })
    else (pqEnd s c.idx (2 ^ p) 2 3 u r, { c with swell := c.swell.set p none })
  | none =>
    if abovePct sq u swPct then (pqRaise s c.idx 3 2, { c with swell := c.swell.set p (some ⟨1, sq⟩) }) else (s, c)

/-- The Urms(1/2) values of one zero crossing judged (R417): the interruption first, then each phase. A sag that runs
when an interruption begins goes into it (R417; DEDUCED, log 13). -/
def pqHalf (w : List Word) (hs : List Nat) (sc : State × MeterCh) : State × MeterCh :=
  let (s, c) := sc
  let u := mtrUdin w
  let ps := mtrPhases w
  let inPct := bitsOf (w.getD 5 0) 12 8
  let hy := bitsOf (w.getD 5 0) 8 4
  let low := ps.foldl (fun m p => min m (hs.getD p 0)) (hs.getD 0 0)
  let mask := ps.foldl (fun m p => m + 2 ^ p) 0
  let (s, c) := match c.intr with
    | some r =>
      if ps.all fun p => belowPct (hs.getD p 0) u (inPct + hy) then
        (s, { c with intr := some ⟨r.halves + 1, min r.extreme low⟩ })
      else (pqEnd s c.idx mask 3 5 u r, { c with intr := none })
    | none =>
      if !ps.isEmpty && ps.all fun p => belowPct (hs.getD p 0) u inPct then
        (pqRaise s c.idx 4 4, { c with intr := some ⟨1, low⟩, sag := [none, none, none] })
      else (s, c)
  ps.foldl (fun sc p => pqPhase w p (hs.getD p 0) sc) (s, c)

/-- Phase sequence and missing neutral (R418). -/
def pqWiring (w : List Word) (cm : CycleMeans) (sc : State × MeterCh) : State × MeterCh :=
  let (s, c) := sc
  let m := c.idx
  let w1 := w.getD 1 0
  let (s, c) :=
    if bitsOf w1 22 1 = 1 ∧ mtrNet w ≠ 1 then
      let rev := if cm.reversed then c.revRun + 1 else 0
      let ok := if cm.reversed then 0 else c.seqRun + 1
      let s := s.when (rev == 10 && !s.flag (R.MTR_CST_REV m)) fun s =>
        pqRaise ((s.raise (R.MTR_CST_REV m)).record 71 15 m 1) m 5 6
      (s.when (decide (10 ≤ ok)) (·.set (R.MTR_CST_REV m) 0), { c with revRun := rev, seqRun := ok })
    else (s, c)
  if bitsOf w1 21 1 = 1 ∧ mtrNet w = 3 then
    let high := abovePct cm.displaced (mtrUdin w) (bitsOf (w.getD 6 0) 28 8)
    let low := belowPct cm.displaced (mtrUdin w) (bitsOf (w.getD 6 0) 28 8)
    let dead := (mtrPhases w).any fun p => belowPct (cm.vv.getD p 0) (mtrUdin w) (bitsOf (w.getD 5 0) 12 8)
    let disp := if high && !dead then c.dispRun + 1 else 0
    let ok := if low then c.neutralRun + 1 else 0
    let s := s.when (disp == 10 && !s.flag (R.MTR_CST_MISSN m)) fun s =>
      pqRaise ((s.raise (R.MTR_CST_MISSN m)).record 71 15 m 2) m 6 7
    (s.when (decide (10 ≤ ok)) (·.set (R.MTR_CST_MISSN m) 0), { c with dispRun := disp, neutralRun := ok })
  else (s, c)

/-- A mask of the phases with a run in progress. -/
def runMask (rs : List (Option PqRun)) : Nat :=
  (List.range 3).foldl (fun m p => if (rs.getD p none).isSome then m + 2 ^ p else m) 0

/-- MTR_CSTm, MTR_CFREQm and MTR_CCYCm after a cycle (R427). -/
def cstShow (s : State) (c : MeterCh) (p q : Int) (noLoad noref : Bool) (freq : Word) : State :=
  let m := c.idx
  let quad := if 0 ≤ p then (if 0 ≤ q then 0 else 3) else (if 0 ≤ q then 1 else 2)
  let s := s.when (noLoad && !s.flag (R.MTR_CST_CREEP m)) (·.putBit (R.MTR_CEVT_EV m) 1 true)
  let s := s.when (noref && !s.flag (R.MTR_CST_NOREF m)) fun s =>
    (s.putBit (R.MTR_CEVT_EV m) 0 true).raise R.MTR_EVT_NOREF
  let s := ((s.set (R.MTR_CST_QUAD m) quad).setFlag (R.MTR_CST_CREEP m) noLoad).setFlag (R.MTR_CST_NOREF m) noref
  let s := ((s.setFlag (R.MTR_CST_OVR m) c.ovr).set (R.MTR_CST_SAG m) (runMask c.sag)).set (R.MTR_CST_SWELL m) (runMask c.swell)
  let s := (s.setFlag (R.MTR_CST_INTR m) c.intr.isSome).set (R.MTR_CFREQ_FREQ m) freq.toNat
  s.add (R.MTR_CCYC_COUNT m) 1

/-- LINE_CYCLE_END (R406 to R412, R417 to R420): the quantities of a line cycle of channel `m`. -/
def lineCycleEnd (s : State) (m : Nat) (cm : CycleMeans) : State :=
  match s.meterCh m with
  | none => s
  | some c =>
    let w := mtrWords s m
    let ps := mtrPhases w
    let bad := if decide (14290000 ≤ cm.period) && decide (cm.period ≤ 25000000) then 0 else c.badPeriods + 1
    let noref := belowPct (cm.vv.getD 0 0) (mtrUdin w) 10 || decide (3 ≤ bad)
    let t := if noref then mtrNominal w else cm.period
    let freq := if noref then fRatio (if bitsOf (w.getD 1 0) 18 2 = 1 then 60 else 50) 1 else fRatio 1000000000 t
    let p : Int := (ps.map fun i => cm.vi.getD i 0).sum
    let q : Int := (ps.map fun i => cm.vq.getD i 0).sum
    let sv := natSqrt (p.natAbs ^ 2 + q.natAbs ^ 2) 120 0
    let startI := w.getD 3 0
    let creepP := w.getD 4 0
    let noLoad := (ps.all fun i => decide (cm.ii.getD i 0 * 2 ^ 560 < fMag startI * fMag startI * 10 ^ 12)) ||
      decide (p.natAbs * 2 ^ 280 < fMag creepP * 10 ^ 12)
    let (s, c) := if noLoad then (s, c) else accumulate s c w (energies p q sv t) t
    let (s, c) := if bitsOf (w.getD 1 0) 23 1 = 1 then cm.halves.foldl (fun sc h => pqHalf w h sc) (s, c) else (s, c)
    let (s, c) := pqWiring w cm (s, c)
    let s := cstShow s c p q noLoad noref freq
    let per (xs : List Nat) : List Word := [0, 1, 2].map fun i => if ps.contains i then fRoot (xs.getD i 0) else fZero false
    let pf := if sv = 0 then fRatio 1 1 else fRatio p sv
    let image := [fRatio p (10 ^ 12), fRatio q (10 ^ 12), fRatio sv (10 ^ 12), pf, freq] ++ per cm.vv ++ per cm.ii ++
      [if mtrNeutral w then fRoot cm.nn else fZero false] ++ c.totals.map (fun v => BitVec.ofNat 36 v) ++
      [s.reg (R.MTR_CST_QUAD m).addr, c.image.getD 21 0, c.image.getD 22 0, s.reg (R.MTR_CCYC_COUNT m).addr]
    let quad := s.get (R.MTR_CST_QUAD m)
    s.setMeterCh { c with image := image, cycleAt := some s.time.loc, badPeriods := bad, ovr := false,
                          meteredNs := c.meteredNs + t, qmask := c.qmask ||| 2 ^ quad, creep := c.creep || noLoad }

/-- A demand record written to the next slot of the demand log (R504, R505). -/
def demandWrite (s : State) (rec : List Word) : State :=
  let seq := s.keeper.demandSeq
  let a := 0x405000 + 16 * (seq % 3072)
  let w0 := BitVec.ofNat 36 seq
  let crc := BitVec.ofNat 36 (crc32c (packWords (w0 :: rec)))
  let s := s.storeList (a + 2) rec
  let s := (s.store a w0).store (a + 1) crc
  let next := (seq + 1) % 2 ^ 36
  { s with keeper := { s.keeper with demandSeq := next } }.set R.KPR_DSEQ_SEQ next

/-- A delta of two totals modulo 2^72, held to 2^36 − 1, and whether it was (R416). -/
def demandDelta (old new : Nat) : Nat × Bool :=
  let d := (new + 2 ^ 72 - old) % 2 ^ 72
  (min d (2 ^ 36 - 1), decide (2 ^ 36 ≤ d))

/-- Word 0 of a demand record (R416). -/
def demandHead (idx : Nat) (pqc : Bool) (qmask : Nat) (rev creep tstep gap part sat : Bool) : Word :=
  BitVec.ofNat 36 (idx % 64 * 2 ^ 30 + bitNat pqc * 2 ^ 29 + qmask % 16 * 2 ^ 20 + bitNat rev * 2 ^ 19 + bitNat creep * 2 ^ 18 +
    bitNat tstep * 2 ^ 17 + bitNat gap * 2 ^ 16 + bitNat part * 2 ^ 15 + bitNat sat * 2 ^ 14)

/-- Words 1 and 2 of a demand record: the calendar's seconds since 2000, and the metered milliseconds. -/
def demandTail (s : State) (ns : Nat) : List Word :=
  [wordOfInt (calNanos s / 1000000000), BitVec.ofNat 36 (ns / 1000000)]

/-- The end of a MTR channel's demand interval (R415, R416). -/
def mtrIntervalEnd (s : State) (m : Nat) : State :=
  match s.meterCh m with
  | none => s
  | some c =>
    let w := mtrWords s m
    let mins := dintMinutes (bitsOf (w.getD 1 0) 24 4)
    if mins = 0 then s
    else
      let ds := (List.range 8).map fun i => demandDelta (c.begins.getD i 0) (c.totals.getD i 0)
      let d (i : Nat) : Nat := (ds.getD i (0, false)).1
      let head := demandHead m false c.qmask (decide (0 < d 0) && decide (0 < d 1)) c.creep c.tstep c.gap c.part
        (ds.any (·.2))
      let rec' := [head] ++ demandTail s c.meteredNs ++ ds.map (fun p => BitVec.ofNat 36 p.1) ++ [0]
      let s := demandWrite s rec'
      let power (i : Nat) : Word := fRatio (d i * mtrUnit w : Nat) (mins * 60 * 10 ^ 21)
      let image := (c.image.set 21 (power 0)).set 22 (power 1)
      let c := { c with image := image, begins := c.totals, meteredNs := 0, qmask := 0, creep := false, tstep := false,
                        gap := false, part := false }
      let s := mtrCommit (s.setMeterCh c) c
      let s := { s with meter := { s.meter with lastCommit := some (s.get R.WDG_LCLK_GRAIN) } }
      triggerSource ((s.raise (R.MTR_CEVT_DEMAND m)).raise R.MTR_EVT_DEMAND) (.meter (16 * m + 8))

/-- The class words of a PQC channel. -/
def pqcWords (s : State) (q : Nat) : List Word := (s.channel 5 q).elim [] (·.words)

/-- The end of a PQC channel's demand interval (R415, R416, R422). -/
def pqcIntervalEnd (s : State) (q : Nat) : State :=
  match s.meter.pqcs.find? (·.idx == q) with
  | none => s
  | some c =>
    let w := pqcWords s q
    let mins := dintMinutes (bitsOf (w.getD 0 0) 24 4)
    if mins = 0 then s
    else
      let (d, sat) := demandDelta c.begins c.total
      let head := demandHead q true 0 false false c.tstep c.gap c.part sat
      let rec' := [head] ++ demandTail s c.meteredNs ++ [BitVec.ofNat 36 d] ++ List.replicate 8 0
      let s := demandWrite s rec'
      let qty := (fMul (fRatio d 1) (w.getD 1 0)).val
      let c := { c with begins := c.total, quantity := qty, meteredNs := 0, tstep := false, gap := false, part := false }
      let s := pqcCommit (s.setPqc c) c
      let s := { s with meter := { s.meter with lastCommit := some (s.get R.WDG_LCLK_GRAIN) } }
      triggerSource (s.raise R.MTR_EVT_DEMAND) (.meter (512 + q))

/-- Pulses added to a PQC total (R422). -/
def pqcAdd (s : State) (c : PqcCh) (n : Nat) : State :=
  let t := c.total + n
  let s := s.when (decide (2 ^ 72 ≤ t)) fun s => (s.raise (R.MTR_QST_WRAP c.idx)).raise R.MTR_EVT_WRAP
  (s.setPqc { c with total := t % 2 ^ 72, pulses := c.pulses + n }).set (R.MTR_QCNT_COUNT c.idx) t

/-- One base tick of a PQC channel (R422): the delta of its CTR source, and the rate window of 3,200 × 2^RWIN ticks. -/
def pqcTick (s : State) (c : PqcCh) : State :=
  let w := pqcWords s c.idx
  let ctr := bitsOf (w.getD 0 0) 28 5
  let fromCtr := bitsOf (w.getD 0 0) 34 2 == 1
  let lost := fromCtr && (c.stopped || (s.channel 7 ctr).isNone)
  let now := s.get (R.FIO_CCNT_COUNT ctr)
  let s := s.when lost (·.raise (R.MTR_QST_NOSRC c.idx))
  let s := s.when (fromCtr && !lost && s.flag (R.FIO_CDIAG_CNTGAP ctr)) (·.raise (R.MTR_QST_GAP c.idx))
  let n := if fromCtr && !lost then (now + 2 ^ 36 - c.lastCount) % 2 ^ 36 else 0
  let s := pqcAdd s { c with stopped := lost, lastCount := now, meteredNs := c.meteredNs + 31250, ticks := c.ticks + 1 } n
  match s.meter.pqcs.find? (·.idx == c.idx) with
  | none => s
  | some c =>
    let len := 2 ^ bitsOf (w.getD 0 0) 20 4
    if 3200 * len ≤ c.ticks then
      s.setPqc { c with rate := (fMul (fRatio (c.pulses * 10 : Nat) len) (w.getD 1 0)).val, ticks := 0, pulses := 0 }
    else s

/-- PQC_PIN_EDGE (R422): a rising edge of a fast pin after its filter. -/
def pqcPinEdge (s : State) (pin : Nat) : State :=
  State.forEach s.meter.pqcs (fun c s =>
    let w := (pqcWords s c.idx).getD 0 0
    if bitsOf w 34 2 = 2 ∧ bitsOf w 28 5 = pin then pqcAdd s c 1 else s) s

/-- TFIFO_READ (R411): what the read of MTR_TFIFO returns, and the state without the oldest instant. -/
def readTfifo (s : State) : Word × State :=
  let w := s.reg R.MTR_TFIFO_VALID.addr
  (w, tfifoShow { s with meter := { s.meter with fifo := s.meter.fifo.drop 1 } })

/-- The total that an accumulator port selects (R426): the live one, else the stored one. -/
def portTotal (s : State) (p : Nat) : Nat :=
  let i := s.get (R.MTR_ASEL_INDEX p)
  let a := s.get (R.MTR_ASEL_ACC p)
  if s.flag (R.MTR_ASEL_PQ p) then
    match s.meter.pqcs.find? (·.idx == i) with
    | some c => c.total
    | none => groupValue s (pqcGroup i) 1 0
  else if i < 24 then
    match s.meterCh i with
    | some c => c.totals.getD a 0
    | none => groupValue s (mtrGroup i) 8 a
  else 0

/-- ACCUMULATOR_READ (R426): what the read of MTR_AL returns, and the state with MTR_AH latched. -/
def readAccumulator (s : State) (p : Nat) : Word × State :=
  let v := portTotal s p
  (BitVec.ofNat 36 v, (s.set (R.MTR_AL_LOW p) v).set (R.MTR_AH_HIGH p) (v / 2 ^ 36))

/-- The quality of words 0 to 11 of a meter channel's record (R420). -/
def mtrQuality (s : State) (c : MeterCh) : Nat :=
  let w := mtrWords s c.idx
  let ins := mtrInputs w
  if !s.metering || ins.any (fun i => !s.getBit R.MTR_STAT_CLKON (i / 6)) then 3
  else if ins.any (fun i => s.flag (R.MTR_INST_FAULT i)) then 3
  else match c.cycleAt with
    | none => 2
    | some t =>
      if 2 * mtrNominal w < s.time.loc - t then 2
      else if s.flag (R.MTR_CST_NOREF c.idx) || s.flag (R.MTR_CST_OVR c.idx) then 1 else 0

/-- The four image words of a PQC channel (R422), and their quality. -/
def pqcImage (s : State) (c : PqcCh) : List Word × Nat :=
  let w := (pqcWords s c.idx).getD 1 0
  let q := if s.flag (R.MTR_QST_NOSRC c.idx) || !s.metering then 3 else if s.flag (R.MTR_QST_GAP c.idx) then 2 else 0
  ([(fMul (fRatio c.total 1) w).val, c.rate, c.quantity, BitVec.ofNat 36 c.total], q)

/-- MODULATOR_SAMPLE (R401). -/
def execModulatorSample (input : Fin 24) (raw : Word) (ovr : Bool) (s : State) : Result :=
  s.answer (modulatorSample s input raw ovr)

/-- MODULATOR_INPUT_FAULT (R400). -/
def execModulatorInputFault (input : Fin 24) (s : State) : Result := s.answer (modulatorFault s input)

/-- MODULATOR_FAULT_END (R400). -/
def execModulatorFaultEnd (input : Fin 24) (s : State) : Result :=
  s.answer (if s.metering then modulatorFaultEnd s input else s)

/-- LINE_CYCLE_END (R407). -/
def execLineCycleEnd (ch : Fin 24) (means : CycleMeans) (s : State) : Result :=
  s.answer (if s.metering then lineCycleEnd s ch means else s)

/-- METER_COMMIT (R414). -/
def execMeterCommit (s : State) : Result := s.answer (if s.metering then meterCommitAll s else s)

/-- DEMAND_INTERVAL_END (R415). -/
def execDemandIntervalEnd (pqc : Bool) (ch : Fin 64) (s : State) : Result :=
  s.answer (if s.metering then (if pqc then pqcIntervalEnd s ch else mtrIntervalEnd s ch) else s)

/-- PQC_PIN_EDGE (R422). -/
def execPqcPinEdge (pin : Fin 24) (s : State) : Result := s.answer (if s.metering then pqcPinEdge s pin else s)

/-- METER_START (R423): the engine that stands starts once LOAD has completed. -/
def execMeterStart (s : State) : Result :=
  let loaded := s.powered && s.dev != .boot && s.dev != .load && s.flag R.SYS_STATE_FOLIO
  s.answer (if loaded && !s.metering then meterStart s else s)

/-- TFIFO_READ (R411). -/
def execTfifoRead (s : State) : Result := s.answer (if s.powered then (readTfifo s).2 else s)

/-- ACCUMULATOR_READ (R426). -/
def execAccumulatorRead (port : Port) (s : State) : Result := s.serve port fun s => (readAccumulator s port).2

/-- FIELD_STATUS_FRAME (R373), with the base tick of the pulse-quantity channels (R422). -/
def execFieldStatusFrame (amps volts : List Nat) (pins : BitVec 32) (s : State) : Result :=
  s.answer <| if s.powered then
      let s := fieldStatusFrame s amps volts pins
      if s.metering then State.forEach s.meter.pqcs (fun c s => pqcTick s c) s else s
    else s

end Sys2Proof.Machine
end

