-- ==== Sys2Proof/Machine/Station.lean ====
section
/-!
DEFINITION. Sys2Proof/Machine/Station.lean: the station frame protocol and the Ethernet ports (R557 to R567).
-/
namespace Sys2Proof.Machine

/-- A number as `n` bytes, most significant first (R561). -/
def beBytes (n v : Nat) : List Nat := (List.range n).map fun i => v / 256 ^ (n - 1 - i) % 256

/-- Bytes read as a number, most significant first. -/
def beNat (bs : List Nat) : Nat := bs.foldl (fun a b => 256 * a + b % 256) 0

/-- Words from nine bytes a pair (R70); `n` bounds the words. -/
def unpackWords : Nat → List Nat → List Word
  | 0, _ => []
  | n + 1, bs =>
    let v := beNat (bs.take 9)
    BitVec.ofNat 36 (v / 2 ^ 36) :: (match n with
      | 0 => []
      | m + 1 => BitVec.ofNat 36 v :: unpackWords m (bs.drop 9))

/-- Bits packed eight a byte, point i in bit i MOD 8 (R561); `w` bits a point. -/
def packPoints (w : Nat) (vs : List Nat) : List Nat :=
  let per := 8 / w
  (List.range (ceilDiv vs.length per)).map fun k =>
    (List.range per).foldl (fun a i => a + vs.getD (per * k + i) 0 % 2 ^ w * 2 ^ (w * i)) 0

/-- Point `i` of bytes that hold `w` bits a point. -/
def unpackPoint (w : Nat) (bs : List Nat) (i : Nat) : Nat := bs.getD (i / (8 / w)) 0 / 2 ^ (w * (i % (8 / w))) % 2 ^ w

/-- The class words of a station channel (R562). -/
def stnWords (s : State) (i : Nat) : List Word := (s.channel 2 i).elim [] (·.words)

def stnPort (w : List Word) : Nat := bitsOf (w.getD 0 0) 34 2
def stnSync (w : List Word) : Bool := (w.getD 0 0).getLsbD 32
def stnNumber (w : List Word) : Nat := bitsOf (w.getD 0 0) 0 16
def stnNbi (w : List Word) : Nat := bitsOf (w.getD 4 0) 27 9
def stnNwi (w : List Word) : Nat := bitsOf (w.getD 4 0) 18 9
def stnNbo (w : List Word) : Nat := bitsOf (w.getD 4 0) 9 9
def stnNwo (w : List Word) : Nat := bitsOf (w.getD 4 0) 0 9

/-- The points of STRUCT that a channel of a handle class binds. -/
def boundPoints (s : State) (cls idx : Nat) (out : Bool) : List Point :=
  s.points.filter fun p => p.out == out && match p.src with
    | .channel c i _ => c == cls && i == idx
    | _ => false

/-- The element of its channel that a point is bound to. -/
def Point.elem (p : Point) : Nat :=
  match p.src with
  | .channel _ _ e => e
  | _ => 0

/-- The owning class of a station channel: of its bound points, else CLASS of the parameters (R562). -/
def stnClass (s : State) (i : Nat) : Nat :=
  match s.points.find? fun p => match p.src with
    | .channel c j _ => c == 2 && j == i
    | _ => false with
  | some p => p.cls
  | none => bitsOf ((stnWords s i).getD 0 0) 29 3

/-- P_c in nanoseconds. -/
def classPeriod (s : State) (c : Nat) : Nat := s.get (R.CYC_PER_TICKS c) * 31250

/-- O_c in nanoseconds. -/
def classOffset (s : State) (c : Nat) : Nat := s.get (R.CYC_OFS_OFS c) * 125

/-- The station timeout in units of 0.1 ms (R562): 0 gives 2 × P_c + 1 ms. -/
def stnTmo (s : State) (i : Nat) : Nat :=
  let t := bitsOf ((stnWords s i).getD 5 0) 20 16
  if t = 0 then (2 * classPeriod s (stnClass s i) + 1000000) / 100000 else t

/-- A station channel's state. -/
def State.station (s : State) (i : Nat) : Option StationCh := s.net.stations.find? (·.idx == i)

/-- A station channel's state replaced, with STN_STs and STN_STAT (R566). -/
def State.setStation (s : State) (c : StationCh) : State :=
  let list := updateFirst (·.idx == c.idx) (fun _ => c) s.net.stations
  let s := { s with net := { s.net with stations := list } }
  let s := s.set (R.STN_ST_STATE c.idx) c.state
  s.set R.STN_STAT_UP (list.filter (·.state == 1)).length

/-- A station channel attached; until its first valid IN it is SILENT (R566). -/
def stnAttach (s : State) (i : Nat) : State :=
  let c : StationCh := ⟨i, 2, none, none, [], [], [], [], 0, [], none⟩
  let s := { s with net := { s.net with
    stations := (s.net.stations.filter fun x : StationCh => x.idx != i) ++ [c] } }
  s.setStation c

/-- A station channel detached. -/
def stnDetach (s : State) (i : Nat) : State :=
  let list := s.net.stations.filter fun x : StationCh => x.idx != i
  let s := { s with net := { s.net with stations := list } }
  (s.setReg (R.STN_ST_STATE i).addr 0).set R.STN_STAT_UP (list.filter (·.state == 1)).length

/-- An output point's missed scatters exceed CYC_XPOLc.HOLD: it is at fallback (R150). -/
def pointFallback (s : State) (p : Point) : Bool :=
  decide (s.get (R.CYC_XPOL_HOLD p.cls) < (s.pointSt p.word p.num).missed)

/-- FLAGS.OE of a class's OUT frames (R564, R151). -/
def stnOutputEnable (s : State) (c i : Nat) : Bool :=
  let live := match s.dev with
    | .run => s.flag R.SYS_STATE_RELEASED
    | .halt => s.cycle.heldRelease
    | _ => false
  live && !s.getBit R.CYC_STAT_HALTED c && !(boundPoints s 2 i true).any (pointFallback s)

/-- The bytes of an OUT frame (R561, R564) with its TIME and its NEXT. -/
def stnOutBytes (s : State) (c i commitAt nextAt : Nat) : List Nat :=
  let w := stnWords s i
  let pts := boundPoints s 2 i true
  let val (word : Bool) (e : Nat) : Word :=
    match pts.find? fun p => p.word == word && p.elem == e with
    | some p => committedValue s c p
    | none => 0
  let flags := bitNat (stnOutputEnable s c i) * 128 + bitNat (stnSync w) * 64 + s.get R.TWN_STAT_MEMBER * 32
  let seq := s.get (R.CYC_CNT_COUNT c) + 1
  let head := [0x11, flags] ++ beBytes 2 (s.get R.STN_SYS_SYSID) ++ beBytes 2 (stnNumber w) ++ beBytes 2 (stnTmo s i) ++
    beBytes 4 seq ++ beBytes 4 0 ++ beBytes 8 commitAt ++ beBytes 8 (if stnSync w then nextAt else 0) ++
    beBytes 2 (stnNbo w) ++ beBytes 2 (stnNwo w)
  let bits := packPoints 1 ((List.range (stnNbo w)).map fun e => (val false e).toNat)
  let body := head ++ bits ++ packWords ((List.range (stnNwo w)).map fun e => val true e)
  let body := body ++ List.replicate ((4 - body.length % 4) % 4) 0
  body ++ beBytes 4 (crc32c body)

/-- A link that a station's frames can travel on is up (R557, R562). -/
def stnLink (s : State) (w : List Word) : Bool :=
  match stnPort w with
  | 2 => s.get R.ETH_STAT_LINK != 0
  | p => s.getBit R.ETH_STAT_LINK p

/-- An OUT frame sent for channel `i` of class `c` (R564); none on a standby, nor in the power-fail sequence, nor without a
link. -/
def stnSend (s : State) (c i commitAt nextAt : Nat) : State :=
  match s.station i with
  | some st =>
    if s.dev == .standby || decide (0 < s.power.pfStep) || !stnLink s (stnWords s i) then s
    else s.setStation { st with out := stnOutBytes s c i commitAt nextAt, outAt := some s.now }
  | none => s

/-- The station channels of a class. -/
def classStations (s : State) (c : Nat) : List Nat := (s.net.stations.map (·.idx)).filter fun i => stnClass s i == c

/-- SCATTER of a class: one OUT frame to each of its stations (R564). -/
def stnScatter (s : State) (c : Nat) : State :=
  let k := s.cls c
  State.forEach (classStations s c)
    (fun i s => stnSend s c i (k.latchAt + classOffset s c) (k.latchAt + classPeriod s c)) s

/-- KEEP_ALIVE (R564): once per class period in STOP, SAFE and HALT. No COMMIT gives the frames a TIME and no LATCH a NEXT:
both are free (log 131). -/
def keepAlive (s : State) (c : Nat) : State :=
  if s.dev == .stop || s.dev == .safe || s.dev == .halt then
    let (t, s) := s.draw
    let (n, s) := s.draw
    State.forEach (classStations s c) (fun i s => stnSend s c i t n) s
  else s

/-- The inputs of a station latched into the image of its class (R123, R566): `q` is the channel's quality; a quality
that the station reports overrides GOOD. -/
def stnLatch (s : State) (i q : Nat) : State :=
  match s.station i with
  | none => s
  | some st =>
    let w := stnWords s i
    let sub : Subst := ⟨bitsOf (w.getD 0 0) 18 2, none⟩
    let s := State.forEach (boundPoints s 2 i false) (fun p s =>
      if p.word && p.elem == stnNwi w then
        latchPoint s true p.global p.num (BitVec.ofNat 36 (st.state * 2 ^ 34 + st.ack % 2 ^ 32)) 0 ⟨2, none⟩
      else
        let v : Word := if p.word then st.words.getD p.elem 0 else BitVec.ofNat 36 (bitNat (st.bits.getD p.elem false))
        let own := if p.word then st.wordQ.getD p.elem 0 else st.bitQ.getD p.elem 0
        latchPoint s p.word p.global p.num v (if q = 0 then own else q) sub) s
    s

/-- The quality of a station's inputs by its state (R566). -/
def stnQuality (st : StationCh) : Nat := if st.state = 1 then 0 else 2

/-- A channel that is not DROPPED is SILENT at a LATCH or a gather deadline (R566); MISS counts the cycle. -/
def stnSilent (s : State) (st : StationCh) : State :=
  if st.state = 3 then s else (s.setStation { st with state := 2 }).add (R.STN_ST_MISS st.idx) 1

/-- A station channel at the LATCH of its class (R123, R566): an asynchronous one is SILENT when no IN has arrived since
TMO / 2 before; a synchronous one takes its latest input until its tagged sample arrives. -/
def stnAtLatch (s : State) (i : Nat) : State :=
  match s.station i with
  | none => s
  | some st =>
    let fresh := match st.lastIn with
      | some t => decide (s.time.loc - t ≤ stnTmo s i * 50000)
      | none => false
    let s := if stnSync (stnWords s i) || fresh then s else stnSilent s st
    match s.station i with
    | some st => stnLatch s i (stnQuality st)
    | none => s

/-- The gather deadline of a class (R128, R566): synchronous channels without the sample of this LATCH are SILENT. -/
def stnDeadline (s : State) (c : Nat) : State :=
  State.forEach (classStations s c) (fun i s =>
    match s.station i with
    | some st =>
      if stnSync (stnWords s i) && st.tag != some ((s.cls c).latchAt % 2 ^ 64) then
        let s := stnSilent s st
        stnLatch s i 2
      else s
    | none => s) s

/-- An IN frame parsed: station number, counts, and what the body holds (R561). -/
structure StnIn where
  sysid : Nat
  number : Nat
  ack : Nat
  time : Nat
  nb : Nat
  nw : Nat
  body : List Nat
  deriving DecidableEq, Repr

/-- The header of a valid IN frame (R561, R566): version 1, TYPE IN, a length that fits its counts, CRC correct. -/
def stnParse (bs : List Nat) : Option StnIn :=
  let at' (i n : Nat) : Nat := beNat ((bs.drop i).take n)
  let nb := at' 32 2
  let nw := at' 34 2
  let size := 36 + ceilDiv nb 8 + ceilDiv nb 4 + (nw + 1) / 2 * 9 + ceilDiv nw 4
  let padded := (size + 3) / 4 * 4
  if bs.length = padded + 4 ∧ bs.getD 0 0 = 0x12 ∧ crc32c (bs.take padded) = at' padded 4 then
    some ⟨at' 2 2, at' 4 2, at' 12 4, at' 16 8, nb, nw, bs.drop 36⟩
  else none

/-- The duplicate table (R559): whether a source and sequence number have been seen within 400 ms, and the state that
remembers them; DUP tells an overflow of its 512 entries. -/
def dupSeen (s : State) (src seq : Nat) : Bool × State :=
  let live := s.net.dups.filter fun d => decide (s.time.loc - d.2.2 ≤ 400000000)
  if live.any fun d => d.1 == src && d.2.1 == seq then (true, { s with net := { s.net with dups := live } })
  else
    let full := decide (512 ≤ live.length)
    let s := { s with net := { s.net with dups := (if full then live.drop 1 else live) ++ [(src, seq, s.time.loc)] } }
    (false, s.when full (·.raise R.ETH_EVT_DUP))

/-- An IN frame taken from a port, accepted or discarded (R566). -/
def stationTake (s : State) (port : Nat) (bs : List Nat) : State :=
  let found : Option (StnIn × StationCh) := match stnParse bs with
    | none => none
    | some f =>
      (s.net.stations.find? fun st : StationCh =>
        let w := stnWords s st.idx
        stnNumber w == f.number && (stnPort w == port || stnPort w == 2) && stnNbi w == f.nb && stnNwi w == f.nw &&
          s.get R.STN_SYS_SYSID == f.sysid).map (f, ·)
  match found with
  | none => s.raise R.STN_EVT_FMT
  | some (f, st) =>
    let b := f.body
    let b2 := b.drop (ceilDiv f.nb 8)
    let b3 := b2.drop (ceilDiv f.nb 4)
    let b4 := b3.drop ((f.nw + 1) / 2 * 9)
    let st' := { st with
      state := 1, lastIn := some s.time.loc, tag := some f.time, ack := f.ack
      bits := (List.range f.nb).map fun i => unpackPoint 1 b i == 1
      bitQ := (List.range f.nb).map fun i => unpackPoint 2 b2 i
      words := unpackWords f.nw b3
      wordQ := (List.range f.nw).map fun i => unpackPoint 2 b4 i }
    let s := (s.setStation st').add (R.STN_ST_RX st.idx) 1
    let s := s.when (st.state == 3) (·.raise R.STN_EVT_RETURN)
    let c := stnClass s st.idx
    let k := s.cls c
    let s := s.when (stnSync (stnWords s st.idx) && k.phase == .gather && f.time == k.latchAt % 2 ^ 64)
      (stnLatch · st.idx 0)
    triggerSource s (.station st.idx)

/-- STATION_IN_FRAME (R559, R566): an IN frame that arrives on a link that is up; under PRP or HSR the second copy of a frame,
by the source and sequence number of its tag, is discarded. -/
def stationIn (s : State) (port : Nat) (bs : List Nat) (tag : Option (Nat × Nat)) : State :=
  if !s.getBit R.ETH_STAT_LINK port then s
  else match tag with
    | some (src, seq) =>
      if s.get R.ETH_CFG_RED = 0 then stationTake s port bs
      else
        let r := dupSeen s src seq
        if r.1 then r.2 else stationTake r.2 port bs
    | none => stationTake s port bs

/-- STATION_DROP (R566): no valid IN for TMO. -/
def stationDrop (s : State) (i : Nat) : State :=
  match s.station i with
  | some st =>
    let early := st.lastIn.any fun t => decide (s.time.loc < t + stnTmo s i * 100000)
    if st.state = 3 ∨ early then s else (s.setStation { st with state := 3 }).raise R.STN_EVT_DROP
  | none => s

/-- The outputs of a station count as delivered at a COMMIT (R566): UP, and its OUT sent whole before the instant
minus D_c. -/
def stnDelivered (s : State) (c i : Nat) : Bool :=
  match s.station i with
  | some st =>
    let at' := (s.cls c).latchAt + classOffset s c
    st.state == 1 && match st.outAt with
      | some t => decide ((s.cls c).latchAt ≤ t) && decide (t + s.get (R.CYC_BD_BOUND c) * 125 ≤ at')
      | none => false
  | none => false

/-- An Ethernet port. -/
def State.ethPort (s : State) (n : Nat) : EthPort := s.net.ports.toList.getD n ⟨[], 0, 0, 0⟩

/-- An Ethernet port changed. -/
def State.setEthPort (s : State) (n : Nat) (p : EthPort) : State :=
  { s with net := { s.net with ports := s.net.ports.setIfInBounds n p } }

/-- ETH_LINK_CHANGE (R557, R559): a redundant path lost sets RED. -/
def ethLinkChange (s : State) (n : Nat) (up : Bool) (speed : Nat) : State :=
  if s.get (R.ETH_PCFG_MODE n) = 0 then s
  else
    let s := ((s.putBit R.ETH_STAT_LINK n up).setFlag (R.ETH_PST_LINK n) up).set (R.ETH_PST_SPEED n) speed
    let s := s.putBit R.ETH_EVT_LINK n true
    s.when (!up && s.get R.ETH_CFG_RED != 0) (·.raise R.ETH_EVT_RED)

/-- A port switched off: its link goes down (R557, R571). -/
def ethOff (s : State) (n : Nat) : State :=
  if s.get (R.ETH_PCFG_MODE n) ≠ 0 ∨ !s.getBit R.ETH_STAT_LINK n then s
  else
    let s := ((s.putBit R.ETH_STAT_LINK n false).set (R.ETH_PST_LINK n) 0).putBit R.ETH_EVT_LINK n true
    s.when (s.get R.ETH_CFG_RED != 0) (·.raise R.ETH_EVT_RED)

/-- ARP_ICMP_REQUEST (R557): answered for the port's own IPv4 address; any other is discarded and counted. -/
def arpIcmp (s : State) (n : Nat) (target : BitVec 32) : State :=
  if !s.getBit R.ETH_STAT_LINK n then s
  else if s.get (R.ETH_IP_IP n) = target.toNat then
    s.setEthPort n { s.ethPort n with answered := (s.ethPort n).answered + 1 }
  else s.add (R.ETH_CNT_DROP n) 1

/-- HSR_RING_FORWARD (R559): a ring frame of a source and sequence number, not for this node, goes out of the other
port once; the duplicate table holds 512 entries for 400 ms, and DUP tells an overflow. -/
def hsrForward (s : State) (n : Nat) (src : BitVec 48) (seq : BitVec 16) : State :=
  if s.get R.ETH_CFG_RED ≠ 2 ∨ s.get R.ETH_STAT_LINK ≠ 3 then s
  else
    let r := dupSeen s src.toNat seq.toNat
    let o := 1 - n
    if r.1 then r.2 else r.2.setEthPort o { r.2.ethPort o with forwarded := (r.2.ethPort o).forwarded + 1 }

/-- GATE_CONTROL_ENTRY (R560, R572): the next entry of the list in force; at the list's end a new list cycle begins with
the entries as written. Every gate is open while EN is 0 or LEN is 0. -/
def gateEntry (s : State) (n : Nat) : State :=
  let p := s.ethPort n
  if p.entry + 1 < p.gates.length then s.setEthPort n { p with entry := p.entry + 1 }
  else
    let len := if s.flag (R.ETH_XGCFG_EN n) then min (s.get (R.ETH_XGCFG_LEN n)) 64 else 0
    s.setEthPort n { p with gates := (List.range len).map fun e => s.get (R.ETH_XGCL_GATES (64 * n + e)), entry := 0 }

/-- The gates open on a port: bit q is queue q (R560). -/
def openGates (s : State) (n : Nat) : Nat := (s.ethPort n).gates.getD (s.ethPort n).entry 255

/-- STATION_IN_FRAME (R566). -/
def execStationInFrame (port : Fin 2) (frame : StationFrame) (s : State) : Result :=
  s.answer <| if s.powered
    then stationIn s port (frame.bytes.map (·.toNat)) (frame.tag.map fun t => (t.1.toNat, t.2.toNat)) else s

/-- STATION_DROP (R566). -/
def execStationDrop (idx : Fin 256) (s : State) : Result := s.answer (if s.powered then stationDrop s idx else s)

/-- KEEP_ALIVE (R564). -/
def execKeepAlive (cls : Cls) (s : State) : Result := s.answer (if s.powered then keepAlive s cls else s)

/-- ETH_LINK_CHANGE (R557). -/
def execEthLinkChange (port : Fin 2) (up : Bool) (speed : Fin 4) (s : State) : Result :=
  s.answer (if s.powered then ethLinkChange s port up speed else s)

/-- ARP_ICMP_REQUEST (R557). -/
def execArpIcmpRequest (port : Fin 2) (target : BitVec 32) (s : State) : Result :=
  s.answer (if s.powered then arpIcmp s port target else s)

/-- ETH_FRAME_DISCARD (R557); `crc` tells a frame discarded for its check. -/
def execEthFrameDiscard (port : Fin 2) (crc : Bool) (s : State) : Result :=
  s.answer (if s.powered && s.getBit R.ETH_STAT_LINK port then s.add (if crc then R.ETH_CNT_CRCERR port else R.ETH_CNT_DROP port) 1 else s)

/-- HSR_RING_FORWARD (R559). -/
def execHsrRingForward (port : Fin 2) (src : BitVec 48) (seq : BitVec 16) (s : State) : Result :=
  s.answer (if s.powered then hsrForward s port src seq else s)

/-- GATE_CONTROL_ENTRY (R560). -/
def execGateControlEntry (port : Fin 2) (s : State) : Result := s.answer (if s.powered then gateEntry s port else s)

end Sys2Proof.Machine
end

