-- ==== Sys2Proof/Machine/Records.lean ====
section
/-!
DEFINITION. Sys2Proof/Machine/Records.lean: the keeper's writing of records (R509 to R516), and the rows
REPORT_ACCEPT, RECORD_WRITE and HELD_RECORD_RELEASE.
-/
namespace Sys2Proof.Machine

/-- The eight words of a record with its SEQ (R509). -/
def recWords (e : RecEntry) (seq : Nat) : List Word :=
  let body := [BitVec.ofNat 36 seq,
    BitVec.ofNat 36 (e.code % 256 * 2 ^ 28 + e.kind % 16 * 2 ^ 24 + e.source % 256 * 2 ^ 16 + e.times % 2 ^ 16),
    e.stampDate, e.stampTime, e.stampEpoch, e.detail0, e.detail1]
  body ++ [BitVec.ofNat 36 (crc32c (packWords body))]

/-- A record placed in the keeper's array. -/
def putRecord (s : State) (base seq : Nat) (e : RecEntry) : State :=
  s.fill base (recWords e seq)

/-- The GAP entry of a store (R514); its details are known when it is written. -/
def gapEntry (s : State) (toJournal : Bool) : RecEntry :=
  recEntry s ⟨toJournal, 126, if toJournal then 24 else 25, 0, 0⟩ 2 0

/-- An entry with the details a GAP record carries once it is written: the SEQ before it and the pending count. -/
def gapFill (q : RecStore) (e : RecEntry) : RecEntry :=
  if e.code = 126 then
    { e with detail0 := BitVec.ofNat 36 (q.next + 2 ^ 36 - 1), detail1 := BitVec.ofNat 36 (min q.pending (2 ^ 36 - 1)) }
  else e

/-- A store whose oldest entry has been written: the entry is freed, and a pending loss count places a GAP record in
it, behind every record accepted (R514). -/
def RecStore.freed (q : RecStore) (gap : RecEntry) : RecStore :=
  let wasGap := (q.queue.head?.map (·.code)) == some 126
  let q := { q with queue := q.queue.drop 1, pending := if wasGap then 0 else q.pending }
  let q := { q with held := q.held && !q.queue.isEmpty }
  if decide (0 < q.pending) && !(q.queue.any (·.code == 126)) then q.push gap false else q

/-- The oldest entry that may be written: not the newest while it is held (R513). -/
def RecStore.ready (q : RecStore) : Option RecEntry :=
  match q.queue with
  | [] => none
  | [e] => if q.held then none else some e
  | e :: _ => some e

/-- One journal record written; a full journal only counts it (R510, R515). -/
def writeJournal (s : State) (e : RecEntry) : State :=
  let q := s.records.journal
  if 4096 < q.next then
    let n := min (s.records.fullSince + 1) (2 ^ 36 - 1)
    { s with records := { s.records with journal := q.freed (gapEntry s true), fullSince := n } }
  else
    let s := putRecord s (0x411000 + 8 * (q.next - 1)) q.next (gapFill q e)
    let q' := { q.freed (gapEntry s true) with next := q.next + 1 }
    let s := { s with records := { s.records with journal := q' } }
    let s := s.raise R.JNL_EVT_NEW
    s.when (decide (q.next = 4096)) (·.raise R.JNL_EVT_FULL)

/-- One recorder record written: the next endpaper slot, or the next text slot (R516). -/
def writeRecorder (s : State) (e : RecEntry) : State :=
  let q := s.records.recorder
  let s :=
    if s.records.epUsed < 1024 then
      let s := putRecord s (0x429000 + 8 * s.records.epUsed) q.next (gapFill q e)
      { s with records := { s.records with epUsed := s.records.epUsed + 1 } }
    else
      let s := s.when (decide (10752 ≤ s.records.textCount)) (·.raise R.EVR_EVT_WRAP)
      let s := putRecord s (0x42B000 + 8 * s.records.textNext) q.next (gapFill q e)
      { s with records :=
        { s.records with textNext := (s.records.textNext + 1) % 10752, textCount := s.records.textCount + 1 } }
  let q' := { q.freed (gapEntry s false) with next := (q.next + 1) % 2 ^ 36 }
  ({ s with records := { s.records with recorder := q' } }).raise R.EVR_EVT_NEW

/-- RECORD_WRITE (R512): one record, the journal's ahead of the recorder's; a record store with nothing to write
stays as it is. -/
def writeRecord (s : State) : State :=
  match s.records.journal.ready with
  | some e => recordSync (writeJournal s e)
  | none =>
    match s.records.recorder.ready with
    | some e => recordSync (writeRecorder s e)
    | none => s

/-- Both stores' held records released (R513, R520). -/
def releaseHeld (s : State) : State :=
  let r := s.records
  recordSync { s with records :=
    { r with journal := { r.journal with held := false }, recorder := { r.recorder with held := false } } }

/-- Every waiting journal record written (R69, R520); `n` bounds the entries. -/
def flushJournal : Nat → State → State
  | 0, s => s
  | n + 1, s =>
    match s.records.journal.queue with
    | [] => s
    | e :: _ => flushJournal n (writeJournal s e)

/-- Queued recorder records lost: counted, and due as a gap (R514, R520). -/
def loseRecorder (s : State) : State :=
  let q := s.records.recorder
  let n := (q.queue.filter (·.code != 126)).length
  let q := { q with queue := [], held := false, pending := q.pending + n, lost := (q.lost + n) % 2 ^ 36 }
  { s with records := { s.records with recorder := q } }

/-- Staged journal records discarded and counted as lost (R520, cold reset). -/
def loseJournal (s : State) : State :=
  let q := s.records.journal
  let n := (q.queue.filter (·.code != 126)).length
  let q := { q with queue := [], held := false, pending := q.pending + n, lost := (q.lost + n) % 2 ^ 36 }
  { s with records := { s.records with journal := q } }

/-- Staged records and pending counts lost without a count (R13, R520). -/
def dropStaging (s : State) : State :=
  let r := s.records
  { s with records :=
    { r with journal := { r.journal with queue := [], held := false, pending := 0 },
             recorder := { r.recorder with queue := [], held := false, pending := 0 } } }

/-- Pending gaps placed ahead of the START record, which the journal takes once per boot (R511, R520). -/
def startRecord (s : State) : State :=
  let r := s.records
  let j := if 0 < r.journal.pending && !(r.journal.queue.any (·.code == 126)) && r.journal.queue.length < 16
    then r.journal.push (gapEntry s true) false else r.journal
  let e := if 0 < r.recorder.pending && !(r.recorder.queue.any (·.code == 126)) && r.recorder.queue.length < 16
    then r.recorder.push (gapEntry s false) false else r.recorder
  let s := { s with records := { r with journal := j, recorder := e } }
  s.journal 1 3 (s.reg 0xC03000).toNat (s.reg 0xC03001).toNat

/-- REPORT_ACCEPT (R512): a report of any block is accepted, coalesced or lost. -/
def execReportAccept (toJournal : Bool) (code source : BitVec 8) (d0 d1 : Word) (s : State) : Result :=
  s.answer (if s.powered then s.report ⟨toJournal, code.toNat, source.toNat, d0, d1⟩ else s)

/-- RECORD_WRITE (R512). -/
def execRecordWrite (s : State) : Result := s.answer (if s.powered then writeRecord s else s)

/-- HELD_RECORD_RELEASE (R513): 100 ms after the first occurrence of the held record of one store. -/
def execHeldRecordRelease (toJournal : Bool) (s : State) : Result :=
  let r := s.records
  s.answer <| if !s.powered then s
    else if toJournal then recordSync { s with records := { r with journal := { r.journal with held := false } } }
    else recordSync { s with records := { r with recorder := { r.recorder with held := false } } }

end Sys2Proof.Machine
end

