-- ==== Sys2Proof/Machine/Pair.lean ====
section
/-!
DEFINITION. Sys2Proof/Machine/Pair.lean: the pair that SPINE configures (R350), the frames that this device sends to its
partner (R351), and what a primary tracks to its standby in TRKCTL frames (R356).
-/
namespace Sys2Proof.Machine

/-- The content of the folio in force. -/
def State.content (s : State) : Option FolioContent := s.folio.content

/-- The partner that SPINE configures (R350). -/
def State.partner (s : State) : Option PairPartner := s.content.bind (·.partner)

/-- Whether this device has the pair role of a primary (R353). -/
def State.primary (s : State) : Bool := s.partner.isNone || s.flag R.TWN_STAT_PRIMARY

/-- The pair's standby runs (R301): the partner's heartbeat shows STANDBY to a primary. -/
def hasStandby (s : State) : Bool :=
  s.partner.isSome && s.flag R.TWN_STAT_PRIMARY && !s.twin.lost && s.twin.heart.any (·.state == 5)

/-- A twin frame recorded as sent (R351). -/
def twinSend (s : State) (type cls tref : Nat) (payload : List Word) : State :=
  { s with twin := { s.twin with
    sent := ⟨type, cls, tref % 2 ^ 36, payload⟩ ::
      s.twin.sent.filter (fun f : SentFrame => !(f.type == type && f.cls == cls)) } }

/-- A TRKCTL frame with its items (R356). -/
def trackFrame (s : State) (items : List TrkItem) : State :=
  twinSend { s with twin := { s.twin with sentItems := items } } 36 8 s.now [BitVec.ofNat 36 items.length]

/-- Items that a primary tracks to its standby (R356). -/
def trackSend (s : State) (items : List TrkItem) : State :=
  if items.isEmpty || !hasStandby s then s else trackFrame s items

/-- The tracked control items as they stand (R356): forces, handles, release, COMMIT counts, the online change, and the
imposer's decisions with their hold counts. -/
def trackedNow (s : State) : List TrkItem :=
  [.forces s.forces, .handles s.handles.channels s.handles.gens, .released (s.flag R.SYS_STATE_RELEASED),
    .olc (s.reg R.OLC_STAT_STATE.addr) ((s.olc.next.bind (·.mapDigests)).elim [] (·.2)), .sheet s.imposer.sheet] ++
    (List.range 8).map fun c => .count c (s.get (R.CYC_CNT_COUNT c))

/-- The items that have changed are tracked before the next LATCH of any class (R356). -/
def trackChanges (s : State) : State :=
  if !hasStandby s then s
  else
    let items := trackedNow s
    let s := trackSend s (items.filter fun x => !s.twin.tracked.contains x)
    { s with twin := { s.twin with tracked := items } }

end Sys2Proof.Machine
end

