-- ==== Sys2Proof/Machine/Retain.lean ====
section
/-!
DEFINITION. Sys2Proof/Machine/Retain.lean: the retain store (R488 to R497), and the rows RETAIN_STORE_CMD,
RETAIN_STORE_START, PERIODIC_STORE, MINIV_EXPIRY and RETAIN_STORE_DONE.
-/
namespace Sys2Proof.Machine

/-- Sequence number A is newer than B (R489). -/
def seqNewer (a b : Nat) : Bool :=
  let d := (a + 2 ^ 36 - b % 2 ^ 36) % 2 ^ 36
  decide (1 ≤ d) && decide (d < 2 ^ 35)

/-- A bank is valid: complete, and its data match DCRC (R488). -/
def Bank.valid (b : Bank) : Bool := b.complete && b.intact

/-- The target of the next store is recto (R489): the bank other than the one with the newest valid mark, recto when
neither is valid. -/
def targetRecto (r : RetainSt) : Bool :=
  match r.recto.valid, r.verso.valid with
  | true, true => !seqNewer r.recto.seq r.verso.seq
  | true, false => false
  | _, _ => true

/-- The SEQ of the next store, from the complete marks (R489). -/
def nextStoreSeq (r : RetainSt) : Nat :=
  match r.recto.complete, r.verso.complete with
  | true, true => ((if seqNewer r.recto.seq r.verso.seq then r.recto.seq else r.verso.seq) + 1) % 2 ^ 36
  | true, false => (r.recto.seq + 1) % 2 ^ 36
  | false, true => (r.verso.seq + 1) % 2 ^ 36
  | false, false => 1

/-- The RET_ registers that follow the marks (the register table of chapter 18). -/
def retainSync (s : State) : State :=
  let r := s.retain
  let s := s.set R.RET_STAT_VALID (bitNat r.recto.valid + 2 * bitNat r.verso.valid)
  let s := s.set R.RET_STAT_NEXT (if targetRecto r then 1 else 2)
  let s := s.setFlag R.RET_STAT_WEAR (decide (900000 < r.recto.count) || decide (900000 < r.verso.count))
  let s := s.set R.RET_SEQR_SEQ (if r.recto.complete then r.recto.seq else 0)
  let s := s.set R.RET_SEQV_SEQ (if r.verso.complete then r.verso.seq else 0)
  let s := s.set R.RET_CNTR_COUNT (if r.recto.complete then r.recto.count else 0)
  s.set R.RET_CNTV_COUNT (if r.verso.complete then r.verso.count else 0)

/-- The working copy as bank data, by offset. -/
def workingCopy (s : State) : WMap := (s.mem.filter fun p => inRetain p.1).map fun p => (p.1 - 0x500000, p.2)

/-- The retain words of a unit's retained cells (R611): ET and IN_PREV of a timer, CV and both previous states of a
counter. -/
def retainedWords (u : FabricUnit) (st : UnitSt) : List (Nat × List Word) :=
  (u.retTimers.filterMap fun p => st.timers[p.1]?.map fun t =>
    (p.2, [BitVec.ofNat 36 t.et, BitVec.ofNat 36 (bitNat t.inPrev)])) ++
  (u.retCounters.filterMap fun p => st.counters[p.1]?.map fun k =>
    (p.2, [wordOfInt k.cv, BitVec.ofNat 36 (2 * bitNat (k.cuPrev == some true) + bitNat (k.cdPrev == some true))]))

/-- Retained timer and counter cells written into their retain words before a store (R611). -/
def writeRetainedCells (s : State) : State :=
  match s.folio.content with
  | none => s
  | some c =>
    State.forEach c.fabrics (fun u s =>
      match s.fabric.units.find? (·.id == u.id) with
      | none => s
      | some st => State.forEach (retainedWords u st) (fun p s => s.storeList p.1 p.2) s) s

/-- A store begins (R490 steps 1 and 2, R491): BUSY set, DIRTY cleared, the target's mark cleared, the working copy
taken as it stands. A store that is already running takes the trigger in (R492). -/
def storeBegin (s : State) : State :=
  match s.retain.running with
  | some _ => s
  | none =>
    let s := writeRetainedCells s
    let r := s.retain
    let t := targetRecto r
    let run : StoreRun := ⟨t, nextStoreSeq r, workingCopy s, r.byCommand⟩
    let clear (b : Bank) : Bank := { b with complete := false, intact := false }
    let r := { r with running := some run, waiting := false, ignoreMinInterval := false, byCommand := false,
                      recto := if t then clear r.recto else r.recto, verso := if t then r.verso else clear r.verso }
    (({ s with retain := r }.raise R.RET_STAT_BUSY).set R.RET_STAT_DIRTY 0).set R.RET_STAT_POSTP 0

/-- The layout bits that a mark holds: bits [255:184] of the retain layout digest (R488). -/
def layoutTag (digest : List Word) : Nat :=
  bitsOf (digest.getD 0 0) 0 32 * 2 ^ 40 + bitsOf (digest.getD 1 0) 0 32 * 2 ^ 8 + bitsOf (digest.getD 2 0) 24 8

/-- Whether MINIV holds a store back now (R492). -/
def storePostponed (s : State) : Bool :=
  s.retain.storedSinceRun && s.retain.inInterval && !s.retain.ignoreMinInterval &&
    decide (0 < s.get R.RET_XCFG_MINIV)

/-- A store ends with its mark written and checked (R490 steps 3 and 4, R497), or with a mark that failed its check. -/
def storeEnd (s : State) (ok : Bool) (micros : Nat) : State :=
  match s.retain.running with
  | none => s
  | some run =>
    let r := s.retain
    let old := if run.toRecto then r.recto else r.verso
    let tag := match s.folio.content with
      | some c => layoutTag c.retainDigest
      | none => 0
    if ok then
      let b : Bank := ⟨run.data, true, run.seq, old.count + 1, tag, true⟩
      let r := { r with running := none, storedSinceRun := true, inInterval := true,
                        recto := if run.toRecto then b else r.recto, verso := if run.toRecto then r.verso else b }
      let s := { s with retain := r }
      let s := (s.set R.RET_STAT_BUSY 0).set R.RET_STAT_LAST 1
      let s := (s.raise R.RET_EVT_DONE).set R.RET_DUR_DUR micros
      let s := s.when run.byCommand (·.set R.RET_CMD_STATUS 2)
      let s := s.when (decide (b.count = 900001)) fun s =>
        (s.raise R.RET_EVT_WEAR).journal 20 22 (if run.toRecto then 1 else 2) b.count
      retainSync (s.when s.retain.waiting fun s => s.setFlag R.RET_STAT_POSTP (storePostponed s))
    else
      let s := { s with retain := { r with running := none } }
      let s := (s.set R.RET_STAT_BUSY 0).set R.RET_STAT_LAST 3
      let s := (s.raise R.RET_EVT_VERIFY).raise R.RET_STAT_DIRTY
      let s := s.when run.byCommand (·.set R.RET_CMD_STATUS 7)
      retainSync (s.journal 19 22 (if run.toRecto then 1 else 2) 0)

/-- A running store is cut off: its bank holds no mark, DIRTY is set again (R490, R494, R506). -/
def storeAbort (s : State) : State :=
  match s.retain.running with
  | none => s
  | some _ =>
    let s := { s with retain := { s.retain with running := none } }
    let s := (s.set R.RET_STAT_BUSY 0).set R.RET_STAT_LAST 2
    retainSync ((s.raise R.RET_EVT_ABORT).raise R.RET_STAT_DIRTY)

/-- A trigger of a store that waits for its instant (R492): it merges into a store that is pending, and into a running
one unless DIRTY has been set again since step 1; POSTP shows a postponement. -/
def storeTrigger (s : State) (ignoreMiniv byCommand : Bool) : State :=
  if s.retain.running.isSome && !s.flag R.RET_STAT_DIRTY then
    { s with retain := { s.retain with
      running := s.retain.running.map fun r : StoreRun => { r with byCommand := r.byCommand || byCommand } } }
  else
    let s := { s with retain := { s.retain with
      waiting := true, ignoreMinInterval := s.retain.ignoreMinInterval || ignoreMiniv,
      byCommand := s.retain.byCommand || byCommand } }
    s.setFlag R.RET_STAT_POSTP (storePostponed s)

/-- A store that waits begins where nothing holds it back (R492); none begins during a deferral (R58), nor in a
power-fail sequence before its step 7 (R66). -/
def storeIfDue (s : State) : State :=
  if s.retain.waiting && !storePostponed s && s.retain.running.isNone && !s.flag R.SYS_STATE_DEFER && s.power.pfStep == 0
    then storeBegin s else s

/-- Recall (R494): the bank that passes the checks against a layout tag, with the events that the checks raise; none
when the start becomes COLD, with the reason of the DEMOTED record (1 no valid bank, 2 layout differs). -/
def recallBank (s : State) (tag : Nat) : State × (Nat ⊕ (Bool × Bank)) :=
  let r := s.retain
  let newestRecto := match r.recto.complete, r.verso.complete with
    | true, true => seqNewer r.recto.seq r.verso.seq
    | true, false => true
    | _, _ => false
  if !r.recto.complete && !r.verso.complete then (s, .inl 1)
  else
    let first := if newestRecto then r.recto else r.verso
    let other := if newestRecto then r.verso else r.recto
    let check (s : State) (isRecto : Bool) (b : Bank) : State × (Nat ⊕ (Bool × Bank)) :=
      if b.layout = tag then (s, .inr (isRecto, b)) else (s, .inl 2)
    if first.valid then check s newestRecto first
    else
      let s := s.raise R.RET_EVT_TORN
      if other.valid then check (s.raise R.RET_EVT_FALLBACK) (!newestRecto) other else (s, .inl 1)

/-- A bank's data copied into the working copy (R494 step 4). -/
def recallCopy (s : State) (isRecto : Bool) (b : Bank) : State :=
  let s := s.clearRange 0x500000 0x510000
  let s := { s with mem := b.data.foldl (fun (m : WMap) (p : Nat × Word) => m.wr (0x500000 + p.1) p.2) s.mem }
  (s.set R.RET_STAT_SRC (if isRecto then 1 else 2)).set R.RET_STAT_DIRTY 0

/-- Whether a word of the working copy is write-protected (R496). -/
def retainProtected (s : State) (a : Nat) : Bool :=
  inRetain a &&
    match s.get R.RET_CFG_PROT with
    | 0 => false
    | 1 => decide (0x500000 + 49152 ≤ a)
    | 2 => decide (0x500000 + 32768 ≤ a)
    | _ => true

/-- RET_CMD STORE written by a master (R492, R493). -/
def retainCommand (s : State) (master : Nat) : State :=
  if s.get R.RET_CMD_STATUS = 1 then s.rsvd master R.RET_CMD_CODE.addr
  else
    let s := s.set R.RET_CMD_CODE 1
    match s.dev with
    | .standby => s.set R.RET_CMD_STATUS 5
    | .run => storeTrigger (trackSend (s.set R.RET_CMD_STATUS 1) [.store]) false true
    | .stop | .halt | .safe => storeIfDue (storeTrigger (s.set R.RET_CMD_STATUS 1) false true)
    | _ => s.set R.RET_CMD_STATUS 3

/-- RETAIN_STORE_CMD (R492, R493): RET_CMD STORE written by a master. -/
def execRetainStoreCmd (master : Fin 18) (s : State) : Result := s.serve master fun s => retainCommand s master

/-- RETAIN_STORE_START (R490, R492): the trigger instant of a waiting store. -/
def execRetainStoreStart (s : State) : Result := s.answer (if s.powered then storeIfDue s else s)

/-- PERIODIC_STORE (R492): PERIOD seconds after the last completed store, or after the entry into RUN, in every state
that holds a program (log 110). -/
def execPeriodicStore (s : State) : Result :=
  let here := s.dev != .off && s.dev != .boot && s.dev != .load
  s.answer <| if here && decide (0 < s.get R.RET_CFG_PERIOD) && s.flag R.RET_STAT_DIRTY
    then storeTrigger s false false else s

/-- MINIV_EXPIRY (R492): MINIV seconds have passed since the last completed store, and a store that MINIV postponed
starts. -/
def execMinivExpiry (s : State) : Result :=
  s.answer <| if !s.powered then s else
    let postponed := s.flag R.RET_STAT_POSTP
    let s := { s with retain := { s.retain with inInterval := false } }
    (s.set R.RET_STAT_POSTP 0).when postponed storeIfDue

/-- RETAIN_STORE_DONE (R490): the mark has been read back; `ok` says whether it passed, `micros` the duration. A
trigger that arrived after step 1 with DIRTY set again is served by a further store (R492), at once outside RUN. -/
def execRetainStoreDone (ok : Bool) (micros : BitVec 16) (s : State) : Result :=
  s.answer <| if !s.powered then s else
    (storeEnd s ok micros.toNat).when (!s.cycling && s.retain.running.isSome) storeIfDue

end Sys2Proof.Machine
end

