-- ==== Sys2Proof/Machine/Seal.lean ====
section
/-!
DEFINITION. Sys2Proof/Machine/Seal.lean: owner-sealed command blocks (R527 to R529), and the rows CLEAR, CLAIM, INSTALL,
REVOKE, SETPOL and ATTEST (R517, R525, R526, R543).
-/
namespace Sys2Proof.Machine

/-- State of an owner key slot (R526): 0 EMPTY, 1 ACTIVE, 2 REVOKED. -/
def keyState (s : State) (slot : Nat) : Nat := s.get R.COL_KSTAT_STATE / 4 ^ slot % 4

/-- An owner key slot given a state. -/
def setKeyState (s : State) (slot st : Nat) : State :=
  let k := s.get R.COL_KSTAT_STATE
  s.set R.COL_KSTAT_STATE (k - k / 4 ^ slot % 4 * 4 ^ slot + st * 4 ^ slot)

/-- The words of the block at COL_SBADR in the mailbox; none when it does not lie wholly within it (R555). -/
def sealBlock (s : State) (n : Nat) : Option (List Word) :=
  let o := s.get R.COL_SBADR_OFS
  if o + n ≤ 0x7FE then some (s.words (0x44F000 + o) n) else none

/-- Whether every bit that R527 does not name is 0. -/
def sealReservedZero (w : List Word) : Bool :=
  let at' (i : Nat) : Word := w.getD i 0
  at' 1 &&& 0x00FFFFFCC == 0 &&
    ([2, 3] ++ (List.range 16).map (· + 5) ++ (List.range 16).map (· + 32)).all (fun i => bitsOf (at' i) 32 4 == 0) &&
    (List.range 11).all fun i => at' (21 + i) == 0

/-- The words that COL_OKEY holds of a slot's public key, X and then Y. -/
def ownerKey (s : State) (slot : Nat) : Nat × Nat :=
  let part (k : Nat) : Nat := byteNat ((List.range 8).map fun i => s.reg (R.COL_OKEY_KEY (16 * slot + k + i)).addr)
  (part 0, part 8)

/-- The signature of a block verifies under the key of its signing slot (R527). -/
def sealSigned (s : State) (w : List Word) : Bool :=
  ecdsaOk (ownerKey s (bitsOf (w.getD 1 0) 0 2)) (shaWords (w.take 32)) (byteNat ((w.drop 32).take 8)) (byteNat ((w.drop 40).take 8))

/-- The cause of the first failing check of R528 for a block that a command with the given OPs carries; 0 when it passes. -/
def sealCause (s : State) (ops : List Nat) : Nat :=
  match sealBlock s 48 with
  | none => 1
  | some w =>
    let at' (i : Nat) : Word := w.getD i 0
    let op := bitsOf (at' 1) 28 8
    let slot := bitsOf (at' 1) 0 2
    let target := bitsOf (at' 1) 4 2
    if at' 0 ≠ BitVec.ofNat 36 0o163145141154 then 1
    else if !sealReservedZero w then 1
    else if !ops.contains op then 2
    else if bitsOf (at' 2) 0 32 ≠ s.get R.COL_SER0_SERIAL ∨ bitsOf (at' 3) 0 32 ≠ s.get R.COL_SER1_SERIAL then 3
    else if keyState s slot ≠ 1 then 4
    else if (at' 4).toNat ≤ s.get R.COL_CMDCNT_COUNT then 5
    else if !sealSigned s w then 6
    else if op = 3 ∧ keyState s target ≠ 0 then 7
    else if op = 4 ∧ (keyState s target ≠ 1 ∨ (List.range 4).all fun i => i == target || keyState s i != 1) then 7
    else 0

/-- A word of the block. -/
def sealWord (s : State) (i : Nat) : Word := ((sealBlock s 48).getD []).getD i 0

/-- A block refused: COL_CAUSE and the CMDREF record (R528, R544). -/
def sealRefuse (s : State) (cause : Nat) : State :=
  (s.set R.COL_CAUSE_CAUSE cause).journal 38 26 (bitsOf (sealWord s 1) 28 8) cause

/-- A block accepted: COL_CMDCNT takes its COUNT before the command takes effect (R529). -/
def sealAccept (s : State) : State := s.set R.COL_CMDCNT_COUNT (sealWord s 4).toNat

/-- A key installed in a slot: X in words 5 to 12 and Y in words 13 to 20 of the block. -/
def installKey (s : State) (slot : Nat) (ws : List Word) : State :=
  let s := State.forEach (List.range 16) (fun k s => s.set (R.COL_OKEY_KEY (16 * slot + k)) (bitsOf (ws.getD k 0) 0 32)) s
  setKeyState s slot 1

/-- The endpaper area emptied (R517): EVR_EPBASE takes EVR_NEXT, and a CLEARED record goes to slot 0. -/
def clearEndpaper (s : State) : State :=
  let old := s.records.epBase
  let q := s.records.recorder
  let e := recEntry s ⟨false, 127, 25, BitVec.ofNat 36 old, BitVec.ofNat 36 s.records.epUsed⟩ 3 0
  let s := putRecord s 0x429000 q.next e
  let r := s.records
  let s := { s with records := { r with
    epBase := q.next, epUsed := 1, recorder := { r.recorder with next := (q.next + 1) % 2 ^ 36 } } }
  recordSync ((s.raise R.EVR_EVT_CLEARED).raise R.EVR_EVT_NEW)

/-- CLEAR (R517): EVR_CMD CLEAR written by a master. -/
def evrClear (s : State) (master : Nat) : State :=
  if s.get R.EVR_CMD_STATUS = 1 then s.rsvd master R.EVR_CMD_CODE.addr
  else
    let s := s.set R.EVR_CMD_CODE 1
    if s.dev == .boot || s.dev == .load then s.set R.EVR_CMD_STATUS 3
    else
      let c := sealCause s [2]
      if c ≠ 0 then (sealRefuse s c).set R.EVR_CMD_STATUS 4
      else (clearEndpaper (sealAccept s)).set R.EVR_CMD_STATUS 2

/-- A command of COL_CMD (R525, R526, R543, R612). -/
def colCommand (s : State) (master code : Nat) (run : State → State) : State :=
  if s.get R.COL_CMD_STATUS = 1 then s.rsvd master R.COL_CMD_CODE.addr else run (s.set R.COL_CMD_CODE code)

/-- CLAIM (R525): written by the host in STOP while every slot is EMPTY. -/
def claim (s : State) (master : Nat) : State :=
  colCommand s master 2 fun s =>
    if master ≠ 8 ∨ s.dev ≠ .stop ∨ s.get R.COL_KSTAT_STATE ≠ 0 then s.set R.COL_CMD_STATUS 3
    else
      match sealBlock s 48 with
      | none => (sealRefuse s 1).set R.COL_CMD_STATUS 7
      | some w => ((installKey s 0 (w.drop 5)).journal 37 26 0x10 0).set R.COL_CMD_STATUS 2

/-- What an accepted block of EXEC does (R526), with its KEYSLOT record (R544). -/
def runSealed (s : State) : State :=
  let w1 := sealWord s 1
  let target := bitsOf w1 4 2
  let slot := bitsOf w1 0 2
  match bitsOf w1 28 8 with
  | 3 => (installKey s target ((List.range 16).map fun k => sealWord s (5 + k))).journal 37 26 (target + 0x20) slot
  | 4 => (setKeyState s target 2).journal 37 26 (target + 0x30) slot
  | _ => (s.set R.COL_KSTAT_OWNSIGN (bitsOf (sealWord s 5) 0 1)).journal 37 26 (target + 0x40) slot

/-- COL_CMD EXEC (R526, R528): what it carries out is the OP that the block holds. -/
def colExec (s : State) (master : Nat) : State :=
  colCommand s master 1 fun s =>
    let c := sealCause s [3, 4, 5]
    if c ≠ 0 then (sealRefuse s c).set R.COL_CMD_STATUS 7
    else (runSealed (sealAccept s)).set R.COL_CMD_STATUS 2

/-- The master writes the offset of its block to COL_SBADR before the command that carries it (R527, log 162); with none, the register
stays as it is. -/
def sealAt (s : State) (ofs : Option (BitVec 16)) : State := ofs.elim s fun o => s.set R.COL_SBADR_OFS o.toNat

/-- CLEAR (R517). -/
def execClear (master : Fin 18) (ofs : Option (BitVec 16)) (s : State) : Result :=
  s.serve master fun s => evrClear (sealAt s ofs) master

/-- CLAIM (R525). -/
def execClaim (master : Fin 18) (s : State) : Result := s.serve master fun s => claim s master

/-- INSTALL (R526): COL_CMD EXEC over a block of OP INSTALL. -/
def execInstall (master : Fin 18) (ofs : Option (BitVec 16)) (s : State) : Result :=
  s.serve master fun s => colExec (sealAt s ofs) master

/-- REVOKE (R526): COL_CMD EXEC over a block of OP REVOKE. -/
def execRevoke (master : Fin 18) (ofs : Option (BitVec 16)) (s : State) : Result :=
  s.serve master fun s => colExec (sealAt s ofs) master

/-- SETPOL (R526): COL_CMD EXEC over a block of OP SETPOL. -/
def execSetpol (master : Fin 18) (ofs : Option (BitVec 16)) (s : State) : Result :=
  s.serve master fun s => colExec (sealAt s ofs) master

/-- The words that ATTEST signs, in their order (R543). -/
def attestWords (s : State) : List Word :=
  let of (f : Nat → Fld) : List Word := (List.range 8).map fun i => s.reg (f i).addr
  of R.COL_ANONCE_NONCE ++ [s.reg R.COL_TYPE_TYPE.addr, s.reg R.COL_SER0_SERIAL.addr, s.reg R.COL_SER1_SERIAL.addr] ++
    of R.UPD_FWDIG_DIGEST ++ of R.FOL_DIGEST_DIGEST ++ [s.reg R.COL_CMDCNT_COUNT.addr]

/-- A number from 1 to the order of the curve less 1 that nothing fixes: the per-message secret of a signature (log 2). -/
def secretNumber (s : State) : Nat × State :=
  let r := (List.range 4).foldl (fun (a : Nat × State) _ => let (f, s) := a.2.draw; (a.1 * 2 ^ 72 + f, s)) (0, s)
  (r.1 % (curveN - 1) + 1, r.2)

/-- COL_CMD ATTEST (R543): the signature that the unit private key makes. -/
def attest (s : State) (master : Nat) : State :=
  colCommand s master 3 fun s =>
    let (k, s) := secretNumber s
    let sig := ecdsaSign s.ids.unitKey (shaWords (attestWords s)) k
    let ws := byteWords 8 sig.1 ++ byteWords 8 sig.2
    (State.forEach (List.range 16) (fun i s => s.set (R.COL_ASIG_SIG i) (ws.getD i 0).toNat) s).set R.COL_CMD_STATUS 2

/-- The master writes the nonce to COL_ANONCE before the command (R543, log 162); with none, the registers stay as they are. -/
def nonceAt (s : State) (nonce : Option (Vector (BitVec 32) 8)) : State :=
  nonce.elim s fun w => State.forEach (List.range 8) (fun i s => s.set (R.COL_ANONCE_NONCE i) (w.toList.getD i 0).toNat) s

/-- ATTEST (R543). -/
def execAttest (master : Fin 18) (nonce : Option (Vector (BitVec 32) 8)) (s : State) : Result :=
  s.serve master fun s => attest (nonceAt s nonce) master

end Sys2Proof.Machine
end

