-- ==== Sys2Proof/Machine/Views.lean ====
section
/-!
DEFINITION. Sys2Proof/Machine/Views.lean: reading the record stores by ribbon (R516 to R521), and the rows NEXT, MARK and
WRITE.
-/
namespace Sys2Proof.Machine

/-- The slot addresses of a store: the journal's, or the recorder's endpaper area and text block (R510, R516). -/
def storeSlots (recorder : Bool) : List Nat :=
  if recorder then (List.range 1024).map (0x429000 + 8 * ·) ++ (List.range 10752).map (0x42B000 + 8 * ·)
  else (List.range 4096).map (0x411000 + 8 * ·)

/-- Whether a slot holds a present record (R516). -/
def slotPresent (s : State) (recorder : Bool) (a : Nat) : Bool :=
  let w := s.words a 8
  let seq := (w.getD 0 0).toNat
  decide (seq ≠ 0) && crc32c (packWords (w.take 7)) == bitsOf (w.getD 7 0) 0 32 &&
    (!(recorder && decide (a < 0x42B000)) || seq == s.records.epBase || seqNewer seq s.records.epBase)

/-- SEQ and address of every present record of a store. -/
def presentRecords (s : State) (recorder : Bool) : List (Nat × Nat) :=
  ((storeSlots recorder).filter (slotPresent s recorder)).map fun a => ((s.word a).toNat, a)

/-- How far a SEQ lies behind another, modulo 2^36. -/
def seqAhead (ribbon seq : Nat) : Nat := (seq + 2 ^ 36 - ribbon % 2 ^ 36) % 2 ^ 36

/-- The element with the least key. -/
def leastBy {α : Type} (f : α → Nat) : List α → Option α
  | [] => none
  | x :: xs =>
    match leastBy f xs with
    | none => some x
    | some y => if f x ≤ f y then some x else some y

/-- The SEQ that a store will write next. -/
def storeNext (s : State) (recorder : Bool) : Nat := if recorder then s.records.recorder.next else s.records.journal.next

/-- The ribbon of a view that begins (R518). -/
def viewStart (s : State) (w : List Word) : Nat :=
  let recorder := (w.getD 0 0).msb
  match bitsOf (w.getD 0 0) 33 2 with
  | 0 =>
    let recs := presentRecords s recorder
    let next := storeNext s recorder
    (leastBy (fun r : Nat × Nat => 2 ^ 36 - seqAhead r.1 next) recs).elim next (·.1)
  | 1 => (w.getD 1 0).toNat
  | _ => storeNext s recorder

/-- A view channel attached (R518). -/
def viewAttach (s : State) (i : Nat) : State :=
  let w := (s.channel 8 i).elim [] (·.words)
  let v : RecView := ⟨i, viewStart s w, none, 0⟩
  { s with records := { s.records with views := (s.records.views.filter fun x : RecView => x.idx != i) ++ [v] } }

/-- A view channel detached. -/
def viewDetach (s : State) (i : Nat) : State :=
  { s with records := { s.records with views := s.records.views.filter fun x : RecView => x.idx != i } }

/-- A view. -/
def State.recView (s : State) (i : Nat) : Option RecView := s.records.views.find? (·.idx == i)

/-- A view changed. -/
def State.setView (s : State) (v : RecView) : State :=
  { s with records := { s.records with views := updateFirst (·.idx == v.idx) (fun _ => v) s.records.views } }

/-- A view port command ended. -/
def viewEnd (s : State) (p status err : Nat) : State :=
  let s := (s.set (R.EVR_PCMD_STATUS p) status).set (R.EVR_PCMD_ERR p) err
  s.when (status != 3 && status != 8) (·.portDone p)

/-- The port shows its view's ribbon and skip count. -/
def viewShow (s : State) (p : Nat) (v : RecView) : State :=
  (s.set (R.EVR_PRIB_RIBBON p) v.ribbon).set (R.EVR_PSKIP_SKIP p) v.skip

/-- The next present record of a view within its filter (R519), with the records passed over that are gone. -/
def viewFind (s : State) (v : RecView) (w : List Word) : Option (Nat × Nat × Nat) :=
  let recorder := (w.getD 0 0).msb
  let lo := bitsOf (w.getD 0 0) 8 8
  let hi := bitsOf (w.getD 0 0) 0 8
  let recs := (presentRecords s recorder).filter fun r => decide (seqAhead v.ribbon r.1 < 2 ^ 35)
  let mine := recs.filter fun r =>
    let c := bitsOf (s.word (r.2 + 1)) 28 8
    decide (lo ≤ c) && decide (c ≤ hi)
  (leastBy (fun r => seqAhead v.ribbon r.1) mine).map fun r =>
    let d := seqAhead v.ribbon r.1
    (r.1, r.2, d - (recs.filter fun q => decide (seqAhead v.ribbon q.1 < d)).length)

/-- The records whose CRC fails that a reader skips on its way (R504). -/
def tornSkip (s : State) (recorder : Bool) (ribbon ahead : Nat) : State :=
  let torn := (storeSlots recorder).filter fun a =>
    let w := s.words a 8
    decide ((w.getD 0 0).toNat ≠ 0) && decide (seqAhead ribbon (w.getD 0 0).toNat < ahead) &&
      crc32c (packWords (w.take 7)) != bitsOf (w.getD 7 0) 0 32
  if torn.isEmpty then s else (s.add R.KPR_TORN_COUNT torn.length).raise R.KPR_EVT_TORN

/-- Whether a view's ribbon has reached its end (R519). -/
def viewAtEnd (v : RecView) (seq : Nat) : Bool := v.stopAt.any fun e => e == seq || !seqNewer e seq

/-- NEXT and MARK act on the view that EVR_PHND names, in the states from STOP to SAFE (R519, R521). -/
def viewCommand (s : State) (p code : Nat) (run : RecView → List Word → State → State) : State :=
  if s.get (R.EVR_PCMD_STATUS p) = 1 then s.rsvd p (R.EVR_PCMD_CODE p).addr
  else
    let s := (s.set (R.EVR_PCMD_CODE p) code).set (R.EVR_PCMD_ERR p) 0
    if s.dev == .boot || s.dev == .load then viewEnd s p 3 0
    else
      match handleChannel s (s.reg (R.EVR_PHND_HANDLE p).addr) with
      | .error e => viewEnd s p 5 e
      | .ok ch =>
        if ch.cls ≠ 8 then viewEnd s p 5 2
        else
          match s.recView ch.idx with
          | some v => run v ch.words s
          | none => viewEnd s p 5 5

/-- NEXT (R519). -/
def viewNext (s : State) (p : Nat) : State :=
  viewCommand s p 1 fun v w s =>
    if viewAtEnd v v.ribbon then viewEnd (viewShow s p v) p 7 0
    else
      match viewFind s v w with
      | none => viewEnd (viewShow s p v) p 6 0
      | some (seq, a, gone) =>
        let s := tornSkip s (w.getD 0 0).msb v.ribbon (seqAhead v.ribbon seq)
        if viewAtEnd v seq then viewEnd (viewShow s p v) p 7 0
        else
          let v := { v with ribbon := (seq + 1) % 2 ^ 36, skip := (v.skip + gone) % 2 ^ 36 }
          let s := State.forEach (List.range 8) (fun k s => s.setReg ((R.EVR_PREC_WORD p k).addr) (s.word (a + k))) (s.setView v)
          viewEnd (viewShow s p v) p 2 0

/-- MARK (R519). -/
def viewMark (s : State) (p : Nat) : State :=
  viewCommand s p 2 fun v w s =>
    let v := { v with stopAt := some (storeNext s (w.getD 0 0).msb) }
    viewEnd (viewShow (s.setView v) p v) p 2 0

/-- WRITE (R519): a software record, its SOURCE 32 + p (R509). -/
def viewWriteRec (s : State) (p : Nat) : State :=
  if s.get (R.EVR_PCMD_STATUS p) = 1 then s.rsvd p (R.EVR_PCMD_CODE p).addr
  else
    let s := (s.set (R.EVR_PCMD_CODE p) 3).set (R.EVR_PCMD_ERR p) 0
    let code := bitsOf (s.reg (R.EVR_PREC_WORD p 1).addr) 28 8
    if s.dev == .standby then viewEnd s p 8 0
    else if s.dev == .boot || s.dev == .load || s.dev == .safe then viewEnd s p 3 0
    else if code < 128 then viewEnd s p 5 4
    else
      let s := s.record code (32 + p) (s.reg (R.EVR_PREC_WORD p 5).addr).toNat (s.reg (R.EVR_PREC_WORD p 6).addr).toNat
      viewEnd s p 2 0

/-- NEXT (R519). -/
def execNext (port : Port) (s : State) : Result := s.serve port fun s => viewNext s port

/-- MARK (R519). -/
def execMark (port : Port) (s : State) : Result := s.serve port fun s => viewMark s port

/-- WRITE (R519). -/
def execWrite (port : Port) (s : State) : Result := s.serve port fun s => viewWriteRec s port

end Sys2Proof.Machine
end

