-- ==== Sys2Proof/Machine/Handles.lean ====
section
/-!
DEFINITION. Sys2Proof/Machine/Handles.lean: channels and handles (R99 to R110) with the parameter checks of every class, and
the rows HANDLE_CREATE, HANDLE_DESTROY, HANDLE_QUERY, HANDLE_CHECK and HANDLE_COMMAND_EFFECT.
-/
namespace Sys2Proof.Machine

/-- The handle of a slot (R99). -/
def handleWord (cls gen idx : Nat) : Word := BitVec.ofNat 36 (cls * 2 ^ 30 + gen * 2 ^ 18 + idx)

/-- Size of a class pool. -/
def poolSize (s : State) (cls : Nat) : Nat := if 1 ≤ cls ∧ cls ≤ 9 then s.get (R.HND_POOL_SIZE (cls - 1)) else 0

/-- A slot that a checked CREATE has reserved. -/
def slotReserved (s : State) (cls idx : Nat) : Bool :=
  s.handles.cmds.any fun c => c.checked && c.code == 1 && c.cls == cls && c.idx == idx

/-- A slot that is free and not retired (R101). -/
def slotFree (s : State) (cls idx : Nat) : Bool :=
  (s.channel cls idx).isNone && !slotReserved s cls idx && decide (slotGen s cls idx ≤ 4095)

/-- HND_POOLc of every class: occupied and retired slots (R103). -/
def poolShow (s : State) : State :=
  State.forEach (List.range 9) (fun i s =>
    let used := (s.handles.channels.filter (·.cls == i + 1)).length +
      (s.handles.gens.filter fun g => g.cls == i + 1 && decide (4095 < g.gen)).length
    s.set (R.HND_POOL_USED i) used) s

/-- Bits `lo` to `lo + n − 1` of a word are 0. -/
def zeroBits (w : Word) (lo n : Nat) : Bool := bitsOf w lo n == 0

/-- An F36 that is finite and positive. -/
def fPositive (w : Word) : Bool := !fIsNan w && !fIsInf w && !fSign w && !fIsZero w

/-- A field is one of a list of values. -/
def oneOf (v : Nat) (l : List Nat) : Bool := l.contains v

/-- FCH class word (R375). -/
def fchLegal (w : Word) : Bool :=
  let ty := chType w
  let filt := bitsOf w 28 4
  decide (ty ≤ 5) && zeroBits w 0 11 && chWire w != 3 && chTcyc w != 0 &&
    (ty == 5 || decide (filt ≤ 10)) && (ty != 4 || decide (filt ≤ 3)) &&
    (ty != 5 || chFb w != 3) && (ty == 5 || chSubPol w != 3)

/-- CTR class words (R381). -/
def ctrLegal (w : List Word) : Bool :=
  let a := w.getD 0 0
  bitsOf a 34 2 != 3 && bitsOf a 32 2 != 0 && zeroBits a 5 25

/-- STN class words (R562). -/
def stnLegal (w : List Word) : Bool :=
  let at' (i : Nat) : Word := w.getD i 0
  stnPort (w) != 3 && bitsOf (at' 0) 18 2 != 3 && zeroBits (at' 0) 20 9 && zeroBits (at' 0) 16 2 &&
    zeroBits (at' 1) 32 4 && zeroBits (at' 2) 32 4 && zeroBits (at' 3) 32 4 && zeroBits (at' 5) 0 20

/-- CANB class words (R433). -/
def canLegal (w : List Word) : Bool :=
  let at' (i : Nat) : Word := w.getD i 0
  let tx := canKind w == 2
  canKind w != 3 && (canFmt w != 3 || !tx) && !(canFmt w == 2 && canIde w) && (!tx || bitsOf (at' 1) 32 2 != 3) &&
    bitsOf (at' 2) 16 2 != 3 && (if canKind w = 1 then decide (2 ≤ canDepth w) else canDepth w == 0) &&
    zeroBits (at' 1) 29 3 && zeroBits (at' 3) 24 12 && zeroBits (at' 4) 0 19 && zeroBits (at' 5) 32 4

/-- MTR class words (R404). -/
def mtrLegal (w : List Word) : Bool :=
  let at' (i : Nat) : Word := w.getD i 0
  let ins := [28, 23, 18, 13, 8, 3].map (fun lo => bitsOf (at' 0) lo 5) ++ [bitsOf (at' 1) 31 5]
  let sag := bitsOf (at' 5) 28 8
  oneOf (mtrNet w) [1, 2, 3] && ins.all (fun i => decide (i < 24) || i == 31) &&
    decide (bitsOf (at' 1) 28 3 ≤ 3) && decide (bitsOf (at' 1) 24 4 ≤ 9) && decide (bitsOf (at' 1) 18 2 ≤ 1) &&
    bitsOf (at' 1) 16 2 != 3 && (bitsOf (at' 1) 21 1 == 0 || mtrNet w == 3) &&
    zeroBits (at' 0) 0 3 && zeroBits (at' 1) 20 1 && zeroBits (at' 1) 0 15 && zeroBits (at' 5) 0 8 && zeroBits (at' 6) 0 28 &&
    fPositive (at' 2) && fPositive (at' 3) && fPositive (at' 4) &&
    decide (sag < 100) && decide (100 < bitsOf (at' 5) 20 8) && decide (bitsOf (at' 5) 12 8 < sag)

/-- PQC class words (R421). -/
def pqcLegal (w : List Word) : Bool :=
  let a := w.getD 0 0
  decide (bitsOf a 24 4 ≤ 9) && decide (bitsOf a 20 4 ≤ 6) && bitsOf a 18 2 != 3 && zeroBits a 0 18 && fPositive (w.getD 1 0)

/-- TMR class words (R461). -/
def tmrLegal (w : List Word) : Bool :=
  let a := w.getD 0 0
  bitsOf a 34 2 != 3 && zeroBits a 0 25 &&
    (bitsOf a 34 2 != 2 || (bitsOf a 32 2 != 0 && decide (bitsOf a 30 2 ≤ 1) &&
      (bitsOf a 30 2 == 1 || decide (bitsOf a 25 5 < 24))))

/-- The class words of a class pass R105 and the value limits of the owning chapter: otherwise HND_PARAM, also for a LEN that
is not the class's own (log 154). -/
def paramsLegal (cls : Nat) (w : List Word) : Bool :=
  match cls with
  | 1 => w.length == 1 && fchLegal (w.getD 0 0)
  | 2 => w.length == 6 && stnLegal w
  | 3 => w.length == 6 && canLegal w
  | 4 => w.length == 7 && mtrLegal w
  | 5 => w.length == 2 && pqcLegal w
  | 6 => w.length == 3 && tmrLegal w
  | 7 => w.length == 3 && ctrLegal w
  | 8 => w.length == 2 && bitsOf (w.getD 0 0) 33 2 != 3 && zeroBits (w.getD 0 0) 16 17
  | _ => w.length == 1 && zeroBits (w.getD 0 0) 0 34

/-- The class-specific error of FCH (R376). -/
def fchError (s : State) (idx : Nat) (w : Word) : Option Nat :=
  let peer := fchWord s (chPeer w)
  if chWire w = 2 ∧ (chType w ≠ 5 ∨ chPeer w / 8 ≠ idx / 8 ∨ chType peer ≠ 5 ∨ chWire peer ≠ 0) then some 8
  else if chWire w = 1 ∧ (s.folio.content.bind (·.partner)).isNone then some 9
  else if chType w ≠ 4 ∧ (s.channel 7 idx).isSome then some 10
  else none

/-- The class-specific error of CTR (R381). -/
def ctrError (s : State) (idx : Nat) (w : Word) : Option Nat :=
  let dir := bitsOf w 0 5
  if (s.channel 1 idx).isNone ∨ chType (fchWord s idx) ≠ 4 then some 8
  else if bitsOf w 34 2 = 2 ∧ (dir / 8 ≠ idx / 8 ∨ !chInput (fchWord s dir)) then some 8
  else none

/-- The class-specific error of STN (R562). -/
def stnError (s : State) (idx : Nat) (w : List Word) : Option Nat :=
  let ports := if stnPort w = 2 then [0, 1] else [stnPort w]
  let ins := boundPoints s 2 idx false
  let outs := boundPoints s 2 idx true
  let bits (l : List Point) := (l.filter (!·.word)).length
  let words (l : List Point) := (l.filter (·.word)).length
  let bound := !(ins.isEmpty && outs.isEmpty)
  if ports.any (fun p => s.get (R.ETH_PCFG_MODE p) == 0) || (stnPort w == 2 && s.get R.ETH_CFG_RED == 0) then some 8
  else if 256 < stnNbi w + stnNwi w ∨ 256 < stnNbo w + stnNwo w ∨
      (bound ∧ (bits ins ≠ stnNbi w ∨ words ins ≠ stnNwi w + 1 ∨ bits outs ≠ stnNbo w ∨ words outs ≠ stnNwo w)) then some 9
  else if s.handles.channels.any fun c => c.cls == 2 && c.idx != idx && stnNumber c.words == stnNumber w &&
      (stnPort c.words == 2 || stnPort w == 2 || stnPort c.words == stnPort w) then some 10
  else none

/-- Words of a CANB record area (R434). -/
def canArea (w : List Word) : Nat := if canKind w = 1 then 2 + canDepth w * canRecSize w else canRecSize w

/-- Whether a range of SRAM lies inside a data segment that STRUCT marks ADDRESS_TAKEN (R433). -/
def inTakenSegment (s : State) (a n : Nat) : Bool :=
  match s.folio.content with
  | none => false
  | some c => c.segments.any fun g : Segment => g.addrTaken && g.home == SegHome.sram &&
      (s.placed 3 g.id false).any fun e => decide (e.base ≤ a) && decide (a + n ≤ e.base + g.size)

/-- The class-specific error of CANB (R433), which a 129th buffer of a controller takes (log 155). -/
def canError (s : State) (idx : Nat) (w : List Word) : Option Nat :=
  let n := canCtrl w
  let others := s.handles.channels.filter fun c => c.cls == 3 && c.idx != idx
  let limit := match canFmt w with
    | 0 => 8
    | 1 => 64
    | _ => 2048
  if s.get (R.CAN_CTL_MODE n) = 0 ∨ 128 ≤ (others.filter fun c => canCtrl c.words == n).length then some 8
  else if !inTakenSegment s (canAddr w) (canArea w) || others.any fun c =>
      decide (canAddr w < canAddr c.words + canArea c.words) && decide (canAddr c.words < canAddr w + canArea w) then some 9
  else if (canFmt w = 1 ∧ !s.flag (R.CAN_CTL_FDEN n)) ∨ (canFmt w = 2 ∧ !s.flag (R.CAN_CTL_XLEN n)) ∨ limit < canMaxLen w
    then some 10
  else none

/-- The class-specific error of MTR (R403, R405). -/
def mtrError (s : State) (idx : Nat) (w : List Word) : Option Nat :=
  let v := [28, 23, 18].map fun lo => bitsOf (w.getD 0 0) lo 5
  let i := [13, 8, 3].map fun lo => bitsOf (w.getD 0 0) lo 5
  let neutral := bitsOf (w.getD 1 0) 31 5
  let kind (n : Nat) := s.get (R.MTR_INCFG_KIND n)
  let need : List Bool := match mtrNet w with
    | 1 => [true, false, false]
    | 2 => [true, false, true]
    | _ => [true, true, true]
  let fits (l : List Nat) := (l.zip need).all fun p => p.2 == (p.1 != 31)
  let currents := (i ++ [neutral]).filter (· < 24)
  let taken := s.handles.channels.any fun c => c.cls == 4 && c.idx != idx &&
    (([13, 8, 3].map fun lo => bitsOf (c.words.getD 0 0) lo 5) ++ [bitsOf (c.words.getD 1 0) 31 5]).any fun n =>
      decide (n < 24) && currents.contains n
  if !fits v || !fits i || (mtrNet w == 2 && neutral != 31) || (v.filter (· < 24)).any (fun n => kind n != 1) ||
      currents.any (fun n => !oneOf (kind n) [2, 3, 4]) || taken || !(currents.eraseDups.length == currents.length)
    then some 8 else none

/-- The class-specific error of a class, checked after those of R107. -/
def classError (s : State) (cls idx : Nat) (w : List Word) : Option Nat :=
  let a := w.getD 0 0
  match cls with
  | 1 => fchError s idx a
  | 2 => stnError s idx w
  | 3 => canError s idx w
  | 4 => mtrError s idx w
  | 5 =>
    match bitsOf a 34 2 with
    | 1 => if (s.channel 7 (bitsOf a 28 5)).isNone then some 8 else none
    | 2 => if 24 ≤ bitsOf a 28 5 ∨ pinMode s (bitsOf a 28 5) ≠ 1 then some 8 else none
    | _ => some 8
  | 6 =>
    let period := (w.getD 2 0).toNat
    if bitsOf a 34 2 = 2 ∧ (if bitsOf a 30 2 = 0 then decide (pinMode s (bitsOf a 25 5) ≠ 1)
        else !chInput (fchWord s (bitsOf a 25 5))) then some 8
    else if (if bitsOf a 34 2 = 1 then decide (period < 1000) else decide (period ≠ 0)) then some 9
    else none
  | 7 => ctrError s idx a
  | 8 => if bitsOf a 0 8 < bitsOf a 8 8 then some 8 else none
  | _ => if bitsOf a 34 2 < 2 ∧ s.get (R.NTM_DCFG_MODE (bitsOf a 34 2)) = 0 then some 8 else none

/-- What a new channel starts in its block. -/
def channelAttach (s : State) (cls idx : Nat) (w : List Word) : State :=
  match cls with
  | 1 => configDue (s.set (R.FIO_CCFG_CFG idx) (bitsOf (w.getD 0 0) 11 25))
  | 2 => stnAttach s idx
  | 3 => canAttach s idx
  | 4 => mtrAttach s idx ((w.getD 1 0).getLsbD 15)
  | 5 => pqcAttach s idx ((w.getD 0 0).getLsbD 33)
  | 6 =>
    let t := firstExpiry (s.now + 1000) (w.getD 1 0).toNat
    let list := s.time.tmrs.filter fun x : TmrSt => x.idx != idx
    { s with time := { s.time with tmrs := list ++ [⟨idx, true, false, 0, t, 0⟩] } }
  | 7 => configDue s
  | 8 => viewAttach s idx
  | _ => { s with time := { s.time with tdvs := (s.time.tdvs.filter fun x => x.1 != idx) ++ [(idx, [0, 0, 0, 0])] } }

/-- What a channel leaves in its block when it goes. -/
def channelDetach (s : State) (cls idx : Nat) : State :=
  match cls with
  | 1 => configDue (s.set (R.FIO_CCFG_CFG idx) 0)
  | 2 => stnDetach s idx
  | 3 => canDetach s idx
  | 4 => mtrDetach s idx
  | 5 => pqcDetach s idx
  | 6 => { s with time := { s.time with tmrs := s.time.tmrs.filter fun x : TmrSt => x.idx != idx } }
  | 7 => configDue s
  | 8 => viewDetach s idx
  | _ => { s with time := { s.time with tdvs := s.time.tdvs.filter fun x => x.1 != idx } }

/-- The symbol table binds a channel to the image. -/
def channelBound (s : State) (cls idx : Nat) : Bool :=
  s.points.any fun p : Point => match p.src with
    | .channel c i _ => c == cls && i == idx
    | _ => false

/-- A channel put in force (R106). -/
def channelPut (s : State) (c : Channel) : State :=
  let h := s.handles
  let s := { s with handles := { h with
    channels := (h.channels.filter fun x : Channel => !(x.cls == c.cls && x.idx == c.idx)) ++ [c]
    queried := h.queried.filter fun q : Nat × Nat × List Word => !(q.1 == c.cls && q.2.1 == c.idx) } }
  poolShow (channelAttach s c.cls c.idx c.words)

/-- A slot's generation raised by 1; 4,096 retires it (R101). -/
def genAdvance (s : State) (cls idx : Nat) : State :=
  let g := slotGen s cls idx + 1
  let h := s.handles
  { s with handles := { h with gens := ⟨cls, idx, g⟩ :: h.gens.filter fun x : SlotGen => !(x.cls == cls && x.idx == idx) } }

/-- A channel destroyed (R106). -/
def channelDrop (s : State) (cls idx : Nat) : State :=
  let s := channelDetach s cls idx
  let h := s.handles
  let s := { s with handles := { h with channels := h.channels.filter fun x : Channel => !(x.cls == cls && x.idx == idx) } }
  poolShow (genAdvance s cls idx)

/-- A class is named by the CHANNEL gathering of a staged tip-in (R110, R285). -/
def classStaged (s : State) (cls : Nat) : Bool :=
  match s.olc.staged with
  | some f => decide (s.get R.OLC_STAT_STATE ≤ 3) && f.content.channels.any (·.cls == cls)
  | none => false

/-- A handle port command ended. -/
def handleEnd (s : State) (p status err : Nat) : State :=
  let s := { s with handles := { s.handles with cmds := s.handles.cmds.filter fun c : HandleCmd => c.port != p } }
  let s := (s.set (R.HND_PCMD_STATUS p) status).portDone p
  if err = 0 then s else s.set (R.HND_PERR_CODE p) err

/-- The status that refuses a command in the present state (R110); CREATE and DESTROY differ from QUERY. -/
def handleRefusal (s : State) (query : Bool) : Option Nat :=
  if 0 < s.power.pfStep then some 3
  else
    match s.dev with
    | .boot | .load | .off => some 3
    | .standby => if query then none else some 6
    | .safe => if query then none else some 3
    | _ => none

/-- The parameter block of a port: header and class words. -/
def portBlock (s : State) (p : Nat) : List Word :=
  (List.range 28).map fun k => s.reg (R.HND_PBLK_WORD p k).addr

/-- A command accepted at its port with its argument, its handle and its block as they stand then (log 153), or refused, or
ignored while one is pending (R107, R110, R612). -/
def handleAccept (s : State) (p code : Nat) : State :=
  if s.get (R.HND_PCMD_STATUS p) = 1 then s.rsvd p (R.HND_PCMD_CODE p).addr
  else
    let s := s.set (R.HND_PCMD_CODE p) code
    match handleRefusal s (code == 3) with
    | some st => s.set (R.HND_PCMD_STATUS p) st
    | none =>
      let arg := if code = 1 then s.reg (R.HND_PARG_CLASS p).addr else s.reg (R.HND_PHND_HANDLE p).addr
      let idx := if code = 1 ∧ arg.getLsbD 29 then 2 ^ 18 else bitsOf arg 0 18
      let c : HandleCmd := ⟨p, code, bitsOf arg 30 6, idx, arg :: portBlock s p, false⟩
      ({ s with handles := { s.handles with cmds := s.handles.cmds ++ [c] } }).set (R.HND_PCMD_STATUS p) 1

/-- The class words that a parameter block carries; none when its header breaks R105. -/
def blockWords (cls : Nat) (blk : List Word) : Option (List Word) :=
  let h := blk.getD 0 0
  if bitsOf h 30 6 ≠ cls ∨ bitsOf h 5 25 ≠ 0 ∨ 27 < bitsOf h 0 5 then none else some ((blk.drop 1).take (bitsOf h 0 5))

/-- The index that a CREATE takes: the lowest free one, or the one it names. -/
def createIndex (s : State) (c : HandleCmd) : Option Nat :=
  if c.idx = 2 ^ 18 then (List.range (poolSize s c.cls)).find? fun i => slotFree s c.cls i else some c.idx

/-- Another port's command on a slot that was accepted earlier (R107, R108). -/
def slotBusy (s : State) (c : HandleCmd) (idx : Nat) : Bool :=
  (s.handles.cmds.takeWhile fun x => x.port != c.port).any fun x => x.cls == c.cls && x.idx == idx

/-- The checks of R107 on a CREATE: the error, or the index and the class words. -/
def checkCreate (s : State) (c : HandleCmd) : Except Nat (Nat × List Word) :=
  let size := poolSize s c.cls
  if size = 0 then .error 2
  else if !((List.range size).any fun i => slotFree s c.cls i) then .error 1
  else if c.idx ≠ 2 ^ 18 ∧ (size ≤ c.idx ∨ 4095 < slotGen s c.cls c.idx) then .error 1
  else
    match createIndex s c with
    | none => .error 1
    | some idx =>
      if slotBusy s c idx || !slotFree s c.cls idx || classStaged s c.cls then .error 3
      else
        match blockWords c.cls (c.words.drop 1) with
        | none => .error 4
        | some w =>
          if !paramsLegal c.cls w then .error 4
          else
            match classError s c.cls idx w with
            | some e => .error e
            | none => .ok (idx, w)

/-- The checks of R107 on a DESTROY or a QUERY: the error, or the channel. -/
def checkHandle (s : State) (c : HandleCmd) : Except Nat Channel :=
  match handleChannel s (c.words.getD 0 0) with
  | .error e => .error e
  | .ok ch =>
    if slotBusy s c ch.idx then .error 3
    else if c.code = 2 ∧ (ch.bound ∨ classStaged s ch.cls) then .error 3
    else if c.code = 2 ∧ ch.cls = 1 ∧ (s.channel 7 ch.idx).isSome then .error 10
    else .ok ch

/-- The state of a channel as it stands, in the owning chapter's layout: of a PQC channel, for which no chapter gives one, its
image record (log 133). -/
def queryState (s : State) (c : Channel) : List Word :=
  match c.cls with
  | 1 => [s.reg (R.FIO_CST_IOUT c.idx).addr]
  | 2 => [s.reg (R.STN_ST_STATE c.idx).addr]
  | 4 => ((s.meterCh c.idx).elim [] (·.image)).take 20
  | 5 => (s.meter.pqcs.find? (·.idx == c.idx)).elim [] fun q => (pqcImage s q).1
  | 6 => (s.tmr c.idx).elim [] fun t =>
      [BitVec.ofNat 36 (bitNat t.armed * 2 ^ 35 + bitNat t.missed * 2 ^ 34 + t.count), BitVec.ofNat 36 t.time]
  | 7 => [s.reg (R.FIO_CCNT_COUNT c.idx).addr]
  | 8 => (s.recView c.idx).elim [] fun v => [BitVec.ofNat 36 v.ribbon, BitVec.ofNat 36 v.skip]
  | _ => []

/-- The channels whose state QUERY returns as of the last completed cycle of their class (R109): the owning chapters have CTR
return the live count, MTR its last line cycle, and TDV its last LATCH. -/
def queryHeld (c : Channel) : Bool := oneOf c.cls [1, 2, 5, 6]

/-- The end of a cycle of class `k`: what QUERY returns of its channels until the next one (R109). -/
def queryTake (s : State) (k : Nat) : State :=
  let mine := s.handles.channels.filter fun c => queryHeld c && channelClass s c == some k
  let rest := s.handles.queried.filter fun q : Nat × Nat × List Word => !(mine.any fun c => q.1 == c.cls && q.2.1 == c.idx)
  { s with handles := { s.handles with queried := (mine.map fun c => (c.cls, c.idx, queryState s c)) ++ rest } }

/-- What QUERY returns of a channel after its header: parameters and state (R106, R109). -/
def queryWords (s : State) (c : Channel) : List Word :=
  if c.cls = 9 then (s.time.tdvs.find? (·.1 == c.idx)).elim [] (·.2)
  else
    match s.handles.queried.find? fun q => q.1 == c.cls && q.2.1 == c.idx with
    | some q => c.words ++ q.2.2
    | none => c.words ++ queryState s c

/-- QUERY's answer in the parameter block (R105, R106). -/
def queryAnswer (s : State) (p : Nat) (c : Channel) : State :=
  let w := queryWords s c
  let head := BitVec.ofNat 36 (c.cls * 2 ^ 30 + w.length)
  State.forEach ((head :: w).zipIdx) (fun (x : Word × Nat) s => s.setReg (R.HND_PBLK_WORD p x.2).addr x.1) s

/-- A checked CREATE or DESTROY takes effect (R106, R109). -/
def handleEffect (s : State) (c : HandleCmd) : State :=
  if c.code = 1 then
    let s := channelPut { s with handles := { s.handles with
      cmds := s.handles.cmds.filter fun x : HandleCmd => x.port != c.port } }
      ⟨c.cls, c.idx, c.words, channelBound s c.cls c.idx, false⟩
    let s := s.setReg (R.HND_PHND_HANDLE c.port).addr (handleWord c.cls (slotGen s c.cls c.idx) c.idx)
    handleEnd s c.port 2 0
  else handleEnd (channelDrop s c.cls c.idx) c.port 2 0

/-- Whether a command waits for its class's idle gap (R109): never in STOP, nor for a halted class. -/
def effectWaits (s : State) (ch : Channel) : Bool :=
  match channelClass s ch with
  | none => false
  | some c => (s.dev == .run || s.dev == .halt || s.dev == .standby) && s.getBit R.CYC_STAT_CONF c &&
      !s.getBit R.CYC_STAT_HALTED c

/-- A checked command may take effect now (R109): no class cycle holds it back, or its class is in an idle gap. In HALT it
waits for the resume (R110). -/
def effectNow (s : State) (ch : Channel) : Bool :=
  !effectWaits s ch || (s.dev != .halt && (channelClass s ch).all fun k => (s.cls k).phase == .idle)

/-- A command's slot and class words put into the list of commands in progress. -/
def handleChecked (s : State) (c : HandleCmd) : State :=
  { s with handles := { s.handles with
    cmds := updateFirst (fun x : HandleCmd => x.port == c.port) (fun _ => c) s.handles.cmds } }

/-- HANDLE_CHECK (R107, R109): the house core checks a port's command; one that no class cycle holds back takes effect. -/
def handleCheck (s : State) (p : Nat) : State :=
  match s.handles.cmds.find? fun c : HandleCmd => c.port == p && !c.checked with
  | none => s
  | some c =>
    if c.code = 1 then
      match checkCreate s c with
      | .error e => handleEnd s p 5 e
      | .ok (idx, w) =>
        let c := { c with idx := idx, words := w, checked := true }
        let s := handleChecked s c
        if effectNow s ⟨c.cls, idx, w, false, false⟩ then handleEffect s c else s
    else
      match checkHandle s c with
      | .error e => handleEnd s p 5 e
      | .ok ch =>
        if c.code = 3 then handleEnd (queryAnswer s p ch) p 2 0
        else
          let c := { c with idx := ch.idx, checked := true }
          let s := handleChecked s c
          if effectNow s ch then handleEffect s c else s

/-- HANDLE_COMMAND_EFFECT (R109): a checked command takes effect once its class is in an idle gap; in HALT it waits. -/
def handleCommandEffect (s : State) (p : Nat) : State :=
  match s.handles.cmds.find? fun c : HandleCmd => c.port == p && c.checked with
  | none => s
  | some c =>
    let ch : Channel := (s.channel c.cls c.idx).getD ⟨c.cls, c.idx, c.words, false, false⟩
    if effectNow s ch then handleEffect s c else s

/-- Accepted commands not yet in effect are abandoned (R110): their STATUS reads `status`. -/
def handleAbandon (s : State) (status : Nat) : State :=
  State.forEach s.handles.cmds (fun c s => handleEnd s c.port status 0) s

/-- HANDLE_CREATE (R106). -/
def execHandleCreate (port : Port) (s : State) : Result := s.serve port fun s => handleAccept s port 1

/-- HANDLE_DESTROY (R106). -/
def execHandleDestroy (port : Port) (s : State) : Result := s.serve port fun s => handleAccept s port 2

/-- HANDLE_QUERY (R106). -/
def execHandleQuery (port : Port) (s : State) : Result := s.serve port fun s => handleAccept s port 3

end Sys2Proof.Machine
end

