-- ==== Sys2Proof/Machine/SpineBase.lean ====
section
/-!
DEFINITION. Sys2Proof/Machine/SpineBase.lean: what the other blocks ask of the spine and twin units: this device's role
and address, the time bounds of a loop (R316, R323, R332, R127), acceptance of a frame (R320, R351), and the spine frames
that the device sends.
-/
namespace Sys2Proof.Machine

/-- A standalone device: no folio, or one without workers and partner (R36). -/
def State.standalone (s : State) : Bool := s.content.all (·.standalone)

/-- The acting manager of a spine system (R315, R345). -/
def State.acting (s : State) : Bool := s.flag R.SPN_STAT_ACTING

/-- A worker or worker twin by the folio's role, or by the ROLE straps while none is in force (R36). -/
def State.isWorker (s : State) : Bool :=
  match s.content with
  | some c => c.role % 2 == 1
  | none => s.get R.RST_STRAP_ROLE % 2 == 1

/-- The nodes that the formulas count on a loop (R316, R323): 2N − 1 while the loop is broken. -/
def loopNodes (s : State) (b : Bool) : Nat :=
  let n := if b then s.get R.SPN_STAT_NB else s.get R.SPN_STAT_NA
  let st := if b then s.get R.SPN_STAT_LOOPB else s.get R.SPN_STAT_LOOPA
  if st = 2 then 2 * n - 1 else n

/-- T_B of a loop in nanoseconds (R332). -/
def loopTime (s : State) (b : Bool) : Nat := 800 + (loopNodes s b + 1) * 64

/-- T_B of the system: the loop with the larger time (R332). -/
def broadcastTime (s : State) : Nat := max (loopTime s false) (loopTime s true)

/-- The commit check lead K in units of 125 ns (R127). -/
def checkLead (s : State) : Nat := if s.standalone then 4 else ceilDiv (broadcastTime s + 1000) 125

/-- A frame recorded as sent: the last of its type and class. -/
def spineSend (s : State) (type cls tref : Nat) (payload : List Word) : State :=
  { s with spine := { s.spine with
    sent := ⟨type, cls, tref % 2 ^ 36, payload⟩ ::
      s.spine.sent.filter (fun f : SentFrame => !(f.type == type && f.cls == cls)) } }

/-- DISCOVER frames go out on every configured lane (R342). -/
def discoverBegin (s : State) : State :=
  spineSend { s with spine := { s.spine with discovering := true, records := [] } } 3 8 s.now []

/-- A lane in service (R321). -/
def laneUp (s : State) (i : Nat) : Bool := s.flag (R.SPN_LANE_LINK i) && !s.flag (R.SPN_LANE_WRAP i)

/-- A spine frame that reaches this node (R320): a copy that fails its check is counted and ignored; the second copy of
a frame is discarded; otherwise the state that remembers it. False where the node does not take the frame. Both members of a
pair take SCATTER and FEED frames (R331, R273). -/
def spineAccept (s : State) (type : Nat) (h : FrameHead) : State × Bool :=
  let pair := (type == 5 || type == 6) && h.dst / 2 == s.spine.addr / 2
  if !h.crcOk then (s.add (R.SPN_LANE_CRCERR (h.lane % 4)) 1, false)
  else if !(h.all || h.dst == s.spine.addr || pair) then (s, false)
  else if s.spine.lastSeq.contains (h.src, type, h.seq % 2 ^ 24) then (s, false)
  else
    ({ s with spine := { s.spine with
      lastSeq := (h.src, type, h.seq % 2 ^ 24) ::
        s.spine.lastSeq.filter (fun x : Nat × Nat × Nat => !(x.1 == h.src && x.2.1 == type)) } }, true)

/-- A twin frame that arrives (R351): as `spineAccept`, by type and sequence number. -/
def twinAccept (s : State) (type : Nat) (h : FrameHead) : State × Bool :=
  if !h.crcOk then (s, false)
  else if s.twin.lastSeq.contains (type, h.seq % 2 ^ 24) then (s, false)
  else
    ({ s with twin := { s.twin with
      lastSeq := (type, h.seq % 2 ^ 24) ::
        s.twin.lastSeq.filter (fun x : Nat × Nat => x.1 != type) } }, true)

/-- What the acting manager knows of a node. -/
def State.node (s : State) (a : Nat) : Option NodeSt := s.spine.nodes.find? (·.addr == a)

/-- A node's knowledge replaced. -/
def State.setNode (s : State) (n : NodeSt) : State :=
  { s with spine := { s.spine with nodes := n :: s.spine.nodes.filter (fun m : NodeSt => m.addr != n.addr) } }

/-- The grain of the ladder clock, which counts on across resets (R484). -/
def ladderGrain (s : State) : Nat := s.get R.WDG_LCLK_GRAIN

/-- The grains since a grain of the ladder clock, which counts modulo 2^36 (WDG_LCLK; log 108). -/
def grainsBetween (g h : Nat) : Nat := (h + 2 ^ 36 - g % 2 ^ 36) % 2 ^ 36
def grainsSince (s : State) (g : Nat) : Nat := grainsBetween g (ladderGrain s)

end Sys2Proof.Machine
end

