-- ==== Sys2Proof/Machine/Memory.lean ====
section
/-!
DEFINITION. Sys2Proof/Machine/Memory.lean: the word address map (R602), errors of the word memory (R254, R255) and its
scrubbers (R256).
-/
namespace Sys2Proof.Machine

/-- The ranges of R602. -/
inductive Region where
  | sram | house | keeper | mirror | retain | image | remote | regs | reserved
  deriving DecidableEq, Repr

/-- The range that holds a word address (R602). -/
def regionOf (a : Nat) : Region :=
  if a < 0x3F0000 then .sram
  else if a < 0x400000 then .house
  else if a < 0x440000 then .keeper
  else if a < 0x450000 then .mirror
  else if a < 0x500000 then .reserved
  else if a < 0x510000 then .retain
  else if a < 0x600000 then .reserved
  else if a < 0x800000 then .image
  else if a < 0xC00000 then .remote
  else if a < 0xC20000 then .regs
  else .reserved

/-- The ranges whose words carry check bits (R254). -/
def Region.checked : Region → Bool
  | .sram | .house | .mirror | .retain | .image => true
  | _ => false

/-- The banks that a scrubber reads (R250, R256). -/
def Region.scrubbed : Region → Bool
  | .sram | .house | .mirror | .retain => true
  | _ => false

/-- An uncorrectable error reported (R255), with the number of the master in the MEMUNC record (R511, R608); the keeper
counts its own errors (R499). -/
def memError (s : State) (a master : Nat) : State :=
  if inKeeper a then ((s.add R.KPR_ECCUNC_COUNT 1).raise R.KPR_EVT_UNC).journal 8 23 a master
  else
  let s := (s.add R.IMP_ECCUNC_COUNT 1).set R.IMP_ECCADR_ADDR a
  (s.raise R.IMP_MEMEVT_UNC).journal 8 9 a master

/-- Whether a word is poisoned (R255). -/
def State.poisoned (s : State) (a : Nat) : Bool := s.poison.contains a

/-- A read of a word of memory by a master: none for a poisoned word, which reports its error again (R255). -/
def readMem (s : State) (a master : Nat) : Option Word × State :=
  if s.poisoned a then (none, memError s a master) else (some (s.word a), s)

/-- The scrubber's read of a word (R254 to R256): 1 a correctable error, written back; 2 an uncorrectable error, which
poisons the word. R608 numbers no scrubber, so the record's master is a free value. For a keeper word, which has its
own checks (R499), and for a word of the image windows, which no bank holds, the command is the read that meets the
error. -/
def memoryScrub (s : State) (a kind : Nat) : State :=
  if inKeeper a then
    if kind = 2 ∨ s.poisoned a then
      let (m, s) := s.draw
      let s := if s.poisoned a then s else { s with poison := a :: s.poison }
      memError s a (m % 32)
    else if kind = 1 then (s.add R.KPR_ECCCOR_COUNT 1).raise R.KPR_EVT_COR
    else s
  else if !(regionOf a).checked then s
  else if kind = 2 ∨ s.poisoned a then
    let (m, s) := s.draw
    let s := if s.poisoned a then s else { s with poison := a :: s.poison }
    (memError s a (m % 32)).when (regionOf a).scrubbed (·.raise R.IMP_MEMEVT_SCRUB)
  else if kind = 1 then (s.add R.IMP_ECCCOR_COUNT 1).raise R.IMP_MEMEVT_COR
  else s

/-- MEMORY_SCRUB (R256): the address, and what the scrubber finds: 0 no error, 1 correctable, 2 uncorrectable. -/
def execMemoryScrub (addr : BitVec 24) (kind : Fin 3) (s : State) : Result :=
  s.answer (if s.powered then memoryScrub s addr.toNat kind else s)

end Sys2Proof.Machine
end

