-- ==== Sys2Proof/Machine/Imposer.lean ====
section
/-!
DEFINITION. Sys2Proof/Machine/Imposer.lean: what the imposer places and where (R263, R264), the timing check (R265,
R266, R275), the sheet (R279), the planes that hold a placement (R173, R174) and the tiles that it leaves unused (R51).
Times are picoseconds unless a name says otherwise.
-/
namespace Sys2Proof.Machine

/-- The sum of two fractions. -/
def fracAdd (a b : Nat × Nat) : Nat × Nat := (a.1 * b.2 + b.1 * a.2, a.2 * b.2)

/-- Whether a fraction is less than another. -/
def fracLt (a b : Nat × Nat) : Bool := decide (a.1 * b.2 < b.1 * a.2)

/-- An item put into a list in descending order of weight, behind every item of its weight. -/
def insertWeight {α : Type} (w : α → Nat × Nat) (x : α) : List α → List α
  | [] => [x]
  | y :: ys => if fracLt (w y) (w x) then x :: y :: ys else y :: insertWeight w x ys

/-- Items in descending order of weight, ties in STRUCT order (R264). -/
def byWeight {α : Type} (w : α → Nat × Nat) (xs : List α) : List α := xs.foldl (fun acc x => insertWeight w x acc) []

/-- The first place of a list with the least load. -/
def leastLoad (load : Nat → Nat × Nat) : List Nat → Option Nat
  | [] => none
  | p :: ps =>
    match leastLoad load ps with
    | none => some p
    | some q => if fracLt (load q) (load p) then some q else some p

/-- A hinted place where it is admissible, otherwise the least loaded (R264). -/
def choosePlace (load : Nat → Nat × Nat) (hint : Option Nat) (ok : List Nat) : Option Nat :=
  match hint with
  | some h => if ok.contains h then some h else leastLoad load ok
  | none => leastLoad load ok

/-- A core unit's weight (R264). -/
def coreWeight (s : State) (u : CoreUnit) : Nat × Nat :=
  match u.event, u.minInterval with
  | none, _ => (u.bound, max 1 (classPeriod s u.cls))
  | some _, some m => if m = 0 then (0, 1) else (u.bound, m)
  | some _, none => (0, 1)

/-- A pass's time (R161). -/
def passTime (u : FabricUnit) : Nat := 40000 + 2500 * u.levels

/-- A fabric unit's weight (R264). -/
def fabricWeight (s : State) (u : FabricUnit) : Nat × Nat := (u.passes * passTime u, max 1 (classPeriod s u.cls * 1000))

/-- What a unit takes of a quire (R156, R178): leaves, timers, counters, input and output taps, units, reflex leaves, arm
bits, TRIP leaves. -/
def quireNeed (u : FabricUnit) : List Nat :=
  [u.leafCount, u.timerCount, u.counterCount, u.inTaps.length, u.outTaps.length / 2, 1, u.reflex.length / 4, u.arms.length,
   ((List.range (u.reflex.length / 4)).filter fun i => reflexKind u i == 2).length]

/-- What a quire holds. -/
def quireRoom : List Nat := [32768, 2048, 2048, 8192, 4096, 64, 32, 32, 4]

/-- Whether a list of units fits in one quire. -/
def quireFits (us : List FabricUnit) : Bool :=
  let sum := us.foldl (fun acc u => (acc.zip (quireNeed u)).map fun p => p.1 + p.2) [0, 0, 0, 0, 0, 0, 0, 0, 0]
  (sum.zip quireRoom).all fun p => decide (p.1 ≤ p.2)

/-- The range of an SRAM bank; bank 15 loses the house core's range (R211, R250). -/
def bankEnd (b : Nat) : Nat := if b = 15 then 0x3F0000 else 0x40000 * (b + 1)

/-- The lowest place from `lo` on that holds a number of words or leaves below `hi`, clear of the ranges in use. -/
def firstFit (occ : List (Nat × Nat)) (lo hi size : Nat) : Option Nat :=
  let starts := lo :: (occ.map fun o => o.1 + o.2).filter fun a => decide (lo ≤ a)
  let good := starts.filter fun a => decide (a + size ≤ hi) &&
    occ.all fun o => decide (a + size ≤ o.1) || decide (o.1 + o.2 ≤ a)
  good.foldl (fun m a => some (m.elim a (min a))) none

/-- The lowest place in a bank that a number of words fits in, beside those in use. -/
def bankFit (occ : List (Nat × Nat)) (b size : Nat) : Option Nat := firstFit occ (0x40000 * b) (bankEnd b) size

/-- The words that items take in a bank. -/
def bankLoad (occ : List (Nat × Nat)) (b : Nat) : Nat :=
  ((occ.filter fun o => o.1 / 0x40000 == b).map (·.2)).foldl (· + ·) 0

/-- A new entry of the sheet. -/
def sheetNew (kind id cls place base size : Nat) (pin : Bool) : SheetEntry :=
  ⟨kind, id, cls, pin, false, false, 0, 0, place, base, size, 0, 0, []⟩

/-- Core units put on cores one after another (R264): the pairs of unit and core. An event task without a minimum
interval goes only where it preempts no class work (R266). -/
def placeCores (s : State) : List CoreUnit → List (CoreUnit × Nat) → Option (List (CoreUnit × Nat))
  | [], acc => some acc
  | u :: us, acc =>
    let load k := ((acc.filter fun p : CoreUnit × Nat => p.2 == k).map fun p => coreWeight s p.1).foldl fracAdd (0, 1)
    let ok := (List.range 8).filter fun k => match u.event, u.minInterval with
      | some e, none => !(acc.any fun p : CoreUnit × Nat => p.2 == k && p.1.event.isNone &&
          decide (s.get (R.CYC_ETCFG_PRIO e) ≤ p.1.cls))
      | _, _ => true
    match (match u.fixed with
      | some k => some k
      | none => choosePlace load u.hint ok) with
    | some k => placeCores s us (acc ++ [(u, k)])
    | none => none

/-- Fabric units put on quires (R264). -/
def placeFabric (s : State) (dis : Nat → Bool) : List FabricUnit → List (FabricUnit × Nat) → Option (List (FabricUnit × Nat))
  | [], acc => some acc
  | u :: us, acc =>
    let on k := (acc.filter fun p : FabricUnit × Nat => p.2 == k).map (·.1)
    let load k := ((on k).map (fabricWeight s)).foldl fracAdd (0, 1)
    let ok := (match u.fixed with
      | some k => [k]
      | none => List.range 8).filter fun k => !dis k && quireFits (u :: on k)
    match choosePlace load u.hint ok with
    | some k => placeFabric s dis us (acc ++ [(u, k)])
    | none => none

/-- An item of the word memory: kind 1 the code of a core unit, 3 a segment, 4 a context block; its number, size, fixed
bank, hint, and the segment it is kept apart from. -/
structure MemItem where
  kind : Nat
  id : Nat
  size : Nat
  fixed : Option Nat
  hint : Option Nat
  apart : Option Nat
  deriving DecidableEq, Repr

/-- Items put into banks (R264): item and base. -/
def placeMem : List MemItem → List (MemItem × Nat) → Option (List (MemItem × Nat))
  | [], acc => some acc
  | x :: xs, acc =>
    let occ := acc.map fun p : MemItem × Nat => (p.2, p.1.size)
    let far b := acc.all fun p : MemItem × Nat => !(p.1.kind == 3 && x.kind == 3 &&
      (x.apart == some p.1.id || p.1.apart == some x.id) && p.2 / 0x40000 == b)
    let ok := (match x.fixed with
      | some b => [b]
      | none => List.range 16).filter fun b => far b && (bankFit occ b x.size).isSome
    match choosePlace (fun b => (bankLoad occ b, 1)) x.hint ok with
    | some b =>
      match bankFit occ b x.size with
      | some a => placeMem xs (acc ++ [(x, a)])
      | none => none
    | none => none

/-- The items of the word memory in the order of placement: fixed segments, context blocks, then segments and code by
size. The manual names no kind for code words; they are placed with the data segments (log 18). -/
def memItems (c : FolioContent) : List MemItem :=
  let segs := (c.segments.filter fun g => g.home == .sram).map fun g => ⟨3, g.id, g.size, g.fixed, g.hint, g.apart⟩
  let code := c.cores.map fun u => ⟨1, u.id, u.code.length, none, none, none⟩
  let ctx := c.cores.map fun u => ⟨4, u.id, 64, none, none, none⟩
  let rest := (segs.filter fun i : MemItem => i.fixed.isNone) ++ code
  (segs.filter fun i : MemItem => i.fixed.isSome) ++ ctx ++ byWeight (fun i : MemItem => (i.size, 1)) rest

/-- Where an item of the word memory lies. -/
def memBase (ms : List (MemItem × Nat)) (kind id : Nat) : Nat :=
  match ms.find? fun p => p.1.kind == kind && p.1.id == id with
  | some p => p.2
  | none => 0

/-- The first leaf of a unit within its quire: the leaves of the units placed there before it. -/
def firstLeaf (fs : List (FabricUnit × Nat)) (id q : Nat) : Nat :=
  ((fs.takeWhile fun p => p.1.id != id).filter fun p => p.2 == q).foldl (fun n p => n + p.1.leafCount) 0

/-- The sheet of a content (R264, R279): none where an item finds no resource. -/
def placeAll (s : State) (dis : Nat → Bool) (c : FolioContent) : Option (List SheetEntry) :=
  let coreOrder := (c.cores.filter fun u => u.fixed.isSome) ++
    byWeight (coreWeight s) (c.cores.filter fun u => u.fixed.isNone)
  let fabOrder := (c.fabrics.filter fun u => u.fixed.isSome) ++
    byWeight (fabricWeight s) (c.fabrics.filter fun u => u.fixed.isNone)
  match placeCores s coreOrder [], placeFabric s dis fabOrder [], placeMem (memItems c) [] with
  | some cs, some fs, some ms =>
    let at' {α : Type} (xs : List (α × Nat)) (f : α → Bool) : Nat := (xs.find? fun p => f p.1).elim 0 (·.2)
    let cores := c.cores.map fun u => sheetNew 1 u.id u.cls (at' cs fun v => v.id == u.id) (memBase ms 1 u.id)
      (ceilDiv u.code.length 64) u.fixed.isSome
    let fabs := c.fabrics.map fun u =>
      let q := at' fs fun v => v.id == u.id
      sheetNew 2 u.id u.cls q (firstLeaf fs u.id q) u.leafCount u.fixed.isSome
    let segs := (c.segments.filter fun g => g.home == .sram).map fun g =>
      let b := memBase ms 3 g.id
      sheetNew 3 g.id 0 (b / 0x40000) b (ceilDiv g.size 64) g.fixed.isSome
    let ctxs := c.cores.map fun u =>
      let b := memBase ms 4 u.id
      sheetNew 4 u.id u.cls (b / 0x40000) b 1 false
    some (cores ++ fabs ++ segs ++ ctxs)
  | _, _, _ => none

/-- The configured classes. -/
def configuredClasses (s : State) : List Nat := (List.range 8).filter fun c => s.get (R.CYC_PER_TICKS c) != 0

/-- The core units placed on this device's cores by a sheet. -/
def sheetUnits (c : FolioContent) (foreign : List CoreUnit) (sheet : List SheetEntry) : List (CoreUnit × Nat) :=
  sheet.filterMap fun e =>
    if e.kind == 1 && !e.remote then
      ((if e.foreign then foreign else c.cores).find? (·.id == e.id)).map (·, e.place)
    else none

/-- The response iteration of R266 and R275: none above the limit. -/
def respond (base : Nat) (hs : List (Nat × Nat)) (limit : Nat) : Nat → Nat → Option Nat
  | 0, _ => none
  | fuel + 1, prev =>
    let r := base + (hs.map fun h => ceilDiv prev (max 1 h.1) * h.2).foldl (· + ·) 0
    if limit < r then none else if r = prev then some r else respond base hs limit fuel r

/-- Steps that suffice: every step before the last adds at least 0.25 µs. -/
def respondFuel (limit : Nat) : Nat := limit / 250000 + 3

/-- The response of class `k` on one core, given the units there (R266). -/
def coreResponse (s : State) (us : List CoreUnit) (k : Nat) : Option Nat :=
  let work (h : Nat) := ((us.filter fun u => u.event.isNone && u.cls == h).map (·.bound * 1000)).foldl (· + ·) 0
  let w := work k
  if w = 0 then some 0
  else
    let evs := us.filter fun u => match u.event with
      | some e => decide (s.get (R.CYC_ETCFG_PRIO e) ≤ k)
      | none => false
    if evs.any fun u => u.minInterval.all (· == 0) then none
    else
      let hs := ((configuredClasses s).filter fun h => decide (h < k) && work h != 0).map
        fun h => (classPeriod s h * 1000, work h + 250000)
      let es := evs.map fun u => (u.minInterval.getD 1 * 1000, u.bound * 1000 + 250000)
      let limit := classOffset s k * 1000
      respond w (hs ++ es) limit (respondFuel limit) w

/-- The fabric part of class `k` (R266). -/
def fabricPart (c : FolioContent) (sheet : List SheetEntry) (k : Nat) : Nat :=
  (List.range 8).foldl (fun m q =>
    let us := c.fabrics.filter fun u => u.cls == k && u.passes != 0 &&
      sheet.any fun e => e.kind == 2 && e.id == u.id && e.place == q
    if us.isEmpty then m else max m ((us.map fun u => u.passes * passTime u).foldl (· + ·) 680000)) 0

/-- The node address of an entry placed on a worker, or of its pair: loop and node of R279. -/
def SheetEntry.addr (e : SheetEntry) : Nat := 64 * e.loop + 2 * e.node

/-- The core units that a sheet places on a core of a worker, by node address. -/
def remoteOn (c : FolioContent) (sheet : List SheetEntry) (addr core : Nat) : List CoreUnit :=
  sheet.filterMap fun e =>
    if e.kind == 1 && e.remote && e.addr == addr && e.place == core then c.cores.find? (·.id == e.id) else none

/-- The work of class `h` on a worker's core under a sheet (R275): the worker's report, without the units counted in it, and
the units that the sheet places there. -/
def remoteWork (s : State) (c : FolioContent) (sheet : List SheetEntry) (node addr core h : Nat) : Nat :=
  let works := ((s.node node).bind (·.status)).elim [] (·.works)
  let told := (works.filter fun w => w.1 == core && w.2.1 == h).foldl (fun n w => n + w.2.2 * 1000) 0
  let sum (us : List CoreUnit) : Nat := (us.filter (·.cls == h)).foldl (fun n u => n + u.bound * 1000) 0
  let counted := (s.imposer.counted.filter fun x => x.1 == node && x.2.1 == core).filterMap fun x =>
    c.cores.find? (·.id == x.2.2)
  told - sum counted + sum (remoteOn c sheet addr core)

/-- The response of class `k` on a worker's core under a sheet (R266, R275). -/
def workerResponse (s : State) (c : FolioContent) (sheet : List SheetEntry) (node addr core k : Nat) : Option Nat :=
  let work := remoteWork s c sheet node addr core
  let hs := ((configuredClasses s).filter fun h => decide (h < k) && work h != 0).map
    fun h => (classPeriod s h * 1000, work h + 250000)
  let limit := classOffset s k * 1000
  respond (work k) hs limit (respondFuel limit) (work k)

/-- The greatest of several bounds, none when one is unbounded. -/
def maxBound : List (Option Nat) → Option Nat
  | [] => some 0
  | none :: _ => none
  | some a :: rest => (maxBound rest).map (max a)

/-- A device that takes relocatable units (R273): marked as hosting, in RUN and not lost. -/
def hostsNow (s : State) (c : FolioContent) (node : Nat) : Bool :=
  (c.nodes.any fun n => n.addr == node && n.hosting) &&
    (s.node node).any fun n => !n.lost && n.status.any (·.state == 4)

/-- The devices at a node address that take units: both of a twin pair run a unit (R273). -/
def hostMembers (s : State) (c : FolioContent) (addr : Nat) : List Nat := [addr, addr + 1].filter (hostsNow s c)

/-- The remote path bound T of a unit on a worker's core under a sheet (R275); of a pair, the later device's. -/
def remotePath (s : State) (c : FolioContent) (sheet : List SheetEntry) (u : CoreUnit) (addr core : Nat) : Option Nat :=
  match maxBound ((hostMembers s c addr).map fun n => workerResponse s c sheet n addr core u.cls) with
  | none => none
  | some resp =>
    let bar := loopTime s (decide (64 ≤ addr)) * 1000
    let base := bar + u.feedBytes * 800 + resp + bar + u.returnBytes * 800
    let hs := ((configuredClasses s).filter fun h => decide (h < u.cls)).map fun h =>
      (classPeriod s h * 1000, (s.get (R.CYC_BG_BOUND h) + s.get (R.CYC_BX_BOUND h)) * 125000)
    let limit := classOffset s u.cls * 1000
    respond base hs limit (respondFuel limit + limit / 125000) base

/-- S'_c of a sheet in 125 ns (R266). A unit on a worker that is lost has no path to bound: it waits for the loss move. -/
def solveBound (s : State) (c : FolioContent) (sheet : List SheetEntry) (k : Nat) : Option Nat :=
  let us := sheetUnits c s.imposer.foreignUnits sheet
  let cores := (List.range 8).map fun i => coreResponse s ((us.filter fun p => p.2 == i).map (·.1)) k
  let far := sheet.filter fun e => e.kind == 1 && e.remote && !(hostMembers s c e.addr).isEmpty
  let remotes := far.map fun e => match c.cores.find? (·.id == e.id) with
    | some u => if u.cls = k then remotePath s c sheet u e.addr e.place else some 0
    | none => some 0
  (maxBound (cores ++ remotes)).map fun r => ceilDiv (fabricPart c sheet k + r) 125000

/-- The left side of R265 in 125 ns. -/
def timingLeft (s : State) (k bound : Nat) : Nat :=
  40 + s.get (R.CYC_BG_BOUND k) + bound + s.get (R.CYC_BX_BOUND k) + max (s.get (R.CYC_BD_BOUND k)) (checkLead s)

/-- The timing check with a margin in 64ths of O_c (R265). -/
def timingFits (s : State) (c : FolioContent) (sheet : List SheetEntry) (margin : Nat) : Bool :=
  (configuredClasses s).all fun k =>
    match solveBound s c sheet k with
    | some b => decide (64 * timingLeft s k b + margin * s.get (R.CYC_OFS_OFS k) ≤ 64 * s.get (R.CYC_OFS_OFS k))
    | none => false

/-- The sheet in force and its figures (R266, R279), with the place of the snapshot segment (R334). -/
def sheetPut (s : State) (c : FolioContent) (sheet : List SheetEntry) : State :=
  let s := { s with imposer := { s.imposer with sheet := sheet } }
  let s := match c.snapshot with
    | some (id, period) =>
      (s.set R.SPN_SNAPBASE_ADDR ((sheet.find? fun (e : SheetEntry) => e.kind == 3 && e.id == id).elim 0 (·.base))).set
        R.SPN_SNAPCTL_PERIOD period
    | none => s
  let s := (s.set R.IMP_SCOUNT_COUNT sheet.length).setFlag R.IMP_STAT_REMOTE (sheet.any (·.remote))
  State.forEach (configuredClasses s) (fun k s =>
    match solveBound s c sheet k with
    | some b => (s.set (R.IMP_PS_S k) b).set (R.IMP_PMARG_MARG k)
        (natOfInt 24 ((s.get (R.CYC_OFS_OFS k) : Int) - timingLeft s k b))
    | none => s) s

/-- The first three words of an entry as a sheet port shows them (R279). -/
def SheetEntry.words (e : SheetEntry) : List Word :=
  [BitVec.ofNat 36 (e.kind % 8 * 2 ^ 33 + bitNat e.pin * 2 ^ 32 + bitNat e.foreign * 2 ^ 31 + bitNat e.remote * 2 ^ 30 +
     e.loop % 2 * 2 ^ 29 + e.node % 32 * 2 ^ 24 + e.place % 16 * 2 ^ 20 + e.cls % 8 * 2 ^ 16 + e.id % 2 ^ 16),
   BitVec.ofNat 36 (e.base % 2 ^ 24),
   BitVec.ofNat 36 (e.moves % 2 ^ 18 * 2 ^ 18 + e.size % 2 ^ 18)]

/-- A value that the device measures, by its place among those of one measurement: free, and 0 before the first (log 130). -/
def measured (seed : Option Nat) (i width : Nat) : Nat :=
  seed.elim 0 fun n => (Config.freeValue (n + i)).toNat % 2 ^ width

/-- What a port reads of the entry that it selects (R280); word 3 is the entry's measured value. -/
def sheetWord (s : State) (p k : Nat) : Word :=
  let i := s.get (R.IMP_SSEL_ENTRY p)
  match s.imposer.sheet[i]? with
  | some e => if k = 3 then BitVec.ofNat 36 (measured s.imposer.measSeed i 24) else e.words.getD k 0
  | none => 0

/-- The clocks in which an access waited at a bank (IMP_BSTALL, R279). -/
def bankStall (s : State) (b : Nat) : Nat := measured s.imposer.stallSeed b 36

/-- A major period ends: the banks' stall clocks are measured, and each bank's run of periods with more than 1/64 of its
clocks goes on or ends (R267); a core clock is 1.25 ns. -/
def bankPeriod (s : State) : State :=
  let old := s
  let s := { s with imposer := { s.imposer with stallSeed := some s.free }, free := s.free + 16 }
  let clocks := s.get R.CYC_MAJOR_M * 25000
  let runs := (List.range 16).map fun b =>
    let n := (bankStall s b + 2 ^ 36 - bankStall old b) % 2 ^ 36
    if clocks < 64 * n then s.imposer.bankRuns.getD b 0 + 1 else 0
  { s with imposer := { s.imposer with bankRuns := runs } }

/-- A device of the sheet by its loop and node (R279): node 0 is this device. -/
def devCode (d : Nat) : Nat := if d % 32 = 0 then 0 else d % 64

/-- A place of the sheet as one number: device and resource. -/
def SheetEntry.key (e : SheetEntry) : Nat := (32 * e.loop + e.node) * 16 + e.place

/-- The memory in use by a sheet: base and size of code, segments and context blocks on this device. -/
def sheetOccupied (c : FolioContent) (sheet : List SheetEntry) : List (Nat × Nat) :=
  sheet.filterMap fun e =>
    let own (n : Option Nat) : Option (Nat × Nat) := some (e.base, if e.foreign then 64 * e.size else n.getD (64 * e.size))
    match e.kind with
    | 1 => own ((c.cores.find? (·.id == e.id)).map (·.code.length))
    | 3 => own ((c.segments.find? (·.id == e.id)).map (·.size))
    | 4 => some (e.base, 64)
    | _ => none

/-- The memory that staged items and old versions take beside the sheet in force (R284). -/
def heldOccupied (s : State) : List (Nat × Nat) :=
  s.olc.next.elim [] (sheetOccupied · s.olc.sheet) ++ s.olc.old.elim [] fun o => sheetOccupied o.content o.sheet

/-- The leaves in use on a quire by a sheet. -/
def leavesOccupied (sheet : List SheetEntry) (q : Nat) : List (Nat × Nat) :=
  (sheet.filter fun e => e.kind == 2 && e.place == q).map fun e => (e.base, e.size)

/-- The fabric units that a sheet places on a quire, in STRUCT order. -/
def quireUnits (c : FolioContent) (sheet : List SheetEntry) (q : Nat) : List FabricUnit :=
  c.fabrics.filter fun u => sheet.any fun e => e.kind == 2 && e.id == u.id && e.place == q

/-- The quire registers that show what the active planes hold (R173, R187). -/
def quireShow (s : State) : State :=
  State.forEach (List.range 8) (fun q s =>
    let us := (s.quire q).active
    let sum (f : FabricUnit → Nat) : Nat := (us.map f).foldl (· + ·) 0
    let s := (s.set (R.FAB_QSTAT_UNITS q) us.length).set (R.FAB_QSTAT_LEAVES q) (sum (·.leafCount))
    let s := (s.set (R.FAB_QCELL_TIMERS q) (sum (·.timerCount))).set (R.FAB_QCELL_COUNTERS q) (sum (·.counterCount))
    let s := s.set (R.FAB_QMAX_LEVELS q) ((us.map (·.levels)).foldl max 0)
    s.putBit R.FAB_STAT_USED q (!us.isEmpty)) s

/-- The active planes written at LOAD (R173). -/
def activePlanes (s : State) (c : FolioContent) (sheet : List SheetEntry) : State :=
  quireShow (State.forEach (List.range 8) (fun q s =>
    s.setQuire q { s.quire q with active := quireUnits c sheet q, staged := [] }) s)

/-- Staged planes marked valid or not (R173). -/
def stagedValid (s : State) (qs : List Nat) (ok : Nat → Bool) : State :=
  State.forEach qs (fun q s => (s.setFlag (R.FAB_QSTAT_STAGED q) (ok q)).putBit R.FAB_STAT_STAGED q (ok q)) s

/-- The staged planes of quires written with what a placement puts there (R173): none is valid before it has been read
back. -/
def stagePlanes (s : State) (qs : List Nat) (c : FolioContent) (sheet : List SheetEntry) : State :=
  stagedValid (State.forEach qs (fun q s => s.setQuire q { s.quire q with staged := quireUnits c sheet q }) s) qs
    fun _ => false

/-- No quire holds a valid staged plane. -/
def clearStaged (s : State) : State :=
  stagedValid (State.forEach (List.range 8) (fun q s => s.setQuire q { s.quire q with staged := [] }) s) (List.range 8)
    fun _ => false

/-- Whether the staged planes of quires are valid and hold a placement (R174). -/
def planesReady (s : State) (qs : List Nat) (c : FolioContent) (sheet : List SheetEntry) : Bool :=
  qs.all fun q => s.flag (R.FAB_QSTAT_STAGED q) && (s.quire q).staged == quireUnits c sheet q

/-- No pass runs and none is queued (R174). -/
def passesIdle (s : State) : Bool := s.fabric.quires.toList.all fun k => k.running.isNone && k.waiting.isEmpty

/-- The active and staged planes of quires exchange (R174); each staged plane then holds what was active. -/
def planeExchange (s : State) (qs : List Nat) : State :=
  let t := State.forEach qs (fun q s =>
    let k := s.quire q
    (s.setQuire q { k with active := k.staged, staged := k.active }).set (R.FAB_QSTAT_PLANE q)
      (1 - s.get (R.FAB_QSTAT_PLANE q))) s
  quireShow t

/-- The base tick of the next major LATCH (R121). -/
def nextMajor (s : State) : Nat :=
  let m := max 1 (s.get R.CYC_MAJOR_M)
  (s.now / 31250 / m + 1) * m

/-- The common gap of a cycle boundary (R121): no cycle of a configured class is in progress, and every class latches
next at the major LATCH. -/
def inGap (s : State) : Bool :=
  (configuredClasses s).all fun c =>
    let p := max 1 (classPeriod s c)
    ((s.cls c).phase == .idle || (s.cls c).phase == .late) && (s.now / p + 1) * p == nextMajor s * 31250

/-- The power gates of tiles (R51): set at a cycle boundary for tiles that the sheet, a change prepared or staged, and the
folio leave unused. -/
def gateTiles (s : State) : State :=
  let on := s.flag R.CLK_NAP_PGATE
  let sheets := s.imposer.sheet ++ s.olc.sheet
  let bound (kind i : Nat) : Bool := s.imposer.prepared.any fun pr => pr.moves.any fun m =>
    devCode m.2.1 == 0 && m.2.2 == i && (s.imposer.sheet[m.1]?).any (·.kind == kind)
  let used (kind i : Nat) : Bool :=
    (sheets.any fun (e : SheetEntry) => e.kind == kind && e.place == i && !e.remote) || bound kind i
  let bits (n : Nat) (f : Nat → Bool) : Nat := (List.range n).foldl (fun acc i => acc + bitNat (f i) * 2 ^ i) 0
  let s := s.set R.CLK_GATE_CORE (bits 8 fun i => on && !used 1 i)
  let s := s.set R.CLK_GATE_QUIRE (bits 8 fun i => on && !used 2 i)
  let loop (b : Bool) : Bool := if b then s.get R.SPN_STAT_LOOPB != 0 else s.get R.SPN_STAT_LOOPA != 0 || s.isWorker
  let s := s.set R.CLK_GATE_LANE (bits 2 fun i => on && (s.standalone || !loop (i == 1)))
  let s := s.setFlag R.CLK_GATE_TWN (on && s.partner.isNone)
  let asleep (n : Nat) : Bool := s.get (R.CAN_CTL_MODE n) == 4 && s.getBit R.CLK_GATE_CAN n
  let s := s.set R.CLK_GATE_CAN (bits 4 fun n => asleep n || on && s.get (R.CAN_CTL_MODE n) == 0)
  let s := s.set R.CLK_GATE_ETH (bits 2 fun n => on && s.get (R.ETH_PCFG_MODE n) == 0)
  (s.setFlag R.CLK_GATE_MTR (on && s.meter.chs.isEmpty && s.meter.pqcs.isEmpty)).lockShow

/-- Whether a block's expert page is unlocked (R116). -/
def expertOpen (s : State) (n : Nat) : Bool := s.getBit R.SYS_XOPEN_OPEN n

end Sys2Proof.Machine
end

