-- ==== Sys2Proof/Machine/Moves.lean ====
section
/-!
DEFINITION. Sys2Proof/Machine/Moves.lean: when the imposer acts and what it moves: triggers and gains (R267, R268),
prepared changes and their switch (R269 to R271), placement on workers (R273 to R276), pins (R277, R278), and the rows
IMPOSER_SEARCH and IMPOSER_PIN_WRITE. What an improvement search proposes is an operand: the manual gives the conditions
that a move must meet, not the search (log 17).
-/
namespace Sys2Proof.Machine

/-- An entry at a new place; its old place is remembered for R268. -/
def SheetEntry.moveTo (e : SheetEntry) (boundary dev place base : Nat) : SheetEntry :=
  let d := devCode dev
  { e with loop := d / 32, node := d % 32, remote := d != 0, place := place, base := base,
           moves := e.moves + 1, movedAt := boundary, left := (e.key, boundary) :: e.left }

/-- An entry moved to a device and a resource, where the constraints of R263 and R273 admit it: a fixed item does not move,
a fabric unit takes free leaves of the quire, a segment or context block free words of the bank. -/
def moveEntry (s : State) (c : FolioContent) (sheet : List SheetEntry) (e : SheetEntry) (dev place : Nat) :
    Option SheetEntry :=
  let go (base : Nat) := some (e.moveTo s.imposer.boundary dev place base)
  let here := devCode dev == 0
  let room (size : Nat) := bankFit (sheetOccupied c sheet ++ heldOccupied s) place size
  if e.fixed c || e.foreign then none
  else match e.kind with
  | 1 =>
    if 8 ≤ place then none
    else if here then go e.base
    else match c.cores.find? (·.id == e.id) with
      | some u => if u.reloc && !s.isWorker && !(hostMembers s c (64 * (dev / 32 % 2) + 2 * (dev % 32))).isEmpty
          then go e.base else none
      | none => none
  | 2 =>
    match c.fabrics.find? (·.id == e.id) with
    | some u =>
      if here ∧ place < 8 ∧ !s.getBit R.FAB_STAT_DIS place ∧ u.reflex.isEmpty ∧ quireFits (u :: quireUnits c sheet place)
      then (firstFit (leavesOccupied sheet place) 0 32768 u.leafCount).bind go else none
    | none => none
  | 3 =>
    match c.segments.find? (·.id == e.id) with
    | some g =>
      let near := sheet.any fun x => x.kind == 3 && !x.foreign && x.place == place && (g.apart == some x.id ||
        (c.segments.any fun h => h.id == x.id && h.apart == some g.id))
      if here ∧ place < 16 ∧ !g.addrTaken ∧ !near then (room g.size).bind go else none
    | none => none
  | _ => if here ∧ place < 16 then (room 64).bind go else none

/-- The sheet after a list of moves (entry number, device, place); a pinned item moves only by its pin (trigger 6). -/
def moveAll (s : State) (c : FolioContent) (trig : Nat) : List (Nat × Nat × Nat) → List SheetEntry → Option (List SheetEntry)
  | [], sheet => some sheet
  | (i, d, p) :: ms, sheet =>
    match sheet[i]? with
    | none => none
    | some e =>
      if (e.pin && trig != 6) || e.key == devCode d * 16 + p then none
      else match moveEntry s c sheet e d p with
        | some e' => moveAll s c trig ms (sheet.set i e')
        | none => none

/-- A code word whose relocation entry names a segment that moves (R270): its address part moves with it (log 6). -/
def relocate (w : Word) (old new : Nat) : Word := withBits w 0 24 (bitsOf w 0 24 + new + 2 ^ 24 - old % 2 ^ 24)

/-- The words of segments and context blocks that a change of the sheet moves, each list with its new base. -/
def movedWords (s : State) (c : FolioContent) (old new : List SheetEntry) : List (Nat × List Word) :=
  (old.zip new).filterMap fun p =>
    let size := if p.1.kind = 4 then 64 else (c.segments.find? (·.id == p.1.id)).elim 0 (·.size)
    if p.1.base ≠ p.2.base ∧ (p.1.kind = 3 ∨ p.1.kind = 4) then some (p.2.base, s.words p.1.base size) else none

/-- The copies of a change (R270): every word moved is read before any is written, and the code words that name a moved
segment follow it. -/
def moveWords (s : State) (c : FolioContent) (old new : List SheetEntry) : State :=
  let s := State.forEach (movedWords s c old new) (fun p s => s.fill p.1 p.2) s
  let segs := (old.zip new).filter fun p => p.1.kind == 3 && p.1.base != p.2.base
  State.forEach c.cores (fun u s =>
    match s.imposer.sheet.find? fun e => e.kind == 1 && e.id == u.id && !e.foreign with
    | none => s
    | some e => State.forEach u.relocs (fun r s =>
        match segs.find? fun p => p.1.id == r.2 with
        | some p => s.fill (e.base + r.1) [relocate (s.word (e.base + r.1)) p.1.base p.2.base]
        | none => s) s) s

/-- The quires whose units a change of the sheet changes; a disabled quire keeps its planes (R184). -/
def moveQuires (s : State) (c : FolioContent) (new : List SheetEntry) : List Nat :=
  (List.range 8).filter fun q =>
    !s.flag (R.FAB_QSTAT_DIS q) && quireUnits c s.imposer.sheet q != quireUnits c new q

/-- A change of the sheet at a boundary (R269, R270, R279): words copied, planes exchanged (R174, R180), the new sheet in
force, counters and events. -/
def sheetSwitch (s : State) (c : FolioContent) (new : List SheetEntry) (trig : Nat) : State :=
  let was := s
  let old := s.imposer.sheet
  let qs := moveQuires s c new
  let between := (old.zip new).any fun p => p.1.loop != p.2.loop || p.1.node != p.2.node
  let s := planeExchange (sheetPut (moveWords s c old new) c new) qs
  let s := s.when (!qs.isEmpty) (reflexSwitch was)
  let s := ((s.add R.IMP_SGEN_GEN 1).add R.IMP_MOVES_COUNT 1).raise R.IMP_EVT_MOVED
  let s := s.when between (·.raise R.IMP_EVT_REMOTE)
  gateTiles ((s.set R.IMP_STAT_LAST 1).set R.IMP_STAT_TRIG trig)

/-- A change of marks in the sheet at a boundary (R279): the generation rises. -/
def sheetMark (s : State) (new : List SheetEntry) : State :=
  if new = s.imposer.sheet then s
  else { s with imposer := { s.imposer with sheet := new } }.add R.IMP_SGEN_GEN 1

/-- A prepared change ends: none is left waiting. -/
def prepareEnd (s : State) : State :=
  { s with imposer := { s.imposer with prepared := none } }.set R.IMP_STAT_WAIT 0

/-- The code of a unit and the present words of its segments sent to the worker that will run it (R276): the code once, for
the worker keeps it. -/
def deliverUnit (s : State) (c : FolioContent) (e : SheetEntry) : State :=
  match c.cores.find? (·.id == e.id) with
  | none => s
  | some u =>
    let has := s.imposer.delivered.contains (u.id, e.addr)
    let data := (u.segs.filterMap fun i => c.segments.find? (·.id == i)).flatMap fun g =>
      (s.imposer.sheet.find? fun x => x.kind == 3 && x.id == g.id && !x.foreign).elim [] fun x => s.words x.base g.size
    let s := { s with imposer := { s.imposer with delivered := (u.id, e.addr) :: s.imposer.delivered.erase (u.id, e.addr) } }
    spineSend s 9 8 s.now ([BitVec.ofNat 36 u.id, BitVec.ofNat 36 e.place] ++ (if has then [] else u.code) ++ data)

/-- Units that a change takes to other devices are delivered there. -/
def deliverMoves (s : State) (c : FolioContent) (new : List SheetEntry) : State :=
  State.forEach ((s.imposer.sheet.zip new).filter fun p => p.2.remote && p.1.key != p.2.key) (fun p s => deliverUnit s c p.2) s

/-- A change prepared (R269): the staged planes of its quires (R173), where `readback` tells which pass their check, units
delivered to workers (R276), and its target tiles powered (R51). A change that needs a staged plane of a switched program
ends the undo of it (R300). -/
def prepareChange (s : State) (c : FolioContent) (new : List SheetEntry) (pr : Prepared) (readback : Nat) : State :=
  let qs := moveQuires s c new
  let s := stagedValid (stagePlanes s qs c new) qs readback.testBit
  let s := s.when (s.olc.old.isSome && !qs.isEmpty) (·.raise R.OLC_STAT_NOUNDO)
  let s := deliverMoves s c new
  gateTiles ({ s with imposer := { s.imposer with prepared := some pr } }.raise R.IMP_STAT_WAIT)

/-- The items whose pins wait for a boundary (R277), by entry number. -/
def pendingPins (s : State) : List Nat :=
  let base := (R.IMP_XPIN_STATE 0).addr
  s.regs.filterMap fun p =>
    if base ≤ p.1 ∧ p.1 < base + 2048 ∧ bitsOf p.2 34 2 = 1 then some (p.1 - base) else none

/-- What a boundary makes of one pin (R277): refused, applied in place, or a move that passes the timing check. -/
def pinOne (c : FolioContent) (i : Nat) (acc : State × List SheetEntry × List (Nat × Nat × Nat)) :
    State × List SheetEntry × List (Nat × Nat × Nat) :=
  let (s, sheet, moves) := acc
  let d := devCode (s.get (R.IMP_XPIN_DEV i))
  let p := s.get (R.IMP_XPIN_PLACE i)
  let refuse := ((s.set (R.IMP_XPIN_STATE i) 3).raise R.IMP_EVT_PINREF, sheet, moves)
  match sheet[i]? with
  | none => refuse
  | some e =>
    if e.key = d * 16 + p then
      (sheetMark (s.set (R.IMP_XPIN_STATE i) 2) (updateAt (fun x => { x with pin := true }) i s.imposer.sheet),
        updateAt (fun x => { x with pin := true }) i sheet, moves)
    else
      match moveEntry s c sheet e d p with
      | some e' => if timingFits s c (sheet.set i e') 0 then (s, sheet.set i e', moves ++ [(i, d, p)]) else refuse
      | none => refuse

/-- The pins that wait for this boundary (R277): those that ask for a move become the prepared change. -/
def pinSearch (s : State) (c : FolioContent) (readback : Nat) : State :=
  let pins := pendingPins s
  let (s, new, moves) := pins.foldl (fun acc i => pinOne c i acc) (s, s.imposer.sheet, [])
  let s := s.when (!pins.isEmpty) (·.set R.IMP_STAT_TRIG 6)
  if moves.isEmpty then s else prepareChange s c new ⟨moves, 6, 0⟩ readback

/-- Entries whose pin has been taken away lose its mark (R277, R279). -/
def unpinned (s : State) (c : FolioContent) : State :=
  sheetMark s (s.imposer.sheet.mapIdx fun i e =>
    if e.pin && !e.fixed c && !s.flag (R.IMP_XPIN_PIN i) then { e with pin := false } else e)

/-- The entries that a loss affects (R267): units of a disabled quire, and units on a worker of which no device runs them. -/
def lostEntry (s : State) (c : FolioContent) (e : SheetEntry) : Bool :=
  (e.kind == 2 && s.getBit R.FAB_STAT_DIS e.place) || (e.kind == 1 && e.remote && (hostMembers s c e.addr).isEmpty)
def lostEntries (s : State) (c : FolioContent) : List Nat :=
  (List.range s.imposer.sheet.length).filter fun i => (s.imposer.sheet[i]?).any (lostEntry s c)

/-- A loss of a resource (R267): a trigger where units of the sheet were on it. -/
def lossTrigger (s : State) (on : SheetEntry → Bool) : State :=
  if s.imposer.sheet.any on then { s with imposer := { s.imposer with lossDue := true, lossNew := true } } else s

/-- The places that a lost entry may go to with the sheet that each gives and the value that ranks them, in the order of
ties (R264, R275): the least loaded quire, or the core with the smallest response or remote path. -/
def lossPlaces (s : State) (c : FolioContent) (sheet : List SheetEntry) (i : Nat) (e : SheetEntry) :
    List ((Nat × Nat) × List SheetEntry × (Nat × Nat)) :=
  let at' (d p : Nat) (rank : List SheetEntry → Option (Nat × Nat)) :=
    (moveEntry s c sheet e d p).bind fun e' => (rank (sheet.set i e')).map fun r => ((d, p), sheet.set i e', r)
  if e.kind = 2 then
    (List.range 8).filterMap fun q =>
      at' 0 q fun _ => some (((quireUnits c sheet q).map (fabricWeight s)).foldl fracAdd (0, 1))
  else
    match c.cores.find? (·.id == e.id) with
    | none => []
    | some u =>
      let own := (List.range 8).filterMap fun k => at' 0 k fun new =>
        let us := (sheetUnits c s.imposer.foreignUnits new).filter fun p => p.2 == k
        (coreResponse s (us.map (·.1)) u.cls).map (·, 1)
      let nodes := ((c.nodes.filter (·.hosting)).map fun n => n.addr / 2 * 2).eraseDups
      let far := nodes.flatMap fun n => (List.range 8).filterMap fun k =>
        at' (32 * (n / 64) + n % 64 / 2) k fun new => (remotePath s c new u n k).map (·, 1)
      own ++ far

/-- The best place of a list that passes the timing check with a margin of 0; the first of equals. -/
def bestPlace (s : State) (c : FolioContent) (xs : List ((Nat × Nat) × List SheetEntry × (Nat × Nat))) :
    Option ((Nat × Nat) × List SheetEntry × (Nat × Nat)) :=
  (xs.filter fun x => timingFits s c x.2.1 0).foldl (fun b x => match b with
    | none => some x
    | some y => if fracLt x.2.2 y.2.2 then some x else some y) none

/-- One lost entry of a search: the sheet, the moves so far, and whether some entry found no place. -/
def lossOne (s : State) (c : FolioContent) (acc : List SheetEntry × List (Nat × Nat × Nat) × Bool) (i : Nat) :
    List SheetEntry × List (Nat × Nat × Nat) × Bool :=
  match acc.1[i]? with
  | none => acc
  | some e =>
    match (if e.pin then none else bestPlace s c (lossPlaces s c acc.1 i e)) with
    | some x => (x.2.1, acc.2.1 ++ [(i, x.1)], acc.2.2)
    | none => (acc.1, acc.2.1, true)

/-- The loss search (R267, R276): each affected entry takes the best admissible place that passes the timing check; a unit
that finds none stays unplaced and is tried again at every boundary. -/
def lossSearch (s : State) (c : FolioContent) (readback : Nat) : State :=
  let res := (lostEntries s c).foldl (lossOne s c) (s.imposer.sheet, [], false)
  let s := prepareEnd (s.set R.IMP_STAT_TRIG 1)
  let s := s.when res.2.2 fun s => (s.raise R.IMP_EVT_NOFIT).set R.IMP_STAT_LAST 2
  if res.2.1.isEmpty then { s with imposer := { s.imposer with lossDue := res.2.2 } }
  else prepareChange s c res.1 ⟨res.2.1, 1, 0⟩ readback

/-- The largest left side of R265 over O_c, as a fraction (R268, SPREAD). -/
def spreadMetric (s : State) (c : FolioContent) (sheet : List SheetEntry) : Nat × Nat :=
  (configuredClasses s).foldl (fun m k =>
    match solveBound s c sheet k with
    | some b =>
      let f := (timingLeft s k b, max 1 (s.get (R.CYC_OFS_OFS k)))
      if fracLt m f then f else m
    | none => m) (0, 1)

/-- The resources of a kind that a sheet uses. -/
def usedTiles (sheet : List SheetEntry) (kind : Nat) : Nat :=
  ((List.range 8).filter fun p => sheet.any fun e => e.kind == kind && !e.remote && e.place == p).length

/-- The trigger of an improvement and the gain that R268 asks of it. `pairs` are the predicted numbers of same-clock pairs on
the bank now and after the move, which the manual does not compute (log 17). -/
def gainEnough (s : State) (c : FolioContent) (new : List SheetEntry) (trig : Nat) (pairs : Nat × Nat) : Bool :=
  let old := s.imposer.sheet
  let h := s.get R.IMP_XCFG_HYST
  let gains (a b : Nat × Nat) : Bool := !fracLt (a.1 * (16 - h), a.2 * 16) b
  if trig = 2 then s.flag R.CLK_NAP_PGATE && (decide (usedTiles new 1 < usedTiles old 1) || decide (usedTiles new 2 < usedTiles old 2))
  else if trig = 3 then
    (s.imposer.slow.any fun p => decide (8 ≤ popCount p.2 64)) && gains (spreadMetric s c old) (spreadMetric s c new)
  else trig == 4 && s.imposer.bankRuns.any (fun n => decide (64 ≤ n)) && gains (pairs.1, 1) (pairs.2, 1)

/-- The hold conditions of R268, and NOREMOTE. -/
def holdMet (s : State) (m : Nat × Nat × Nat) : Bool :=
  let hold := s.get R.IMP_XCFG_HOLD
  match s.imposer.sheet[m.1]? with
  | none => false
  | some e =>
    let key := devCode m.2.1 * 16 + m.2.2
    decide (e.movedAt + hold ≤ s.imposer.boundary) &&
      e.left.all (fun l => !(l.1 == key) || decide (l.2 + 4 * hold < s.imposer.boundary)) &&
      !(s.flag R.IMP_XCFG_NOREMOTE && e.key / 16 != devCode m.2.1)

/-- The improvement search (R267, R268): a proposal that meets every condition is prepared. -/
def improveSearch (s : State) (c : FolioContent) (trig : Nat) (moves : List (Nat × Nat × Nat)) (readback : Nat) : State :=
  let (a, s) := s.draw
  let (b, s) := s.draw
  let s := s.set R.IMP_STAT_TRIG trig
  match moveAll s c trig moves s.imposer.sheet with
  | some new =>
    if !moves.isEmpty && moves.all (holdMet s ·) && gainEnough s c new trig (a, b) &&
        timingFits s c new (s.get R.IMP_XCFG_MARGIN) then prepareChange s c new ⟨moves, trig, 0⟩ readback
    else s.set R.IMP_STAT_LAST 2
  | none => s.set R.IMP_STAT_LAST 2

/-- A unit that a manager has delivered takes its place here at a boundary (R276): its context block, segments and code go
to free SRAM, its entries follow those of the folio's items, where this device's timing check admits it. -/
def foreignPlace (s : State) (c : FolioContent) (x : CoreUnit × Nat × List (Nat × List Word)) : State :=
  let (u, core, data) := x
  let mine (e : SheetEntry) : Bool := e.foreign &&
    (if e.kind == 3 then u.segs.contains e.id else e.id == u.id)
  let keep := s.imposer.sheet.filter fun (e : SheetEntry) => !mine e
  let occ : List (MemItem × Nat) := (sheetOccupied c keep ++ heldOccupied s).map fun o => (⟨0, 0, o.2, none, none, none⟩, o.1)
  let words := ⟨1, u.id, u.code.length, none, none, none⟩ :: data.map fun d => ⟨3, d.1, d.2.length, none, none, none⟩
  match placeMem (⟨4, u.id, 64, none, none, none⟩ :: byWeight (fun i : MemItem => (i.size, 1)) words) occ with
  | none => s
  | some ms =>
    let entry (kind id cls place size : Nat) : SheetEntry :=
      { sheetNew kind id cls place (memBase ms kind id) size false with foreign := true, movedAt := s.imposer.boundary }
    let at' (kind id : Nat) : Nat := memBase ms kind id
    let fresh := [entry 1 u.id u.cls core (ceilDiv u.code.length 64), entry 4 u.id u.cls (at' 4 u.id / 0x40000) 1] ++
      data.map fun d => entry 3 d.1 0 (at' 3 d.1 / 0x40000) (ceilDiv d.2.length 64)
    let same (e : SheetEntry) : SheetEntry → Bool := fun x => x.foreign && x.kind == e.kind && x.id == e.id
    let new := (s.imposer.sheet.map fun e => (fresh.find? (same e)).elim e fun x => if e.foreign then x else e) ++
      fresh.filter fun x => !s.imposer.sheet.any (same x)
    let t := { s with imposer := { s.imposer with
      foreignUnits := u :: s.imposer.foreignUnits.filter (fun v : CoreUnit => v.id != u.id)
      foreignSegs := data.map (fun d => (d.1, d.2.length)) ++
        s.imposer.foreignSegs.filter fun (g : Nat × Nat) => !(data.any fun d => d.1 == g.1) } }
    if !timingFits t c new 0 then s
    else
      let code := u.code.mapIdx fun i w => match u.relocs.find? (·.1 == i) with
        | some r => relocate w 0 (at' 3 r.2)
        | none => w
      let t := State.forEach data (fun d t => t.fill (at' 3 d.1) d.2) (t.fill (at' 1 u.id) code)
      gateTiles ((sheetPut t c new).add R.IMP_SGEN_GEN 1)

/-- The deliveries that wait for this boundary. -/
def foreignArrive (s : State) (c : FolioContent) : State :=
  State.forEach s.imposer.arrivals (fun x s => foreignPlace s c x)
    { s with imposer := { s.imposer with arrivals := [] } }

/-- The works W of this device by core and class, in nanoseconds (R273). -/
def ownWorks (s : State) (c : FolioContent) : List (Nat × Nat × Nat) :=
  let us := (sheetUnits c s.imposer.foreignUnits s.imposer.sheet).filter fun p => p.1.event.isNone
  (List.range 8).flatMap fun k => (configuredClasses s).filterMap fun h =>
    let w := ((us.filter fun p => p.2 == k && p.1.cls == h).map (·.1.bound)).foldl (· + ·) 0
    if w = 0 then none else some (k, h, w)

/-- A hosting worker's report at a cycle boundary (R273). -/
def worksReport (s : State) (c : FolioContent) : State :=
  if !s.isWorker then s
  else spineSend s 2 8 s.now ((ownWorks s c).flatMap fun w => [BitVec.ofNat 36 (w.1 * 8 + w.2.1), BitVec.ofNat 36 w.2.2])

/-- A sheet of the primary that waits for the boundary comes into force on its standby (R272). -/
def sheetTracked (s : State) (c : FolioContent) : State :=
  match s.twin.sheetDue with
  | none => s
  | some new =>
    let s := { s with twin := { s.twin with sheetDue := none } }
    let qs := moveQuires s c new
    if new.length ≠ s.imposer.sheet.length ∨ new = s.imposer.sheet then s
    else if (s.imposer.sheet.zip new).all fun p => p.1.key == p.2.key && p.1.base == p.2.base then sheetMark s new
    else sheetSwitch (stagedValid (stagePlanes s qs c new) qs fun _ => true) c new 0

/-- What every boundary does on a device whose class cycles run: holds count (R268), measurements end (R279), delivered
units take their places (R276), and works are reported (R273). -/
def boundaryWork (s : State) (c : FolioContent) : State :=
  let s := { s with
    imposer := { s.imposer with boundary := s.imposer.boundary + 1, measSeed := some s.free }, free := s.free + 2048 }
  worksReport (foreignArrive (if s.dev == .standby then sheetTracked s c else s) c) c

/-- IMPOSER_SEARCH (R267, R268, R271, R272, R277, R278): one cycle boundary. Only a standalone device or a primary decides;
nothing is sought in a deferral, a STOP or a power-fail sequence. A loss goes before pins, and pins before improvements. -/
def imposerSearch (s : State) (trig : Nat) (moves : List (Nat × Nat × Nat)) (readback : Nat) : State :=
  match s.content with
  | none => s
  | some c =>
    if !s.cycling || !inGap s || s.flag R.SYS_STATE_DEFER then s
    else
      let s := boundaryWork s c
      if s.dev != .run || !s.primary || s.cycle.stopping || s.power.pfStep != 0 then s
      else
        let freeze := s.flag R.IMP_XCFG_FREEZE
        let s := s.setFlag R.IMP_STAT_FROZEN freeze
        let s := s.when s.imposer.lossNew fun s =>
          (s.raise R.IMP_EVT_LOSS).when freeze (·.raise R.IMP_EVT_FROZENLOSS)
        let s := unpinned { s with imposer := { s.imposer with lossNew := false } } c
        let trigOf := s.imposer.prepared.elim 0 (·.trig)
        if freeze then s
        else if s.imposer.lossDue then lossSearch s c readback
        else if !(pendingPins s).isEmpty then pinSearch s c readback
        else if (trig = 2 ∨ trig = 3 ∨ trig = 4) ∧ trigOf = 0 ∧ s.olc.staged = none then improveSearch s c trig moves readback
        else s

/-- Whether an entry's unit has work in progress (R269). -/
def entryBusy (s : State) (c : FolioContent) (e : SheetEntry) : Bool :=
  let taskBusy (id : Nat) (f : Bool) := s.cores.toList.any fun k =>
    let mine (t : TaskRef) := t.id == id && t.foreign == f
    k.task.any mine || k.preempted.any (mine ·.task) || k.ready.any mine
  match e.kind with
  | 1 | 4 => taskBusy e.id e.foreign
  | 2 => s.fabric.quires.toList.any fun q => q.running.any (·.unit == e.id) || q.waiting.any (·.unit == e.id)
  | _ => c.cores.any fun u => u.segs.contains e.id && taskBusy u.id false

/-- A boundary at which a prepared change could not switch (R269): it is prepared again; after 8 boundaries an improvement is
abandoned. -/
def switchDeferred (s : State) (c : FolioContent) (new : List SheetEntry) (pr : Prepared) (readback : Nat) : State :=
  if 2 ≤ pr.trig ∧ pr.trig ≤ 4 ∧ 7 ≤ pr.failed then (prepareEnd (s.raise R.IMP_EVT_ABANDON)).set R.IMP_STAT_LAST 4
  else (prepareChange s c new { pr with failed := pr.failed + 1 } readback).set R.IMP_STAT_LAST 3

/-- A prepared change that no longer meets its conditions is dropped: an improvement for good, a loss and a pin until the
next boundary's search. -/
def switchDropped (s : State) (pr : Prepared) : State :=
  let s := (prepareEnd s).set R.IMP_STAT_LAST 2
  if pr.trig = 1 then { s with imposer := { s.imposer with lossDue := true } } else s

/-- The pins that a switch has applied (R277). -/
def pinsApplied (s : State) (pr : Prepared) : State :=
  if pr.trig ≠ 6 then s
  else
    let s := State.forEach pr.moves (fun m s => s.set (R.IMP_XPIN_STATE m.1) 2) s
    let pinned := pr.moves.foldl (fun (l : List SheetEntry) m => updateAt (fun x => { x with pin := true }) m.1 l)
      s.imposer.sheet
    { s with imposer := { s.imposer with sheet := pinned } }

/-- An online change has switched at this boundary (R287: no other imposer switch takes place there). -/
def olcHere (s : State) : Bool :=
  s.get R.OLC_STAT_STATE == 5 && s.get R.OLC_LAST_AT == nextMajor s % 2 ^ 36

/-- PLACEMENT_SWITCH (R269): the prepared change switches, or is prepared again. `fits` says that the switch ends 1 µs before
the major LATCH. -/
def placementSwitch (s : State) (fits : Bool) (readback : Nat) : State :=
  match s.content, s.imposer.prepared with
  | some c, some pr =>
    if s.dev != .run || !s.primary || !inGap s || s.flag R.SYS_STATE_DEFER || s.power.pfStep != 0 ||
        s.flag R.IMP_XCFG_FREEZE || s.cycle.stopping || olcHere s then s
    else
      match moveAll s c pr.trig pr.moves s.imposer.sheet with
      | none => switchDropped s pr
      | some new =>
        let busy := pr.moves.any fun m => (s.imposer.sheet[m.1]?).any (entryBusy s c)
        let qs := moveQuires s c new
        let planes := qs.isEmpty || planesReady s qs c new && passesIdle s
        let margin := if pr.trig = 1 ∨ pr.trig = 6 then 0 else s.get R.IMP_XCFG_MARGIN
        if !timingFits s c new margin then switchDropped s pr
        else if !fits || busy || !planes then switchDeferred s c new pr readback
        else
          let s := deliverMoves s c new
          let s := sheetSwitch (prepareEnd s) c new pr.trig
          let s := pinsApplied s pr
          let left := (lostEntries s c).isEmpty
          { s with imposer := { s.imposer with lossDue := s.imposer.lossDue && !left } }
  | _, _ => s

/-- IMPOSER_PIN_WRITE (R277, R281): a write to IMP_XPINe; ignored while the page is locked (R116). DEV is a manager's. -/
def pinWrite (s : State) (e : Nat) (w : Word) : State :=
  if !expertOpen s 9 then s.raise R.SYS_XOPEN_XIGN
  else
    let on := bitsOf w 33 1
    let s := (s.set (R.IMP_XPIN_PIN e) on).set (R.IMP_XPIN_DEV e) (if s.isWorker || s.standalone then 0 else bitsOf w 24 6)
    (s.set (R.IMP_XPIN_PLACE e) (bitsOf w 20 4)).set (R.IMP_XPIN_STATE e) on

/-- IMPOSER_SEARCH (R267): an improvement's trigger code and proposed moves, or none (0, []), and the quires whose staged
planes pass their check when they are read back (R173). -/
def execImposerSearch (trig : Fin 16) (proposal : Proposal) (s : State) : Result :=
  s.answer (if s.powered then imposerSearch s trig proposal.moves proposal.readback.toNat else s)

/-- IMPOSER_PIN_WRITE (R277). -/
def execImposerPinWrite (entry : Fin 2048) (value : Word) (s : State) : Result :=
  s.answer (if s.powered then pinWrite s entry value else s)

end Sys2Proof.Machine
end

