-- ==== Sys2Proof/Machine/Symbols.lean ====
section
/-!
DEFINITION. Sys2Proof/Machine/Symbols.lean: values of symbols, as an online change and an LZ7-compatible replacement
carry and convert them (R290 to R295, R304).
-/
namespace Sys2Proof.Machine

/-- Where a segment of a content lies, given the sheet that places it. -/
def segBase (c : FolioContent) (sheet : List SheetEntry) (id : Nat) : Nat :=
  match c.segments.find? (·.id == id) with
  | some g =>
    match g.home with
    | .fixedAt a => a
    | .sram => (sheet.find? fun e => e.kind == 3 && e.id == id).elim 0 (·.base)
  | none => 0

/-- The raw bits of a scalar member of a symbol, given where its home lies. -/
def readMember (s : State) (c : FolioContent) (sheet : List SheetEntry) (h : SymHome) (m : Member) : Nat :=
  match h with
  | .seg id off =>
    let a := segBase c sheet id + off + m.off
    match m.ty with
    | .bit => bitsOf (s.word a) m.bit 1
    | .h18 _ up => bitsOf (s.word a) (if up then 18 else 0) 18
    | .d72 _ => (s.word a).toNat * 2 ^ 36 + (s.word (a + 1)).toNat
    | _ => (s.word a).toNat
  | .point word num => (s.point word false (num + m.off)).toNat
  | _ => 0

/-- A scalar member of a symbol written. -/
def writeMember (s : State) (c : FolioContent) (sheet : List SheetEntry) (h : SymHome) (m : Member) (v : Nat) : State :=
  match h with
  | .seg id off =>
    let a := segBase c sheet id + off + m.off
    match m.ty with
    | .bit => s.store a (withBits (s.word a) m.bit 1 v)
    | .h18 _ up => s.store a (withBits (s.word a) (if up then 18 else 0) 18 v)
    | .d72 _ => (s.store a (BitVec.ofNat 36 (v / 2 ^ 36))).store (a + 1) (BitVec.ofNat 36 v)
    | _ => s.store a (BitVec.ofNat 36 v)
  | .point word num => s.putPoint word false (num + m.off) (BitVec.ofNat 36 v)
  | _ => s

/-- The integer types, with width and signedness (R291). -/
def Scalar.intType : Scalar → Option (Nat × Bool)
  | .h18 sg _ => some (18, sg)
  | .w36 sg => some (36, sg)
  | .d72 sg => some (72, sg)
  | _ => none

/-- The same type for a copy without conversion (R290): half-word halves do not matter. -/
def Scalar.same (a b : Scalar) : Bool :=
  match a, b with
  | .h18 s _, .h18 t _ => s == t
  | x, y => x == y

/-- A number held to the range of an integer type; the second component says that it saturated. -/
def intClamp (w : Nat) (sg : Bool) (i : Int) : Nat × Bool :=
  let lo : Int := if sg then -((2 ^ (w - 1) : Nat) : Int) else 0
  let hi : Int := if sg then ((2 ^ (w - 1) : Nat) : Int) - 1 else ((2 ^ w : Nat) : Int) - 1
  if i < lo then (natOfInt w lo, true) else if hi < i then (natOfInt w hi, true) else (natOfInt w i, false)

/-- F36 rounded to the nearest integer, ties to even, with whether that was inexact; none for a NaN, and an infinity as
a number beyond every type (R291). -/
def fNearest (a : Word) : Option (Int × Bool) :=
  if fIsNan a then none
  else if fIsInf a then some (if fSign a then -((2 ^ 80 : Nat) : Int) else ((2 ^ 80 : Nat) : Int), false)
  else
    let n := fMag a
    let q : Nat := n / 2 ^ 280
    let r : Nat := n % 2 ^ 280
    let up := decide (2 * r > 2 ^ 280) || (decide (2 * r = 2 ^ 280) && q % 2 == 1)
    let m : Int := q + bitNat up
    some (if fSign a then -m else m, r != 0)

/-- A conversion of R291: the new bits, and whether it counts in OLC_CONV; none where the table lists no conversion. -/
def convert (old new : Scalar) (v : Nat) : Option (Nat × Bool) :=
  match old.intType, new.intType, old, new with
  | some (w, sg), some (w', sg'), _, _ => some (intClamp w' sg' (if sg then signedOf w v else v))
  | some (w, sg), none, _, .f36 =>
    let r := fOfInt (if sg then signedOf w v else v) 0
    some (r.val.toNat, r.nx)
  | some _, none, _, .bit => some (bitNat (v != 0), false)
  | none, some (w', sg'), .f36, _ =>
    match fNearest (BitVec.ofNat 36 v) with
    | none => some (0, true)
    | some (i, inexact) =>
      let r := intClamp w' sg' i
      some (r.1, r.2 || inexact)
  | none, some _, .bit, _ => some (v % 2, false)
  | none, none, .q35, .f36 =>
    let r := fOfInt (signedOf 36 v) 35
    some (r.val.toNat, r.nx)
  | none, none, .f36, .q35 =>
    let r := fToInt (BitVec.ofNat 36 v) 35
    some (r.val.toNat, r.nx || r.nv)
  | none, none, .bit, .f36 => some ((fOfInt (v % 2 : Nat) 0).val.toNat, false)
  | _, _, _, _ => none

/-- The old member that a new member takes its value from: by index in an array, by name in a structure (R292). -/
def matchMember (old new : Symbol) (i : Nat) (m : Member) : Option (Nat × Member) :=
  match new.shape with
  | .struct => (old.members.zipIdx.find? fun p => p.1.name == m.name).map fun p => (p.2, p.1)
  | _ => (old.members[i]?).map fun x => (i, x)

/-- Whether a MAP entry is legal (R290 to R292, R295): a carried symbol is identical, a converted one keeps its shape and
converts every scalar or array element; an instance symbol carries to a cell of the same type. -/
def mapLegal (sameCell : SymHome → SymHome → Bool) (disp : Nat) (old new : Symbol) : Bool :=
  let inst (h : SymHome) : Bool := match h with
    | .leaf .. | .timer .. | .counter .. => true
    | _ => false
  if inst old.home || inst new.home then disp == 1 && sameCell old.home new.home
  else if old.shape != new.shape then false
  else if disp = 1 then
    old.members.length == new.members.length &&
      (old.members.zip new.members).all fun p => p.1.ty.same p.2.ty && p.1.name == p.2.name
  else
    match new.shape with
    | .struct => true
    | _ => (old.members.zip new.members).all fun p => p.1.ty.same p.2.ty || (convert p.1.ty p.2.ty 0).isSome

/-- The values of a symbol's members. -/
def symbolValues (s : State) (c : FolioContent) (sheet : List SheetEntry) (y : Symbol) : List Nat :=
  y.members.map (readMember s c sheet y.home)

/-- A new symbol's members from an old symbol's values (R290 to R292): copied, converted, or left at their initial
values. -/
def putSymbol (s : State) (c : FolioContent) (sheet : List SheetEntry) (old new : Symbol) (vals : List Nat) : State :=
  State.forEach new.members.zipIdx (fun p s =>
    match matchMember old new p.2 p.1 with
    | none => s
    | some (j, m) =>
      let v := vals.getD j 0
      if m.ty.same p.1.ty then writeMember s c sheet new.home p.1 v
      else match convert m.ty p.1.ty v with
        | some (x, counts) => (writeMember s c sheet new.home p.1 x).add R.OLC_CONV_COUNT (bitNat counts)
        | none => s) s

/-- The words that a symbol's members take (R288, R304). -/
def symbolWords (y : Symbol) : Nat :=
  (y.members.map fun m => match m.ty with
    | .d72 _ => 2
    | _ => 1).foldl (· + ·) 0

/-- The unit state that a leaf, timer or counter instance names. -/
def instanceUnit : SymHome → Option Nat
  | .leaf u _ | .timer u _ | .counter u _ => some u
  | _ => none

/-- Whether two instance symbols name cells of one type (R295). -/
def sameCell (a b : FolioContent) (x y : SymHome) : Bool :=
  let ty (c : FolioContent) (h : SymHome) : Option (Nat × Nat) :=
    match h with
    | .leaf u i => ((c.fabrics.find? (·.id == u)).map fun f => (0, bitsOf (f.leafWord i 5) 25 2))
    | .timer u i => ((c.fabrics.find? (·.id == u)).map fun f => (1, bitsOf (f.timerWord i 0) 34 2))
    | .counter u i => ((c.fabrics.find? (·.id == u)).map fun f => (2, bitsOf (f.counterWord i 0) 34 2))
    | _ => none
  (ty a x).isSome && ty a x == ty b y

end Sys2Proof.Machine
end

