-- ==== Sys2Proof/Machine/Program.lean ====
section
/-!
DEFINITION. Sys2Proof/Machine/Program.lean: what the second pass of a load configures (R81, R82, R92, R111), what it takes
out of force, and the initial values that a start gives the program's data (R21, R145, R611).
-/
namespace Sys2Proof.Machine

/-- The blocks whose read-only fields show what a folio configures and its program has done: HND_, CYC_, FAB_, IMP_, OLC_,
FRC_, MTR_, CAN_ and STN_ (log 19). -/
def programBlocks : List Nat := [5, 6, 7, 9, 10, 11, 15, 16, 18]

/-- Whether R111's return to reset values reaches a field: every writable field, and the read-only fields of the blocks
that a folio configures, but for the keeper's copy in HND_EPOCH (R102) and the live levels and quire states of FAB_. -/
def basicField (a : Nat) (acc : Acc) : Bool :=
  match acc with
  | .rw | .rwl | .w1c => true
  | .ro => programBlocks.contains ((a - 0xC00000) / 0x1000) && a != R.HND_EPOCH_EPOCH.addr && a != R.FAB_STAT_DIS.addr &&
      a != R.FAB_PINLVL_LEVEL.addr
  | _ => false

/-- The fields of one register that R111 returns to their reset values. -/
def resetFields (a : Nat) (fs : List FieldRow) (s : State) : State :=
  State.forEach (fs.filter fun f => basicField a f.acc) (fun f s => s.set ⟨a, f.lo, f.width⟩ f.reset) s

/-- The basic pages, but for RST_CAUSE and the RTC_ and WDG_ blocks, whose reset values come at always-on power-up alone
(R609). -/
def basicReset (a : Nat) : Bool :=
  let block := (a - 0xC00000) / 0x1000
  decide (0xC00000 ≤ a) && decide (a % 0x1000 < 0x200) && a != R.RST_CAUSE_PFAIL.addr && block != 20 && block != 21

/-- Every basic-page field at its reset value (R111). -/
def resetBasic (s : State) : State :=
  let addrs := (s.regs.map (·.1) ++ regsReset.map (·.1)).filter basicReset
  State.forEach addrs (fun a s =>
    match regRow a with
    | some (r, _, _) => resetFields a r.fields s
    | none => s) s

/-- The read-only words that a folio's gatherings are behind: the expert permissions, the classes and event tasks,
the permissions to force, the spine, twin, time, update, watchdog, mirror, Ethernet, station and debug settings, and the
calendar's synchronisation (R111). -/
def folioWords : List Nat :=
  [R.SYS_XPERM_PERM.addr, R.CYC_CFG_SYSCHK.addr, R.FRC_PERM_PERM.addr, R.SPN_CFG_ISOLIM.addr, R.SPN_SNAPCTL_PERIOD.addr,
    R.TWN_CFG_WAIT.addr, (R.NTM_DCFG_MODE 0).addr, (R.NTM_DCFG_MODE 1).addr, R.RTC_CFG_SYNC.addr, R.WDG_WIN_OPEN.addr,
    R.WDG_CFG_ENABLE.addr, R.WDG_FIRST_LEN.addr, R.UPD_CFG_HOLD.addr, R.MIR_CFG_EN.addr, R.ETH_CFG_RED.addr,
    R.STN_CFG_UDP.addr, R.STN_SYS_SYSID.addr, R.DBG_CFG_ENABLE.addr] ++
  ((List.range 8).flatMap fun c => [(R.CYC_PER_TICKS c).addr, (R.CYC_OFS_OFS c).addr, (R.CYC_POL_SLIM c).addr,
    (R.CYC_BG_BOUND c).addr, (R.CYC_BX_BOUND c).addr, (R.CYC_BD_BOUND c).addr]) ++
  (List.range 32).map fun e => (R.CYC_ETCFG_SRC e).addr

/-- Every field of those words at its reset value (R111). -/
def resetFolioWords (s : State) : State :=
  State.forEach folioWords (fun a s =>
    match regRow a with
    | some (r, _, _) => State.forEach r.fields (fun f s => s.set ⟨a, f.lo, f.width⟩ f.reset) s
    | none => s) s

/-- The basic-page fields that a gathering names take the folio's values; POLICY then locks PWR_PFCFG (R68, R111). -/
def applySettings (s : State) (c : FolioContent) : State :=
  let s := State.forEach c.settings (fun p s => s.setting p.1 p.2) s
  let s := s.set R.MIR_STAT_CLASS (s.get R.MIR_CFG_CLASS)
  let s := s.setFlag R.DBG_STAT_CONN (s.dbg.instr == .debug && s.flag R.DBG_CFG_ENABLE)
  s.when (c.settings.any fun p => p.1 == R.PWR_PFCFG_LOCK.addr) (·.raise R.PWR_PFCFG_LOCK)

/-- The nodes of a loop that SPINE expects, beside the acting manager; the manager twin sits in both loops (R38,
R316). -/
def expectedNodes (c : FolioContent) (loopB : Bool) : Nat :=
  (c.nodes.filter fun n => n.addr == 1 || (decide (2 ≤ n.addr) && (decide (64 ≤ n.addr) == loopB))).length

/-- The least common multiple of a list. -/
def lcmAll (xs : List Nat) : Nat := xs.foldl Nat.lcm 1

/-- CYC_STAT.CONF, CYC_CHKLEAD, CYC_GAP and CYC_MAJOR from the periods and offsets in force (R121, R127). -/
def cycleFigures (s : State) : State :=
  let cs := configuredClasses s
  let s := s.set R.CYC_STAT_CONF (cs.foldl (fun m c => withBit m c true) 0)
  let s := s.set R.CYC_CHKLEAD_K (checkLead s)
  if cs.isEmpty then (s.set R.CYC_GAP_GAP 0).set R.CYC_MAJOR_M 0
  else
    let gaps := cs.map fun c => 250 * s.get (R.CYC_PER_TICKS c) - s.get (R.CYC_OFS_OFS c)
    let s := s.set R.CYC_GAP_GAP (gaps.foldl min (gaps.headD 0))
    s.set R.CYC_MAJOR_M (lcmAll (cs.map fun c => s.get (R.CYC_PER_TICKS c)))

/-- The sizes of the handle pools that STRUCT gives (R103). -/
def poolSizes (s : State) (c : FolioContent) : State :=
  State.forEach (List.range 9) (fun i s =>
    s.set (R.HND_POOL_SIZE i) ((c.pools.find? fun p => p.1 == i + 1).elim 0 (·.2))) s

/-- A content in force, with its role, its spine, its pools and its pins. -/
def contentRegs (s : State) (c : FolioContent) : State :=
  let s := { s with folio := { s.folio with content := some c }, spine := { s.spine with addr := c.ownAddr } }
  let s := s.set R.SYS_STATE_ROLE c.role
  let mgr := c.role == 0 || c.role == 2
  let s := s.setFlag R.SPN_STAT_ACTING (c.role == 0 && !c.standalone)
  let s := (s.set R.SPN_STAT_NA (if c.standalone then 0 else expectedNodes c (!mgr && decide (64 ≤ c.ownAddr)))).set
    R.SPN_STAT_NB (if c.standalone || !mgr then 0 else expectedNodes c true)
  let s := (s.set R.SPN_STAT_LOOPA (bitNat (decide (0 < s.get R.SPN_STAT_NA)))).set R.SPN_STAT_LOOPB
    (bitNat (decide (0 < s.get R.SPN_STAT_NB)))
  let s := s.setFlag R.TWN_STAT_MEMBER (c.ownAddr % 2 == 1)
  let s := s.setFlag R.TWN_STAT_PRIMARY c.partner.isNone
  let s := poolSizes s c
  let modes := c.pinModes.zipIdx
  let s := State.forEach modes (fun p s =>
    if p.2 < 18 then s.set R.FAB_PINMODE0_MODES (s.get R.FAB_PINMODE0_MODES % 4 ^ p.2 + p.1 % 4 * 4 ^ p.2)
    else s.set R.FAB_PINMODE1_MODES (s.get R.FAB_PINMODE1_MODES % 4 ^ (p.2 - 18) + p.1 % 4 * 4 ^ (p.2 - 18)))
    ((s.set R.FAB_PINMODE0_MODES 0).set R.FAB_PINMODE1_MODES 0)
  cycleFigures (s.set R.FAB_PINFB_LEVEL c.pinFallback)

/-- The settings of a content in force over the registers, with its role and its spine: what the checks of RESOURCE and
NOFIT read, and the first part of the second pass. -/
def programRegs (s : State) (c : FolioContent) : State :=
  contentRegs (relockAll (restoreAll (applySettings (resetFolioWords (resetBasic s)) c))) c

/-- A code word with the base of the segment that its relocation entry names (log 6). -/
def relocated (c : FolioContent) (sheet : List SheetEntry) (u : CoreUnit) (i : Nat) (w : Word) : Word :=
  match u.relocs.find? (·.1 == i) with
  | some r => relocate w 0 (segBase c sheet r.2)
  | none => w

/-- The code of a unit written at a base. -/
def putCode (s : State) (c : FolioContent) (sheet : List SheetEntry) (u : CoreUnit) (base : Nat) : State :=
  s.fill base (u.code.mapIdx (relocated c sheet u))

/-- The state of a fabric unit that a COLD start gives (R145): leaves at INIT, previous-state bits unset but for
START_EDGE leaves, cells cleared, CV from DATA, presets from the records. -/
def unitInit (u : FabricUnit) : UnitSt where
  id := u.id
  leaves := (List.range u.leafCount).map fun i =>
    ⟨(u.leafWord i 5).getLsbD 22, if (u.leafWord i 5).getLsbD 23 then some false else none, false⟩
  timers := (List.range u.timerCount).map fun i => ⟨0, 0, false, false, bitsOf (u.timerWord i 1) 0 32⟩
  counters := (List.range u.counterCount).map fun i =>
    ⟨(u.cvInit.getD i 0).toInt, none, none, (u.counterWord i 3).toInt, false, false⟩
  arms := u.arms.map (·.fallback)

/-- The first LATCH of a class after a start (R120): its first grid instant at or after the start instant. -/
def firstLatch (s : State) (c : Nat) : Nat :=
  let p := max 1 (classPeriod s c)
  ceilDiv s.cycle.startAt p * p

/-- A retained timer cell recalled (R145, R611): ET and IN_PREV from its words, START the first LATCH minus ET, and Q as
the cell's function gives it of them (log 20). -/
def recallTimer (s : State) (u : FabricUnit) (i a : Nat) (t : TimerSt) : TimerSt :=
  let et := (s.word a).toNat
  let inp := (s.word (a + 1)).getLsbD 0
  let w := u.timerWord i 0
  let q := match bitsOf w 34 2 with
    | 0 => inp && decide (t.pt ≤ et)
    | 1 => inp || (decide (0 < et) && decide (et < t.pt))
    | _ => decide (0 < et) && decide (et < t.pt)
  { t with start := (firstLatch s u.cls / timebaseNs (bitsOf w 32 2) : Nat) - (et : Int), et := et, q := q, inPrev := inp }

/-- A retained counter cell recalled (R145, R611): CV and both previous states; Q and QD follow (log 20). -/
def recallCounter (s : State) (u : FabricUnit) (i a : Nat) (k : CounterSt) : CounterSt :=
  let cv := (s.word a).toInt
  let ty := bitsOf (u.counterWord i 0) 34 2
  { k with
    cv := cv, cuPrev := some ((s.word (a + 1)).getLsbD 1), cdPrev := some ((s.word (a + 1)).getLsbD 0)
    q := if ty = 1 then decide (cv ≤ 0) else decide (k.pv ≤ cv)
    qd := ty == 2 && decide (cv ≤ 0) }

/-- The retained cells of a unit recalled at a WARM start. -/
def unitRecall (s : State) (u : FabricUnit) (st : UnitSt) : UnitSt :=
  { st with
    timers := st.timers.mapIdx fun i t => (u.retTimers.find? (·.1 == i)).elim t fun r => recallTimer s u i r.2 t
    counters := st.counters.mapIdx fun i k => (u.retCounters.find? (·.1 == i)).elim k fun r => recallCounter s u i r.2 k }

/-- A segment's initial values, zeros beyond the words that DATA gives. -/
def Segment.words (g : Segment) : List Word := (List.range g.size).map fun i => g.init.getD i 0

/-- The program data at the folio's initial values (R21): SRAM segments and the mirror bank always, retain data when the
start is COLD; keeper segments are kept. -/
def dataInit (s : State) (c : FolioContent) (cold : Bool) : State :=
  State.forEach c.segments (fun g s =>
    match g.home with
    | .sram => s.fill (segBase c s.imposer.sheet g.id) g.words
    | .fixedAt a =>
      if inKeeper a then s
      else if inRetain a then (if cold then s.storeList a g.words else s)
      else s.fill a g.words) s

/-- The image at the folio's initial values, every point BAD until a LATCH or COMMIT gives it a quality (R21, R148). -/
def imageInit (s : State) (c : FolioContent) : State :=
  let s := s.clearRange 0x600000 0x800000
  let s := State.forEach c.points (fun p s => s.putQual p.word p.global p.num 3) s
  let s := State.forEach c.pointInit (fun p s => s.putPoint p.1 p.2.1 p.2.2.1 p.2.2.2) s
  let mine := c.points.filter fun p => !p.global
  { s with cycle := { s.cycle with
      points := mine.map fun (p : Point) => (⟨p.word, p.num, none, 3, 0⟩ : PointSt)
      committed := imageOf s } }

/-- The state bits and cells of every unit at their initial values (R21). -/
def fabricInit (s : State) (c : FolioContent) : State :=
  { s with fabric := { s.fabric with
      units := c.fabrics.map unitInit
      quires := s.fabric.quires.map fun (q : QuireSt) => { q with running := none, next := none, waiting := [] } } }

/-- Channels and handles recreated from the CHANNEL gathering, every generation 1 (R21, R101, R102). -/
def channelsInit (s : State) (c : FolioContent) : State :=
  let s := State.forEach s.handles.channels (fun ch s => channelDetach s ch.cls ch.idx) s
  let s := { s with handles := { s.handles with gens := [], channels := [] } }
  let s := State.forEach c.channels (fun d s =>
    channelPut s ⟨d.cls, d.idx, d.words, channelBound s d.cls d.idx, true⟩) s
  poolShow s

/-- A watchdog window begins, a first window or an ordinary one (R478, R480); in HALT it stands at its start. -/
def windowBegin (s : State) (first : Bool) : State :=
  let s := { s with
    watchdog := { s.watchdog with
      shift := 0
      haltAt := s.watchdog.haltAt.map fun _ => s.get R.WDG_LCLK_GRAIN } }
  let s := (s.set R.WDG_STAT_CHECKED 0).set R.WDG_STAT_HELD 0
  (s.setFlag R.WDG_STAT_FIRST first).set R.WDG_WSTART_GRAIN (s.get R.WDG_LCLK_GRAIN)

/-- The watchdog slots that POLICY enrols, resolved by name (R481). -/
def slotsInit (s : State) (c : FolioContent) : State :=
  let s := State.forEach (List.range 16) (fun i s => s.setReg (R.WDG_SLOT_EN i).addr 0) s
  let s := { s with watchdog := { s.watchdog with token := c.wdgToken } }
  State.forEach c.wdgSlots (fun x s =>
    match c.cores.find? (·.name == x.2.1) with
    | none => s
    | some u =>
      let cls := match u.event with
        | some e => s.get (R.CYC_ETCFG_HOST e)
        | none => u.cls
      let s := ((s.raise (R.WDG_SLOT_EN x.1)).set (R.WDG_SLOT_CLASS x.1) cls).setFlag (R.WDG_SLOT_EVT x.1) u.event.isSome
      let s := s.set (R.WDG_SLOT_TASK x.1) u.id
      { s with watchdog := { s.watchdog with slotTokens := s.watchdog.slotTokens.setIfInBounds x.1 x.2.2 } }) s

/-- PROGRAM initialised when its layout is new (R500). -/
def keeperInit (s : State) (c : FolioContent) : State :=
  let s := { s with
    keeper := { s.keeper with groups := c.groups } }
  if s.keeper.layout = c.keeperDigest then s
  else
    let s := (keeperFlush s).clearRange 0x419000 0x429000
    let s := State.forEach c.segments (fun g s =>
      match g.home with
      | .fixedAt a => if inKeeper a then s.fill a g.words else s
      | .sram => s) s
    let s := State.forEach c.groups (fun g s =>
      let ws := slotWords (List.replicate g.count 0)
      s.fill (groupWordAt g.addr g.count) [BitVec.ofNat 36 (crc32c (packWords ws))]) s
    let s := { s with
      keeper := { s.keeper with layout := c.keeperDigest } }
    (s.raise R.KPR_EVT_INIT).journal 16 23 0 0

/-- A word list shown in the eight digest registers (R92, R97). -/
def putDigest (s : State) (f : Nat → Fld) (ws : List Word) : State :=
  State.forEach (List.range 8) (fun i s => s.set (f i) (ws.getD i 0).toNat) s

/-- The folio in force is taken out of force (R81): its channels, units, sheet, image and program memory are gone, and
the registers that show a folio read 0; every generation is 1 again (log 156). -/
def folioOut (s : State) : State :=
  let s := State.forEach s.handles.channels (fun ch s => channelDetach s ch.cls ch.idx) s
  let s := poolShow { s with handles := { s.handles with gens := [], channels := [] } }
  let s := (s.clearRange 0 0x400000).clearRange 0x600000 0x800000
  let s := { s with folio := { s.folio with content := none, bodies := [] } }
  let s := { s with
    fabric := { s.fabric with units := [], quires := Vector.replicate 8 ⟨none, none, [], [], []⟩ }
    imposer := ImposerSt.fresh }
  let s := clearStaged (quireShow s)
  let s := { s with
    cycle := { s.cycle with classes := Vector.replicate 8 ClassSt.fresh, points := [], committed := [] } }
  let s := ((s.set R.FOL_STAT_FOLIO 0).set R.FOL_STAT_SRC 0).set R.FOL_STAT_COMPAT 0
  let s := (s.set R.FOL_STAT_DIVERGED 0).set R.SYS_STATE_FOLIO 0
  let s := (s.set R.FOL_BUILD0_BUILD 0).set R.FOL_BUILD1_BUILD 0
  let s := putDigest (putDigest s R.FOL_DIGEST_DIGEST []) R.FOL_PDIGEST_DIGEST []
  let s := State.forEach (List.range 9) (fun i s => s.set (R.HND_POOL_SIZE i) 0) s
  let s := (s.set R.CYC_STAT_CONF 0).set R.IMP_SCOUNT_COUNT 0
  (s.set R.IMP_STAT_WAIT 0).set R.IMP_STAT_REMOTE 0

/-- The second pass configures everything that a folio gives (R81): settings, placement, code, data, fabric, channels,
watchdog slots, keeper, spine and twin. -/
def configure (s : State) (c : FolioContent) : State :=
  let s := programRegs s c
  let act := s.get R.NTM_STAT_ACT
  let s := loadTime s act (c.standalone || c.role % 2 == 0)
  let s := State.forEach (List.range 8) (fun q s => (s.setReg (R.FAB_QSTAT_DIS q).addr 0).putBit R.FAB_STAT_DIS q false) s
  let sheet := (placeAll s (fun _ => false) c).getD []
  let s := activePlanes ((sheetPut s c sheet).add R.IMP_SGEN_GEN 1) c sheet
  let s := State.forEach c.cores (fun u s => putCode s c sheet u ((s.placed 1 u.id false).elim 0 (·.base))) s
  let s := { s with cores := s.cores.mapIdx fun i (k : Core) => { k with vbase := BitVec.ofNat 24 (c.vbases.getD i 0) } }
  let s := dataInit s c false
  let s := fabricInit (imageInit s c) c
  let s := channelsInit s c
  let s := configDue s
  keeperInit (slotsInit s c) c

end Sys2Proof.Machine
end

