-- ==== Sys2Proof/Machine/Force.lean ====
section
/-!
DEFINITION. Sys2Proof/Machine/Force.lean: the force table (R306 to R313), what a LATCH does to it, and the rows FORCE_SET,
FORCE_CLEAR, FORCE_CLEARALL and FORCE_READ.
-/
namespace Sys2Proof.Machine

/-- FRC_STAT and the keeper copy follow the table (R311, R313): COUNT the entries in use, LED while FORCED_N is driven
low. -/
def forceShow (s : State) : State :=
  let used := s.forces.filter (·.applied)
  let on := match s.dev with
    | .off | .boot | .load => false
    | _ => s.flag R.FRC_CTL_ENABLE && !used.isEmpty
  let s := (s.set R.FRC_STAT_COUNT used.length).setFlag R.FRC_STAT_LED on
  { s with keeper := { s.keeper with
      forces := used, forceDigest := (List.range 8).map fun i => BitVec.ofNat 36 (s.get (R.FOL_PDIGEST_DIGEST i)) } }

/-- Reflex paths start (R18, R178, R185, R578): every T is FALSE, arm bits and class-output pins are at fallback. -/
def reflexStart (s : State) : State :=
  let s := s.set R.FAB_TRIP_T 0
  reflexSettle (State.forEach (List.range 8) (fun c s => armsFallback (pinsFallback s c) c) s)

/-- Reflex paths end (R18): every fast pin takes its reset state, in which nothing drives it. -/
def reflexEnd (s : State) : State :=
  let s := State.forEach (List.range 8) (fun q s =>
    (s.set (R.FAB_QSTAT_REFLEX q) 0).putBit R.FAB_STAT_REFLEX q false) s
  { s with fabric := { s.fabric with drive := 0, held := 0 } }

/-- The device in another state (R17); FORCED_N follows the state, and so do the reflex paths (R18); the metering engine stops
for a LOAD (R424). -/
def State.enter (s : State) (d : Dev) : State :=
  let was := reflexState s
  let s := { s with dev := d }.vector 1
  let s := if d = .load then meterStop s else s
  let s := match d with
    | .off | .boot | .load => s.set R.FRC_STAT_LED 0
    | _ => s.setFlag R.FRC_STAT_LED (s.flag R.FRC_CTL_ENABLE && s.get R.FRC_STAT_COUNT != 0)
  if was == reflexState s then s else if was then reflexEnd s else reflexStart s

/-- A change of the table (R308): its generation and event. -/
def forceChanged (s : State) (n : Nat) : State :=
  if n = 0 then s else (s.add R.FRC_GEN_GEN n).raise R.FRC_EVT_CHANGE

/-- A force port command ended. -/
def forceEnd (s : State) (p status err : Nat) : State :=
  let s := (s.set (R.FRC_PCMD_STATUS p) status).set (R.FRC_PERR_CODE p) err
  let s := s.when (status = 2 ∨ status = 5) (·.portDone p)
  if status = 5 then s.raise R.FRC_EVT_REFUSE else s

/-- The type code of a scalar that may be forced (R306). -/
def Scalar.forceCode : Scalar → Option Nat
  | .bit => some 0
  | .h18 _ _ => some 1
  | .w36 _ => some 2
  | .f36 => some 3
  | .q35 => some 4
  | .d72 _ => none

/-- Whether a value lies in a forced type's range (R307, VALUE). -/
def forceInRange (ty : Scalar) (v : Word) : Bool :=
  match ty with
  | .bit => decide (v.toNat ≤ 1)
  | .h18 true _ => decide (-131072 ≤ v.toInt) && decide (v.toInt < 131072)
  | .h18 false _ => decide (v.toNat < 262144)
  | _ => true

/-- What a command's symbol and element name: the point, with its owner, and the type; otherwise the error (R307). -/
def forceTarget (s : State) (c : FolioContent) (sym elem : Nat) : Except Nat (Scalar × Point) :=
  match c.symbols[sym]? with
  | none => .error 1
  | some y =>
    match y.home with
    | .point word num =>
      if y.shape = .struct then .error 3
      else match y.members[elem]? with
        | none => .error 5
        | some m =>
          if m.ty.forceCode.isNone then .error 3
          else match pointOwner s word false (num + m.off) with
            | some p => .ok (m.ty, p)
            | none => .error 2
    | _ => .error 2

/-- Where a force command is refused: the code of its STATUS (R307, R313; log 21). READ is admitted in STANDBY. -/
def forceRefusal (s : State) (read : Bool) : Option Nat :=
  match s.dev with
  | .off | .boot | .load => some 3
  | .standby => if read then none else some 6
  | _ => if 0 < s.power.pfStep && !read then some 3 else none

/-- Entries that a LATCH of a class, or an entry into STOP, takes in: those marked end, new values come in, and every
entry left is in the table; it acts while ENABLE is 1 (R308, R311). -/
def forceTake (s : State) (mine : Force → Bool) (act : Bool) : State :=
  let mine' := s.forces.filter mine
  let changed := (mine'.filter fun f => f.ending || !f.applied || f.next.isSome).length
  let on := act && s.flag R.FRC_CTL_ENABLE
  let kept := s.forces.filter fun f => !(mine f && f.ending)
  let s := { s with
    forces := kept.map fun (f : Force) =>
      if mine f then ({ f with value := f.next.getD f.value, next := none, applied := true, live := on } : Force)
      else f }
  forceShow (forceChanged s changed)

/-- Commands that wait for LATCHes have one class less to wait for; those that wait for none are done (R308). -/
def forceCmdsLatched (s : State) (passed : Nat → Bool) : State :=
  let cmds := s.forceCmds.map fun (k : ForceCmd) => { k with classes := k.classes.filter fun c => !passed c }
  let s := { s with forceCmds := cmds.filter fun (k : ForceCmd) => !k.classes.isEmpty }
  State.forEach (cmds.filter fun (k : ForceCmd) => k.classes.isEmpty) (fun k s => forceEnd s k.port 2 0) s

/-- FORCE_APPLY (R308): the LATCH of a class takes in the changes checked since the last one. -/
def forceLatch (s : State) (c : Nat) : State := forceCmdsLatched (forceTake s (·.cls == c) true) (· == c)

/-- In STOP the table changes at once, and the forces apply from the start (R308). -/
def forceSettle (s : State) : State := forceCmdsLatched (forceTake s (fun _ => true) false) (fun _ => true)

/-- The states in which no LATCH comes: the table changes at once (R308; log 21). -/
def forceAtOnce (s : State) : Bool := s.dev == .stop || s.dev == .safe

/-- A checked command takes effect at the LATCHes of its classes, or at once. -/
def forceStart (s : State) (p : Nat) (classes : List Nat) : State :=
  let s := s.set (R.FRC_PCMD_STATUS p) 1
  let s := { s with forceCmds := s.forceCmds ++ [⟨p, classes⟩] }
  if forceAtOnce s then forceSettle s
  else if classes.isEmpty then forceCmdsLatched s (fun _ => false)
  else s

/-- The lowest entry number that is free. -/
def forceFree (s : State) : Option Nat := (List.range 1024).find? fun e => !s.forces.any (·.entry == e)

/-- A port command of a code (R307, R612). -/
def forceCommand (s : State) (p code : Nat) (run : FolioContent → State → State) : State :=
  if s.get (R.FRC_PCMD_STATUS p) = 1 then s.rsvd p (R.FRC_PCMD_CODE p).addr
  else
    let s := (s.set (R.FRC_PCMD_CODE p) code).set (R.FRC_PERR_CODE p) 0
    match forceRefusal s (code == 4) with
    | some st => s.set (R.FRC_PCMD_STATUS p) st
    | none =>
      if !s.getBit R.FRC_PERM_PERM p then forceEnd s p 5 6
      else match s.folio.content with
        | some c => run c s
        | none => forceEnd s p 5 1

/-- FORCE_SET (R306 to R308). -/
def forceSet (s : State) (p : Nat) : State :=
  forceCommand s p 1 fun c s =>
    let sym := s.get (R.FRC_PSYM_SYM p)
    let elem := s.get (R.FRC_PSYM_ELEM p)
    let v := s.reg (R.FRC_PVAL_VALUE p).addr
    match forceTarget s c sym elem with
    | .error e => forceEnd s p 5 e
    | .ok (ty, pt) =>
      if !forceInRange ty v then forceEnd s p 5 7
      else match s.forces.find? fun f => f.word == pt.word && f.num == pt.num with
        | some f =>
          let g : Force := { f with sym := sym, elem := elem, next := some v, ending := false }
          let s := { s with forces := updateFirst (·.entry == f.entry) (fun _ => g) s.forces }
          forceStart (s.set (R.FRC_PENT_ENTRY p) f.entry) p [pt.cls]
        | none =>
          match forceFree s with
          | none => forceEnd s p 5 4
          | some e =>
            let g : Force := ⟨e, sym, elem, v, pt.word, pt.num, pt.cls, pt.out, ty.forceCode.getD 0, false, false, false,
              none, s.qual pt.word false pt.num⟩
            forceStart ({ s with forces := s.forces ++ [g] }.set (R.FRC_PENT_ENTRY p) e) p [pt.cls]

/-- FORCE_CLEAR (R308): the force on the point that the port's symbol names ends. -/
def forceClear (s : State) (p : Nat) : State :=
  forceCommand s p 2 fun c s =>
    match forceTarget s c (s.get (R.FRC_PSYM_SYM p)) (s.get (R.FRC_PSYM_ELEM p)) with
    | .error e => forceEnd s p 5 e
    | .ok (_, pt) =>
      let mine (f : Force) : Bool := f.word == pt.word && f.num == pt.num
      let s := { s with
        forces := s.forces.map (fun (f : Force) => if mine f then { f with ending := true } else f) }
      forceStart s p (if s.forces.any mine then [pt.cls] else [])

/-- FORCE_CLEARALL (R308). -/
def forceClearAll (s : State) (p : Nat) : State :=
  forceCommand s p 3 fun _ s =>
    let s := { s with forces := s.forces.map fun (f : Force) => { f with ending := true } }
    forceStart s p (s.forces.map (·.cls)).eraseDups

/-- FORCE_READ (R307). -/
def forceRead (s : State) (p : Nat) : State :=
  forceCommand s p 4 fun _ s =>
    let a := (R.FRC_PINFO_VALID p).addr
    match s.forces.find? fun f => f.applied && f.entry == s.get (R.FRC_PENT_ENTRY p) with
    | none => forceEnd (s.setReg a 0) p 2 0
    | some f =>
      let s := ((s.setReg a 0).raise (R.FRC_PINFO_VALID p)).setFlag (R.FRC_PINFO_DIR p) f.out
      let s := ((s.set (R.FRC_PINFO_TYPE p) f.ty).set (R.FRC_PINFO_SRCQ p) f.srcq).set (R.FRC_PINFO_POINT p) f.num
      forceEnd (s.setReg (R.FRC_PVAL_VALUE p).addr f.value) p 2 0

/-- A force that goes with its symbol or its program: recorded with the old symbol index and value (R312). -/
def forceDrop (s : State) (f : Force) : State :=
  ((s.record 67 11 f.sym f.value.toNat).add R.FRC_DROPS_COUNT 1).raise R.FRC_EVT_DROP

/-- An entry that follows its symbol to the new table (R312), by the pairs of new and old index: none where the symbol goes or
changes type or direction. -/
def forceFollow (s : State) (new : FolioContent) (pairs : List (Nat × Nat)) (f : Force) : Option Force :=
  (pairs.find? (·.2 == f.sym)).bind fun m =>
    match forceTarget s new m.1 f.elem with
    | .ok (ty, p) =>
      if ty.forceCode = some f.ty ∧ p.out = f.out then
        some { f with sym := m.1, word := p.word, num := p.num, cls := p.cls }
      else none
    | .error _ => none

/-- The table follows the symbols of the new content, which is in force (R312). -/
def forcesFollow (s : State) (new : FolioContent) (pairs : List (Nat × Nat)) (old : List Force) : State :=
  let kept := old.filterMap (forceFollow s new pairs)
  let s := { s with forces := kept }
  forceShow (State.forEach (old.filter fun f => (forceFollow s new pairs f).isNone) (fun f s => forceDrop s f) s)

/-- The table cleared without a record (R313). -/
def forcesClear (s : State) : State := forceShow { s with forces := [], forceCmds := [] }

/-- The table of a WARM start (R313): the keeper's copy where its program digest is that of the folio in force,
otherwise cleared with every entry recorded as dropped. -/
def forcesRecall (s : State) : State :=
  let digest := (List.range 8).map fun i => BitVec.ofNat 36 (s.get (R.FOL_PDIGEST_DIGEST i))
  let copy := s.keeper.forces
  if s.keeper.forceDigest = digest then forceShow { s with forces := copy, forceCmds := [] }
  else forcesClear (State.forEach copy (fun f s => forceDrop s f) s)

/-- FORCE_SET (R306). -/
def execForceSet (port : Port) (s : State) : Result := s.serve port fun s => forceSet s port

/-- FORCE_CLEAR (R308). -/
def execForceClear (port : Port) (s : State) : Result := s.serve port fun s => forceClear s port

/-- FORCE_CLEARALL (R308). -/
def execForceClearall (port : Port) (s : State) : Result := s.serve port fun s => forceClearAll s port

/-- FORCE_READ (R307). -/
def execForceRead (port : Port) (s : State) : Result := s.serve port fun s => forceRead s port

end Sys2Proof.Machine
end

