-- ==== Sys2Proof/Machine/Verify.lean ====
section
/-!
DEFINITION. Sys2Proof/Machine/Verify.lean: the checks of a folio or a tip-in in the order of R89 (R70 to R80, R90, R91, R95,
R96), with the cause and the word offset of the first that fails. Where a check reads a gathering's content, the offset is
that of the gathering (log 22).
-/
namespace Sys2Proof.Machine

/-- A gathering's header (R75): type, offset, body length, TAG, whether its fixed fields are as R75 and R76 ask, and its
CRC. -/
structure Gath where
  ty : Nat
  off : Nat
  blen : Nat
  tag : Nat
  sound : Bool
  crc : Nat
  deriving DecidableEq, Repr

/-- Bits `lo` to `lo + n − 1` of word `i`. -/
def wordField (ws : List Word) (i lo n : Nat) : Nat := bitsOf (ws.getD i 0) lo n

/-- ENC of the header. -/
def encrypted (ws : List Word) : Bool := wordField ws 5 2 1 == 1

/-- The number of wrap-table entries n (R74). -/
def wrapCount (ws : List Word) : Nat := wordField ws 16 0 4

/-- The offset of the first gathering. -/
def firstGath (ws : List Word) : Nat := if encrypted ws then 16 + 20 + 14 * wrapCount ws else 16

/-- The types that may occur more than once (R76). -/
def repeatable (t : Nat) : Bool := oneOf t [2, 3, 4]

/-- The gathering whose header begins at an offset (R75, R76); a reserved bit, or a TAG of a type without one, is not sound
and so gives GATHER (log 124). -/
def gathAt (ws : List Word) (off : Nat) : Gath :=
  let t := wordField ws off 30 6
  let blen := (ws.getD (off + 1) 0).toNat
  let tag := (ws.getD (off + 2) 0).toNat
  ⟨t, off, blen, tag,
   wordField ws off 18 12 == 1 && wordField ws off 0 18 == 0 && wordField ws (off + 3) 32 4 == 0 && blen % 2 == 0 &&
     (oneOf t [1, 2, 3, 4, 5, 6, 7, 8, 9, 10] || (t == 63 && blen == 20)) && (repeatable t || tag == 0),
   wordField ws (off + 3) 0 32⟩

/-- The gatherings of a folio, at most `n`, up to SEAL. -/
def gathWalk (ws : List Word) (limit : Nat) : Nat → Nat → List Gath
  | 0, _ => []
  | n + 1, off =>
    if limit < off + 4 then []
    else
      let g := gathAt ws off
      if g.ty = 63 then [g] else g :: gathWalk ws limit n (off + 4 + g.blen)

/-- The gatherings that the header counts. -/
def gatherings (ws : List Word) : List Gath := gathWalk ws (ws.getD 3 0).toNat (wordField ws 4 0 8) (firstGath ws)

/-- KIND of the header. -/
def folioKind (ws : List Word) : Nat := wordField ws 2 0 4

/-- A type occurs. -/
def hasGath (gs : List Gath) (t : Nat) : Bool := gs.any (·.ty == t)

/-- Presence by KIND (R76, R98). -/
def gathPresence (kind : Nat) (gs : List Gath) : Bool :=
  let has := hasGath gs
  if kind = 2 then has 5 && has 10 && has 63 && !has 7 && !has 8 && !has 9
  else has 1 && has 5 && has 7 && has 8 && has 9 && has 63 && (has 2 || has 3) && (kind == 3 || !has 10)

/-- Two gatherings in the order of R76. -/
def gathOrder (a b : Gath) : Bool :=
  decide (a.ty < b.ty) || (a.ty == b.ty && repeatable a.ty && decide (a.tag < b.tag))

/-- The offset of the first gathering that is unsound or out of order. -/
def gathBad : List Gath → Option Nat
  | [] => none
  | [g] => if g.sound then none else some g.off
  | a :: b :: rest => if !a.sound then some a.off else if !gathOrder a b then some b.off else gathBad (b :: rest)

/-- The offset of a gathering of a type, 0 where there is none. -/
def gathOff (gs : List Gath) (t : Nat) : Nat := ((gs.find? (·.ty == t)).map (·.off)).getD 0

/-- The words of a gathering's body. -/
def bodyOf (ws : List Word) (g : Gath) : List Word := (ws.drop (g.off + 4)).take g.blen

/-- The entry of the wrap table that names this unit (R79). -/
def wrapEntry (s : State) (ws : List Word) : Option Nat :=
  (List.range (wrapCount ws)).find? fun i =>
    wordField ws (36 + 14 * i) 0 32 == s.get R.COL_SER0_SERIAL && wordField ws (37 + 14 * i) 0 32 == s.get R.COL_SER1_SERIAL

/-- Words of a folio as a byte string of R71. -/
def folioBytes (ws : List Word) (off n : Nat) : Nat := byteNat ((ws.drop off).take n)

/-- The content key that this unit unwraps (R79): none where its entry, the key agreement or the entry's tag fails. -/
def contentKey (s : State) (ws : List Word) : Option Nat :=
  (wrapEntry s ws).bind fun i =>
    (ecdh s.ids.unitKey (folioBytes ws 20 8, folioBytes ws 28 8)).bind fun z =>
      let serial := s.get R.COL_SER0_SERIAL * 2 ^ 32 + s.get R.COL_SER1_SERIAL
      let kek := sha256 49 (z * 2 ^ 136 + serial * 2 ^ 72 + packNat ((ws.drop 6).take 2))
      let key := gcmOpen kek 0 0 0 32 (folioBytes ws (38 + 14 * i) 8)
      if key.2 = folioBytes ws (46 + 14 * i) 4 then some key.1 else none

/-- A list of words dealt out in pieces of given lengths. -/
def deal : List Nat → List Word → List (List Word)
  | [], _ => []
  | n :: ns, ws => ws.take n :: deal ns (ws.drop n)

/-- The plaintext bodies of the gatherings but SEAL, in folio order (R79): those of an encrypted folio are opened with the
content key, the header and wrap table being additional data; none where the key or the content tag fails (R80). -/
def plainBodies (s : State) (ws : List Word) : Option (List (Gath × List Word)) :=
  let gs := (gatherings ws).filter (·.ty != 63)
  let bodies := gs.map (bodyOf ws)
  if !encrypted ws then some (gs.zip bodies)
  else
    (contentKey s ws).bind fun key =>
      let c := bodies.flatten
      let head := ws.take (firstGath ws)
      let r := gcmOpen key (folioBytes ws 17 3) (packLen head.length) (packNat head) (packLen c.length) (packNat c)
      let tag := ((gatherings ws).find? (·.ty == 63)).elim 0 fun g => byteNat ((bodyOf ws g).take 4)
      if r.2 = tag then some (gs.zip (deal (bodies.map (·.length)) (unpackNat c.length r.1))) else none

/-- The seal verifies under the owner key in a slot (R77, R78): the signed bytes run from the header to the end of the SEAL
gathering's header. -/
def sealVerifies (s : State) (ws : List Word) (slot : Nat) : Bool :=
  ((gatherings ws).find? (·.ty == 63)).any fun g =>
    let b := bodyOf ws g
    ecdsaOk (ownerKey s slot) (shaWords (ws.take (g.off + 4))) (byteNat ((b.drop 4).take 8)) (byteNat ((b.drop 12).take 8))

/-- The digest that FOL_DIGEST shows of a folio: SHA-256 over its packed words. -/
def folioSha (ws : List Word) : List Word := byteWords 8 (shaWords (ws.take (ws.getD 3 0).toNat))

/-- The program digest over the bodies of a folio (R92). -/
def programSha (bodies : List (Nat × Nat × List Word)) : List Word :=
  byteWords 8 (shaWords ((bodies.filter fun b => oneOf b.1 [1, 2, 3, 4, 5, 6, 8]).flatMap (·.2.2)))

/-- The bodies by type and TAG, none of a folio that does not open. -/
def folioBodies (s : State) (ws : List Word) : List (Nat × Nat × List Word) :=
  ((plainBodies s ws).getD []).map fun b => (b.1.ty, b.1.tag, b.2)

/-- Disposition and old index of the entries of a MAP body (R96). -/
def mapEntries (body : List Word) : List (Nat × Nat) := (body.drop 16).map fun w => (bitsOf w 34 2, bitsOf w 0 18)

/-- A MAP body as R96 lays it out: no reserved disposition or bit, and old index 0 for a new symbol (log 124). -/
def mapSound (body : List Word) : Bool :=
  (body.drop 16).all fun w => bitsOf w 34 2 != 3 && zeroBits w 18 16 && (bitsOf w 34 2 != 0 || bitsOf w 0 18 == 0)

/-- The content of an image, its MAP decoded from the plaintext body (R96): a body of even length holds one word of 0 more
than an odd number of symbols. -/
def FolioImage.program (s : State) (img : FolioImage) : FolioContent :=
  match (folioBodies s img.words).find? (·.1 == 10) with
  | none => { img.content with map := [], mapDigests := none }
  | some b =>
    let body := b.2.2
    let n := img.content.symbols.length
    let es := mapEntries body
    let es := if n % 2 = 1 ∧ es.length = n + 1 ∧ (body.getLast?.all (· == 0)) then es.take n else es
    { img.content with map := es, mapDigests := some (body.take 8, (body.drop 8).take 8) }

/-- GATHER (R76): order, multiplicity, COUNT, GVER, BLEN, and the end at LENGTH. -/
def gatherFault (ws : List Word) : Option Nat :=
  let gs := gatherings ws
  let last := gs.getLast?
  let ends := last.any fun g => g.ty == 63 && g.off + 4 + g.blen == (ws.getD 3 0).toNat
  match gathBad gs with
  | some o => some o
  | none =>
    if gs.length ≠ wordField ws 4 0 8 ∨ !ends ∨ !gathPresence (folioKind ws) gs then
      some ((last.map (·.off)).getD (firstGath ws))
    else none

/-- A range of words with a nonzero bit above bit 31: the first offset (R71). -/
def highBits (ws : List Word) (off n : Nat) : Option Nat :=
  ((List.range n).find? fun i => wordField ws (off + i) 32 4 != 0).map (off + ·)

/-- The first offset that breaks FORMAT (R71, R73, R74). -/
def formatFault (ws : List Word) : Option Nat :=
  let at' (i lo n : Nat) : Nat := wordField ws i lo n
  if at' 1 18 18 ≠ 1 ∨ at' 1 0 18 ≠ 16 then some 1
  else if at' 2 4 20 ≠ 0 then some 2
  else if at' 4 8 28 ≠ 0 then some 4
  else if at' 5 3 33 ≠ 0 then some 5
  else match (List.range 7).find? fun i => ws.getD (9 + i) 0 != 0 with
    | some i => some (9 + i)
    | none =>
      if encrypted ws ∧ (at' 16 4 32 ≠ 0 ∨ wrapCount ws = 0 ∨ 8 < wrapCount ws) then some 16
      else
        let wrap := if encrypted ws then highBits ws 17 (19 + 14 * wrapCount ws) else none
        match wrap with
        | some o => some o
        | none =>
          let of (t n : Nat) : Option Nat := ((gatherings ws).find? (·.ty == t)).bind fun g => highBits ws (g.off + 4) (min n g.blen)
          (of 63 20).or (if encrypted ws then none else of 10 16)

/-- The first gathering whose body differs from its CRC (R75, R77). -/
def crcFault (ws : List Word) : Option Nat :=
  ((gatherings ws).find? fun g =>
    let body := bodyOf ws g
    let body := if g.ty = 63 then body.take 4 ++ List.replicate 16 0 else body
    crc32c (packWords body) != g.crc).map (·.off)

/-- A selector of R158. -/
def selLegal (v : Nat) : Bool := decide (v < 0xB818) || v == 0x3FFFE || v == 0x3FFFF

/-- A level of R157. -/
def levelLegal (v : Nat) : Bool := decide (1 ≤ v) && decide (v ≤ 256)

/-- A leaf record (R157). -/
def leafLegal (u : FabricUnit) (i : Nat) : Bool :=
  let w := u.leafWord i
  zeroBits (w 0) 32 4 && zeroBits (w 1) 32 4 && zeroBits (w 5) 0 22 && bitsOf (w 5) 25 2 != 3 &&
    levelLegal (bitsOf (w 5) 27 9) && [2, 3, 4].all fun k => selLegal (bitsOf (w k) 0 18) && selLegal (bitsOf (w k) 18 18)

/-- A timer record (R169). -/
def timerLegal (u : FabricUnit) (i : Nat) : Bool :=
  let w := u.timerWord i
  bitsOf (w 0) 34 2 != 3 && zeroBits (w 0) 18 3 && levelLegal (bitsOf (w 0) 21 9) && selLegal (bitsOf (w 0) 0 18) &&
    zeroBits (w 1) 32 4

/-- A counter record (R170); CTD ignores CU and CTU ignores CD. -/
def counterLegal (u : FabricUnit) (i : Nat) : Bool :=
  let w := u.counterWord i
  let ty := bitsOf (w 0) 34 2
  ty != 3 && zeroBits (w 0) 31 3 && zeroBits (w 0) 18 3 && levelLegal (bitsOf (w 0) 21 9) &&
    (ty == 1 || selLegal (bitsOf (w 0) 0 18)) && (ty == 0 || selLegal (bitsOf (w 1) 18 18)) &&
    selLegal (bitsOf (w 1) 0 18) && zeroBits (w 2) 18 18 && selLegal (bitsOf (w 2) 0 18)

/-- The taps of a unit (R159): GLOBAL on a manager only. -/
def tapsLegal (u : FabricUnit) (manager : Bool) : Bool :=
  (u.inTaps.all fun w => zeroBits w 21 13 && (manager || !w.msb)) &&
    u.outTaps.length % 2 == 0 && (List.range (u.outTaps.length / 2)).all fun i =>
      let a := u.outTaps.getD (2 * i) 0
      zeroBits a 21 14 && (manager || !a.msb) && zeroBits (u.outTaps.getD (2 * i + 1) 0) 15 21

/-- A reflex selector (R176). -/
def reflexSelLegal (v : Nat) : Bool :=
  decide (v < 24) || (decide (32 ≤ v) && decide (v < 96)) || v == 126 || v == 127

/-- The selectors of a reflex record's inputs. -/
def reflexInputs (u : FabricUnit) (i : Nat) : List Nat :=
  let w (k : Nat) : Word := u.reflex.getD (4 * i + k) 0
  [bitsOf (w 2) 0 7, bitsOf (w 2) 7 7, bitsOf (w 2) 14 7, bitsOf (w 2) 21 7, bitsOf (w 3) 0 7, bitsOf (w 3) 7 7]

/-- One round of the lengths of the chains that end in each reflex leaf of a unit, counted in leaves: those that start at a
pin, or all. -/
def reflexRound (u : FabricUnit) (pins : Bool) (d : List Nat) : List Nat :=
  d.mapIdx fun i _ => ((reflexInputs u i).map fun v =>
    if v < 24 then 1 else if 64 ≤ v ∧ v < 96 ∧ d.getD (v - 64) 0 ≠ 0 then d.getD (v - 64) 0 + 1 else 0).foldl max
      (if pins then 0 else 1)

/-- The reflex leaves of a unit form no loop: the lengths of their chains settle within as many rounds as there are leaves;
and no chain from a pin to a driven pin passes through more than 3 of them (R179). -/
def reflexChains (u : FabricUnit) : Bool :=
  let n := u.reflex.length / 4
  let after (pins : Bool) (rounds : Nat) := Nat.repeat (reflexRound u pins) rounds (List.replicate n 0)
  after false (n + 1) == after false n &&
    (List.range n).all fun i => !(u.reflex.getD (4 * i + 3) 0).getLsbD 29 || decide ((after true n).getD i 0 ≤ 3)

/-- A reflex record (R176). -/
def reflexLegal (u : FabricUnit) (i : Nat) : Bool :=
  let w (k : Nat) : Word := u.reflex.getD (4 * i + k) 0
  let kind := reflexKind u i
  zeroBits (w 0) 32 4 && zeroBits (w 1) 32 4 && zeroBits (w 2) 28 8 && zeroBits (w 3) 30 6 && zeroBits (w 3) 21 1 &&
    (kind == 1 || kind == 2) && (reflexInputs u i).all reflexSelLegal &&
    (kind == 1 || (decide (32 ≤ bitsOf (w 3) 14 7) && decide (bitsOf (w 3) 14 7 < 64))) &&
    (!(w 3).getLsbD 29 || decide (bitsOf (w 3) 24 5 < 24))

/-- STRUCT names one place in the retain copy for each retained cell (R611): records of `n` words, in number `count`. -/
def retainLegal (records : List Word) (n count : Nat) (places : List (Nat × Nat)) : Bool :=
  (List.range count).all fun i => !(records.getD (n * i) 0).getLsbD 30 ||
    match places.filter (·.1 == i) with
    | [p] => inRetain p.2 && inRetain (p.2 + 1)
    | _ => false

/-- One unit's records, and its size within one quire (R90, R156). -/
def unitLegal (u : FabricUnit) (manager : Bool) : Bool :=
  (List.range u.leafCount).all (leafLegal u) && (List.range u.timerCount).all (timerLegal u) &&
    (List.range u.counterCount).all (counterLegal u) && tapsLegal u manager &&
    (List.range (u.reflex.length / 4)).all (reflexLegal u) && reflexChains u && quireFits [u] &&
    retainLegal u.timers 2 u.timerCount u.timerRet && retainLegal u.counters 4 u.counterCount u.counterRet

/-- A list without a repeat. -/
def distinct {α : Type} [BEq α] : List α → Bool
  | [] => true
  | x :: xs => !xs.contains x && distinct xs

/-- The points that the output taps of a class name, as GLOBAL and number. -/
def tapPoints (c : FolioContent) (cls : Nat) : List (Bool × Nat) :=
  (c.fabrics.filter (·.cls == cls)).flatMap fun u => (List.range (u.outTaps.length / 2)).map fun i =>
    ((u.outTaps.getD (2 * i) 0).msb, wordField u.outTaps (2 * i) 0 21)

/-- The pins that reflex leaves drive. -/
def reflexDriven (c : FolioContent) : List Nat :=
  c.fabrics.flatMap fun u => (List.range (u.reflex.length / 4)).filterMap fun i =>
    let w := u.reflex.getD (4 * i + 3) 0
    if w.getLsbD 29 then some (bitsOf w 24 5) else none

/-- The limits on the fabric (R90, R156, R159, R175). -/
def fabricLegal (c : FolioContent) : Bool :=
  let sum (f : FabricUnit → Nat) : Nat := (c.fabrics.map f).foldl (· + ·) 0
  let bound := c.points.filterMap fun p => match p.src with
    | .pin i => if p.out then some i else none
    | _ => none
  c.fabrics.all (unitLegal · (c.role % 2 == 0)) && decide (c.fabrics.length ≤ 512) &&
    decide (sum (·.leafCount) ≤ 262144) && decide (sum (·.timerCount) ≤ 16384) && decide (sum (·.counterCount) ≤ 16384) &&
    (List.range 8).all (fun k => distinct (tapPoints c k)) && distinct (reflexDriven c ++ bound)

/-- A segment's place in its fixed home: the retain copy, PROGRAM or the mirror bank. -/
def segmentLegal (g : Segment) : Bool :=
  match g.home with
  | .sram => true
  | .fixedAt a =>
    (inRetain a && decide (a + g.size ≤ 0x510000)) || (decide (0x419000 ≤ a) && decide (a + g.size ≤ 0x429000)) ||
      (decide (0x440000 ≤ a) && decide (a + g.size ≤ 0x450000))

/-- The words of retain data (R90, R611): those of the segments, and two for each retained cell. -/
def FolioContent.retainTotal (c : FolioContent) : Nat :=
  let segs := c.segments.filter fun g => match g.home with
    | .fixedAt a => inRetain a
    | .sram => false
  (segs.map (·.size)).foldl (· + ·) 0 +
    2 * (c.fabrics.map fun u => u.retTimers.length + u.retCounters.length).foldl (· + ·) 0

/-- The limits on memory (R90, R611). -/
def memoryLegal (c : FolioContent) : Bool :=
  let code : Nat := (c.cores.map fun u => u.code.length + 64).foldl (· + ·) 0
  let data : Nat := ((c.segments.filter fun g => g.home == .sram).map (·.size)).foldl (· + ·) 0
  decide (code + data ≤ 0x3F0000) && decide (c.retainTotal ≤ 65536) && c.segments.all segmentLegal &&
    distinct ((c.cores.filterMap (·.event)))

/-- The limits on the image (R90, R147). -/
def imageLegal (c : FolioContent) : Bool :=
  (c.points.all fun p =>
    let limit := match p.word, p.global with
      | false, false => 65536
      | true, false => 32768
      | false, true => 2097152
      | true, true => 524288
    decide (p.num < limit) && (!p.global || c.role % 2 == 0)) &&
    distinct (c.points.map fun p => (p.word, p.global, p.num))

/-- Class periods and commit offsets as the folio's settings put them in force (R90, R117). -/
def timingLegal (s : State) : Bool :=
  (List.range 8).all fun k =>
    let t := s.get (R.CYC_PER_TICKS k)
    t == 0 || (decide (2 ≤ t) && decide (t ≤ 32000) && decide (s.get (R.CYC_OFS_OFS k) < 250 * t))

/-- The largest pool of a class (R103). -/
def poolLimit : List Nat := [0, 32, 256, 512, 24, 64, 256, 32, 16, 8]

/-- The class word of the FCH channel that a list of initial channels names at an index, 0 where it names none. -/
def initialFch (l : List ChannelDef) (n : Nat) : Word :=
  ((l.find? fun d => d.cls == 1 && d.idx == n).map (·.words.getD 0 0)).getD 0

/-- The rules of R376 within one CHANNEL gathering: a paralleled pair of outputs of one group, a twin-wired channel only
with a configured partner, a CTR channel only over a counter input. -/
def initialFchLegal (c : FolioContent) : Bool :=
  c.channels.all fun d =>
    let w := d.words.getD 0 0
    let peer := initialFch c.channels (chPeer w)
    if d.cls = 1 then
      (chWire w != 2 || (chType w == 5 && chPeer w / 8 == d.idx / 8 && chType peer == 5 && chWire peer == 0)) &&
        (chWire w != 1 || c.partner.isSome)
    else d.cls != 7 || !(c.channels.any fun x => x.cls == 1 && x.idx == d.idx) || chType (initialFch c.channels d.idx) == 4

/-- Pools and initial channels (R90, R103, R105, R376). -/
def channelsLegal (c : FolioContent) : Bool :=
  initialFchLegal c &&
  let size (k : Nat) : Nat := (c.pools.find? fun p => p.1 == k).elim 0 (·.2)
  (c.pools.all fun p => decide (1 ≤ p.1) && decide (p.1 ≤ 9) && decide (p.2 ≤ poolLimit.getD p.1 0)) &&
    (c.channels.all fun d => decide (d.idx < size d.cls) && paramsLegal d.cls d.words) &&
    distinct (c.channels.map fun d => (d.cls, d.idx)) &&
    (List.range 4).all fun n => decide ((c.channels.filter fun d => d.cls == 3 && canCtrl d.words == n).length ≤ 128)

/-- The runs of SPINE (R328). -/
def runsLegal (c : FolioContent) : Bool :=
  let pts (scatter : Bool) := (c.runs.filter fun r => r.scatter == scatter).flatMap fun r =>
    (List.range r.count).map fun i => if scatter then (r.node, r.word, r.loc + i) else (0, r.word, r.glob + i)
  distinct (pts false) && distinct (pts true) &&
    c.runs.all fun r =>
      decide (r.loc + r.count ≤ (if r.word then 32768 else 65536)) &&
        decide (r.glob + r.count ≤ (if r.word then 524288 else 2097152))

/-- The window words of a mirror run (R329, R552). -/
def mirrorLength (r : MirrorRun) : Nat := (if r.word then r.count else ceilDiv r.count 32) + ceilDiv r.count 16

/-- The mirror runs (R552). -/
def mirrorLegal (c : FolioContent) : Bool :=
  decide (c.mirror.length ≤ 512) &&
    (c.mirror.all fun r => decide (8 ≤ r.offset) && decide (r.offset + mirrorLength r ≤ 0xF000) &&
      (!r.global || c.role % 2 == 0)) &&
    (c.mirror.zipIdx.all fun a => c.mirror.zipIdx.all fun b =>
      a.2 == b.2 || decide (a.1.offset + mirrorLength a.1 ≤ b.1.offset) ||
        decide (b.1.offset + mirrorLength b.1 ≤ a.1.offset))

/-- The words of the symbols that a replacement's MAP carries are at most 32,768 (R304). -/
def carryLegal (old c : FolioContent) (kind : Nat) : Bool :=
  kind != 3 ||
    decide (((c.map.filter fun m => m.1 != 0).map fun m => ((old.symbols[m.2]?).map symbolWords).getD 0).foldl (· + ·) 0 ≤
      32768)

/-- The type of the gathering that RESOURCE fails in (R90 and the chapters' limits); `s` has the settings in force. -/
def resourceFault (s : State) (c : FolioContent) : Option Nat :=
  if !timingLegal s then some 8
  else if !imageLegal c || !memoryLegal c || !mirrorLegal c then some 1
  else if !fabricLegal c then some 2
  else if !channelsLegal c then some 6
  else if !runsLegal c then some 7
  else none

/-- A symbol lies wholly inside its unit's data or image area, and its retain flag agrees with the retain marking of its
segment or cell (R91). -/
def symbolLegal (c : FolioContent) (y : Symbol) : Bool :=
  let area := (c.areas.find? fun a => a.unit == y.unit).getD ⟨y.unit, [], []⟩
  let unit (u : Nat) : Option FabricUnit := if u = y.unit then c.fabrics.find? (·.id == u) else none
  match y.home with
  | .seg id off =>
    match c.segments.find? (·.id == id) with
    | some g => area.segs.contains id && y.retain == g.retain && y.members.all fun m =>
        let n := match m.ty with
          | .d72 _ => 2
          | _ => 1
        decide (off + m.off + n ≤ g.size) && decide (m.bit < 36)
    | none => false
  | .point word num => !y.retain && y.members.all fun m => area.points.any fun p =>
      p.1 == word && decide (p.2.1 ≤ num + m.off) && decide (num + m.off < p.2.1 + p.2.2)
  | .leaf u i => !y.retain && (unit u).any fun f => decide (i < f.leafCount)
  | .timer u i => (unit u).any fun f => decide (i < f.timerCount) && y.retain == (f.timerWord i 0).getLsbD 30
  | .counter u i => (unit u).any fun f => decide (i < f.counterCount) && y.retain == (f.counterWord i 0).getLsbD 30

/-- The symbol table and the watchdog slots are consistent (R91), and a MAP names each new symbol once with a legal
disposition (R96, R290 to R292, R295). -/
def symbolsLegal (old : Option FolioContent) (c : FolioContent) (mapped : Bool) : Bool :=
  distinct (c.symbols.map (·.name)) && c.symbols.all (symbolLegal c) &&
    (c.wdgSlots.all fun x => c.cores.any (·.name == x.2.1)) &&
    (!mapped || (c.map.length == c.symbols.length &&
      match old with
      | none => true
      | some o => (c.symbols.zip c.map).all fun p =>
        p.2.1 == 0 || (match o.symbols[p.2.2]? with
          | some y => mapLegal (sameCell o c) p.2.1 y p.1
          | none => false)))

/-- The program digest words that FOL_DIGEST shows. -/
def folioDigest (s : State) : List Word := (List.range 8).map fun i => BitVec.ofNat 36 (s.get (R.FOL_DIGEST_DIGEST i))

/-- A tip-in's gatherings put in place of those of the folio in force (R95): STRUCT, SYMBOL and CHANNEL whole, units and
segments by number; SPINE, TIME and POLICY stay. -/
def combine (base tip : FolioContent) (gs : List Gath) : FolioContent :=
  let st := hasGath gs 1
  let keep (id : Nat) : Bool := !st || tip.unitIds.contains id
  let pick {α : Type} (a b : α) : α := if st then a else b
  let merge {α : Type} (id : α → Nat) (b t : List α) : List α :=
    (b.map fun x => (t.find? fun y => id y == id x).getD x) ++ t.filter fun y => !b.any fun x => id x == id y
  let classes := (tip.channels.map (·.cls)).eraseDups
  { base with
    pools := pick tip.pools base.pools
    points := pick tip.points base.points
    pointInit := tip.pointInit
    mirror := pick tip.mirror base.mirror
    groups := pick tip.groups base.groups
    areas := pick tip.areas base.areas
    retainDigest := pick tip.retainDigest base.retainDigest
    keeperDigest := pick tip.keeperDigest base.keeperDigest
    unitIds := pick tip.unitIds base.unitIds
    fabrics := merge (·.id) (base.fabrics.filter fun u => keep u.id) tip.fabrics
    cores := merge (·.id) (base.cores.filter fun u => keep u.id) tip.cores
    segments := merge (·.id) base.segments tip.segments
    symbols := tip.symbols
    channels := base.channels.filter (fun d => !classes.contains d.cls) ++ tip.channels
    map := tip.map
    mapDigests := tip.mapDigests }

/-- The placement check of a whole folio (R264): an initial placement that meets every commit offset. -/
def fitsWhole (s : State) (c : FolioContent) : Bool :=
  match placeAll s (fun _ => false) c with
  | some sheet => timingFits s c sheet 0
  | none => false

/-- What the MAP body breaks, as cause and offset: R71 in its digests, or R96 in its entries. -/
def mapFault (s : State) (ws : List Word) : Option (Nat × Nat) :=
  ((plainBodies s ws).bind fun bs => bs.find? (·.1.ty == 10)).bind fun b =>
    if (b.2.take 16).any (fun w => !zeroBits w 32 4) then some (2, b.1.off)
    else if !mapSound b.2 then some (8, b.1.off)
    else none

/-- The checks of R89 on the words of a folio, in their order: the header, the gatherings, their CRCs, the tags and the seal.
Plaintext is read after the content tag (R80). -/
def wordsFault (s : State) (ws : List Word) (kinds : List Nat) : Option (Nat × Nat) :=
  let gs := gatherings ws
  let len := (ws.getD 3 0).toNat
  let slot := wordField ws 5 0 2
  let clear := if encrypted ws then none else mapFault s ws
  if ws.getD 0 0 ≠ BitVec.ofNat 36 0o146157154151 then some (1, 0)
  else match formatFault ws with
  | some o => some (2, o)
  | none =>
    if wordField ws 2 24 12 ≠ bitsOf (s.reg R.COL_TYPE_TYPE.addr) 24 12 then some (3, 2)
    else if !oneOf (folioKind ws) kinds then some (4, 2)
    else if 2097152 < len ∨ len % 2 = 1 then some (5, 3)
    else if ws.length < len then some (18, ws.length)
    else if keyState s slot ≠ 1 then some (6, 5)
    else if encrypted ws && (wrapEntry s ws).isNone then some (7, 16)
    else match gatherFault ws with
    | some o => some (8, o)
    | none =>
      if clear.isSome then clear
      else match crcFault ws with
      | some o => some (9, o)
      | none =>
        if (plainBodies s ws).isNone then some (10, gathOff gs 63)
        else if !sealVerifies s ws slot then some (11, gathOff gs 63)
        else mapFault s ws

/-- The checks of R89 on the program that a folio gives, or that a tip-in gives with the folio in force (R95). -/
def programFault (s : State) (ws : List Word) (c : FolioContent) (fits : State → FolioContent → Bool) : Option (Nat × Nat) :=
  let gs := gatherings ws
  let kind := folioKind ws
  let old := s.folio.content
  if kind ≠ 2 ∧ bitsOf (s.reg R.COL_TYPE_TYPE.addr) 20 4 = 2 ∧ c.role % 2 = 0 then some (12, gathOff gs 7)
  else if kind ≠ 2 ∧ c.role ≠ s.get R.RST_STRAP_ROLE then some (13, gathOff gs 7)
  else
    let t := if kind = 2 then s else programRegs s c
    match resourceFault t c with
    | some g => some (14, gathOff gs g)
    | none =>
      if old.any fun o => !carryLegal o c kind then some (14, gathOff gs 10)
      else if !symbolsLegal old c (hasGath gs 10) then some (15, gathOff gs 5)
      else if !fits t c then some (16, gathOff gs 1)
      else if s.flag R.SYS_STATE_FOLIO && c.mapDigests.any fun m => m.1 != folioDigest s then some (17, gathOff gs 10)
      else none

/-- The first failing check of a folio of R89 in its order, as cause and offset; none when the folio passes. `kinds` are
the KIND codes that the path admits, `fits` the placement check for the state with the settings and the content. A tip-in
without a folio in force has no base (R95, R96), and a replacement marks every unit (R98, log 125). -/
def verify (s : State) (img : FolioImage) (kinds : List Nat) (fits : State → FolioContent → Bool) : Option (Nat × Nat) :=
  let ws := img.words
  let gs := gatherings ws
  let p := img.program s
  match wordsFault s ws kinds with
  | some f => some f
  | none =>
    if folioKind ws = 3 ∧ !(p.unitIds.all p.lz7.contains) then some (8, gathOff gs 1)
    else if folioKind ws = 2 then
      match s.folio.content with
      | some b => programFault s ws (combine b p gs) fits
      | none => some (17, gathOff gs 10)
    else programFault s ws p fits

end Sys2Proof.Machine
end

