-- ==== Sys2Proof/Machine/Olc.lean ====
section
/-!
DEFINITION. Sys2Proof/Machine/Olc.lean: online change (R282 to R303), and the rows OLC_STAGE, OLC_FORWARD, STAGING_DONE,
BACKGROUND_COPY, OLC_ARM, OLC_SWITCH, OLC_CONFIRM, OLC_CONFIRM_APPLY, OLC_UNDO, OLC_UNDO_APPLY, OLC_DISCARD,
UNDOT_EXPIRY, ARM_MESSAGE, ARM_ACKNOWLEDGE and GO_MESSAGE, with PLACEMENT_SWITCH, after which staged items are placed again.
-/
namespace Sys2Proof.Machine

/-- OLC_STAT.STATE. -/
def olcState (s : State) : Nat := s.get R.OLC_STAT_STATE

/-- A device's OLC state told to its partner (R301, R356). -/
def olcTell (s : State) : State :=
  if s.partner.isSome then
    trackFrame s [.olc (s.reg R.OLC_STAT_STATE.addr) ((s.olc.next.bind (·.mapDigests)).elim [] (·.2))]
  else s

/-- Core units, fabric units and segments of a content that another holds unchanged. -/
def keptCores (a b : FolioContent) : List CoreUnit := b.cores.filter (a.cores.contains ·)
def keptFabrics (a b : FolioContent) : List FabricUnit := b.fabrics.filter (a.fabrics.contains ·)
def keptSegments (a b : FolioContent) : List Segment := b.segments.filter (a.segments.contains ·)

/-- An entry of a sheet by kind and number. -/
def entryOf (sheet : List SheetEntry) (kind id : Nat) : Option SheetEntry :=
  sheet.find? fun e => e.kind == kind && e.id == id && !e.foreign

/-- First leaves for units new on their quires, one after another, clear of the leaves of the units that stay (quire, first
leaf, leaves): unit and first leaf. -/
def placeLeaves (fs : List (FabricUnit × Nat)) : List (Nat × Nat × Nat) → List Nat → List (Nat × Nat)
  | _, [] => []
  | occ, id :: ids =>
    match fs.find? (·.1.id == id) with
    | none => placeLeaves fs occ ids
    | some (u, q) =>
      let a := (firstFit ((occ.filter (·.1 == q)).map (·.2)) 0 32768 u.leafCount).getD 32768
      (id, a) :: placeLeaves fs ((q, a, u.leafCount) :: occ) ids

/-- The placement of a program that replaces another (R284): unchanged items stay, new and replaced ones find room beside
both versions; none where an item finds none. -/
def placeStaged (s : State) (a b : FolioContent) : Option (List SheetEntry) :=
  let old := s.imposer.sheet
  let keptC := keptCores a b
  let keptF := keptFabrics a b
  let coreAt (u : CoreUnit) : Nat := (entryOf old 1 u.id).elim 0 (·.place)
  let fabAt (u : FabricUnit) : Nat := (entryOf old 2 u.id).elim 0 (·.place)
  let newC := b.cores.filter fun u => !keptC.contains u
  let newF := b.fabrics.filter fun u => !keptF.contains u
  let newS := b.segments.filter fun g => g.home == .sram && !a.segments.contains g
  let occ : List (MemItem × Nat) := (sheetOccupied a old).map fun o => (⟨0, 0, o.2, none, none, none⟩, o.1)
  let items := memItems { b with cores := newC, segments := newS }
  match placeCores s newC (keptC.map fun u => (u, coreAt u)),
      placeFabric s (s.getBit R.FAB_STAT_DIS) newF (keptF.map fun u => (u, fabAt u)), placeMem items occ with
  | some cs, some fs, some ms =>
    let ms := ms.drop occ.length
    let leaves := placeLeaves fs ((keptF.map fun u => (fabAt u, (entryOf old 2 u.id).elim 0 (·.base), u.leafCount)))
      (newF.map (·.id))
    let leafOf (u : FabricUnit) : Nat := (leaves.find? (·.1 == u.id)).elim 0 (·.2)
    let coreOf (u : CoreUnit) : Nat := (cs.find? fun p => p.1.id == u.id).elim 0 (·.2)
    let fabOf (u : FabricUnit) : Nat := (fs.find? fun p => p.1.id == u.id).elim 0 (·.2)
    let pick (keep : Bool) (kind id : Nat) (fresh : SheetEntry) : SheetEntry :=
      if keep then (entryOf old kind id).getD fresh else fresh
    let cores := b.cores.map fun u => pick (keptC.contains u) 1 u.id
      (sheetNew 1 u.id u.cls (coreOf u) (memBase ms 1 u.id) (ceilDiv u.code.length 64) u.fixed.isSome)
    let fabs := b.fabrics.map fun u => pick (keptF.contains u) 2 u.id
      (sheetNew 2 u.id u.cls (fabOf u) (leafOf u) u.leafCount u.fixed.isSome)
    let segs := (b.segments.filter fun g => g.home == .sram).map fun g => pick (a.segments.contains g) 3 g.id
      (let m := memBase ms 3 g.id; sheetNew 3 g.id 0 (m / 0x40000) m (ceilDiv g.size 64) g.fixed.isSome)
    let ctxs := b.cores.map fun u => pick (keptC.contains u) 4 u.id
      (let m := memBase ms 4 u.id; sheetNew 4 u.id u.cls (m / 0x40000) m 1 false)
    if leaves.any fun l => decide (32768 ≤ l.2) then none
    else some (cores ++ fabs ++ segs ++ ctxs ++ old.filter (·.foreign))
  | _, _, _ => none

/-- The placement check of a tip-in (R284): a margin of 0 for the program as it will run after the switch. -/
def fitsStaged (s : State) (c : FolioContent) : Bool :=
  match s.content with
  | none => false
  | some a => match placeStaged s a c with
    | some sheet => timingFits s c sheet 0
    | none => false

/-- An entry of an item that two programs share (R284). -/
def sharedEntry (a b : FolioContent) (e : SheetEntry) : Bool :=
  e.foreign || match e.kind with
    | 1 | 4 => (keptCores a b).any (·.id == e.id)
    | 2 => (keptFabrics a b).any (·.id == e.id)
    | _ => (keptSegments a b).any (·.id == e.id)

/-- The sheet of a program that is staged or kept: the items that it shares with the program in force lie where that has
them now. -/
def sheetFor (s : State) (a b : FolioContent) (sheet : List SheetEntry) : List SheetEntry :=
  let same (e : SheetEntry) : SheetEntry → Bool := fun x => x.kind == e.kind && x.id == e.id && x.foreign == e.foreign
  let now := s.imposer.sheet
  (sheet.map fun e => if sharedEntry a b e then (now.find? (same e)).getD e else e) ++
    now.filter fun e => e.foreign && !sheet.any (same e)

/-- The quires whose content a change of program changes (R283, R289); a disabled quire keeps its planes (R184). -/
def changedQuires (s : State) (a b : FolioContent) (old new : List SheetEntry) : List Nat :=
  (List.range 8).filter fun q => !s.flag (R.FAB_QSTAT_DIS q) && quireUnits a old q != quireUnits b new q

/-- The planes of a switch of programs (R174): every quire that it names has a valid staged plane with what the program puts
there, and no pass runs or waits. -/
def switchPlanes (s : State) (a b : FolioContent) (sheet : List SheetEntry) : Bool :=
  let qs := changedQuires s a b s.imposer.sheet sheet
  qs.isEmpty || planesReady s qs b sheet && passesIdle s

/-- The channel entries that a switch changes (R296): for each class that the CHANNEL gathering names, those that differ
between the channels in force and the new list. -/
def channelChanges (s : State) (classes : List Nat) (new : List ChannelDef) : Nat :=
  let mine := s.handles.channels.filter fun c => classes.contains c.cls
  let gone := mine.filter fun c => match new.find? fun d => d.cls == c.cls && d.idx == c.idx with
    | some d => d.words != c.words || !c.fromFolio
    | none => c.fromFolio
  let fresh := new.filter fun d => classes.contains d.cls && !mine.any fun c => c.cls == d.cls && c.idx == d.idx
  gone.length + fresh.length

/-- The symbols that a MAP carries or converts (R96): position in the new table, disposition, position in the old. -/
def mapPairs (c : FolioContent) : List (Nat × Nat × Nat) :=
  c.map.zipIdx.filterMap fun m => if m.1.1 = 1 ∨ m.1.1 = 2 then some (m.2, m.1.1, m.1.2) else none

/-- Whether a symbol names a timer or counter cell, or a leaf, as a count. -/
def cellCount (y : Symbol) : Nat :=
  match y.home with
  | .timer _ _ | .counter _ _ => 1
  | _ => 0
def leafCount (y : Symbol) : Nat :=
  match y.home with
  | .leaf _ _ => 1
  | _ => 0

/-- T_sw in units of 125 ns (R288) with `wd` dirty words, for the switch from `a` to `b`. -/
def switchTime (s : State) (b : FolioContent) (classes : List Nat) (wd : Nat) : Nat :=
  let pairs := mapPairs b
  let sym (c : FolioContent) (i : Nat) (f : Symbol → Nat) : Nat := (c.symbols[i]?).elim 0 f
  let wc := ((pairs.filter fun p => p.2.1 == 2).map fun p => sym b p.1 symbolWords).foldl (· + ·) 0
  let cells := (pairs.map fun p => sym b p.1 cellCount).foldl (· + ·) 0
  let leaves := (pairs.map fun p => sym b p.1 leafCount).foldl (· + ·) 0
  let ch := channelChanges s classes b.channels
  let halfNs := 4000 + 5 * wd + 10 * (wc + cells) + 5 * ceilDiv leaves 16 + 100 * (ch - 64) + 5
  ceilDiv halfNs 250

/-- The words of memory that a carried symbol of the program in force takes. -/
def carriedAddrs (s : State) (a b : FolioContent) : List Nat :=
  (mapPairs b).flatMap fun p =>
    if p.2.1 ≠ 1 then []
    else match a.symbols[p.2.2]? with
      | some y => match y.home with
        | .seg id off => y.members.flatMap fun m =>
            let x := segBase a s.imposer.sheet id + off + m.off
            match m.ty with
            | .d72 _ => [x, x + 1]
            | _ => [x]
        | _ => []
      | none => []

/-- The dirty words of carried symbols whose location changes (R285, R288). -/
def dirtyCarried (s : State) (a b : FolioContent) : Nat :=
  let moved := { b with map := b.map.mapIdx fun i m => match b.symbols[i]?, a.symbols[m.2]? with
    | some y, some x => match y.home, x.home with
      | .seg k o, .seg l q =>
        if segBase b s.olc.sheet k + o = segBase a s.imposer.sheet l + q then (0, 0) else m
      | _, _ => (0, 0)
    | _, _ => (0, 0) }
  ((carriedAddrs s a moved).eraseDups.filter fun x => s.olc.dirty.contains x).length

/-- The classes that the staged tip-in's CHANNEL gathering names. -/
def stagedClasses (s : State) : List Nat :=
  match s.olc.staged with
  | some f => (f.content.channels.map (·.cls)).eraseDups
  | none => []

/-- OLC_PRED (R288): T_sw predicted with the carried words written in this major period. -/
def olcPredict (s : State) : State :=
  match s.content, s.olc.next with
  | some a, some b =>
    if olcState s = 2 ∨ olcState s = 3 then
      let wd := ((carriedAddrs s a b).eraseDups.filter fun x => s.olc.period.contains x).length
      s.set R.OLC_PRED_T (switchTime s b (stagedClasses s) wd)
    else s
  | _, _ => s

/-- A major LATCH: OLC_PRED takes the period that ends, and a new one begins (R288). -/
def olcPeriod (s : State) : State :=
  let s := olcPredict s
  { s with
    olc := { s.olc with period := [] } }

/-- Everything staged is released and STATE returns to IDLE (R283, R285). -/
def olcRelease (s : State) : State :=
  let s := clearStaged s
  let s := { s with
    olc := { s.olc with staged := none, next := none, sheet := [], dirty := [], period := [],
                        acked := none, armAt := none } }
  ((s.set R.OLC_STAT_STATE 0).set R.OLC_STAT_TWINRDY 0).set R.OLC_STAT_TRIES 0

/-- A staging that a check refuses (R283, R89): CAUSE, and the FOLIOREF record. -/
def olcRefuse (s : State) (cause pos : Nat) (img : Option FolioImage) : State :=
  let s := olcRelease s
  let build := (img.map fun i => (i.words.getD 7 0).toNat).getD 0
  (s.set R.OLC_STAT_CAUSE cause).journal 5 10 (cause * 2 ^ 31 + pos % 2 ^ 21) build

/-- What a placement of a staged program needs in place (R283, R294): code and initial data of new and replaced items, and
the staged planes of the changed quires, which are valid once they have been read back (R173). -/
def stageWrite (s : State) (a b : FolioContent) (sheet : List SheetEntry) : State :=
  let s := { s with olc := { s.olc with sheet := sheet } }
  let s := State.forEach (b.cores.filter fun u => !a.cores.contains u) (fun u s =>
    putCode s b sheet u ((entryOf sheet 1 u.id).elim 0 (·.base))) s
  let s := State.forEach (b.segments.filter fun g => g.home == .sram && !a.segments.contains g) (fun g s =>
    s.fill (segBase b sheet g.id) g.words) s
  stagePlanes s (changedQuires s a b s.imposer.sheet sheet) b sheet

/-- A tip-in staged (R282 to R284, R267, R271): checked in one pass, placed, its items and planes written; a prepared
improvement is dropped. -/
def olcStageTip (s : State) (img : FolioImage) : State :=
  match verify s img [2] fitsStaged with
  | some (cause, pos) => olcRefuse s cause pos (some img)
  | none =>
    match s.content with
    | none => olcRefuse s 17 0 (some img)
    | some a =>
      let b := combine a (img.program s) (gatherings img.words)
      match placeStaged s a b with
      | none => olcRefuse s 16 0 (some img)
      | some sheet =>
        let s := { s with
          olc := { s.olc with staged := some img, next := some b, dirty := [], period := [], acked := none, armAt := none } }
        let s := (s.set R.OLC_STAT_STATE 1).set R.OLC_STAT_CAUSE 0
        let s := s.when (s.imposer.prepared.any fun pr => decide (2 ≤ pr.trig) && decide (pr.trig ≤ 4)) prepareEnd
        stageWrite (s.set R.IMP_STAT_TRIG 5) a b sheet

/-- The staged program placed again after a loss move (R271, R303): where no placement passes R265 the staging ends with
NOFIT. -/
def olcRestage (s : State) (readback : Nat) : State :=
  match s.content, s.olc.next with
  | some a, some b =>
    if olcState s = 0 ∨ 3 < olcState s then s
    else match (placeStaged s a b).bind fun x => if timingFits s b x 0 then some x else none with
      | some sheet =>
        let s := stageWrite s a b sheet
        if olcState s = 1 then s else stagedValid s (changedQuires s a b s.imposer.sheet sheet) readback.testBit
      | none =>
        let s := (olcRelease s).set R.OLC_STAT_CAUSE 16
        olcTell ((s.when (s.get R.OLC_CMD_STATUS = 1) (·.olcEnd 6)).record 66 10 5 16)
  | _, _ => s

/-- An OLC_CMD code written by a master (R282, R301, R612). -/
def olcCommand (s : State) (master code : Nat) (run : State → State) : State :=
  if s.get R.OLC_CMD_STATUS = 1 then s.rsvd master R.OLC_CMD_CODE.addr
  else
    let s := s.set R.OLC_CMD_CODE code
    if s.dev == .standby then s.set R.OLC_CMD_STATUS 4
    else if 0 < s.power.pfStep then s.set R.OLC_CMD_STATUS 3
    else run s

/-- The states that admit staging (R282). -/
def olcStates (s : State) : Bool := s.dev == .run || s.dev == .stop || s.dev == .halt

/-- OLC_STAGE (R282, R301): what the bus-master reads deliver, none where they fail. -/
def olcStage (s : State) (master : Nat) (img : Option FolioImage) : State :=
  olcCommand s master 1 fun s =>
    if !olcStates s || olcState s != 0 then s.set R.OLC_CMD_STATUS 3
    else
      let s := ((s.set R.OLC_STAT_TWCAUSE 0).set R.OLC_STAT_TWINRDY 0).set R.OLC_STAT_CAUSE 0
      match (if s.flag R.PCI_STAT_BME then img else none) with
      | none => (olcRefuse s 18 0 none).olcEnd 6
      | some i =>
        let s := olcStageTip s i
        if olcState s = 1 then
          let s := s.set R.OLC_CMD_STATUS 1
          s.when (hasStandby s) fun s => twinSend s 38 8 s.now (i.words.take 256)
        else s.olcEnd 6

/-- The address that OLC_SRC names (R317). -/
def olcTarget (s : State) : Nat :=
  64 * s.get R.OLC_SRC_LOOP + 2 * s.get R.OLC_SRC_NODE + s.get R.OLC_SRC_MEMBER

/-- OLC_FORWARD (R282): the tip-in goes to the worker that OLC_SRC names. -/
def olcForward (s : State) (master : Nat) : State :=
  olcCommand s master 6 fun s =>
    let a := olcTarget s
    let st := s.get (R.SPN_NODE_STATE a)
    if !s.acting then s.set R.OLC_CMD_STATUS 4
    else if !olcStates s then s.set R.OLC_CMD_STATUS 3
    else if s.get R.OLC_SRC_NODE = 0 ∨ !s.flag (R.SPN_NODE_PRESENT a) ∨ !oneOf st [3, 4, 6] then
      (s.set R.OLC_STAT_CAUSE 24).olcEnd 6
    else if !s.flag R.PCI_STAT_BME then (s.set R.OLC_STAT_CAUSE 18).olcEnd 6
    else
      let s := { s with
        olc := { s.olc with forward := some a } }
      spineSend (s.set R.OLC_CMD_STATUS 1) 9 8 s.now []

/-- STAGING_DONE (R285): READY, with the result digest and the background copy; the staged planes that pass their check
when they are read back, as a free value tells (log 159), are valid (R173). -/
def stagingDone (s : State) : State :=
  match s.content, s.olc.next with
  | none, _ | _, none => s
  | some a, some b =>
    if olcState s ≠ 1 then s
    else
      let (readback, s) := s.draw
      let s := stagedValid s (changedQuires s a b s.imposer.sheet s.olc.sheet) readback.testBit
      let digest := (b.mapDigests.map (·.2)).getD []
      let s := State.forEach (List.range 8) (fun i s => s.set (R.OLC_DIGEST_DIGEST i) (digest.getD i 0).toNat) s
      let s := (s.set R.OLC_STAT_STATE 2).when (s.get R.OLC_CMD_STATUS = 1) (·.olcEnd 2)
      olcTell (olcPredict s)

/-- BACKGROUND_COPY (R285): the values of carried symbols whose place changes go to the new place; no word of them is
dirty then. -/
def backgroundCopy (s : State) : State :=
  match s.content, s.olc.next with
  | some a, some b =>
    if olcState s ≠ 2 ∧ olcState s ≠ 3 then s
    else
      let step := fun (p : Nat × Nat × Nat) (s : State) =>
        match b.symbols[p.1]?, a.symbols[p.2.2]? with
        | some y, some x =>
          match y.home, x.home with
          | .seg i o, .seg j q =>
            let dest := segBase b s.olc.sheet i + o
            let at' := segBase a s.imposer.sheet j + q
            if dest = at' then s
            else s.fill dest (s.words at' (symbolWords y))
          | _, _ => s
        | _, _ => s
      let s := State.forEach ((mapPairs b).filter fun p => p.2.1 == 1) step s
      { s with
        olc := { s.olc with dirty := [] } }
  | _, _ => s

/-- A carried instance (R295): the cell or leaf of the new unit from that of the old, among the units as they stood. -/
def carryInstance (s : State) (a b : FolioContent) (was : List UnitSt) (x y : SymHome) : State :=
  let old (u : Nat) : Option UnitSt := was.find? (·.id == u)
  match x, y with
  | .leaf u i, .leaf v j =>
    match s.unitSt v, (old u).bind (·.leaves[i]?) with
    | some t, some l => s.setUnit { t with leaves := updateAt (fun _ => l) j t.leaves }
    | _, _ => s
  | .timer u i, .timer v j =>
    match s.unitSt v, (old u).bind (·.timers[i]?), a.fabrics.find? (·.id == u), b.fabrics.find? (·.id == v) with
    | some t, some k, some fu, some fv =>
      let ou := timebaseNs (bitsOf (fu.timerWord i 0) 32 2)
      let nu := timebaseNs (bitsOf (fv.timerWord j 0) 32 2)
      let same := bitsOf (fu.timerWord i 1) 0 32 == bitsOf (fv.timerWord j 1) 0 32
      let k' : TimerSt := { k with
        start := k.start * (ou : Int) / (nu : Int), et := k.et * ou / nu
        pt := if same then k.pt else bitsOf (fv.timerWord j 1) 0 32 }
      s.setUnit { t with timers := updateAt (fun _ => k') j t.timers }
    | _, _, _, _ => s
  | .counter u i, .counter v j =>
    match s.unitSt v, (old u).bind (·.counters[i]?), a.fabrics.find? (·.id == u), b.fabrics.find? (·.id == v) with
    | some t, some k, some fu, some fv =>
      let same := fu.counterWord i 3 == fv.counterWord j 3
      let k' : CounterSt := { k with pv := if same then k.pv else (fv.counterWord j 3).toInt }
      s.setUnit { t with counters := updateAt (fun _ => k') j t.counters }
    | _, _, _, _ => s
  | _, _ => s

/-- The old point of a new point that a carried symbol binds (R290). -/
def carriedPoint (a b : FolioContent) (pairs : List (Nat × Nat)) (p : Point) : Option (Bool × Nat) :=
  pairs.findSome? fun q =>
    match b.symbols[q.1]?, a.symbols[q.2]? with
    | some y, some x =>
      match y.home, x.home with
      | .point w n, .point w' n' =>
        match y.members.find? fun m => w == p.word && n + m.off == p.num with
        | some m => if w = w' then some (w', n' + m.off) else none
        | none => none
      | _, _ => none
    | _, _ => none

/-- The qualities and input states of the local points under the new content (R290): a carried point's travel with it,
a point that both contents hold alike keeps its own, any other reads BAD. -/
def carryPoints (s : State) (a b : FolioContent) (pairs : List (Nat × Nat)) : State :=
  let mine := b.points.filter fun p => !p.global
  let from' (p : Point) : Option (Bool × Nat) :=
    match carriedPoint a b pairs p with
    | some x => some x
    | none => if a.points.contains p then some (p.word, p.num) else none
  let quals := mine.map fun p => (p, (from' p).elim 3 fun x => s.qual x.1 false x.2)
  let states := mine.map fun p => match from' p with
    | some x => { s.pointSt x.1 x.2 with word := p.word, num := p.num }
    | none => (⟨p.word, p.num, none, 3, 0⟩ : PointSt)
  let s := State.forEach quals (fun x s => s.putQual x.1.word false x.1.num x.2) s
  { s with
    cycle := { s.cycle with points := states } }

/-- A new symbol's initial value (R294): its segment's words, or the image point's initial value. -/
def initSymbol (s : State) (b : FolioContent) (sheet : List SheetEntry) (y : Symbol) : State :=
  match y.home with
  | .seg id off =>
    match b.segments.find? (·.id == id) with
    | some g => State.forEach (List.range (symbolWords y)) (fun k s =>
        s.store (segBase b sheet id + off + k) (g.init.getD (off + k) 0)) s
    | none => s
  | .point word num => State.forEach y.members (fun m s =>
      let v := (b.pointInit.find? fun p => p.1 == word && !p.2.1 && p.2.2.1 == num + m.off).elim 0 (·.2.2.2)
      s.putPoint word false (num + m.off) v) s
  | _ => s

/-- The channels of the named classes brought to a list (R296). -/
def channelsSwitch (s : State) (classes : List Nat) (new : List ChannelDef) : State :=
  let mine := s.handles.channels.filter fun c => classes.contains c.cls
  let s := State.forEach mine (fun c s =>
    match new.find? fun d => d.cls == c.cls && d.idx == c.idx with
    | none => if c.fromFolio then channelDrop s c.cls c.idx else s
    | some d =>
      if !c.fromFolio then channelPut (channelDrop s c.cls c.idx) ⟨d.cls, d.idx, d.words, false, true⟩
      else if d.words = c.words then s
      else
        let ou := mtrUnit c.words
        let nu := mtrUnit d.words
        let s := channelPut (channelDetach s c.cls c.idx) { c with words := d.words }
        if c.cls = 4 ∧ ou ≠ nu then
          match s.meterCh c.idx with
          | some k => (s.setMeterCh { k with totals := k.totals.map fun (t : Nat) => t * ou / nu, part := true }).record 72 15
              c.idx (bitsOf (d.words.getD 1 0) 28 3)
          | none => s
        else s) s
  let s := State.forEach (new.filter fun d => classes.contains d.cls) (fun d s =>
    if (s.channel d.cls d.idx).isSome then s else channelPut s ⟨d.cls, d.idx, d.words, false, true⟩) s
  let h := s.handles
  configDue { s with handles := { h with
    channels := h.channels.map fun (c : Channel) => { c with bound := channelBound s c.cls c.idx } } }

/-- The watchdog slots resolved again by name (R482): a slot whose task is gone is disabled; the window in progress ends
without judgement and a first window begins. -/
def slotsSwitch (s : State) (b : FolioContent) : State :=
  let s := State.forEach b.wdgSlots (fun x s =>
    match b.cores.find? (·.name == x.2.1) with
    | some u =>
      let cls := match u.event with
        | some e => s.get (R.CYC_ETCFG_HOST e)
        | none => u.cls
      ((s.set (R.WDG_SLOT_CLASS x.1) cls).setFlag (R.WDG_SLOT_EVT x.1) u.event.isSome).set (R.WDG_SLOT_TASK x.1) u.id
    | none =>
      if s.flag (R.WDG_SLOT_EN x.1) then ((s.set (R.WDG_SLOT_EN x.1) 0).raise R.WDG_EVT_UNENROL).record 77 21 x.1 0 else s) s
  s.when (s.flag R.WDG_STAT_ARMED) (windowBegin · true)

/-- An arm bit as it stands between COMMITs (R177): its point as last committed, or its fallback while the outputs of its class
are at fallback (R150, R151). -/
def armLevel (s : State) (a : ArmBit) : Bool :=
  match pointOwner s false false a.point with
  | none => a.fallback
  | some p =>
    let live := (s.cycling || s.dev == .halt && s.cycle.heldRelease) && s.flag R.SYS_STATE_RELEASED &&
      !s.getBit R.CYC_STAT_HALTED p.cls && !(s.cls p.cls).faulted && !pointFallback s p
    if live then pointIn s.cycle.committed false false a.point == 1 else a.fallback

/-- The arm bits of the units that a switch brings in follow their points (R177). -/
def armsFollow (s : State) (b : FolioContent) (new : FabricUnit → Bool) : State :=
  let units := s.fabric.units.map fun (st : UnitSt) =>
    match b.fabrics.find? (·.id == st.id) with
    | some u => if new u then { st with arms := u.arms.map (armLevel s) } else st
    | none => st
  { s with fabric := { s.fabric with units := units } }

/-- The program changes from `a` to `b` (R289, R290 to R296): the new content and sheet, values carried or converted by
`pairs` (new index, old index), the fabric state, points, channels, forces and watchdog slots. `unit0` gives the state
of a unit that `a` does not hold alike, before its carried instances. -/
def programSwitch (s : State) (a b : FolioContent) (sheet : List SheetEntry) (pairs : List (Nat × Nat))
    (classes : List Nat) (unit0 : FabricUnit → UnitSt) : State :=
  let old := s.imposer.sheet
  let oldForces := s.forces
  let vals := pairs.filterMap fun p => match b.symbols[p.1]?, a.symbols[p.2]? with
    | some y, some x => some (y, x, symbolValues s a old x)
    | _, _ => none
  let s := carryPoints s a b pairs
  let oldUnits := s.fabric.units
  let s := { s with folio := { s.folio with content := some b } }
  let units := b.fabrics.map fun u =>
    if a.fabrics.contains u then (oldUnits.find? (·.id == u.id)).getD (unitInit u) else unit0 u
  let s := poolSizes { s with fabric := { s.fabric with units := units } } b
  let s := State.forEach vals (fun v s =>
    match instanceUnit v.1.home with
    | some id =>
      if b.fabrics.any fun u => u.id == id && a.fabrics.contains u then s
      else carryInstance s a b oldUnits v.2.1.home v.1.home
    | none => s) s
  let s := sheetPut s b sheet
  let s := s.add R.IMP_SGEN_GEN 1
  let s := State.forEach vals (fun v s => putSymbol s b sheet v.2.1 v.1 v.2.2) s
  let s := State.forEach (b.points.filter fun p => !p.global && p.out) (fun p s =>
    { s with cycle := { s.cycle with committed := putPointIn s.cycle.committed p.word false p.num (s.point p.word false p.num) } }) s
  let s := armsFollow s b fun u => !a.fabrics.contains u
  let s := poolShow (channelsSwitch s classes b.channels)
  slotsSwitch (forcesFollow s b pairs oldForces) b

/-- The switch itself (R289): DEFER while it runs, STATE SWITCHED after it, the old program kept for undo. -/
def olcSwitchNow (s : State) : State :=
  match s.content, s.olc.next with
  | some a, some b =>
    let was := s
    let sheet := sheetFor s a b s.olc.sheet
    let old := s.imposer.sheet
    let pairs := (mapPairs b).map fun p => (p.1, p.2.2)
    let gone := (List.range a.symbols.length).filter fun i => !pairs.any (·.2 == i)
    let kept : OldProgram := ⟨a, old, s.fabric.units, gone.map fun i =>
      (i, (a.symbols[i]?).elim [] (symbolValues s a old))⟩
    let at' := nextMajor s
    let qs := changedQuires s a b old sheet
    let s := s.set R.OLC_STAT_STATE 4
    let fresh := ((List.range b.symbols.length).filter fun j => !pairs.any (·.1 == j)).filterMap (b.symbols[·]?)
    let s := programSwitch s a b sheet pairs (stagedClasses s) unitInit
    let s := State.forEach (fresh.filter fun y => match y.home with
      | .seg id _ => a.segments.any fun g => g.id == id
      | _ => true) (fun y s => initSymbol s b sheet y) s
    let s := (planeExchange s qs).when (!qs.isEmpty) (reflexSwitch was)
    let s := { s with
      olc := { s.olc with old := some kept, acked := none, armAt := none, dirty := [] } }
    let s := ((s.set R.OLC_STAT_STATE 5).set R.OLC_STAT_NOUNDO 0).set R.OLC_LAST_AT (at' % 2 ^ 36)
    let s := (s.add R.OLC_COUNT_SWITCHES 1).when (s.get R.OLC_CMD_STATUS = 1) (·.olcEnd 2)
    olcTell (gateTiles s)
  | _, _ => s

/-- The entries of a sheet that a change of program replaces or removes have work in progress (R287). -/
def replacedBusy (s : State) (a b : FolioContent) : Bool :=
  s.imposer.sheet.any fun e =>
    let gone := match e.kind with
      | 1 => a.cores.any fun u => u.id == e.id && !b.cores.contains u
      | 2 => a.fabrics.any fun u => u.id == e.id && !b.fabrics.contains u
      | _ => false
    gone && !e.foreign && entryBusy s a e

/-- The conditions of R174, R287 and R301 that hold now, for an action over the boundary that ends at the next major LATCH, to
the program `b` with its sheet. A deferral holds it back (R58). -/
def switchAllowed (s : State) (a b : FolioContent) (sheet : List SheetEntry) (act : OlcAct) (time : Nat) : Bool :=
  let at' := nextMajor s
  s.dev == .run && !s.flag R.SYS_STATE_DEFER && !replacedBusy s a b && switchPlanes s a b sheet &&
    decide (s.now + time * 125 + 1000 ≤ at' * 31250) && (!hasStandby s || s.olc.acked == some (at', act))

/-- A boundary that an armed switch failed (R287). -/
def armFailed (s : State) : State :=
  let s := s.addSat R.OLC_STAT_TRIES 1
  let s := { s with
    olc := { s.olc with acked := none } }
  if s.olc.armAt.isSome then
    let s := { s with
      olc := { s.olc with armAt := none } }
    ((s.set R.OLC_STAT_STATE 2).set R.OLC_STAT_CAUSE 23).olcEnd 6
  else if s.get R.OLC_XCFG_TRIES ≤ s.get R.OLC_STAT_TRIES then
    ((s.set R.OLC_STAT_STATE 2).set R.OLC_STAT_CAUSE 21).olcEnd 6
  else s

/-- OLC_SWITCH (R286 to R289): the gap of a cycle boundary with a switch armed. It switches, or the boundary fails. A
switch due at the boundary of a STOP completes first (R34). -/
def olcSwitch (s : State) : State :=
  match s.content, s.olc.next with
  | some a, some b =>
    if olcState s ≠ 3 ∨ s.dev ≠ .run ∨ !inGap s ∨ 3 ≤ s.power.pfStep ∨ s.flag R.SYS_STATE_DEFER then s
    else
      let here := match s.olc.armAt with
        | some t => t == nextMajor s % 2 ^ 36
        | none => true
      if !here then s
      else if switchAllowed s a b (sheetFor s a b s.olc.sheet) .switch (switchTime s b (stagedClasses s) (dirtyCarried s a b))
        then olcSwitchNow s
      else armFailed s
  | _, _ => s

/-- OLC_ARM (R286, R301). -/
def olcArm (s : State) (master : Nat) (at' : Bool) : State :=
  olcCommand s master 2 fun s =>
    let s := s.setFlag R.OLC_CMD_AT at'
    let swat := s.get R.OLC_SWAT_AT
    let m := max 1 (s.get R.CYC_MAJOR_M)
    let ahead := (swat + 2 ^ 36 - s.now / 31250 % 2 ^ 36) % 2 ^ 36
    let inst := s.now / 31250 + ahead
    if olcState s ≠ 2 ∨ !olcStates s then s.set R.OLC_CMD_STATUS 3
    else
      let s := (s.set R.OLC_STAT_CAUSE 0).set R.OLC_STAT_TRIES 0
      if hasStandby s ∧ !s.flag R.OLC_STAT_TWINRDY then (s.set R.OLC_STAT_CAUSE 22).olcEnd 6
      else if s.dev == .stop then
        match s.content, s.olc.next with
        | some a, some b =>
          if switchPlanes s a b (sheetFor s a b s.olc.sheet) then olcSwitchNow (s.set R.OLC_CMD_STATUS 1)
          else (s.set R.OLC_STAT_CAUSE 21).olcEnd 6
        | _, _ => s.set R.OLC_CMD_STATUS 3
      else if at' && (inst % m != 0 || decide (inst * 31250 < s.now + s.get R.OLC_XCFG_LEAD * 10000)) then
        (s.set R.OLC_STAT_CAUSE 23).olcEnd 6
      else
        let s := { s with
          olc := { s.olc with armAt := if at' then some swat else none, acked := none } }
        olcTell ((s.set R.OLC_STAT_STATE 3).set R.OLC_CMD_STATUS 1)

/-- The bodies of the gatherings in force with those of a tip-in in their places, in folio order (R92, R95, R97): a STRUCT
that leaves a unit out takes its gatherings away (log 135). -/
def mergeBodies (base tip : List (Nat × Nat × List Word)) (units : Option (List Nat)) : List (Nat × Nat × List Word) :=
  let stays (x : Nat × Nat × List Word) : Bool :=
    !(tip.any fun y => y.1 == x.1 && y.2.1 == x.2.1) &&
      !((x.1 == 2 || x.1 == 3) && units.any fun us => !us.contains x.2.1)
  byWeight (fun x : Nat × Nat × List Word => (2 ^ 42 - (x.1 * 2 ^ 36 + x.2.1), 1)) (base.filter stays ++ tip)

/-- The old versions are released and the merged folio is the one in force (R97, R297); `auto` tells a start that
confirms. -/
def confirmNow (s : State) : State :=
  match s.content with
  | none => s
  | some b =>
    let s := match b.mapDigests with
      | some d => putDigest s R.FOL_DIGEST_DIGEST d.2
      | none => s
    let bodies := s.olc.staged.elim s.folio.bodies fun i =>
      mergeBodies s.folio.bodies (folioBodies s i.words) (if hasGath (gatherings i.words) 1 then some b.unitIds else none)
    let s := { s with folio := { s.folio with bodies := bodies } }
    let s := (putDigest s R.FOL_PDIGEST_DIGEST (programSha bodies)).raise R.FOL_STAT_DIVERGED
    let layout := s.olc.old.any fun o => o.content.retainDigest != b.retainDigest
    let s := s.when layout (storeTrigger · true false)
    let s := s.record 66 10 1 (s.get R.OLC_STAT_CAUSE)
    let s := { s with
      olc := { s.olc with old := none, confirmDue := false, undoDue := 0 } }
    let s := olcRelease (s.set R.OLC_STAT_NOUNDO 0)
    olcTell (forceShow (s.when (s.get R.OLC_CMD_STATUS = 1) (·.olcEnd 2)))

/-- OLC_CONFIRM (R297). -/
def olcConfirm (s : State) (master : Nat) : State :=
  olcCommand s master 3 fun s =>
    if olcState s ≠ 5 then s.set R.OLC_CMD_STATUS 3
    else
      let s := s.set R.OLC_CMD_STATUS 1
      if s.dev == .stop || s.dev == .safe then confirmNow s
      else { s with
        olc := { s.olc with confirmDue := true } }

/-- OLC_CONFIRM_APPLY (R297, R301): the next cycle boundary. -/
def olcConfirmApply (s : State) : State :=
  if olcState s ≠ 5 ∨ !s.olc.confirmDue ∨ s.dev ≠ .run ∨ !inGap s then s
  else if hasStandby s && s.olc.acked != some (nextMajor s, .confirm) then s
  else confirmNow s

/-- The program switches back (R298). -/
def undoNow (s : State) : State :=
  match s.content, s.olc.old with
  | some b, some o =>
    let a := o.content
    let pairs := (mapPairs b).map fun p => (p.2.2, p.1)
    let classes := stagedClasses s
    let cause := s.olc.undoDue
    let was (u : FabricUnit) : UnitSt := (o.units.find? (·.id == u.id)).getD (unitInit u)
    let before := s
    let sheet := sheetFor s b a o.sheet
    let qs := changedQuires s b a s.imposer.sheet sheet
    let s := programSwitch s b a sheet pairs classes was
    let s := State.forEach o.values (fun v s => match a.symbols[v.1]? with
      | some y => putSymbol s a sheet y y v.2
      | none => s) s
    let s := (planeExchange s qs).when (!qs.isEmpty) (reflexSwitch before)
    let s := (s.add R.OLC_COUNT_UNDOS 1).record 66 10 (if cause ≤ 1 then 2 else cause + 1) (s.get R.OLC_STAT_CAUSE)
    let s := { s with
      olc := { s.olc with old := none, confirmDue := false, undoDue := 0 } }
    let s := olcRelease (s.set R.OLC_STAT_NOUNDO 0)
    olcTell (gateTiles (s.when (s.get R.OLC_CMD_STATUS = 1) (·.olcEnd 2)))
  | _, _ => s

/-- Whether an undo finds its planes (R174, R298). -/
def undoPlanes (s : State) : Bool :=
  match s.content, s.olc.old with
  | some b, some o => switchPlanes s b o.content (sheetFor s b o.content o.sheet)
  | _, _ => false

/-- An undo that acts at once, in a state without cycles (R298, R303): without its planes it fails. -/
def undoAtOnce (s : State) : State :=
  if undoPlanes s then undoNow s
  else { s.when (s.get R.OLC_CMD_STATUS == 1) (·.olcEnd 6) with olc := { s.olc with undoDue := 0 } }

/-- OLC_UNDO (R298, R300). -/
def olcUndo (s : State) (master : Nat) : State :=
  olcCommand s master 4 fun s =>
    if olcState s ≠ 5 ∨ s.flag R.OLC_STAT_NOUNDO then s.set R.OLC_CMD_STATUS 3
    else
      let s := { s with
        olc := { s.olc with undoDue := 1 } }
      let s := s.set R.OLC_CMD_STATUS 1
      if s.dev == .stop || s.dev == .safe then undoAtOnce s else s

/-- OLC_UNDO_APPLY (R298, R299): a cycle boundary that meets R287. -/
def olcUndoApply (s : State) : State :=
  match s.content, s.olc.old with
  | some b, some o =>
    if olcState s ≠ 5 ∨ s.olc.undoDue = 0 ∨ !inGap s ∨ s.flag R.OLC_STAT_NOUNDO then s
    else if switchAllowed s b o.content (sheetFor s b o.content o.sheet) .undo
        (switchTime s b (stagedClasses s) (dirtyCarried s o.content b)) then undoNow s
    else s
  | _, _ => s

/-- An undo requested by a fault in a new unit (2) or at UNDOT (3) (R299). -/
def undoRequest (s : State) (why : Nat) : State :=
  if olcState s = 5 ∧ s.olc.undoDue = 0 ∧ !s.flag R.OLC_STAT_NOUNDO then
    { s with
      olc := { s.olc with undoDue := why } }
  else s

/-- OLC_DISCARD (R285). -/
def olcDiscard (s : State) (master : Nat) : State :=
  olcCommand s master 5 fun s =>
    if olcState s ≠ 2 ∧ olcState s ≠ 3 then s.set R.OLC_CMD_STATUS 3 else olcTell ((olcRelease s).olcEnd 2)

/-- Staging that an event ends (R303): recorded, CAUSE ABORT; a switched program that a reset loses is recorded alike. -/
def olcAbandon (s : State) : State :=
  if olcState s = 0 then s
  else
    let s := (olcRelease s).set R.OLC_STAT_CAUSE 20
    let s := { s with
      olc := { s.olc with old := none, confirmDue := false, undoDue := 0 } }
    (s.when (s.get R.OLC_CMD_STATUS = 1) (·.olcEnd 6)).record 66 10 5 20

/-- A boundary's message under R301: sent by a primary that has something armed, or received by its standby, which
acknowledges it. -/
def armMessage (s : State) (msg : Option (FrameHead × OlcAct × Nat)) : State :=
  match msg with
  | none => if hasStandby s && (olcState s == 3 || s.olc.confirmDue || s.olc.undoDue != 0) then twinSend s 36 8 (nextMajor s * 31250) [s.reg R.OLC_STAT_STATE.addr] else s
  | some (h, act, at') =>
    let r := twinAccept s 36 h
    if !r.2 || s.dev != .standby then r.1
    else
      let s := { r.1 with olc := { r.1.olc with acked := some (at', act) } }
      twinSend s 36 8 (at' * 31250) [BitVec.ofNat 36 at']

/-- The standby's acknowledgement of what the primary has due reaches it at least LEAD ahead (R301). -/
def armAcknowledge (s : State) (h : FrameHead) (at' : Nat) : State :=
  let r := twinAccept s 36 h
  if !r.2 || !hasStandby s then r.1
  else
    let s := r.1
    let act : Option OlcAct :=
      if olcState s = 3 then some .switch
      else if s.olc.confirmDue then some .confirm
      else if s.olc.undoDue != 0 then some .undo else none
    if s.now + s.get R.OLC_XCFG_LEAD * 10000 ≤ at' * 31250 then
      { s with
        olc := { s.olc with acked := act.map fun x => (at', x) } }
    else s

/-- GO (R301): the standby does what it has acknowledged. -/
def goMessage (s : State) (h : FrameHead) : State :=
  let r := twinAccept s 36 h
  if !r.2 || s.dev != .standby || s.flag R.SYS_STATE_DEFER then r.1
  else
    let s := r.1
    match s.olc.acked with
    | none => s
    | some (_, act) =>
      let s := { s with
        olc := { s.olc with acked := none } }
      match act with
      | .switch =>
        match s.content, s.olc.next with
        | some a, some b =>
          if (olcState s = 2 ∨ olcState s = 3) ∧ switchPlanes s a b (sheetFor s a b s.olc.sheet) then olcSwitchNow s else s
        | _, _ => s
      | .confirm => if olcState s = 5 then confirmNow s else s
      | .undo => if olcState s = 5 ∧ undoPlanes s then undoNow s else s
      | .discard => olcRelease s

/-- OLC_STAGE (R282). -/
def execOlcStage (master : Fin 18) (img : Option FolioImage) (s : State) : Result :=
  s.serve master fun s => olcStage s master img

/-- OLC_FORWARD (R282). -/
def execOlcForward (master : Fin 18) (s : State) : Result := s.serve master fun s => olcForward s master

/-- STAGING_DONE (R285). -/
def execStagingDone (s : State) : Result := s.answer (if s.powered then stagingDone s else s)

/-- PLACEMENT_SWITCH (R269, R271): whether the switch ends 1 µs before the major LATCH, and the quires whose planes pass their
check where some are staged again. -/
def execPlacementSwitch (check : SwitchCheck) (s : State) : Result :=
  s.answer (if s.powered then
      let t := placementSwitch s check.fits check.readback.toNat
      if t.imposer.sheet = s.imposer.sheet then t else olcRestage t check.readback.toNat
    else s)

/-- BACKGROUND_COPY (R285). -/
def execBackgroundCopy (s : State) : Result := s.answer (if s.powered then backgroundCopy s else s)

/-- OLC_ARM (R286). -/
def execOlcArm (master : Fin 18) (at' : Bool) (s : State) : Result := s.serve master fun s => olcArm s master at'

/-- OLC_SWITCH (R289). -/
def execOlcSwitch (s : State) : Result := s.answer (if s.powered then olcSwitch s else s)

/-- OLC_CONFIRM (R297). -/
def execOlcConfirm (master : Fin 18) (s : State) : Result := s.serve master fun s => olcConfirm s master

/-- OLC_CONFIRM_APPLY (R297). -/
def execOlcConfirmApply (s : State) : Result := s.answer (if s.powered then olcConfirmApply s else s)

/-- OLC_UNDO (R298). -/
def execOlcUndo (master : Fin 18) (s : State) : Result := s.serve master fun s => olcUndo s master

/-- OLC_UNDO_APPLY (R298). -/
def execOlcUndoApply (s : State) : Result := s.answer (if s.powered then olcUndoApply s else s)

/-- OLC_DISCARD (R285). -/
def execOlcDiscard (master : Fin 18) (s : State) : Result := s.serve master fun s => olcDiscard s master

/-- UNDOT_EXPIRY (R299). -/
def execUndotExpiry (s : State) : Result :=
  s.answer (if s.powered && decide (0 < s.get R.OLC_CFG_UNDOT) then undoRequest s 3 else s)

/-- ARM_MESSAGE (R301): issued here, or received with its action and boundary in base ticks. -/
def execArmMessage (msg : Option (FrameHead × OlcAct × Nat)) (s : State) : Result :=
  s.answer (if s.powered then armMessage s msg else s)

/-- ARM_ACKNOWLEDGE (R301). -/
def execArmAcknowledge (head : FrameHead) (boundary : Nat) (s : State) : Result :=
  s.answer (if s.powered then armAcknowledge s head boundary else s)

/-- GO_MESSAGE (R301). -/
def execGoMessage (head : FrameHead) (s : State) : Result := s.answer (if s.powered then goMessage s head else s)

end Sys2Proof.Machine
end

