-- ==== Sys2Proof/Machine/Start.lean ====
section
/-!
DEFINITION. Sys2Proof/Machine/Start.lean: starts into RUN and STANDBY by their modes (R21 to R23, R102, R120, R145, R305,
R313, R383, R611), entries into STOP and SAFE (R33, R151, R486), and the levels of the state pins (R579).
-/
namespace Sys2Proof.Machine

/-- What a ball carries: a low or a high level that the device drives, or nothing (R41). -/
inductive PinLevel where
  | low | high | highZ
  deriving DecidableEq, Repr

/-- A state pin (R41, R579): high-impedance in OFF, driven in every other state. -/
def statePin (s : State) (up : Bool) : PinLevel := if s.dev = .off then .highZ else if up then .high else .low

/-- RUN (R579). -/
def runPin (s : State) : PinLevel := statePin s (s.dev == .run)

/-- HEALTH (R579): high from the passed secure start on, except in SAFE; a failed secure start drives it low in OFF. -/
def healthPin (s : State) : PinLevel :=
  if s.dev = .off ∧ s.power.secureFailed then .low
  else statePin s (match s.dev with
    | .load | .stop | .run | .standby | .halt => true
    | _ => false)

/-- SAFE_N is low in SAFE (R486); where it is not driven low it is open. -/
def safePin (s : State) : Bool := s.dev != .safe

/-- FORCED_N is low while FRC_STAT.LED reads 1 (R311). -/
def forcedPin (s : State) : Bool := !s.flag R.FRC_STAT_LED

/-- Every word core idle: nothing runs, waits or is preempted; VBASE stays. -/
def coresClear (s : State) : State :=
  State.forEach (List.range 8) (fun c s => coreShow (s.setCore c { Core.fresh with vbase := (s.core c).vbase }) c) s

/-- Every quire idle: no pass runs or waits. -/
def passesClear (s : State) : State :=
  { s with fabric := { s.fabric with
    quires := s.fabric.quires.map fun (q : QuireSt) => { q with running := none, next := none, waiting := [] } } }

/-- No class has latched and no event task waits. -/
def classesClear (s : State) : State :=
  { s with cycle := { s.cycle with
    classes := Vector.replicate 8 ClassSt.fresh
    events := Vector.replicate 32 ⟨false, false, false, 0⟩
    stopping := false
    stopDue := false
    peerOverrun := 0
    peerChecked := []
    heldRelease := false } }

/-- The outputs at fallback (R151): field channels by their fallback requests, class-driven pins and arm bits by theirs;
the outputs' quality is BAD (R148). -/
def outputsFallback (s : State) : State :=
  let outs := s.points.filter fun p => p.out && !p.global
  let s := State.forEach outs (fun p s => s.setPointSt { s.pointSt p.word p.num with qual := 3, missed := 0 }) s
  let s := { s with
    field := { s.field with fbReq := 2 ^ 32 - 1, outQual := Vector.replicate 32 3 } }
  reflexSettle (State.forEach (List.range 8) (fun c s => armsFallback (pinsFallback s c) c) s)

/-- The watchdog disarmed (R478, R484): every C_c returns to 0. -/
def watchdogDisarm (s : State) : State :=
  let s := ((s.set R.WDG_STAT_ARMED 0).set R.WDG_STAT_FIRST 0).set R.WDG_STAT_HELD 0
  { s with
    watchdog := { s.watchdog with counts := Vector.replicate 8 0, goodWindows := 0, haltAt := none, failedAt := none, armDue := false } }

/-- An acting manager that leaves RUN takes its workers with it (R140): its broadcast goes out as a STOP begins, or as it
leaves RUN at once; into SAFE, a twin in STANDBY takes over instead (log 140). -/
def stopWorkers (s : State) : State := s.when (s.dev == .run && s.acting) fun s => spineSend s 8 8 s.now []

/-- A departure from RUN, STANDBY or HALT into a state without cycles (R33, R151). -/
def leaveRun (s : State) (d : Dev) : State :=
  let s := s.when (!s.cycle.stopping && (d == .stop || !hasStandby s)) stopWorkers
  let s := (canHold s).enter d
  let s := passesClear (coresClear (classesClear s))
  let s := ((s.set R.CYC_STAT_ACTIVE 0).set R.SYS_STATE_RELEASED 0).set R.DBG_STAT_HALT 0
  let s := s.when s.partner.isSome (·.set R.TWN_STAT_PSTATE 0)
  forceSettle (watchdogDisarm (outputsFallback s))

/-- A STOP begins (R33, R140): no class starts a new LATCH. A primary tells its standby, which follows (R359). -/
def stopBegin (s : State) : State :=
  let s := stopWorkers s
  let s := { s with
    cycle := { s.cycle with stopping := true } }
  trackSend s [.leaveRun]

/-- Entry into STOP (R33, R303): an armed switch due at this boundary completes first; confirmation and undo act at once,
and a waiting store starts (R492). -/
def enterStop (s : State) : State :=
  let s := olcSwitch s
  let s := leaveRun s .stop
  let s := s.when s.olc.confirmDue confirmNow
  let s := s.when (s.olc.undoDue != 0) undoAtOnce
  let s := s.when (s.get R.SYS_CMD_STATUS == 1 && s.get R.SYS_CMD_CODE == 3) (·.set R.SYS_CMD_STATUS 2)
  storeIfDue s

/-- Entry into SAFE (R486): staging is abandoned (R303), expert pages are relocked (R115); a primary sends its departure
notice (R362). A STOP still pending is not carried out, and ends as one that the state refuses (log 136). -/
def enterSafe (s : State) : State :=
  let s := s.when (s.partner.isSome && s.flag R.TWN_STAT_PRIMARY && s.dev == .run) fun s =>
    let now := s.now
    twinSend { s with twin := { s.twin with departAt := some now } } 33 8 now []
  let s := s.when (olcState s != 5) olcAbandon
  let s := relockAll (leaveRun s .safe)
  s.when (s.get R.SYS_CMD_STATUS == 1 && s.get R.SYS_CMD_CODE == 3) (·.set R.SYS_CMD_STATUS 3)

/-- The counts of the CTR channels at a start (R383): PRESET, but for a WARM start with KEEP. -/
def countersStart (s : State) (cold : Bool) : State :=
  State.forEach (List.range 32) (fun n s =>
    match s.channel 7 n with
    | some ch =>
      let d := s.die n
      if !cold && (ch.words.getD 0 0).getLsbD 31 && d.ctr == ch.words then s
      else s.setDie n { d with count := (ch.words.getD 1 0).toNat }
    | none => s) s

/-- The carried values of a replacement take their places (R304, R305). -/
def carryIn (s : State) (c : FolioContent) : State :=
  if !s.folio.carryFresh then s
  else
    let s := State.forEach s.folio.carry (fun v s =>
      match c.symbols[v.1]?, s.folio.carryFrom with
      | some y, some (a, was) =>
        if (instanceUnit y.home).isSome then carryInstance s a c was v.2.1.home y.home
        else putSymbol s c s.imposer.sheet v.2.1 y v.2.2
      | _, _ => s) s
    { s with
      folio := { s.folio with carry := [], carryFrom := none, carryFresh := false } }

/-- The force table at a start (R313). -/
def forcesStart (s : State) (cold carried : Bool) : State :=
  if !cold then forcesRecall s else if carried then forceShow s else forcesClear s

/-- The registers of the cycle engine, the word cores and the handle table at a start. -/
def startRegs (s : State) (cold demoted : Bool) : State :=
  let s := (s.set R.SYS_STATE_MODE (if cold then 1 else 2)).setFlag R.SYS_STATE_DEMOTED demoted
  let s := (s.set R.SYS_STATE_TAKEN 0).set R.SYS_STATE_RELEASED 0
  let s := ((s.set R.CYC_STAT_READY 0).set R.CYC_STAT_HALTED 0).set R.CYC_STAT_ACTIVE (s.get R.CYC_STAT_CONF)
  let s := State.forEach (List.range 8) (fun c s =>
    ((s.set (R.CYC_CNT_COUNT c) 0).set (R.CYC_PEAK_PEAK c) 0).set (R.CYC_CONS_CONS c) 0) s
  let s := State.forEach (List.range 32) (fun e s => (s.set (R.CYC_ETCNT_RUNS e) 0).set (R.CYC_ETCNT_MERGED e) 0) s
  let s := (s.set R.CLK_STOPS_COUNT 0).set R.SPN_STAT_CAUSE 0
  let e := (s.get R.HND_EPOCH_EPOCH + 1) % 4096
  let s := { s with
    keeper := { s.keeper with epoch := e } }
  s.set R.HND_EPOCH_EPOCH e

/-- A start in COLD (1) or WARM (2) mode into RUN or STANDBY (R21 to R23), with the instant from which the first LATCHes are
sought (R120). -/
def startRun (s : State) (mode : Nat) (d : Dev) (startAt : Nat) : State :=
  let s := s.when (olcState s == 5) confirmNow
  match s.content with
  | none => s
  | some c =>
    let r : State × (Nat ⊕ (Bool × Bank)) := if mode = 2 then recallBank s (layoutTag c.retainDigest) else (s, .inl 0)
    let s := r.1
    let cold := match r.2 with
      | .inl _ => true
      | .inr _ => false
    let demoted := cold && mode == 2
    let s := match r.2 with
      | .inl why => if demoted then s.journal 7 0 why 0 else s
      | .inr _ => s
    let s := s.enter d
    let s := { s with
      power := { s.power with pllKeep := false }
      mirror := { s.mirror with copy := none }
      spine := { s.spine with releaseAt := none, missed := [] } }
    let s := startRegs s cold demoted
    let s := passesClear (coresClear (classesClear s))
    let s := { s with
      cycle := { s.cycle with startAt := startAt } }
    let s := dataInit s c cold
    let s := match r.2 with
      | .inr b => recallCopy s b.1 b.2
      | .inl _ => s
    let s := fabricInit (imageInit s c) c
    let s := s.when (!cold) fun s =>
      { s with fabric := { s.fabric with
        units := c.fabrics.map fun u => unitRecall s u (unitInit u) } }
    let s := countersStart (channelsInit s c) cold
    let carried := s.folio.carryFresh
    let s := forcesStart (carryIn s c) cold carried
    let s := { s with folio := { s.folio with waiting := none } }
    let s := { s with
      field := { s.field with cmd := 0, fbReq := 2 ^ 32 - 1 } }
    let s := { s with
      retain := { s.retain with storedSinceRun := false } }
    let s := { s with
      watchdog := { s.watchdog with armDue := true } }
    let s := { s with
      twin := { s.twin with departed := false, departAt := none, yieldFrom := none, takeFrom := none, switchAt := none } }
    let s := s.when cold fun s => storeTrigger (s.raise R.RET_STAT_DIRTY) true false
    reflexSettle (State.forEach (List.range 8) (fun c s => armsFallback (pinsFallback s c) c) s)

/-- Entry into STANDBY (R354, R359, R366): the program's data at the folio's initial values, which the copy set then
replaces, and PSTATE COPYING. -/
def enterStandby (s : State) : State :=
  match s.content with
  | none => s
  | some c =>
    let s := s.enter .standby
    let s := (s.set R.SYS_STATE_RELEASED 0).set R.SYS_STATE_TAKEN 0
    let s := ((s.set R.CYC_STAT_READY 0).set R.CYC_STAT_HALTED 0).set R.CYC_STAT_ACTIVE (s.get R.CYC_STAT_CONF)
    let s := passesClear (coresClear (classesClear s))
    let s := { s with
      cycle := { s.cycle with startAt := s.now } }
    let s := channelsInit (fabricInit (imageInit (dataInit s c false) c) c) c
    let s := { s with folio := { s.folio with waiting := none } }
    let s := { s with
      watchdog := { s.watchdog with armDue := true } }
    let s := { s with
      twin := { s.twin with waiting := false, copyDone := 0, fabricDue := false, skipped := 0, recopied := false } }
    let s := (s.set R.TWN_STAT_PRIMARY 0).set R.TWN_STAT_PSTATE 3
    reflexSettle (State.forEach (List.range 8) (fun c s => armsFallback (pinsFallback s c) c) s)

/-- A start into RUN of a device without a spine: the first LATCHes lie at least 100 µs ahead (R120). -/
def startAlone (s : State) (mode : Nat) : State := startRun s mode .run (s.now + 100000)

end Sys2Proof.Machine
end

