-- ==== Sys2Proof/Machine/Folio.lean ====
section
/-!
DEFINITION. Sys2Proof/Machine/Folio.lean: folio loads (R81 to R94, R304, R354), and the rows FOLIO_LOAD, FOLIO_CANCEL,
FOLIO_FORWARD, FIRST_PASS_DONE, LOAD_SOURCE_FAILURE, SPINE_LOAD_TIMEOUT and SHELF_DELIVERY.
-/
namespace Sys2Proof.Machine

/-- A load begins (R81, R83): the first pass from a source, with the folio in force still in force. -/
def loadBegin (s : State) (l : FolioLoad) : State :=
  let s := s.enter .load
  let s := { s with
    folio := { s.folio with loading := some l } }
  let s := (s.raise R.FOL_STAT_BUSY).set R.FOL_STAT_PASS 0
  (s.set R.FOL_POS_POS 0).set R.FOL_LEN_LEN 0

/-- FOL_CMD ends with a status where a command started the load or the delivery. -/
def folCommandEnd (s : State) (byCommand : Bool) (status : Nat) : State :=
  if byCommand && s.get R.FOL_CMD_STATUS == 1 then s.set R.FOL_CMD_STATUS status else s

/-- The FOLIOREF record of a refusal (R89, R511): cause and offset, and BUILD. -/
def folioRefused (s : State) (cause pos : Nat) (img : Option FolioImage) : State :=
  let s := (s.set R.FOL_STAT_CAUSE cause).set R.FOL_POS_POS pos
  let build := img.elim 0 fun i => (i.words.getD 7 0).toNat
  s.journal 5 4 (cause * 2 ^ 31 + pos % 2 ^ 21) build

/-- The offset that a pass has reached when an event of another kind ends it: how far the source has been read, no command
tells (log 2). -/
def passReached (s : State) : Nat × State :=
  let (f, s) := s.draw
  (f % 2097153, s)

/-- The FOLIOREF record of a first pass that ends at an offset before its checks (R88, R93): BUILD is open where its second
word has been read (log 2), and 0 otherwise. -/
def passBroken (s : State) (cause pos : Nat) : State :=
  let s := (s.set R.FOL_STAT_CAUSE cause).set R.FOL_POS_POS pos
  let (f, s) := s.draw
  s.journal 5 4 (cause * 2 ^ 31 + pos % 2 ^ 21) (if 7 < pos then f % 2 ^ 36 else 0)

/-- A load that ends without its folio coming in force: the device waits in STOP (R81, R84, R88). -/
def loadEnd (s : State) (l : FolioLoad) : State :=
  let s := (s.set R.FOL_STAT_BUSY 0).set R.FOL_STAT_PASS 0
  let s := { s with
    folio := { s.folio with loading := none } }
  folCommandEnd (s.enter .stop) l.byCommand 6

/-- A first pass that fails (R84, R89): at boot the other slot is tried, otherwise the load ends with the previous folio
still in force. -/
def firstPassFail (s : State) (l : FolioLoad) : State :=
  if l.otherSlot then loadBegin s { l with src := 1 - l.src, otherSlot := false } else loadEnd s l

/-- A second pass that fails (R81): everything that the load configured is cleared, and STOP has no folio. -/
def secondPassFail (s : State) (l : FolioLoad) (cause pos : Nat) : State :=
  let s := forcesClear (folioOut (folioRefused s cause pos l.accepted))
  let s := { s with
    folio := { s.folio with carry := [], carryFrom := none, carryFresh := false } }
  loadEnd s l

/-- FOLIO_LOAD (R83, R85, R93): FOL_CMD LOAD. -/
def folioLoad (s : State) (master : Nat) : State :=
  if s.get R.FOL_CMD_STATUS = 1 then s.rsvd master R.FOL_CMD_CODE.addr
  else
    let s := s.set R.FOL_CMD_CODE 1
    if s.dev ≠ .stop ∨ 0 < s.power.pfStep then s.set R.FOL_CMD_STATUS 3
    else
      let l : FolioLoad := ⟨s.get R.FOL_SRC_SRC, true, none, false⟩
      let s := loadBegin (s.set R.FOL_CMD_STATUS 1) l
      if l.src = 2 ∧ !s.flag R.PCI_STAT_BME then firstPassFail (folioRefused s 18 0 none) l else s

/-- FOLIO_CANCEL (R93, R612): FOL_CMD CANCEL ends a first pass, whoever started the load, and is ignored in the second. -/
def folioCancel (s : State) (master : Nat) : State :=
  match s.folio.loading with
  | some l =>
    if l.accepted.isNone then
      let s := if s.get R.FOL_CMD_STATUS = 1 then s else s.set R.FOL_CMD_CODE 2
      let (pos, s) := passReached s
      (loadEnd (passBroken s 20 pos) l).set R.FOL_CMD_STATUS 6
    else s.rsvd master R.FOL_CMD_CODE.addr
  | none =>
    if s.get R.FOL_CMD_STATUS = 1 then s.rsvd master R.FOL_CMD_CODE.addr
    else (s.set R.FOL_CMD_CODE 2).set R.FOL_CMD_STATUS 3

/-- The address that FOL_SRC names (R317). -/
def forwardTarget (s : State) : Nat :=
  64 * s.get R.FOL_SRC_LOOP + 2 * s.get R.FOL_SRC_NODE + s.get R.FOL_SRC_MEMBER

/-- A FORWARD ends (R94). -/
def forwardEnd (s : State) (status cause : Nat) : State :=
  let s := { s with
    folio := { s.folio with forward := none } }
  let s := s.when (cause != 0) (·.set R.FOL_STAT_CAUSE cause)
  folCommandEnd s true status

/-- A manager (R93): the acting one, and one whose SPINE lists no worker. -/
def managesSpine (s : State) : Bool :=
  s.acting || s.content.any fun c => c.standalone && (c.role == 0 || (c.role == 2 && s.flag R.TWN_STAT_PRIMARY))

/-- The node that a shelf delivery serves on a loop. -/
def shelfBusy (s : State) (loopB : Bool) : Option (Nat × Bool) := if loopB then s.folio.shelfB else s.folio.shelfA

/-- The node of a shelf delivery replaced. -/
def shelfPut (s : State) (loopB : Bool) (x : Option (Nat × Bool)) : State :=
  if loopB then { s with folio := { s.folio with shelfB := x } } else { s with folio := { s.folio with shelfA := x } }

/-- FOLIO_FORWARD (R86, R93, R94): FOL_CMD FORWARD; a delivery from the shelf on the loop makes it busy (log 138). -/
def folioForward (s : State) (master : Nat) : State :=
  if s.get R.FOL_CMD_STATUS = 1 then s.rsvd master R.FOL_CMD_CODE.addr
  else
    let s := s.set R.FOL_CMD_CODE 3
    let a := forwardTarget s
    if !managesSpine s ∨ (s.dev ≠ .stop ∧ s.dev ≠ .run) then s.set R.FOL_CMD_STATUS 4
    else if (shelfBusy s (decide (64 ≤ a))).isSome then s.set R.FOL_CMD_STATUS 5
    else
      let s := s.set R.FOL_CMD_STATUS 1
      if s.get R.FOL_SRC_NODE = 0 ∨ !s.flag (R.SPN_NODE_PRESENT a) ∨ s.get (R.SPN_NODE_STATE a) ≠ 3 then
        forwardEnd s 6 24
      else if !s.flag R.PCI_STAT_BME then forwardEnd s 6 18
      else
        let s := { s with
          folio := { s.folio with forward := some (a, false) } }
        spineSend s 9 8 s.now []

/-- What a node's STATUS tells of a delivery to it (R94): whether the node has entered LOAD, and the outcome as status and
cause once it has one: done as its second pass has completed, failed with its own cause, or with TARGET. -/
def deliveryStep (begun : Bool) (m : StatusMsg) : Bool × Option (Nat × Nat) :=
  if !begun ∧ m.state ≠ 2 then (false, if m.state = 3 then none else some (6, 24))
  else if m.loaded || (m.state == 3 && m.folio && m.loadCause == 0) then (true, some (2, 0))
  else if m.state = 2 then (true, none)
  else (true, some (6, if m.loadCause = 0 then 24 else m.loadCause))

/-- A node's STATUS frame moves the delivery that serves it. -/
def deliveryStatus (s : State) (a : Nat) (m : StatusMsg) : State :=
  let s := match s.folio.forward with
    | some (b, begun) =>
      if b = a then
        match deliveryStep begun m with
        | (begun, none) => { s with folio := { s.folio with forward := some (a, begun) } }
        | (_, some (st, cause)) => forwardEnd s st cause
      else s
    | none => s
  let shelf (x : Option (Nat × Bool)) : Option (Nat × Bool) :=
    match x with
    | some (b, begun) =>
      if b = a then
        match deliveryStep begun m with
        | (begun, none) => some (a, begun)
        | (_, some _) => none
      else x
    | none => none
  { s with folio := { s.folio with shelfA := shelf s.folio.shelfA, shelfB := shelf s.folio.shelfB } }

/-- The values that a replacement with a MAP carries, taken before the old folio leaves force (R304). -/
def carryOut (s : State) (img : FolioImage) : State :=
  match s.content with
  | some a =>
    if folioKind img.words = 3 && img.content.mapDigests.isSome then
      let vs := (mapPairs img.content).filterMap fun p =>
        (a.symbols[p.2.2]?).map fun x => (p.1, x, symbolValues s a s.imposer.sheet x)
      { s with folio := { s.folio with carry := vs, carryFrom := some (a, s.fabric.units), carryFresh := true } }
    else { s with folio := { s.folio with carry := [], carryFrom := none, carryFresh := false } }
  | none => { s with folio := { s.folio with carry := [], carryFrom := none, carryFresh := false } }

/-- The KIND codes that a load admits (R89, R98): a full folio, and a replacement where a command loads it over a folio in
force, or where a reset loads again what was in force (R20). -/
def loadKinds (s : State) (l : FolioLoad) : List Nat :=
  if (l.byCommand && s.flag R.FOL_STAT_FOLIO) || (!l.byCommand && s.folio.prevSrc == some l.src) then [1, 3] else [1]

/-- FIRST_PASS_DONE (R81, R84, R89): the checks of the first pass. As the second begins, the previous
folio leaves force. -/
def firstPassDone (s : State) (img : FolioImage) : State :=
  match s.folio.loading with
  | none => s
  | some l =>
    if s.dev ≠ .load ∨ l.accepted.isSome ∨ 0 < s.power.pfStep then s
    else
      let s := s.set R.FOL_LEN_LEN (img.words.getD 3 0).toNat
      match verify s img (loadKinds s l) fitsWhole with
      | some (cause, pos) => firstPassFail (folioRefused s cause pos (some img)) l
      | none =>
        let img := { img with content := img.program s }
        let s := { s with
          folio := { s.folio with loading := some { l with accepted := some img } } }
        folioOut (carryOut ((s.raise R.FOL_STAT_PASS).set R.FOL_POS_POS img.words.length) img)

/-- The folio becomes the one in force as the second pass completes (R82, R92, R97): source, digests, BUILD, COMPAT.
FOL_STAT.CAUSE clears here (log 137). -/
def folioIn (s : State) (img : FolioImage) (src : Nat) : State :=
  let bodies := folioBodies s img.words
  let s := { s with folio := { s.folio with prevSrc := some src, loading := none, bodies := bodies } }
  let s := ((s.raise R.FOL_STAT_FOLIO).set R.FOL_STAT_SRC src).setFlag R.FOL_STAT_COMPAT (folioKind img.words == 3)
  let s := (s.set R.FOL_STAT_DIVERGED 0).raise R.SYS_STATE_FOLIO
  let s := (s.set R.FOL_BUILD0_BUILD (img.words.getD 6 0).toNat).set R.FOL_BUILD1_BUILD (img.words.getD 7 0).toNat
  let s := putDigest (putDigest s R.FOL_DIGEST_DIGEST (folioSha img.words)) R.FOL_PDIGEST_DIGEST (programSha bodies)
  ((s.set R.FOL_STAT_CAUSE 0).set R.FOL_STAT_BUSY 0).set R.FOL_STAT_PASS 0

/-- The mode of an autostart (R22): POLICY's after power-up and after a commanded or forwarded load, COLD after a cold
reset, WARM after a warm one. -/
def autostartMode (s : State) (l : FolioLoad) (c : FolioContent) : Nat :=
  if l.byCommand || l.src == 3 || s.power.bootKind == 0 then (if c.startWarm then 2 else 1)
  else if s.power.bootKind = 1 then 1 else 2

/-- The primary role is taken, and the device starts: at once when standalone, at the start instant in a spine system
(R19, R344, R353). -/
def primaryStart (s : State) (mode : Nat) : State :=
  let s := (s.raise R.TWN_STAT_PRIMARY).when s.partner.isSome (·.set R.TWN_STAT_PSTATE 1)
  let s := { s with
    twin := { s.twin with waiting := false } }
  if s.standalone then startAlone s mode
  else
    let s := { s with folio := { s.folio with waiting := some mode } }
    if s.acting then discoverBegin s else s

/-- PAIR_ROLE_DECISION (R354): by the partner's heartbeat. A partner in RUN makes this device the twin, which pairs; one in
BOOT or LOAD leaves the primary role to MEMBER 0; in any other state, and without a heartbeat, the device waits (log 23). -/
def pairRole (s : State) (mode : Nat) : State :=
  match s.twin.heart with
  | none => s
  | some h =>
    if h.state = 4 then
      let s := (s.set R.TWN_STAT_PRIMARY 0).set R.TWN_STAT_PSTATE 2
      { s with twin := { s.twin with waiting := false } }
    else if (h.state = 1 ∨ h.state = 2) ∧ !s.flag R.TWN_STAT_MEMBER then primaryStart s mode
    else s

/-- The end of LOAD (R19, R354): by autostart and the pair role. -/
def loadComplete (s : State) (l : FolioLoad) (c : FolioContent) : State :=
  if !c.autostart then s.enter .stop
  else
    let mode := autostartMode s l c
    match c.partner with
    | none => primaryStart s mode
    | some _ =>
      let s := { s with
        folio := { s.folio with waiting := some mode } }
      pairRole { s with twin := { s.twin with waiting := true } } mode

/-- SECOND_PASS_DONE (R81, R82, R92, R304, R313): the folio comes in force, or the digests differ. -/
def secondPassDone (s : State) (digestOk : Bool) : State :=
  match s.folio.loading with
  | none => s
  | some l =>
    match l.accepted with
    | none => s
    | some img =>
      if s.dev ≠ .load ∨ 0 < s.power.pfStep then s
      else
        let oldForces := s.forces
        if !digestOk then secondPassFail s l 19 img.words.length
        else
          let c := img.content
          let s := configure s c
          let s := folioIn s img l.src
          let s := s.when l.byCommand (folCommandEnd · true 2)
          let s := if s.folio.carryFresh then forcesFollow s c ((mapPairs c).map fun p => (p.1, p.2.2)) oldForces
            else if l.byCommand || l.src == 3 then forcesClear s else s
          loadComplete s l c

/-- The source of a load fails at an offset (R88). -/
def sourceFails (s : State) (pos : Nat) : State :=
  match s.folio.loading with
  | some l =>
    let s := s.when (decide (l.src < 2)) (·.raise R.XSP_EVT_ERR)
    if l.accepted.isSome then secondPassFail s l 18 pos else firstPassFail (passBroken s 18 pos) l
  | none => s

/-- A delivery from the shelf cannot be read (R87): the worker stays without a folio, and the record names its address. -/
def shelfFails (s : State) (a : Nat) : State :=
  (s.set (R.SPN_NODE1_CAUSE a) 6).journal 5 4 (18 * 2 ^ 31) a

/-- LOAD_SOURCE_FAILURE (R87, R88): the source of this device's load fails at an offset, or the read of a delivery to a
node. -/
def loadSourceFailure (s : State) (delivery : Option Nat) (pos : Nat) : State :=
  match delivery with
  | none => sourceFails s pos
  | some a =>
    let loopB := decide (64 ≤ a)
    if s.folio.forward.any (·.1 == a) then forwardEnd s 6 18
    else if (shelfBusy s loopB).any (·.1 == a) then shelfFails ((shelfPut s loopB none).raise R.XSP_EVT_ERR) a
    else s

/-- A spine load that ends with the spine (R86, R88). -/
def spineLoadLost (s : State) : State :=
  if s.folio.loading.any (·.src == 3) then
    let (pos, s) := passReached s
    sourceFails s pos
  else s

/-- A delivery to a node that is lost ends (log 138): the FORWARD with TARGET. -/
def deliveryLost (s : State) (a : Nat) : State :=
  let s := if s.folio.forward.any (·.1 == a) then forwardEnd s 6 24 else s
  let loopB := decide (64 ≤ a)
  if (shelfBusy s loopB).any (·.1 == a) then shelfPut s loopB none else s

/-- The entry of a shelf that serves a node address, as offset and LENGTH (R87): none without MAGIC or PRESENT, or where the
folio runs beyond the flash device, whose capacity is given in bytes. -/
def shelfEntry (shelf : List Word) (capacity a : Nat) : Option (Nat × Nat) :=
  let w (k : Nat) : Word := shelf.getD (2 + 4 * a + k) 0
  let off := (w 1).toNat
  let len := (w 2).toNat
  if shelf.getD 0 0 = BitVec.ofNat 36 0o163150154146 ∧ (w 0).getLsbD 35 ∧ 0x1000000 + off + ceilDiv (9 * len) 2 ≤ capacity then
    some (off, len)
  else none

/-- SHELF_DELIVERY (R86, R87): a listed worker reports STOP without a folio, and the manager reads the shelf's header and
index; none tells that this read fails. One delivery runs on each loop. -/
def shelfDelivery (s : State) (a : Nat) (shelf : Option (List Word)) (capacity : Nat) : State :=
  let loopB := decide (64 ≤ a)
  let busy := (shelfBusy s loopB).isSome || s.folio.forward.any fun f => decide (64 ≤ f.1) == loopB
  let listed := s.content.any fun c => c.nodes.any fun n => n.addr == a && n.shelved
  let bare := (s.node a).any fun n => n.status.any fun m => m.state == 3 && !m.folio
  if !s.acting || busy || !listed || !bare then s
  else if (shelf.bind (shelfEntry · capacity a)).isNone then shelfFails (s.when shelf.isNone (·.raise R.XSP_EVT_ERR)) a
  else spineSend (shelfPut s loopB (some (a, false))) 9 8 s.now []

/-- FOLIO_LOAD (R83). -/
def execFolioLoad (master : Fin 18) (s : State) : Result := s.serve master fun s => folioLoad s master

/-- FOLIO_CANCEL (R93). -/
def execFolioCancel (master : Fin 18) (s : State) : Result := s.serve master fun s => folioCancel s master

/-- FOLIO_FORWARD (R94). -/
def execFolioForward (master : Fin 18) (s : State) : Result := s.serve master fun s => folioForward s master

/-- FIRST_PASS_DONE (R81): what the source delivered. -/
def execFirstPassDone (img : FolioImage) (s : State) : Result := s.answer (firstPassDone s img)

/-- The reads that a failure of a source can meet: this device's own load, and the deliveries to nodes (R86 to R88). -/
def readsGoing (s : State) : List (Option Nat) :=
  (if s.folio.loading.isSome then [none] else []) ++
    ((s.folio.forward.toList ++ s.folio.shelfA.toList ++ s.folio.shelfB.toList).map fun d => some d.1)

/-- The read that a failure meets: where several go on, a free value chooses (log 163). -/
def failingRead (s : State) : Option (Option Nat) :=
  match readsGoing s with
  | [] => none
  | [x] => some x
  | l => l[s.draw.1 % l.length]?

/-- LOAD_SOURCE_FAILURE (R88): how far this device's own load has come is a free value (log 163). -/
def execLoadSourceFailure (s : State) : Result :=
  s.answer <| if s.powered then
      match failingRead s with
      | none => s
      | some delivery => let (pos, s) := s.draw.2.draw; loadSourceFailure s delivery (pos % (2 ^ 21 + 1))
    else s

/-- SPINE_LOAD_TIMEOUT (R86): no frame of the spine load for 10 ms. -/
def execSpineLoadTimeout (s : State) : Result := s.answer (if s.powered then spineLoadLost s else s)

/-- SHELF_DELIVERY (R86, R87). -/
def execShelfDelivery (node : Fin 128) (shelf : ShelfRead) (s : State) : Result :=
  s.answer (if s.powered then shelfDelivery s node shelf.words shelf.capacity else s)

end Sys2Proof.Machine
end

