-- ==== Sys2Proof/Machine/Life.lean ====
section
/-!
DEFINITION. Sys2Proof/Machine/Life.lean: supplies, clocks, resets and the power-fail sequence (R39 to R69, R613), SYS_CMD
(R29 to R34), and their rows, POWER_UP to PLL_WAKE_ON_DEMAND, HOUSE_FATAL_FAULT to LEAVE_SAFE, VBAT_LOW,
CORE_PLL_LOCKED and SECOND_PASS_DONE.
-/
namespace Sys2Proof.Machine

/-- The register words that a reset of a kind (0 power-up, 1 cold, 2 warm) leaves (R56, R609): RST_CAUSE and RST_STRAP, the
RTC_ and WDG_ blocks, PCI_STAT but at a power-up, what the colophon and the boot record hold, the levels at the fast pins, the identities
that xSPI and JTAG show, and the debug unit's settings on a warm reset (R69). -/
def resetKeeps (kind a : Nat) : Bool :=
  let block := (a - 0xC00000) / 0x1000
  let off := a % 0x1000
  decide (0xC00000 ≤ a) && match block with
    | 3 => decide (off < 2)
    | 7 => off == 6
    | 20 | 21 => true
    | 26 => off != 5 && off != 6 && off != 8 && decide (off < 384)
    | 27 => off == 0 || off == 4 || (decide (16 ≤ off) && decide (off < 24))
    | 28 => off == 0 && kind != 0
    | 30 => off == 2 || off == 3
    | 31 => off == 4 || (kind == 2 && (off == 3 || off == 0))
    | _ => false

/-- The registers after a reset: reset values, and the words that it leaves. -/
def resetRegs (s : State) (kind : Nat) : WMap :=
  let base := regsReset.filter fun p => !resetKeeps kind p.1
  (s.regs.filter fun p => resetKeeps kind p.1).foldl (fun (m : WMap) (p : Nat × Word) => m.wr p.1 p.2) base

/-- The clock registers show the oscillators (R45, R48, R49), and the PCIe PLL, which runs while PCI_PERST_N is high (R46). -/
def sourceShow (s : State) (xin : Bool) : State :=
  let s := (s.setFlag R.CLK_STAT_XINOK xin).setFlag R.CLK_STAT_RC32 s.power.slowRc
  (s.setFlag R.CLK_STAT_X32OK (!s.power.slowRc)).setFlag R.CLK_STAT_PCILOCK (!s.flag R.PCI_STAT_PERST)

/-- Step 4 of R62: the PLLs lock once the main reference has run for 5 ms (R49, R63). -/
def pllsShow (s : State) : State :=
  let ok := s.power.refOk
  ((s.setFlag R.CLK_STAT_CORELOCK ok).setFlag R.CLK_STAT_TIMELOCK ok).lockShow

/-- The commits in progress that a reset or a loss of power interrupts leave old or new data (R58, R506): which is open
(log 2). -/
def commitsTorn (s : State) : State :=
  if s.keeper.commits.isEmpty then s
  else
    let (f, s) := s.draw
    if f % 2 = 1 then groupFinishAll 100 s
    else { s with keeper := { s.keeper with commits := [] } }

/-- What an event does to the stores before the fast domains reset (R499, R506, R520): a warm reset flushes, a cold reset
and a loss of power lose what is not yet in the arrays. -/
def storesReset (s : State) (kind : Nat) : State :=
  let s := storeAbort (commitsTorn s)
  let s := if kind = 2 then keeperFlush (flushJournal 17 (releaseHeld s)) else loseJournal (keeperLose s)
  loseRecorder s

/-- The field interface after a reset: the field die keeps its side (R16, R56). -/
def fieldReset (f : FieldSt) : FieldSt :=
  { f with
    cmd := 0, fbReq := 2 ^ 32 - 1, cfgDue := false, ackDue := 0, lackDue := 0, missed := 0, linkLost := false,
    inputsBad := false, outQual := Vector.replicate 32 3 }

/-- The aborts that the next start records (R60): a folio load, a write of a flash slot. -/
def abortNoted (s : State) : Nat :=
  let n := if s.folio.loading.isSome && s.power.abortDue % 2 == 0 then s.power.abortDue + 1 else s.power.abortDue
  if s.upd.run.isSome && n / 2 % 2 == 0 then n + 2 else n

/-- PORST_N or RST_N holds the device in reset (R57). -/
def heldInReset (s : State) : Bool := s.power.porstLow || s.power.rstLow

/-- The power-fail condition (R613), by the sources that PFSRC admits. -/
def pfailPresent (s : State) : Bool :=
  let src := s.get R.PWR_PFCFG_PFSRC
  (s.power.pfPin && src.testBit 0) || (s.power.pfMon && src.testBit 1)

/-- A departure notice (R362): of a primary with its twin in STANDBY, which commits nothing from the takeover instant on. -/
def departNotice (s : State) : State :=
  s.when s.partner.isSome fun s =>
    let s := s.when (s.flag R.TWN_STAT_PRIMARY && (s.dev == .run || s.dev == .halt) && hasStandby s) fun s =>
      { s with
        twin := { s.twin with yieldFrom := some (s.now + 3000) } }
    let now := s.now
    twinSend { s with twin := { s.twin with departAt := some now } } 33 8 now []

/-- Steps 4 to 7 of the power-fail sequence (R65 to R67): cores stopped, journal flushed, the recorder's queue lost, wide
counters and totals committed, after which the metering engine stops, and the store begun where the working copy has been
written. -/
def pfailStores (s : State) : State :=
  let s := passesClear (coresClear (classesClear s))
  let s := loseRecorder (flushJournal 17 (releaseHeld s))
  let s := groupFinishAll 100 s
  let s := if s.metering then meterStop (groupFinishAll 100 (meterCommitAll s)) else s
  let s := keeperFlush s
  let s := if s.flag R.PWR_PFCFG_PFSTORE && s.flag R.RET_STAT_DIRTY then storeBegin s else s
  { s with power := { s.power with pfStep := 7 } }

/-- A folio load in progress ends as a clean abort (R60, R67). -/
def pfailLoadEnds (s : State) : State :=
  s.when s.folio.loading.isSome fun s =>
    let (pos, s) := passReached s
    let s := (s.set R.FOL_STAT_CAUSE 20).set R.FOL_POS_POS pos
    let s := folCommandEnd ((s.set R.FOL_STAT_BUSY 0).set R.FOL_STAT_PASS 0) true 6
    { s with
      folio := { s.folio with loading := none } }

/-- The power-fail sequence begins (R65, R67): steps 1 and 2; in BOOT and LOAD step 5 follows, in STOP every step to 7. -/
def pfailBegin (s : State) : State :=
  let s := canHold (handleAbandon (releaseHeld (departNotice s)) 3)
  let s := { (s.raise R.PWR_STAT_PFACT).vector 0 with power := { s.power with pfStep := 3 } }
  match s.dev with
  | .boot | .load =>
    let due := abortNoted s
    let s := loseRecorder (flushJournal 17 (pfailLoadEnds s))
    { s with power := { s.power with pfStep := 7, abortDue := due } }
  | .stop => pfailStores (storeAbort (s.when (olcState s != 5) olcAbandon))
  | _ => storeAbort (s.when (olcState s != 5) olcAbandon)

/-- The sequence begins where the condition is present, none runs and nothing holds the device in reset (R57, R613). -/
def pfailIfDue (s : State) : State :=
  if s.powered && s.power.pfStep == 0 && pfailPresent s && !heldInReset s then pfailBegin s else s

/-- The source that BOOT loads from after a reset (R20, R82): the always-on domain keeps it over warm and cold resets, and over
a power-up that follows a load cut off by a power fail. -/
def keptSource (s : State) (kind : Nat) : Option Nat :=
  if kind = 0 ∧ abortNoted s % 2 = 0 then none else s.folio.prevSrc

/-- The straps as the end of a cold reset samples them (R61): the levels at that instant, which no command gives (log 2). -/
def strapsSampled (s : State) : State :=
  let (f, s) := s.draw
  { s with power := { s.power with straps := f % 16 } }

/-- The reset of the fast domains (R56, R69, R609), with the stores already settled: BOOT, with what the always-on domain,
the keeper, the banks, the field die and the endpoint keep. -/
def fastReset (s : State) (kind : Nat) : State :=
  let r := State.reset
  let xin := s.flag R.CLK_STAT_XINOK || kind == 0
  let k := s.keeper
  let p := s.power
  let t : State := { r with
    pending := s.pending
    regs := resetRegs s kind
    mem := s.mem.filter fun x => inKeeper x.1
    poison := s.poison.filter inKeeper
    free := s.free
    power := { p with
      warned := 0, pfStep := 0, pllKeep := false, pllWaking := false, abortDue := abortNoted s, bootKind := kind,
      secureFailed := false }
    ids := s.ids
    folio := { r.folio with prevSrc := keptSource s kind }
    calendar := s.calendar
    watchdog := { s.watchdog with counts := Vector.replicate 8 0, goodWindows := 0, haltAt := none, failedAt := none, armDue := false }
    retain := { r.retain with recto := s.retain.recto, verso := s.retain.verso }
    keeper := { r.keeper with
      layout := k.layout, epoch := k.epoch, forces := if kind = 2 then k.forces else [],
      forceDigest := k.forceDigest, demandSeq := k.demandSeq }
    records := { s.records with views := [] }
    field := fieldReset s.field
    meter := { r.meter with lastCommit := s.meter.lastCommit }
    host := if kind = 0 then r.host else { s.host with seen := 0, driven := 0, completion := none }
    dbg := if kind = 2 then s.dbg else r.dbg
    upd := { r.upd with attempt := s.upd.attempt, pwrTry := s.upd.pwrTry, reason := s.upd.reason }
    twin := { r.twin with
      withdrawals := s.twin.withdrawals, rejoinOff := s.twin.rejoinOff && kind != 0 } }
  let t := (t.set R.HND_EPOCH_EPOCH k.epoch).set R.KPR_DSEQ_SEQ k.demandSeq
  let t := ((t.set R.WDG_STAT_ARMED 0).set R.WDG_STAT_FIRST 0).set R.WDG_STAT_HELD 0
  let t := t.when (kind == 0) fun t => ((t.set R.WDG_LADDER_SAFE 0).set R.WDG_LADDER_K 0).set R.WDG_LT1_GRAIN 0
  let t := t.when (kind != 2) fun t => (t.set R.RST_STRAP_ROLE (p.straps / 4)).set R.RST_STRAP_BOOTSRC (p.straps % 4)
  let t := t.when (kind == 0) (·.setFlag R.PCI_STAT_PERST (s.flag R.PCI_STAT_PERST))
  let t := t.setFlag R.PWR_STAT_PFPIN t.power.pfPin
  pfailIfDue (retainSync (sourceShow t xin))

/-- A cold reset acts at once in every state but OFF (R34, R55, R59); straps are sampled as it ends, for PORST_N at its
release (R57, R61). -/
def coldReset (s : State) (cause : Fld) : State :=
  if !s.powered then s
  else
    let s := strapsSampled (storesReset (s.raise cause) 1)
    fastReset (s.when (cause == R.RST_CAUSE_PORST) fun s => { s with power := { s.power with porstLow := true } }) 1

/-- An operation that holds a warm reset back (R58); an online-change switch is one step. -/
def deferring (s : State) : Bool := s.retain.running.isSome || !s.keeper.commits.isEmpty

/-- A warm reset (R55, R58, R66): ignored during the power-fail sequence, deferred while an operation runs, when further
sources merge into it. -/
def warmReset (s : State) (cause : Fld) : State :=
  if !s.powered ∨ 0 < s.power.pfStep then s
  else
    let s := s.raise cause
    if s.flag R.SYS_STATE_DEFER then s
    else
      let s := s.when (s.flag R.TWN_STAT_PRIMARY) departNotice
      if deferring s then coresClear ((s.raise R.SYS_STATE_DEFER).raise R.RST_CAUSE_DEFERRED)
      else fastReset (storesReset s 2) 2

/-- DEFERRED_RESET_PROCEED (R58); the power-fail sequence takes no warm reset (R66). -/
def deferredProceed (s : State) : State :=
  if s.flag R.SYS_STATE_DEFER && s.power.pfStep == 0 && !deferring s then fastReset (storesReset s 2) 2 else s

/-- DEFERRAL_EXPIRY (R58). -/
def deferralExpiry (s : State) : State :=
  if s.flag R.SYS_STATE_DEFER && s.power.pfStep == 0 then fastReset (storesReset (s.raise R.RST_CAUSE_DEFEXP) 2) 2 else s

/-- POWER_UP (R40, R55, R61, R68): a secure start that failed holds the device until its rails have been lost, or PORST_N
has been low (R531). The count of wakes restarts where VAON returns (R473). -/
def powerUp (s : State) (straps : Nat) (refRunning : Bool) : State :=
  if s.dev ≠ .off ∨ s.power.secureFailed then s
  else
    let again := s.power.pfStep == 8 && !s.power.railsLost
    let s := s.raise (if again then R.RST_CAUSE_PFAIL else R.RST_CAUSE_POWERUP)
    let s := { s with
      power := { s.power with
        straps := straps, railsLost := false, vaonLost := false, porstLow := false, refOk := false, pfPin := false,
        pfMon := false }
      calendar := if s.power.vaonLost then { s.calendar with wakeCount := 0 } else s.calendar }
    (fastReset s 0).setFlag R.CLK_STAT_XINOK refRunning

/-- AON_POWER_UP (R43): VAON returns after VAON and VBAT were both absent. -/
def aonPowerUp (s : State) : State :=
  if s.dev ≠ .off ∨ !s.power.vaonLost then s
  else
    let aon (a : Nat) : Bool := decide (0xC14000 ≤ a) && decide (a < 0xC16000) || a == 0xC03000
    let regs := (regsReset.filter fun p => aon p.1).foldl (fun (m : WMap) (p : Nat × Word) => m.wr p.1 p.2)
      (s.regs.filter fun p => !aon p.1)
    let s := { s with
      regs := regs, calendar := State.reset.calendar, watchdog := State.reset.watchdog,
      folio := { s.folio with prevSrc := none } }
    { s with power := { s.power with vaonLost := false, pfStep := 0, slowRc := false } }

/-- RAIL_LOST (R42, R66, R13): OFF at once, with what the stores had not taken lost. Without a sequence begun, both RAIL and
PFTORN tell it (log 139). -/
def railLost (s : State) (rail : Nat) : State :=
  let s := { s with
    power := { s.power with railsLost := true, vaonLost := s.power.vaonLost || rail == 7, secureFailed := false } }
  if !s.powered then s
  else
    let s := (s.raise R.RST_CAUSE_PFTORN).when (s.power.pfStep == 0) (·.raise R.RST_CAUSE_RAIL)
    let s := dropStaging (keeperLose (storeAbort (commitsTorn s)))
    let s := { s with
      power := { s.power with abortDue := abortNoted s, pfStep := 0 } }
    (watchdogDisarm (passesClear (coresClear (classesClear s)))).enter .off

/-- RAIL_WARNING (R44): one journal record per rail and start. -/
def railWarning (s : State) (rail : Nat) : State :=
  let s := (s.putBit R.PWR_STAT_WARN rail true).putBit R.PWR_EVT_WARN rail true
  if s.power.warned.testBit rail then s
  else
    let s := { s with
      power := { s.power with warned := withBit s.power.warned rail true } }
    s.journal 2 1 rail 0

/-- PORST_ASSERT (R34, R55, R57): in OFF it ends the hold of a failed secure start (R531). -/
def porstAssert (s : State) : State :=
  if s.powered then coldReset s R.RST_CAUSE_PORST
  else { s with power := { s.power with porstLow := true, secureFailed := false } }

/-- RST_N_ASSERT (R55, R57, R58): the pin resets nothing in OFF and during the power-fail sequence (R19, R66). -/
def rstAssert (s : State) : State :=
  warmReset { s with power := { s.power with rstLow := true } } R.RST_CAUSE_PINWARM

/-- A boundary instruction acts as BYPASS once PORST_N is high (R569). -/
def boundaryEnd (s : State) : State :=
  if s.dbg.instr == .extest || s.dbg.instr == .clamp || s.dbg.instr == .highz then
    { s with dbg := { s.dbg with instr := .bypass } }.raise R.DBG_EVT_BSIGN
  else s

/-- RESET_PIN_RELEASE (R57, R61, R613): the straps are sampled at the end of a cold reset, and a power-fail condition that is
present begins its sequence. -/
def pinRelease' (s : State) (porst : Bool) (straps : Nat) : State :=
  if porst then
    let held := s.power.porstLow
    let s := { s with
      power := { s.power with porstLow := false, straps := straps } }
    pfailIfDue ((boundaryEnd s).when (held && s.dev == .boot) fun s =>
      (s.set R.RST_STRAP_ROLE (straps / 4)).set R.RST_STRAP_BOOTSRC (straps % 4))
  else pfailIfDue { s with power := { s.power with rstLow := false } }

/-- MAIN_REFERENCE_LOST (R49): PLLs unlocked until the reference has run for 5 ms again. -/
def referenceLost (s : State) : State :=
  if !s.powered then s
  else
    let s := { s with
      power := { s.power with refOk := false } }
    pllsShow ((warmReset s R.RST_CAUSE_CLKFAIL).set R.CLK_STAT_XINOK 0)

/-- MAIN_REFERENCE_STABLE (R62, R63): boot goes on past step 3. -/
def referenceStable (s : State) : State :=
  if s.dev ≠ .boot then s
  else
    let s := { s with
      power := { s.power with refOk := true } }
    pllsShow (s.raise R.CLK_STAT_XINOK)

/-- SLOW_CRYSTAL_FAIL (R48, R470): grains are counted on the slow RC. -/
def crystalFail (s : State) : State :=
  if !s.aon || s.power.slowRc then s
  else
    let s := { s with
      power := { s.power with slowRc := true } }
    let s := s.raise R.RTC_STAT_RCTIME
    if s.powered then ((s.raise R.CLK_STAT_RC32).set R.CLK_STAT_X32OK 0).journal 3 2 0 0 else s

/-- SLOW_CRYSTAL_RETURN (R48). -/
def crystalReturn (s : State) : State :=
  if !s.aon || !s.power.slowRc then s
  else
    let s := { s with
      power := { s.power with slowRc := false } }
    if s.powered then (s.set R.CLK_STAT_RC32 0).raise R.CLK_STAT_X32OK else s

/-- The instant of the next LATCH of any class after now. -/
def nextLatch (s : State) : Nat :=
  let ts := (configuredClasses s).map fun c =>
    let p := max 1 (classPeriod s c)
    (s.now / p + 1) * p
  ts.foldl min (ts.headD 0)

/-- The conditions of R52 for the core PLL's stop. -/
def pllMayStop (s : State) : Bool :=
  s.cycling && s.flag R.CLK_NAP_PLLSTOP && !s.power.pllKeep && !s.flag R.CLK_STAT_STOPPED &&
  !(configuredClasses s).isEmpty &&
  (configuredClasses s).all (fun c => decide (320 ≤ s.get (R.CYC_PER_TICKS c)) &&
    (s.cls c).phase == .idle) &&
  s.cycle.events.toList.all (fun v => !v.running && !v.ready) &&
  s.handles.cmds.isEmpty && s.folio.loading.isNone && s.upd.run.isNone && s.retain.running.isNone &&
  !s.flag R.DBG_STAT_CONN && decide (s.now + 140000 ≤ nextLatch s)

/-- CORE_PLL_STOP (R52). -/
def pllStop (s : State) : State :=
  if pllMayStop s then ((s.raise R.CLK_STAT_STOPPED).set R.CLK_STAT_CORELOCK 0).add R.CLK_STOPS_COUNT 1 else s

/-- The core PLL restarts (R53, R54). -/
def pllWake (s : State) : State :=
  if s.flag R.CLK_STAT_STOPPED then { s with power := { s.power with pllWaking := true } } else s

/-- PLL_RELOCK_LATE (R53). -/
def pllLate (s : State) : State :=
  if s.flag R.CLK_STAT_STOPPED && s.power.pllWaking then
    let s := { s with
      power := { s.power with pllKeep := true } }
    (s.raise R.CLK_STAT_RELOCKLATE).journal 4 2 0 0
  else s

/-- CORE_PLL_LOCKED (R53). -/
def pllLocked (s : State) : State :=
  if s.flag R.CLK_STAT_STOPPED && s.power.pllWaking then
    let s := { s with
      power := { s.power with pllWaking := false } }
    (s.set R.CLK_STAT_STOPPED 0).raise R.CLK_STAT_CORELOCK
  else s

/-- PFAIL_DETECT (R613, R65 to R67): the condition is present by the pin, or by the internal monitor. -/
def pfailDetect (s : State) (pin : Bool) : State :=
  let s := { s with power := { s.power with pfPin := s.power.pfPin || pin, pfMon := s.power.pfMon || !pin } }
  pfailIfDue (s.when (pin && s.powered) (·.raise R.PWR_STAT_PFPIN))

/-- PFAIL_GLITCH (R613): a fall of PFAIL_N too short to be recognised; the pin is high again after it. -/
def pfailGlitch (s : State) : State :=
  let s := { s with power := { s.power with pfPin := false } }
  s.when s.powered fun s => (s.raise R.PWR_EVT_PFGLITCH).set R.PWR_STAT_PFPIN 0

/-- PFAIL_COMMIT_WINDOW_END (R65). -/
def pfailWindowEnd (s : State) : State := if s.power.pfStep = 3 then pfailStores s else s

/-- PFAIL_COMPLETE (R65, R68): step 8, once step 7 has ended. -/
def pfailComplete (s : State) : State :=
  if s.power.pfStep ≠ 7 ∨ s.retain.running.isSome then s
  else
    let s := watchdogDisarm ((s.raise R.RST_CAUSE_PFAIL).set R.PWR_STAT_PFACT 0)
    State.enter { s with power := { s.power with pfStep := 8, abortDue := abortNoted s } } .off

/-- A code written to SYS_CMD (R29, R30, R612): `run` carries it out. -/
def sysCommand (s : State) (master code : Nat) (run : State → State) : State :=
  if s.get R.SYS_CMD_STATUS = 1 then s.rsvd master R.SYS_CMD_CODE.addr
  else run ((s.set R.SYS_CMD_CODE code).set R.SYS_CMD_STATUS 1)

/-- SYS_CMD ends with a status. -/
def sysEnd (s : State) (status : Nat) : State := s.set R.SYS_CMD_STATUS status

/-- A worker's manager is in RUN as its STATUS frames tell (R31). -/
def managerRuns (s : State) : Bool :=
  s.spine.nodes.any fun n => decide (n.addr < 2) && n.status.any (·.state == 4)

/-- START_COLD and START_WARM (R19, R22, R31): a worker whose manager is not in RUN waits for its broadcast; a manager with
a spine starts at the instant of its own broadcast (R344). -/
def startCommand (s : State) (master code mode : Nat) : State :=
  sysCommand s master code fun s =>
    if s.dev ≠ .stop ∨ s.content.isNone ∨ 0 < s.power.pfStep ∨ s.flag R.SYS_STATE_DEFER then sysEnd s 3
    else if s.standalone then sysEnd (startAlone s mode) 2
    else if s.isWorker then
      if managerRuns s then
        let s := { s with spine := { s.spine with releaseOwn := true } }
        sysEnd (startAlone (s.raise R.TWN_STAT_PRIMARY) mode) 2
      else sysEnd s 5
    else
      let s := s.raise R.TWN_STAT_PRIMARY
      discoverBegin { s with folio := { s.folio with waiting := some mode } }

/-- No cycle of a class has its COMMIT ahead: overrunning work commits nothing (R129). -/
def cyclesDone (s : State) : Bool := s.cycle.classes.toList.all fun k => k.phase == .idle || k.phase == .late

/-- STOP (R19, R33): from RUN once the last cycle in progress has committed. -/
def stopCommand (s : State) (master : Nat) : State :=
  sysCommand s master 3 fun s =>
    match s.dev with
    | .run =>
      let s := stopBegin s
      if cyclesDone s then enterStop s else s
    | .standby | .halt => enterStop s
    | _ => sysEnd s 3

/-- LEAVE_SAFE (R32, R486): the SAFE latch, K and T1 clear, and the device boots as from a warm reset (log 24). -/
def leaveSafe (s : State) (master : Nat) : State :=
  sysCommand s master 6 fun s =>
    if s.dev ≠ .safe ∨ 0 < s.power.pfStep then sysEnd s 3
    else
      let cause := sealCause s [1]
      if cause ≠ 0 then sysEnd (sealRefuse s cause) 4
      else
        let s := sealAccept s
        let s := ((s.set R.WDG_LADDER_SAFE 0).set R.WDG_LADDER_K 0).set R.WDG_LT1_GRAIN 0
        sysEnd (fastReset (storesReset s 2) 2) 2

/-- POWER_UP (R40). -/
def execPowerUp (straps : Fin 16) (refRunning : Bool) (s : State) : Result := s.answer (powerUp s straps refRunning)

/-- AON_POWER_UP (R43). -/
def execAonPowerUp (s : State) : Result := s.answer (aonPowerUp s)

/-- RAIL_LOST (R42). -/
def execRailLost (rail : Fin 8) (s : State) : Result := s.answer (railLost s rail)

/-- RAIL_WARNING (R44). -/
def execRailWarning (rail : Fin 8) (s : State) : Result := s.answer (if s.powered then railWarning s rail else s)

/-- PORST_ASSERT (R55). -/
def execPorstAssert (s : State) : Result := s.answer (porstAssert s)

/-- RST_N_ASSERT (R55). -/
def execRstNAssert (s : State) : Result := s.answer (rstAssert s)

/-- RESET_PIN_RELEASE (R57). -/
def execResetPinRelease (porst : Bool) (straps : Fin 16) (s : State) : Result := s.answer (pinRelease' s porst straps)

/-- DEBUG_RESET_REQUEST (R55). -/
def execDebugResetRequest (cold : Bool) (s : State) : Result :=
  s.answer (if cold then coldReset s R.RST_CAUSE_DEBUG else warmReset s R.RST_CAUSE_DEBUG)

/-- DEFERRED_RESET_PROCEED (R58). -/
def execDeferredResetProceed (s : State) : Result := s.answer (if s.powered then deferredProceed s else s)

/-- DEFERRAL_EXPIRY (R58). -/
def execDeferralExpiry (s : State) : Result := s.answer (if s.powered then deferralExpiry s else s)

/-- MAIN_REFERENCE_LOST (R49). -/
def execMainReferenceLost (s : State) : Result := s.answer (referenceLost s)

/-- MAIN_REFERENCE_STABLE (R63). -/
def execMainReferenceStable (s : State) : Result := s.answer (referenceStable s)

/-- SLOW_CRYSTAL_FAIL (R48). -/
def execSlowCrystalFail (s : State) : Result := s.answer (crystalFail s)

/-- SLOW_CRYSTAL_RETURN (R48). -/
def execSlowCrystalReturn (s : State) : Result := s.answer (crystalReturn s)

/-- CORE_PLL_STOP (R52). -/
def execCorePllStop (s : State) : Result := s.answer (pllStop s)

/-- PLL_PREWAKE (R53). -/
def execPllPrewake (s : State) : Result := s.answer (if s.powered then pllWake s else s)

/-- PLL_RELOCK_LATE (R53). -/
def execPllRelockLate (s : State) : Result := s.answer (if s.powered then pllLate s else s)

/-- PLL_WAKE_ON_DEMAND (R54). -/
def execPllWakeOnDemand (s : State) : Result := s.answer (if s.powered then pllWake s else s)

/-- CORE_PLL_LOCKED (R53). -/
def execCorePllLocked (s : State) : Result := s.answer (if s.powered then pllLocked s else s)

/-- HOUSE_FATAL_FAULT (R211, R55). -/
def execHouseFatalFault (s : State) : Result := s.answer (warmReset s R.RST_CAUSE_HOUSE)

/-- PFAIL_DETECT (R613). -/
def execPfailDetect (pin : Bool) (s : State) : Result := s.answer (pfailDetect s pin)

/-- SECOND_PASS_DONE (R82): whether both passes gave one digest. POLICY may admit a power-fail condition that is present
(R613). -/
def execSecondPassDone (digestOk : Bool) (s : State) : Result := s.answer (pfailIfDue (secondPassDone s digestOk))

/-- PFAIL_GLITCH (R613): the pin is high again after it. -/
def execPfailGlitch (s : State) : Result :=
  s.answer (pfailGlitch s)

/-- PFAIL_COMMIT_WINDOW_END (R65). -/
def execPfailCommitWindowEnd (s : State) : Result := s.answer (if s.powered then pfailWindowEnd s else s)

/-- PFAIL_COMPLETE (R65). -/
def execPfailComplete (s : State) : Result := s.answer (if s.powered then pfailComplete s else s)

/-- START_COLD (R21). -/
def execStartCold (master : Fin 18) (s : State) : Result := s.serve master fun s => startCommand s master 1 1

/-- START_WARM (R21). -/
def execStartWarm (master : Fin 18) (s : State) : Result := s.serve master fun s => startCommand s master 2 2

/-- STOP (R33). -/
def execStop (master : Fin 18) (s : State) : Result := s.serve master fun s => stopCommand s master

/-- RESET_WARM (R29). -/
def execResetWarm (master : Fin 18) (s : State) : Result :=
  s.serve master fun s => sysCommand s master 4 (warmReset · R.RST_CAUSE_CMDWARM)

/-- RESET_COLD (R29). -/
def execResetCold (master : Fin 18) (s : State) : Result :=
  s.serve master fun s => sysCommand s master 5 (coldReset · R.RST_CAUSE_CMDCOLD)

/-- LEAVE_SAFE (R32). -/
def execLeaveSafe (master : Fin 18) (ofs : Option (BitVec 16)) (s : State) : Result :=
  s.serve master fun s => leaveSafe (sealAt s ofs) master

/-- VBAT_LOW (R44). -/
def execVbatLow (s : State) : Result :=
  s.answer (if s.powered then (s.raise R.PWR_STAT_VBATLOW).raise R.PWR_EVT_VBATLOW else s)

end Sys2Proof.Machine
end

