-- ==== Sys2Proof/Machine/Latch.lean ====
section
/-!
DEFINITION. Sys2Proof/Machine/Latch.lean: what a LATCH takes from each source (R123, R147 to R149) and what a COMMIT, a
fallback and a hold give to each destination (R124, R150, R151).
-/
namespace Sys2Proof.Machine

/-- The channels of a handle class that points of a class bind. -/
def boundChannels (s : State) (c : Nat) (out : Bool) (hcls : Nat) : List Nat :=
  ((classPoints s c out).filterMap fun p => match p.src with
    | .channel k i _ => if k == hcls then some i else none
    | _ => none).eraseDups

/-- The substitute policy of a point's source (R149): that of its channel's parameters. A fast pin, a spine point and a
channel without a policy carry none: the value as delivered. -/
def sourceSubst (s : State) (p : Point) : Subst :=
  match p.src with
  | .channel 1 i _ =>
    let w := fchWord s i
    ⟨chSubPol w, some (BitVec.ofNat 36 (bitsOf w 11 1))⟩
  | .channel 7 i _ => ⟨chSubPol (fchWord s i), none⟩
  | .channel 2 i _ => ⟨bitsOf ((stnWords s i).getD 0 0) 18 2, none⟩
  | .channel 3 i _ => ⟨bitsOf ((canWords s i).getD 2 0) 16 2, none⟩
  | .channel 4 i _ => ⟨bitsOf ((mtrWords s i).getD 1 0) 16 2, none⟩
  | .channel 5 i _ => ⟨bitsOf ((pqcWords s i).getD 0 0) 18 2, none⟩
  | _ => ⟨2, none⟩

/-- The points that a channel binds latched from its words, element by element, with a quality for each. -/
def latchWords (s : State) (hcls i : Nat) (ws : List Word) (q : Nat → Nat) : State :=
  State.forEach (boundPoints s hcls i false) (fun p s =>
    latchPoint s p.word p.global p.num (ws.getD p.elem 0) (q p.elem) (sourceSubst s p)) s

/-- A field input (R379): its filtered state as the last valid status frame gave it. -/
def latchField (s : State) (i : Nat) : State :=
  let q := fieldQuality s i
  latchWords (s.set (R.FIO_CST_QUAL i) q) 1 i [BitVec.ofNat 36 (s.get (R.FIO_CST_LEVEL i))] fun _ => q

/-- A counter input (R382). -/
def latchCounter (s : State) (i : Nat) : State :=
  let q := fieldQuality s i
  latchWords s 7 i [BitVec.ofNat 36 (s.get (R.FIO_CCNT_COUNT i))] fun _ => q

/-- A bound CAN receive channel (R438): one consistent set, and a FIFO advances RD. -/
def latchCan (s : State) (i : Nat) : State :=
  let q := canQuality s i
  let r := canLatch s i
  latchWords r.2 3 i r.1 fun _ => q

/-- A bound meter channel (R420): words 12 to 23 are GOOD unless the engine or an input has failed. -/
def latchMeter (s : State) (i : Nat) : State :=
  match s.meterCh i with
  | none => latchWords s 4 i [] fun _ => 3
  | some c =>
    let q := mtrQuality s c
    latchWords s 4 i c.image fun e => if 12 ≤ e ∧ q < 3 then 0 else q

/-- A bound pulse-quantity channel (R422). -/
def latchPulse (s : State) (i : Nat) : State :=
  match s.meter.pqcs.find? (·.idx == i) with
  | none => latchWords s 5 i [] fun _ => 3
  | some c =>
    let r := pqcImage s c
    latchWords s 5 i r.1 fun _ => r.2

/-- A bound TMR channel (R464): MISSED tells of a step since the previous LATCH. -/
def latchTimer (s : State) (i : Nat) : State :=
  match s.tmr i, s.channel 6 i with
  | some t, some ch =>
    let w := ch.words.getD 0 0
    let field := bitsOf w 34 2 == 2 && bitsOf w 30 2 == 1
    let q := if field && fieldQuality s (bitsOf w 25 5) == 3 then 3 else 0
    let st := BitVec.ofNat 36 (bitNat t.armed * 2 ^ 35 + bitNat t.missed * 2 ^ 34 + t.count)
    (latchWords s 6 i [st, BitVec.ofNat 36 t.time] fun _ => q).setTmr { t with missed := false }
  | _, _ => s

/-- The quality that a domain's state gives (R453). -/
def domainQuality (st : Nat) : Nat := if st = 2 then 0 else if st = 4 ∨ st = 0 then 3 else 1

/-- The four words of a TDV source at this instant, and their quality (R465). -/
def tdvWords (s : State) (src : Nat) : List Word × Nat :=
  if src = 3 then
    let q := if s.flag R.RTC_STAT_INVALID then 3 else if s.flag R.RTC_STAT_RCTIME then 1 else 0
    ([BitVec.ofNat 36 s.calendar.date, BitVec.ofNat 36 s.calendar.time, s.reg R.RTC_STAT_INVALID.addr, 0], q)
  else
    let d := if src = 2 then s.time.active.getD 0 else src
    let t := if src = 2 then s.now else s.domain src
    let st := if src = 2 then s.reg R.NTM_STAT_ACT.addr else s.reg (R.NTM_DSTAT_STATE src).addr
    let diff := if src = 2 then 0 else (t : Int) - (s.now : Int)
    ([BitVec.ofNat 36 (t / 2 ^ 36), BitVec.ofNat 36 t, st, wordOfInt (saturate 36 diff)],
     domainQuality (s.get (R.NTM_DSTAT_STATE d)))

/-- A bound TDV channel (R465); QUERY returns the words of this LATCH. -/
def latchTdv (s : State) (i : Nat) : State :=
  match s.channel 9 i with
  | none => s
  | some ch =>
    let r := tdvWords s (bitsOf (ch.words.getD 0 0) 34 2)
    let s := { s with
      time := { s.time with tdvs := (i, r.1) :: s.time.tdvs.filter fun (x : Nat × List Word) => x.1 != i } }
    latchWords s 9 i r.1 fun _ => r.2

/-- The fast pins that a class reads (R123). -/
def latchPins (s : State) (c : Nat) : State :=
  State.forEach (classPoints s c false) (fun p s => match p.src with
    | .pin i =>
      if p.word then s
      else latchPoint s false p.global p.num (BitVec.ofNat 36 (bitNat (s.getBit R.FAB_PINLVL_LEVEL i))) 0 ⟨2, none⟩
    | _ => s) s

/-- The inputs of a class frozen into the image window (R123). -/
def latchInputs (s : State) (c : Nat) : State :=
  let s := State.forEach (boundChannels s c false 1) (fun i s => latchField s i) s
  let s := State.forEach (boundChannels s c false 7) (fun i s => latchCounter s i) s
  let s := State.forEach (classStations s c) (fun i s => stnAtLatch s i) s
  let s := State.forEach (boundChannels s c false 3) (fun i s => latchCan s i) s
  let s := State.forEach (boundChannels s c false 4) (fun i s => latchMeter s i) s
  let s := State.forEach (boundChannels s c false 5) (fun i s => latchPulse s i) s
  let s := State.forEach (boundChannels s c false 6) (fun i s => latchTimer s i) s
  let s := State.forEach (boundChannels s c false 9) (fun i s => latchTdv s i) s
  latchPins s c

/-- The qualities of a class's outputs as the last COMMIT left them, seen from this LATCH (R148). -/
def showOutQuality (s : State) (c : Nat) : State :=
  State.forEach (classPoints s c true) (fun p s =>
    if p.global then s else s.putQual p.word false p.num (s.pointSt p.word p.num).qual) s

/-- Every input of a class carries BAD at the values of the substitute policies (R139). -/
def inputsBad (s : State) (c : Nat) : State :=
  State.forEach (classPoints s c false) (fun p s =>
    latchPoint s p.word p.global p.num (s.point p.word p.global p.num) 3 (sourceSubst s p)) s

/-- A local output point given a quality and its run of missed scatters. -/
def outQuality (s : State) (p : Point) (q missed : Nat) : State :=
  if p.global then s
  else
    let s := s.setPointSt { s.pointSt p.word p.num with qual := q, missed := missed }
    match p.src with
    | .channel 1 i _ =>
      let s := { s with
        field := { s.field with outQual := s.field.outQual.setIfInBounds i q } }
      s.set (R.FIO_CST_QUAL i) q
    | _ => s

/-- The quality of an output at a COMMIT (R148): `q`, but for a field channel that R393 makes BAD. -/
def deliveredQuality (s : State) (p : Point) (fb : Bool) (q : Nat) : Nat :=
  match p.src with
  | .channel 1 i _ => commitQuality s i fb q
  | _ => q

/-- The outputs of a class hold (R129, R151): each keeps its last committed value and turns STALE. Before the release they
stay at fallback. -/
def outputsHold (s : State) (c : Nat) : State :=
  State.forEach (classPoints s c true) (fun p s =>
    let q := if s.flag R.SYS_STATE_RELEASED then 2 else 3
    let fb := match p.src with
      | .channel 1 i _ => s.field.fbReq.testBit i
      | _ => false
    outQuality s p (deliveredQuality s p fb q) (s.pointSt p.word p.num).missed) s

/-- The field command of a channel: its bit, and whether R151 puts it at fallback (R391). -/
def fieldCommand (s : State) (i : Nat) (on fb : Bool) : State :=
  { s with
    field := { s.field with cmd := withBit s.field.cmd i on, fbReq := withBit s.field.fbReq i fb } }

/-- The outputs of one class at fallback (R139, R151). -/
def classFallback (s : State) (c : Nat) : State :=
  let s := State.forEach (classPoints s c true) (fun p s =>
    let s := outQuality s p 3 0
    match p.src with
    | .channel 1 i _ => fieldCommand s i (s.field.cmd.testBit i) true
    | _ => s) s
  reflexSettle (armsFallback (pinsFallback s c) c)

/-- An output point as the last COMMIT left it. -/
def committedPoint (s : State) (p : Point) : Word := pointIn s.cycle.committed p.word p.global p.num

/-- The class-driven pins and arm bits of a class follow its committed values (R124, R177); a point past its missed
scatters is at fallback (R150). -/
def drivePins (s : State) (c : Nat) : State :=
  let s := State.forEach (classPoints s c true) (fun p s => match p.src with
    | .pin i =>
      if pinMode s i = 2 && !p.global && !p.word then
        if s.dev == .standby then pinRelease s i
        else pinDrive s i (if pointFallback s p then s.getBit R.FAB_PINFB_LEVEL i else (committedPoint s p).getLsbD 0)
      else s
    | _ => s) s
  let m := s.cycle.committed
  reflexSettle (setArms s c fun (a : ArmBit) =>
    match pointOwner s false false a.point with
    | some p => if pointFallback s p then a.fallback else pointIn m false false a.point == 1
    | none => a.fallback)

/-- The field commands of a class follow its committed values (R124, R391). -/
def commitField (s : State) (c : Nat) : State :=
  State.forEach (classPoints s c true) (fun p s => match p.src with
    | .channel 1 i _ =>
      fieldCommand s i ((committedPoint s p).getLsbD 0) (pointFallback s p || !s.flag R.SYS_STATE_RELEASED)
    | _ => s) s

/-- RELEASED is set: the outputs take their committed values (R24 to R27). -/
def releaseOutputs (s : State) : State :=
  if s.flag R.SYS_STATE_RELEASED then s
  else
    let s := s.raise R.SYS_STATE_RELEASED
    State.forEach ((configuredClasses s).filter fun c => !s.getBit R.CYC_STAT_HALTED c && !(s.cls c).faulted)
      (fun c s => drivePins (commitField s c) c) s

/-- The words of a bound CAN transmit buffer from its output points (R439): LEN, then the payload. -/
def canOutputs (s : State) (i : Nat) : List Word :=
  let ps := boundPoints s 3 i true
  (List.range (1 + ceilDiv (canMaxLen (canWords s i)) 4)).map fun e =>
    (ps.find? fun p => p.elem == e).elim 0 (committedPoint s)

/-- The transmissions of a COMMIT (R124, R439): none before the release, nor from the detection of a power fail on (R151). -/
def commitCan (s : State) (c : Nat) : State :=
  if !s.flag R.SYS_STATE_RELEASED ∨ 0 < s.power.pfStep then s
  else
    State.forEach (boundChannels s c true 3) (fun i s =>
      let ws := canOutputs s i
      canCommit s i (ws.getD 0 0) (ws.drop 1)) s

/-- The mirror copy's words at this instant (R552, R553): the header, then every run. -/
def mirrorWords (s : State) (c commitAt : Nat) : List (Nat × Word) :=
  let head : List (Nat × Word) :=
    [(0, BitVec.ofNat 36 (s.get R.MIR_FLIPS_COUNT + 1)), (1, BitVec.ofNat 36 commitAt),
     (2, s.sysState), (3, BitVec.ofNat 36 (s.get (R.CYC_CNT_COUNT c)))]
  let m := imageOf s
  let runs := s.content.elim [] (·.mirror)
  head ++ runs.flatMap fun r =>
    ((runValues m r.word r.global r.first r.count ++ runQuals m r.word r.global r.first r.count).zipIdx).map fun p =>
      (r.offset + p.2, p.1)

/-- A COMMIT of the flip class (R553, R554): the copy starts, unless HOLD or a running copy suppresses it. -/
def mirrorCommit (s : State) (c commitAt : Nat) : State :=
  if !s.flag R.MIR_CFG_EN ∨ s.get R.MIR_CFG_CLASS ≠ c then s
  else if s.mirror.hold then (s.raise R.MIR_STAT_HOLD).raise R.MIR_EVT_SKIP
  else if s.mirror.copy.isSome then s.raise R.MIR_EVT_SKIP
  else { s with mirror := { s.mirror with copy := some (mirrorWords s c commitAt) } }

end Sys2Proof.Machine
end

