-- ==== Sys2Proof/Machine/Faults.lean ====
section
/-!
DEFINITION. Sys2Proof/Machine/Faults.lean: task faults (R138, R139), the stop at a cycle boundary that they bring, the
withdrawal of a standby (R358, R361, R368), and the end of a task whose waits end while it is preempted.
-/
namespace Sys2Proof.Machine

/-- A STOP that begins and, with no cycle in progress, ends at once (R33). -/
def stopDevice (s : State) : State :=
  let s := stopBegin s
  if cyclesDone s then enterStop s else s

/-- A stop that waits for its cycle boundary begins there (R139). -/
def boundaryStop (s : State) : State :=
  if s.cycle.stopDue && s.cycling && inGap s then stopDevice s else s

/-- The device stops at the next cycle boundary (R33, R139). -/
def stopAtBoundary (s : State) : State :=
  { s with
    cycle := { s.cycle with stopDue := true } }

/-- A standby withdraws (R358, R361, R301): STOP with a cause and a journal record; three withdrawals within 1 h leave
AUTOREJOIN off, and `rejoin` tells a withdrawal that R368 rejoins. A cause of 0 leaves CAUSE unchanged (TWN_CMD). -/
def twinWithdraw (s : State) (cause : Nat) (rejoin : Bool) : State :=
  let s := s.raise R.TWN_EVT_WITHDRAW
  let s := s.when (cause != 0) fun s => (s.set R.TWN_STAT_CAUSE cause).journal 14 13 2 cause
  let g := ladderGrain s
  let ws := g :: s.twin.withdrawals.filter fun t => decide (grainsBetween t g < 3600 * 32768)
  let off := s.twin.rejoinOff || decide (3 ≤ ws.length)
  let s := { s with
    twin := { s.twin with
      withdrawals := ws, rejoinOff := off
      rejoinDue := rejoin && !off && s.flag R.TWN_CFG_AUTOREJOIN
      takeFrom := none, switchAt := none } }
  stopDevice (s.set R.TWN_STAT_PSTATE 0)

/-- The class's work in progress loses its outputs (R129): it overruns to its end. -/
def classLate (s : State) (c : Nat) : State :=
  let k := s.cls c
  if k.phase == .idle then s else s.setCls c { k with phase := .late, allowed := false }

/-- A cycle of a class is treated as one under SKIP (R139): that in progress for a task of the class, that at whose COMMIT
its writes would commit for an event task. -/
def cycleVoid (s : State) (c : Nat) (event : Bool) : State :=
  let k := s.cls c
  let now := if event then k.phase != .idle && k.phase != .late && !k.checked else k.phase != .idle
  if now then s.setCls c { k with voided := true } else s.setCls c { k with voidNext := true }

/-- A class stops latching and committing (R139): HALTED, its outputs at fallback and its inputs BAD. -/
def haltClass (s : State) (c : Nat) : State :=
  let s := ((canHold s).putBit R.CYC_STAT_HALTED c true).putBit R.CYC_STAT_ACTIVE c false
  inputsBad (classFallback (classLate s c) c) c

/-- A core unit that an unconfirmed switch has brought (R299). -/
def newUnit (s : State) (task : Nat) : Bool :=
  match s.content, s.olc.old with
  | some c, some o =>
    olcState s == 5 && c.cores.any (·.id == task) && !(keptCores o.content c).any (·.id == task)
  | _, _ => false

/-- The action of a task fault (R139). A fault in a new unit with AUTOUNDO makes the cycle a skipped one and switches back
(R299). On a standby whose fault is its own, the cycle does not commit and the standby withdraws at its COMMIT (R369,
log 25). -/
def faultAct (s : State) (c : Nat) (task : Option Nat) (event : Bool) : State :=
  if s.dev == .standby then
    let s := cycleVoid s c event
    s.setCls c { s.cls c with faulted := true }
  else if s.flag R.OLC_CFG_AUTOUNDO && task.any (newUnit s) then undoRequest (cycleVoid s c event) 2
  else
    match s.get (R.CYC_XPOL_FLTPOL c) with
    | 0 => cycleVoid s c event
    | 1 => haltClass s c
    | _ =>
      let s := classLate (stopAtBoundary s) c
      let s := s.setCls c { s.cls c with faulted := true }
      boundaryStop (classFallback s c)

/-- A task fault recorded (R138): its class's bit and the TASKFAULT entry, `who` the layout of task or event (R511). -/
def faultRecord (s : State) (c who cause d1 : Nat) : State :=
  let s := { s with
    upd := { s.upd with spoiled := true } }
  (s.putBit R.CYC_EVT_FAULT c true).record 65 6 (c * 65536 + who + cause) d1

/-- Bits 15:7 of a TASKFAULT entry for a task. -/
def faultWho (t : TaskRef) : Nat :=
  match t.event with
  | some e => e * 256 + 128
  | none => t.id % 256 * 256

/-- What a RETURN frame carries (R274): the output points of the unit as its class view holds them, and a copy of its data
segments. -/
def returnPayload (s : State) (t : TaskRef) : List Word :=
  match s.unitOf t with
  | none => []
  | some u =>
    (u.outPoints.map fun p => pointIn (s.cls u.cls).view p.1 true p.2) ++
      (s.imposer.foreignSegs.filter fun g => u.segs.contains g.1).flatMap fun g =>
        s.words ((s.placed 3 g.1 true).elim 0 (·.base)) g.2

/-- The task on a core ends. A task placed here by a manager sends its RETURN frame (R274). -/
def endTask (s : State) (c : Nat) : State :=
  match (s.core c).task with
  | none => s
  | some t =>
    let s := s.when t.foreign fun s => spineSend s 7 t.cls s.now (returnPayload s t)
    taskEnd s c

/-- The overrun limit reached is a task fault without a task (R132, R138). -/
def overrunFault (s : State) (c : Nat) : State :=
  faultAct (faultRecord s c (255 * 256) 8 0) c none false

end Sys2Proof.Machine
end

