-- ==== Sys2Proof/Machine/Trap.lean ====
section
/-!
DEFINITION. Sys2Proof/Machine/Trap.lean: traps of a word core (R205 to R208), the end of a task, and what every
instruction does around its own effect: the checks of R220, the retirement, and the repeat rule of R202.
-/
namespace Sys2Proof.Machine

/-- A core after an instruction of `len` words that takes no transfer: PC past it, or the repeat rule of R202 at RPE. -/
def Core.advance (k : Core) (len : Nat) : Core :=
  let next := k.pc + BitVec.ofNat 24 len
  if k.rpf && k.pc == k.rpe then
    if 1 < k.rpc.toNat then { k with rpc := k.rpc - 1, pc := k.rps } else { k with rpc := 0, rpf := false, pc := next }
  else { k with pc := next }

/-- A taken transfer to a target (R202): one that leaves the body of a repeat ends it. -/
def Core.jump (k : Core) (target : BitVec 24) : Core :=
  let inside := decide (k.rps.toNat ≤ target.toNat) && decide (target.toNat ≤ k.rpe.toNat)
  { k with pc := target, rpf := k.rpf && inside }

/-- An instruction counted as retired (R212). -/
def retired (s : State) (c : Nat) : State := s.add (R.ZC_RET_COUNT c) 1

/-- An instruction completes with its core's registers as given, PC still at the instruction. -/
def complete (s : State) (c : Nat) (k : Core) (len : Nat) : State :=
  coreShow (retired (s.setCore c (k.advance len)) c) c

/-- The trap registers of a core shown in ZC_ (R208, R212). -/
def trapShow (s : State) (c : Nat) : State :=
  let k := s.core c
  let s := s.set (R.ZC_TCAUSE_TASK c) (k.task.elim 255 (·.id))
  let s := s.set (R.ZC_TCAUSE_CAUSE c) (bitsOf k.tcause 0 6)
  (s.set (R.ZC_TPC_PC c) k.tpc.toNat).set (R.ZC_TVAL_VAL c) k.tval.toNat

/-- The task on a core ends by its fault (R206, R208): an OVF that no RTT has resumed is recorded now, and R139 acts. -/
def faultEnd (s : State) (c : Nat) : State :=
  let k := s.core c
  match k.task with
  | none => s
  | some t =>
    let s := if k.firstTrap = 3 then faultRecord s t.cls (faultWho t) 3 k.tpc.toNat else s
    faultAct (endTask s c) t.cls (if t.event.isNone then some t.id else none) t.event.isSome

/-- A trap taken (R206, R208): its vector, whether it is imprecise, TPC and TVAL. -/
def trapTake (s : State) (c vec : Nat) (imprecise : Bool) (tpc : BitVec 24) (tval : Word) : State :=
  let k := s.core c
  let s := (s.add (R.ZC_TRAPS_COUNT c) 1).putBit R.ZC_EVT_TRAP c true
  let cause := vec + bitNat imprecise * 16
  if swBit k.sw swTH then
    let k := { k with tcause := BitVec.ofNat 36 (cause + 32), tval := tval, wait := .none }
    let s := (trapShow (s.setCore c k) c).putBit R.ZC_EVT_DOUBLE c true
    faultEnd s c
  else
    let sw := withBits (swPut (swPut k.sw swTH true) swOVE false) 17 2 1
    let k' := { k with
      tpc := tpc, tsw := k.sw, tcause := BitVec.ofNat 36 cause, tval := tval, sw := sw, wait := .none, firstTrap := vec
      pc := k.vbase + BitVec.ofNat 24 (8 * vec) }
    let s := coreShow (trapShow (s.setCore c k') c) c
    let s := match k.task with
      | some t => if vec = 3 then s else faultRecord s t.cls (faultWho t) vec tpc.toNat
      | none => s
    if k.vbase = 0 then faultEnd s c else s

/-- A trap that arises (R207): a pending imprecise BUS trap is taken in its place, and both are counted. TPC is the
trapping instruction, or the next one for OVF. -/
def trapRaise (s : State) (c vec : Nat) (tpc : BitVec 24) (tval : Word) : State :=
  let k := s.core c
  match k.imprecise with
  | some a =>
    let s := s.add (R.ZC_TRAPS_COUNT c) 1
    trapTake (s.setCore c { k with imprecise := none, arrived := false }) c 2 true tpc (BitVec.ofNat 36 a)
  | none => trapTake s c vec false tpc tval

/-- The TVAL of a fabric call (R246): 8#400_000_000_000 plus UNIT. -/
def callTval (unit : Nat) : Word := BitVec.ofNat 36 (2 ^ 35 + unit)

/-- A core executes instructions: class cycles run, no deferral or power fail has stopped the cores, the core PLL runs,
and the core has a task that waits for nothing (R17, R58, R65, R52, R222). -/
def coreRuns (s : State) (c : Nat) : Bool :=
  s.cycling && (s.core c).task.isSome && !s.flag R.SYS_STATE_DEFER && decide (s.power.pfStep ≤ 3) &&
  !s.flag R.CLK_STAT_STOPPED

/-- The command on a core's port, once checked, takes effect at a boundary of the caller's own class (R249). -/
def handleHeld (s : State) (c : Nat) : Bool :=
  match s.handles.cmds.find? (fun x : HandleCmd => x.port == c && x.checked), (s.core c).task with
  | some x, some t =>
    let ch : Channel := (s.channel x.cls x.idx).getD ⟨x.cls, x.idx, x.words, false, false⟩
    !effectNow s ch && channelClass s ch == some t.cls
  | _, _ => false

/-- The outcome of a handle command for HCMD and HWAIT (R248, R249): what Gd takes with Z, or the TVAL of HANDLE; none while
it waits. -/
def handleOutcome (s : State) (c : Nat) : Option (Except Word (Word × Bool)) :=
  match s.get (R.HND_PCMD_STATUS c) with
  | 0 => some (.ok (0, false))
  | 1 => if handleHeld s c then some (.ok (1, false)) else none
  | 2 => some (.ok (s.reg (R.HND_PHND_HANDLE c).addr, true))
  | 5 => some (.error (BitVec.ofNat 36 (s.get (R.HND_PERR_CODE c) * 2 ^ 32)))
  | st => some (.ok (BitVec.ofNat 36 st, false))

/-- A task at a FCALL, FWAIT, HCMD or HWAIT whose wait has ended: the instruction completes, or traps (R222, R246, R248). -/
def coreSettle (c : Nat) : Nat → State → State
  | 0, s => s
  | n + 1, s =>
    let k := s.core c
    match k.wait with
    | .called none => complete s c { k with wait := .none } 1
    | .called (some u) => coreSettle c n (trapRaise s c 2 k.pc (callTval u))
    | .handle d =>
      if !coreRuns s c then s
      else
        match handleOutcome s c with
        | none => s
        | some (.ok r) => complete s c { k.setG d r.1 with wait := .none, sw := swPut k.sw swZ r.2 } 1
        | some (.error w) => coreSettle c n (trapRaise s c 4 k.pc w)
    | _ => s

/-- Tasks that can wait on one core. -/
def settleFuel : Nat := 41

/-- A trap of a core, with what the end of its task lets go on. -/
def trap (s : State) (c vec : Nat) (tpc : BitVec 24) (tval : Word) : State :=
  coreSettle c settleFuel (trapRaise s c vec tpc tval)

/-- A task ended by its fault, with what that lets go on. -/
def faultFinish (s : State) (c : Nat) : State := coreSettle c settleFuel (faultEnd s c)

/-- A task ended, with what that lets go on. -/
def taskFinish (s : State) (c : Nat) : State := coreSettle c settleFuel (endTask s c)

/-- A pending imprecise BUS trap taken with the next instruction as the first not retired (R207). -/
def impreciseTake (s : State) (c : Nat) : State :=
  let k := s.core c
  match k.imprecise with
  | some a =>
    let s := s.setCore c { k with imprecise := none, arrived := false }
    coreSettle c settleFuel (trapTake s c 2 true k.pc (BitVec.ofNat 36 a))
  | none => s

/-- Between two instructions (R222): a store error that has arrived traps, and a preemption that is due happens. -/
def betweenInstructions (s : State) (c : Nat) : State :=
  let s := if (s.core c).arrived then impreciseTake s c else s
  coreSettle c settleFuel (preemptSettle s c)

/-- A core inside an instruction that waits for a remote word, or has its answer (R222). -/
def awaitsRemote (s : State) (c : Nat) : Bool :=
  s.spine.answers.any (·.1 == c) || match (s.core c).wait with
    | .remote _ => true
    | _ => false

/-- No further instruction is issued: the core waits, or awaits a store error before its task is preempted (R260). -/
def issueHeld (s : State) (c : Nat) : Bool :=
  (s.core c).wait != .none || (preemptDue s c && !awaitsRemote s c)

/-- A store error that arrives after its instruction (R207): one is pending per core, further ones only count. -/
def storeError (s : State) (c a : Nat) : State :=
  let k := s.core c
  if k.imprecise.isSome then s.add (R.ZC_TRAPS_COUNT c) 1 else s.setCore c { k with imprecise := some a }

/-- A fetch that traps BUS (R199, R255): a reserved or house range, or a poisoned word. -/
def fetchBad (s : State) (a : Nat) : Bool :=
  regionOf a == .reserved || regionOf a == .house || s.poisoned a

/-- A fetch error: a poisoned word reports its error again (R255). -/
def fetchTrap (s : State) (c a : Nat) : State :=
  let s := s.when (s.poisoned a) (memError · a c)
  trap s c 2 (s.core c).pc (BitVec.ofNat 36 a)

/-- What an instruction asks before its own effect: whether its fields are legal, whether it is privileged, and the
literal word it takes, with the legality of that word (R197, R214, R220). -/
structure Checks where
  legal : Bool
  priv : Bool := false
  literal : Bool := false
  litLegal : Bool := true
  deriving DecidableEq, Repr

/-- The words of an instruction. -/
def Checks.len (ch : Checks) : Nat := if ch.literal then 2 else 1

/-- An instruction on a core: fetch, ILLEGAL, PRIV, condition, literal fetch, then its own effect (R220), and what comes
between it and the next. -/
def instruct (s : State) (c : Nat) (word : Word) (ch : Checks) (run : State → Core → State) : State :=
  let k := s.core c
  if !coreRuns s c ∨ issueHeld s c then s
  else betweenInstructions (
    if fetchBad s k.pc.toNat then fetchTrap s c k.pc.toNat
  else if !ch.legal then trap s c 0 k.pc word
  else if ch.priv && swPL k.sw == 0 then trap s c 1 k.pc word
  else if !condHolds (bitsOf word 32 4) k.sw then complete s c k ch.len
  else
    let lit := (k.pc + 1).toNat
    if ch.literal && fetchBad s lit then fetchTrap s c lit
    else if !ch.litLegal then trap s c 0 k.pc word
    else run s k) c

/-- An instruction completes, and OVF follows where it is enabled (R195, R206). -/
def completeOvf (s : State) (c : Nat) (k : Core) (len : Nat) (word : Word) (ovf : Bool) : State :=
  let ove := swBit k.sw swOVE
  let s := complete s c k len
  if ovf && ove then trap s c 3 (s.core c).pc word else s

/-- The word of an instruction from its condition, major opcode and operand bits (R214). -/
def instrWord (cond : Fin 16) (major : Nat) (opnd : BitVec 26) : Word :=
  BitVec.ofNat 36 (cond.val * 2 ^ 32 + major * 2 ^ 26 + opnd.toNat)

end Sys2Proof.Machine
end

