-- ==== Sys2Proof/Machine/Pass.lean ====
section
/-!
DEFINITION. Sys2Proof/Machine/Pass.lean: the passes of the fabric (R161 to R166), their requests and answers, plane
switches (R174) and the fabric's scrubbers (R183, R184); the rows FABRIC_PASS_START to FABRIC_SCRUB.
-/
namespace Sys2Proof.Machine

/-- Waits that have ended let their tasks go on (R222). -/
def settleAll (s : State) : State := State.forEach (List.range 8) (fun c s => coreSettle c settleFuel s) s

/-- A pass put behind those of its class priority and above (R165). -/
def insertPass (p : Pass) : List Pass → List Pass
  | [] => [p]
  | x :: xs => if p.cls < x.cls then p :: x :: xs else x :: insertPass p xs

/-- A pass requested on its quire (R165). -/
def passRequest (s : State) (q : Nat) (p : Pass) : State :=
  let k := s.quire q
  s.setQuire q { k with waiting := insertPass p k.waiting }

/-- The posted calls of a task that are outstanding (R164). -/
def postedOpen (ps : List (Nat × Bool)) : List (Nat × Bool) := ps.filter fun p => !p.2

/-- What FWAIT finds once nothing is outstanding: the unit of a pass that a disabled quire ended (R246). -/
def postedFail (ps : List (Nat × Bool)) : Option Nat := (ps.find? (·.2)).map (·.1)

/-- A posted call that has ended: gone, or kept for the FWAIT that traps (R246). -/
def postedEnd (ps : List (Nat × Bool)) (unit : Nat) (fail : Bool) : List (Nat × Bool) :=
  let i := ps.findIdx (· == (unit, false))
  if fail then ps.set i (unit, true) else ps.eraseIdx i

/-- The calls that a core has outstanding (R164). -/
def coreCalls (s : State) (c : Nat) : Nat :=
  let mine (p : Pass) : Bool := match p.by' with
    | .core d _ _ | .ended d _ => d == c
    | .cls => false
  (s.fabric.quires.toList.map fun q => (q.waiting ++ q.running.toList).countP mine).foldl (· + ·) 0

/-- A pass that a task called has ended (R164, R246): `fail` for one that a disabled quire ended. A task that is
preempted or halted goes on when it resumes. -/
def passAnswer (s : State) (c : Nat) (t : TaskRef) (posted : Bool) (unit : Nat) (fail : Bool) : State :=
  let k := s.core c
  let called : Option Nat := if fail then some unit else none
  let step (w : CoreWait) (ps : List (Nat × Bool)) : CoreWait × List (Nat × Bool) :=
    if posted then
      let ps := postedEnd ps unit fail
      if w == .fwait && (postedOpen ps).isEmpty then (.called (postedFail ps), []) else (w, ps)
    else if w == .fcall unit then (.called called, ps)
    else (w, ps)
  if k.task = some t then
    let r := step k.wait k.posted
    let s := s.setCore c { k with wait := r.1, posted := r.2 }
    if coreRuns s c then coreSettle c settleFuel s else s
  else
    let old := k.preempted.map fun v =>
      if v.task == t then
        let r := step v.wait v.posted
        { v with wait := r.1, posted := r.2 }
      else v
    s.setCore c { k with preempted := old }

/-- The tasks of a class that this device runs, in STRUCT order (R122). -/
def classTasks (s : State) (c : Nat) : List TaskRef :=
  (s.coreUnits.filter fun u => u.cls == c && u.event.isNone && (s.placed 1 u.id false).isSome).map fun u =>
    ⟨u.id, c, none, false⟩

/-- The core tasks of SOLVE become ready once the fabric part has ended (R122, R163). -/
def solveTasks (s : State) (c : Nat) : State :=
  settleAll (State.forEach (classTasks s c) (fun t s => taskReady s t) s)

/-- One class-driven pass is over; the last lets the tasks start. -/
def classPassOver (s : State) (c unit : Nat) : State :=
  let k := s.cls c
  let left := k.passesLeft.erase unit
  let s := s.setCls c { k with passesLeft := left }
  if (k.phase == .solve || k.phase == .late) && !k.passesLeft.isEmpty && left.isEmpty then solveTasks s c else s

/-- Class-driven passes of a unit on a disabled quire (R184): BUS in the first task of the host class. -/
def classPassFail (s : State) (c unit : Nat) : State :=
  let k := s.cls c
  match classTasks s c with
  | t :: _ => s.setCls c { k with busUnit := some (k.busUnit.getD (t.id, unit)) }
  | [] => s

/-- A pass ended by its disabled quire (R184, R246). -/
def passFail (s : State) (p : Pass) : State :=
  match p.by' with
  | .cls => classPassOver (classPassFail s p.cls p.unit) p.cls p.unit
  | .core c t posted => passAnswer s c t posted p.unit true
  | .ended .. => s

/-- Passes start in RUN and STANDBY, those already queued in HALT too (R185), and neither in a deferral nor after the commit
window of a power fail (R58, R65). -/
def passesRun (s : State) : Bool :=
  (s.cycling || s.dev == .halt) && !s.flag R.SYS_STATE_DEFER && decide (s.power.pfStep ≤ 3) && !s.flag R.CLK_STAT_STOPPED

/-- The errors that the capture of a pass meets in poisoned words (R255); the fabric is master 10 (R608). -/
def tapErrors (s : State) (u : FabricUnit) : State :=
  State.forEach ((u.inTaps.flatMap tapWords).filter s.poisoned) (fun a s => memError s a 10) s

/-- FABRIC_PASS_START (R161, R165): the first pass that waits on an idle quire captures its inputs. What it will write is
decided by the capture. -/
def passStart (s : State) (q : Nat) : State :=
  let k := s.quire q
  match k.running, k.waiting with
  | none, p :: rest =>
    if !passesRun s ∨ s.flag (R.FAB_QSTAT_DIS q) then s
    else
      match s.fabricUnit p.unit, s.unitSt p.unit with
      | some u, some st =>
        (tapErrors s u).setQuire q
          { k with running := some p, next := some (passResult u st (capture s u)), waiting := rest }
      | _, _ => passFail (s.setQuire q { k with waiting := rest }) p
  | _, _ => s

/-- Whether a pass has changed a retained cell (R611). -/
def retainedChanged (u : FabricUnit) (old new : UnitSt) : Bool :=
  u.retTimers.any (fun r => old.timers[r.1]? != new.timers[r.1]?) ||
  u.retCounters.any (fun r => old.counters[r.1]? != new.counters[r.1]?)

/-- How the taps of a pass reach the output image (R136): those of a pass that an event task called in the idle gap or after
the commit check belong to the next COMMIT. -/
def passWriter (s : State) (p : Pass) : Writer :=
  let k := s.cls p.cls
  let event := match p.by' with
    | .core _ t _ => t.event.isSome
    | .ended _ e => e
    | .cls => false
  if !event then .work else if k.phase == .idle || k.phase == .late || k.checked then .late else .event

/-- The output taps of a pass written to the image of its class (R159, R162): each takes the state bit of its leaf. -/
def writeTaps (s : State) (u : FabricUnit) (st : UnitSt) (w : Writer) : State :=
  State.forEach (List.range (u.outTaps.length / 2)) (fun i s =>
    let tap := u.outTaps.getD (2 * i) 0
    let leaf := bitsOf (u.outTaps.getD (2 * i + 1) 0) 0 15
    let v := (st.leaves[leaf]?).elim false (·.bit)
    viewWrite s u.cls w false tap.msb (bitsOf tap 0 21) (BitVec.ofNat 36 (bitNat v))) s

/-- What a pass leaves of a unit as it stands by then: presets, arm bits and the previous-state bits of CYCLE scope keep what
was written meanwhile (R144, R172, R177). -/
def passMerge (u : FabricUnit) (old new : UnitSt) : UnitSt :=
  { new with
    leaves := new.leaves.mapIdx fun i l =>
      let p := (old.leaves[i]?).bind (·.prev)
      if (u.leafWord i 5).getLsbD 24 && p.isSome then { l with prev := p } else l
    timers := new.timers.mapIdx fun i t => { t with pt := (old.timers[i]?).elim t.pt (·.pt) }
    counters := new.counters.mapIdx fun i k => { k with pv := (old.counters[i]?).elim k.pv (·.pv) }
    arms := old.arms }

/-- The fabric clocks of a pass (R161, R188): while RATE is 2#01, with one stolen in every 64. -/
def passClocks (s : State) (u : FabricUnit) : Nat :=
  let n := 16 + u.levels
  if s.get R.FAB_XSCRUB_RATE = 1 then n + ceilDiv n 64 else n

/-- FABRIC_PASS_COMPLETE (R161): state bits, previous-state bits and output taps are written at once, and whoever asked for
the pass is answered. -/
def passComplete (s : State) (q : Nat) : State :=
  let k := s.quire q
  match k.running, k.next with
  | some p, some st =>
    match s.fabricUnit p.unit, s.unitSt p.unit with
    | some u, some old =>
      let st := passMerge u old st
      let s := s.setQuire q { k with running := none, next := none }
      let s := s.when (retainedChanged u old st) (·.raise R.RET_STAT_DIRTY)
      let s := writeTaps (s.setUnit st) u st (passWriter s p)
      let s := (s.add (R.FAB_QPASS_PASSES q) 1).add (R.FAB_QBUSY_BUSY q) (passClocks s u)
      match p.by' with
      | .cls => classPassOver s p.cls p.unit
      | .core c t posted => passAnswer s c t posted p.unit false
      | .ended .. => s
    | _, _ => passFail (s.setQuire q { k with running := none, next := none }) p
  | _, _ => s

/-- PLANE_SWITCH (R174): the planes of the quires named exchange, all or none, in the gap of a cycle boundary with no pass
running or queued. -/
def planeSwitch (s : State) (mask : Nat) : State :=
  let qs := (List.range 8).filter mask.testBit
  if inGap s && passesIdle s && !qs.isEmpty && qs.all (fun q => s.flag (R.FAB_QSTAT_STAGED q)) then
    reflexSwitch s (planeExchange s qs)
  else s

/-- A quire disabled (R184): its passes end, its reflex leaves stop, and where it holds units the imposer has a loss to answer
(R267). -/
def quireDisable (s : State) (q d0 d1 : Nat) : State :=
  let s := (s.raise (R.FAB_QSTAT_DIS q)).raise R.FAB_EVT_UNCORR
  let s := ((s.putBit R.FAB_STAT_DIS q true).putBit R.FAB_STAT_REFLEX q false).set (R.FAB_QSTAT_REFLEX q) 0
  let s := reflexStop (s.journal 9 7 d0 d1) q
  let s := lossTrigger s fun e => e.kind == 2 && e.place == q && !e.remote
  let k := s.quire q
  let ps := k.running.toList ++ k.waiting
  let s := s.setQuire q { k with running := none, next := none, waiting := [] }
  State.forEach ps (fun p s => passFail s p) s

/-- The configuration words of one plane of a quire, and the groups of its state and previous-state bits (R156, R183). -/
def planeWords : Nat := 225408
def stateGroups : Nat := 2048

/-- Whether a read of the quire takes place (R183, R188): of a configuration word by the scrubber, in the clocks that RATE gives
it; of a group of state bits also by a pass (log 142). -/
def scrubReads (s : State) (q : Nat) (stateBits : Bool) (off : Nat) : Bool :=
  let rate := s.get R.FAB_XSCRUB_RATE
  if stateBits then decide (off < stateGroups)
  else decide (off < planeWords) && rate != 2 && ((s.quire q).running.isNone || rate == 1)

/-- FABRIC_SCRUB (R183, R184): what is read of a quire, a word of a plane or a group of state bits, what the read finds
(1 a corrected error, 2 an uncorrectable one), and whether it ends a round of the scrubber. -/
def fabricScrub (s : State) (q : Nat) (stateBits staged : Bool) (off kind : Nat) (round : Bool) : State :=
  if !(s.dev == .load || reflexState s) ∨ !scrubReads s q stateBits off ∨ s.flag (R.FAB_QSTAT_DIS q) then s
  else
    let s := s.when (round && !stateBits) (·.add R.FAB_SCRUB_COUNT 1)
    if kind = 1 then (s.add R.FAB_CORR_COUNT 1).putBit R.FAB_EVT_CORR q true
    else if kind = 2 then
      if stateBits then quireDisable s q (q + 16) off
      else if staged then
        let s := (s.set (R.FAB_QSTAT_STAGED q) 0).putBit R.FAB_STAT_STAGED q false
        (s.raise R.FAB_EVT_STAGEERR).journal 9 7 (q + 8) off
      else quireDisable s q q off
    else s

/-- FABRIC_PASS_START (R161). -/
def execFabricPassStart (quire : Fin 8) (s : State) : Result := s.answer (passStart s quire)

/-- FABRIC_PASS_COMPLETE (R161): in HALT too, since a pass that has begun always completes (R165). -/
def execFabricPassComplete (quire : Fin 8) (s : State) : Result :=
  s.answer (if s.cycling || s.dev == .halt then passComplete s quire else s)

/-- PLANE_SWITCH (R174): the quires that the switch names. -/
def execPlaneSwitch (quires : BitVec 8) (s : State) : Result :=
  s.answer (if s.cycling then planeSwitch s quires.toNat else s)

/-- FABRIC_SCRUB (R183). -/
def execFabricScrub (quire : Fin 8) (stateBits staged : Bool) (offset : BitVec 18) (kind : Fin 3) (round : Bool)
    (s : State) : Result :=
  s.answer (if s.powered then fabricScrub s quire stateBits staged offset.toNat kind round else s)

end Sys2Proof.Machine
end

