-- ==== Sys2Proof/Machine/Cycle.lean ====
section
/-!
DEFINITION. Sys2Proof/Machine/Cycle.lean: the class cycle from LATCH to COMMIT (R117 to R132), event triggers (R133 to
R136), and debug halt and resume (R19, R152); the rows LATCH to DEBUG_RESUME.
-/
namespace Sys2Proof.Machine

/-- Classes start LATCHes and COMMITs: not in a deferral (R58). -/
def cycleOpen (s : State) : Bool := s.cycling && !s.flag R.SYS_STATE_DEFER

/-- A class that latches: active, not halted, not faulted (R139), while no STOP (R33) and no power fail (R65) is under
way. -/
def mayLatch (s : State) (c : Nat) : Bool :=
  cycleOpen s && s.power.pfStep == 0 && !s.cycle.stopping && s.getBit R.CYC_STAT_ACTIVE c &&
  !s.getBit R.CYC_STAT_HALTED c && !(s.cls c).faulted

/-- The instant from which a class's next LATCH is sought (R119, R120): the start instant bounds its first one. -/
def latchFrom (s : State) (c : Nat) : Nat :=
  let k := s.cls c
  if k.latchLoc = 0 then max s.cycle.startAt k.notBefore else k.notBefore

/-- The instant of a LATCH (R118 to R120): the class's last grid instant, or its next one where that may not latch. -/
def latchInstant (s : State) (c : Nat) : Nat :=
  let p := max 1 (classPeriod s c)
  let lo := latchFrom s c
  let g := s.now / p * p
  if lo ≤ g then g else ceilDiv lo p * p

/-- A skipped COMMIT or LATCH counted (CYC_EVT.SKIP, CYC_OVC.SKIP). -/
def skipCount (s : State) (c n : Nat) : State :=
  if n = 0 then s else (s.putBit R.CYC_EVT_SKIP c true).add (R.CYC_OVC_SKIP c) n

/-- The watchdog armed at the first LATCH after an entry into RUN or STANDBY (R478). -/
def watchdogArm (s : State) : State :=
  if !s.watchdog.armDue then s
  else
    let s := { s with
      watchdog := { s.watchdog with armDue := false } }
    if s.flag R.WDG_CFG_ENABLE then (windowBegin s true).raise R.WDG_STAT_ARMED else s

/-- Everything is copied to a standby again (R358): PSTATE COPYING. -/
def twinRecopy (s : State) : State :=
  let s := { s with
    twin := { s.twin with copyDone := 0, fabricDue := false, skipped := 0 } }
  s.set R.TWN_STAT_PSTATE 3

/-- The primary's log of a class applied over the standby's own writes (R358). -/
def logApply (s : State) (c : Nat) : State :=
  let ws := (s.twin.logs.filter fun x => x.1 == c).flatMap (·.2)
  let s := State.forEach ws (fun w s =>
    if inImage w.1 then { s with mem := s.mem.wr w.1 (imageWord w.1 w.2) } else s.store w.1 w.2) s
  { s with
    twin := { s.twin with logs := s.twin.logs.filter fun (x : Nat × List (Nat × Word)) => x.1 != c } }

/-- What a LATCH asks of a standby (R358): the log of the class's last cycle has arrived complete, and its data are those of
the primary. -/
def twinLogCheck (s : State) (c : Nat) : State :=
  let ran := (s.twin.ownDigest.toList.getD c none).isSome
  let s := if s.dev == .standby && ran && !s.twin.logDone.testBit c && s.get R.TWN_STAT_PSTATE == 4 then
      twinRecopy ((s.set R.TWN_STAT_CAUSE 8).raise R.TWN_EVT_LOGFULL)
    else s
  let s := logApply s c
  { s with
    twin := { s.twin with
      logDone := withBit s.twin.logDone c false, trkLate := withBit s.twin.trkLate c false
      trkin := s.twin.trkin.filter fun (x : Nat × List PointValue) => x.1 != c
      ownDigest := s.twin.ownDigest.setIfInBounds c none, peerDigest := s.twin.peerDigest.setIfInBounds c none
      sinceSync := s.twin.sinceSync + bitNat ((configuredClasses s).head? == some c) } }

/-- OUTPUT_MISMATCH (R358): the digests of a class cycle compared on a SYNCED standby. MMLIM mismatches in a row bring a
recopy of everything, and MMLIM more within 1,024 cycles of regaining SYNCED a withdrawal. -/
def digestCompare (s : State) (c : Nat) : State :=
  match s.twin.ownDigest.toList.getD c none, s.twin.peerDigest.toList.getD c none with
  | some own, some peer =>
    let s := { s with
      twin := { s.twin with peerDigest := s.twin.peerDigest.setIfInBounds c none } }
    if s.dev ≠ .standby ∨ s.get R.TWN_STAT_PSTATE ≠ 4 then s
    else if own = peer then s.set (R.TWN_MM_CONS c) 0
    else
      let s := ((s.raise R.TWN_EVT_MISMATCH).add (R.TWN_MM_TOTAL c) 1).addSat (R.TWN_MM_CONS c) 1
      let s := s.record 74 13 c (s.reg (R.TWN_MM_TOTAL c).addr).toNat
      let lim := s.get R.TWN_CFG_MMLIM
      if lim = 0 ∨ s.get (R.TWN_MM_CONS c) < lim then s
      else if s.twin.recopied ∧ s.twin.sinceSync ≤ 1024 then twinWithdraw s 7 true
      else
        let s := { s with
          twin := { s.twin with recopied := true } }
        twinRecopy (s.set (R.TWN_MM_CONS c) 0)
  | _, _ => s

/-- The runs of SPINE for a class in one direction, at one node or at all. -/
def classRuns (s : State) (c : Nat) (scatter : Bool) : List Run :=
  (s.content.elim [] (·.runs)).filter fun r => r.cls == c && r.scatter == scatter

/-- A worker's GATHER payload (R329, R330): values and qualities of its runs, in SPINE order. -/
def gatherPayload (s : State) (c : Nat) : List Word :=
  ((classRuns s c false).filter fun r => r.node == s.spine.addr).flatMap fun r =>
    runValues s.mem r.word false r.loc r.count ++ runQuals s.mem r.word false r.loc r.count

/-- What a LATCH sends: GATHER from a worker (R330), TRKIN from a primary (R356). -/
def latchSends (s : State) (c g : Nat) : State :=
  let s := s.when (s.dev == .run && !s.standalone && s.isWorker) fun s => spineSend s 4 c g (gatherPayload s c)
  s.when (s.dev == .run && hasStandby s) fun s =>
    twinSend s 34 c g ((classPoints s c false).map fun p => s.point p.word p.global p.num)

/-- LATCH of an idle class (R122, R123, R147): what has changed is tracked first (R356). The commit check lead follows the
loops (R323); a major LATCH ends the banks' measurements (R267). -/
def latchBegin (s : State) (c g : Nat) : State :=
  let s := twinLogCheck (trackChanges s) c
  let s := { s with
    fabric := { s.fabric with
      units := s.fabric.units.map fun (st : UnitSt) => match s.fabricUnit st.id with
        | some u => if u.cls = c then cycleScope u st else st
        | none => st } }
  let s := latchInputs (forceLatch s c) c
  let s := showOutQuality s c
  let k := s.cls c
  let view := k.lateOut.foldl (fun m (w : Bool × Bool × Nat × Word) =>
    putPointIn m w.1 w.2.1 w.2.2.1 w.2.2.2) (imageOf s)
  let s := s.setCls c { k with
    phase := .gather, latchAt := g, latchLoc := s.time.loc, notBefore := g + 1, checked := false, allowed := false
    voided := k.voidNext, voidNext := false, overran := false, stretchN := 0, passesLeft := [], busUnit := none
    view := view, lateOut := [], written := [] }
  let s := { s with
    spine := { s.spine with
      gathered := s.spine.gathered.filter fun (x : Nat × Nat) => x.1 != c
      decisions := s.spine.decisions.filter fun (x : Nat × Nat) => x.1 != c } }
  let s := { s with
    cycle := { s.cycle with
      peerOverrun := withBit s.cycle.peerOverrun c false
      peerChecked := s.cycle.peerChecked.filter fun (x : Nat × Nat) => x.1 != c } }
  let s := s.set R.CYC_CHKLEAD_K (checkLead s)
  let first := (configuredClasses s).head? == some c
  let major := first && g % (max 1 (s.get R.CYC_MAJOR_M) * 31250) == 0
  let s := s.when major fun s => bankPeriod (gateTiles (olcPeriod s))
  latchSends (watchdogArm s) c g

/-- LATCH (R118, R122, R129): one that falls while the class's work still runs is skipped. -/
def latch (s : State) (c : Nat) : State :=
  if !mayLatch s c then s
  else
    let g := latchInstant s c
    let k := s.cls c
    if k.phase == .idle then latchBegin s c g else skipCount (s.setCls c { k with notBefore := g + 1 }) c 1

/-- The inputs that GATHER has completed enter the class view (R147). -/
def refreshView (s : State) (c : Nat) : State :=
  let ps := classPoints s c false
  let k := s.cls c
  let view := ps.foldl (fun m (p : Point) =>
    let m := putPointIn m p.word p.global p.num (s.point p.word p.global p.num)
    let a := qualAddr p.word p.global p.num
    m.wr a (withBits (m.rd a) (2 * (p.num % 16)) 2 (s.qual p.word p.global p.num))) k.view
  s.setCls c { k with view := view }

/-- The class-driven passes of SOLVE requested (R163, R184). -/
def solvePasses (s : State) (c : Nat) : State :=
  State.forEach (s.fabricUnits.filter fun u => u.cls == c && decide (0 < u.passes)) (fun u s =>
    match s.quireOf u.id with
    | none => s
    | some q =>
      if s.flag (R.FAB_QSTAT_DIS q) then classPassFail s c u.id
      else
        let s := State.forEach (List.range u.passes) (fun _ s => passRequest s q ⟨u.id, c, .cls⟩) s
        let k := s.cls c
        s.setCls c { k with passesLeft := k.passesLeft ++ List.replicate u.passes u.id }) s

/-- The units that the sheet places on workers (R274). -/
def remoteUnits (s : State) (c : Nat) : List CoreUnit :=
  s.coreUnits.filter fun u =>
    u.cls == c && u.event.isNone && s.imposer.sheet.any fun e => e.kind == 1 && e.id == u.id && e.remote

/-- A FEED payload (R274): the unit, then the values and qualities of its input points. -/
def feedPayload (s : State) (u : CoreUnit) : List Word :=
  BitVec.ofNat 36 u.id ::
    (u.inPoints.map fun p => s.point p.1 true p.2) ++ u.inPoints.map fun p => BitVec.ofNat 36 (s.qual p.1 true p.2)

/-- SOLVE begins (R122, R163, R274): passes are requested, or the tasks start at once. One held back by a stopped core PLL
begins late (R53). -/
def solveBegin (s : State) (c : Nat) : State :=
  if s.flag R.CLK_STAT_STOPPED then s.raise R.CYC_EVT_CLKLATE
  else
    let s := refreshView s c
    let s := s.setCls c { s.cls c with phase := .solve }
    let feeds := if s.dev == .run then remoteUnits s c else []
    let s := { s with
      spine := { s.spine with
        returned := s.spine.returned.filter fun (i : Nat) => !(feeds.any fun (u : CoreUnit) => u.id == i) } }
    let s := State.forEach feeds (fun u s => spineSend s 6 c (s.cls c).latchAt (feedPayload s u)) s
    let s := solvePasses s c
    if (s.cls c).passesLeft.isEmpty then solveTasks s c else s

/-- The nodes whose gather runs of a class the manager takes. -/
def gatherNodes (s : State) (c : Nat) : List Nat :=
  if s.standalone || s.isWorker || s.dev == .standby then []
  else ((classRuns s c false).map (·.node)).eraseDups

/-- A node latches a class: it is admitted, is not lost, runs, and has not halted the class (R140, R325). -/
def nodeLatches (s : State) (c b : Nat) : Bool :=
  s.flag (R.SPN_NODE_ADMITTED b) && s.get (R.SPN_NODE_STATE b) == 4 &&
    (s.node b).all fun n => !n.lost && n.status.all (·.latching.testBit c)

/-- A node's gathered points may still come: a node of its position latches the class (R325, R330). -/
def nodeServes (s : State) (c a : Nat) : Bool := [a / 2 * 2, a / 2 * 2 + 1].any (nodeLatches s c)

/-- GATHER has everything that it waits for (R122, R357): the runs of every admitted node, the tagged samples of synchronous
stations and, on a standby, the primary's TRKIN. -/
def gatherDone (s : State) (c : Nat) : Bool :=
  (gatherNodes s c).all (fun n => s.spine.gathered.contains (c, n) || !nodeServes s c n) &&
  (classStations s c).all (fun i => match s.station i with
    | some st => !stnSync (stnWords s i) || st.tag == some ((s.cls c).latchAt % 2 ^ 64)
    | none => true) &&
  (s.dev != .standby || s.twin.trkin.any fun x => x.1 == c)

/-- The gathered points of a node take a quality at the substitute policy HOLD (R128, R325). -/
def gatherMissing (s : State) (c n q : Nat) : State :=
  State.forEach ((classRuns s c false).filter fun r => r.node == n) (fun r s =>
    State.forEach (List.range r.count) (fun i s => s.putQual r.word true (r.glob + i) q) s) s

/-- GATHER_COMPLETE (R122). Points of nodes that do not serve the image carry BAD (R140, R325). -/
def gatherComplete (s : State) (c : Nat) : State :=
  if !cycleOpen s ∨ (s.cls c).phase ≠ .gather ∨ !gatherDone s c then s
  else
    let bad := (gatherNodes s c).filter fun n => !nodeServes s c n && !s.spine.gathered.contains (c, n)
    solveBegin (State.forEach bad (fun n s => gatherMissing s c n 3) s) c

/-- GATHER_DEADLINE (R128, R357, R566): what has not arrived is STALE, and SOLVE begins. -/
def gatherDeadline (s : State) (c : Nat) : State :=
  if !cycleOpen s ∨ (s.cls c).phase ≠ .gather then s
  else
    let s := State.forEach (gatherNodes s c) (fun n s =>
      if s.spine.gathered.contains (c, n) then s
      else if !nodeServes s c n then gatherMissing s c n 3
      else gatherMissing s c n 2) s
    let s := stnDeadline s c
    let late := s.dev == .standby && !s.twin.trkin.any fun x => x.1 == c
    let s := s.when late fun s =>
      { s.raise R.TWN_EVT_TRKLATE with twin := { s.twin with trkLate := withBit s.twin.trkLate c true } }
    solveBegin s c

/-- The place of a point in point order. -/
def pointKey (p : Bool × Bool × Nat) : Nat := bitNat p.2.1 * 2 ^ 23 + bitNat p.1 * 2 ^ 22 + p.2.2

/-- A point put into a list in point order. -/
def insertPoint (p : Bool × Bool × Nat) : List (Bool × Bool × Nat) → List (Bool × Bool × Nat)
  | [] => [p]
  | x :: xs => if pointKey p < pointKey x then p :: x :: xs else x :: insertPoint p xs

/-- The output digest of a class cycle (R358): CRC-32C over the (point, value) pairs, each packed as two words (log 26). -/
def outputDigest (s : State) (c : Nat) : Nat :=
  let ps := (s.cls c).written.foldl (fun acc p => insertPoint p acc) []
  let ws := ps.flatMap fun p => [BitVec.ofNat 36 (pointKey p), pointIn (s.view c) p.1 p.2.1 p.2.2]
  crc32c (packWords ws)

/-- SOLVE's work of a class is over: no pass and no task of it is left (R122). -/
def solveDone (s : State) (c : Nat) : Bool :=
  let k := s.cls c
  k.passesLeft.isEmpty && !classWorking s c false &&
  s.fabric.quires.toList.all fun q => q.running.all (·.cls != c) && q.waiting.all (·.cls != c)

/-- SOLVE_COMPLETE (R122, R358): the device forms its output digest, which a primary sends. -/
def solveComplete (s : State) (c : Nat) : State :=
  if !cycleOpen s ∨ (s.cls c).phase ≠ .solve ∨ !solveDone s c then s
  else
    let s := s.setCls c { s.cls c with phase := .scatter }
    if s.partner.isNone then s
    else
      let d := outputDigest s c
      let s := { s with
        twin := { s.twin with ownDigest := s.twin.ownDigest.setIfInBounds c (some d) } }
      let s := digestCompare s c
      s.when (s.dev == .run && hasStandby s) fun s => twinSend s 37 c (s.cls c).latchAt [BitVec.ofNat 36 d]

/-- The COMMIT instant of a class cycle (R122, R130). -/
def commitAt (s : State) (c : Nat) : Nat := (s.cls c).latchAt + classOffset s c + 31250 * (s.cls c).stretchN

/-- The SCATTER frames of the acting manager (R329, R331): one to each node that has runs of the class. -/
def scatterFrames (s : State) (c : Nat) : State :=
  let nodes := ((classRuns s c true).map (·.node)).eraseDups
  if !s.acting ∨ s.dev ≠ .run ∨ nodes.isEmpty then s
  else
    State.forEach nodes (fun n s =>
      let ws := ((classRuns s c true).filter fun r => r.node == n).flatMap fun r =>
        runValues (s.view c) r.word true r.glob r.count
      spineSend s 5 c (commitAt s c) ws) s

/-- The instant of a class's SCATTER (CYC_DONE, CYC_PEAK), and whether it was late by the measure of R267. -/
def scatterDone (s : State) (c : Nat) : State :=
  let done := ceilDiv (s.now - (s.cls c).latchAt) 125
  let s := s.set (R.CYC_DONE_DONE c) done
  let s := s.set (R.CYC_PEAK_PEAK c) (max (s.get (R.CYC_PEAK_PEAK c)) (min done (2 ^ 24 - 1)))
  let slow := decide (3 * (s.get (R.CYC_OFS_OFS c) - s.get R.CYC_CHKLEAD_K) < 4 * done)
  let h := ((s.imposer.slow.find? fun x => x.1 == c).elim 0 (·.2)) * 2 % 2 ^ 64 + bitNat slow
  { s with
    imposer := { s.imposer with slow := (c, h) :: s.imposer.slow.filter fun (x : Nat × Nat) => x.1 != c } }

/-- SCATTER_COMPLETE (R122, R564): station frames and scatters are sent; CYC_DONE takes the time since LATCH, that of
overrunning work too (R129). -/
def scatterComplete (s : State) (c : Nat) : State :=
  let k := s.cls c
  if !cycleOpen s then s
  else if k.phase = .scatter then scatterFrames (stnScatter (scatterDone (s.setCls c { k with phase := .done }) c) c) c
  else if k.phase = .late ∧ solveDone s c then scatterDone s c
  else s

/-- Commit checks are decided by the manager (R131). -/
def systemChecked (s : State) : Bool := s.flag R.CYC_CFG_SYSCHK && !s.standalone

/-- A commit decision takes effect on this device (R129 to R131): 0 COMMIT, 1 SKIP, 2 STRETCH. -/
def decide' (s : State) (c d : Nat) : State :=
  let k := s.cls c
  if k.phase == .idle || k.phase == .late then s
  else
    match d with
    | 0 =>
      if k.phase == .done && !k.voided then
        (s.setCls c { k with allowed := true }).when (decide (0 < k.stretchN)) (·.putBit R.CYC_EVT_STRETCH c true)
      else s.setCls c { k with phase := if k.phase == .done then .done else .late }
    | 1 => s.setCls c { k with phase := if k.phase == .done then .done else .late, voided := true }
    | _ => s.setCls c { k with stretchN := k.stretchN + 1, checked := k.checked && !systemChecked s }

/-- A decision of this device takes effect, and a primary tracks it to its standby (R356, R359). -/
def decideHere (s : State) (c d : Nat) : State := decide' (trackSend s [.decision c d]) c d

/-- The decision that the effective policy of this device gives an overrun (R129, R130, R139). -/
def policyDecision (s : State) (c : Nat) (overrun : Bool) : Nat :=
  let k := s.cls c
  if k.voided then 1
  else if !overrun then 0
  else if s.get (R.CYC_XPOL_OVRPOL c) = 1 ∧ k.stretchN < s.get (R.CYC_XPOL_SLIM c) then 2
  else 1

/-- An overrun counted on this device (R128, R132): the first of a run is recorded, and one past OVRLIM is a task fault. -/
def overrunCount (s : State) (c : Nat) : State :=
  let n := s.get (R.CYC_CONS_CONS c)
  let lim := s.get (R.CYC_XPOL_OVRLIM c)
  let s := (s.setCls c { s.cls c with overran := true }).putBit R.CYC_EVT_OVR c true
  let s := (s.add (R.CYC_OVC_OVR c) 1).addSat (R.CYC_CONS_CONS c) 1
  let s := s.when (n == 0) fun s => s.record 64 6 c (s.reg (R.CYC_OVC_OVR c).addr).toNat
  if lim ≠ 0 ∧ lim ≤ n then overrunFault s c else s

/-- What a check finds is acted on (R130, R131): reported to the manager where the decision is the system's, and otherwise
decided by this device's own policy. -/
def checkResult (s : State) (c : Nat) (ovr : Bool) : State :=
  if systemChecked s then
    s.when (!s.acting) fun s => spineSend s 2 8 s.now [BitVec.ofNat 36 (c * 2 + bitNat (ovr || (s.cls c).voided))]
  else decideHere s c (policyDecision s c ovr)

/-- COMMIT_CHECK (R128 to R131): at O − K. -/
def commitCheck (s : State) (c : Nat) : State :=
  let k := s.cls c
  if !cycleOpen s ∨ k.phase == .idle ∨ k.phase == .late ∨ k.checked ∨ 0 < k.stretchN then s
  else
    let ovr := k.phase != .done && !k.voided
    checkResult ((s.setCls c { k with checked := true }).when ovr (overrunCount · c)) c ovr

/-- STRETCH_CHECK (R130, R131): the check at LATCH + O + n × 31.25 µs − K. -/
def stretchCheck (s : State) (c : Nat) : State :=
  let k := s.cls c
  if !cycleOpen s ∨ k.stretchN = 0 ∨ k.allowed ∨ k.phase == .idle ∨ k.phase == .late ∨ systemChecked s && k.checked then s
  else checkResult (s.setCls c { k with checked := true }) c (k.phase != .done)

/-- Every node that latches the class has reported its check (R131). -/
def reportsIn (s : State) (c : Nat) : Bool :=
  (List.range 128).all fun b => !nodeLatches s c b || s.cycle.peerChecked.contains (c, b)

/-- COMMIT_DECISION (R131, R324, R346): issued by the acting manager once every device has checked, or received by a node. A
decision that arrives after the COMMIT finds the class held, and changes nothing. -/
def commitDecision (s : State) (c : Nat) (msg : Option (FrameHead × Fin 3)) : State :=
  match msg with
  | none =>
    if !s.acting ∨ !systemChecked s then s
    else if s.dev == .halt then spineSend s 8 c s.now [1]
    else
      let k := s.cls c
      if !cycleOpen s ∨ k.phase == .idle ∨ k.phase == .late ∨ !k.checked ∨ k.allowed ∨ !reportsIn s c then s
      else
        let d := policyDecision s c (k.phase != .done || s.cycle.peerOverrun.testBit c)
        let s := spineSend s 8 c (commitAt s c) [BitVec.ofNat 36 d]
        let s := { s with
          spine := { s.spine with decisions := (c, d) :: s.spine.decisions } }
        let s := { s with
          cycle := { s.cycle with
            peerOverrun := withBit s.cycle.peerOverrun c false
            peerChecked := s.cycle.peerChecked.filter fun (x : Nat × Nat) => x.1 != c } }
        decideHere s c d
  | some (h, d) =>
    let r := spineAccept s 8 h
    let s := r.1
    let k := s.cls c
    if !r.2 ∨ !cycleOpen s ∨ s.acting ∨ k.phase == .idle ∨ k.phase == .late then s
    else
      let s := { s with
        spine := { s.spine with decisions := (c, d.val) :: s.spine.decisions } }
      decideHere s c d

/-- Whether the delivery of an output point is complete at COMMIT (R150, R566). -/
def delivered (s : State) (c : Nat) (p : Point) : Bool :=
  match p.src with
  | .channel 2 i _ => stnDelivered s c i
  | _ => true

/-- The value that a COMMIT gives a local output point, none where its scatter has not arrived (R328, R331). -/
def scatteredValue (s : State) (c : Nat) (p : Point) : Option (Option Word) :=
  if s.standalone || p.global then none
  else
    let mine := (classRuns s c true).filter fun r => r.node == s.spine.addr
    let frame := s.spine.scatters.find? fun x => x.1 == c && x.2.1 == commitAt s c % 2 ^ 36
    let rec go : List Run → Nat → Option (Option Word)
      | [], _ => none
      | r :: rs, at' =>
        if r.word == p.word && decide (r.loc ≤ p.num) && decide (p.num < r.loc + r.count) then
          some (frame.map fun f => runValue r.word (f.2.2.drop at') (p.num - r.loc))
        else go rs (at' + runLength r.word r.count)
    go mine 0

/-- One output point committed (R124, R148, R150). -/
def commitPoint (s : State) (c : Nat) (p : Point) : State :=
  let v : Option Word := match scatteredValue s c p with
    | none => if delivered s c p then some (committedValue s c p) else none
    | some none => none
    | some (some w) =>
      match (if p.global then none else liveForce s p.word p.num) with
      | some f => some f.value
      | none => some w
  match v with
  | some w =>
    let s := s.putPoint p.word p.global p.num w
    let s := { s with
      cycle := { s.cycle with committed := putPointIn s.cycle.committed p.word p.global p.num w } }
    outQuality s p (deliveredQuality s p false (if s.flag R.SYS_STATE_RELEASED then 0 else 3)) 0
  | none =>
    let n := (s.pointSt p.word p.num).missed + 1
    let fb := decide (s.get (R.CYC_XPOL_HOLD c) < n) || !s.flag R.SYS_STATE_RELEASED
    outQuality s p (deliveredQuality s p fb (if fb then 3 else 2)) (min n 16)

/-- The outputs of remote units whose return has not arrived are missed scatters (R150, R274): STALE, and BAD once more than
HOLD cycles in a row have missed it. -/
def remoteMissed (s : State) (c : Nat) : State :=
  State.forEach (remoteUnits s c) (fun u s =>
    let was := (s.spine.missed.find? fun x => x.1 == u.id).elim 0 (·.2)
    let n := if s.spine.returned.contains u.id then 0 else min 16 (was + 1)
    let q := if n = 0 then 0 else if s.get (R.CYC_XPOL_HOLD c) < n then 3 else 2
    let s := { s with
      spine := { s.spine with missed := (u.id, n) :: s.spine.missed.filter fun (x : Nat × Nat) => x.1 != u.id } }
    State.forEach u.outPoints (fun p s => s.putQual p.1 true p.2 q) s) s

/-- Every class that still latches has completed a qualifying cycle (R24, R25). -/
def allReady (s : State) : Bool :=
  (configuredClasses s).all fun c => s.getBit R.CYC_STAT_READY c || s.getBit R.CYC_STAT_HALTED c

/-- First-cycle release at a COMMIT instant (R24 to R28): standalone on its own; a spine system at the instant that its
manager broadcast, to which a worker reports once; a worker that starts later on its own once the manager has admitted it; a
standby follows its primary. -/
def releaseCheck (s : State) (t : Nat) : State :=
  if s.flag R.SYS_STATE_RELEASED ∨ s.dev ≠ .run then s
  else if s.standalone || s.spine.releaseOwn && s.flag R.SPN_STAT_ADMITTED then (if allReady s then releaseOutputs s else s)
  else
    match s.spine.releaseAt with
    | some r => if r ≤ t then releaseOutputs s else s
    | none => s.when (allReady s && s.isWorker && !s.spine.releaseOwn) fun s => spineSend s 2 8 s.now [BitVec.ofNat 36 0x800000000]

/-- A step of time that waits for a cycle boundary takes effect in its gap (R327, R119). -/
def boundaryStep (s : State) : State :=
  if s.spine.stepDue = 0 || s.cycling && !inGap s then s
  else
    let before := s.now
    let due := s.spine.stepDue
    let s := { s with
      spine := { s.spine with stepDue := 0 } }
    let s := State.forEach [0, 1] (fun d s =>
      if s.get (R.NTM_DCFG_MODE d) = 0 then s else (applyTimeChange s (.step d due)).1) s
    s.when s.cycling fun s => timeStepSkip s before

/-- After a cycle has ended: a STOP under way or due (R33, R139), a step of time (R327), and the withdrawal of a standby
for its own fault (R369). -/
def cycleAfter (s : State) (c : Nat) : State :=
  if s.dev == .standby && (s.cls c).faulted then
    let skipped := s.spine.decisions.any fun d => d.1 == c && d.2 == 1
    let s := s.setCls c { s.cls c with faulted := false }
    if skipped then s else twinWithdraw s 7 false
  else if s.cycle.stopping && cyclesDone s && s.cycling then enterStop s
  else boundaryStep (boundaryStop s)

/-- A COMMIT (R124, R130, R132, R356, R109): the output image is applied, and the class is idle until its next LATCH. Grid
instants that a stretched COMMIT has passed are skipped. -/
def commitNow (s : State) (c : Nat) : State :=
  let k := s.cls c
  let t := commitAt s c
  let clean := !k.overran && k.stretchN == 0
  let s := (s.add (R.CYC_CNT_COUNT c) 1).set (R.CYC_CONS_CONS c) 0
  let s := s.when clean (·.putBit R.CYC_STAT_READY c true)
  let s := releaseCheck s t
  let s := State.forEach (classPoints s c true) (fun p s => commitPoint s c p) s
  let s := remoteMissed s c
  let s := commitField s c
  let s := s.when (s.flag R.SYS_STATE_RELEASED) (drivePins · c)
  let s := mirrorCommit (commitCan s c) c t
  let s := queryTake s c
  let s := s.when (s.dev == .run && hasStandby s) fun s => twinSend s 35 c k.latchAt []
  let p := max 1 (classPeriod s c)
  let gone := if 0 < k.stretchN then t / p - (k.notBefore - 1) / p else 0
  let s := skipCount s c gone
  let s := { s with
    spine := { s.spine with scatters := s.spine.scatters.filter fun (x : Nat × Nat × List Word) => x.1 != c } }
  let k := s.cls c
  let s := s.setCls c { k with
    phase := .idle, notBefore := if 0 < k.stretchN then max k.notBefore (t + 1) else k.notBefore }
  cycleAfter s c

/-- A COMMIT that does not take place (R129, R324): the outputs hold, and the skip is counted. Work that still runs goes on
without outputs. -/
def commitSkipped (s : State) (c : Nat) : State :=
  let s := skipCount (outputsHold s c) c 1
  let k := s.cls c
  let s := s.setCls c { k with phase := if k.phase == .done then .idle else .late, checked := false }
  cycleAfter s c

/-- COMMIT (R122, R124, R129, R362): a cycle that may commit does, one that may not is skipped, and one whose COMMIT is
stretched waits. A manager's decision that has not arrived holds the class (R324). A departing primary commits nothing from
the takeover instant on. -/
def commit (s : State) (c : Nat) : State :=
  let k := s.cls c
  if !cycleOpen s ∨ 3 < s.power.pfStep ∨ k.phase == .idle ∨ !k.checked then s
  else if k.faulted ∨ s.getBit R.CYC_STAT_HALTED c then
    cycleAfter (s.setCls c { k with phase := if k.phase == .done then .idle else k.phase, checked := false }) c
  else if s.twin.yieldFrom.any fun y => decide (y ≤ commitAt s c) then
    commitSkipped { s with twin := { s.twin with departed := true } } c
  else if k.allowed then commitNow s c
  else if k.phase == .late ∨ k.voided then commitSkipped s c
  else if systemChecked s && !s.acting && !(s.spine.decisions.any fun d => d.1 == c) then
    commitSkipped (s.raise R.SPN_EVT_LATEDEC) c
  else if k.stretchN = 0 then commitSkipped s c
  else s

/-- OVERRUN_WORK_DONE (R129): the overrunning work has completed, and its output-image writes are discarded. -/
def overrunDone (s : State) (c : Nat) : State :=
  let k := s.cls c
  if !s.cycling ∨ k.phase ≠ .late ∨ !solveDone s c then s
  else boundaryStop (s.setCls c { k with phase := if k.checked then .done else .idle, voided := k.checked })

/-- STOP_BROADCAST (R140): issued by an acting manager that leaves RUN, or received by a worker in RUN. -/
def stopBroadcast (s : State) (head : Option FrameHead) : State :=
  match head with
  | none => if s.acting && s.dev == .run && s.cycle.stopping then spineSend s 8 8 s.now [] else s
  | some h =>
    let r := spineAccept s 8 h
    if r.2 && r.1.isWorker && r.1.dev == .run then boundaryStop (stopAtBoundary r.1) else r.1

/-- EVENT_TRIGGER (R133, R155): a trigger from the source that STRUCT gives the task, software apart. -/
def eventTrigger (s : State) (e : Nat) : State :=
  let src := s.get (R.CYC_ETCFG_SRC e)
  if src = 0 ∨ src = 6 then s else triggerEvent s e s.now

/-- SOFTWARE_TRIGGER (R155): a write to CYC_ETSW. -/
def softwareTrigger (s : State) (mask : Nat) : State :=
  State.forEach (List.range 32) (fun e s =>
    if mask.testBit e && s.get (R.CYC_ETCFG_SRC e) == 6 then triggerEvent s e s.now else s) s

/-- EVENT_BOUND_EXCEEDED (R136, R138): the event task on a core is ended as a task fault of its host class. -/
def boundExceeded (s : State) (c : Nat) : State :=
  let k := s.core c
  match k.task with
  | some t =>
    if t.event.isSome && coreRuns s c then
      let s := faultRecord s t.cls (faultWho t) 9 k.pc.toNat
      settleAll (faultAct (endTask s c) t.cls none true)
    else s
  | none => s

/-- RUN becomes HALT (R19, R151): the cores stop where they are; outputs hold or take fallback by HALTOUT. -/
def debugHalt (s : State) : State :=
  if s.dev ≠ .run ∨ 0 < s.power.pfStep then s
  else
    let hold := s.flag R.CYC_CFG_HALTOUT
    let released := s.flag R.SYS_STATE_RELEASED
    let s := (((canHold s).enter .halt).raise R.DBG_STAT_HALT).set R.SYS_STATE_RELEASED 0
    let s := { s with
      watchdog := { s.watchdog with haltAt := some (ladderGrain s) } }
    let s := { s with
      cycle := { s.cycle with heldRelease := released && hold } }
    if hold then s else State.forEach (configuredClasses s) (fun c s => classFallback s c) s

/-- A class after a debug resume (R152): cycles whose COMMIT passed during the halt are skipped, and it resumes at the first
grid LATCH after its interrupted work. -/
def resumeClass (s : State) (c : Nat) : State :=
  if !s.getBit R.CYC_STAT_ACTIVE c then s
  else
    let k := s.cls c
    let p := max 1 (classPeriod s c)
    let o := classOffset s c
    let missed := if o ≤ s.now then (s.now - o) / p + 1 - ceilDiv (latchFrom s c) p else 0
    let cut := k.phase != .idle && k.phase != .late && decide (commitAt s c ≤ s.now)
    let s := skipCount s c (missed + bitNat cut)
    let s := s.when cut (outputsHold · c)
    s.setCls c { k with
      notBefore := max k.notBefore (s.now + 1)
      phase := if cut then (if k.phase == .done then .idle else .late) else k.phase
      checked := k.checked && !cut }

/-- HALT becomes RUN (R19, R152, R487): waits that ended meanwhile let their tasks go on. -/
def debugResume (s : State) : State :=
  if s.dev ≠ .halt ∨ 0 < s.power.pfStep then s
  else
    let s := (s.enter .run).set R.DBG_STAT_HALT 0
    let gone := (s.watchdog.haltAt.map fun h => grainsSince s h).getD 0
    let s := { s with
      watchdog := { s.watchdog with haltAt := none, shift := s.watchdog.shift + gone } }
    settleAll (State.forEach (configuredClasses s) (fun c s => resumeClass s c) s)

/-- LATCH (R118). -/
def execLatch (cls : Cls) (s : State) : Result := s.answer (latch s cls)

/-- GATHER_COMPLETE (R122). -/
def execGatherComplete (cls : Cls) (s : State) : Result := s.answer (gatherComplete s cls)

/-- GATHER_DEADLINE (R128). -/
def execGatherDeadline (cls : Cls) (s : State) : Result := s.answer (gatherDeadline s cls)

/-- SOLVE_COMPLETE (R122). -/
def execSolveComplete (cls : Cls) (s : State) : Result := s.answer (solveComplete s cls)

/-- SCATTER_COMPLETE (R122). -/
def execScatterComplete (cls : Cls) (s : State) : Result := s.answer (scatterComplete s cls)

/-- COMMIT_CHECK (R128). -/
def execCommitCheck (cls : Cls) (s : State) : Result := s.answer (commitCheck s cls)

/-- STRETCH_CHECK (R130). -/
def execStretchCheck (cls : Cls) (s : State) : Result := s.answer (stretchCheck s cls)

/-- OVERRUN_WORK_DONE (R129). -/
def execOverrunWorkDone (cls : Cls) (s : State) : Result := s.answer (overrunDone s cls)

/-- COMMIT (R124). -/
def execCommit (cls : Cls) (s : State) : Result := s.answer (commit s cls)

/-- COMMIT_DECISION (R131): issued here (none), or received with its decision. -/
def execCommitDecision (cls : Cls) (msg : Option (FrameHead × Fin 3)) (s : State) : Result :=
  s.answer (if s.powered then commitDecision s cls msg else s)

/-- STOP_BROADCAST (R140): issued here (none), or received. -/
def execStopBroadcast (head : Option FrameHead) (s : State) : Result :=
  s.answer (if s.powered then stopBroadcast s head else s)

/-- EVENT_TRIGGER (R133). -/
def execEventTrigger (event : Fin 32) (s : State) : Result := s.answer (eventTrigger s event)

/-- SOFTWARE_TRIGGER (R155): bits 31:0 as written to CYC_ETSW. -/
def execSoftwareTrigger (mask : BitVec 32) (s : State) : Result := s.answer (softwareTrigger s mask.toNat)

/-- EVENT_BOUND_EXCEEDED (R136). -/
def execEventBoundExceeded (core : Fin 8) (s : State) : Result := s.answer (boundExceeded s core)

/-- DEBUG_HALT (R19): a connected debugger asks for it (R570). -/
def execDebugHalt (s : State) : Result := s.answer (if s.flag R.DBG_STAT_CONN then debugHalt s else s)

/-- DEBUG_RESUME (R152): a connected debugger asks for it (R570). -/
def execDebugResume (s : State) : Result := s.answer (if s.flag R.DBG_STAT_CONN then debugResume s else s)

end Sys2Proof.Machine
end

