-- ==== Sys2Proof/Machine/Watchdog.lean ====
section
/-!
DEFINITION. Sys2Proof/Machine/Watchdog.lean: the windowed watchdog (R478 to R487): services, check-ins, the end of a window
and the escalation ladder; the rows WATCHDOG_SERVICE, WATCHDOG_CHECKIN and WINDOW_CLOSE.
-/
namespace Sys2Proof.Machine

/-- The grain in which an access is counted: the window stands still in HALT (R487). -/
def watchdogGrain (s : State) : Nat := s.watchdog.haltAt.getD (ladderGrain s)

/-- The watchdog judges: armed, not frozen by a power fail (R66) nor held by a deferral (R487). -/
def watchdogLive (s : State) : Bool :=
  s.flag R.WDG_STAT_ARMED && s.power.pfStep == 0 && (s.cycling || s.dev == .halt)

/-- The grains that a window has run, those spent in HALT apart (R487). -/
def windowAge (s : State) : Nat := grainsBetween (s.get R.WDG_WSTART_GRAIN) (watchdogGrain s) - s.watchdog.shift

/-- OPEN and CLOSE as grains from the start of the window; a first window has no OPEN (R478, R479). -/
def windowOpen (s : State) : Nat := if s.flag R.WDG_STAT_FIRST then 0 else s.get R.WDG_WIN_OPEN
def windowClose (s : State) : Nat :=
  if s.flag R.WDG_STAT_FIRST then s.get R.WDG_FIRST_LEN else s.get R.WDG_WIN_CLOSE

/-- The slots that a window needs (R480): those enabled. -/
def slotsNeeded (s : State) : List Nat := (List.range 16).filter fun k => s.flag (R.WDG_SLOT_EN k)

/-- Every enabled slot has checked in. -/
def slotsDone (s : State) : Bool := (slotsNeeded s).all fun k => s.getBit R.WDG_STAT_CHECKED k

/-- A service becomes effective (R480, R484): the next window begins, and 64 good windows in a row clear every C_c. -/
def serviceEffective (s : State) : State :=
  let n := s.watchdog.goodWindows + 1
  let s := { s with
    watchdog := { s.watchdog with
      goodWindows := if 64 ≤ n then 0 else n
      counts := if 64 ≤ n then Vector.replicate 8 0 else s.watchdog.counts } }
  windowBegin s false

/-- The ladder's count at a failure (R485). -/
def ladderUpdate (s : State) : State :=
  let t := ladderGrain s
  let k := s.get R.WDG_LADDER_K
  let span := s.get R.WDG_CFG_SPAN * 60 * 32768
  if k = 0 ∨ span ≤ grainsSince s (s.get R.WDG_LT1_GRAIN) then (s.set R.WDG_LT1_GRAIN t).set R.WDG_LADDER_K 1
  else s.set R.WDG_LADDER_K (min 15 (k + 1))

/-- Rung 1 (R484, R129): the class's tasks are abandoned, and its cycle in progress commits nothing. SYS_STATE.MODE keeps the
mode of the last start: the manual does not say that a restart of one class shows there (log 144). -/
def restartClass (s : State) (c : Nat) : State :=
  let s := abandonClass s c
  let s := { s with
    fabric := { s.fabric with
      quires := s.fabric.quires.map fun (q : QuireSt) =>
        { q with waiting := q.waiting.filter fun (p : Pass) => p.cls != c } } }
  let k := s.cls c
  let phase := match k.phase with
    | .idle => Phase.idle
    | .late => if k.checked then .done else .idle
    | _ => .done
  let s := s.setCls c { k with
    phase := phase, voided := phase == .done, allowed := false, passesLeft := [], busUnit := none }
  let s := { s with
    watchdog := { s.watchdog with counts := s.watchdog.counts.setIfInBounds c (s.watchdog.counts.toList.getD c 0 + 1) } }
  let s := (s.addSat R.WDG_RUNG1_COUNT 1).raise R.WDG_EVT_RUNG1
  settleAll (s.when (s.dev == .run && phase == .done) (trackSend · [.decision c 1]))

/-- A failure (R483, R484): cause as WDG_STAT.CAUSE, slot, and the class where it is that of a slot. Its event bit is set
always; the ladder takes it outside a deferral, and one in a grain (R483; log 109). In HALT the third rung sets the latch and
leaves the state, which R19 lets it leave from RUN and STANDBY alone (log 143). -/
def watchdogFail (s : State) (cause slot : Nat) (cls : Option Nat) : State :=
  let s := s.putBit ⟨R.WDG_EVT_EARLY.addr, 0, 5⟩ (cause - 1) true
  let s := { s with
    watchdog := { s.watchdog with goodWindows := 0 }
    upd := { s.upd with spoiled := true } }
  if s.flag R.SYS_STATE_DEFER || s.watchdog.failedAt == some (ladderGrain s) then s
  else
    let s := { s with watchdog := { s.watchdog with failedAt := some (ladderGrain s) } }
    let c := cls.getD 0
    let first := cls.isSome && 3 ≤ cause && decide (s.watchdog.counts.toList.getD c 0 < s.get R.WDG_CFG_R1MAX)
    let s := if first then s else ladderUpdate s
    let k := s.get R.WDG_LADDER_K
    let rung := if first then 1 else if k ≤ s.get R.WDG_CFG_NRES then 2 else 3
    let s := ((s.set R.WDG_STAT_CAUSE cause).set R.WDG_STAT_SLOT slot).set R.WDG_STAT_CLASS c
    let s := s.set R.WDG_STAT_RUNG rung
    let s := s.journal 13 21 (bitsOf (s.reg R.WDG_STAT_RUNG.addr) 8 12) k
    let s := windowBegin s true
    if rung = 1 then restartClass s c
    else if rung = 2 then warmReset (s.addSat R.WDG_RESETS_COUNT 1) R.RST_CAUSE_WDG
    else
      let s := (s.raise R.WDG_LADDER_SAFE).addSat R.WDG_RUNG3_COUNT 1
      if s.cycling then enterSafe s else s

/-- WINDOW_CLOSE (R479, R481): grain CLOSE begins without an effective service. In a deferral the window is not judged, and
in HALT it stands still (R487). -/
def windowEnd (s : State) : State :=
  if !watchdogLive s ∨ s.flag R.SYS_STATE_DEFER ∨ s.dev == .halt then s
  else if s.flag R.WDG_STAT_HELD then
    match (slotsNeeded s).find? fun k => !s.getBit R.WDG_STAT_CHECKED k with
    | some k => watchdogFail s 4 k (some (s.get (R.WDG_SLOT_CLASS k)))
    | none => watchdogFail s 2 0 none
  else watchdogFail s 2 0 none

/-- An access that arrives at or after CLOSE finds the window ended (R479). -/
def windowExpire (s : State) : State := if windowClose s ≤ windowAge s then windowEnd s else s

/-- WATCHDOG_SERVICE (R479, R480): a write to WDG_SVC by a word core or the host. -/
def watchdogService (s : State) (master token : Nat) : State :=
  let s := windowExpire s
  if 8 < master then s.rsvd master R.WDG_SVC_TOKEN.addr
  else if !watchdogLive s then s
  else if token ≠ s.watchdog.token then watchdogFail s 5 0 none
  else if windowAge s < windowOpen s then watchdogFail s 1 0 none
  else if slotsDone s then serviceEffective s
  else s.raise R.WDG_STAT_HELD

/-- The slot's task runs on the core that writes (R481). -/
def slotRuns (s : State) (slot master : Nat) : Bool :=
  decide (master < 8) && match (s.core master).task with
  | some t => t.id == s.get (R.WDG_SLOT_TASK slot) && t.event.isSome == s.flag (R.WDG_SLOT_EVT slot)
  | none => false

/-- WATCHDOG_CHECKIN (R480, R481): a write to WDG_CHK. A disabled slot has no class, so its TOKEN is a failure of the device
(log 27). -/
def watchdogCheckin (s : State) (master slot token : Nat) : State :=
  let s := windowExpire s
  if !watchdogLive s then s
  else if !s.flag (R.WDG_SLOT_EN slot) then watchdogFail s 5 slot none
  else
    let cls := s.get (R.WDG_SLOT_CLASS slot)
    if token ≠ s.watchdog.slotTokens.toList.getD slot 0 ∨ !slotRuns s slot master then watchdogFail s 5 slot (some cls)
    else if s.getBit R.WDG_STAT_CHECKED slot then watchdogFail s 3 slot (some cls)
    else
      let s := s.putBit R.WDG_STAT_CHECKED slot true
      if s.flag R.WDG_STAT_HELD && slotsDone s then serviceEffective s else s

/-- WATCHDOG_SERVICE (R479). -/
def execWatchdogService (master : Fin 18) (token : BitVec 12) (s : State) : Result :=
  s.serve master fun s => watchdogService s master token.toNat

/-- WATCHDOG_CHECKIN (R481). -/
def execWatchdogCheckin (master : Fin 18) (slot : Fin 16) (token : BitVec 12) (s : State) : Result :=
  s.serve master fun s => watchdogCheckin s master slot token.toNat

/-- WINDOW_CLOSE (R479). -/
def execWindowClose (s : State) : Result := s.answer (windowEnd s)

end Sys2Proof.Machine
end

