-- ==== Sys2Proof/Machine/Spine.lean ====
section
/-!
DEFINITION. Sys2Proof/Machine/Spine.lean: the spine unit (R315 to R349): time distribution, discovery and admission,
gather, scatter, feed and return, broadcasts, remote accesses, lanes and loops, losses and isolation, snapshots; the rows
TICK_FRAME to RESET_INSTANT, and START_INSTANT.
-/
namespace Sys2Proof.Machine

/-- The time path of this node has a hop count (R338, R339). -/
def timePath (s : State) (hops : Nat) : State :=
  let changed := s.spine.tickAt.isSome && s.get R.SPN_HOPS_HOPS != hops % 64
  (s.set R.SPN_HOPS_HOPS hops).when changed (·.raise R.SPN_EVT_TPATH)

/-- The domains that TIME configures. -/
def configuredDomains (s : State) : List Nat := [0, 1].filter fun d => s.get (R.NTM_DCFG_MODE d) != 0

/-- TICK_FRAME (R337 to R340): the node tracks the acting manager's time. An offset within 4 ns + 1 ns × h counts towards
the lock; one above 1 µs is stepped, at once where no class cycles run and otherwise in the gap of a cycle boundary (R327);
a smaller one is slewed. Notices that the node does not yet hold are taken. -/
def tickFrame (s : State) (h : FrameHead) (m : TickMsg) : State :=
  let r := spineAccept s 1 h
  if !r.2 || s.acting then r.1
  else
    let s := timePath r.1 m.hops
    let good := if m.offset.natAbs ≤ 4 * (4 + m.hops) then s.spine.tickGood + 1 else 0
    let s := { s with
      spine := { s.spine with tickAt := some s.time.loc, tickGood := good } }
    let s := (s.set R.SPN_STAT_ISOL 0).set R.SPN_TERR_ERR (natOfInt 18 (saturate 18 m.offset))
    let s := s.setFlag R.SPN_STAT_SYNC (decide (64 ≤ good))
    let s := s.when (decide (64 ≤ good)) fun s => State.forEach (configuredDomains s) (fun d s => setDomainState s d 2) s
    let s := if 4000 < m.offset.natAbs then
        if s.cycling then
          { s with spine := { s.spine with stepDue := -(m.offset / 4) } }
        else
          let s := { s with
            time := { s.time with dom := ⟨#[m.dom0 % 2 ^ 72, m.dom1 % 2 ^ 72], rfl⟩ } }
          if s.time.active.isSome then
            { s with time := { s.time with active := some m.active } }.set R.NTM_STAT_ACT m.active
          else s
      else
        State.forEach (configuredDomains s) (fun d s =>
          { s with time := { s.time with domSlew := s.time.domSlew.setIfInBounds d (-m.offset * 250000) } }) s
    let s := State.forEach (m.notices.filter fun n => !s.time.notices.contains n) (fun n s => noticeAdd s n) s
    boundaryStep s

/-- The members of a loop in eastbound order from the acting manager, the other manager among them (R315). -/
def loopMembers (s : State) (loopB : Bool) : List Nat :=
  match s.content with
  | none => []
  | some c =>
    let workers := (List.range 128).filter fun a =>
      decide (2 ≤ a % 64) && (decide (64 ≤ a) == loopB) && c.nodes.any fun n => n.addr == a
    match c.partner with
    | none => workers
    | some p => if s.spine.addr = 1 then p.addr :: workers else workers ++ [p.addr]

/-- A node that has been lost. -/
def nodeLost (s : State) (a : Nat) : Bool := (s.node a).elim false (·.lost)

/-- Whether a node's east or west lane on a loop is up, as its last STATUS reports (R322). -/
def nodeLane (s : State) (loopB : Bool) (a : Nat) (west : Bool) : Bool :=
  let i := bitNat west + (if a < 2 ∧ loopB then 2 else 0)
  match (s.node a).bind (·.status) with
  | some m => m.lanes.testBit i
  | none => true

/-- The breaks of a loop (R322): each lost node, and each link that is down beside nodes that are not lost. -/
def loopBreaks (s : State) (loopB : Bool) : Nat :=
  let ms := loopMembers s loopB
  let own (west : Bool) : Bool := laneUp s (bitNat west + (if loopB then 2 else 0))
  let left : List (Bool × Bool) := (false, own false) :: ms.map fun a => (nodeLost s a, nodeLane s loopB a false)
  let right : List (Bool × Bool) := (ms.map fun a => (nodeLost s a, nodeLane s loopB a true)) ++ [(false, own true)]
  let cuts := (left.zip right).countP fun p => !p.1.1 && !p.2.1 && !(p.1.2 && p.2.2)
  cuts + ms.countP (nodeLost s)

/-- LOOP_STATE_CHANGE (R322): the acting manager records the state of its loops. -/
def loopStates (s : State) : State :=
  if !s.acting then s
  else
    State.forEach [false, true] (fun b s =>
      let f := if b then R.SPN_STAT_LOOPB else R.SPN_STAT_LOOPA
      let old := s.get f
      let new := 1 + min 2 (loopBreaks s b)
      if old = 0 then s else (s.set f new).when (decide (old < new)) (·.raise R.SPN_EVT_BREAK)) s

/-- A hosting node that has left RUN or is lost: a loss where units of this manager are left without a device that runs them
(R267, R325). -/
def hostLoss (s : State) (a : Nat) : State :=
  match s.content with
  | none => s
  | some c => lossTrigger s fun e =>
      e.kind == 1 && e.remote && e.addr == a / 2 * 2 && (hostMembers s c e.addr).isEmpty

/-- The units of this manager that a worker's report of its works counts (R273, R275): those placed there, and those of a
change that has waited for a boundary since it was prepared. -/
def worksCounted (s : State) (a : Nat) : State :=
  let here := s.imposer.sheet.filterMap fun e =>
    if e.kind == 1 && e.remote && e.addr == a / 2 * 2 then some (a, e.place, e.id) else none
  let due := (s.imposer.prepared.elim [] fun pr => if pr.failed = 0 then [] else pr.moves).filterMap fun m =>
    (s.imposer.sheet[m.1]?).bind fun e =>
      if e.kind == 1 && m.2.1 % 32 != 0 && 64 * (m.2.1 / 32 % 2) + 2 * (m.2.1 % 32) == a / 2 * 2 then
        some (a, m.2.2, e.id) else none
  let rest := s.imposer.counted.filter fun (x : Nat × Nat × Nat) => x.1 != a
  { s with imposer := { s.imposer with counted := here ++ due.filter (fun x => !here.contains x) ++ rest } }

/-- The commit-check reports of a node (R131). -/
def checkReports (s : State) (a : Nat) (m : StatusMsg) : State :=
  let new := ((List.range 8).filter fun c => m.checked.testBit c).map (·, a)
  { s with
    cycle := { s.cycle with
      peerOverrun := s.cycle.peerOverrun ||| m.overrun % 256
      peerChecked := new.filter (fun (x : Nat × Nat) => !s.cycle.peerChecked.contains x) ++ s.cycle.peerChecked } }

/-- An OLC FORWARD ends as its worker's STATUS tells (R282): READY, or refused with the worker's cause. -/
def forwardStatus (s : State) (a : Nat) (m : StatusMsg) : State :=
  if s.olc.forward ≠ some a then s
  else
    let ended (s : State) (st : Nat) : State :=
      { s with olc := { s.olc with forward := none } }.olcEnd st
    if m.olcState = 2 then ended s 2
    else if m.olcCause ≠ 0 then ended (s.set R.OLC_STAT_CAUSE m.olcCause) 6
    else if m.state ≠ 3 ∧ m.state ≠ 4 ∧ m.state ≠ 6 then ended (s.set R.OLC_STAT_CAUSE 24) 6
    else s

/-- STATUS_FRAME (R319, R322, R131, R26, R94): every device notes who reaches it (R360); the acting manager records the
node, its commit-check report and its lanes. -/
def statusFrame (s : State) (h : FrameHead) (m : StatusMsg) : State :=
  let r := spineAccept s 2 h
  if !r.2 then r.1
  else
    let s := r.1
    let a := h.src % 128
    let loc := s.time.loc
    let s := if s.partner.any (·.addr == a) then
        { s with spine := { s.spine with heardPartner := some loc } }
      else { s with spine := { s.spine with heardOther := some loc } }
    let n := (s.node a).getD ⟨a, none, none, false, false⟩
    let left := n.status.any (·.state == 4) && m.state != 4
    let s := s.setNode { n with status := some m, lost := false }
    if !s.acting then s
    else
      let s := worksCounted (checkReports (s.set (R.SPN_NODE_STATE a) m.state) a m) a
      let s := s.when left (hostLoss · a)
      loopStates (forwardStatus (deliveryStatus s a m) a m)

/-- The record that this node appends to a DISCOVER frame (R342). -/
def ownRecord (s : State) (h : FrameHead) : List Word :=
  let serial := [s.reg R.COL_SER0_SERIAL.addr, s.reg R.COL_SER1_SERIAL.addr]
  let reversed := !h.west && h.lane % 2 == 0
  serial ++ [s.reg R.COL_TYPE_TYPE.addr, BitVec.ofNat 36 s.dev.code, BitVec.ofNat 36 (s.get R.STN_SYS_SYSID),
    BitVec.ofNat 36 (bitNat s.content.isSome * 2 + bitNat reversed)] ++ s.content.elim [] (·.runDigest)

/-- DISCOVER_FRAME (R342): the acting manager takes the records of a frame that has come round; any other node appends its
record, and one that an eastbound frame enters on an east lane reports its cabling reversed. -/
def discoverFrame (s : State) (h : FrameHead) (records : List NodeRecord) : State :=
  let r := spineAccept s 3 h
  if !r.2 then r.1
  else
    let s := r.1
    if s.acting then
      if !s.spine.discovering then s
      else
        let new := records.filter fun (x : NodeRecord) => !s.spine.records.any fun (y : NodeRecord) => y.addr == x.addr
        { s with spine := { s.spine with records := s.spine.records ++ new } }
    else
      let s := s.when (!h.west && h.lane % 2 == 0) (·.raise R.SPN_EVT_CABLE)
      spineSend s 3 8 s.now (ownRecord s h)

/-- The cause for which a discovered node is not admitted (R343), 0 where it passes; a node without a folio has its checks
still ahead. -/
def recordCause (s : State) (c : FolioContent) (x : NodeRecord) : Nat :=
  match c.nodes.find? (·.addr == x.addr) with
  | none => 3
  | some e =>
    if x.reversed then 4
    else if e.serial.any (· != x.serial) then 3
    else if !x.folio then 0
    else if x.sysId ≠ s.get R.STN_SYS_SYSID then 1
    else if x.runDigest ≠ e.runDigest then 2
    else 0

/-- DISCOVERY_END (R342, R343): the node table takes what discovery found, and the checks are made. -/
def discoveryEnd (s : State) : State :=
  match s.content with
  | none => s
  | some c =>
    if !s.acting || !s.spine.discovering then s
    else
      let recs := s.spine.records
      let s := { s with
        spine := { s.spine with discovering := false } }
      let s := State.forEach (List.range 128) (fun a s =>
        let e := c.nodes.find? (·.addr == a)
        let s := (s.setFlag (R.SPN_NODE_EXPECTED a) e.isSome).setFlag (R.SPN_NODE_REQUIRED a) (e.any (·.required))
        s.setFlag (R.SPN_NODE_PRESENT a) (recs.any (·.addr == a))) s
      let s := State.forEach recs (fun x s =>
        let cause := recordCause s c x
        let s := ((s.set (R.SPN_NODE_STATE x.addr) x.state).set (R.SPN_NODE_INDEX x.addr) x.index).set
          (R.SPN_NODE_HOPS x.addr) x.hops
        let s := s.set (R.SPN_NODE1_CAUSE x.addr) cause
        let s := (s.when (cause != 0) (·.raise R.SPN_EVT_UNKNOWN)).when x.reversed (·.raise R.SPN_EVT_CABLE)
        let n := (s.node x.addr).getD ⟨x.addr, none, none, false, false⟩
        s.setNode { n with record := some x, passed := cause == 0 && x.folio }) s
      let count (b : Bool) : Nat := recs.countP fun x => decide (x.addr < 2) || decide (64 ≤ x.addr) == b
      let s := if s.get R.SPN_STAT_LOOPA = 0 then s else s.set R.SPN_STAT_NA (count false)
      if s.get R.SPN_STAT_LOOPB = 0 then s else s.set R.SPN_STAT_NB (count true)

/-- DISCOVERY_REPEAT (R342). -/
def discoveryRepeat (s : State) : State := if s.acting then discoverBegin s else s

/-- The runs of a GATHER payload written into the global image in SPINE order (R329, R330). -/
def gatherRuns : List Run → List Word → State → State
  | [], _, s => s
  | r :: rs, ws, s =>
    let n := runLength r.word r.count
    let s := State.forEach (List.range r.count) (fun i s =>
      latchPoint s r.word true (r.glob + i) (runValue r.word ws i) (runQual (ws.drop n) i) ⟨0, none⟩) s
    gatherRuns rs (ws.drop (n + ceilDiv r.count 16)) s

/-- GATHER_FRAME (R330): taken while its class gathers, by the LATCH instant in TREF. A primary passes the points on to its
standby (R356). -/
def gatherFrame (s : State) (h : FrameHead) (payload : List Word) : State :=
  let r := spineAccept s 4 h
  let s := r.1
  let c := h.cls % 8
  let k := s.cls c
  if !r.2 || !s.cycling || s.isWorker || s.dev == .standby || k.phase != .gather ||
      h.tref % 2 ^ 36 != k.latchAt % 2 ^ 36 then s
  else
    let rs := (classRuns s c false).filter fun x => x.node / 2 == h.src / 2
    let s := gatherRuns rs payload s
    let s := { s with
      spine := { s.spine with gathered := (rs.map fun x : Run => (c, x.node)) ++ s.spine.gathered } }
    s.when (s.dev == .run && hasStandby s) fun s => twinSend s 34 c k.latchAt payload

/-- SCATTER_FRAME (R331): the payload is kept for the COMMIT that its TREF names. -/
def scatterFrame (s : State) (h : FrameHead) (payload : List Word) : State :=
  let r := spineAccept s 5 h
  let s := r.1
  let c := h.cls % 8
  if !r.2 || s.acting then s
  else
    let old := s.spine.scatters.filter fun (x : Nat × Nat × List Word) => !(x.1 == c && x.2.1 == h.tref % 2 ^ 36)
    { s with spine := { s.spine with scatters := (c, h.tref % 2 ^ 36, payload) :: old } }

/-- FEED_FRAME (R274): the inputs of a unit that a manager placed here enter the view of its class, and its task becomes
ready. -/
def feedFrame (s : State) (h : FrameHead) (unit : Nat) (points : List PointValue) : State :=
  let r := spineAccept s 6 h
  let s := r.1
  if !r.2 || !s.cycling then s
  else
    match s.imposer.foreignUnits.find? (·.id == unit) with
    | none => s
    | some u =>
      let k := s.cls u.cls
      let view := points.foldl (fun m (p : PointValue) =>
        let m := putPointIn m p.word true p.num p.value
        let a := qualAddr p.word true p.num
        m.wr a (withBits (m.rd a) (2 * (p.num % 16)) 2 p.qual)) k.view
      settleAll (taskReady (s.setCls u.cls { k with view := view }) ⟨u.id, u.cls, none, true⟩)

/-- RETURN_FRAME (R274, R276): the outputs of a remote unit enter the view of its class until SOLVE has ended; the copies of
its data segments are kept where the segments lie. -/
def returnFrame (s : State) (h : FrameHead) (unit : Nat) (points : List PointValue) (data : List (Nat × List Word)) :
    State :=
  let r := spineAccept s 7 h
  let s := r.1
  match s.content, (remoteUnits s (h.cls % 8)).find? (·.id == unit) with
  | some c, some u =>
    if !r.2 || !s.cycling || s.isWorker then s
    else
      let s := State.forEach (data.filter fun d => u.segs.contains d.1) (fun d s =>
        s.storeList (segBase c s.imposer.sheet d.1) d.2) s
      let ph := (s.cls u.cls).phase
      if ph != .gather && ph != .solve then s
      else
        let s := State.forEach points (fun p s => viewWrite s u.cls .work p.word true p.num p.value) s
        { s with spine := { s.spine with returned := unit :: s.spine.returned } }
  | _, _ => s

/-- BARRIER_COMPLETION (R332): issued by the acting manager once every admitted node has reported, or received. -/
def barrierCompletion (s : State) (c : Nat) (head : Option FrameHead) : State :=
  let done (s : State) : State := { s with spine := { s.spine with barriers := s.spine.barriers + 1 } }
  match head with
  | none => if s.acting then done (spineSend s 8 c s.now []) else s
  | some h =>
    let r := spineAccept s 8 h
    if r.2 then done r.1 else r.1

/-- A node that may be admitted (R327, R343): it has passed its checks, holds time lock, and has a folio in force. -/
def nodeReady (s : State) (a : Nat) : Bool :=
  (s.node a).any fun n => n.passed && !n.lost &&
    n.status.any fun m => m.locked && (m.state == 4 || (m.state == 3 || m.state == 2) && m.folio)

/-- Every REQUIRED node may be admitted (R344). -/
def requiredReady (s : State) : Bool :=
  s.content.all fun c => c.nodes.all fun n => !n.required || nodeReady s n.addr

/-- START_BROADCAST (R344): issued by an acting manager that waits at step 11 or at START, or received by a worker: the
start instant and the mode. -/
def startBroadcast (s : State) (msg : Option (FrameHead × Nat × Bool)) : State :=
  match msg with
  | none =>
    match s.folio.waiting with
    | some mode =>
      if s.acting && s.spine.startAt.isNone && requiredReady s then
        let t := ceilDiv (s.now + 1000000) 31250 * 31250
        let s := { s with
          spine := { s.spine with startAt := some (t, mode) } }
        spineSend s 8 8 t [BitVec.ofNat 36 mode]
      else s
    | none => s
  | some (h, t, cold) =>
    let r := spineAccept s 8 h
    let s := r.1
    if !r.2 || s.acting || !s.isWorker then s
    else { s with spine := { s.spine with startAt := some (t, if cold then 1 else 2) } }

/-- A node admitted (R327): in the table of the acting manager, with its event. -/
def admitNode (s : State) (a : Nat) : State := (s.raise (R.SPN_NODE_ADMITTED a)).raise R.SPN_EVT_JOIN

/-- START_INSTANT (R344, R120, R22): the start that a broadcast has named, on the acting manager that issued it, and on a
worker that is no standby and waits in LOAD or in STOP with a folio in force. -/
def startInstant (s : State) : State :=
  match s.spine.startAt with
  | none => s
  | some (t, mode) =>
    let s := { s with
      spine := { s.spine with startAt := none } }
    if s.content.isNone || !s.primary || 0 < s.power.pfStep then s
    else if s.acting then
      if s.folio.waiting.isNone then s
      else
        let byCommand := s.dev == .stop
        let s := startRun s mode .run t
        let s := s.when (byCommand && s.get R.SYS_CMD_STATUS == 1) (sysEnd · 2)
        State.forEach ((List.range 128).filter (nodeReady s)) (fun a s => admitNode s a) s
    else if s.dev == .stop || s.dev == .load && s.folio.loading.isNone then
      let s := { s with
        spine := { s.spine with releaseOwn := false, releaseAt := none } }
      (startRun s mode .run t).raise R.SPN_STAT_ADMITTED
    else s

/-- START_TIMEOUT (R344): a REQUIRED node is not admissible; the manager enters STOP with CAUSE TIMEOUT, or the START that
waits in STOP fails. -/
def startTimeout (s : State) : State :=
  if !s.acting || s.folio.waiting.isNone || s.spine.startAt.isSome || requiredReady s then s
  else
    let s := { s with
      folio := { s.folio with waiting := none } }
    let s := (s.set R.SPN_STAT_CAUSE 5).journal 15 12 0 0
    if s.dev == .load then s.enter .stop
    else s.when (s.get R.SYS_CMD_STATUS == 1) (sysEnd · 3)

/-- The next COMMIT instant of the slowest class at or after an instant (R26). -/
def slowestCommit (s : State) (t : Nat) : Nat :=
  let c := (configuredClasses s).foldl (fun b c => if classPeriod s b < classPeriod s c then c else b)
    ((configuredClasses s).headD 0)
  let p := max 1 (classPeriod s c)
  let o := classOffset s c
  ceilDiv (t - o) p * p + o

/-- A worker whose ready report the release waits for has reported (R26): one that the manager has admitted, or that its folio
marks REQUIRED. A missing OPTIONAL worker releases on its own once it is admitted (R27; log 146). -/
def releaseReady (s : State) (a : Nat) : Bool :=
  a % 64 < 2 || !(s.flag (R.SPN_NODE_ADMITTED a) || s.flag (R.SPN_NODE_REQUIRED a)) ||
    (s.node a).any fun n => n.status.any fun m => m.ready || m.state == 5

/-- RELEASE_BROADCAST (R26): issued by the acting manager once it and every worker that it expects meet R24, or received. -/
def releaseBroadcast (s : State) (msg : Option (FrameHead × Nat)) : State :=
  match msg with
  | none =>
    if s.acting && s.dev == .run && s.spine.releaseAt.isNone && allReady s && (List.range 128).all (releaseReady s) then
      let t := slowestCommit s (s.now + broadcastTime s)
      let s := { s with
        spine := { s.spine with releaseAt := some t } }
      spineSend s 8 8 t []
    else s
  | some (h, t) =>
    let r := spineAccept s 8 h
    if r.2 && !s.acting then { r.1 with spine := { r.1.spine with releaseAt := some t } } else r.1

/-- BULK_FRAME (R319, R83, R282, R301, R276): a piece of a folio begins or continues a load in STOP; a tip-in is staged by
the worker that it was forwarded to, and by a standby whose primary sends it; a unit waits for its boundary. An update image goes
through DISTRIBUTE_CHUNK. -/
def bulkFrame (s : State) (h : FrameHead) (m : BulkMsg) : State :=
  let r := if s.dev == .standby then twinAccept s 38 h else spineAccept s 9 h
  let s := r.1
  if !r.2 then s
  else
    match m with
    | .folio _ _ =>
      if s.dev == .stop && s.folio.loading.isNone && s.power.pfStep == 0 && !s.acting then
        loadBegin s ⟨3, false, none, false⟩
      else s
    | .tipin img => if (olcStates s || s.dev == .standby) && olcState s == 0 then olcStageTip s img else s
    | .code u core data =>
      if s.isWorker && s.content.isSome then
        { s with imposer := { s.imposer with arrivals := s.imposer.arrivals ++ [(u, core % 8, data)] } }
      else s
    | .image _ => s

/-- The windows of R146 that hold local points. -/
def localImage (a : Nat) : Bool :=
  decide (0x600000 ≤ a) && decide (a < 0x601800) || decide (0x608000 ≤ a) && decide (a < 0x610800)

/-- The remote accesses that a target performs (R341). -/
def remoteAdmits (s : State) (a : Nat) (store : Bool) : Bool :=
  regionOf a == .sram || inRetain a && !(store && retainProtected s a) || localImage a && !store

/-- A core that waits for a remote load is let go on: its instruction is issued again. -/
def remoteWake (s : State) (p : Nat) : State :=
  if 8 ≤ p then s
  else
    let k := s.core p
    match k.wait with
    | .remote ea =>
      if s.spine.answers.any fun x => x.1 == p && x.2.1 == ea then s.setCore p { k with wait := .none } else s
    | _ => s

/-- The end of a remote access (R341): an acknowledged store leaves the count of those pending; a store that failed is an
error of its core (R207); a load has its answer. -/
def remoteEnd (s : State) (q : RemoteReq) (value : Option Word) : State :=
  let s := { s with
    spine := { s.spine with requests := s.spine.requests.erase q } }
  let s := if q.store then
      let s := s.set (R.SPN_RSTAT_PEND q.master) (s.get (R.SPN_RSTAT_PEND q.master) - 1)
      if value.isNone && decide (q.master < 8) then storeError s q.master q.ea else s
    else { s with spine := { s.spine with answers := s.spine.answers ++ [(q.master, q.ea, value)] } }
  remoteWake s q.master

/-- REMOTE_FRAME (R341): a request of another device performed and answered, or an answer to a request of this one. -/
def remoteFrame (s : State) (h : FrameHead) (m : RemoteMsg) : State :=
  let r := spineAccept s 10 h
  let s := r.1
  if !r.2 then s
  else
    match m with
    | .read a =>
      if remoteAdmits s a false then
        let v := readMem s a 11
        spineSend v.2 10 8 s.now (v.1.elim [] fun w => [BitVec.ofNat 36 a, w])
      else spineSend s 10 8 s.now []
    | .write a w keep =>
      let (old, s) := if keep = 0 then (some 0, s) else readMem s a 11
      match (if remoteAdmits s a true then old else none) with
      | some old => spineSend (s.store a ((old &&& keep) ^^^ w)) 10 8 s.now [BitVec.ofNat 36 a]
      | none => spineSend s 10 8 s.now []
    | .answer p ea st v =>
      match s.spine.requests.find? fun q => q.master == p && q.ea == ea && q.store == st with
      | some q => remoteEnd s q v
      | none => s

/-- REMOTE_TIMEOUT (R341): the oldest access of a master has had no answer for RTIME. -/
def remoteTimeout (s : State) (p : Nat) : State :=
  match s.spine.requests.find? fun q => q.master == p with
  | some q => remoteEnd (s.raise R.SPN_EVT_RTO) q none
  | none => s

/-- FRAME_FORWARD (R320, R321): a passing frame leaves on the other lane of its loop with HOPS raised, or by the lane it
came on, DIR inverted, where that lane is down; the source removes its own. A node in boot forwards from step 4 on (R69). -/
def frameForward (s : State) (h : FrameHead) : State :=
  if s.dev == .boot && !s.power.refOk || h.src == s.spine.addr then s
  else
    let out := if h.lane % 2 = 0 then h.lane + 1 else h.lane - 1
    let f : FrameHead :=
      if laneUp s (out % 4) then { h with lane := out, hops := (h.hops + 1) % 64 }
      else { h with west := !h.west, hops := (h.hops + 1) % 64 }
    { s with spine := { s.spine with forwarded := some f } }

/-- A lane's state (R321, R351): 0 to 3 the spine lanes, which wrap while they are down, 4 and 5 the twin lanes. -/
def laneSet (s : State) (i : Nat) (up : Bool) : State :=
  if i < 4 then ((s.setFlag (R.SPN_LANE_LINK i) up).setFlag (R.SPN_LANE_ALIGN i) up).setFlag (R.SPN_LANE_WRAP i) (!up)
  else (s.putBit R.TWN_STAT_LANES (i - 4) up).when (!up) (·.raise R.TWN_EVT_LANE)

/-- LANE_DOWN and LANE_RESTORED (R321, R339, R322): the lane, the hop count of a changed time path, and the loops as the
acting manager finds them. -/
def laneChange (s : State) (i : Nat) (up : Bool) (path : Option Nat) : State :=
  let s := laneSet s i up
  let s := match path with
    | some hops => if s.acting || 4 ≤ i then s else timePath s hops
    | none => s
  if i < 4 then loopStates s else s

/-- NODE_LOST (R325): its absence and the loss are recorded; a hosting worker is a loss trigger (R267), and a folio delivery to
the node ends. -/
def nodeLoss (s : State) (a : Nat) : State :=
  if !s.acting || nodeLost s a || !s.flag (R.SPN_NODE_PRESENT a) then s
  else
    let n := (s.node a).getD ⟨a, none, none, false, false⟩
    let s := s.setNode { n with lost := true }
    let s := (s.set (R.SPN_NODE_PRESENT a) 0).set (R.SPN_NODE_ADMITTED a) 0
    let s := (s.add (R.SPN_NODE1_LOSSES a) 1).raise R.SPN_EVT_LOST
    loopStates (deliveryLost (hostLoss s a) a)

/-- WORKER_ISOLATED (R326, R88): the manager no longer includes it in the image (log 145); a spine load ends; its domains hold
over; from RUN it stops at the next cycle boundary under ISOPOL STOP. -/
def workerIsolated (s : State) : State :=
  if !s.isWorker || s.flag R.SPN_STAT_ISOL then s
  else
    let s := ((s.raise R.SPN_STAT_ISOL).raise R.SPN_EVT_ISOL).set R.SPN_STAT_SYNC 0
    let s := spineLoadLost (s.set R.SPN_STAT_ADMITTED 0)
    let s := { s with
      spine := { s.spine with tickGood := 0 } }
    let s := State.forEach (configuredDomains s) (fun d s => sourceLoss s d) s
    if s.dev == .run && !s.flag R.SPN_CFG_ISOPOL then boundaryStop (stopAtBoundary s) else s

/-- ISOLIM_EXPIRY (R326): an isolated worker under CONTINUE stops after ISOLIM ms. -/
def isolimExpiry (s : State) : State :=
  if s.flag R.SPN_STAT_ISOL && s.flag R.SPN_CFG_ISOPOL && s.get R.SPN_CFG_ISOLIM != 0 && s.dev == .run then
    boundaryStop (stopAtBoundary s)
  else s

/-- NODE_ADMISSION (R327, R27): issued by the acting manager in the gap of a cycle boundary for a node that may be admitted,
or received by the node, which starts in WARM mode from LOAD, or from STOP where JOIN is 1, and releases on its own. -/
def nodeAdmission (s : State) (a : Nat) (head : Option FrameHead) : State :=
  match head with
  | none =>
    if s.acting && (!s.cycling || inGap s) && nodeReady s a && !s.flag (R.SPN_NODE_ADMITTED a) then
      spineSend (admitNode s a) 8 8 s.now [BitVec.ofNat 36 a]
    else s
  | some h =>
    let r := spineAccept s 8 h
    let s := r.1
    if !r.2 || s.acting || s.content.isNone then s
    else
      let s := s.raise R.SPN_STAT_ADMITTED
      let waits := s.dev == .load && s.folio.loading.isNone || s.dev == .stop && s.flag R.SPN_CFG_JOIN
      if waits && s.primary && s.power.pfStep == 0 then
        startRun { s with spine := { s.spine with releaseOwn := true, releaseAt := none } } 2 .run s.now
      else s

/-- The words of a snapshot (R334): the local windows as they stand, with the quality of each output as its last COMMIT left
it, by offset from the segment. -/
def snapshotWords (s : State) : WMap :=
  let part (lo n off : Nat) : WMap :=
    (s.mem.filter fun p => decide (lo ≤ p.1) && decide (p.1 < lo + n)).map fun p => (p.1 - lo + off, p.2)
  let m := part 0x600000 2048 0 ++ part 0x600800 4096 2048 ++ part 0x608000 32768 6144 ++ part 0x610000 2048 38912
  (s.points.filter fun p => p.out && !p.global).foldl (fun m p =>
    let a := (if p.word then 38912 else 2048) + p.num / 16
    m.wr a (withBits (m.rd a) (2 * (p.num % 16)) 2 (s.pointSt p.word p.num).qual)) m

/-- SNAPSHOT (R334): on the grid of PERIOD, or at SPN_SNAPT while ARM is 1; one due before the previous copy is complete is
missed. -/
def snapshotTake (s : State) (grid : Bool) : State :=
  let due := if grid then s.get R.SPN_SNAPCTL_PERIOD != 0 else s.flag R.SPN_SNAPCTL_ARM
  if !due || s.content.all (·.snapshot.isNone) then s
  else if s.spine.snapshot.isSome then s.raise R.SPN_EVT_SNAPMISS
  else
    let s := { s with
      spine := { s.spine with snapshot := some (snapshotWords s) } }
    s.when (!grid) (·.set R.SPN_SNAPCTL_ARM 0)

/-- SNAPSHOT_DONE (R334): the copy stands in the snapshot segment, and SPN_SNAPSEQ rises. -/
def snapshotDone (s : State) : State :=
  match s.spine.snapshot with
  | none => s
  | some m =>
    let b := s.get R.SPN_SNAPBASE_ADDR
    let s := { s with
      spine := { s.spine with snapshot := none } }
    let s := { s with
      mem := m.foldl (fun acc (p : Nat × Word) => acc.wr (b + p.1) p.2) (s.mem.clear b (b + 40960))
      poison := s.poison.filter fun (a : Nat) => !(decide (b ≤ a) && decide (a < b + 40960)) }
    s.add R.SPN_SNAPSEQ_SEQ 1

/-- A code written to SPN_GOP (R335, R336, R612): by the host port or the house core alone, on the acting manager. -/
def spineCommand (s : State) (master code : Nat) (run : State → State) : State :=
  if master ≠ 8 ∧ master ≠ 9 then s.rsvd master R.SPN_GOP_CODE.addr
  else if s.get R.SPN_GOP_STATUS = 1 then s.rsvd master R.SPN_GOP_CODE.addr
  else
    let s := s.set R.SPN_GOP_CODE code
    if s.acting then run s else s.set R.SPN_GOP_STATUS 5

/-- BCAST (R336): issued by a master, or received by an admitted node. -/
def spineBcast (s : State) (master : Nat) (msg : Option (FrameHead × Vector Word 4)) : State :=
  match msg with
  | none => spineCommand s master 1 fun s =>
      spineSend (s.set R.SPN_GOP_STATUS 2) 8 8 s.now ((List.range 4).map fun i => s.reg (R.SPN_BTX_WORD i).addr)
  | some (h, ws) =>
    let r := spineAccept s 8 h
    if !r.2 || !r.1.flag R.SPN_STAT_ADMITTED then r.1
    else (State.forEach (List.range 4) (fun i s => s.setReg (R.SPN_BRX_WORD i).addr (ws.toList.getD i 0)) r.1).raise
      R.SPN_EVT_BRX

/-- SPINE_RESET_WARM and SPINE_RESET_COLD (R335): a reset broadcast issued by a master with SELF, ALL and TARGET as SPN_GOP
holds them, or received by a target with its instant. -/
def spineReset (s : State) (master : Nat) (cold : Bool) (msg : Option (FrameHead × Nat)) : State :=
  match msg with
  | none => spineCommand s master (if cold then 3 else 2) fun s =>
      let t := ceilDiv (s.now + broadcastTime s + 1000) 31250 * 31250
      let s := { s with
        spine := { s.spine with resetAt := some (t, cold) } }
      spineSend (s.set R.SPN_GOP_STATUS 1) 8 8 t [BitVec.ofNat 36 (bitNat cold)]
  | some (h, t) =>
    let r := spineAccept s 8 h
    if r.2 && !r.1.acting then { r.1 with spine := { r.1.spine with resetAt := some (t, cold) } } else r.1

/-- RESET_INSTANT (R335, R58): a target resets with cause SPINE; on the acting manager STATUS reads done, and SELF tells
whether it resets. -/
def resetInstant (s : State) : State :=
  match s.spine.resetAt with
  | none => s
  | some (_, cold) =>
    let s := { s with
      spine := { s.spine with resetAt := none } }
    let go := !s.acting || s.flag R.SPN_GOP_SELF
    let s := s.when (s.acting && s.get R.SPN_GOP_STATUS == 1) (·.set R.SPN_GOP_STATUS 2)
    if !go then s
    else if cold then coldReset s R.RST_CAUSE_SPINE
    else warmReset s R.RST_CAUSE_SPINE

/-- A row of the spine acts while the logic die is powered. -/
def whilePowered (s : State) (f : State → State) : Result := s.answer (if s.powered then f s else s)

/-- TICK_FRAME (R337). -/
def execTickFrame (head : FrameHead) (msg : TickMsg) (s : State) : Result := whilePowered s (tickFrame · head msg)

/-- STATUS_FRAME (R319). -/
def execStatusFrame (head : FrameHead) (msg : StatusMsg) (s : State) : Result := whilePowered s (statusFrame · head msg)

/-- DISCOVER_FRAME (R342). -/
def execDiscoverFrame (head : FrameHead) (records : List NodeRecord) (s : State) : Result :=
  whilePowered s (discoverFrame · head records)

/-- DISCOVERY_END (R343). -/
def execDiscoveryEnd (s : State) : Result := whilePowered s discoveryEnd

/-- DISCOVERY_REPEAT (R342). -/
def execDiscoveryRepeat (s : State) : Result := whilePowered s discoveryRepeat

/-- GATHER_FRAME (R330). -/
def execGatherFrame (head : FrameHead) (payload : List Word) (s : State) : Result :=
  whilePowered s (gatherFrame · head payload)

/-- SCATTER_FRAME (R331). -/
def execScatterFrame (head : FrameHead) (payload : List Word) (s : State) : Result :=
  whilePowered s (scatterFrame · head payload)

/-- FEED_FRAME (R274). -/
def execFeedFrame (head : FrameHead) (unit : Nat) (points : List PointValue) (s : State) : Result :=
  whilePowered s (feedFrame · head unit points)

/-- RETURN_FRAME (R274): the points that the unit wrote, and its data segments by number. -/
def execReturnFrame (head : FrameHead) (unit : Nat) (points : List PointValue) (data : List (Nat × List Word))
    (s : State) : Result := whilePowered s (returnFrame · head unit points data)

/-- BARRIER_COMPLETION (R332). -/
def execBarrierCompletion (cls : Cls) (head : Option FrameHead) (s : State) : Result :=
  whilePowered s (barrierCompletion · cls head)

/-- START_BROADCAST (R344). -/
def execStartBroadcast (msg : Option (FrameHead × Nat × Bool)) (s : State) : Result :=
  whilePowered s (startBroadcast · msg)

/-- START_INSTANT (R344). -/
def execStartInstant (s : State) : Result := whilePowered s startInstant

/-- START_TIMEOUT (R344). -/
def execStartTimeout (s : State) : Result := whilePowered s startTimeout

/-- RELEASE_BROADCAST (R26). -/
def execReleaseBroadcast (msg : Option (FrameHead × Nat)) (s : State) : Result :=
  whilePowered s (releaseBroadcast · msg)

/-- BULK_FRAME (R319). -/
def execBulkFrame (head : FrameHead) (msg : BulkMsg) (s : State) : Result := whilePowered s (bulkFrame · head msg)

/-- REMOTE_FRAME (R341). -/
def execRemoteFrame (head : FrameHead) (msg : RemoteMsg) (s : State) : Result :=
  whilePowered s (remoteFrame · head msg)

/-- REMOTE_TIMEOUT (R341): the master whose access it is. -/
def execRemoteTimeout (master : Fin 9) (s : State) : Result := whilePowered s (remoteTimeout · master)

/-- FRAME_FORWARD (R320). -/
def execFrameForward (head : FrameHead) (s : State) : Result := whilePowered s (frameForward · head)

/-- DELAY_EXCHANGE (R338): the delay measured on a lane, in 0.25 ns. -/
def execDelayExchange (lane : Fin 4) (delay : BitVec 16) (s : State) : Result :=
  whilePowered s (·.set (R.SPN_LDLY_DELAY lane) delay.toNat)

/-- LANE_DOWN (R321): lanes 4 and 5 are the twin lanes; `path` is the hop count of a time path that changes. -/
def execLaneDown (lane : Fin 6) (path : Option Nat) (s : State) : Result :=
  whilePowered s (laneChange · lane false path)

/-- LANE_RESTORED (R321). -/
def execLaneRestored (lane : Fin 6) (path : Option Nat) (s : State) : Result :=
  whilePowered s (laneChange · lane true path)

/-- NODE_LOST (R325). -/
def execNodeLost (node : Fin 128) (s : State) : Result := whilePowered s (nodeLoss · node)

/-- WORKER_ISOLATED (R326). -/
def execWorkerIsolated (s : State) : Result := whilePowered s workerIsolated

/-- ISOLIM_EXPIRY (R326). -/
def execIsolimExpiry (s : State) : Result := whilePowered s isolimExpiry

/-- NODE_ADMISSION (R327). -/
def execNodeAdmission (node : Fin 128) (head : Option FrameHead) (s : State) : Result :=
  whilePowered s (nodeAdmission · node head)

/-- SNAPSHOT (R334): `grid` tells an instant of PERIOD's grid from SPN_SNAPT. -/
def execSnapshot (grid : Bool) (s : State) : Result := whilePowered s (snapshotTake · grid)

/-- SNAPSHOT_DONE (R334). -/
def execSnapshotDone (s : State) : Result := whilePowered s snapshotDone

/-- A row that a master issues, or that a frame brings. -/
def spineServed (s : State) (master : Nat) (issued : Bool) (f : State → State) : Result :=
  if issued then s.serve master f else whilePowered s f

/-- BCAST (R336). -/
def execBcast (master : Fin 18) (msg : Option (FrameHead × Vector Word 4)) (s : State) : Result :=
  spineServed s master msg.isNone fun s => spineBcast s master msg

/-- RESET_WARM of SPN_GOP (R335). -/
def execSpineResetWarm (master : Fin 18) (msg : Option (FrameHead × Nat)) (s : State) : Result :=
  spineServed s master msg.isNone fun s => spineReset s master false msg

/-- RESET_COLD of SPN_GOP (R335). -/
def execSpineResetCold (master : Fin 18) (msg : Option (FrameHead × Nat)) (s : State) : Result :=
  spineServed s master msg.isNone fun s => spineReset s master true msg

/-- RESET_INSTANT (R335). -/
def execResetInstant (s : State) : Result := whilePowered s resetInstant

end Sys2Proof.Machine
end

