-- ==== Sys2Proof/Machine/Twin.lean ====
section
/-!
DEFINITION. Sys2Proof/Machine/Twin.lean: the twin unit (R350 to R371): heartbeats, pair roles and pairing, tracking, loss,
takeover, switchover, and the resynchronisation of a standby; the rows HEART_SEND to AUTOREJOIN, and GO_TIMEOUT.
-/
namespace Sys2Proof.Machine

/-- Something was heard within the last three base ticks. -/
def heardLately (s : State) (at' : Option Nat) : Bool := at'.any fun t => decide (s.time.loc ≤ t + 93750)

/-- The device reaches the spine (R360). -/
def reachesSpine (s : State) : Bool :=
  heardLately s s.spine.heardOther ||
  s.content.all fun c => c.nodes.all fun n => n.addr == c.ownAddr || c.partner.any (·.addr == n.addr)

/-- The device sees its partner over the spine (R360). -/
def seesPartner (s : State) : Bool := heardLately s s.spine.heardPartner

/-- A pair event in the journal (R361, R511), with TWN_STAT.CAUSE. -/
def pairJournal (s : State) (code : Nat) : State := s.journal 14 13 code (s.get R.TWN_STAT_CAUSE)

/-- HEART_SEND (R352): state, role, PSTATE, a departure with its TREF, and spine reach. -/
def heartSend (s : State) : State :=
  let m : HeartMsg :=
    ⟨s.dev.code, s.flag R.TWN_STAT_PRIMARY, s.get R.TWN_STAT_PSTATE, s.twin.departAt, reachesSpine s⟩
  let flags := m.state * 32 + bitNat m.primary * 16 + m.pstate * 2 + bitNat m.reach
  let s := { s with
    twin := { s.twin with sentHeart := some m } }
  twinSend s 33 8 s.now
    [BitVec.ofNat 36 flags, BitVec.ofNat 36 (bitNat m.departure.isSome), BitVec.ofNat 36 (m.departure.getD 0), 0]

/-- A standby that its primary leaves for good is to take over from an instant on, unless it is still being copied to
(R361). -/
def takeoverFrom (s : State) (t : Nat) : State :=
  if s.get R.TWN_STAT_PSTATE = 3 then twinWithdraw s 9 true
  else { s with twin := { s.twin with takeFrom := some t, switchAt := none } }

/-- A primary that goes on without its twin (R361). -/
def continueAlone (s : State) : State :=
  let s := { s with
    twin := { s.twin with switchAt := none } }
  let s := s.when (s.get R.TWN_CMD_STATUS == 1) (·.set R.TWN_CMD_STATUS 3)
  pairJournal ((s.set R.TWN_STAT_PSTATE 1).raise R.TWN_EVT_ALONE) 4

/-- DEPARTURE_NOTICE (R361, R362): TREF + 3 µs dates a takeover. -/
def departure (s : State) (tref : Nat) : State :=
  let s := s.raise R.TWN_EVT_DEPART
  if s.dev == .standby then takeoverFrom s (tref + 3000)
  else if (s.dev == .run || s.dev == .halt) && s.flag R.TWN_STAT_PRIMARY && 3 ≤ s.get R.TWN_STAT_PSTATE then continueAlone s
  else s

/-- HEART_FRAME (R352, R354, R361): the partner's state; a departure that it newly carries is acted on; a device that waits
for its role takes it; a primary shows its twin's entry into STANDBY and departure from it. -/
def heartFrame (s : State) (h : FrameHead) (m : HeartMsg) : State :=
  let r := twinAccept s 33 h
  if !r.2 then r.1
  else
    let s := r.1
    let old := s.twin.heart
    let known := old.any (·.departure == m.departure)
    let was := old.any (·.state == 5)
    let s := { s with
      twin := { s.twin with heart := some m, missed := 0, lost := false } }
    let s := s.set R.TWN_STAT_PARTNER m.state
    let s := match m.departure with
      | some t => if known then s else departure s t
      | none => s
    let primary := (s.dev == .run || s.dev == .halt) && s.partner.isSome && s.flag R.TWN_STAT_PRIMARY
    let s :=
      if primary && m.state == 5 && !was then
        let s := { s with
          twin := { s.twin with copyDone := 0, fabricDue := false, skipped := 0, tracked := [] } }
        s.set R.TWN_STAT_PSTATE 3
      else if primary && m.state != 5 && was && 3 ≤ s.get R.TWN_STAT_PSTATE then continueAlone s
      else s
    if s.twin.waiting then pairRole s (s.folio.waiting.getD 2) else s

/-- PARTNER_LOSS (R361): what a device does that has declared the loss of its partner. -/
def partnerLoss (s : State) : State :=
  let s := { s with
    twin := { s.twin with lost := true, heart := none } }
  let s := (s.raise R.TWN_EVT_HBLOSS).set R.TWN_STAT_PARTNER 0
  if s.dev == .standby then
    if s.get R.TWN_STAT_PSTATE = 3 then twinWithdraw s 9 true
    else if seesPartner s then twinWithdraw s 5 true
    else if reachesSpine s then takeoverFrom s s.now
    else twinWithdraw s 6 true
  else if (s.dev == .run || s.dev == .halt) && s.flag R.TWN_STAT_PRIMARY then
    if reachesSpine s then continueAlone s
    else
      let now := s.now
      let s := { s with
        twin := { s.twin with yieldFrom := some now, switchAt := none } }
      pairJournal (s.raise R.TWN_EVT_YIELD) 5
  else s

/-- HEARTBEAT_MISS (R352): the HBLIMth miss in a row of a partner that has been heard declares its loss. -/
def heartbeatMiss (s : State) : State :=
  if s.partner.isNone then s
  else
    let s := s.add R.TWN_HBMISS_COUNT 1
    let n := s.twin.missed + 1
    let s := { s with
      twin := { s.twin with missed := n } }
    if s.get R.TWN_XHB_HBLIM ≤ n ∧ !s.twin.lost ∧ s.twin.heart.isSome then partnerLoss s else s

/-- PAIR_WAIT_TIMEOUT (R354): no heartbeat within WAIT of entering LOAD. -/
def pairWaitTimeout (s : State) : State :=
  if s.dev == .load && s.twin.waiting && s.twin.heart.isNone then primaryStart s (s.folio.waiting.getD 2) else s

/-- The cause for which pairing fails (R355), 0 where every check passes. -/
def pairingCause (s : State) (peer : PairId) : Nat :=
  if peer.digest ≠ (List.range 8).map fun i => s.reg (R.FOL_PDIGEST_DIGEST i).addr then 1
  else if peer.family ≠ bitsOf (s.reg R.COL_TYPE_TYPE.addr) 24 12 then 2
  else if peer.role ≠ (s.get R.RST_STRAP_ROLE + 2) % 4 then 3
  else if s.partner.any fun p => p.serial.any (· != peer.serial) then 4
  else 0

/-- PAIRING_CHECK (R355): the exchanged identities; the twin enters STANDBY, or STOP with the cause. -/
def pairingCheck (s : State) (peer : PairId) : State :=
  if s.partner.isNone then s
  else
    let s := { s with
      twin := { s.twin with partner := some peer } }
    let s := (s.setReg R.TWN_PSER0_SERIAL.addr (peer.serial.getD 0 0)).setReg R.TWN_PSER1_SERIAL.addr
      (peer.serial.getD 1 0)
    if s.dev ≠ .load ∨ s.get R.TWN_STAT_PSTATE ≠ 2 then s
    else
      let cause := pairingCause s peer
      if cause = 0 then enterStandby s
      else
        let s := pairJournal (s.set R.TWN_STAT_CAUSE cause) 1
        let s := { s with
          folio := { s.folio with waiting := none } }
        (s.set R.TWN_STAT_PSTATE 0).enter .stop

/-- TRKIN_FRAME (R356, R357): the primary's inputs enter the image while the class gathers; those that come after the
deadline bring a copy of the fabric state. -/
def trkinFrame (s : State) (h : FrameHead) (points : List PointValue) : State :=
  let r := twinAccept s 34 h
  let s := r.1
  let c := h.cls % 8
  let k := s.cls c
  if !r.2 || s.dev != .standby || h.tref % 2 ^ 36 != k.latchAt % 2 ^ 36 then s
  else
    let t := ceilDiv (s.now - k.latchAt) 125
    let s := s.set (R.TWN_TRK_ARRIVAL c) (max (s.get (R.TWN_TRK_ARRIVAL c)) (min t (2 ^ 24 - 1)))
    if k.phase == .gather then
      let s := State.forEach points (fun p s =>
        (s.putPoint p.word p.global p.num p.value).putQual p.word p.global p.num p.qual) s
      { s with twin := { s.twin with trkin := (c, points) :: s.twin.trkin } }
    else if s.twin.trkLate.testBit c then
      let s := { s with
        twin := { s.twin with trkLate := withBit s.twin.trkLate c false, fabricDue := true, skipped := 0 } }
      s.set R.TWN_STAT_PSTATE 3
    else s

/-- The ranges of the copy set (R366): SRAM segments, the retain working copy, and the keeper's segments and groups of the
program, as address and count. -/
def copyRanges (s : State) : List (Nat × Nat) :=
  match s.content with
  | none => []
  | some c =>
    let segs := c.segments.map fun g => (segBase c s.imposer.sheet g.id, g.size)
    (segs.filter fun r => !inRetain r.1) ++ [(0x500000, 65536)] ++
      c.groups.map fun g => (g.addr, groupWordAt g.addr g.count + 1 - g.addr)

/-- The addresses of `n` words of the copy set from a position on. -/
def copySlice : List (Nat × Nat) → Nat → Nat → List Nat
  | [], _, _ => []
  | (a, len) :: rs, skip, n =>
    if len ≤ skip then copySlice rs (skip - len) n
    else
      let here := min n (len - skip)
      (List.range here).map (a + skip + ·) ++ copySlice rs 0 (n - here)

/-- The position of an address in the copy set. -/
def copyPlace : List (Nat × Nat) → Nat → Nat → Option Nat
  | [], _, _ => none
  | (a, len) :: rs, at', x =>
    if a ≤ x ∧ x < a + len then some (at' + (x - a)) else copyPlace rs (at' + len) x

/-- A logged write that the standby applies (R366): not to a word of the copy set that it has still to receive. -/
def logTaken (s : State) (a : Nat) : Bool :=
  s.get R.TWN_STAT_PSTATE != 3 ||
  match copyPlace (copyRanges s) 0 a with
  | some i => decide (i < s.twin.copyDone)
  | none => true

/-- TRKLOG_FRAME (R356, R358): runs of words that the primary has written; those of a class wait for its next LATCH, others
apply at once. `last` tells that the log of the cycle is complete. -/
def trklogFrame (s : State) (h : FrameHead) (bound : Bool) (runs : List (Nat × List Word)) (last : Bool) : State :=
  let r := twinAccept s 35 h
  let s := r.1
  let c := h.cls % 8
  if !r.2 || s.dev != .standby then s
  else
    let ws := runs.flatMap fun x => x.2.zipIdx.map fun w => (x.1 + w.2, w.1)
    let ws := ws.filter fun w => logTaken s w.1
    if bound then
      { s with twin := { s.twin with
        logs := s.twin.logs ++ [(c, ws)], logDone := withBit s.twin.logDone c (s.twin.logDone.testBit c || last) } }
    else State.forEach ws (fun w s =>
      if inImage w.1 then { s with mem := s.mem.wr w.1 (imageWord w.1 w.2) } else s.store w.1 w.2) s

/-- The handle table of the primary taken over (R110). -/
def trackHandles (s : State) (chans : List Channel) (gens : List SlotGen) : State :=
  let gone := s.handles.channels.filter fun x => !chans.contains x
  let s := State.forEach gone (fun x s => channelDrop s x.cls x.idx) s
  let new := chans.filter fun x => !s.handles.channels.contains x
  let s := State.forEach new (fun x s => channelPut s x) s
  poolShow { s with handles := { s.handles with gens := gens } }

/-- One item of a TRKCTL frame on a standby (R356, R359); a sheet comes into force in the gap of a cycle boundary (R272). -/
def trackItem (s : State) (x : TrkItem) : State :=
  match x with
  | .forces t => forceShow { s with forces := t }
  | .handles chans gens => trackHandles s chans gens
  | .released on => s.setFlag R.SYS_STATE_RELEASED on
  | .count c n => s.set (R.CYC_CNT_COUNT (c % 8)) n
  | .olc stat _ => if bitsOf stat 0 4 = 0 ∧ 1 ≤ olcState s ∧ olcState s ≤ 3 then olcRelease s else s
  | .sheet es =>
    match s.content with
    | some c =>
      let s := { s with twin := { s.twin with sheetDue := some es } }
      if inGap s then sheetTracked s c else s
    | none => s
  | .decision c d =>
    let c := c % 8
    let s := { s with
      spine := { s.spine with decisions := (c, d) :: s.spine.decisions } }
    if d = 0 then decide' s c 0 else decide' (s.setCls c { s.cls c with allowed := false }) c d
  | .store => storeTrigger s false false
  | .leaveRun => boundaryStop (stopAtBoundary s)
  | .switchAt t => { s with twin := { s.twin with switchAt := some t } }

/-- The staging of the standby as it reports it to its primary (R301). -/
def twinReady (s : State) (stat : Word) (digest : List Word) : State :=
  let own := (s.olc.next.bind (·.mapDigests)).map (·.2)
  let s := s.setFlag R.OLC_STAT_TWINRDY (bitsOf stat 0 4 == 2 && own == some digest)
  s.set R.OLC_STAT_TWCAUSE (bitsOf stat 8 5)

/-- TRKCTL_FRAME (R356): a standby takes each item as the primary's; a primary learns of its standby's staging. -/
def trkctlFrame (s : State) (h : FrameHead) (items : List TrkItem) : State :=
  let r := twinAccept s 36 h
  let s := r.1
  if !r.2 then s
  else if s.dev == .standby then State.forEach items (fun x s => trackItem s x) s
  else if hasStandby s then
    State.forEach items (fun x s => match x with
      | .olc stat digest => twinReady s stat digest
      | _ => s) s
  else s

/-- DIGEST_FRAME (R358): compared once this device has formed its own. -/
def digestFrame (s : State) (h : FrameHead) (d : Nat) : State :=
  let r := twinAccept s 37 h
  let s := r.1
  let c := h.cls % 8
  if !r.2 || s.dev != .standby then s
  else digestCompare { s with twin := { s.twin with peerDigest := s.twin.peerDigest.setIfInBounds c (some d) } } c

/-- The first COMMIT instant of any configured class at or after an instant (R362). -/
def firstCommit (s : State) (t : Nat) : Nat :=
  let at' (c : Nat) : Nat :=
    let p := max 1 (classPeriod s c)
    ceilDiv (t - classOffset s c) p * p + classOffset s c
  match configuredClasses s with
  | [] => t
  | c :: cs => cs.foldl (fun b c => min b (at' c)) (at' c)

/-- The node table of a manager twin that takes over (R345): the listed nodes as their last STATUS shows them, those in RUN in
the image (log 147). -/
def takeNodes (s : State) : State :=
  State.forEach (s.content.elim [] (·.nodes)) (fun n s =>
    let s := (s.raise (R.SPN_NODE_EXPECTED n.addr)).setFlag (R.SPN_NODE_REQUIRED n.addr) n.required
    match (s.node n.addr).bind fun k => if k.lost then none else k.status with
    | some m =>
      ((s.raise (R.SPN_NODE_PRESENT n.addr)).set (R.SPN_NODE_STATE n.addr) m.state).setFlag (R.SPN_NODE_ADMITTED n.addr)
        (m.state == 4)
    | none => s) s

/-- The device becomes the primary of its pair in RUN (R19, R362, R365): HOT mode, the release state as tracked, its outputs
driven; a manager becomes the acting one (R345, R452). -/
def becomePrimary (s : State) (pstate : Nat) : State :=
  let s := (s.set R.SYS_STATE_MODE 3).enter .run
  let s := (s.raise R.TWN_STAT_PRIMARY).set R.TWN_STAT_PSTATE pstate
  let s := { s with
    twin := { s.twin with
      takeFrom := none, switchAt := none, yieldFrom := none, departAt := none, departed := false, tracked := [] } }
  let s := s.when (!s.isWorker && !s.standalone) fun s =>
    let changed := s.get R.SPN_HOPS_HOPS != 0
    let s := ((s.raise R.SPN_STAT_ACTING).set R.SPN_HOPS_HOPS 0).when changed (·.raise R.SPN_EVT_TPATH)
    loopStates (takeNodes s)
  if s.flag R.SYS_STATE_RELEASED then State.forEach (configuredClasses s) (fun c s => drivePins (commitField s c) c) s
  else reflexSettle (State.forEach (configuredClasses s) (fun c s => pinsFallback s c) s)

/-- TAKEOVER (R362, R302, R345): at C_T the standby takes over; a switch that was armed is lost. -/
def takeover (s : State) : State :=
  match s.twin.takeFrom with
  | none => s
  | some t =>
    if s.dev ≠ .standby then s
    else
      let at' := firstCommit s t
      let s := becomePrimary s 1
      let s := (s.raise R.SYS_STATE_TAKEN).raise R.TWN_EVT_TAKEOVER
      let s := (s.add R.TWN_TAKES_COUNT 1).set R.TWN_TTIME_INSTANT at'
      let s := s.when (olcState s == 3) fun s => (s.set R.OLC_STAT_STATE 2).set R.OLC_STAT_TWINRDY 0
      let s := { s with
        olc := { s.olc with acked := none, armAt := none } }
      pairJournal s 3

/-- PRIMARY_YIELD (R361): a primary that commits no more enters STOP; its pending handle commands are lost (R110, log 132). -/
def primaryYield (s : State) : State :=
  if s.twin.yieldFrom.isSome && s.twin.departAt.isNone && s.dev == .run && s.flag R.TWN_STAT_PRIMARY then
    stopDevice (handleAbandon (s.set R.TWN_STAT_PSTATE 0) 5)
  else s

/-- A code written to TWN_CMD (R612). -/
def twinCommand (s : State) (master code : Nat) (run : State → State) : State :=
  if s.get R.TWN_CMD_STATUS = 1 then s.rsvd master R.TWN_CMD_CODE.addr else run (s.set R.TWN_CMD_CODE code)

/-- The order of a switchover at the next major LATCH, told to the standby (R365). -/
def switchOrder (s : State) : State :=
  let t := nextMajor s * 31250
  let s := { s with
    twin := { s.twin with switchAt := some t } }
  trackFrame s [.switchAt t]

/-- TWIN_SWITCH (R365): TWN_CMD SWITCH on the primary, in RUN and SYNCED. -/
def twinSwitch (s : State) (master : Nat) : State :=
  twinCommand s master 1 fun s =>
    if s.dev == .standby then s.set R.TWN_CMD_STATUS 5
    else if s.dev ≠ .run ∨ s.get R.TWN_STAT_PSTATE ≠ 4 ∨ !hasStandby s ∨ 0 < s.power.pfStep then s.set R.TWN_CMD_STATUS 3
    else switchOrder (s.set R.TWN_CMD_STATUS 1)

/-- A slot's state in UPD_STAT (R535). -/
def slotState (s : State) (slot : Nat) : Nat := s.get (if slot = 0 then R.UPD_STAT_S0 else R.UPD_STAT_S1)

/-- A slot given a state. -/
def setSlot (s : State) (slot st : Nat) : State := s.set (if slot = 0 then R.UPD_STAT_S0 else R.UPD_STAT_S1) st

/-- The reset that an activation ends in (R536): the STAGED slot becomes TRIAL and its trial counters clear. -/
def activateNow (s : State) : State :=
  let slot := if slotState s 0 = 2 then 0 else 1
  let s := setSlot s slot 3
  let s := { s with
    upd := { s.upd with attempt := 0, pwrTry := 0, activateDue := false } }
  warmReset (s.updEnd 2) R.RST_CAUSE_CMDWARM

/-- SWITCHOVER (R365): at the major LATCH L the roles exchange, and PSTATE stays SYNCED. The old primary's pending handle
commands are lost (R110, log 132) and its pins are no longer driven (R180). An activation that waited for it resets the
device that has become the standby (R536). -/
def switchover (s : State) : State :=
  if s.twin.switchAt.isNone then s
  else if s.dev == .standby then (becomePrimary s 4).raise R.TWN_EVT_SWITCH
  else if s.dev == .run && s.flag R.TWN_STAT_PRIMARY then
    let s := (((canHold (handleAbandon s 5)).enter .standby).set R.TWN_STAT_PRIMARY 0).raise R.TWN_EVT_SWITCH
    let s := ((s.set R.SPN_STAT_ACTING 0).set R.SYS_STATE_TAKEN 0).set R.TWN_STAT_PSTATE 4
    let s := { s with
      twin := { s.twin with switchAt := none, ownDigest := Vector.replicate 8 none } }
    let s := s.when (s.get R.TWN_CMD_STATUS == 1) (·.set R.TWN_CMD_STATUS 2)
    let s := reflexSettle (State.forEach (configuredClasses s) (fun c s => pinsFallback s c) s)
    if s.upd.activateDue then activateNow s else s
  else s

/-- TWIN_WITHDRAW (R19): TWN_CMD WITHDRAW on the standby, CAUSE unchanged. -/
def withdrawCommand (s : State) (master : Nat) : State :=
  twinCommand s master 2 fun s =>
    if s.dev == .standby then twinWithdraw (s.set R.TWN_CMD_STATUS 2) 0 false
    else if s.flag R.TWN_STAT_PRIMARY then s.set R.TWN_CMD_STATUS 5
    else s.set R.TWN_CMD_STATUS 3

/-- TWN_COPY shows the words still to send (R367). -/
def copyShow (s : State) : State :=
  let total := (copyRanges s).foldl (fun n r => n + r.2) 0
  s.set R.TWN_COPY_WORDS (total - s.twin.copyDone)

/-- RESYNC_COPY (R366): the primary sends the next 256 words of the copy set, or the standby receives them. The fabric copy
follows the last. -/
def resyncCopy (s : State) (msg : Option (FrameHead × List Word)) : State :=
  let total := (copyRanges s).foldl (fun n r => n + r.2) 0
  if s.get R.TWN_STAT_PSTATE ≠ 3 then s
  else
    match msg with
    | none =>
      if !hasStandby s || s.twin.fabricDue then s
      else
        let as := copySlice (copyRanges s) s.twin.copyDone 256
        let s := twinSend s 38 8 s.now (as.map s.word)
        let n := s.twin.copyDone + as.length
        copyShow { s with twin := { s.twin with copyDone := n, fabricDue := decide (total ≤ n) } }
    | some (h, ws) =>
      let r := twinAccept s 38 h
      let s := r.1
      if !r.2 || s.dev != .standby then s
      else
        let as := copySlice (copyRanges s) s.twin.copyDone (min 256 ws.length)
        let s := State.forEach (as.zip ws) (fun x s => s.store x.1 x.2) s
        let n := s.twin.copyDone + as.length
        copyShow { s with twin := { s.twin with copyDone := n, fabricDue := decide (total ≤ n) } }

/-- T_F in nanoseconds (R367): a word for 16 leaves, two words a cell, in BULK frames of 256 words. -/
def fabricCopyTime (s : State) : Nat :=
  let leaves := s.fabric.units.foldl (fun n u => n + u.leaves.length) 0
  let cells := s.fabric.units.foldl (fun n u => n + u.timers.length + u.counters.length) 0
  let words := ceilDiv leaves 16 + 2 * cells
  let bytes := ceilDiv (9 * words) 2 + 18 * ceilDiv words 256
  2000 + ceilDiv (4 * bytes) 5

/-- A boundary at which the fabric copy did not fit (R367): after 64 it has failed, and the standby withdraws. -/
def copySkipped (s : State) : State :=
  let n := s.twin.skipped + 1
  let s := { s with
    twin := { s.twin with skipped := n } }
  if n < 64 then s
  else if s.dev == .standby then twinWithdraw s 9 true
  else
    let s := { s with
      twin := { s.twin with fabricDue := false } }
    (s.set R.TWN_STAT_CAUSE 9).set R.TWN_STAT_PSTATE 1

/-- FABRIC_STATE_COPY (R367): a cycle boundary with the copy due. The primary sends the fabric state where T_F and 1 µs fit
before the major LATCH and no pass runs; the standby receives it, or has had none at this boundary. -/
def fabricStateCopy (s : State) (msg : Option (FrameHead × List UnitSt)) : State :=
  if s.get R.TWN_STAT_PSTATE ≠ 3 ∨ !s.twin.fabricDue then s
  else
    let done (s : State) : State :=
      let s := { s with
        twin := { s.twin with fabricDue := false, skipped := 0, sinceSync := 0 } }
      (s.set R.TWN_STAT_PSTATE 4).raise R.TWN_EVT_SYNCED
    match msg with
    | none =>
      let idle := s.fabric.quires.toList.all (·.running.isNone)
      if hasStandby s && s.cycling && inGap s && idle &&
          decide (s.now + fabricCopyTime s + 1000 ≤ nextMajor s * 31250) then
        done (twinSend s 38 8 s.now [BitVec.ofNat 36 s.fabric.units.length])
      else if s.dev == .standby || hasStandby s then copySkipped s
      else s
    | some (h, units) =>
      let r := twinAccept s 38 h
      let s := r.1
      if !r.2 || s.dev != .standby then s
      else
        let units := s.fabric.units.map fun u => (units.find? (·.id == u.id)).getD u
        done { s with fabric := { s.fabric with units := units } }

/-- AUTOREJOIN (R368): one second after a withdrawal the device performs RESET_WARM. -/
def autorejoin (s : State) : State :=
  if s.twin.rejoinDue && s.dev == .stop then warmReset s R.RST_CAUSE_CMDWARM else s

/-- GO_TIMEOUT (R301): a standby that has acknowledged a switch and has no GO in time enters STOP. -/
def goTimeout (s : State) : State :=
  if s.dev == .standby && s.olc.acked.any (·.2 == .switch) then
    twinWithdraw { s with olc := { s.olc with acked := none } } 10 true
  else s

/-- HEART_SEND (R352). -/
def execHeartSend (s : State) : Result := whilePowered s heartSend

/-- HEART_FRAME (R352). -/
def execHeartFrame (head : FrameHead) (msg : HeartMsg) (s : State) : Result := whilePowered s (heartFrame · head msg)

/-- HEARTBEAT_MISS (R352). -/
def execHeartbeatMiss (s : State) : Result := whilePowered s heartbeatMiss

/-- PAIR_WAIT_TIMEOUT (R354). -/
def execPairWaitTimeout (s : State) : Result := whilePowered s pairWaitTimeout

/-- PAIRING_CHECK (R355). -/
def execPairingCheck (peer : PairId) (s : State) : Result := whilePowered s (pairingCheck · peer)

/-- TRKIN_FRAME (R357). -/
def execTrkinFrame (head : FrameHead) (points : List PointValue) (s : State) : Result :=
  whilePowered s (trkinFrame · head points)

/-- TRKLOG_FRAME (R356). -/
def execTrklogFrame (head : FrameHead) (bound : Bool) (runs : List (Nat × List Word)) (last : Bool) (s : State) :
    Result := whilePowered s (trklogFrame · head bound runs last)

/-- TRKCTL_FRAME (R356). -/
def execTrkctlFrame (head : FrameHead) (items : List TrkItem) (s : State) : Result :=
  whilePowered s (trkctlFrame · head items)

/-- DIGEST_FRAME (R358). -/
def execDigestFrame (head : FrameHead) (digest : BitVec 32) (s : State) : Result :=
  whilePowered s (digestFrame · head digest.toNat)

/-- TAKEOVER (R362). -/
def execTakeover (s : State) : Result := whilePowered s takeover

/-- PRIMARY_YIELD (R361). -/
def execPrimaryYield (s : State) : Result := whilePowered s primaryYield

/-- TWIN_SWITCH (R365). -/
def execTwinSwitch (master : Fin 18) (s : State) : Result := s.serve master fun s => twinSwitch s master

/-- SWITCHOVER (R365). -/
def execSwitchover (s : State) : Result := whilePowered s switchover

/-- TWIN_WITHDRAW (R19). -/
def execTwinWithdraw (master : Fin 18) (s : State) : Result := s.serve master fun s => withdrawCommand s master

/-- RESYNC_COPY (R366): sent here (none), or received. -/
def execResyncCopy (msg : Option (FrameHead × List Word)) (s : State) : Result := whilePowered s (resyncCopy · msg)

/-- FABRIC_STATE_COPY (R367): a boundary here (none), or the state received. -/
def execFabricStateCopy (msg : Option (FrameHead × List UnitSt)) (s : State) : Result :=
  whilePowered s (fabricStateCopy · msg)

/-- AUTOREJOIN (R368). -/
def execAutorejoin (s : State) : Result := whilePowered s autorejoin

/-- GO_TIMEOUT (R301). -/
def execGoTimeout (s : State) : Result := whilePowered s goTimeout

end Sys2Proof.Machine
end

