-- ==== Sys2Proof/Machine/Update.lean ====
section
/-!
DEFINITION. Sys2Proof/Machine/Update.lean: secure start and the exit from BOOT (R19, R20, R60, R530, R531, R537), and the
firmware update (R532 to R542); the rows SECURE_START and UPD_WRITE to TRIALMAX_EXPIRY.
-/
namespace Sys2Proof.Machine

/-- A word of an image header. -/
def FlashImage.hw (i : FlashImage) (n : Nat) : Word := i.header.getD n 0

/-- SVN of an image. -/
def FlashImage.svn (i : FlashImage) : Nat := bitsOf (i.hw 3) 0 16

/-- The image digest H (R533): SHA-256 over header words 0 to 31 and the chunk table. -/
def FlashImage.digest (i : FlashImage) : Nat := shaWords (i.header.take 32 ++ i.table)

/-- A signature over H, r then s in 16 header words, verifies under a public key (R533). -/
def FlashImage.signed (i : FlashImage) (key : Nat × Nat) (at' : Nat) : Bool :=
  ecdsaOk key i.digest (byteNat ((i.header.drop at').take 8)) (byteNat ((i.header.drop (at' + 8)).take 8))

/-- The chunks of the body (R532): 65,536 bytes each, but for the last. -/
def FlashImage.chunkCount (i : FlashImage) : Nat := ceilDiv (i.hw 4).toNat 65536

/-- The bytes of chunk `k` match its digest in the chunk table (R533). -/
def FlashImage.chunkOk (i : FlashImage) (k bytes : Nat) : Bool :=
  decide (k < i.chunkCount) &&
    sha256 (min 65536 ((i.hw 4).toNat - 65536 * k)) bytes == byteNat ((i.table.drop (8 * k)).take 8)

/-- Every chunk of the body is there and matches (R534). -/
def FlashImage.chunksOk (i : FlashImage) : Bool :=
  i.chunks.length == i.chunkCount && i.chunks.zipIdx.all fun p => i.chunkOk p.2 p.1

/-- The reserved bits of an image header are 0 (R533), and so are its unused entries and an absent countersignature (log 148). -/
def headerReserved (i : FlashImage) : Bool :=
  let units := bitsOf (i.hw 2) 0 4
  (List.range (16 - 2 * units)).all (fun k => i.hw (5 + 2 * units + k) == 0) &&
  (bitsOf (i.hw 21) 2 1 == 1 || (List.range 16).all fun k => i.hw (48 + k) == 0) &&
  bitsOf (i.hw 2) 4 12 == 0 && bitsOf (i.hw 3) 16 19 == 0 && bitsOf (i.hw 21) 3 33 == 0 &&
  (List.range 10).all (fun k => i.hw (22 + k) == 0) &&
  ((List.range 16).map (· + 5) ++ (List.range 32).map (· + 32)).all (fun k => bitsOf (i.hw k) 32 4 == 0)

/-- A unit serial is among those that a header lists (R533). -/
def headerBound (s : State) (i : FlashImage) : Bool :=
  let n := bitsOf (i.hw 2) 0 4
  n == 0 || (List.range n).any fun k =>
    i.hw (5 + 2 * k) == s.reg R.COL_SER0_SERIAL.addr && i.hw (6 + 2 * k) == s.reg R.COL_SER1_SERIAL.addr

/-- A hardware type code fits an image's FAMILY, PARTMASK and GRADEMASK (R523, R533). -/
def typeFits (i : FlashImage) (type : Word) : Bool :=
  bitsOf (i.hw 2) 24 12 == bitsOf type 24 12 &&
  (bitsOf (i.hw 2) 20 4).testBit (bitsOf type 20 4 - 1) && (bitsOf (i.hw 2) 16 4).testBit (bitsOf type 16 4 - 1)

/-- The checks of R534 on an image but for its chunks: the cause of the first that fails, 0 when all pass. -/
def headerCause (s : State) (i : FlashImage) : Nat :=
  let blen := (i.hw 4).toNat
  if i.hw 0 ≠ 0o165160144146 then 1
  else if bitsOf (i.hw 1) 18 18 ≠ 1 ∨ bitsOf (i.hw 1) 0 18 ≠ 64 ∨ blen < 1 ∨ 3932160 < blen ∨ 8 < bitsOf (i.hw 2) 0 4 ∨
      !headerReserved i then 2
  else if !typeFits i (s.reg R.COL_TYPE_TYPE.addr) then 3
  else if !headerBound s i then 4
  else if i.svn < s.get R.COL_MINSVN_SVN then 5
  else if !i.signed s.ids.romKey 32 then 6
  else if s.flag R.COL_KSTAT_OWNSIGN ∧
      (bitsOf (i.hw 21) 2 1 = 0 ∨ keyState s (bitsOf (i.hw 21) 0 2) ≠ 1 ∨
        !i.signed (ownerKey s (bitsOf (i.hw 21) 0 2)) 48) then 7
  else 0

/-- The checks of R534 on a whole image; a slot that holds none fails MAGIC. -/
def imageCause (s : State) (img : Option FlashImage) : Nat :=
  match img with
  | none => 1
  | some i =>
    let c := headerCause s i
    if c ≠ 0 then c else if i.chunksOk then 0 else 8

/-- SVN of an image that may be absent. -/
def imageSvn (img : Option FlashImage) : Nat := img.elim 0 (·.svn)

/-- The slots in the order in which secure start tries them (R537), with the trial counters, and the TRIAL and FALLBACK
records. -/
def slotOrder (s : State) (svn : Nat → Nat) : State × List Nat :=
  let of (st : Nat) : List Nat := [0, 1].filter fun k => slotState s k == st
  let rest := of 4 ++ of 5
  match of 3 with
  | [] => (s, rest)
  | t :: _ =>
    let up := s.power.bootKind = 0
    let boot (a p : Nat) : State × List Nat :=
      let s := { s with
        upd := { s.upd with attempt := a, pwrTry := p } }
      (s.journal 34 27 (t + a % 4 * 16 + p % 4 * 256) (svn t), t :: rest)
    if s.upd.attempt = 0 then boot 1 s.upd.pwrTry
    else if up ∧ s.upd.pwrTry < 2 then boot s.upd.attempt (s.upd.pwrTry + 1)
    else
      let why := if s.upd.reason ≠ 0 then s.upd.reason else if up then 4 else 1
      let s := { s with
        upd := { s.upd with reason := 0 } }
      ((setSlot s t 6).journal 36 27 t why, rest)

/-- The first slot that passes R534 boots; one that fails becomes FAILED, with its SECSTART record (R531, R537). -/
def trySlots (img : Nat → Option FlashImage) : List Nat → State → State × Option Nat
  | [], s => (s, none)
  | k :: ks, s =>
    let c := imageCause s (img k)
    if c = 0 then (s, some k)
    else trySlots img ks ((setSlot s k 6).journal 32 27 (k + c * 16) (imageSvn (img k)))

/-- The running image shown (R533, R535): a PREVIOUS slot that has passed becomes ACTIVE. -/
def imageRuns (s : State) (k : Nat) (i : FlashImage) : State :=
  let s := if slotState s k = 5 then setSlot s k 4 else s
  let s := (s.set R.UPD_STAT_RUNSLOT k).setFlag R.UPD_STAT_TRIAL (slotState s k == 3)
  let s := (putDigest s R.UPD_FWDIG_DIGEST (byteWords 8 i.digest)).set R.UPD_SVN_SVN i.svn
  { s with upd := { s.upd with raises := bitsOf (i.hw 3) 35 1 == 1 } }

/-- The house firmware loaded and started at HOUSE level (R530, R211): the house core runs from then on (log 121). -/
def houseStart (s : State) (i : FlashImage) : State :=
  let s := { s with house := { HouseSt.fresh with code := WMap.wrList [] 0 (i.firmware.take 32768) } }
  (s.set (R.ZC_STAT_BUSY 8) 1).set (R.ZC_STAT_PL 8) 2

/-- The ABORT records of what a reset has cut off (R60, R511). -/
def abortRecords (s : State) : State :=
  let n := s.power.abortDue
  let s := s.when (n % 2 == 1) fun s => s.journal 6 4 1 0
  let s := s.when (n / 2 % 2 == 1) fun s => s.journal 6 27 2 0
  { s with power := { s.power with abortDue := 0 } }

/-- The exit from BOOT (R19, R20, R61, R84, R486), with the slot that secure start selected; `same` tells that it is the
slot of the run before. The folio follows the slot (R537). -/
def bootExit (s : State) (slot : Nat) (same : Bool) : State :=
  let s := if s.host.resetAccess then
      { s.raise R.PCI_EVT_RESETRD with
        host := { s.host with resetAccess := false } }
    else s
  let fromSlot (k : Nat) : State := loadBegin s ⟨k, false, none, true⟩
  if s.flag R.WDG_LADDER_SAFE then s.enter .safe
  else
    match s.folio.prevSrc with
    | some k => if k < 2 then fromSlot (if same then k else slot) else s.enter .stop
    | none =>
      let src := s.get R.RST_STRAP_BOOTSRC
      if src = 0 ∨ src = 3 then fromSlot slot else s.enter .stop

/-- Secure start has failed (R531): the records go into the keeper, and the device holds itself in reset. -/
def secureFail (s : State) : State :=
  let s := flushJournal 16 (releaseHeld s)
  State.enter { s with power := { s.power with secureFailed := true } } .off

/-- What the xSPI port shows once the house core has started its devices (R568). -/
def flashShow (s : State) (flash : FlashPort) : State :=
  let s := (s.setFlag R.XSP_STAT_SLOW flash.slow).when flash.failed (·.raise R.XSP_EVT_ERR)
  (s.set (R.XSP_ID_ID 0) flash.id0.toNat).set (R.XSP_ID_ID 1) flash.id1.toNat

/-- SECURE_START (R530, R531, R537, R20): steps 4 to 6 of R62, once the main reference has run, no reset pin is held low, and the
content of the two slots is as the operands give it. `colophon` tells what the check of the colophon store finds: 1 a
corrected error, 2 an uncorrectable one, at a word offset; `flash` what the house core meets on the xSPI port (R568). -/
def secureStart (s : State) (colophon offset : Nat) (flash : FlashPort) (slot0 slot1 : Option FlashImage) : State :=
  if s.dev ≠ .boot ∨ s.power.porstLow ∨ s.power.rstLow ∨ !s.power.refOk then s
  else
    let img (k : Nat) : Option FlashImage := if k = 0 then slot0 else slot1
    let s := recordSync (pllsShow (flashShow s flash))
    let s := s.when (colophon != 0) fun s => s.journal 39 26 colophon offset
    if colophon = 2 then secureFail s
    else
      let before := s.get R.UPD_STAT_RUNSLOT
      let s := [0, 1].foldl (fun s k => if slotState s k = 1 then setSlot s k 0 else s) s
      let o := slotOrder s fun k => imageSvn (img k)
      let r := trySlots img o.2 o.1
      match r.2 with
      | none => secureFail r.1
      | some k =>
        let s := match img k with
          | some i => houseStart (imageRuns r.1 k i) i
          | none => r.1
        bootExit (abortRecords (startRecord s)) k (k == before)

/-- A code written to UPD_CMD (R540, R612). -/
def updCommand (s : State) (master code : Nat) (run : State → State) : State :=
  if s.get R.UPD_CMD_STATUS = 1 then s.rsvd master R.UPD_CMD_CODE.addr else run (s.set R.UPD_CMD_CODE code)

/-- A command of UPD_CMD ends with a status. -/
def updEnd (s : State) (status : Nat) : State := s.updEnd status

/-- The states that admit a write command (R540). -/
def updStates (s : State) : Bool := s.dev == .stop || s.dev == .run || s.dev == .halt || s.dev == .safe

/-- A write command of UPD_CMD (R540): refused: busy while a folio load from a flash slot runs; a host transfer needs bus
mastering (R85). -/
def updWriteCommand (s : State) (master code : Nat) (run : State → State) : State :=
  updCommand s master code fun s =>
    if s.folio.loading.any (fun l => decide (l.src < 2)) then updEnd s 6
    else if !updStates s || s.upd.run.isSome then updEnd s 3
    else if !s.flag R.PCI_STAT_BME then updEnd (s.set R.UPD_STAT_CAUSE 9) 7
    else run s

/-- A write that runs (R540). -/
def updBegin (s : State) (code slot : Nat) : State :=
  let s := { s with
    upd := { s.upd with run := some ⟨code, slot⟩ } }
  ((s.raise R.UPD_STAT_BUSY).set R.UPD_STAT_CHUNKS 0).set R.UPD_STAT_CAUSE 0

/-- The slot that is neither ACTIVE nor TRIAL (R540), the lower of two. -/
def targetSlot (s : State) : Option Nat :=
  [0, 1].find? fun k => slotState s k != 3 && slotState s k != 4

/-- The write that runs is over, with a SLOTWRITE record (R544): cause 0 a staged slot. -/
def updFinish (s : State) (slot cause svn : Nat) : State :=
  let s := { s with
    upd := { s.upd with run := none } }
  let s := (s.set R.UPD_STAT_BUSY 0).set R.UPD_STAT_CAUSE cause
  s.journal 33 27 (slot + (if cause = 0 then 1 else 2) * 16 + cause * 256) svn

/-- UPD_WRITE (R540): UPD_CMD WRITE. -/
def updWrite (s : State) (master : Nat) : State :=
  updWriteCommand s master 1 fun s =>
    match targetSlot s with
    | none => updEnd s 3
    | some k => updEnd (updBegin (setSlot s k 1) 1 k) 1

/-- Every node of a distribution has its result, and this device has none to write: DISTRIBUTE is done. -/
def distributeShow (s : State) : State :=
  if s.get R.UPD_CMD_CODE = 3 ∧ s.get R.UPD_CMD_STATUS = 1 ∧ s.upd.run.isNone ∧
      (List.range 128).all fun a => s.get (R.UPD_NODE_STATE a) != 1 then
    updEnd (s.set R.UPD_STAT_BUSY 0) 2
  else s

/-- SLOT_WRITE_DONE (R540): the slot read back, or the fault that ends the write: 1 of the transfer, 2 of the flash
(R534, R568). An image that passes R534 is STAGED; one that does not leaves its slot EMPTY. A folio or shelf is whole
once it is written. -/
def slotWriteDone (s : State) (fault : Nat) (img : Option FlashImage) : State :=
  match s.upd.run with
  | none => s
  | some r =>
    let s := s.when (fault == 2) (·.raise R.XSP_EVT_ERR)
    let ended (s : State) (cause : Nat) : State := updEnd s (if cause = 0 then 2 else 7)
    if r.code = 2 ∨ r.code = 4 then
      if fault ≠ 0 then ended (updFinish s (r.slot % 2) (8 + fault) 0) 1
      else
        let s := { s with
          upd := { s.upd with run := none } }
        ended (s.set R.UPD_STAT_BUSY 0) 0
    else if 2 ≤ r.slot then s
    else
      let cause := if fault ≠ 0 then 8 + fault else imageCause s img
      let s := setSlot s r.slot (if cause = 0 then 2 else 0)
      let s := updFinish s r.slot cause (imageSvn img)
      if s.get R.UPD_CMD_STATUS ≠ 1 then s
      else if r.code = 3 then distributeShow s
      else ended s cause

/-- The check of a folio before it is written to a slot (R540): as the first pass of R81, a tip-in against the folio in
force. -/
def folioCheck (s : State) (img : FolioImage) : Bool :=
  if folioKind img.words = 2 then (verify s img [2] fitsStaged).isNone else (verify s img [1, 3] fitsWhole).isNone

/-- FOLWRITE (R540): a folio from host memory into the slot SLOT, none where the transfer fails. -/
def folWrite (s : State) (master slot : Nat) (img : Option FolioImage) : State :=
  updWriteCommand s master 2 fun s =>
    let s := (s.set R.UPD_CMD_SLOT slot).set R.UPD_CMD_SHELF 0
    match img with
    | none => updEnd (updFinish s slot 9 0) 7
    | some i => if folioCheck s i then updEnd (updBegin s 2 slot) 1 else updEnd (updFinish s slot 2 0) 7

/-- An index entry of a shelf is sound (R87, R540): reserved bits 0, and where a folio is present, its offset in bytes, and its
MAGIC, FORMAT, FAMILY, LENGTH and CRCs. Its words as the shelf holds them. -/
def shelfFolio (s : State) (shelf : List Word) (a : Nat) : Bool :=
  let w (k : Nat) : Word := shelf.getD (2 + 4 * a + k) 0
  let off := (w 1).toNat
  let len := (w 2).toNat
  let ws := (shelf.drop (off / 9 * 2)).take len
  bitsOf (w 0) 0 35 == 0 && w 3 == 0 && (!(w 0).getLsbD 35 ||
    off % 9 == 0 && decide (2313 ≤ off) && ws.length == len && ws.getD 0 0 == BitVec.ofNat 36 0o146157154151 &&
    bitsOf (ws.getD 1 0) 18 18 == 1 && bitsOf (ws.getD 2 0) 24 12 == bitsOf (s.reg R.COL_TYPE_TYPE.addr) 24 12 &&
    (ws.getD 3 0).toNat == len && (crcFault ws).isNone)

/-- The ranges in bytes of the folios that a shelf holds (R87). -/
def shelfRanges (shelf : List Word) : List (Nat × Nat) :=
  (List.range 128).filterMap fun a =>
    let w (k : Nat) : Word := shelf.getD (2 + 4 * a + k) 0
    if (w 0).getLsbD 35 then some ((w 1).toNat, ceilDiv (9 * (w 2).toNat) 2) else none

/-- Ranges of which no two share a byte. -/
def apart : List (Nat × Nat) → Bool
  | [] => true
  | x :: xs => xs.all (fun y => decide (x.1 + x.2 ≤ y.1) || decide (y.1 + y.2 ≤ x.1)) && apart xs

/-- The checks of a shelf before it is written (R540). -/
def shelfSound (s : State) (shelf : List Word) : Bool :=
  shelf.getD 0 0 == BitVec.ofNat 36 0o163150154146 && shelf.getD 1 0 == 0 && apart (shelfRanges shelf) &&
    (List.range 128).all (shelfFolio s shelf)

/-- SHELF_WRITE (R540, R87): FOLWRITE with SHELF 1, with the words of the shelf; none where the transfer fails. -/
def shelfWrite (s : State) (master slot : Nat) (shelf : Option (List Word)) : State :=
  updWriteCommand s master 2 fun s =>
    let s := (s.set R.UPD_CMD_SLOT slot).set R.UPD_CMD_SHELF 1
    match shelf with
    | none => updEnd (updFinish s slot 9 0) 7
    | some ws => if shelfSound s ws then updEnd (updBegin s 4 slot) 1 else updEnd (updFinish s slot 2 0) 7

/-- DISTRIBUTE (R542): the acting manager checks the header and the signatures once, and sends the image to every admitted
node that it fits, and to itself with SELF. -/
def distribute (s : State) (master : Nat) (self : Bool) (img : Option FlashImage) : State :=
  updWriteCommand s master 3 fun s =>
    let s := s.setFlag R.UPD_CMD_SELF self
    if !s.acting then updEnd s 5
    else
      match img with
      | none => updEnd (s.set R.UPD_STAT_CAUSE 9) 7
      | some i =>
        let c := headerCause s i
        if c ≠ 0 ∧ c ≠ 3 ∧ c ≠ 4 then updEnd (s.set R.UPD_STAT_CAUSE c) 7
        else
          let fits (a : Nat) : Bool := s.flag (R.SPN_NODE_ADMITTED a) &&
            (s.node a).any fun n => n.record.any fun x => typeFits i x.type
          let s := State.forEach (List.range 128) (fun a s =>
            ((s.set (R.UPD_NODE_STATE a) (bitNat (fits a))).set (R.UPD_NODE_CAUSE a) 0).set (R.UPD_NODE_CHUNKS a) 0) s
          let s := updEnd s 1
          let s := match (if self && c == 0 then targetSlot s else none) with
            | some k => updBegin (setSlot s k 1) 3 k
            | none => ((s.raise R.UPD_STAT_BUSY).set R.UPD_STAT_CHUNKS 0).set R.UPD_STAT_CAUSE c
          distributeShow (spineSend s 9 8 s.now i.header)

/-- A node that reports to the acting manager (R542). -/
def nodeReport (s : State) (a state cause chunks : Nat) : State :=
  if s.get (R.UPD_NODE_STATE a) = 0 then s
  else
    distributeShow (((s.set (R.UPD_NODE_STATE a) state).set (R.UPD_NODE_CAUSE a) cause).set (R.UPD_NODE_CHUNKS a) chunks)

/-- DISTRIBUTE_CHUNK (R542): a node checks the header before chunk 0, forwards every chunk, and writes those that match; one
that the image is not bound to writes nothing and says so. The acting manager takes the reports. -/
def distributeChunk (s : State) (h : FrameHead) (m : ChunkMsg) : State :=
  let r := spineAccept s 9 h
  let s := r.1
  if !r.2 then s
  else
    match m with
    | .report st cause n => if s.acting then nodeReport s (h.src % 128) st cause n else s
    | .data i index bytes =>
      if s.acting then s
      else
        let s := spineSend s 9 8 s.now [BitVec.ofNat 36 index]
        let first := s.upd.run.isNone && index == 0
        let c := headerCause s i
        if first && c != 0 then s.set R.UPD_STAT_CAUSE c
        else
          let s := if first then
              match targetSlot s with
              | some k => updBegin (setSlot s k 1) 3 k
              | none => s
            else s
          match s.upd.run with
          | some w =>
            if w.code ≠ 3 then s
            else if i.chunkOk index bytes then s.set R.UPD_STAT_CHUNKS (s.get R.UPD_STAT_CHUNKS + 1)
            else updFinish s w.slot 8 i.svn
          | none => s

/-- CREDIT_TIMEOUT (R542): a node that grants no credit is skipped, and reports SOURCE. -/
def creditTimeout (s : State) (a : Nat) : State :=
  if s.acting && s.get (R.UPD_NODE_STATE a) == 1 then nodeReport s a 4 9 (s.get (R.UPD_NODE_CHUNKS a)) else s

/-- ACTIVATE (R536). On a primary whose partner is in STANDBY the switchover comes first. -/
def activate (s : State) (master : Nat) : State :=
  updCommand s master 4 fun s =>
    if !(updStates s || s.dev == .standby) || !(slotState s 0 == 2 || slotState s 1 == 2) || 0 < s.power.pfStep then
      updEnd s 3
    else if hasStandby s then
      if s.get R.TWN_STAT_PSTATE ≠ 4 ∨ s.dev ≠ .run then updEnd s 3
      else
        let s := { s with
          upd := { s.upd with activateDue := true } }
        switchOrder (updEnd s 1)
    else activateNow (updEnd s 1)

/-- The trial ends by a reset that lets R537 fall back (R539), with its reason for the FALLBACK record. -/
def trialEnd (s : State) (reason : Nat) : State :=
  warmReset { s with upd := { s.upd with reason := reason } } R.RST_CAUSE_CMDWARM

/-- REJECT (R539): a trial image is rejected. -/
def reject (s : State) (master : Nat) : State :=
  updCommand s master 5 fun s =>
    if !(updStates s || s.dev == .standby) || !s.flag R.UPD_STAT_TRIAL || 0 < s.power.pfStep then updEnd s 3
    else trialEnd (updEnd s 1) 3

/-- UPD_CANCEL (R540, R541, R612): a running write or distribution ends as an abort; its target slot stays WRITING. -/
def updCancel (s : State) (master : Nat) : State :=
  if s.flag R.UPD_STAT_BUSY then
    let slot := s.upd.run.elim 0 (·.slot)
    let s := updFinish s (slot % 4) 11 0
    let s := State.forEach (List.range 128) (fun a s =>
      if s.get (R.UPD_NODE_STATE a) = 1 then (s.set (R.UPD_NODE_STATE a) 4).set (R.UPD_NODE_CAUSE a) 11 else s) s
    updEnd s 7
  else if s.get R.UPD_CMD_STATUS = 1 then s.rsvd master R.UPD_CMD_CODE.addr
  else updEnd (s.set R.UPD_CMD_CODE 6) 3

/-- TRIAL_CONFIRM (R538): the conditions hold and the firmware's own tests have passed: the TRIAL slot becomes ACTIVE, the
ACTIVE one PREVIOUS, and MINSVN rises with RAISE. -/
def trialConfirm (s : State) (testsOk : Bool) : State :=
  let runs := s.dev == .run || s.dev == .standby || s.dev == .stop && s.content.any (!·.autostart)
  let paired := s.partner.isNone || s.get R.TWN_STAT_PSTATE == 4
  let joined :=
    if s.standalone then true
    else if s.acting then s.content.all fun c => c.nodes.all fun n => !n.required || s.flag (R.SPN_NODE_ADMITTED n.addr)
    else s.flag R.SPN_STAT_ADMITTED
  if !(s.flag R.UPD_STAT_TRIAL && s.content.isSome && runs && !s.upd.spoiled && paired && joined && testsOk) then s
  else
    let k := s.get R.UPD_STAT_RUNSLOT
    let s := if slotState s (1 - k) = 4 then setSlot s (1 - k) 5 else s
    let s := (setSlot s k 4).set R.UPD_STAT_TRIAL 0
    let svn := s.get R.UPD_SVN_SVN
    let s := s.when s.upd.raises (·.set R.COL_MINSVN_SVN (max svn (s.get R.COL_MINSVN_SVN)))
    s.journal 35 27 k (svn + s.get R.COL_MINSVN_SVN * 65536)

/-- TRIALMAX_EXPIRY (R539): an unconfirmed trial times out. -/
def trialmaxExpiry (s : State) : State := if s.flag R.UPD_STAT_TRIAL then trialEnd s 2 else s

/-- SECURE_START (R530). -/
def execSecureStart (colophon : Fin 3) (offset : Nat) (flash : FlashPort) (slot0 slot1 : Option FlashImage)
    (s : State) : Result := s.answer (secureStart s colophon offset flash slot0 slot1)

/-- UPD_WRITE (R540). -/
def execUpdWrite (master : Fin 18) (keepFolio : Bool) (s : State) : Result :=
  s.serve master fun s => updWrite (s.when (s.get R.UPD_CMD_STATUS != 1) (·.setFlag R.UPD_CMD_KEEPFOLIO keepFolio)) master

/-- SLOT_WRITE_DONE (R540). -/
def execSlotWriteDone (fault : Fin 3) (img : Option FlashImage) (s : State) : Result :=
  whilePowered s (slotWriteDone · fault img)

/-- FOLWRITE (R540). -/
def execFolwrite (master : Fin 18) (slot : Fin 2) (img : Option FolioImage) (s : State) : Result :=
  s.serve master fun s => folWrite s master slot img

/-- SHELF_WRITE (R540). -/
def execShelfWrite (master : Fin 18) (slot : Fin 2) (shelf : Option (List Word)) (s : State) : Result :=
  s.serve master fun s => shelfWrite s master slot shelf

/-- DISTRIBUTE (R542). -/
def execDistribute (master : Fin 18) (self : Bool) (img : Option FlashImage) (s : State) : Result :=
  s.serve master fun s => distribute s master self img

/-- DISTRIBUTE_CHUNK (R542). -/
def execDistributeChunk (head : FrameHead) (msg : ChunkMsg) (s : State) : Result :=
  whilePowered s (distributeChunk · head msg)

/-- CREDIT_TIMEOUT (R542). -/
def execCreditTimeout (node : Fin 128) (s : State) : Result := whilePowered s (creditTimeout · node)

/-- ACTIVATE (R536). -/
def execActivate (master : Fin 18) (s : State) : Result := s.serve master fun s => activate s master

/-- REJECT (R539). -/
def execReject (master : Fin 18) (s : State) : Result := s.serve master fun s => reject s master

/-- UPD_CANCEL (R540). -/
def execUpdCancel (master : Fin 18) (s : State) : Result := s.serve master fun s => updCancel s master

/-- TRIAL_CONFIRM (R538): `testsOk` is the outcome of the firmware's own tests. -/
def execTrialConfirm (testsOk : Bool) (s : State) : Result := whilePowered s (trialConfirm · testsOk)

/-- TRIALMAX_EXPIRY (R539). -/
def execTrialmaxExpiry (s : State) : Result := whilePowered s trialmaxExpiry

end Sys2Proof.Machine
end

