-- ==== Sys2Proof/Machine/RegWrite.lean ====
section
/-!
DEFINITION. Sys2Proof/Machine/RegWrite.lean: reads and writes of the register blocks (R6, R7, R602 to R612), the vector
sources of the host (R549), and the row REGISTER_WRITE.
-/
namespace Sys2Proof.Machine

/-- The levels of the vector sources 4 to 18 and 21 (R549). -/
def vectorLevels (s : State) : Nat :=
  let any (fs : List Fld) : Bool := fs.any fun f => s.reg f.addr != 0
  let ls : List (Nat × Bool) :=
    [(4, s.flag R.MIR_EVT_DOOR), (5, s.flag R.JNL_EVT_NEW), (6, s.flag R.EVR_EVT_NEW), (7, any [R.WDG_EVT_EARLY]),
     (8, any [R.TWN_EVT_TAKEOVER]), (9, any [R.SPN_EVT_BREAK]), (10, any [R.FIO_EVT_RECOVERED]),
     (11, any [R.MTR_EVT_DEMAND]), (12, any ((List.range 4).map R.CAN_EVT_ERR)),
     (13, any [R.ETH_EVT_LINK, R.STN_EVT_DROP]), (14, any [R.NTM_EVT_SRCLOSS, R.RTC_EVT_APPLIED]),
     (15, any [R.RET_EVT_DONE, R.KPR_EVT_INIT]), (16, any [R.FAB_EVT_CORR]), (17, any [R.CYC_EVT_OVR]),
     (18, any [R.IMP_EVT_MOVED]), (21, any [R.PCI_EVT_PARTIAL])]
  ls.foldl (fun n (p : Nat × Bool) => n + bitNat p.2 * 2 ^ p.1) 0

/-- Bits of `a` that `b` lacks, below 32. -/
def bitsBeyond (a b : Nat) : Nat :=
  (List.range 32).foldl (fun n i => if a.testBit i && !b.testBit i then n + 2 ^ i else n) 0

/-- The message of a vector (R549): sent, or held pending while the entry's mask bit is set. -/
def msixRaise (s : State) (v : Nat) : State :=
  if (s.host.table.getD (4 * v + 3) 0).testBit 0 then
    { s with host := { s.host with pba := withBit s.host.pba v true } }
  else
    { s with host := { s.host with sent := s.host.sent.setIfInBounds v (s.host.sent.toList.getD v 0 + 1) } }

/-- PCI_VPEND brought up to date (R549): a source whose level has risen raises its bit, and a rising bit of PCI_VPEND AND
PCI_VMASK sends its message. -/
def vectorSync (s : State) : State :=
  let l := vectorLevels s
  let s := s.orBits R.PCI_VPEND_PEND (bitsBeyond l s.host.seen)
  let d := s.get R.PCI_VPEND_PEND &&& s.get R.PCI_VMASK_MASK
  let up := bitsBeyond d s.host.driven
  let s := { s with
    host := { s.host with seen := l, driven := d } }
  State.forEach ((List.range 32).filter up.testBit) (fun v s => msixRaise s v) s

/-- IRQ_N is driven low (R549). -/
def irqLow (s : State) : Bool := (vectorSync s).get R.PCI_VPEND_PEND &&& s.get R.PCI_IRQEN_EN != 0

/-- The port that belongs to a master: the debug unit uses port 8 (R104, R570). -/
def masterPort (master : Nat) : Nat := if master = 17 then 8 else master

/-- The lock of a word's block (R6): of PWR_ and of RET_. -/
def blockLocked (s : State) (a : Nat) : Bool :=
  match (a - 0xC00000) / 0x1000 with
  | 1 => s.flag R.PWR_PFCFG_LOCK
  | 22 => s.flag R.RET_CFG_LOCK
  | _ => false

/-- One field of a write (R6, R7, R116, R610). A LOCK keeps its 1. -/
def writeField (s : State) (master a v : Nat) (f : FieldRow) : State :=
  let fld : Fld := ⟨a, f.lo, f.width⟩
  let n := v / 2 ^ f.lo % 2 ^ f.width
  let plain (s : State) : State := if f.admits n then s.set fld n else s.rsvd master a
  match f.acc with
  | .ro | .wo => s
  | .w1c => s.set fld (bitsBeyond (s.get fld) n)
  | .rw =>
    if (a = R.PWR_PFCFG_LOCK.addr ∨ a = R.RET_CFG_LOCK.addr) ∧ f.lo = 35 then s.set fld (max n (s.get fld)) else plain s
  | .rwl => if blockLocked s a then s else plain s
  | .rwx =>
    if expertOpen s ((a - 0xC00000) / 0x1000) then
      if f.admits n then
        { s.set fld n with
          overridden := if s.overridden.contains (a, f.lo) then s.overridden else (a, f.lo) :: s.overridden }
      else s.rsvd master a
    else s.raise R.SYS_XOPEN_XIGN

/-- Every field of a write, the lock last. -/
def writeFields (s : State) (master a v : Nat) (fs : List FieldRow) : State :=
  let locks := fs.filter fun f => decide (f.lo = 35)
  let rest := fs.filter fun f => !decide (f.lo = 35)
  State.forEach (rest ++ locks) (fun f s => writeField s master a v f) s

/-- A command register: STATUS in bits [11:8] beside CODE in bits [3:0] (R612). -/
def RegRow.isCommand (r : RegRow) : Bool :=
  (r.fields.any fun f => f.lo == 8 && f.width == 4 && f.acc == .ro) &&
    r.fields.any fun f => f.lo == 0 && f.width == 4 && f.acc == .rw

/-- The device's own commands by the code written (R29, R93, R282, R335, R365): none for a code whose command brings data
from outside the device and has that as operands of its row (log 28). -/
def deviceCode (base code master : Nat) (at' : Bool) (s : State) : Option State :=
  if base = R.SYS_CMD_CODE.addr then
    match code with
    | 1 => some (startCommand s master 1 1)
    | 2 => some (startCommand s master 2 2)
    | 3 => some (stopCommand s master)
    | 4 => some (sysCommand s master 4 (warmReset · R.RST_CAUSE_CMDWARM))
    | 5 => some (sysCommand s master 5 (coldReset · R.RST_CAUSE_CMDCOLD))
    | 6 => some (leaveSafe s master)
    | _ => none
  else if base = R.FOL_CMD_CODE.addr then
    match code with
    | 1 => some (folioLoad s master)
    | 2 => some (folioCancel s master)
    | _ => some (folioForward s master)
  else if base = R.OLC_CMD_CODE.addr then
    match code with
    | 2 => some (olcArm s master at')
    | 3 => some (olcConfirm s master)
    | 4 => some (olcUndo s master)
    | 5 => some (olcDiscard s master)
    | 6 => some (olcForward s master)
    | _ => none
  else if base = R.SPN_GOP_CODE.addr then
    match code with
    | 1 => some (spineBcast s (masterPort master) none)
    | 2 => some (spineReset s (masterPort master) false none)
    | _ => some (spineReset s (masterPort master) true none)
  else if base = R.TWN_CMD_CODE.addr then
    if code = 1 then some (twinSwitch s master) else some (withdrawCommand s master)
  else none

/-- The commands of the block registers by the code written (R456, R493, R517, R525, R540); none as above. -/
def blockCode (base code master : Nat) (dom : Nat) (s : State) : Option State :=
  if base = R.NTM_CMD_CODE.addr then some (timeCommand s master code dom)
  else if base = R.RET_CMD_CODE.addr then some (retainCommand s master)
  else if base = R.EVR_CMD_CODE.addr then some (evrClear s master)
  else if base = R.COL_CMD_CODE.addr then
    match code with
    | 1 => some (colExec s master)
    | 2 => some (claim s (masterPort master))
    | _ => some (attest s master)
  else if base = R.UPD_CMD_CODE.addr then
    match code with
    | 1 => some (updWrite s master)
    | 4 => some (activate s master)
    | 5 => some (reject s master)
    | 6 => some (updCancel s master)
    | _ => none
  else none

/-- The commands of the ports by the code written (R104, R307, R448, R508, R521). Whether a frame that CANCEL names has
started is a matter of the bus, and free here (log 2). -/
def portCode (base code p : Nat) (s : State) : Option State :=
  if base = (R.HND_PCMD_CODE 0).addr then some (handleAccept s p code)
  else if base = (R.FRC_PCMD_CODE 0).addr then
    match code with
    | 1 => some (forceSet s p)
    | 2 => some (forceClear s p)
    | 3 => some (forceClearAll s p)
    | _ => some (forceRead s p)
  else if base = (R.CAN_PCMD_CODE 0).addr then
    if code = 1 then some (canTxReq s p)
    else
      let (f, s) := s.draw
      some (canCancel s p (f.testBit 0))
  else if base = (R.KPR_PCMD_CODE 0).addr then
    match code with
    | 1 => some (keeperStage s p)
    | 2 => some (keeperCommit s p)
    | _ => some (keeperAdd s p)
  else if base = (R.EVR_PCMD_CODE 0).addr then
    match code with
    | 1 => some (viewNext s p)
    | 2 => some (viewMark s p)
    | _ => some (viewWriteRec s p)
  else none

/-- The command that a code starts. -/
def runCode (base code master p v : Nat) (s : State) : Option State :=
  match deviceCode base code master (v.testBit 4) s with
  | some t => some t
  | none =>
    match blockCode base code master (v / 16 % 2) s with
    | some t => some t
    | none => portCode base code p s

/-- A write to a command register (R612): ignored while STATUS reads pending, but for a CANCEL; a reserved code is kept
from the field (R7); code 0 starts nothing. -/
def writeCommand (s : State) (master a p v : Nat) (r : RegRow) : State :=
  let code := v % 16
  let cancel : Bool := (a == R.FOL_CMD_CODE.addr && code == 2) || (a == R.UPD_CMD_CODE.addr && code == 6)
  if a = R.SPN_GOP_CODE.addr ∧ masterPort master ≠ 8 ∧ master ≠ 9 then s.rsvd master a
  else if bitsOf (s.reg a) 8 4 = 1 then
    if cancel then (runCode r.base code master p v s).getD s else s.rsvd master a
  else if code = 0 ∨ !(r.fields.all fun f => f.lo != 0 || f.admits code) then writeFields s master a v r.fields
  else (runCode r.base code master p v (writeFields s master a v r.fields)).getD s

/-- The bit timing that R431 admits in CAN_XNBTn and CAN_XDBTn (R449). -/
def canSegmentsLegal (data : Bool) (v : Nat) : Bool :=
  if data then
    let t1 := v / 2 ^ 24 % 64
    let t2 := v / 2 ^ 16 % 32
    let sj := v / 2 ^ 8 % 32
    decide (1 ≤ t1 ∧ t1 ≤ 32 ∧ 1 ≤ t2 ∧ t2 ≤ 16 ∧ 1 ≤ sj ∧ sj ≤ t2 ∧ 5 ≤ 1 + t1 + t2 ∧ 1 + t1 + t2 ≤ 49)
  else
    let b := v / 2 ^ 27 % 512
    let t1 := v / 2 ^ 18 % 512
    let t2 := v / 2 ^ 10 % 256
    let sj := v % 256
    decide (b ≤ 255 ∧ 2 ≤ t1 ∧ t1 ≤ 256 ∧ 2 ≤ t2 ∧ t2 ≤ 128 ∧ 1 ≤ sj ∧ sj ≤ t2 ∧ 8 ≤ 1 + t1 + t2 ∧ 1 + t1 + t2 ≤ 257)

/-- CAN_CTLn written (R443 to R445, R447): MODE off leaves the bus, MODE normal wakes a sleeping controller, RECOVER starts
the recovery. -/
def canCtlWrite (s : State) (master a n v : Nat) (r : RegRow) : State :=
  let slept := s.get (R.CAN_CTL_MODE n) = 4
  let s := writeFields s master a v r.fields
  let s := if slept ∧ s.get (R.CAN_CTL_MODE n) = 1 then canWakeUp (s.putBit R.CAN_STAT_SLEEP n false) n else s
  let s := s.when (s.get (R.CAN_CTL_MODE n) = 0) fun s => (s.set (R.CAN_ST_SYNC n) 0).putBit R.CAN_STAT_SLEEP n false
  let s := s.putBit R.CAN_STAT_ON n (s.get (R.CAN_CTL_MODE n) != 0)
  s.when (v.testBit 28) (canRecover · n)

/-- A write to SYS_EXPERT (R113 to R115). -/
def expertWrite (s : State) (master v : Nat) : State :=
  let block := v % 64
  if 32 ≤ block then expertIgnored s master
  else
    match v / 64 % 4 with
    | 0 => expertRelock s block
    | 1 => expertUnlockStep s master (v / 2 ^ 24) block
    | 2 => expertRestore s block
    | _ => expertIgnored s master

/-- A write to RTC_CMD (R467, R468, R472): each bit is a command, taken from bit 0 up. -/
def rtcWrite (s : State) (v : Nat) : State :=
  let s := s.when (v.testBit 0) rtcApply
  let s := s.when (v.testBit 1) rtcShift
  let s := s.when (v.testBit 2) (·.raise R.RTC_STAT_ARMED)
  s.when (v.testBit 3) (·.set R.RTC_STAT_ARMED 0)

/-- A write to a register that is no command register; `i` is the index within its array or its port. -/
def writePlain (s : State) (master a i v : Nat) (r : RegRow) : State :=
  let b := r.base
  let plain := writeFields s master a v r.fields
  if b = R.SYS_EXPERT_OP.addr then expertWrite s master v
  else if b = R.CYC_ETSW_TRIG.addr then softwareTrigger s (v % 2 ^ 32)
  else if b = (R.FAB_CSEL_KIND 0).addr then portShow plain i false
  else if b = (R.FAB_CVAL_VALUE 0).addr then presetWrite s i (BitVec.ofNat 36 v)
  else if b = (R.FAB_PSEL_WHAT 0).addr then probeSelect s i (v / 2 ^ 33) (v / 2 ^ 20 % 512) (v % 2 ^ 15)
  else if b = (R.IMP_XPIN_PIN 0).addr then pinWrite s i (BitVec.ofNat 36 v)
  else if b = (R.CYC_PEAK_PEAK 0).addr then if s.get (R.CYC_PER_TICKS i) = 0 then s else plain
  else if b = R.RTC_WAKE_PERIOD.addr then { plain with calendar := { plain.calendar with wakeCount := 0 } }
  else if b = R.PWR_PFCFG_LOCK.addr then pfailIfDue plain
  else if b = R.FRC_CTL_ENABLE.addr then forceShow plain
  else if b = R.FIO_ACK_ACK.addr then fieldAck s (v % 16)
  else if b = R.FIO_LACK_ACK.addr then latchRestart s (v % 2 ^ 32)
  else if b = R.FIO_TEST_START.addr then frontEndTest s (v % 2 ^ 32)
  else if b = R.MTR_TSEL_EN.addr then plain.setFlag R.MTR_STAT_TEST (plain.flag R.MTR_TSEL_EN)
  else if b = R.MTR_CLK_EN0.addr then plain.when plain.metering fun t => t.set R.MTR_STAT_CLKON (clkOn t)
  else if b = (R.ETH_PCFG_MODE 0).addr then ethOff plain i
  else if b = (R.CAN_CTL_MODE 0).addr then canCtlWrite s master a i v r
  else if b = (R.CAN_BR_NRATE 0).addr then canRateWrite s master i (BitVec.ofNat 36 v)
  else if b = (R.CAN_XNBT_NBRP 0).addr ∨ b = (R.CAN_XDBT_DBRP 0).addr then
    if expertOpen s 16 && !canSegmentsLegal (b == (R.CAN_XDBT_DBRP 0).addr) v then s.rsvd master a else plain
  else if b = (R.NTM_PSNAP_TAKE 0).addr then if v.testBit 35 then takeSnapshot s i else s
  else if b = R.RTC_CMD_APPLY.addr then rtcWrite s v
  else if b = R.WDG_SVC_TOKEN.addr then watchdogService s master (v % 4096)
  else if b = R.WDG_CHK_TOKEN.addr then watchdogCheckin s master (v / 4096 % 16) (v % 4096)
  else if b = R.PCI_SWINT_RAISE.addr then vectorSync (s.orBits R.PCI_VPEND_PEND (v / 2 ^ 24 % 256 * 2 ^ 24))
  else plain

/-- The tile that holds a register, woken by an access to it (R51, R12; log 152): a quire, a word core, a lane pair, the twin
unit, the metering engine, a CAN controller that does not sleep, an Ethernet port. -/
def tileWake (s : State) (a i : Nat) (r : RegRow) : State :=
  if r.port then s
  else
    match (a - 0xC00000) / 0x1000 with
    | 7 => if r.count = 8 then s.putBit R.CLK_GATE_QUIRE i false else s
    | 8 => if 8 ≤ r.count ∧ i < 8 then s.putBit R.CLK_GATE_CORE i false else s
    | 12 => if r.count = 4 ∧ 0xC0C010 ≤ a then (s.putBit R.CLK_GATE_LANE (i / 2) false).lockShow else s
    | 13 => s.set R.CLK_GATE_TWN 0
    | 15 => s.set R.CLK_GATE_MTR 0
    | 16 =>
      if r.count = 4 ∧ s.get (R.CAN_CTL_MODE i) ≠ 4 then (s.putBit R.CLK_GATE_CAN i false).lockShow else s
    | 17 => if r.count = 2 then s.putBit R.CLK_GATE_ETH i false else s
    | _ => s

/-- A write of a word to the register space (R6, R7, R104, R603, R610 to R612). -/
def writeReg (s : State) (master a v : Nat) : State :=
  match regRow a with
  | none => s
  | some (r, i, _) =>
    let s := tileWake s a i r
    if r.port ∧ masterPort master ≠ i then s.rsvd master a
    else if r.isCommand then writeCommand s master a i v r
    else if (r.fields.any fun f => f.acc == .w1c) ∨ (a - 0xC00000) / 0x1000 = 28 then
      vectorSync (writePlain (vectorSync s) master a i v r)
    else writePlain s master a i v r

/-- The bits of a register word that a read returns 0 for: those of WO fields (R610). -/
def readable (r : RegRow) (w : Word) : Word :=
  (r.fields.filter fun f => f.acc == .wo).foldl (fun w f => withBits w f.lo f.width 0) w

/-- A count of clocks or instructions of a core (R212): free once the core has run, and 0 before (log 2). -/
def readClocks (s : State) (c : Nat) : Word × State :=
  let ran := s.flag (R.ZC_STAT_BUSY c) || s.get (R.ZC_RET_COUNT c) != 0
  if ran then
    let (n, s) := s.draw
    (BitVec.ofNat 36 n, s)
  else (0, s)

/-- IMP_TAGS (R253): the tags in use are free, at most the 256 of the pool, and PEAK is the largest number so far; both are 0 in
BOOT, where no master has used one (log 2). -/
def readTags (s : State) : Word × State :=
  if s.dev == .boot then (s.reg R.IMP_TAGS_NOW.addr, s)
  else
    let (n, s) := s.draw
    let (p, s) := s.draw
    let s := s.set R.IMP_TAGS_NOW (n % 257)
    let s := s.set R.IMP_TAGS_PEAK (max (s.get R.IMP_TAGS_PEAK) (max (n % 257) (p % 257)))
    (s.reg R.IMP_TAGS_NOW.addr, s)

/-- A read of a word of the register space: its value and the state after it (R6, R503, R603, R610). Words that follow
other state are shown as it stands; counts of clocks and transactions are free (log 2). -/
def readReg (s : State) (a : Nat) : Word × State :=
  match regRow a with
  | none => (0, s)
  | some (r, i, _) =>
    let b := r.base
    let s := tileWake s a i r
    let w := readable r (s.reg a)
    if b = R.SYS_STATE_STATE.addr then (s.sysState, s)
    else if b = (R.FAB_CVAL_VALUE 0).addr then ((presetValue s i).getD 0, s)
    else if b = (R.FAB_PVAL_VALUE 0).addr then ((probeValue s i).getD 0, s)
    else if b = (R.ZC_STALL_COUNT 0).addr ∨ b = (R.ZC_BUSY_COUNT 0).addr then readClocks s i
    else if b = (R.ZC_RET_COUNT 0).addr ∧ i = 8 then readClocks s i
    else if b = (R.IMP_BSTALL_COUNT 0).addr then (BitVec.ofNat 36 (bankStall s i), s)
    else if b = R.IMP_TAGS_NOW.addr then readTags s
    else if b = R.IMP_STAT_STAGED.addr then
      (withBits w 10 1 (bitNat (decide (s.get R.OLC_STAT_STATE = 2 ∨ s.get R.OLC_STAT_STATE = 3))), s)
    else if b = (R.IMP_SENT0_KIND 0).addr then (sheetWord s i 0, s)
    else if b = (R.IMP_SENT1_BASE 0).addr then (sheetWord s i 1, s)
    else if b = (R.IMP_SENT2_MOVES 0).addr then (sheetWord s i 2, s)
    else if b = (R.IMP_SENT3_MEAS 0).addr then (sheetWord s i 3, s)
    else if b = R.MTR_TFIFO_VALID.addr then readTfifo s
    else if b = (R.MTR_AL_LOW 0).addr then readAccumulator s i
    else if b = (R.MTR_QST_QUAL 0).addr then
      match s.meter.pqcs.find? (·.idx == i) with
      | some c => (withBits w 34 2 (pqcImage s c).2, s)
      | none => (w, s)
    else if b = R.RTC_SNAP_SEQ.addr then
      let s := rtcSnap s
      (s.reg a, s)
    else if b = (R.KPR_PVL_LOW 0).addr then readKeeperValue s i
    else if b = (R.KPR_PVH_HIGH 0).addr then (s.keeper.latched.toList.getD i 0, s)
    else if b = R.XSP_STAT_CS.addr then
      let slot : Option Nat := ((s.folio.loading.map (·.src)).filter (· < 2)).or ((s.upd.run.map (·.slot)).filter (· < 2))
      (withBits w 0 2 (slot.elim 0 (2 + ·)), s)
    else if (a - 0xC00000) / 0x1000 = 28 then
      let s := vectorSync s
      (readable r (s.reg a), s)
    else (w, s)

/-- REGISTER_WRITE (R610): the master, the word address of the register space, and the word written. -/
def execRegisterWrite (master : Fin 18) (addr : BitVec 17) (value : Word) (s : State) : Result :=
  s.serve master fun s => writeReg s master (0xC00000 + addr.toNat) value.toNat

end Sys2Proof.Machine
end

