-- ==== Sys2Proof/Machine/Access.lean ====
section
/-!
DEFINITION. Sys2Proof/Machine/Access.lean: the accesses of a word core over the address map (R146, R147, R199, R225, R226,
R255, R341, R496, R498, R551, R602), and the tracking of its writes to a standby (R356).
-/
namespace Sys2Proof.Machine

/-- The class whose view a core's task reads (R147); a core without a task reads none. -/
def coreClass (s : State) (c : Nat) : Nat := (s.core c).task.elim 8 (·.cls)

/-- Whether a core's task was placed here by a manager (R273). -/
def coreForeign (s : State) (c : Nat) : Bool := (s.core c).task.any (·.foreign)

/-- How a core's task writes the output image (R136). -/
def coreWriter (s : State) (c : Nat) : Writer :=
  match (s.core c).task with
  | some t =>
    if t.event.isNone then .work
    else
      let k := s.cls t.cls
      if k.phase == .idle || k.phase == .late || k.checked then .late else .event
  | none => .work

/-- The parts of the image windows (R146). -/
inductive ImagePart where
  | value | quality | reserved
  deriving DecidableEq, Repr

/-- The part of the image windows that holds an address, and whether it holds global points (R146). -/
def imagePart (a : Nat) : ImagePart × Bool :=
  if a < 0x600800 then (.value, false)
  else if a < 0x601800 then (.quality, false)
  else if a < 0x608000 then (.reserved, false)
  else if a < 0x610000 then (.value, false)
  else if a < 0x610800 then (.quality, false)
  else if a < 0x620000 then (.reserved, false)
  else if a < 0x630000 then (.value, true)
  else if a < 0x650000 then (.quality, true)
  else if a < 0x680000 then (.reserved, true)
  else if a < 0x700000 then (.value, true)
  else if a < 0x708000 then (.quality, true)
  else (.reserved, true)

/-- The global windows as a worker sees them: they read 0 and ignore writes (R146), but for a task that its manager placed
here (R273). -/
def globalHidden (s : State) (a : Nat) (foreign : Bool) : Bool := (imagePart a).2 && s.isWorker && !foreign

/-- What a load of a core gives: a word, a BUS trap, or nothing yet. -/
inductive Load where
  | value (w : Word)
  | bus
  deriving DecidableEq, Repr

/-- A load from the image windows by a core's task (R147, R255). -/
def imageLoad (s : State) (c a : Nat) : Load × State :=
  if (imagePart a).1 == .reserved then (.bus, s)
  else if s.poisoned a then (.bus, memError s a c)
  else if globalHidden s a (coreForeign s c) then (.value 0, s)
  else (.value ((s.view (coreClass s c)).rd a), s)

/-- The answer of a remote load taken (R341); a window that is not enabled, or an access that failed, raises BUS. -/
def remoteLoad (s : State) (c a : Nat) : Load × State :=
  if !s.flag (R.SPN_RSEL_EN c) then (.bus, s)
  else
    match s.spine.answers.find? fun x => x.1 == c && x.2.1 == a with
    | some x =>
      let s := { s with
        spine := { s.spine with answers := s.spine.answers.erase x } }
      (x.2.2.elim .bus .value, s)
    | none => (.bus, s)

/-- A load of one word by a core (R225). A remote load's answer has been waited for. -/
def loadWord (s : State) (c a : Nat) : Load × State :=
  let plain (_ : Unit) : Load × State :=
    let r := readMem s a c
    (r.1.elim .bus .value, r.2)
  match regionOf a with
  | .sram | .mirror | .retain => plain ()
  | .keeper => if a < 0x404000 then (.bus, s) else plain ()
  | .image => imageLoad s c a
  | .remote => remoteLoad s c a
  | .regs =>
    let r := readReg s a
    (.value r.1, r.2)
  | .house | .reserved => (.bus, s)

/-- The request of a remote access leaves (R341), with the device and the address that the window reaches. -/
def remoteLeaves (s : State) (q : RemoteReq) : State :=
  let s := { s with
    spine := { s.spine with requests := s.spine.requests ++ [q] } }
  let s := s.when q.store (·.add (R.SPN_RSTAT_PEND q.master) 1)
  spineSend s 10 8 s.now
    ([BitVec.ofNat 36 q.dev, BitVec.ofNat 36 q.addr] ++ if q.store then [q.value, q.keep] else [])

/-- A remote access of a master through its window (R341): a store keeps the bits of `keep` of the old word and changes them by
`w` (R226); a plain one keeps none. -/
def remoteRequest (s : State) (master a : Nat) (store : Bool) (w keep : Word) : State :=
  remoteLeaves s
    ⟨master, a, store, s.get (R.SPN_RSEL_DEV master), s.get (R.SPN_RSEL_QUARTER master) * 2 ^ 22 + (a - 0x800000), w, keep⟩

/-- The first remote load of a list whose answer is missing, among the answers left. -/
def missingAnswer (s : State) (c : Nat) : List Nat → List (Nat × Nat × Option Word) → Option Nat
  | [], _ => none
  | a :: rest, left =>
    if regionOf a != .remote || !s.flag (R.SPN_RSEL_EN c) then missingAnswer s c rest left
    else
      match left.find? fun x => x.1 == c && x.2.1 == a with
      | some x => missingAnswer s c rest (left.erase x)
      | none => some a

/-- An instruction whose loads all have their words runs; one that lacks a remote answer requests it, once, and waits; it is
issued again when the answer comes (R341; log 29). -/
def withLoads (s : State) (c : Nat) (addrs : List Nat) (run : State → State) : State :=
  match missingAnswer s c addrs s.spine.answers with
  | none => run s
  | some a =>
    let asked := s.spine.requests.any fun q => q.master == c && q.ea == a && !q.store
    let s := if asked then s else remoteRequest s c a false 0 0
    s.setCore c { s.core c with wait := .remote a }

/-- Loads of several words in order; the address of the first that raises BUS is the error. -/
def loadWords (s : State) (c : Nat) : List Nat → Except Nat (List Word) × State
  | [] => (.ok [], s)
  | a :: rest =>
    match loadWord s c a with
    | (.bus, s) => (.error a, s)
    | (.value w, s) =>
      match loadWords s c rest with
      | (.ok ws, s) => (.ok (w :: ws), s)
      | (.error e, s) => (.error e, s)

/-- The areas of the mirror bank that the memory network writes (R551). -/
def mirrorWritable (a : Nat) : Bool := decide (0x44F000 ≤ a) && a != 0x44F7FE

/-- The keeper words that the memory network writes (R498). -/
def keeperWritable (a : Nat) : Bool := decide (0x419000 ≤ a) && decide (a < 0x429000)

/-- A write that the primary tracks to its standby (R356). -/
def trackWrite (s : State) (c a : Nat) (w : Word) : State :=
  s.when (s.dev == .run && hasStandby s) fun s =>
    twinSend s 35 c (s.cls c).latchAt [BitVec.ofNat 36 a, w]

/-- A word core's write to the reply doorbell (R555): MIR_IRQ_N is driven low. -/
def replyRing (s : State) (a : Nat) : State :=
  s.when (a == 0x44FFFF) fun s => { s with mirror := { s.mirror with replyIrq := true } }

/-- A store of a core's task to the image windows (R146, R147); true when it raises BUS. -/
def imageStore (s : State) (c a : Nat) (w : Word) : Bool × State :=
  match (imagePart a).1 with
  | .reserved => (true, s)
  | .quality => (false, s.rsvd c a)
  | .value =>
    if globalHidden s a (coreForeign s c) then (false, s)
    else (false, trackWrite (viewStore s (coreClass s c) (coreWriter s c) a w) (coreClass s c) a w)

/-- A store of one word by a core (R225); true when it raises BUS, and then nothing is written. -/
def storeWord (s : State) (c a : Nat) (w : Word) : Bool × State :=
  let plain (_ : Unit) : Bool × State := (false, trackWrite (s.store a w) (coreClass s c) a w)
  match regionOf a with
  | .sram => plain ()
  | .retain => if retainProtected s a then (true, s.raise R.RET_EVT_PROTWR) else plain ()
  | .keeper => if keeperWritable a then plain () else (true, s)
  | .mirror => if mirrorWritable a then (false, replyRing (s.store a w) a) else (true, s)
  | .image => imageStore s c a w
  | .remote =>
    if s.flag (R.SPN_RSEL_EN c) then (false, remoteRequest s c a true w 0) else (true, s)
  | .regs => (false, writeReg s c a w.toNat)
  | .house | .reserved => (true, s)

/-- A store whose error arrives after it has retired (R207). -/
def postStore (s : State) (c a : Nat) (w : Word) : State :=
  match storeWord s c a w with
  | (false, s) => s
  | (true, s) => storeError s c a

/-- Where an ATOM may act (R226). -/
def atomRegion (a : Nat) : Bool := regionOf a == .sram || regionOf a == .mirror || regionOf a == .retain

/-- A read and write of one word as one indivisible access (R226): `f` gives the word written and what the core takes; an
error leaves the word unchanged and raises BUS. -/
def modifyWord (s : State) (c a : Nat) (f : Word → Word) : Except Unit Word × State :=
  match loadWord s c a with
  | (.bus, s) => (.error (), s)
  | (.value w, s) =>
    match storeWord s c a (f w) with
    | (true, s) => (.error (), s)
    | (false, s) => (.ok w, s)

/-- A read-modify-write of a remote word is posted, and its target performs it (R226, R341): `f` acts on each bit by itself. -/
def remoteModify (s : State) (c a : Nat) (f : Word → Word) : State :=
  remoteRequest s c a true (f 0) (f 0 ^^^ f (BitVec.allOnes 36))

end Sys2Proof.Machine
end

