-- ==== Sys2Proof/Machine/CoreData.lean ====
section
/-!
DEFINITION. Sys2Proof/Machine/CoreData.lean: the Zhorex-36 instructions that move and compute data (R214 to R238); the
rows LDI to BITM. Each row brings the core, the condition field, the operand field and the literal word.
-/
namespace Sys2Proof.Machine

/-- A field of the operand bits (R215). -/
def opField (o : BitVec 26) (lo width : Nat) : Nat := o.toNat / 2 ^ lo % 2 ^ width

/-- The checks of a memory descriptor in format M (R197, R215, R219): bits [15:10] reserved; an instruction that writes
its operand, or needs an address, takes no immediate. -/
def checksM (o : BitVec 26) (lit : Word) (immediate : Bool) (legal : Bool) : Checks where
  legal := legal && opField o 10 6 == 0 && mdLegal (opField o 0 10) && (immediate || !mdImmediate (opField o 0 10))
  literal := mdLiteral (opField o 0 10)
  litLegal := mdLitLegal (opField o 0 10) lit

/-- The words that an instruction with descriptor `md` takes. -/
def mdLen (md : Nat) : Nat := if mdLiteral md then 2 else 1

/-- An instruction that reads a memory operand (R197, R220): `run` takes the word and the core after the modify. -/
def withOperand (s : State) (c : Nat) (k : Core) (md : Nat) (lit : Word) (run : Word → State → Core → State) : State :=
  if mdImmediate md then run lit s k
  else
    let a := k.ea md lit
    withLoads s c [a] fun s =>
      match loadWord s c a with
      | (.bus, s) => trap s c 2 k.pc (BitVec.ofNat 36 a)
      | (.value w, s) => run w s (k.mdModify md)

/-- LDI (R223). -/
def execLdi (core : Fin 8) (cond : Fin 16) (opnd : BitVec 26) (s : State) : Result :=
  s.answer <| instruct s core (instrWord cond 4 opnd) { legal := true } fun s k =>
    complete s core (k.setG (opField opnd 22 4) ((opnd.extractLsb' 0 22).signExtend 36)) 1

/-- LDIU (R223). -/
def execLdiu (core : Fin 8) (cond : Fin 16) (opnd : BitVec 26) (s : State) : Result :=
  s.answer <| instruct s core (instrWord cond 5 opnd) { legal := opField opnd 18 4 == 0 } fun s k =>
    let d := opField opnd 22 4
    complete s core (k.setG d (withBits (k.gr d) 18 18 (opField opnd 0 18))) 1

/-- LEA (R223): the modify does not apply to the register loaded. -/
def execLea (core : Fin 8) (cond : Fin 16) (opnd : BitVec 26) (lit : Word) (s : State) : Result :=
  let md := opField opnd 0 10
  s.answer <| instruct s core (instrWord cond 6 opnd)
      (checksM opnd lit false (opField opnd 25 1 == 0 && opField opnd 16 6 == 0)) fun s k =>
    complete s core ((k.mdModify md).setX (opField opnd 22 3) (BitVec.ofNat 24 (k.ea md lit))) (mdLen md)

/-- The privileged special registers (R204, R224). -/
def srPrivileged (sr : Nat) : Bool := decide (48 ≤ sr)

/-- MFS (R223, R224). -/
def execMfs (core : Fin 8) (cond : Fin 16) (opnd : BitVec 26) (s : State) : Result :=
  let sr := opField opnd 16 6
  s.answer <| instruct s core (instrWord cond 2 opnd)
      { legal := opField opnd 0 16 == 0 && srAssigned sr, priv := srPrivileged sr } fun s k =>
    complete s core (k.setG (opField opnd 22 4) (k.special sr)) 1

/-- MTS (R223, R224): a ring control that R198 excludes is refused, with the instruction's own address (R607). -/
def execMts (core : Fin 8) (cond : Fin 16) (opnd : BitVec 26) (s : State) : Result :=
  let sr := opField opnd 16 6
  s.answer <| instruct s core (instrWord cond 3 opnd)
      { legal := opField opnd 0 16 == 0 && srAssigned sr && sr != 29, priv := srPrivileged sr } fun s k =>
    let w := k.gr (opField opnd 22 4)
    if 16 ≤ sr ∧ sr < 24 ∧ !ringLegal w then complete (s.rsvd core k.pc.toNat) core k 1
    else complete s core (k.setSpecial sr w) 1

/-- LD (R225). -/
def execLd (core : Fin 8) (cond : Fin 16) (opnd : BitVec 26) (lit : Word) (s : State) : Result :=
  let md := opField opnd 0 10
  s.answer <| instruct s core (instrWord cond 8 opnd) (checksM opnd lit true (opField opnd 16 6 == 0)) fun s k =>
    withOperand s core k md lit fun w s k => complete s core (k.setG (opField opnd 22 4) w) (mdLen md)

/-- ST (R225, R207). -/
def execSt (core : Fin 8) (cond : Fin 16) (opnd : BitVec 26) (lit : Word) (s : State) : Result :=
  let md := opField opnd 0 10
  s.answer <| instruct s core (instrWord cond 9 opnd) (checksM opnd lit false (opField opnd 16 6 == 0)) fun s k =>
    postStore (complete s core (k.mdModify md) (mdLen md)) core (k.ea md lit) (k.gr (opField opnd 22 4))

/-- A half of a word, sign- or zero-extended (R225). -/
def halfWord (w : Word) (upper signed : Bool) : Word :=
  let h := if upper then w.extractLsb' 18 18 else w.extractLsb' 0 18
  if signed then h.signExtend 36 else h.setWidth 36

/-- LDH (R225). -/
def execLdh (core : Fin 8) (cond : Fin 16) (opnd : BitVec 26) (lit : Word) (s : State) : Result :=
  let md := opField opnd 0 10
  s.answer <| instruct s core (instrWord cond 10 opnd) (checksM opnd lit true (opField opnd 16 4 == 0)) fun s k =>
    withOperand s core k md lit fun w s k =>
      complete s core (k.setG (opField opnd 22 4) (halfWord w (opnd.getLsbD 21) (opnd.getLsbD 20))) (mdLen md)

/-- A read-modify-write of a core's operand (R226, R238): not performed, and BUS, in the register space (R604), where the
target refuses it, or where the word cannot be read; `f` gives the word written, `run` completes with the word read. -/
def withModify (s : State) (c : Nat) (k : Core) (a : Nat) (f : Word → Word) (run : Word → State → State) : State :=
  if regionOf a == .regs then trap s c 2 k.pc (BitVec.ofNat 36 a)
  else
    match modifyWord s c a f with
    | (.error (), s) => trap s c 2 k.pc (BitVec.ofNat 36 a)
    | (.ok w, s) => run w s

/-- A store that modifies its word (R226, R238): one of a remote word is posted to its target as one access (R341). -/
def withModifyStore (s : State) (c : Nat) (k : Core) (a : Nat) (f : Word → Word) (run : State → State) : State :=
  if regionOf a == .remote then
    if s.flag (R.SPN_RSEL_EN c) then remoteModify (run s) c a f else trap s c 2 k.pc (BitVec.ofNat 36 a)
  else withModify s c k a f fun _ s => run s

/-- STH (R225, R226). -/
def execSth (core : Fin 8) (cond : Fin 16) (opnd : BitVec 26) (lit : Word) (s : State) : Result :=
  let md := opField opnd 0 10
  s.answer <| instruct s core (instrWord cond 11 opnd) (checksM opnd lit false (opField opnd 16 5 == 0)) fun s k =>
    let h := (k.gr (opField opnd 22 4)).toNat
    let f (w : Word) : Word := if opnd.getLsbD 21 then withBits w 18 18 h else withBits w 0 18 h
    withModifyStore s core k (k.ea md lit) f fun s => complete s core (k.mdModify md) (mdLen md)

/-- LDD (R192, R225): the more significant word lies at the even address. -/
def execLdd (core : Fin 8) (cond : Fin 16) (opnd : BitVec 26) (lit : Word) (s : State) : Result :=
  let md := opField opnd 0 10
  let d := opField opnd 22 4
  s.answer <| instruct s core (instrWord cond 12 opnd)
      (checksM opnd lit false (opField opnd 16 6 == 0 && d % 2 == 0)) fun s k =>
    let a := k.ea md lit
    if a % 2 = 1 then trap s core 2 k.pc (BitVec.ofNat 36 a)
    else
      withLoads s core [a, a + 1] fun s =>
        match loadWords s core [a, a + 1] with
        | (.error e, s) => trap s core 2 k.pc (BitVec.ofNat 36 e)
        | (.ok ws, s) =>
          complete s core (((k.mdModify md).setG d (ws.getD 0 0)).setG (d + 1) (ws.getD 1 0)) (mdLen md)

/-- STD (R192, R225, R207). -/
def execStd (core : Fin 8) (cond : Fin 16) (opnd : BitVec 26) (lit : Word) (s : State) : Result :=
  let md := opField opnd 0 10
  let d := opField opnd 22 4
  s.answer <| instruct s core (instrWord cond 13 opnd)
      (checksM opnd lit false (opField opnd 16 6 == 0 && d % 2 == 0)) fun s k =>
    let a := k.ea md lit
    if a % 2 = 1 then trap s core 2 k.pc (BitVec.ofNat 36 a)
    else
      let s := complete s core (k.mdModify md) (mdLen md)
      postStore (postStore s core a (k.gr d)) core (a + 1) (k.gr (d + 1))

/-- The functions of ATOM (R225). -/
def atomFn (fn : Nat) (t a : Word) : Word :=
  match fn with
  | 0 => a
  | 1 => t + a
  | 2 => t ||| a
  | _ => t &&& ~~~a

/-- ATOM (R225, R226): XADD sets the flags of the sum, and its V may trap (R195; log 30). -/
def execAtom (core : Fin 8) (cond : Fin 16) (opnd : BitVec 26) (lit : Word) (s : State) : Result :=
  let md := opField opnd 0 10
  let fn := opField opnd 16 2
  let word := instrWord cond 14 opnd
  s.answer <| instruct s core word (checksM opnd lit false true) fun s k =>
    let a := k.ea md lit
    let ga := k.gr (opField opnd 18 4)
    if !atomRegion a then trap s core 2 k.pc (BitVec.ofNat 36 a)
    else
      withModify s core k a (atomFn fn · ga) fun t s =>
        let k := (k.mdModify md).setG (opField opnd 22 4) t
        if fn = 1 then
          let r := aluAdd t ga 0
          completeOvf s core { k with sw := swFlags k.sw r } (mdLen md) word (r.v == some true)
        else complete s core k (mdLen md)

/-- The end of an arithmetic instruction: the destination unless only flags are wanted, the flags, and OVF (R195). -/
def aluFinish (s : State) (c : Nat) (k : Core) (d : Option Nat) (r : AluRes) (len : Nat) (word : Word) : State :=
  let k := { k with sw := swFlags k.sw r }
  completeOvf s c (d.elim k (k.setG · r.val)) len word (r.v == some true && r.traps)

/-- CMP and TST write no register and name none (R227). -/
def aluFlagsOnly (fn : Nat) : Bool := fn == 4 || fn == 9

/-- The destination of an ALU function. -/
def aluDest (fn d : Nat) : Option Nat := if aluFlagsOnly fn then none else some d

/-- ALU (R227, R228). -/
def execAlu (core : Fin 8) (cond : Fin 16) (opnd : BitVec 26) (s : State) : Result :=
  let fn := opField opnd 8 6
  let d := opField opnd 22 4
  let b := opField opnd 14 4
  let word := instrWord cond 16 opnd
  let legal := opField opnd 0 8 == 0 && decide (fn ≤ 33) && (decide (fn < 27) || b == 0) && (!aluFlagsOnly fn || d == 0)
  s.answer <| instruct s core word { legal := legal } fun s k =>
    let r := aluOp fn (k.gr (opField opnd 18 4)) (k.gr b) (swBit k.sw swC) (swBit k.sw swSAT)
    aluFinish s core k (aluDest fn d) r 1 word

/-- ALUI (R227). -/
def execAlui (core : Fin 8) (cond : Fin 16) (opnd : BitVec 26) (s : State) : Result :=
  let fn := opField opnd 12 6
  let d := opField opnd 22 4
  let word := instrWord cond 17 opnd
  s.answer <| instruct s core word { legal := decide (fn ≤ 26) && (!aluFlagsOnly fn || d == 0) } fun s k =>
    let imm := (opnd.extractLsb' 0 12).signExtend 36
    let r := aluOp fn (k.gr (opField opnd 18 4)) imm (swBit k.sw swC) (swBit k.sw swSAT)
    aluFinish s core k (aluDest fn d) r 1 word

/-- The checks of format RM (R215): bits [11:10] reserved. -/
def checksRM (o : BitVec 26) (lit : Word) (legal : Bool) : Checks where
  legal := legal && opField o 10 2 == 0 && mdLegal (opField o 0 10)
  literal := mdLiteral (opField o 0 10)
  litLegal := mdLitLegal (opField o 0 10) lit

/-- ALUM (R227). -/
def execAlum (core : Fin 8) (cond : Fin 16) (opnd : BitVec 26) (lit : Word) (s : State) : Result :=
  let md := opField opnd 0 10
  let fn := opField opnd 12 6
  let d := opField opnd 22 4
  let word := instrWord cond 18 opnd
  s.answer <| instruct s core word (checksRM opnd lit (decide (fn ≤ 26) && (!aluFlagsOnly fn || d == 0))) fun s k0 =>
    withOperand s core k0 md lit fun w s k =>
      let r := aluOp fn (k0.gr (opField opnd 18 4)) w (swBit k.sw swC) (swBit k.sw swSAT)
      aluFinish s core k (aluDest fn d) r (mdLen md) word

/-- The fields that DALU admits (R229). -/
def daluLegal (fn d a b : Nat) : Bool :=
  match fn with
  | 0 | 1 => d % 2 == 0 && a % 2 == 0 && b % 2 == 0
  | 2 => d == 0 && a % 2 == 0 && b % 2 == 0
  | 3 => d % 2 == 0 && a % 2 == 0 && b == 0
  | 4 | 5 => d % 2 == 0
  | _ => false

/-- DALU (R229). -/
def execDalu (core : Fin 8) (cond : Fin 16) (opnd : BitVec 26) (s : State) : Result :=
  let fn := opField opnd 8 6
  let d := opField opnd 22 4
  let a := opField opnd 18 4
  let b := opField opnd 14 4
  let word := instrWord cond 19 opnd
  s.answer <| instruct s core word { legal := opField opnd 0 8 == 0 && daluLegal fn d a b } fun s k =>
    let r := daluOp fn (k.gr a) (k.gr (a + 1)) (k.gr b) (k.gr (b + 1))
    let k := { k with sw := swFlags k.sw r.flags }
    let k := if fn = 2 then k else (k.setG d r.hi).setG (d + 1) r.flags.val
    completeOvf s core k 1 word (r.flags.v == some true)

/-- The sticky flags of an F36 operation raised in SW (R193). -/
def swSticky (sw : Word) (r : FRes) : Word :=
  let put (sw : Word) (b : Bool) (i : Nat) : Word := if b then swPut sw i true else sw
  put (put (put (put (put sw r.nv swNV) r.dz swDZ) r.ov swOF) r.uf swUF) r.nx swNX

/-- The end of an F36 instruction (R230, R231, R195). -/
def falu (s : State) (c : Nat) (k : Core) (fn d : Nat) (a b : Word) (len : Nat) (word : Word) : State :=
  if fn = 5 then
    let (z, n, v, nv) := fCmp a b
    let sw := swFlags k.sw { val := 0, z := some z, n := some n, c := some false, v := some v }
    completeOvf s c { k with sw := if nv then swPut sw swNV true else sw } len word nv
  else
    let r := fOp fn a b
    let int := fn == 11 || fn == 13
    let z := if int then r.val == 0 else fIsZero r.val
    let n := if int then r.val.msb else fSign r.val && !fIsNan r.val
    let sw := swSticky (swFlags k.sw { val := 0, z := some z, n := some n }) r
    completeOvf s c ({ k with sw := sw }.setG d r.val) len word (r.nv || r.dz || r.ov)

/-- The functions of one operand (R230). -/
def faluUnary (fn : Nat) : Bool := fn == 4 || fn == 6 || fn == 7 || decide (10 ≤ fn)

/-- FALU (R230, R231). -/
def execFalu (core : Fin 8) (cond : Fin 16) (opnd : BitVec 26) (s : State) : Result :=
  let fn := opField opnd 8 6
  let d := opField opnd 22 4
  let b := opField opnd 14 4
  let word := instrWord cond 20 opnd
  let legal := opField opnd 0 8 == 0 && decide (fn ≤ 13) && (!faluUnary fn || b == 0) && (fn != 5 || d == 0)
  s.answer <| instruct s core word { legal := legal } fun s k =>
    falu s core k fn d (k.gr (opField opnd 18 4)) (k.gr b) 1 word

/-- FALUM (R230, R231). -/
def execFalum (core : Fin 8) (cond : Fin 16) (opnd : BitVec 26) (lit : Word) (s : State) : Result :=
  let md := opField opnd 0 10
  let fn := opField opnd 12 6
  let d := opField opnd 22 4
  let word := instrWord cond 21 opnd
  s.answer <| instruct s core word
      (checksRM opnd lit (decide (fn ≤ 13) && !faluUnary fn && (fn != 5 || d == 0))) fun s k0 =>
    withOperand s core k0 md lit fun w s k => falu s core k fn d (k0.gr (opField opnd 18 4)) w (mdLen md) word

/-- The fields that MAC admits (R232). -/
def macLegal (fn a b d : Nat) : Bool :=
  match fn with
  | 0 | 1 | 2 | 3 => d == 0
  | 4 => a == 0 && b == 0 && d == 0
  | 5 => a == 0 && d == 0 && decide (b < 4)
  | 6 | 7 => a == 0 && b == 0
  | _ => false

/-- MAC (R232, R196). -/
def execMac (core : Fin 8) (cond : Fin 16) (opnd : BitVec 26) (s : State) : Result :=
  let an := opField opnd 24 2
  let a := opField opnd 20 4
  let b := opField opnd 16 4
  let d := opField opnd 12 4
  let fn := opField opnd 6 6
  let word := instrWord cond 24 opnd
  s.answer <| instruct s core word { legal := opField opnd 0 6 == 0 && macLegal fn a b d } fun s k =>
    if fn = 6 ∨ fn = 7 then
      aluFinish s core k (some d) (accExtract (fn == 6) (k.acc an) (swBit k.sw swSAT)) 1 word
    else
      let r := macOp fn (k.acc an) (k.acc (b % 4)) (k.gr a) (k.gr b)
      aluFinish s core (k.setAcc an r.acc) none r.flags 1 word

/-- MACD (R234, R236). -/
def execMacd (core : Fin 8) (cond : Fin 16) (opnd : BitVec 26) (s : State) : Result :=
  let an := opField opnd 24 2
  let md1 := opField opnd 10 10
  let md2 := opField opnd 0 10
  let word := instrWord cond 25 opnd
  let legal := opField opnd 20 3 == 0 && mdLegal md1 && mdLegal md2 && !mdLiteral md1 && !mdLiteral md2
  s.answer <| instruct s core word { legal := legal } fun s k =>
    let as := [k.ea md1 0, k.ea md2 0]
    withLoads s core as fun s =>
      match loadWords s core as with
      | (.error e, s) => trap s core 2 k.pc (BitVec.ofNat 36 e)
      | (.ok ws, s) =>
        let k := (k.mdModify md1).mdModify md2
        let r := macOp (opField opnd 23 1) (k.acc an) 0 (ws.getD 0 0) (ws.getD 1 0)
        aluFinish s core (k.setAcc an r.acc) none r.flags 1 word

/-- The fields that BIT admits (R237). -/
def bitLegal (fn a k : Nat) : Bool :=
  decide (k ≤ 35) && (decide (fn ≤ 11) || (fn == 13 || fn == 14) && a == 0 && (decide (k ≤ 3) || decide (5 ≤ k ∧ k ≤ 8)))

/-- BIT (R237). -/
def execBit (core : Fin 8) (cond : Fin 16) (opnd : BitVec 26) (s : State) : Result :=
  let a := opField opnd 22 4
  let i := opField opnd 16 6
  let fn := opField opnd 12 4
  s.answer <| instruct s core (instrWord cond 26 opnd)
      { legal := opField opnd 0 12 == 0 && bitLegal fn a i } fun s k =>
    let ba := swBit k.sw swBA
    let k' :=
      if fn = 13 then { k with sw := swPut k.sw swBA (swBit k.sw i) }
      else if fn = 14 then { k with sw := swPut k.sw i ba }
      else
        let r := bitOp fn ba ((k.gr a).getLsbD i)
        if fn < 7 then { k with sw := swPut k.sw swBA r.1 } else k.setG a (withBits (k.gr a) i 1 (bitNat r.2))
    complete s core k' 1

/-- The bit points of an image word hold one point to a bit (R146). -/
def bitPointWord (a : Nat) : Bool := decide (0x600000 ≤ a ∧ a < 0x600800) || decide (0x620000 ≤ a ∧ a < 0x630000)

/-- A write of one bit of an operand (R147, R238): an image bit point alone, or the word. -/
def bitWrite (s : State) (c : Nat) (k : Core) (a i fn : Nat) (run : State → State) : State :=
  let ba := swBit k.sw swBA
  if bitPointWord a then
    match imageLoad s c a with
    | (.bus, s) => trap s c 2 k.pc (BitVec.ofNat 36 a)
    | (.value w, s) =>
      if 32 ≤ i ∨ globalHidden s a (coreForeign s c) then run s
      else
        let global := (imagePart a).2
        let n := 32 * (a - (if global then 0x620000 else 0x600000)) + i
        let v := BitVec.ofNat 36 (bitNat (bitOp fn ba (w.getLsbD i)).2)
        let cls := coreClass s c
        run (trackWrite (viewWrite s cls (coreWriter s c) false global n v) cls a (withBits w i 1 v.toNat))
  else
    withModifyStore s c k a (fun w => withBits w i 1 (bitNat (bitOp fn ba (w.getLsbD i)).2)) run

/-- BITM (R237, R238, R604). -/
def execBitm (core : Fin 8) (cond : Fin 16) (opnd : BitVec 26) (lit : Word) (s : State) : Result :=
  let md := opField opnd 0 10
  let i := opField opnd 20 6
  let fn := opField opnd 16 4
  s.answer <| instruct s core (instrWord cond 27 opnd)
      (checksM opnd lit (decide (fn < 7)) (decide (i ≤ 35) && decide (fn ≤ 11))) fun s k =>
    if fn < 7 then
      withOperand s core k md lit fun w s k =>
        complete s core { k with sw := swPut k.sw swBA (bitOp fn (swBit k.sw swBA) (w.getLsbD i)).1 } (mdLen md)
    else bitWrite s core k (k.ea md lit) i fn fun s => complete s core (k.mdModify md) (mdLen md)

end Sys2Proof.Machine
end

