-- ==== Sys2Proof/Machine/CoreFlow.lean ====
section
/-!
DEFINITION. Sys2Proof/Machine/CoreFlow.lean: the Zhorex-36 instructions of transfer, repeat, string, system, fence, fabric
call and handle command (R202, R203, R239 to R249, R262), and what happens to a core beside its instructions: store
errors, the limits of fences and handlers, and the end of its handle commands; the rows BR to HANDLER_LIMIT.
-/
namespace Sys2Proof.Machine

/-- An instruction retires with its core's registers, PC among them, as given. -/
def finish (s : State) (c : Nat) (k : Core) : State := coreShow (retired (s.setCore c k) c) c

/-- The target of a PC-relative transfer (R239). -/
def transferTarget (pc : BitVec 24) (o : BitVec 26) : BitVec 24 := pc + 1 + o.extractLsb' 0 24

/-- BR (R239). -/
def execBr (core : Fin 8) (cond : Fin 16) (opnd : BitVec 26) (s : State) : Result :=
  s.answer <| instruct s core (instrWord cond 32 opnd) { legal := opField opnd 24 2 == 0 } fun s k =>
    finish s core (k.jump (transferTarget k.pc opnd))

/-- CALL (R239). -/
def execCall (core : Fin 8) (cond : Fin 16) (opnd : BitVec 26) (s : State) : Result :=
  s.answer <| instruct s core (instrWord cond 33 opnd) { legal := opField opnd 24 2 == 0 } fun s k =>
    finish s core ((k.setG 15 ((k.pc + 1).setWidth 36)).jump (transferTarget k.pc opnd))

/-- JMP (R239). -/
def execJmp (core : Fin 8) (cond : Fin 16) (opnd : BitVec 26) (s : State) : Result :=
  s.answer <| instruct s core (instrWord cond 34 opnd) { legal := opField opnd 0 21 == 0 } fun s k =>
    let t := (k.gr (opField opnd 22 4)).setWidth 24
    let k := if opnd.getLsbD 21 then k.setG 15 ((k.pc + 1).setWidth 36) else k
    finish s core (k.jump t)

/-- REP (R202, R240). -/
def execRep (core : Fin 8) (cond : Fin 16) (opnd : BitVec 26) (s : State) : Result :=
  let word := instrWord cond 35 opnd
  let imm := opnd.getLsbD 25
  s.answer <| instruct s core word { legal := imm || opField opnd 20 5 == 0 } fun s k =>
    let rps := k.pc + 1
    let rpe := rps + BitVec.ofNat 24 (opField opnd 0 16)
    let n : Word := if imm then BitVec.ofNat 36 (opField opnd 16 9) else k.gr (opField opnd 16 4)
    if k.rpf || decide (rpe.toNat < rps.toNat) then trap s core 0 k.pc word
    else if n = 0 then finish s core { k with pc := rpe + 1 }
    else finish s core { k with rps := rps, rpe := rpe, rpc := n, rpf := true, pc := rps }

/-- A string pointer after an element (R203, R198). -/
def Core.stringStep (k : Core) (n : Nat) : Core := k.modifyX n (k.xs.toList.getD n 0).toInt

/-- An element of a string instruction is done (R203): the instruction completes with the last, and PC stays otherwise. -/
def stringNext (s : State) (c : Nat) (k : Core) : State :=
  let k := k.setG 12 (k.gr 12 - 1)
  if k.gr 12 = 0 then complete s c k 1 else s.setCore c k

/-- A string element stored (R203): an error leaves the registers naming the element. -/
def stringStore (s : State) (c : Nat) (k k' : Core) (a : Nat) (w : Word) : State :=
  match storeWord s c a w with
  | (true, s) => trap s c 2 k.pc (BitVec.ofNat 36 a)
  | (false, _) => (storeWord (stringNext s c k') c a w).2

/-- A string instruction (R241): one element (R203); a count of 0 completes with the flags of completion. -/
def stringOp (s : State) (c : Nat) (cond : Fin 16) (fn : Nat) (rest : BitVec 22) (done : Word → Word)
    (element : State → Core → State) : State :=
  instruct s c (instrWord cond 36 (BitVec.ofNat 4 fn ++ rest)) { legal := rest == 0 } fun s k =>
    if k.gr 12 = 0 then complete s c { k with sw := done k.sw } 1 else element s k

/-- MOVS (R203, R241). -/
def execMovs (core : Fin 8) (cond : Fin 16) (rest : BitVec 22) (s : State) : Result :=
  s.answer <| stringOp s core cond 0 rest (·) fun s k =>
    let a := (k.xn 6).toNat
    withLoads s core [a] fun s =>
      match loadWord s core a with
      | (.bus, s) => trap s core 2 k.pc (BitVec.ofNat 36 a)
      | (.value w, s) => stringStore s core k ((k.stringStep 6).stringStep 7) (k.xn 7).toNat w

/-- FILL (R203, R241). -/
def execFill (core : Fin 8) (cond : Fin 16) (rest : BitVec 22) (s : State) : Result :=
  s.answer <| stringOp s core cond 1 rest (·) fun s k =>
    stringStore s core k (k.stringStep 7) (k.xn 7).toNat (k.gr 13)

/-- Z, C and N as CMPS leaves them. -/
def cmpsFlags (sw : Word) (z below : Bool) : Word :=
  swFlags sw { val := 0, z := some z, n := some below, c := some below }

/-- CMPS (R203, R241). -/
def execCmps (core : Fin 8) (cond : Fin 16) (rest : BitVec 22) (s : State) : Result :=
  s.answer <| stringOp s core cond 2 rest (cmpsFlags · true false) fun s k =>
    let as := [(k.xn 6).toNat, (k.xn 7).toNat]
    withLoads s core as fun s =>
      match loadWords s core as with
      | (.error e, s) => trap s core 2 k.pc (BitVec.ofNat 36 e)
      | (.ok ws, s) =>
        let x := ws.getD 0 0
        let y := ws.getD 1 0
        if x ≠ y then complete s core { k with sw := cmpsFlags k.sw false (decide (x.toNat < y.toNat)) } 1
        else
          let k := (k.stringStep 6).stringStep 7
          stringNext s core (if k.gr 12 = 1 then { k with sw := cmpsFlags k.sw true false } else k)

/-- SCAN (R203, R241). -/
def execScan (core : Fin 8) (cond : Fin 16) (rest : BitVec 22) (s : State) : Result :=
  s.answer <| stringOp s core cond 3 rest (swPut · swZ false) fun s k =>
    let a := (k.xn 6).toNat
    withLoads s core [a] fun s =>
      match loadWord s core a with
      | (.bus, s) => trap s core 2 k.pc (BitVec.ofNat 36 a)
      | (.value w, s) =>
        if w = k.gr 13 then complete s core { k with sw := swPut k.sw swZ true } 1
        else
          let k := k.stringStep 6
          stringNext s core (if k.gr 12 = 1 then { k with sw := swPut k.sw swZ false } else k)

/-- A SYS instruction (R242). -/
def sysOp (s : State) (c : Nat) (cond : Fin 16) (fn : Nat) (rest : BitVec 20) (priv : Bool)
    (run : Word → State → Core → State) : State :=
  let word := instrWord cond 1 (BitVec.ofNat 6 fn ++ rest)
  instruct s c word { legal := rest == 0, priv := priv } (run word)

/-- NOP (R242). -/
def execNop (core : Fin 8) (cond : Fin 16) (rest : BitVec 20) (s : State) : Result :=
  s.answer <| sysOp s core cond 0 rest false fun _ s k => complete s core k 1

/-- TEND (R209, R242, R260): as a fence it reports a store error that is pending; in a handler it acts as TQUIT. -/
def execTend (core : Fin 8) (cond : Fin 16) (rest : BitVec 20) (s : State) : Result :=
  s.answer <| sysOp s core cond 1 rest false fun _ s k =>
    if k.imprecise.isSome then impreciseTake s core
    else if swBit k.sw swTH then faultFinish (retired s core) core
    else taskFinish (retired s core) core

/-- TQUIT (R206, R242). -/
def execTquit (core : Fin 8) (cond : Fin 16) (rest : BitVec 20) (s : State) : Result :=
  s.answer <| sysOp s core cond 2 rest true fun _ s k =>
    if k.imprecise.isSome then impreciseTake s core else faultFinish (retired s core) core

/-- SW from TSW (R206, R190): the reserved bits stay 0, and the levels that a word core lacks leave its level as it is
(R204; log 141). -/
def Core.restoredSw (k : Core) : Word :=
  let sw := k.tsw &&& 0x7FFFF
  if 2 ≤ swPL sw then withBits sw 17 2 (swPL k.sw) else sw

/-- RTT (R206, R242): ILLEGAL at execution unless TCAUSE[5:0] names OVF. -/
def execRtt (core : Fin 8) (cond : Fin 16) (rest : BitVec 20) (s : State) : Result :=
  s.answer <| sysOp s core cond 3 rest true fun word s k =>
    if bitsOf k.tcause 0 6 ≠ 3 then trap s core 0 k.pc word
    else finish s core { k with pc := k.tpc, sw := k.restoredSw, firstTrap := 0 }

/-- DEBUG (R208, R242): halts every core when a debugger is connected, and is a no-operation otherwise. A store error that is
pending is taken in place of the DEBUG trap (R207). Within a handler the DEBUG trap is a double trap as well; R205 gives it no
TVAL, so that is a free value (log 2). -/
def execDebug (core : Fin 8) (cond : Fin 16) (rest : BitVec 20) (s : State) : Result :=
  s.answer <| sysOp s core cond 4 rest false fun _ s k =>
    if !s.flag R.DBG_STAT_CONN then complete (s.raise R.ZC_EVT_DBGIGN) core k 1
    else if k.imprecise.isSome then trap s core 6 k.pc 0
    else if swBit k.sw swTH then
      let (f, s) := s.draw
      debugHalt (trap s core 6 k.pc (BitVec.ofNat 36 f))
    else debugHalt (complete s core k 1)

/-- A word that no row's instruction decodes from: an unassigned major, or a reserved function of a major whose functions
are rows of their own (R217, R219, R241 to R243, R245). -/
def wordUnassigned (w : Word) : Bool :=
  match bitsOf w 26 6 with
  | 1 => decide (5 ≤ bitsOf w 20 6)
  | 2 | 3 | 4 | 5 | 6 | 8 | 9 | 10 | 11 | 12 | 13 | 14 | 16 | 17 | 18 | 19 | 20 | 21 | 24 | 25 | 26 | 27 | 32 | 33 | 34
  | 35 | 42 => false
  | 36 => decide (4 ≤ bitsOf w 22 4)
  | 40 => bitsOf w 24 2 == 0
  | 41 => bitsOf w 15 2 == 3
  | _ => true

/-- UNASSIGNED_OPCODE (R218, R219). -/
def execUnassignedOpcode (core : Fin 8) (word : Word) (s : State) : Result :=
  s.answer (if wordUnassigned word then instruct s core word { legal := false } fun s _ => s else s)

/-- What a fence of a scope still waits for (R262): earlier accesses in flight, and for the system scope remote stores without
their acknowledgement (R341). -/
def fenceWaits (s : State) (c scope : Nat) (inFlight : Bool) : Bool :=
  inFlight || (scope == 3 && s.get (R.SPN_RSTAT_PEND c) != 0)

/-- A fence (R243, R260, R262): it reports a store error that is pending, and waits while earlier accesses are in flight, as
the memory network has it; a fence that waits looks again when it is issued again (log 149). -/
def fence (s : State) (c : Nat) (cond : Fin 16) (scope : Nat) (rest : BitVec 24) (inFlight : Bool) : State :=
  let k := s.core c
  let s := if coreRuns s c ∧ k.wait = .fence scope ∧ !preemptDue s c then s.setCore c { k with wait := .none } else s
  instruct s c (instrWord cond 40 (BitVec.ofNat 2 scope ++ rest)) { legal := rest == 0 } fun s k =>
    if k.imprecise.isSome then impreciseTake s c
    else if fenceWaits s c scope inFlight then s.setCore c { k with wait := .fence scope }
    else complete s c k 1

/-- FENCE_C (R262): earlier accesses are in flight still, or not. -/
def execFenceC (core : Fin 8) (cond : Fin 16) (word : FenceWord) (s : State) : Result :=
  s.answer (fence s core cond 1 word.rest word.inFlight)

/-- FENCE_D (R262): earlier accesses are in flight still, or not. -/
def execFenceD (core : Fin 8) (cond : Fin 16) (word : FenceWord) (s : State) : Result :=
  s.answer (fence s core cond 2 word.rest word.inFlight)

/-- FENCE_S (R262): earlier accesses of the device are in flight still, or not. -/
def execFenceS (core : Fin 8) (cond : Fin 16) (word : FenceWord) (s : State) : Result :=
  s.answer (fence s core cond 3 word.rest word.inFlight)

/-- FENCE_TIMEOUT (R244). -/
def execFenceTimeout (core : Fin 8) (s : State) : Result :=
  s.answer <| match (s.core core).wait with
    | .fence scope => if coreRuns s core then trap s core 5 (s.core core).pc (BitVec.ofNat 36 scope) else s
    | _ => s

/-- A fabric instruction (R245). -/
def fabricOp (s : State) (c : Nat) (cond : Fin 16) (mode : Nat) (unit : BitVec 9) (rest : BitVec 15) (legal : Bool)
    (run : State → Core → State) : State :=
  let o : BitVec 26 := unit ++ BitVec.ofNat 2 mode ++ rest
  instruct s c (instrWord cond 41 o) { legal := rest == 0 && legal } run

/-- A call that R166 admits asks for its pass, with at most 4 outstanding (R164): a fifth is not issued yet. -/
def fabricCall (s : State) (c unit : Nat) (posted : Bool) (k : Core) (run : State → State) : State :=
  let cls := coreClass s c
  let quire := match s.fabricUnit unit with
    | some u => if u.cls = cls then s.quireOf unit else none
    | none => none
  match quire, k.task with
  | some q, some t =>
    if s.flag (R.FAB_QSTAT_DIS q) then trap (s.raise R.FAB_EVT_CALLERR) c 2 k.pc (callTval unit)
    else if 4 ≤ coreCalls s c then s
    else run (passRequest s q ⟨unit, cls, .core c t posted⟩)
  | _, _ => trap (s.raise R.FAB_EVT_CALLERR) c 2 k.pc (callTval unit)

/-- FCALL (R164, R245, R246). -/
def execFcall (core : Fin 8) (cond : Fin 16) (unit : BitVec 9) (rest : BitVec 15) (s : State) : Result :=
  s.answer <| fabricOp s core cond 0 unit rest true fun s k =>
    fabricCall s core unit.toNat false k fun s => s.setCore core { k with wait := .fcall unit.toNat }

/-- FCALLP (R164, R245). -/
def execFcallp (core : Fin 8) (cond : Fin 16) (unit : BitVec 9) (rest : BitVec 15) (s : State) : Result :=
  s.answer <| fabricOp s core cond 1 unit rest true fun s k =>
    fabricCall s core unit.toNat true k fun s =>
      complete s core { k with posted := k.posted ++ [(unit.toNat, false)] } 1

/-- FWAIT (R164, R245, R246). -/
def execFwait (core : Fin 8) (cond : Fin 16) (unit : BitVec 9) (rest : BitVec 15) (s : State) : Result :=
  s.answer <| fabricOp s core cond 2 unit rest (unit == 0) fun s k =>
    if !(postedOpen k.posted).isEmpty then s.setCore core { k with wait := .fwait }
    else
      match postedFail k.posted with
      | none => complete s core { k with posted := [] } 1
      | some u => trap (s.setCore core { k with posted := [] }) core 2 k.pc (callTval u)

/-- A handle instruction's word and checks (R247). -/
def handleOp (s : State) (c : Nat) (cond : Fin 16) (fn : Nat) (d a : Fin 16) (post : Bool) (rest : BitVec 15) (legal : Bool)
    (run : State → Core → State) : State :=
  let o : BitVec 26 := BitVec.ofNat 4 d ++ BitVec.ofNat 4 a ++ BitVec.ofNat 2 fn ++ BitVec.ofNat 1 (bitNat post) ++ rest
  instruct s c (instrWord cond 42 o) { legal := rest == 0 && legal } run

/-- HCMD with CREATE, DESTROY or QUERY (R247, R248): the argument and the code go to the core's own port; with POST 0 the
instruction waits for the outcome. -/
def handleCommand (s : State) (c : Nat) (cond : Fin 16) (fn : Nat) (d a : Fin 16) (post : Bool) (rest : BitVec 15) : State :=
  handleOp s c cond fn d a post rest true fun s k =>
    let arg := if fn = 0 then (R.HND_PARG_CLASS c).addr else (R.HND_PHND_HANDLE c).addr
    let s := handleAccept (writeReg s c arg (k.gr a).toNat) c (fn + 1)
    if post then complete s c k 1 else coreSettle c settleFuel (s.setCore c { k with wait := .handle d })

/-- HCMD_CREATE (R247). -/
def execHcmdCreate (core : Fin 8) (cond : Fin 16) (d a : Fin 16) (post : Bool) (rest : BitVec 15) (s : State) : Result :=
  s.answer (handleCommand s core cond 0 d a post rest)

/-- HCMD_DESTROY (R247). -/
def execHcmdDestroy (core : Fin 8) (cond : Fin 16) (d a : Fin 16) (post : Bool) (rest : BitVec 15) (s : State) : Result :=
  s.answer (handleCommand s core cond 1 d a post rest)

/-- HCMD_QUERY (R247). -/
def execHcmdQuery (core : Fin 8) (cond : Fin 16) (d a : Fin 16) (post : Bool) (rest : BitVec 15) (s : State) : Result :=
  s.answer (handleCommand s core cond 2 d a post rest)

/-- HWAIT (R247, R248): A and POST must be 0. -/
def execHwait (core : Fin 8) (cond : Fin 16) (d a : Fin 16) (post : Bool) (rest : BitVec 15) (s : State) : Result :=
  s.answer <| handleOp s core cond 3 d a post rest (a == 0 && !post) fun s k =>
    coreSettle core settleFuel (s.setCore core { k with wait := .handle d })

/-- STORE_ERROR (R207): the error of a retired store, which the core holds pending, arrives; it traps at the next point of
R222, which the wait for a remote word is not. -/
def execStoreError (core : Fin 8) (s : State) : Result :=
  s.answer <|
    let k := s.core core
    if !coreRuns s core || k.imprecise.isNone then s
    else if awaitsRemote s core then s.setCore core { k with arrived := true }
    else betweenInstructions (s.setCore core { k with arrived := true }) core

/-- HANDLER_LIMIT (R206): ZC_XHLIM core clocks of a handler's own execution. -/
def execHandlerLimit (core : Fin 8) (s : State) : Result :=
  s.answer <| if coreRuns s core && swBit (s.core core).sw swTH then faultFinish (s.raise R.ZC_EVT_HLIM) core else s

/-- HANDLE_CHECK (R107): an instruction that waits for its outcome goes on (R248, R249). -/
def execHandleCheck (port : Port) (s : State) : Result :=
  s.answer (if s.powered then settleAll (handleCheck s port) else s)

/-- HANDLE_COMMAND_EFFECT (R109): an instruction that waits for its outcome goes on (R248). -/
def execHandleCommandEffect (port : Port) (s : State) : Result :=
  s.answer (if s.powered then settleAll (handleCommandEffect s port) else s)

end Sys2Proof.Machine
end

