-- ==== Sys2Proof/Machine/Host.lean ====
section
/-!
DEFINITION. Sys2Proof/Machine/Host.lean: the host's ports (21_host_and_network_ports R545 to R556) and the debug ports
(R569, R570); the rows PCIE_ACCESS to REPLY_DOORBELL, JTAG_INSTRUCTION, DEBUG_UART_INPUT and TAP_RESET.
-/
namespace Sys2Proof.Machine

/-- The host finds the logic die answering (R547): neither in reset nor before step 5 of boot (R62). -/
def hostServed (s : State) : Bool :=
  s.powered && !(s.dev == .boot && !s.power.refOk) && !s.power.porstLow && !s.power.rstLow

/-- What a host read gives (R547): a word, a refusal, a poisoned completion, or nothing until a remote answer comes. -/
inductive HostRead where
  | word (w : Word)
  | refused
  | poison
  | waits
  deriving DecidableEq, Repr

/-- A word of memory read for the host or the debug unit (R255, R547). -/
def hostWord (s : State) (m a : Nat) : HostRead × State :=
  let r := readMem s a m
  (r.1.elim .poison .word, r.2)

/-- A read of a word address by the host, master 8, or the debug unit, master 17 (R146, R341, R498, R547, R570, R602). -/
def hostLoad (s : State) (m a : Nat) : HostRead × State :=
  match regionOf a with
  | .sram | .mirror | .retain => hostWord s m a
  | .keeper => if a < 0x404000 then (.refused, s) else hostWord s m a
  | .image =>
    if (imagePart a).1 == .reserved then (.refused, s)
    else if globalHidden s a false then (.word 0, s)
    else hostWord s m a
  | .regs =>
    let r := readReg s a
    (.word r.1, r.2)
  | .remote =>
    if !s.flag (R.SPN_RSEL_EN 8) then (.refused, s)
    else
      match missingAnswer s 8 [a] s.spine.answers with
      | some _ =>
        let asked := s.spine.requests.any fun q => q.master == 8 && q.ea == a && !q.store
        (.waits, if asked then s else remoteRequest s 8 a false 0 0)
      | none =>
        match remoteLoad s 8 a with
        | (.value w, s) => (.word w, s)
        | (.bus, s) => (.refused, s)
  | .house | .reserved => (.refused, s)

/-- A write of a word by the host, master 8, or the debug unit, master 17; true when it is refused (R547). A write to the image
is ignored with RSVD (R146). -/
def hostStore (s : State) (m a : Nat) (w : Word) : Bool × State :=
  let tracked (_ : Unit) : Bool × State := (false, trackWrite (s.store a w) 8 a w)
  match regionOf a with
  | .sram => tracked ()
  | .retain => if retainProtected s a then (true, s.raise R.RET_EVT_PROTWR) else tracked ()
  | .keeper => if keeperWritable a then tracked () else (true, s)
  | .mirror => if mirrorWritable a then (false, s.store a w) else (true, s)
  | .image => if (imagePart a).1 == .reserved then (true, s) else (false, s.rsvd m a)
  | .remote => if s.flag (R.SPN_RSEL_EN 8) then (false, remoteRequest s 8 a true w 0) else (true, s)
  | .regs => (false, writeReg s m a w.toNat)
  | .house | .reserved => (true, s)

/-- The host's doorbell (R555): the word is written, DOOR is set and counted, and vector 4 is raised. -/
def doorbell (s : State) (w : Word) : State :=
  let s := ((s.store 0x44F7FF w).raise R.MIR_EVT_DOOR).add R.MIR_DOORS_COUNT 1
  vectorSync (s.vector 4)

/-- A refused access (R547). -/
def hostRefused (s : State) (a : Nat) : State := (s.raise R.PCI_EVT_REFUSED).set R.PCI_ERRADR_ADDR a

/-- The completion of a read. -/
def hostComplete (s : State) (data : BitVec 64) (poisoned : Bool) : State :=
  { s with
    host := { s.host with completion := some (data, poisoned) } }

/-- A host access wakes the core PLL for what runs with it (R47, R54). -/
def hostWakes (a : Nat) : Bool :=
  match regionOf a with
  | .mirror => false
  | .regs => !([1, 2, 3, 14].contains ((a - 0xC00000) / 0x1000))
  | _ => true

/-- The bytes of a slot that a read names. -/
def slotBytes (w : BitVec 64) (first count : Nat) : BitVec 64 :=
  BitVec.ofNat 64 (w.toNat / 2 ^ (8 * first) % 2 ^ (8 * min count (8 - first)))

/-- A read of `count` bytes from byte `first` of a word's slot (R546, R547). -/
def hostReadSlot (s : State) (a first count : Nat) : State :=
  match hostLoad s 8 a with
  | (.word w, s) => hostComplete s (slotBytes (w.setWidth 64) first count) false
  | (.refused, s) => hostComplete (hostRefused s a) (BitVec.allOnes 64) false
  | (.poison, s) =>
    hostComplete ((s.raise R.PCI_EVT_POISON).set R.PCI_ERRADR_ADDR a) (BitVec.allOnes 64) true
  | (.waits, s) => { s with host := { s.host with completion := none } }

/-- A write of a whole slot; bits [63:36] that are not 0 are ignored with UPPER (R547). The host's write of the doorbell
word rings it (R555). -/
def hostWriteSlot (s : State) (a : Nat) (data : BitVec 64) : State :=
  let s := s.when (data.extractLsb' 36 28 != 0) (·.raise R.PCI_EVT_UPPER)
  let w := data.setWidth 36
  if a = 0x44F7FF then doorbell s w
  else
    match hostStore s 8 a w with
    | (true, s) => hostRefused s a
    | (false, s) => s

/-- A BAR0 access (R546, R547). -/
def barAccess (s : State) (a first count : Nat) (data : Option (BitVec 64)) : State :=
  let s := s.when (s.flag R.CLK_STAT_STOPPED && hostWakes a) fun s => { s with power := { s.power with pllWaking := true } }
  match data with
  | none => hostReadSlot s a first count
  | some d => if first = 0 ∧ 8 ≤ count then hostWriteSlot s a d else s.raise R.PCI_EVT_PARTIAL

/-- A double word of BAR2 (R546): the MSI-X table of 32 entries, then the pending bits at byte 16#2000. -/
def bar2Read (s : State) (i : Nat) : Nat :=
  if i < 128 then s.host.table.getD i 0 else if i = 0x800 then s.host.pba else 0

/-- A double word of the MSI-X table written; an entry unmasked sends the message it holds pending (R549). -/
def bar2Write (s : State) (i : Nat) (d : Nat) : State :=
  if 128 ≤ i then s
  else
    let s := { s with
      host := { s.host with table := s.host.table.set i (d % 2 ^ 32) } }
    let v := i / 4
    if i % 4 = 3 ∧ !d.testBit 0 ∧ s.host.pba.testBit v then
      msixRaise { s with host := { s.host with pba := withBit s.host.pba v false } } v
    else s

/-- A BAR2 access of an 8-byte slot (R546); a write of the table may be of one double word. -/
def bar2Access (s : State) (slot first count : Nat) (data : Option (BitVec 64)) : State :=
  match data with
  | none =>
    let w := BitVec.ofNat 64 (bar2Read s (2 * slot) + bar2Read s (2 * slot + 1) * 2 ^ 32)
    hostComplete s (slotBytes w first count) false
  | some d =>
    let s := s.when (decide (first = 0 ∧ 4 ≤ count)) (bar2Write · (2 * slot) (d.toNat % 2 ^ 32))
    s.when (decide ((first = 0 ∧ 8 ≤ count) ∨ (first = 4 ∧ 4 ≤ count))) (bar2Write · (2 * slot + 1) (d.toNat / 2 ^ 32))

/-- The silicon revision in COL_TYPE (R523). -/
def State.rev (s : State) : Nat := bitsOf (s.reg R.COL_TYPE_TYPE.addr) 8 8

/-- A slot of the configuration space (R545), laid out as PCI Express Base 3.0 has its header (log 150): the Device ID and bit 2
of the command register in slot 0, the Revision ID and the class code in slot 1; the rest is free. -/
def configWord (s : State) (slot free : Nat) : BitVec 64 :=
  let f := BitVec.ofNat 64 free
  if slot = 0 then ((f &&& 0xFFFFFFFB0000FFFF) ||| 0x09090000) ||| BitVec.ofNat 64 (s.get R.PCI_STAT_BME * 2 ^ 34)
  else if slot = 1 then (f &&& 0xFFFFFFFF00000000) ||| BitVec.ofNat 64 (0x11800000 + s.rev)
  else f

/-- The configuration space (R545): bit 2 of the command register enables bus mastering (log 150); values that the manual does
not give are free (log 2). -/
def configAccess (s : State) (slot first count : Nat) (data : Option (BitVec 64)) : State :=
  match data with
  | none =>
    let (f, s) := s.draw
    hostComplete s (slotBytes (configWord s slot f) first count) false
  | some d => if slot = 0 ∧ first ≤ 4 ∧ 4 < first + count then s.setFlag R.PCI_STAT_BME (d.getLsbD 34) else s

/-- PCIE_ACCESS (R545 to R547): the space, the slot's word address, the first byte and the bytes, and the data of a write. -/
def pcieAccess (s : State) (space : PcieSpace) (slot first count : Nat) (data : Option (BitVec 64)) : State :=
  if !s.powered || s.flag R.PCI_STAT_PERST then s
  else
    match space with
    | .config => configAccess s slot first count data
    | .bar2 => bar2Access (vectorSync s) slot first count data
    | .bar0 =>
      if hostServed s then barAccess s slot first count data
      else
        let s := { s with
          host := { s.host with resetAccess := true } }
        if data.isNone then hostComplete s (BitVec.allOnes 64) false else s

/-- PCI_PERST_N moves (R56, R46): low resets the endpoint, with its link and configuration space. -/
def pciPerst (s : State) (low : Bool) : State :=
  if low then
    let s := { s with
      host := { s.host with table := List.replicate 128 0, pba := 0, completion := none } }
    let s := ((s.raise R.PCI_STAT_PERST).set R.PCI_STAT_BME 0).set R.PCI_STAT_LINK 0
    ((s.set R.PCI_STAT_SPEED 0).set R.PCI_STAT_WIDTH 0).set R.CLK_STAT_PCILOCK 0
  else (s.set R.PCI_STAT_PERST 0).setFlag R.CLK_STAT_PCILOCK s.powered

/-- The PCIe link trains, or goes down (R545). -/
def pcieLink (s : State) (up : Bool) (speed width : Nat) : State :=
  if s.flag R.PCI_STAT_PERST then s
  else if up then ((s.raise R.PCI_STAT_LINK).set R.PCI_STAT_SPEED speed).set R.PCI_STAT_WIDTH width
  else ((s.set R.PCI_STAT_LINK 0).set R.PCI_STAT_SPEED 0).set R.PCI_STAT_WIDTH 0

/-- The mirror port drives its outputs (R550): not until LOAD, in OFF, BOOT and LOAD, or while EN is 0. -/
def mirrorOn (s : State) : Bool :=
  !(s.dev == .off || s.dev == .boot || s.dev == .load) && s.flag R.MIR_CFG_EN

/-- MIR_IRQ_N is driven low (R553, R555). -/
def mirrorIrqLow (s : State) : Bool := s.mirror.flipIrq || s.mirror.replyIrq

/-- What MIR_D carries. -/
def mirrorDrive (s : State) (w : Option Word) : State := { s with mirror := { s.mirror with data := w } }

/-- A mirror-port read cycle (R550, R551, R553, R555). -/
def mirrorRead (s : State) (a : Nat) : State :=
  if !mirrorOn s then mirrorDrive s none
  else if 0x10000 ≤ a then mirrorDrive s (some 0)
  else
    let s := { s with
      mirror := { s.mirror with
        flipIrq := s.mirror.flipIrq && a != 0, replyIrq := s.mirror.replyIrq && a != 0xFFFF } }
    match readMem s (0x440000 + a) 8 with
    | (some w, s) => mirrorDrive s (some w)
    | (none, s) => mirrorDrive (s.raise R.MIR_EVT_UNC) (some (BitVec.allOnes 36))

/-- The HOLD word written by the host (R554): 1 suspends the flips from the next COMMIT, 0 lets them resume. -/
def mirrorHold (s : State) (w : Word) : State :=
  let s := s.store 0x44F7FE w
  if w = 1 then { s with mirror := { s.mirror with hold := true } }
  else if w = 0 then { s with mirror := { s.mirror with hold := false } }.set R.MIR_STAT_HOLD 0
  else s

/-- HOLD has stood for 10 ms (R554). -/
def holdExpiry (s : State) : State :=
  if s.mirror.hold then (mirrorHold s 0).raise R.MIR_EVT_HOLDEXP else s

/-- A mirror-port write cycle (R550, R551, R554, R555). -/
def mirrorWrite (s : State) (a : Nat) (w : Word) : State :=
  if !mirrorOn s ∨ 0x10000 ≤ a then s
  else if a < 0xF000 ∨ 0xF800 ≤ a then s.raise R.MIR_EVT_WIGN
  else if a = 0xF7FE then mirrorHold s w
  else if a = 0xF7FF then doorbell s w
  else s.store (0x440000 + a) w

/-- MIRROR_FLIP (R553): the copy completes and the planes exchange; words 4 to 7 of the header read 0 (R552). -/
def mirrorFlip (s : State) : State :=
  match s.mirror.copy with
  | none => s
  | some ws =>
    if !s.cycling then s
    else
      let plane := ws ++ (List.range 4).map fun i => (4 + i, (0 : Word))
      let s := plane.foldl (fun (s : State) (p : Nat × Word) => s.store (0x440000 + p.1) p.2) s
      let s := { s with
        mirror := { s.mirror with copy := none, flipIrq := true } }
      vectorSync ((s.add R.MIR_FLIPS_COUNT 1).vector 3)

/-- The TAP takes an instruction (R569, R570): EXTEST, CLAMP and HIGHZ act only while PORST_N is held low; DEBUG needs
ENABLE. A connected debugger keeps the core PLL running (R52, R54). -/
def tapLoad (s : State) (i : JtagInstr) : State :=
  let boundary := i == .extest || i == .clamp || i == .highz
  let refused := boundary && !s.power.porstLow
  let s := s.when (refused && s.powered) (·.raise R.DBG_EVT_BSIGN)
  let j : JtagInstr := if refused || i == JtagInstr.debug && !s.flag R.DBG_CFG_ENABLE then .bypass else i
  let on := j == JtagInstr.debug
  let s := s.when (on && s.flag R.CLK_STAT_STOPPED) fun s => { s with power := { s.power with pllWaking := true } }
  { s with
    dbg := { s.dbg with instr := j, out := none } }.setFlag R.DBG_STAT_CONN on

/-- What a scan shifts out. -/
def tapOut (s : State) (w : Option Word) : State := { s with dbg := { s.dbg with out := w } }

/-- IDCODE (R569); the manual does not give Cushalar's manufacturer identity, which is free (log 2). -/
def idcode (s : State) (maker : Nat) : Word :=
  BitVec.ofNat 36 (s.rev % 16 * 2 ^ 28 + 0xB909 * 2 ^ 12 + maker % 2 ^ 11 * 2 + 1)

/-- A scan of data under the instruction loaded (R569, R570): IDCODE shifts out the identity; under DEBUG a connected debugger
reads or writes one word of the address space. -/
def tapScan (s : State) (access : Option (Nat × Option Word)) : State :=
  if s.dbg.instr == .idcode then
    let (f, s) := s.draw
    tapOut s (some (idcode s f))
  else
    match access with
    | none => s
    | some (a, w) =>
      if !hostServed s || !s.flag R.DBG_STAT_CONN then s
      else
        match w with
        | some w => (hostStore s 17 a w).2
        | none =>
          match hostLoad s 17 a with
          | (.word w, s) => tapOut s (some w)
          | (_, s) => s

/-- PCIE_ACCESS (R547). -/
def execPcieAccess (space : PcieSpace) (slot : BitVec 24) (first : Fin 8) (count : Fin 9) (data : Option (BitVec 64))
    (s : State) : Result := s.answer (pcieAccess s space slot.toNat first count data)

/-- PCI_PERST (R56). -/
def execPciPerst (low : Bool) (s : State) : Result := s.answer (pciPerst s low)

/-- PCIE_LINK_CHANGE (R545): speed and width coded as in PCI_STAT. -/
def execPcieLinkChange (up : Bool) (speed width : Fin 4) (s : State) : Result := s.answer (pcieLink s up speed width)

/-- SOFTWARE_INTERRUPT (R549): the mask of vectors 24 to 31. -/
def execSoftwareInterrupt (mask : BitVec 8) (s : State) : Result :=
  s.answer (if s.powered then vectorSync (s.orBits R.PCI_VPEND_PEND (mask.toNat * 2 ^ 24)) else s)

/-- MIRROR_READ (R550). -/
def execMirrorRead (addr : BitVec 22) (s : State) : Result := s.answer (mirrorRead s addr.toNat)

/-- MIRROR_WRITE (R550). -/
def execMirrorWrite (addr : BitVec 22) (value : Word) (s : State) : Result := s.answer (mirrorWrite s addr.toNat value)

/-- MIRROR_FLIP (R553). -/
def execMirrorFlip (s : State) : Result := s.answer (if s.powered then mirrorFlip s else s)

/-- MIRROR_HOLD (R554): a mirror-port write to the HOLD word. -/
def execMirrorHold (value : Word) (s : State) : Result := s.answer (if mirrorOn s then mirrorHold s value else s)

/-- HOLD_EXPIRY (R554). -/
def execHoldExpiry (s : State) : Result := s.answer (if s.powered then holdExpiry s else s)

/-- DOORBELL (R555): a mirror-port write to the doorbell word. -/
def execDoorbell (value : Word) (s : State) : Result := s.answer (if mirrorOn s then doorbell s value else s)

/-- REPLY_DOORBELL (R555): a word core writes the reply doorbell. -/
def execReplyDoorbell (core : Fin 8) (value : Word) (s : State) : Result :=
  s.answer (if coreRuns s core then (storeWord s core 0x44FFFF value).2 else s)

/-- JTAG_INSTRUCTION (R569): the instruction, and what a debugger scans in with it: a word address, and the word of a write. -/
def execJtagInstruction (scan : JtagScan) (s : State) : Result :=
  s.answer (tapScan (tapLoad s scan.instr) (scan.access.map fun x => (x.1.toNat, x.2)))

/-- DEBUG_UART_INPUT (R570): accepted while ENABLE is 1. -/
def execDebugUartInput (byte : BitVec 8) (s : State) : Result :=
  s.answer <| if s.powered && s.flag R.DBG_CFG_ENABLE then
      { s with dbg := { s.dbg with uart := s.dbg.uart ++ [byte.toNat] } }
    else s

/-- TAP_RESET (R55): TRST_N low resets the test access port alone; IDCODE is the instruction of a reset TAP. -/
def execTapReset (s : State) : Result :=
  s.answer ({ s with dbg := { s.dbg with instr := .idcode, out := none } }.set R.DBG_STAT_CONN 0)

end Sys2Proof.Machine
end

