-- ==== Sys2Proof/Machine/Dispatch.lean ====
section
/-!
DEFINITION. The meaning of every command: each arm calls it.
-/
namespace Sys2Proof.Machine

/-- The effect of a command on everything but the queue. -/
def exec (i : Instr) (s : State) : Host.Outcome State Fault Refusal :=
  match i with
  | .powerUp straps refRunning => Sys2Proof.Machine.execPowerUp straps refRunning s
  | .aonPowerUp => Sys2Proof.Machine.execAonPowerUp s
  | .railLost rail => Sys2Proof.Machine.execRailLost rail s
  | .railWarning rail => Sys2Proof.Machine.execRailWarning rail s
  | .porstAssert => Sys2Proof.Machine.execPorstAssert s
  | .rstNAssert => Sys2Proof.Machine.execRstNAssert s
  | .resetPinRelease porst straps => Sys2Proof.Machine.execResetPinRelease porst straps s
  | .debugResetRequest cold => Sys2Proof.Machine.execDebugResetRequest cold s
  | .deferredResetProceed => Sys2Proof.Machine.execDeferredResetProceed s
  | .deferralExpiry => Sys2Proof.Machine.execDeferralExpiry s
  | .mainReferenceLost => Sys2Proof.Machine.execMainReferenceLost s
  | .mainReferenceStable => Sys2Proof.Machine.execMainReferenceStable s
  | .slowCrystalFail => Sys2Proof.Machine.execSlowCrystalFail s
  | .slowCrystalReturn => Sys2Proof.Machine.execSlowCrystalReturn s
  | .corePllStop => Sys2Proof.Machine.execCorePllStop s
  | .pllPrewake => Sys2Proof.Machine.execPllPrewake s
  | .pllRelockLate => Sys2Proof.Machine.execPllRelockLate s
  | .pllWakeOnDemand => Sys2Proof.Machine.execPllWakeOnDemand s
  | .secureStart colophon offset flash slot0 slot1 => Sys2Proof.Machine.execSecureStart colophon offset flash slot0 slot1 s
  | .houseFatalFault => Sys2Proof.Machine.execHouseFatalFault s
  | .pfailDetect pin => Sys2Proof.Machine.execPfailDetect pin s
  | .pfailGlitch => Sys2Proof.Machine.execPfailGlitch s
  | .pfailCommitWindowEnd => Sys2Proof.Machine.execPfailCommitWindowEnd s
  | .pfailComplete => Sys2Proof.Machine.execPfailComplete s
  | .startCold master => Sys2Proof.Machine.execStartCold master s
  | .startWarm master => Sys2Proof.Machine.execStartWarm master s
  | .stop master => Sys2Proof.Machine.execStop master s
  | .resetWarm master => Sys2Proof.Machine.execResetWarm master s
  | .resetCold master => Sys2Proof.Machine.execResetCold master s
  | .leaveSafe master ofs => Sys2Proof.Machine.execLeaveSafe master ofs s
  | .expertUnlockStep master key block => Sys2Proof.Machine.execExpertUnlockStep master key block s
  | .expertRelock master block => Sys2Proof.Machine.execExpertRelock master block s
  | .expertRestore master block => Sys2Proof.Machine.execExpertRestore master block s
  | .registerWrite master addr value => Sys2Proof.Machine.execRegisterWrite master addr value s
  | .fieldCommandFrame arrives => Sys2Proof.Machine.execFieldCommandFrame arrives s
  | .fieldLinkFallback => Sys2Proof.Machine.execFieldLinkFallback s
  | .fieldStatusFrame amps volts pins => Sys2Proof.Machine.execFieldStatusFrame amps volts pins s
  | .statusFrameMissing => Sys2Proof.Machine.execStatusFrameMissing s
  | .dieLinkLost => Sys2Proof.Machine.execDieLinkLost s
  | .fieldDiePowerUp groups => Sys2Proof.Machine.execFieldDiePowerUp groups s
  | .folioLoad master => Sys2Proof.Machine.execFolioLoad master s
  | .folioCancel master => Sys2Proof.Machine.execFolioCancel master s
  | .folioForward master => Sys2Proof.Machine.execFolioForward master s
  | .firstPassDone img => Sys2Proof.Machine.execFirstPassDone img s
  | .secondPassDone digestOk => Sys2Proof.Machine.execSecondPassDone digestOk s
  | .loadSourceFailure => Sys2Proof.Machine.execLoadSourceFailure s
  | .spineLoadTimeout => Sys2Proof.Machine.execSpineLoadTimeout s
  | .shelfDelivery node shelf => Sys2Proof.Machine.execShelfDelivery node shelf s
  | .handleCreate port => Sys2Proof.Machine.execHandleCreate port s
  | .handleDestroy port => Sys2Proof.Machine.execHandleDestroy port s
  | .handleQuery port => Sys2Proof.Machine.execHandleQuery port s
  | .handleCheck port => Sys2Proof.Machine.execHandleCheck port s
  | .handleCommandEffect port => Sys2Proof.Machine.execHandleCommandEffect port s
  | .latch cls => Sys2Proof.Machine.execLatch cls s
  | .gatherComplete cls => Sys2Proof.Machine.execGatherComplete cls s
  | .gatherDeadline cls => Sys2Proof.Machine.execGatherDeadline cls s
  | .solveComplete cls => Sys2Proof.Machine.execSolveComplete cls s
  | .scatterComplete cls => Sys2Proof.Machine.execScatterComplete cls s
  | .commitCheck cls => Sys2Proof.Machine.execCommitCheck cls s
  | .stretchCheck cls => Sys2Proof.Machine.execStretchCheck cls s
  | .overrunWorkDone cls => Sys2Proof.Machine.execOverrunWorkDone cls s
  | .commit cls => Sys2Proof.Machine.execCommit cls s
  | .commitDecision cls msg => Sys2Proof.Machine.execCommitDecision cls msg s
  | .stopBroadcast head => Sys2Proof.Machine.execStopBroadcast head s
  | .eventTrigger event => Sys2Proof.Machine.execEventTrigger event s
  | .softwareTrigger mask => Sys2Proof.Machine.execSoftwareTrigger mask s
  | .eventBoundExceeded core => Sys2Proof.Machine.execEventBoundExceeded core s
  | .debugHalt => Sys2Proof.Machine.execDebugHalt s
  | .debugResume => Sys2Proof.Machine.execDebugResume s
  | .fabricPassStart quire => Sys2Proof.Machine.execFabricPassStart quire s
  | .fabricPassComplete quire => Sys2Proof.Machine.execFabricPassComplete quire s
  | .planeSwitch quires => Sys2Proof.Machine.execPlaneSwitch quires s
  | .presetWrite port value => Sys2Proof.Machine.execPresetWrite port value s
  | .probeSelect port what unit idx => Sys2Proof.Machine.execProbeSelect port what unit idx s
  | .reflexTrip t => Sys2Proof.Machine.execReflexTrip t s
  | .tripClear t => Sys2Proof.Machine.execTripClear t s
  | .pinMismatch pin => Sys2Proof.Machine.execPinMismatch pin s
  | .fabricScrub quire stateBits staged offset kind round => Sys2Proof.Machine.execFabricScrub quire stateBits staged offset kind round s
  | .ldi core cond opnd => Sys2Proof.Machine.execLdi core cond opnd s
  | .ldiu core cond opnd => Sys2Proof.Machine.execLdiu core cond opnd s
  | .lea core cond opnd lit => Sys2Proof.Machine.execLea core cond opnd lit s
  | .mfs core cond opnd => Sys2Proof.Machine.execMfs core cond opnd s
  | .mts core cond opnd => Sys2Proof.Machine.execMts core cond opnd s
  | .ld core cond opnd lit => Sys2Proof.Machine.execLd core cond opnd lit s
  | .st core cond opnd lit => Sys2Proof.Machine.execSt core cond opnd lit s
  | .ldh core cond opnd lit => Sys2Proof.Machine.execLdh core cond opnd lit s
  | .sth core cond opnd lit => Sys2Proof.Machine.execSth core cond opnd lit s
  | .ldd core cond opnd lit => Sys2Proof.Machine.execLdd core cond opnd lit s
  | .std core cond opnd lit => Sys2Proof.Machine.execStd core cond opnd lit s
  | .atom core cond opnd lit => Sys2Proof.Machine.execAtom core cond opnd lit s
  | .alu core cond opnd => Sys2Proof.Machine.execAlu core cond opnd s
  | .alui core cond opnd => Sys2Proof.Machine.execAlui core cond opnd s
  | .alum core cond opnd lit => Sys2Proof.Machine.execAlum core cond opnd lit s
  | .dalu core cond opnd => Sys2Proof.Machine.execDalu core cond opnd s
  | .falu core cond opnd => Sys2Proof.Machine.execFalu core cond opnd s
  | .falum core cond opnd lit => Sys2Proof.Machine.execFalum core cond opnd lit s
  | .mac core cond opnd => Sys2Proof.Machine.execMac core cond opnd s
  | .macd core cond opnd => Sys2Proof.Machine.execMacd core cond opnd s
  | .bit core cond opnd => Sys2Proof.Machine.execBit core cond opnd s
  | .bitm core cond opnd lit => Sys2Proof.Machine.execBitm core cond opnd lit s
  | .br core cond opnd => Sys2Proof.Machine.execBr core cond opnd s
  | .call core cond opnd => Sys2Proof.Machine.execCall core cond opnd s
  | .jmp core cond opnd => Sys2Proof.Machine.execJmp core cond opnd s
  | .rep core cond opnd => Sys2Proof.Machine.execRep core cond opnd s
  | .movs core cond rest => Sys2Proof.Machine.execMovs core cond rest s
  | .fill core cond rest => Sys2Proof.Machine.execFill core cond rest s
  | .cmps core cond rest => Sys2Proof.Machine.execCmps core cond rest s
  | .scan core cond rest => Sys2Proof.Machine.execScan core cond rest s
  | .nop core cond rest => Sys2Proof.Machine.execNop core cond rest s
  | .tend core cond rest => Sys2Proof.Machine.execTend core cond rest s
  | .tquit core cond rest => Sys2Proof.Machine.execTquit core cond rest s
  | .rtt core cond rest => Sys2Proof.Machine.execRtt core cond rest s
  | .debug core cond rest => Sys2Proof.Machine.execDebug core cond rest s
  | .unassignedOpcode core word => Sys2Proof.Machine.execUnassignedOpcode core word s
  | .fenceC core cond word => Sys2Proof.Machine.execFenceC core cond word s
  | .fenceD core cond word => Sys2Proof.Machine.execFenceD core cond word s
  | .fenceS core cond word => Sys2Proof.Machine.execFenceS core cond word s
  | .fenceTimeout core => Sys2Proof.Machine.execFenceTimeout core s
  | .fcall core cond unit rest => Sys2Proof.Machine.execFcall core cond unit rest s
  | .fcallp core cond unit rest => Sys2Proof.Machine.execFcallp core cond unit rest s
  | .fwait core cond unit rest => Sys2Proof.Machine.execFwait core cond unit rest s
  | .hcmdCreate core cond d a post rest => Sys2Proof.Machine.execHcmdCreate core cond d a post rest s
  | .hcmdDestroy core cond d a post rest => Sys2Proof.Machine.execHcmdDestroy core cond d a post rest s
  | .hcmdQuery core cond d a post rest => Sys2Proof.Machine.execHcmdQuery core cond d a post rest s
  | .hwait core cond d a post rest => Sys2Proof.Machine.execHwait core cond d a post rest s
  | .storeError core => Sys2Proof.Machine.execStoreError core s
  | .handlerLimit core => Sys2Proof.Machine.execHandlerLimit core s
  | .memoryScrub addr kind => Sys2Proof.Machine.execMemoryScrub addr kind s
  | .imposerSearch trig proposal => Sys2Proof.Machine.execImposerSearch trig proposal s
  | .placementSwitch check => Sys2Proof.Machine.execPlacementSwitch check s
  | .imposerPinWrite entry value => Sys2Proof.Machine.execImposerPinWrite entry value s
  | .olcStage master img => Sys2Proof.Machine.execOlcStage master img s
  | .olcForward master => Sys2Proof.Machine.execOlcForward master s
  | .stagingDone => Sys2Proof.Machine.execStagingDone s
  | .backgroundCopy => Sys2Proof.Machine.execBackgroundCopy s
  | .olcArm master at' => Sys2Proof.Machine.execOlcArm master at' s
  | .olcSwitch => Sys2Proof.Machine.execOlcSwitch s
  | .olcConfirm master => Sys2Proof.Machine.execOlcConfirm master s
  | .olcConfirmApply => Sys2Proof.Machine.execOlcConfirmApply s
  | .olcUndo master => Sys2Proof.Machine.execOlcUndo master s
  | .olcUndoApply => Sys2Proof.Machine.execOlcUndoApply s
  | .olcDiscard master => Sys2Proof.Machine.execOlcDiscard master s
  | .undotExpiry => Sys2Proof.Machine.execUndotExpiry s
  | .armMessage msg => Sys2Proof.Machine.execArmMessage msg s
  | .armAcknowledge head boundary => Sys2Proof.Machine.execArmAcknowledge head boundary s
  | .goMessage head => Sys2Proof.Machine.execGoMessage head s
  | .goTimeout => Sys2Proof.Machine.execGoTimeout s
  | .forceSet port => Sys2Proof.Machine.execForceSet port s
  | .forceClear port => Sys2Proof.Machine.execForceClear port s
  | .forceClearall port => Sys2Proof.Machine.execForceClearall port s
  | .forceRead port => Sys2Proof.Machine.execForceRead port s
  | .tickFrame head msg => Sys2Proof.Machine.execTickFrame head msg s
  | .statusFrame head msg => Sys2Proof.Machine.execStatusFrame head msg s
  | .discoverFrame head records => Sys2Proof.Machine.execDiscoverFrame head records s
  | .discoveryEnd => Sys2Proof.Machine.execDiscoveryEnd s
  | .discoveryRepeat => Sys2Proof.Machine.execDiscoveryRepeat s
  | .gatherFrame head payload => Sys2Proof.Machine.execGatherFrame head payload s
  | .scatterFrame head payload => Sys2Proof.Machine.execScatterFrame head payload s
  | .feedFrame head unit points => Sys2Proof.Machine.execFeedFrame head unit points s
  | .returnFrame head unit points data => Sys2Proof.Machine.execReturnFrame head unit points data s
  | .barrierCompletion cls head => Sys2Proof.Machine.execBarrierCompletion cls head s
  | .startBroadcast msg => Sys2Proof.Machine.execStartBroadcast msg s
  | .startTimeout => Sys2Proof.Machine.execStartTimeout s
  | .releaseBroadcast msg => Sys2Proof.Machine.execReleaseBroadcast msg s
  | .bulkFrame head msg => Sys2Proof.Machine.execBulkFrame head msg s
  | .remoteFrame head msg => Sys2Proof.Machine.execRemoteFrame head msg s
  | .remoteTimeout master => Sys2Proof.Machine.execRemoteTimeout master s
  | .frameForward head => Sys2Proof.Machine.execFrameForward head s
  | .delayExchange lane delay => Sys2Proof.Machine.execDelayExchange lane delay s
  | .laneDown lane path => Sys2Proof.Machine.execLaneDown lane path s
  | .laneRestored lane path => Sys2Proof.Machine.execLaneRestored lane path s
  | .nodeLost node => Sys2Proof.Machine.execNodeLost node s
  | .workerIsolated => Sys2Proof.Machine.execWorkerIsolated s
  | .isolimExpiry => Sys2Proof.Machine.execIsolimExpiry s
  | .nodeAdmission node head => Sys2Proof.Machine.execNodeAdmission node head s
  | .snapshot grid => Sys2Proof.Machine.execSnapshot grid s
  | .snapshotDone => Sys2Proof.Machine.execSnapshotDone s
  | .bcast master msg => Sys2Proof.Machine.execBcast master msg s
  | .spineResetWarm master msg => Sys2Proof.Machine.execSpineResetWarm master msg s
  | .spineResetCold master msg => Sys2Proof.Machine.execSpineResetCold master msg s
  | .resetInstant => Sys2Proof.Machine.execResetInstant s
  | .heartSend => Sys2Proof.Machine.execHeartSend s
  | .heartFrame head msg => Sys2Proof.Machine.execHeartFrame head msg s
  | .heartbeatMiss => Sys2Proof.Machine.execHeartbeatMiss s
  | .pairWaitTimeout => Sys2Proof.Machine.execPairWaitTimeout s
  | .pairingCheck peer => Sys2Proof.Machine.execPairingCheck peer s
  | .trkinFrame head points => Sys2Proof.Machine.execTrkinFrame head points s
  | .trklogFrame head bound runs last => Sys2Proof.Machine.execTrklogFrame head bound runs last s
  | .trkctlFrame head items => Sys2Proof.Machine.execTrkctlFrame head items s
  | .digestFrame head digest => Sys2Proof.Machine.execDigestFrame head digest s
  | .takeover => Sys2Proof.Machine.execTakeover s
  | .primaryYield => Sys2Proof.Machine.execPrimaryYield s
  | .twinSwitch master => Sys2Proof.Machine.execTwinSwitch master s
  | .switchover => Sys2Proof.Machine.execSwitchover s
  | .twinWithdraw master => Sys2Proof.Machine.execTwinWithdraw master s
  | .resyncCopy msg => Sys2Proof.Machine.execResyncCopy msg s
  | .fabricStateCopy msg => Sys2Proof.Machine.execFabricStateCopy msg s
  | .autorejoin => Sys2Proof.Machine.execAutorejoin s
  | .inputFilterAccept ch raw => Sys2Proof.Machine.execInputFilterAccept ch raw s
  | .wireBreak ch => Sys2Proof.Machine.execWireBreak ch s
  | .wireBreakEnd ch => Sys2Proof.Machine.execWireBreakEnd ch s
  | .counterEdge ch rising => Sys2Proof.Machine.execCounterEdge ch rising s
  | .thermalCycle ch => Sys2Proof.Machine.execThermalCycle ch s
  | .tcntReset ch => Sys2Proof.Machine.execTcntReset ch s
  | .groupOverload ch => Sys2Proof.Machine.execGroupOverload ch s
  | .externalFeed ch => Sys2Proof.Machine.execExternalFeed ch s
  | .externalFeedEnd ch => Sys2Proof.Machine.execExternalFeedEnd ch s
  | .openLoad ch => Sys2Proof.Machine.execOpenLoad ch s
  | .lplusLow group => Sys2Proof.Machine.execLplusLow group s
  | .lplusLowEnd group => Sys2Proof.Machine.execLplusLowEnd group s
  | .lplusMissing group => Sys2Proof.Machine.execLplusMissing group s
  | .recoveryBegin group => Sys2Proof.Machine.execRecoveryBegin group s
  | .recoveryEnd group => Sys2Proof.Machine.execRecoveryEnd group s
  | .fieldAck mask => Sys2Proof.Machine.execFieldAck mask s
  | .latchRestart mask => Sys2Proof.Machine.execLatchRestart mask s
  | .frontEndTest mask => Sys2Proof.Machine.execFrontEndTest mask s
  | .testDone fails => Sys2Proof.Machine.execTestDone fails s
  | .modulatorSample input raw ovr => Sys2Proof.Machine.execModulatorSample input raw ovr s
  | .modulatorInputFault input => Sys2Proof.Machine.execModulatorInputFault input s
  | .modulatorFaultEnd input => Sys2Proof.Machine.execModulatorFaultEnd input s
  | .lineCycleEnd ch means => Sys2Proof.Machine.execLineCycleEnd ch means s
  | .meterCommit => Sys2Proof.Machine.execMeterCommit s
  | .demandIntervalEnd pqc ch => Sys2Proof.Machine.execDemandIntervalEnd pqc ch s
  | .pqcPinEdge pin => Sys2Proof.Machine.execPqcPinEdge pin s
  | .meterStart => Sys2Proof.Machine.execMeterStart s
  | .tfifoRead => Sys2Proof.Machine.execTfifoRead s
  | .accumulatorRead port => Sys2Proof.Machine.execAccumulatorRead port s
  | .canFrameReceived ctrl heard => Sys2Proof.Machine.execCanFrameReceived ctrl heard s
  | .canFrameSent sent => Sys2Proof.Machine.execCanFrameSent sent s
  | .canTxError ctrl cause => Sys2Proof.Machine.execCanTxError ctrl cause s
  | .txreq port => Sys2Proof.Machine.execTxreq port s
  | .cancel port started => Sys2Proof.Machine.execCancel port started s
  | .busoffRecovery ctrl => Sys2Proof.Machine.execBusoffRecovery ctrl s
  | .recover ctrl => Sys2Proof.Machine.execRecover ctrl s
  | .canSleep ctrl => Sys2Proof.Machine.execCanSleep ctrl s
  | .canWake ctrl wake => Sys2Proof.Machine.execCanWake ctrl wake s
  | .canRateWrite master ctrl value => Sys2Proof.Machine.execCanRateWrite master ctrl value s
  | .canTimingApply ctrl => Sys2Proof.Machine.execCanTimingApply ctrl s
  | .ptpMessage dom offset utc gm => Sys2Proof.Machine.execPtpMessage dom offset utc gm s
  | .sourceLoss dom => Sys2Proof.Machine.execSourceLoss dom s
  | .holdoverExpiry dom => Sys2Proof.Machine.execHoldoverExpiry dom s
  | .switch master dom => Sys2Proof.Machine.execSwitch master dom s
  | .set master dom => Sys2Proof.Machine.execSet master dom s
  | .timeNoticeApply => Sys2Proof.Machine.execTimeNoticeApply s
  | .slewDone => Sys2Proof.Machine.execSlewDone s
  | .tmrExpiry idx => Sys2Proof.Machine.execTmrExpiry idx s
  | .tmrCapture idx rising => Sys2Proof.Machine.execTmrCapture idx rising s
  | .timeSnapshot port => Sys2Proof.Machine.execTimeSnapshot port s
  | .rtcSnap => Sys2Proof.Machine.execRtcSnap s
  | .apply => Sys2Proof.Machine.execApply s
  | .shift => Sys2Proof.Machine.execShift s
  | .arm => Sys2Proof.Machine.execArm s
  | .disarm => Sys2Proof.Machine.execDisarm s
  | .calendarRollover => Sys2Proof.Machine.execCalendarRollover s
  | .alarmFire => Sys2Proof.Machine.execAlarmFire s
  | .periodicWake => Sys2Proof.Machine.execPeriodicWake s
  | .calendarSync => Sys2Proof.Machine.execCalendarSync s
  | .watchdogService master token => Sys2Proof.Machine.execWatchdogService master token s
  | .watchdogCheckin master slot token => Sys2Proof.Machine.execWatchdogCheckin master slot token s
  | .windowClose => Sys2Proof.Machine.execWindowClose s
  | .retainStoreCmd master => Sys2Proof.Machine.execRetainStoreCmd master s
  | .retainStoreStart => Sys2Proof.Machine.execRetainStoreStart s
  | .periodicStore => Sys2Proof.Machine.execPeriodicStore s
  | .minivExpiry => Sys2Proof.Machine.execMinivExpiry s
  | .retainStoreDone ok micros => Sys2Proof.Machine.execRetainStoreDone ok micros s
  | .keeperAbsorb => Sys2Proof.Machine.execKeeperAbsorb s
  | .wideCounterCommit => Sys2Proof.Machine.execWideCounterCommit s
  | .stage port => Sys2Proof.Machine.execStage port s
  | .commitGroup port => Sys2Proof.Machine.execCommitGroup port s
  | .add port => Sys2Proof.Machine.execAdd port s
  | .keeperValueRead port => Sys2Proof.Machine.execKeeperValueRead port s
  | .reportAccept toJournal code source d0 d1 => Sys2Proof.Machine.execReportAccept toJournal code source d0 d1 s
  | .recordWrite => Sys2Proof.Machine.execRecordWrite s
  | .heldRecordRelease toJournal => Sys2Proof.Machine.execHeldRecordRelease toJournal s
  | .clear master ofs => Sys2Proof.Machine.execClear master ofs s
  | .next port => Sys2Proof.Machine.execNext port s
  | .mark port => Sys2Proof.Machine.execMark port s
  | .write port => Sys2Proof.Machine.execWrite port s
  | .claim master => Sys2Proof.Machine.execClaim master s
  | .install master ofs => Sys2Proof.Machine.execInstall master ofs s
  | .revoke master ofs => Sys2Proof.Machine.execRevoke master ofs s
  | .setpol master ofs => Sys2Proof.Machine.execSetpol master ofs s
  | .attest master nonce => Sys2Proof.Machine.execAttest master nonce s
  | .updWrite master keepFolio => Sys2Proof.Machine.execUpdWrite master keepFolio s
  | .slotWriteDone fault img => Sys2Proof.Machine.execSlotWriteDone fault img s
  | .folwrite master slot img => Sys2Proof.Machine.execFolwrite master slot img s
  | .shelfWrite master slot shelf => Sys2Proof.Machine.execShelfWrite master slot shelf s
  | .distribute master self img => Sys2Proof.Machine.execDistribute master self img s
  | .distributeChunk head msg => Sys2Proof.Machine.execDistributeChunk head msg s
  | .creditTimeout node => Sys2Proof.Machine.execCreditTimeout node s
  | .activate master => Sys2Proof.Machine.execActivate master s
  | .reject master => Sys2Proof.Machine.execReject master s
  | .updCancel master => Sys2Proof.Machine.execUpdCancel master s
  | .trialConfirm testsOk => Sys2Proof.Machine.execTrialConfirm testsOk s
  | .trialmaxExpiry => Sys2Proof.Machine.execTrialmaxExpiry s
  | .pcieAccess space slot first count data => Sys2Proof.Machine.execPcieAccess space slot first count data s
  | .pciPerst low => Sys2Proof.Machine.execPciPerst low s
  | .softwareInterrupt mask => Sys2Proof.Machine.execSoftwareInterrupt mask s
  | .mirrorRead addr => Sys2Proof.Machine.execMirrorRead addr s
  | .mirrorWrite addr value => Sys2Proof.Machine.execMirrorWrite addr value s
  | .mirrorFlip => Sys2Proof.Machine.execMirrorFlip s
  | .mirrorHold value => Sys2Proof.Machine.execMirrorHold value s
  | .holdExpiry => Sys2Proof.Machine.execHoldExpiry s
  | .doorbell value => Sys2Proof.Machine.execDoorbell value s
  | .replyDoorbell core value => Sys2Proof.Machine.execReplyDoorbell core value s
  | .ethLinkChange port up speed => Sys2Proof.Machine.execEthLinkChange port up speed s
  | .arpIcmpRequest port target => Sys2Proof.Machine.execArpIcmpRequest port target s
  | .stationInFrame port frame => Sys2Proof.Machine.execStationInFrame port frame s
  | .stationDrop idx => Sys2Proof.Machine.execStationDrop idx s
  | .keepAlive cls => Sys2Proof.Machine.execKeepAlive cls s
  | .jtagInstruction scan => Sys2Proof.Machine.execJtagInstruction scan s
  | .debugUartInput byte => Sys2Proof.Machine.execDebugUartInput byte s
  | .vbatLow => Sys2Proof.Machine.execVbatLow s
  | .corePllLocked => Sys2Proof.Machine.execCorePllLocked s
  | .fastPinEdge pin level => Sys2Proof.Machine.execFastPinEdge pin level s
  | .canBusIntegration ctrl => Sys2Proof.Machine.execCanBusIntegration ctrl s
  | .canRxError ctrl lec dominant => Sys2Proof.Machine.execCanRxError ctrl lec dominant s
  | .pcieLinkChange up speed width => Sys2Proof.Machine.execPcieLinkChange up speed width s
  | .grainBoundary => Sys2Proof.Machine.execGrainBoundary s
  | .startInstant => Sys2Proof.Machine.execStartInstant s
  | .expertUnlockTimeout => Sys2Proof.Machine.execExpertUnlockTimeout s
  | .tapReset => Sys2Proof.Machine.execTapReset s
  | .ethFrameDiscard port crc => Sys2Proof.Machine.execEthFrameDiscard port crc s
  | .hsrRingForward port src seq => Sys2Proof.Machine.execHsrRingForward port src seq s
  | .gateControlEntry port => Sys2Proof.Machine.execGateControlEntry port s

end Sys2Proof.Machine
end

