-- ==== Sys2Proof/WellFormed.lean ====
section
/-!
DEFINITION. Well-formed commands: what a frame, an image or a measurement brings keeps to the widths that the rules
give its fields. The operands whose type already holds them to their width need no check.
-/
namespace Sys2Proof
open Sys2Proof.Machine

/-- R318: the widths of the header fields; a frame arrives on one of the six lanes, and class 8 stands for none. -/
def headWf (h : FrameHead) : Bool :=
  decide (h.lane < 6) && decide (h.src < 128) && decide (h.dst < 128) && decide (h.seq < 2 ^ 24) &&
  decide (h.tref < 2 ^ 36) && decide (h.cls ≤ 8) && decide (h.hops < 64)

/-- R318: the payload is even and at most 16,384 words. -/
def payloadWf (ws : List Word) : Bool := ws.length % 2 == 0 && decide (ws.length ≤ 16384)

/-- R319: a payload of a BULK or REMOTE frame is at most 256 words. -/
def bulkWordsWf (n : Nat) : Bool := decide (n ≤ 256)

/-- R148: a quality has 2 bits, and a bit point holds one bit. -/
def pointWf (p : PointValue) : Bool := decide (p.qual < 4) && (p.word || p.value.toNat < 2)

/-- R337: a TICK frame gives two time domains and names one of them as active; its receiver counts at most 63 hops. -/
def tickWf (m : TickMsg) : Bool := decide (m.active < 2) && decide (m.hops < 64)

/-- R28, R342, R131, R140: device states have 4 bits, lanes 6, classes 8. -/
def statusWf (m : StatusMsg) : Bool :=
  decide (m.state < 16) && decide (m.lanes < 64) && decide (m.latching < 256) && decide (m.checked < 256) &&
  decide (m.overrun < 256) && m.works.all fun w => decide (w.1 < 8) && decide (w.2.1 < 8)

/-- R318, R342: a node address has 7 bits and a device state 4. -/
def recordWf (r : NodeRecord) : Bool := decide (r.addr < 128) && decide (r.hops < 64) && decide (r.state < 16)

/-- R351: a heartbeat gives a device state and a PSTATE of 4 and 3 bits. -/
def heartWf (m : HeartMsg) : Bool := decide (m.state < 16) && decide (m.pstate < 8)

/-- R533: an image header has 64 words. -/
def flashWf (i : FlashImage) : Bool := i.header.length == 64

/-- R550: the words of a run that a frame lists lie in the 24-bit address space. -/
def runWf (r : Nat × List Word) : Bool := decide (r.1 + r.2.length ≤ 2 ^ 24)

/-- R319: the words of a folio or an update image arrive in payloads of at most 256 words. -/
def bulkWf : BulkMsg → Bool
  | .folio words _ => bulkWordsWf words
  | .tipin _ => true
  | .code _ core data => decide (core < 8) && data.all runWf
  | .image words => bulkWordsWf words

/-- R341: a remote access names a word address of 24 bits. -/
def remoteWf : RemoteMsg → Bool
  | .read addr => decide (addr < 2 ^ 24)
  | .write addr _ _ => decide (addr < 2 ^ 24)
  | .answer master ea _ _ => decide (master < 9) && decide (ea < 2 ^ 24)

/-- R542: an image has at most 60 chunks; a report has the widths of UPD_NODEa. -/
def chunkWf : ChunkMsg → Bool
  | .data img index _ => flashWf img && decide (index < 60)
  | .report state cause chunks => decide (state < 8) && decide (cause < 16) && decide (chunks ≤ 60)

/-- R430, R434: three formats, identifiers of 29 bits, at most 8, 64 or 2,048 bytes, packed four a word. -/
def canWf (f : CanFrame) : Bool :=
  decide (f.fmt < 3) && decide (f.id < 2 ^ 29) && decide (f.sdt < 256) && decide (f.vcid < 256) && decide (f.af < 2 ^ 32) &&
  decide (f.len ≤ (if f.fmt = 0 then 8 else if f.fmt = 1 then 64 else 2048)) && f.payload.length == (f.len + 3) / 4

/-- R546: an access to consecutive bytes stays within its 8-byte slot. -/
def slotWf (first : Fin 8) (count : Fin 9) : Bool := decide (1 ≤ count.val) && decide (first.val + count.val ≤ 8)

/-- A command is well formed. -/
def Instr.wf : Instr → Bool
  | .powerUp _ _ => true
  | .aonPowerUp => true
  | .railLost _ => true
  | .railWarning _ => true
  | .porstAssert => true
  | .rstNAssert => true
  | .resetPinRelease _ _ => true
  | .debugResetRequest _ => true
  | .deferredResetProceed => true
  | .deferralExpiry => true
  | .mainReferenceLost => true
  | .mainReferenceStable => true
  | .slowCrystalFail => true
  | .slowCrystalReturn => true
  | .corePllStop => true
  | .pllPrewake => true
  | .pllRelockLate => true
  | .pllWakeOnDemand => true
  | .secureStart _ _ _ slot0 slot1 => slot0.all flashWf && slot1.all flashWf
  | .houseFatalFault => true
  | .pfailDetect _ => true
  | .pfailGlitch => true
  | .pfailCommitWindowEnd => true
  | .pfailComplete => true
  | .startCold _ => true
  | .startWarm _ => true
  | .stop _ => true
  | .resetWarm _ => true
  | .resetCold _ => true
  | .leaveSafe _ _ => true
  | .expertUnlockStep _ _ _ => true
  | .expertRelock _ _ => true
  | .expertRestore _ _ => true
  | .registerWrite _ _ _ => true
  | .fieldCommandFrame _ => true
  | .fieldLinkFallback => true
  | .fieldStatusFrame _ _ _ => true
  | .statusFrameMissing => true
  | .dieLinkLost => true
  | .fieldDiePowerUp _ => true
  | .folioLoad _ => true
  | .folioCancel _ => true
  | .folioForward _ => true
  | .firstPassDone _ => true
  | .secondPassDone _ => true
  | .loadSourceFailure => true
  | .spineLoadTimeout => true
  | .shelfDelivery _ _ => true
  | .handleCreate _ => true
  | .handleDestroy _ => true
  | .handleQuery _ => true
  | .handleCheck _ => true
  | .handleCommandEffect _ => true
  | .latch _ => true
  | .gatherComplete _ => true
  | .gatherDeadline _ => true
  | .solveComplete _ => true
  | .scatterComplete _ => true
  | .commitCheck _ => true
  | .stretchCheck _ => true
  | .overrunWorkDone _ => true
  | .commit _ => true
  | .commitDecision _ msg => msg.all fun m => headWf m.1
  | .stopBroadcast head => head.all headWf
  | .eventTrigger _ => true
  | .softwareTrigger _ => true
  | .eventBoundExceeded _ => true
  | .debugHalt => true
  | .debugResume => true
  | .fabricPassStart _ => true
  | .fabricPassComplete _ => true
  | .planeSwitch _ => true
  | .presetWrite _ _ => true
  | .probeSelect _ _ _ _ => true
  | .reflexTrip _ => true
  | .tripClear _ => true
  | .pinMismatch _ => true
  | .fabricScrub _ _ _ _ _ _ => true
  | .ldi _ _ _ => true
  | .ldiu _ _ _ => true
  | .lea _ _ _ _ => true
  | .mfs _ _ _ => true
  | .mts _ _ _ => true
  | .ld _ _ _ _ => true
  | .st _ _ _ _ => true
  | .ldh _ _ _ _ => true
  | .sth _ _ _ _ => true
  | .ldd _ _ _ _ => true
  | .std _ _ _ _ => true
  | .atom _ _ _ _ => true
  | .alu _ _ _ => true
  | .alui _ _ _ => true
  | .alum _ _ _ _ => true
  | .dalu _ _ _ => true
  | .falu _ _ _ => true
  | .falum _ _ _ _ => true
  | .mac _ _ _ => true
  | .macd _ _ _ => true
  | .bit _ _ _ => true
  | .bitm _ _ _ _ => true
  | .br _ _ _ => true
  | .call _ _ _ => true
  | .jmp _ _ _ => true
  | .rep _ _ _ => true
  | .movs _ _ _ => true
  | .fill _ _ _ => true
  | .cmps _ _ _ => true
  | .scan _ _ _ => true
  | .nop _ _ _ => true
  | .tend _ _ _ => true
  | .tquit _ _ _ => true
  | .rtt _ _ _ => true
  | .debug _ _ _ => true
  | .unassignedOpcode _ _ => true
  | .fenceC _ _ _ => true
  | .fenceD _ _ _ => true
  | .fenceS _ _ _ => true
  | .fenceTimeout _ => true
  | .fcall _ _ _ _ => true
  | .fcallp _ _ _ _ => true
  | .fwait _ _ _ _ => true
  | .hcmdCreate _ _ _ _ _ _ => true
  | .hcmdDestroy _ _ _ _ _ _ => true
  | .hcmdQuery _ _ _ _ _ _ => true
  | .hwait _ _ _ _ _ _ => true
  | .storeError _ => true
  | .handlerLimit _ => true
  | .memoryScrub _ _ => true
  | .imposerSearch _ _ => true
  | .placementSwitch _ => true
  | .imposerPinWrite _ _ => true
  | .olcStage _ _ => true
  | .olcForward _ => true
  | .stagingDone => true
  | .backgroundCopy => true
  | .olcArm _ _ => true
  | .olcSwitch => true
  | .olcConfirm _ => true
  | .olcConfirmApply => true
  | .olcUndo _ => true
  | .olcUndoApply => true
  | .olcDiscard _ => true
  | .undotExpiry => true
  | .armMessage msg => msg.all fun m => headWf m.1
  | .armAcknowledge head _ => headWf head
  | .goMessage head => headWf head
  | .goTimeout => true
  | .forceSet _ => true
  | .forceClear _ => true
  | .forceClearall _ => true
  | .forceRead _ => true
  | .tickFrame head msg => headWf head && tickWf msg
  | .statusFrame head msg => headWf head && statusWf msg
  | .discoverFrame head records => headWf head && records.all recordWf
  | .discoveryEnd => true
  | .discoveryRepeat => true
  | .gatherFrame head payload => headWf head && payloadWf payload
  | .scatterFrame head payload => headWf head && payloadWf payload
  | .feedFrame head unit points => headWf head && points.all pointWf && decide (unit < 512)
  | .returnFrame head unit points data => headWf head && points.all pointWf && data.all runWf && decide (unit < 512)
  | .barrierCompletion _ head => head.all headWf
  | .startBroadcast msg => msg.all fun m => headWf m.1
  | .startTimeout => true
  | .releaseBroadcast msg => msg.all fun m => headWf m.1
  | .bulkFrame head msg => headWf head && bulkWf msg
  | .remoteFrame head msg => headWf head && remoteWf msg
  | .remoteTimeout _ => true
  | .frameForward head => headWf head
  | .delayExchange _ _ => true
  | .laneDown _ _ => true
  | .laneRestored _ _ => true
  | .nodeLost _ => true
  | .workerIsolated => true
  | .isolimExpiry => true
  | .nodeAdmission _ head => head.all headWf
  | .snapshot _ => true
  | .snapshotDone => true
  | .bcast _ msg => msg.all fun m => headWf m.1
  | .spineResetWarm _ msg => msg.all fun m => headWf m.1
  | .spineResetCold _ msg => msg.all fun m => headWf m.1
  | .resetInstant => true
  | .heartSend => true
  | .heartFrame head msg => headWf head && heartWf msg
  | .heartbeatMiss => true
  | .pairWaitTimeout => true
  | .pairingCheck _ => true
  | .trkinFrame head points => headWf head && points.all pointWf
  | .trklogFrame head _ runs _ => headWf head && runs.all runWf
  | .trkctlFrame head _ => headWf head
  | .digestFrame head _ => headWf head
  | .takeover => true
  | .primaryYield => true
  | .twinSwitch _ => true
  | .switchover => true
  | .twinWithdraw _ => true
  | .resyncCopy msg => msg.all fun m => headWf m.1 && payloadWf m.2
  | .fabricStateCopy msg => msg.all fun m => headWf m.1
  | .autorejoin => true
  | .inputFilterAccept _ _ => true
  | .wireBreak _ => true
  | .wireBreakEnd _ => true
  | .counterEdge _ _ => true
  | .thermalCycle _ => true
  | .tcntReset _ => true
  | .groupOverload _ => true
  | .externalFeed _ => true
  | .externalFeedEnd _ => true
  | .openLoad _ => true
  | .lplusLow _ => true
  | .lplusLowEnd _ => true
  | .lplusMissing _ => true
  | .recoveryBegin _ => true
  | .recoveryEnd _ => true
  | .fieldAck _ => true
  | .latchRestart _ => true
  | .frontEndTest _ => true
  | .testDone _ => true
  | .modulatorSample _ _ _ => true
  | .modulatorInputFault _ => true
  | .modulatorFaultEnd _ => true
  | .lineCycleEnd _ _ => true
  | .meterCommit => true
  | .demandIntervalEnd _ _ => true
  | .pqcPinEdge _ => true
  | .meterStart => true
  | .tfifoRead => true
  | .accumulatorRead _ => true
  | .canFrameReceived _ heard => canWf heard.frame
  | .canFrameSent _ => true
  | .canTxError _ _ => true
  | .txreq _ => true
  | .cancel _ _ => true
  | .busoffRecovery _ => true
  | .recover _ => true
  | .canSleep _ => true
  | .canWake _ wake => wake.frame.all canWf
  | .canRateWrite _ _ _ => true
  | .canTimingApply _ => true
  | .ptpMessage _ _ _ _ => true
  | .sourceLoss _ => true
  | .holdoverExpiry _ => true
  | .switch _ _ => true
  | .set _ _ => true
  | .timeNoticeApply => true
  | .slewDone => true
  | .tmrExpiry _ => true
  | .tmrCapture _ _ => true
  | .timeSnapshot _ => true
  | .rtcSnap => true
  | .apply => true
  | .shift => true
  | .arm => true
  | .disarm => true
  | .calendarRollover => true
  | .alarmFire => true
  | .periodicWake => true
  | .calendarSync => true
  | .watchdogService _ _ => true
  | .watchdogCheckin _ _ _ => true
  | .windowClose => true
  | .retainStoreCmd _ => true
  | .retainStoreStart => true
  | .periodicStore => true
  | .minivExpiry => true
  | .retainStoreDone _ _ => true
  | .keeperAbsorb => true
  | .wideCounterCommit => true
  | .stage _ => true
  | .commitGroup _ => true
  | .add _ => true
  | .keeperValueRead _ => true
  | .reportAccept _ _ _ _ _ => true
  | .recordWrite => true
  | .heldRecordRelease _ => true
  | .clear _ _ => true
  | .next _ => true
  | .mark _ => true
  | .write _ => true
  | .claim _ => true
  | .install _ _ => true
  | .revoke _ _ => true
  | .setpol _ _ => true
  | .attest _ _ => true
  | .updWrite _ _ => true
  | .slotWriteDone _ img => img.all flashWf
  | .folwrite _ _ _ => true
  | .shelfWrite _ _ _ => true
  | .distribute _ _ img => img.all flashWf
  | .distributeChunk head msg => headWf head && chunkWf msg
  | .creditTimeout _ => true
  | .activate _ => true
  | .reject _ => true
  | .updCancel _ => true
  | .trialConfirm _ => true
  | .trialmaxExpiry => true
  | .pcieAccess _ _ first count _ => slotWf first count
  | .pciPerst _ => true
  | .softwareInterrupt _ => true
  | .mirrorRead _ => true
  | .mirrorWrite _ _ => true
  | .mirrorFlip => true
  | .mirrorHold _ => true
  | .holdExpiry => true
  | .doorbell _ => true
  | .replyDoorbell _ _ => true
  | .ethLinkChange _ _ _ => true
  | .arpIcmpRequest _ _ => true
  | .stationInFrame _ _ => true
  | .stationDrop _ => true
  | .keepAlive _ => true
  | .jtagInstruction _ => true
  | .debugUartInput _ => true
  | .vbatLow => true
  | .corePllLocked => true
  | .fastPinEdge _ _ => true
  | .canBusIntegration _ => true
  | .canRxError _ _ _ => true
  | .pcieLinkChange _ _ _ => true
  | .grainBoundary => true
  | .startInstant => true
  | .expertUnlockTimeout => true
  | .tapReset => true
  | .ethFrameDiscard _ _ => true
  | .hsrRingForward _ _ _ => true
  | .gateControlEntry _ => true

end Sys2Proof
end

