-- ==== Sys2Proof/Safety.lean ====
section
/-!
DEFINITION. The terms in which claims about runs are stated: a command that completes, runs of several steps, the state
without power, and when an instruction of a word core comes to its own effect.
-/
namespace Sys2Proof.Machine

/-- The command completes at the state, in a next state of which the property holds. -/
def Runs (c : Instr) (s : State) (P : State → Prop) : Prop := ∃ t, exec c s = .next t ∧ P t

/-- So many steps, while each answers a next state. -/
def runSteps : Nat → State → Option State
  | 0, s => some s
  | n + 1, s =>
    match step s with
    | .next t => runSteps n t
    | _ => none

/-- The return of the rails. -/
def isPowerUp : Instr → Bool
  | .powerUp _ _ => true
  | _ => false

/-- The device is without power and no waiting command is the return of the rails. -/
def StaysOff (s : State) : Prop := s.dev = .off ∧ s.pending.any isPowerUp = false

/-- No word core waits for a pass, a handle command, a fence or a remote answer. -/
def coresQuiet (s : State) : Bool := (List.range 8).all fun c => (s.core c).wait == .none

/-- A core comes to the own effect of an instruction: it runs, waits for nothing and awaits neither a trap nor a preemption,
and every check of R220 up to the literal word passes. -/
def coreReady (s : State) (c : Nat) (w : Word) (ch : Checks) : Bool :=
  coreRuns s c && (s.core c).wait == .none && !(s.core c).arrived && !preemptDue s c && !fetchBad s (s.core c).pc.toNat && ch.legal &&
  !(ch.priv && swPL (s.core c).sw == 0) && condHolds (bitsOf w 32 4) (s.core c).sw &&
  !(ch.literal && fetchBad s ((s.core c).pc + 1).toNat) && ch.litLegal

/-- A precise trap of a core enters its handler (R206): a handler exists and none runs, and no store error is pending. -/
def handlerFree (k : Core) : Bool := !swBit k.sw swTH && k.vbase != 0 && k.imprecise.isNone

/-- The core at the entry of its handler (R206). -/
def handlerCore (k : Core) (vec : Nat) (tpc : BitVec 24) (tval : Word) : Core :=
  { k with
    tpc := tpc, tsw := k.sw, tcause := BitVec.ofNat 36 vec, tval := tval, wait := .none, firstTrap := vec
    sw := withBits (swPut (swPut k.sw swTH true) swOVE false) 17 2 1
    pc := k.vbase + BitVec.ofNat 24 (8 * vec) }

/-- The other cores are as they were. -/
def coresKept (s t : State) (c : Nat) : Bool := (List.range 8).all fun i => i == c || t.core i == s.core i

/-- The word of a handle instruction (R247). -/
def hcmdWord (cond d a : Fin 16) (fn : Nat) (post : Bool) (rest : BitVec 15) : Word :=
  instrWord cond 42 (BitVec.ofNat 4 d ++ BitVec.ofNat 4 a ++ BitVec.ofNat 2 fn ++ BitVec.ofNat 1 (bitNat post) ++ rest)

/-- No quire has more TRIP leaves than the numbers of R178. -/
def tripsFit (s : State) : Bool :=
  (List.range 8).all fun q => decide (((reflexUnits s q).map fun r => (tripLeaves r.unit).length).sum ≤ 4)

/-- The pins in reflex-output mode that a reflex leaf drives (R175). -/
def reflexDrives (s : State) : List Nat :=
  (List.range 8).flatMap fun q => (reflexUnits s q).flatMap fun r =>
    ((List.range (r.unit.reflex.length / 4)).filterMap (reflexPin r.unit)).filter fun p => pinMode s p == 3

/-- No event task watches a fast pin (R155). -/
def pinsUnwatched (s : State) : Bool := (List.range 32).all fun e => s.get (R.CYC_ETCFG_SRC e) != 1

/-- No event task watches a source (R155). -/
def sourceUnwatched (s : State) (src : TriggerSource) : Bool :=
  (List.range 32).all fun e => s.get (R.CYC_ETCFG_SRC e) != src.code.1 || s.get (R.CYC_ETCFG_SEL e) != src.code.2.1

/-- The state in which the imposer looks for moves at a boundary, its search not frozen (R267, R277). -/
def searchState (s : State) (c : FolioContent) : State :=
  let z := (boundaryWork s c).set R.IMP_STAT_FROZEN 0
  let z := z.when z.imposer.lossNew (·.raise R.IMP_EVT_LOSS)
  unpinned { z with imposer := { z.imposer with lossNew := false } } c

/-- What a lossy search finds (R267): the sheet, its moves, and whether an entry has no place. -/
def lossFound (u : State) (c : FolioContent) : List SheetEntry × List (Nat × Nat × Nat) × Bool :=
  (lostEntries u c).foldl (lossOne u c) (u.imposer.sheet, [], false)

/-- The devices and places of a sheet, without its marks and counts. -/
def sheetPlaces (l : List SheetEntry) : List (Nat × Nat) := l.map fun e => (e.key, e.base)

/-- The word that a load of a core takes at once (R146, R147, R199, R225, R255, R341): none where it raises BUS or waits. -/
def loadGives (s : State) (c a : Nat) : Option Word :=
  match regionOf a with
  | .sram | .mirror | .retain => if s.poisoned a then none else some (s.word a)
  | .keeper => if a < 0x404000 ∨ s.poisoned a then none else some (s.word a)
  | .image =>
    if (imagePart a).1 = .reserved ∨ s.poisoned a then none
    else some (if globalHidden s a (coreForeign s c) then 0 else (s.view (coreClass s c)).rd a)
  | .remote =>
    if s.flag (R.SPN_RSEL_EN c) then (s.spine.answers.find? fun x => x.1 == c && x.2.1 == a).bind (·.2.2) else none
  | .regs => some (readReg s a).1
  | .house | .reserved => none

/-- A load of a core raises BUS (R199, R225, R255, R341). -/
def loadBus (s : State) (c a : Nat) : Bool :=
  match regionOf a with
  | .sram | .mirror | .retain => s.poisoned a
  | .keeper => decide (a < 0x404000) || s.poisoned a
  | .image => (imagePart a).1 == .reserved || s.poisoned a
  | .remote =>
    !s.flag (R.SPN_RSEL_EN c) || (s.spine.answers.find? fun x => x.1 == c && x.2.1 == a).any (·.2.2.isNone)
  | .regs => false
  | .house | .reserved => true

/-- A remote load of a core lacks its answer (R341). -/
def loadWaits (s : State) (c a : Nat) : Bool :=
  regionOf a == .remote && s.flag (R.SPN_RSEL_EN c) && !s.spine.answers.any fun x => x.1 == c && x.2.1 == a

/-- The words of two loads of a core, the second after what the first changes: a register read may have an effect, and a
remote answer is used up. -/
def loadsGive (s : State) (c a b : Nat) : Option (Word × Word) :=
  let after : State :=
    match regionOf a with
    | .regs => (readReg s a).2
    | .remote =>
      { s with spine := { s.spine with
          answers := match s.spine.answers.find? fun x => x.1 == c && x.2.1 == a with
            | some x => s.spine.answers.erase x
            | none => s.spine.answers } }
    | _ => s
  (loadGives s c a).bind fun w => (loadGives after c b).map (w, ·)

/-- The request that a remote access of a core makes of its window (R341). -/
def windowRequest (s : State) (c a : Nat) (store : Bool) (w keep : Word) : RemoteReq :=
  ⟨c, a, store, s.get (R.SPN_RSEL_DEV c), s.get (R.SPN_RSEL_QUARTER c) * 2 ^ 22 + (a - 0x800000), w, keep⟩

/-- The words of memory that a core may write (R199, R498, R496, R551). -/
def wordWritable (s : State) (a : Nat) : Bool :=
  match regionOf a with
  | .sram => true
  | .retain => !retainProtected s a
  | .keeper => keeperWritable a
  | .mirror => mirrorWritable a
  | _ => false

/-- A store of a core that its target refuses (R146, R199, R341, R496, R498, R551). -/
def storeRefused (s : State) (c a : Nat) : Bool :=
  match regionOf a with
  | .retain | .keeper | .mirror => !wordWritable s a
  | .image => (imagePart a).1 == .reserved
  | .remote => !s.flag (R.SPN_RSEL_EN c)
  | .house | .reserved => true
  | .sram | .regs => false

/-- What a command of the word cores asks before its own effect: the core, the instruction word and the checks. -/
def coreIssue : Instr → Option (Fin 8 × Word × Checks)
  | .ldi c k o => some (c, instrWord k 4 o, { legal := true })
  | .ldiu c k o => some (c, instrWord k 5 o, { legal := opField o 18 4 == 0 })
  | .lea c k o l => some (c, instrWord k 6 o, checksM o l false (opField o 25 1 == 0 && opField o 16 6 == 0))
  | .mfs c k o => some (c, instrWord k 2 o,
      { legal := opField o 0 16 == 0 && srAssigned (opField o 16 6), priv := decide (48 ≤ opField o 16 6) })
  | .mts c k o => some (c, instrWord k 3 o,
      { legal := opField o 0 16 == 0 && srAssigned (opField o 16 6) && opField o 16 6 != 29,
        priv := decide (48 ≤ opField o 16 6) })
  | .ld c k o l => some (c, instrWord k 8 o, checksM o l true (opField o 16 6 == 0))
  | .st c k o l => some (c, instrWord k 9 o, checksM o l false (opField o 16 6 == 0))
  | .ldh c k o l => some (c, instrWord k 10 o, checksM o l true (opField o 16 4 == 0))
  | .sth c k o l => some (c, instrWord k 11 o, checksM o l false (opField o 16 5 == 0))
  | .ldd c k o l => some (c, instrWord k 12 o, checksM o l false (opField o 16 6 == 0 && opField o 22 4 % 2 == 0))
  | .std c k o l => some (c, instrWord k 13 o, checksM o l false (opField o 16 6 == 0 && opField o 22 4 % 2 == 0))
  | .atom c k o l => some (c, instrWord k 14 o, checksM o l false true)
  | .alu c k o => some (c, instrWord k 16 o,
      { legal := opField o 0 8 == 0 && decide (opField o 8 6 ≤ 33) && (decide (opField o 8 6 < 27) || opField o 14 4 == 0) &&
          (!(opField o 8 6 == 4 || opField o 8 6 == 9) || opField o 22 4 == 0) })
  | .alui c k o => some (c, instrWord k 17 o,
      { legal := decide (opField o 12 6 ≤ 26) && (!(opField o 12 6 == 4 || opField o 12 6 == 9) || opField o 22 4 == 0) })
  | .alum c k o l => some (c, instrWord k 18 o, checksRM o l
      (decide (opField o 12 6 ≤ 26) && (!(opField o 12 6 == 4 || opField o 12 6 == 9) || opField o 22 4 == 0)))
  | .dalu c k o => some (c, instrWord k 19 o,
      { legal := opField o 0 8 == 0 && daluLegal (opField o 8 6) (opField o 22 4) (opField o 18 4) (opField o 14 4) })
  | .falu c k o => some (c, instrWord k 20 o,
      { legal := opField o 0 8 == 0 && decide (opField o 8 6 ≤ 13) && (!faluUnary (opField o 8 6) || opField o 14 4 == 0) &&
          (opField o 8 6 != 5 || opField o 22 4 == 0) })
  | .falum c k o l => some (c, instrWord k 21 o, checksRM o l
      (decide (opField o 12 6 ≤ 13) && !faluUnary (opField o 12 6) && (opField o 12 6 != 5 || opField o 22 4 == 0)))
  | .mac c k o => some (c, instrWord k 24 o,
      { legal := opField o 0 6 == 0 && macLegal (opField o 6 6) (opField o 20 4) (opField o 16 4) (opField o 12 4) })
  | .macd c k o => some (c, instrWord k 25 o,
      { legal := opField o 20 3 == 0 && mdLegal (opField o 10 10) && mdLegal (opField o 0 10) &&
          !mdLiteral (opField o 10 10) && !mdLiteral (opField o 0 10) })
  | .bit c k o => some (c, instrWord k 26 o,
      { legal := opField o 0 12 == 0 && bitLegal (opField o 12 4) (opField o 22 4) (opField o 16 6) })
  | .bitm c k o l => some (c, instrWord k 27 o,
      checksM o l (decide (opField o 16 4 < 7)) (decide (opField o 20 6 ≤ 35) && decide (opField o 16 4 ≤ 11)))
  | .br c k o => some (c, instrWord k 32 o, { legal := opField o 24 2 == 0 })
  | .call c k o => some (c, instrWord k 33 o, { legal := opField o 24 2 == 0 })
  | .jmp c k o => some (c, instrWord k 34 o, { legal := opField o 0 21 == 0 })
  | .rep c k o => some (c, instrWord k 35 o, { legal := o.getLsbD 25 || opField o 20 5 == 0 })
  | .movs c k r => some (c, instrWord k 36 (BitVec.ofNat 4 0 ++ r), { legal := r == 0 })
  | .fill c k r => some (c, instrWord k 36 (BitVec.ofNat 4 1 ++ r), { legal := r == 0 })
  | .cmps c k r => some (c, instrWord k 36 (BitVec.ofNat 4 2 ++ r), { legal := r == 0 })
  | .scan c k r => some (c, instrWord k 36 (BitVec.ofNat 4 3 ++ r), { legal := r == 0 })
  | .nop c k r => some (c, instrWord k 1 (BitVec.ofNat 6 0 ++ r), { legal := r == 0 })
  | .tend c k r => some (c, instrWord k 1 (BitVec.ofNat 6 1 ++ r), { legal := r == 0 })
  | .tquit c k r => some (c, instrWord k 1 (BitVec.ofNat 6 2 ++ r), { legal := r == 0, priv := true })
  | .rtt c k r => some (c, instrWord k 1 (BitVec.ofNat 6 3 ++ r), { legal := r == 0, priv := true })
  | .debug c k r => some (c, instrWord k 1 (BitVec.ofNat 6 4 ++ r), { legal := r == 0 })
  | .fenceC c k ⟨r, _⟩ => some (c, instrWord k 40 (BitVec.ofNat 2 1 ++ r), { legal := r == 0 })
  | .fenceD c k ⟨r, _⟩ => some (c, instrWord k 40 (BitVec.ofNat 2 2 ++ r), { legal := r == 0 })
  | .fenceS c k ⟨r, _⟩ => some (c, instrWord k 40 (BitVec.ofNat 2 3 ++ r), { legal := r == 0 })
  | .fcall c k u r => some (c, instrWord k 41 (u ++ BitVec.ofNat 2 0 ++ r), { legal := r == 0 })
  | .fcallp c k u r => some (c, instrWord k 41 (u ++ BitVec.ofNat 2 1 ++ r), { legal := r == 0 })
  | .fwait c k u r => some (c, instrWord k 41 (u ++ BitVec.ofNat 2 2 ++ r), { legal := r == 0 && u == 0 })
  | .hcmdCreate c k d a p r => some (c, hcmdWord k d a 0 p r, { legal := r == 0 })
  | .hcmdDestroy c k d a p r => some (c, hcmdWord k d a 1 p r, { legal := r == 0 })
  | .hcmdQuery c k d a p r => some (c, hcmdWord k d a 2 p r, { legal := r == 0 })
  | .hwait c k d a p r => some (c, hcmdWord k d a 3 p r, { legal := r == 0 && a == 0 && !p })
  | _ => none

end Sys2Proof.Machine
end

