-- ==== Sys2Proof/Certificates/Slice0/Obligations.lean ====
section
/-!
DEFINITION. The statements for the provers. `Runs c s P` says that the command `c` completes at the state `s` in a next
state that meets `P`; a clause that ends in `t = { s with … }` or in a register frame says what else stays as it was.
-/
section
open Sys2Proof Sys2Proof.Machine

/-- What a step is; the step on an empty queue is the choice of the model (DESIGN CHOICE, log 8). -/
def Obligations.StepRunsFrontCommand : Prop :=
  (∀ (s : State) (c : Instr) (rest : List Instr), s.pending = c :: rest → step s = exec c { s with pending := rest }) ∧
  (∀ s : State, s.pending = [] → s.powered = false → step s = .next s) ∧
  (∀ s : State, s.pending = [] → s.powered = true → ∃ t, step s = .next t ∧ t = { s with time := t.time, regs := t.regs })

/-- The state after a cold reset; unwritten memory reads 0 and reset is taken as the entry of BOOT by the choice of
  the model (DESIGN CHOICE, log 1, log 98). -/
def Obligations.ResetValues : Prop :=
  (State.reset.pending = [] ∧ State.reset.dev = .boot ∧ State.reset.mem = [] ∧ State.reset.time.loc = 0 ∧
    State.reset.get R.SYS_STATE_STATE = 1 ∧ State.reset.get R.PWR_PFCFG_PFSRC = 3 ∧ State.reset.get R.TWN_XHB_HBLIM = 10 ∧
    State.reset.get R.SPN_XCFG_RTIME = 20 ∧ State.reset.mem.wf = true ∧ State.reset.regs.wf = true ∧
    State.reset.forces = [] ∧ State.reset.handles.channels = [] ∧ State.reset.folio.content = none) ∧
  (∀ rail : Fin 8, Runs (.railLost rail) State.reset fun t => t.dev = .off)

/-- No command ends a run: as many steps as commands wait empty the queue. -/
def Obligations.QueueRunsDry : Prop :=
  (∀ (c : Instr) (s : State), ∃ t, exec c s = .next t ∧ t.pending = s.pending) ∧
  (∀ s : State, ∃ t, step s = .next t ∧ t.pending = s.pending.tail) ∧
  (∀ s : State, ∃ t, runSteps s.pending.length s = some t ∧ t.pending = [])

/-- The state OFF (R17, R40): only the return of the rails leads out of it. -/
def Obligations.OffStaysOff : Prop :=
  (∀ s t : State, StaysOff s → step s = .next t → StaysOff t ∧ t.mem = s.mem ∧ t.cores = s.cores ∧ t.handles = s.handles ∧
    t.forces = s.forces ∧ t.folio = s.folio ∧ t.imposer = s.imposer ∧ t.fabric = s.fabric ∧ t.cycle = s.cycle ∧
    t.spine = s.spine ∧ t.twin = s.twin ∧ t.olc = s.olc ∧ t.upd = s.upd ∧ t.keeper = s.keeper ∧ t.retain = s.retain)

/-- The queue holds well-formed commands only, if it did before the step. -/
def Obligations.WaitingCommandsWellFormed : Prop :=
  (∀ s t : State, s.pending.all Instr.wf = true → step s = .next t → t.pending.all Instr.wf = true)

/-- The supplies (R13, R40, R42 to R44, R61, R69): what each of their rows leaves,
for every state that it acts on. That RAIL stands with PFTORN is the model's choice (log 139). -/
def Obligations.RailsComeAndGo : Prop :=
  (∀ (s : State) (straps : Fin 16) (ref : Bool), s.dev = .off → s.power.secureFailed = false →
    Runs (.powerUp straps ref) s fun t => t.dev = .boot ∧ t.get R.RST_STRAP_ROLE = straps.val / 4 ∧
    t.get R.RST_STRAP_BOOTSRC = straps.val % 4 ∧ t.power.bootKind = 0 ∧ t.power.refOk = false ∧
    (t.mem = s.mem.filter fun x => inKeeper x.1) ∧ t.pending = s.pending) ∧
  (∀ (s : State), s.dev = .off → s.power.vaonLost = true →
    Runs (.aonPowerUp) s fun t => t.calendar = State.reset.calendar ∧ t.watchdog = State.reset.watchdog ∧
    t.flag R.RTC_STAT_INVALID = true ∧ t.reg R.RST_CAUSE_AONPOR.addr = 1 ∧ t.power.vaonLost = false ∧
    t.folio = { s.folio with prevSrc := none } ∧
    t = { s with regs := t.regs, calendar := t.calendar, watchdog := t.watchdog, power := t.power, folio := t.folio }) ∧
  (∀ (s : State) (rail : Fin 8), s.powered = true → Runs (.railLost rail) s fun t => t.dev = .off ∧
    t.power.railsLost = true ∧ t.power.pfStep = 0 ∧ t.flag R.RST_CAUSE_PFTORN = true) ∧
  (∀ (s : State) (rail : Fin 8), s.powered = true → s.power.pfStep = 0 →
    Runs (.railLost rail) s fun t => t.dev = .off ∧ t.flag R.RST_CAUSE_RAIL = true) ∧
  (∀ (s : State) (rail : Fin 8), s.powered = true → s.power.warned.testBit rail = false →
    Runs (.railWarning rail) s fun t => t.getBit R.PWR_STAT_WARN rail = true ∧ t.getBit R.PWR_EVT_WARN rail = true ∧
    t.power.warned.testBit rail = true ∧ t = { s with regs := t.regs, power := t.power, records := t.records }) ∧
  (∀ (s : State) (rail : Fin 8), s.powered = true → s.power.warned.testBit rail = true →
    Runs (.railWarning rail) s fun t => t.getBit R.PWR_STAT_WARN rail = true ∧ t.getBit R.PWR_EVT_WARN rail = true ∧
    t = { s with regs := t.regs } ∧ (∀ a, a ≠ R.PWR_STAT_WARN.addr → a ≠ R.PWR_EVT_WARN.addr → t.reg a = s.reg a)) ∧
  (∀ (s : State), s.powered = true → Runs (.vbatLow) s fun t => t.flag R.PWR_STAT_VBATLOW = true ∧
    t.flag R.PWR_EVT_VBATLOW = true ∧ t = { s with regs := t.regs } ∧ (∀ a, a ≠ R.PWR_STAT_VBATLOW.addr →
    a ≠ R.PWR_EVT_VBATLOW.addr → t.reg a = s.reg a))

/-- The resets (R19, R49, R55, R57, R58, R61, R69, R613): BOOT, the kind of the reset, its cause bit and its memory,
and what the release of a pin does; deferral (R58) and the power-fail sequence (R66). -/
def Obligations.ResetsEnterBoot : Prop :=
  (∀ (s : State), s.powered = true → Runs (.porstAssert) s fun t => t.dev = .boot ∧ t.power.bootKind = 1 ∧
    t.power.porstLow = true ∧ t.flag R.RST_CAUSE_PORST = true ∧ (t.mem.all (fun x => inKeeper x.1) = true)) ∧
  (∀ (s : State), s.powered = true → Runs (.debugResetRequest true) s fun t => t.dev = .boot ∧ t.power.bootKind = 1 ∧
    t.flag R.RST_CAUSE_DEBUG = true ∧ (t.mem.all (fun x => inKeeper x.1) = true)) ∧
  (∀ (s : State), s.powered = true → s.power.pfStep = 0 → s.flag R.SYS_STATE_DEFER = false → deferring s = false →
    Runs (.debugResetRequest false) s fun t => t.dev = .boot ∧ t.power.bootKind = 2 ∧
    t.flag R.RST_CAUSE_DEBUG = true ∧ (t.mem.all (fun x => inKeeper x.1) = true)) ∧
  (∀ (s : State), s.powered = true → s.power.pfStep = 0 → s.flag R.SYS_STATE_DEFER = false → deferring s = false →
    Runs (.rstNAssert) s fun t => t.dev = .boot ∧ t.power.bootKind = 2 ∧ t.power.rstLow = true ∧
    t.flag R.RST_CAUSE_PINWARM = true ∧ (t.mem.all (fun x => inKeeper x.1) = true)) ∧
  (∀ (s : State), s.powered = true → s.power.pfStep = 0 → s.flag R.SYS_STATE_DEFER = false → deferring s = false →
    Runs (.houseFatalFault) s fun t => t.dev = .boot ∧ t.power.bootKind = 2 ∧ t.flag R.RST_CAUSE_HOUSE = true ∧
    (t.mem.all (fun x => inKeeper x.1) = true)) ∧
  (∀ (s : State), s.powered = true → s.power.pfStep = 0 → s.flag R.SYS_STATE_DEFER = false → deferring s = false →
    Runs (.mainReferenceLost) s fun t => t.dev = .boot ∧ t.power.bootKind = 2 ∧ t.power.refOk = false ∧
    t.flag R.CLK_STAT_XINOK = false ∧ t.flag R.CLK_STAT_CORELOCK = false ∧ t.flag R.RST_CAUSE_CLKFAIL = true ∧
    (t.mem.all (fun x => inKeeper x.1) = true)) ∧
  (∀ (s : State), s.powered = true → s.flag R.SYS_STATE_DEFER = true → s.power.pfStep = 0 → deferring s = false →
    Runs (.deferredResetProceed) s fun t => t.dev = .boot ∧ t.power.bootKind = 2 ∧ t.flag R.SYS_STATE_DEFER = false ∧
    (t.mem.all (fun x => inKeeper x.1) = true)) ∧
  (∀ (s : State), s.powered = true → s.flag R.SYS_STATE_DEFER = true → s.power.pfStep = 0 →
    Runs (.deferralExpiry) s fun t => t.dev = .boot ∧ t.power.bootKind = 2 ∧ t.flag R.RST_CAUSE_DEFEXP = true ∧
    (t.mem.all (fun x => inKeeper x.1) = true)) ∧
  (∀ (s : State) (straps : Fin 16), s.dev = .boot → s.power.porstLow = true → pfailPresent s = false →
    Runs (.resetPinRelease true straps) s fun t => t.power.porstLow = false ∧
    t.get R.RST_STRAP_ROLE = straps.val / 4 ∧ t.get R.RST_STRAP_BOOTSRC = straps.val % 4 ∧
    t = { s with regs := t.regs, power := t.power, dbg := t.dbg }) ∧
  (∀ (s : State) (straps : Fin 16), s.dev = .boot → s.power.pfStep = 0 → s.power.rstLow = false →
    pfailPresent s = true → Runs (.resetPinRelease true straps) s fun t => t.power.porstLow = false ∧
    t.power.pfStep = 7 ∧ t.flag R.PWR_STAT_PFACT = true ∧ t.dev = .boot) ∧
  (∀ (s : State) (straps : Fin 16), pfailPresent s = false →
    Runs (.resetPinRelease false straps) s fun t => t.power.rstLow = false ∧ t = { s with power := t.power }) ∧
  (∀ (s : State), s.powered = true → s.power.pfStep = 0 → s.flag R.SYS_STATE_DEFER = false → deferring s = true →
    s.partner = none → Runs (.rstNAssert) s fun t => t.dev = s.dev ∧ t.flag R.SYS_STATE_DEFER = true ∧
    t.flag R.RST_CAUSE_DEFERRED = true ∧ t.flag R.RST_CAUSE_PINWARM = true ∧ t.mem = s.mem ∧ t.retain = s.retain ∧
    t.keeper = s.keeper) ∧
  (∀ (s : State), 0 < s.power.pfStep → Runs (.houseFatalFault) s fun t => t = s)

/-- The references and the core PLL (R48, R49, R52 to R54, R62). -/
def Obligations.ClocksFollowTheirSources : Prop :=
  (∀ (s : State), s.dev = .boot → Runs (.mainReferenceStable) s fun t => t.power.refOk = true ∧
    t.flag R.CLK_STAT_XINOK = true ∧ t.flag R.CLK_STAT_CORELOCK = true ∧ t.flag R.CLK_STAT_TIMELOCK = true ∧
    t = { s with regs := t.regs, power := t.power } ∧ (∀ a, a ≠ R.CLK_STAT_XINOK.addr → t.reg a = s.reg a)) ∧
  (∀ (s : State), s.powered = true → s.aon = true → s.power.slowRc = false →
    Runs (.slowCrystalFail) s fun t => t.power.slowRc = true ∧ t.flag R.CLK_STAT_RC32 = true ∧
    t.flag R.CLK_STAT_X32OK = false ∧ t.flag R.RTC_STAT_RCTIME = true ∧
    t = { s with regs := t.regs, power := t.power, records := t.records }) ∧
  (∀ (s : State), s.powered = true → s.aon = true → s.power.slowRc = true →
    Runs (.slowCrystalReturn) s fun t => t.power.slowRc = false ∧ t.flag R.CLK_STAT_RC32 = false ∧
    t.flag R.CLK_STAT_X32OK = true ∧ t = { s with regs := t.regs, power := t.power } ∧ (∀ a,
    a ≠ R.CLK_STAT_RC32.addr → t.reg a = s.reg a)) ∧
  (∀ (s : State), pllMayStop s = true → Runs (.corePllStop) s fun t => t.flag R.CLK_STAT_STOPPED = true ∧
    t.flag R.CLK_STAT_CORELOCK = false ∧ t.get R.CLK_STOPS_COUNT = (s.get R.CLK_STOPS_COUNT + 1) % 2 ^ 36 ∧
    t = { s with regs := t.regs } ∧ (∀ a, a ≠ R.CLK_STAT_STOPPED.addr → a ≠ R.CLK_STOPS_COUNT.addr →
    t.reg a = s.reg a)) ∧
  (∀ (s : State), s.powered = true → s.flag R.CLK_STAT_STOPPED = true →
    Runs (.pllPrewake) s fun t => t.power.pllWaking = true ∧ t = { s with power := t.power }) ∧
  (∀ (s : State), s.powered = true → s.flag R.CLK_STAT_STOPPED = true →
    Runs (.pllWakeOnDemand) s fun t => t.power.pllWaking = true ∧ t = { s with power := t.power }) ∧
  (∀ (s : State), s.powered = true → s.flag R.CLK_STAT_STOPPED = true → s.power.pllWaking = true →
    Runs (.pllRelockLate) s fun t => t.power.pllKeep = true ∧ t.flag R.CLK_STAT_RELOCKLATE = true ∧
    t = { s with regs := t.regs, power := t.power, records := t.records }) ∧
  (∀ (s : State), s.powered = true → s.flag R.CLK_STAT_STOPPED = true → s.power.pllWaking = true →
    Runs (.corePllLocked) s fun t => t.power.pllWaking = false ∧ t.flag R.CLK_STAT_STOPPED = false ∧
    t.flag R.CLK_STAT_CORELOCK = true ∧ t = { s with regs := t.regs, power := t.power } ∧ (∀ a,
    a ≠ R.CLK_STAT_STOPPED.addr → t.reg a = s.reg a))

/-- Power fail (R57, R65 to R68, R613). -/
def Obligations.PowerFailRuns : Prop :=
  (∀ (s : State) (pin : Bool), (s.dev = .run ∨ s.dev = .standby ∨ s.dev = .halt ∨ s.dev = .safe) →
    s.power.pfStep = 0 → heldInReset s = false → ((s.get R.PWR_PFCFG_PFSRC).testBit (if pin then 0 else 1) = true) →
    Runs (.pfailDetect pin) s fun t => t.power.pfStep = 3 ∧ t.flag R.PWR_STAT_PFACT = true ∧
    t.getBit R.PCI_VPEND_PEND 0 = true ∧ t.handles.cmds = [] ∧ t.dev = s.dev) ∧
  (∀ (s : State) (pin : Bool), (s.dev = .boot ∨ s.dev = .load) → s.power.pfStep = 0 → heldInReset s = false →
    ((s.get R.PWR_PFCFG_PFSRC).testBit (if pin then 0 else 1) = true) →
    Runs (.pfailDetect pin) s fun t => t.power.pfStep = 7 ∧ t.folio.loading = none ∧ t.flag R.PWR_STAT_PFACT = true ∧
    t.getBit R.PCI_VPEND_PEND 0 = true ∧ t.handles.cmds = [] ∧ t.dev = s.dev) ∧
  (∀ (s : State) (pin : Bool), s.dev = .stop → s.power.pfStep = 0 → heldInReset s = false →
    ((s.get R.PWR_PFCFG_PFSRC).testBit (if pin then 0 else 1) = true) →
    Runs (.pfailDetect pin) s fun t => t.power.pfStep = 7 ∧ t.flag R.PWR_STAT_PFACT = true ∧
    t.getBit R.PCI_VPEND_PEND 0 = true ∧ t.handles.cmds = [] ∧ t.dev = s.dev ∧ (∀ c : Fin 8, (t.core c).task = none) ∧
    t.records.journal.queue = [] ∧ t.keeper.buffer = [] ∧ t.keeper.commits = []) ∧
  (∀ (s : State) (pin : Bool), s.powered = true → 0 < s.power.pfStep →
    Runs (.pfailDetect pin) s fun t => t.power.pfStep = s.power.pfStep ∧
    t = { s with regs := t.regs, power := t.power } ∧ (∀ a, a ≠ R.PWR_STAT_PFPIN.addr → t.reg a = s.reg a)) ∧
  (∀ (s : State) (pin : Bool), s.powered = true → s.get R.PWR_PFCFG_PFSRC = 0 →
    Runs (.pfailDetect pin) s fun t => t.power.pfStep = s.power.pfStep ∧
    t = { s with regs := t.regs, power := t.power } ∧ (∀ a, a ≠ R.PWR_STAT_PFPIN.addr → t.reg a = s.reg a)) ∧
  (∀ (s : State), s.powered = true → s.power.pfStep = 3 → Runs (.pfailCommitWindowEnd) s fun t => t.power.pfStep = 7 ∧
    t.dev = s.dev ∧ (∀ c : Fin 8, (t.core c).task = none) ∧ t.records.journal.queue = [] ∧ t.keeper.buffer = [] ∧
    t.keeper.commits = []) ∧
  (∀ (s : State), s.powered = true → s.power.pfStep = 3 → s.retain.running = none →
    Runs (.pfailCommitWindowEnd) s fun t => (t.retain.running.isSome = true ↔ s.flag R.PWR_PFCFG_PFSTORE = true ∧
    s.flag R.RET_STAT_DIRTY = true)) ∧
  (∀ (s : State), s.powered = true → s.power.pfStep = 7 → s.retain.running = none →
    Runs (.pfailComplete) s fun t => t.dev = .off ∧ t.power.pfStep = 8 ∧ t.flag R.RST_CAUSE_PFAIL = true ∧
    t.flag R.PWR_STAT_PFACT = false ∧ t.mem = s.mem ∧ t.retain = s.retain ∧ t.keeper = s.keeper) ∧
  (∀ (s : State), s.powered = true → Runs (.pfailGlitch) s fun t => t.flag R.PWR_EVT_PFGLITCH = true ∧
    t.flag R.PWR_STAT_PFPIN = false ∧ t = { s with regs := t.regs, power := t.power } ∧ (∀ a,
    a ≠ R.PWR_EVT_PFGLITCH.addr → a ≠ R.PWR_STAT_PFPIN.addr → t.reg a = s.reg a))

/-- SYS_CMD (R19, R22, R29 to R34, R486,
R612). Nothing but the wake of a stopped core PLL by the host (R54) changes in the clock state where a command is
  refused. -/
def Obligations.SystemCommandsRun : Prop :=
  (∀ (s : State) (m : Fin 18), s.dev = .stop → s.get R.SYS_CMD_STATUS ≠ 1 → s.content.any (·.standalone) = true →
    s.power.pfStep = 0 → s.flag R.SYS_STATE_DEFER = false → Runs (.startCold m) s fun t => t.dev = .run ∧
    t.get R.SYS_CMD_STATUS = 2 ∧ t.get R.SYS_CMD_CODE = 1 ∧ t.get R.SYS_STATE_MODE = 1) ∧
  (∀ (s : State) (m : Fin 18), s.dev = .stop → s.get R.SYS_CMD_STATUS ≠ 1 → s.content.any (·.standalone) = true →
    s.power.pfStep = 0 → s.flag R.SYS_STATE_DEFER = false → Runs (.startWarm m) s fun t => t.dev = .run ∧
    t.get R.SYS_CMD_STATUS = 2 ∧ t.get R.SYS_CMD_CODE = 2) ∧
  (∀ (s : State) (m : Fin 18), s.powered = true → s.get R.SYS_CMD_STATUS ≠ 1 → (s.dev ≠ .stop ∨ s.content = none) →
    Runs (.startCold m) s fun t => t.dev = s.dev ∧ t.get R.SYS_CMD_STATUS = 3 ∧
    t = { s with regs := t.regs, power := t.power } ∧ (∀ a, a ≠ R.SYS_CMD_CODE.addr → t.reg a = s.reg a)) ∧
  (∀ (s : State) (m : Fin 18), (s.dev = .halt ∨ s.dev = .standby) → s.get R.SYS_CMD_STATUS ≠ 1 →
    Runs (.stop m) s fun t => t.dev = .stop ∧ t.get R.SYS_CMD_STATUS = 2 ∧ t.get R.CYC_STAT_ACTIVE = 0 ∧
    t.flag R.SYS_STATE_RELEASED = false) ∧
  (∀ (s : State) (m : Fin 18), s.powered = true → s.get R.SYS_CMD_STATUS ≠ 1 →
    Runs (.resetCold m) s fun t => t.dev = .boot ∧ t.power.bootKind = 1 ∧ t.flag R.RST_CAUSE_CMDCOLD = true) ∧
  (∀ (s : State) (m : Fin 18), s.powered = true → s.get R.SYS_CMD_STATUS ≠ 1 → s.power.pfStep = 0 →
    s.flag R.SYS_STATE_DEFER = false → deferring s = false → Runs (.resetWarm m) s fun t => t.dev = .boot ∧
    t.power.bootKind = 2 ∧ t.flag R.RST_CAUSE_CMDWARM = true) ∧
  (∀ (s : State) (m : Fin 18) (o : Option (BitVec 16)), s.dev = .safe → s.get R.SYS_CMD_STATUS ≠ 1 →
    s.power.pfStep = 0 → sealCause (sealAt s o) [1] = 0 → Runs (.leaveSafe m o) s fun t => t.dev = .boot ∧
    t.get R.SYS_CMD_STATUS = 2 ∧ t.flag R.WDG_LADDER_SAFE = false ∧ t.get R.WDG_LADDER_K = 0 ∧
    t.get R.WDG_LT1_GRAIN = 0) ∧
  (∀ (s : State) (m : Fin 18), s.powered = true → s.get R.SYS_CMD_STATUS = 1 →
    Runs (.resetCold m) s fun t => t.flag R.SYS_ERR_RSVD = true ∧ t.get R.SYS_ERRADR_MASTER = m.val ∧
    t.get R.SYS_ERRADR_ADDR = R.SYS_CMD_CODE.addr % 2 ^ 24 ∧ t = { s with regs := t.regs, power := t.power } ∧ (∀ a,
    a ≠ R.SYS_ERR_RSVD.addr → a ≠ R.SYS_ERRADR_ADDR.addr → t.reg a = s.reg a))

/-- Loads of a folio (R81 to R93): what each row of a load leaves. That CAUSE clears as the second pass completes is
  the model's choice (log 137); deliveries of folios (R86, R87, R93,
R94); that a shelf delivery makes its loop busy is the model's choice (log 138). -/
def Obligations.FolioLoads : Prop :=
  (∀ (s : State) (m : Fin 18), s.get R.FOL_CMD_STATUS ≠ 1 → s.dev = .stop → s.power.pfStep = 0 →
    (s.get R.FOL_SRC_SRC = 2 → s.flag R.PCI_STAT_BME = true) → Runs (.folioLoad m) s fun t => t.dev = .load ∧
    t.folio = { s.folio with loading := some ⟨s.get R.FOL_SRC_SRC, true, none, false⟩ } ∧ t.get R.FOL_CMD_STATUS = 1 ∧
    t.flag R.FOL_STAT_BUSY = true ∧ t.flag R.FOL_STAT_PASS = false ∧
    t = { s with dev := t.dev, regs := t.regs, folio := t.folio, fabric := t.fabric, power := t.power }) ∧
  (∀ (s : State) (m : Fin 18), s.powered = true → s.get R.FOL_CMD_STATUS ≠ 1 → s.dev ≠ .stop →
    Runs (.folioLoad m) s fun t => t.get R.FOL_CMD_STATUS = 3 ∧ t.folio = s.folio ∧ t.dev = s.dev ∧
    t = { s with regs := t.regs, power := t.power } ∧ (∀ a, a ≠ R.FOL_CMD_STATUS.addr → t.reg a = s.reg a)) ∧
  (∀ (s : State) (m : Fin 18) (src : Nat) (byC o : Bool), s.powered = true → s.folio.loading = some ⟨src, byC, none,
    o⟩ → Runs (.folioCancel m) s fun t => t.dev = .stop ∧ t.folio = { s.folio with loading := none } ∧
    t.get R.FOL_STAT_CAUSE = 20 ∧ t.flag R.FOL_STAT_BUSY = false ∧
    t = { s with dev := t.dev, regs := t.regs, folio := t.folio, records := t.records, fabric := t.fabric, free := t.free, power := t.power } ∧
    t.get R.FOL_CMD_STATUS = 6) ∧
  (∀ (s : State) (img : FolioImage) (src : Nat) (byC o : Bool), s.dev = .load → s.power.pfStep = 0 →
    s.folio.loading = some ⟨src, byC, none, o⟩ →
    verify (s.set R.FOL_LEN_LEN (img.words.getD 3 0).toNat) img (loadKinds s ⟨src, byC, none, o⟩) fitsWhole = none →
    Runs (.firstPassDone img) s fun t => t.dev = .load ∧ t.folio.loading = some ⟨src, byC, some ⟨img.words,
    img.program s⟩, o⟩ ∧ t.folio.content = none ∧ t.flag R.FOL_STAT_PASS = true ∧
    t.get R.FOL_LEN_LEN = (img.words.getD 3 0).toNat ∧ t.get R.FOL_POS_POS = img.words.length % 2 ^ 24 ∧
    t.handles.channels = [] ∧ t.fabric.units = [] ∧ t.imposer.sheet = [] ∧ t.flag R.SYS_STATE_FOLIO = false) ∧
  (∀ (s : State) (img : FolioImage) (src cause pos : Nat) (byC : Bool), s.dev = .load → s.power.pfStep = 0 →
    s.folio.loading = some ⟨src, byC, none, false⟩ →
    verify (s.set R.FOL_LEN_LEN (img.words.getD 3 0).toNat) img (loadKinds s ⟨src, byC, none,
    false⟩) fitsWhole = some (cause, pos) → cause < 32 → Runs (.firstPassDone img) s fun t => t.dev = .stop ∧
    t.folio = { s.folio with loading := none } ∧ t.get R.FOL_STAT_CAUSE = cause ∧ t.flag R.FOL_STAT_BUSY = false ∧
    t = { s with dev := t.dev, regs := t.regs, folio := t.folio, records := t.records, fabric := t.fabric } ∧
    t.get R.FOL_POS_POS = pos % 2 ^ 24) ∧
  (∀ (s : State) (src : Nat) (byC o : Bool) (img : FolioImage), s.dev = .load → s.power.pfStep = 0 →
    s.power.pfPin = false → s.power.pfMon = false → s.folio.loading = some ⟨src, byC, some img, o⟩ →
    img.content.autostart = false → s.folio.carryFresh = false →
    Runs (.secondPassDone true) s fun t => t.dev = .stop ∧ t.folio.content = some img.content ∧
    t.folio.loading = none ∧ t.folio.prevSrc = some src ∧ t.flag R.FOL_STAT_FOLIO = true ∧
    t.flag R.SYS_STATE_FOLIO = true ∧ t.get R.FOL_STAT_CAUSE = 0 ∧ t.flag R.FOL_STAT_BUSY = false ∧
    t.get R.SYS_XOPEN_OPEN = 0 ∧
    (((List.range 8).map fun i => BitVec.ofNat 36 (t.get (R.FOL_DIGEST_DIGEST i))) = folioSha img.words) ∧
    (((List.range 8).map fun i => BitVec.ofNat 36 (t.get (R.FOL_PDIGEST_DIGEST i))) = programSha (folioBodies s
      img.words))) ∧
  (∀ (s : State) (src : Nat) (byC o : Bool) (img : FolioImage), s.dev = .load → s.power.pfStep = 0 →
    s.power.pfPin = false → s.power.pfMon = false → s.folio.loading = some ⟨src, byC, some img, o⟩ →
    Runs (.secondPassDone false) s fun t => t.dev = .stop ∧ t.folio.content = none ∧ t.folio.loading = none ∧
    t.get R.FOL_STAT_CAUSE = 19 ∧ t.forces = [] ∧ t.flag R.SYS_STATE_FOLIO = false ∧ t.handles.channels = []) ∧
  (∀ (s : State) (src : Nat) (byC : Bool), s.powered = true → s.folio.loading = some ⟨src, byC, none, false⟩ →
    failingRead s = some none → Runs (.loadSourceFailure) s fun t => t.dev = .stop ∧
    t.folio = { s.folio with loading := none } ∧ t.get R.FOL_STAT_CAUSE = 18 ∧ t.flag R.FOL_STAT_BUSY = false ∧
    t = { s with dev := t.dev, regs := t.regs, folio := t.folio, records := t.records, fabric := t.fabric, free := t.free } ∧
    t.get R.FOL_POS_POS = s.draw.2.draw.1 % (2 ^ 21 + 1) ∧ (src < 2 → t.flag R.XSP_EVT_ERR = true)) ∧
  (∀ (s : State) (byC : Bool), s.powered = true → s.folio.loading = some ⟨3, byC, none, false⟩ →
    Runs (.spineLoadTimeout) s fun t => t.dev = .stop ∧ t.folio = { s.folio with loading := none } ∧
    t.get R.FOL_STAT_CAUSE = 18 ∧ t.flag R.FOL_STAT_BUSY = false ∧
    t = { s with dev := t.dev, regs := t.regs, folio := t.folio, records := t.records, fabric := t.fabric, free := t.free }) ∧
  (∀ (s : State) (m : Fin 18), s.powered = true → s.get R.FOL_CMD_STATUS ≠ 1 → managesSpine s = true →
    (s.dev = .stop ∨ s.dev = .run) → shelfBusy s (decide (64 ≤ forwardTarget s)) = none → s.get R.FOL_SRC_NODE ≠ 0 →
    s.flag (R.SPN_NODE_PRESENT (forwardTarget s)) = true → s.get (R.SPN_NODE_STATE (forwardTarget s)) = 3 →
    s.flag R.PCI_STAT_BME = true →
    Runs (.folioForward m) s fun t => t.folio = { s.folio with forward := some (forwardTarget s, false) } ∧
    t.get R.FOL_CMD_STATUS = 1 ∧ t.spine.sent.head? = some (⟨9, 8, s.now % 2 ^ 36, []⟩ : SentFrame) ∧
    t = { s with regs := t.regs, folio := t.folio, spine := t.spine, power := t.power } ∧ (∀ a,
    a ≠ R.FOL_CMD_STATUS.addr → t.reg a = s.reg a)) ∧
  (∀ (s : State) (m : Fin 18), s.powered = true → s.get R.FOL_CMD_STATUS ≠ 1 → managesSpine s = false →
    Runs (.folioForward m) s fun t => t.get R.FOL_CMD_STATUS = 4 ∧ t.folio = s.folio ∧
    t = { s with regs := t.regs, power := t.power } ∧ (∀ a, a ≠ R.FOL_CMD_STATUS.addr → t.reg a = s.reg a)) ∧
  (∀ (s : State) (m : Fin 18), s.powered = true → s.get R.FOL_CMD_STATUS ≠ 1 → managesSpine s = true →
    (s.dev = .stop ∨ s.dev = .run) → shelfBusy s (decide (64 ≤ forwardTarget s)) ≠ none →
    Runs (.folioForward m) s fun t => t.get R.FOL_CMD_STATUS = 5 ∧ t.folio = s.folio ∧
    t = { s with regs := t.regs, power := t.power } ∧ (∀ a, a ≠ R.FOL_CMD_STATUS.addr → t.reg a = s.reg a)) ∧
  (∀ (s : State) (a : Fin 128) (shelf : List Word) (cap : Nat), s.powered = true → s.acting = true →
    shelfBusy s (decide (64 ≤ a.val)) = none → s.folio.forward = none →
    (s.content.any (fun c => c.nodes.any fun n => n.addr == a.val && n.shelved) = true) →
    ((s.node a).any (fun n => n.status.any fun x => x.state == 3 && !x.folio) = true) →
    (shelfEntry shelf cap a).isSome = true → Runs (.shelfDelivery a ⟨some shelf,
    cap⟩) s fun t => shelfBusy t (decide (64 ≤ a.val)) = some (a.val, false) ∧ t.spine.sent.head? = some (⟨9, 8,
    s.now % 2 ^ 36, []⟩ : SentFrame) ∧ t = { s with folio := t.folio, spine := t.spine }) ∧
  (∀ (s : State) (a : Fin 128) (cap : Nat), s.powered = true → s.acting = true →
    shelfBusy s (decide (64 ≤ a.val)) = none → s.folio.forward = none →
    (s.content.any (fun c => c.nodes.any fun n => n.addr == a.val && n.shelved) = true) →
    ((s.node a).any (fun n => n.status.any fun x => x.state == 3 && !x.folio) = true) → Runs (.shelfDelivery a ⟨none,
    cap⟩) s fun t => t.folio = s.folio ∧ t.get (R.SPN_NODE1_CAUSE a) = 6 ∧ t.flag R.XSP_EVT_ERR = true ∧
    t = { s with regs := t.regs, records := t.records }) ∧
  (∀ (s : State) (a : Fin 128) (b : Bool), s.powered = true → failingRead s = some (some a.val) →
    s.folio.forward = some (a.val, b) → s.get R.FOL_CMD_STATUS = 1 →
    Runs (.loadSourceFailure) s fun t => t.folio = { s.folio with forward := none } ∧ t.get R.FOL_CMD_STATUS = 6 ∧
    t.get R.FOL_STAT_CAUSE = 18 ∧ t = { s with regs := t.regs, folio := t.folio, free := t.free } ∧ (∀ a,
    a ≠ R.FOL_CMD_STATUS.addr → a ≠ R.FOL_STAT_CAUSE.addr → t.reg a = s.reg a))

/-- Handle commands at their ports (R106, R107, R110,
R612). That the argument and the block are read at the acceptance is the model's choice (log 153); checks and
  effects of handle commands (R100 to R109). -/
def Obligations.HandleCommands : Prop :=
  (∀ (s : State) (p : Port), s.powered = true → s.get (R.HND_PCMD_STATUS p) ≠ 1 → handleRefusal s false = none →
    Runs (.handleCreate p) s fun t => t.get (R.HND_PCMD_STATUS p) = 1 ∧ t.get (R.HND_PCMD_CODE p) = 1 ∧
    (t.handles.cmds = s.handles.cmds ++ [⟨p, 1, bitsOf (s.reg (R.HND_PARG_CLASS p).addr) 30 6,
    (if (s.reg (R.HND_PARG_CLASS p).addr).getLsbD 29 then 2 ^ 18 else bitsOf (s.reg (R.HND_PARG_CLASS p).addr) 0 18),
    s.reg (R.HND_PARG_CLASS p).addr :: portBlock s p, false⟩]) ∧ t.handles.channels = s.handles.channels ∧
    t = { s with regs := t.regs, handles := t.handles, power := t.power } ∧ (∀ a, a ≠ (R.HND_PCMD_STATUS p).addr →
    t.reg a = s.reg a)) ∧
  (∀ (s : State) (p : Port), s.powered = true → s.get (R.HND_PCMD_STATUS p) ≠ 1 → handleRefusal s false = none →
    Runs (.handleDestroy p) s fun t => t.get (R.HND_PCMD_STATUS p) = 1 ∧ t.get (R.HND_PCMD_CODE p) = 2 ∧
    t.handles.cmds = s.handles.cmds ++ [⟨p, 2, bitsOf (s.reg (R.HND_PHND_HANDLE p).addr) 30 6,
    bitsOf (s.reg (R.HND_PHND_HANDLE p).addr) 0 18, s.reg (R.HND_PHND_HANDLE p).addr :: portBlock s p, false⟩] ∧
    t.handles.channels = s.handles.channels ∧ t = { s with regs := t.regs, handles := t.handles, power := t.power } ∧
    (∀ a, a ≠ (R.HND_PCMD_STATUS p).addr → t.reg a = s.reg a)) ∧
  (∀ (s : State) (p : Port), s.powered = true → s.get (R.HND_PCMD_STATUS p) ≠ 1 → handleRefusal s true = none →
    Runs (.handleQuery p) s fun t => t.get (R.HND_PCMD_STATUS p) = 1 ∧ t.get (R.HND_PCMD_CODE p) = 3 ∧
    t.handles.cmds = s.handles.cmds ++ [⟨p, 3, bitsOf (s.reg (R.HND_PHND_HANDLE p).addr) 30 6,
    bitsOf (s.reg (R.HND_PHND_HANDLE p).addr) 0 18, s.reg (R.HND_PHND_HANDLE p).addr :: portBlock s p, false⟩] ∧
    t.handles.channels = s.handles.channels ∧ t = { s with regs := t.regs, handles := t.handles, power := t.power } ∧
    (∀ a, a ≠ (R.HND_PCMD_STATUS p).addr → t.reg a = s.reg a)) ∧
  (∀ (s : State) (p : Port) (e : Nat), s.powered = true → s.get (R.HND_PCMD_STATUS p) ≠ 1 →
    handleRefusal s false = some e → Runs (.handleCreate p) s fun t => t.get (R.HND_PCMD_STATUS p) = e % 16 ∧
    t.handles = s.handles ∧ t = { s with regs := t.regs, power := t.power } ∧ (∀ a, a ≠ (R.HND_PCMD_STATUS p).addr →
    t.reg a = s.reg a)) ∧
  (∀ (s : State) (p : Port), s.powered = true → s.get (R.HND_PCMD_STATUS p) = 1 →
    Runs (.handleCreate p) s fun t => t = (s.usedBy p).rsvd p (R.HND_PCMD_CODE p).addr) ∧
  (∀ (s : State) (p : Port) (e : Nat), s.powered = true → s.get (R.HND_PCMD_STATUS p) ≠ 1 →
    handleRefusal s false = some e → Runs (.handleDestroy p) s fun t => t.get (R.HND_PCMD_STATUS p) = e % 16 ∧
    t.handles = s.handles ∧ t = { s with regs := t.regs, power := t.power } ∧ (∀ a, a ≠ (R.HND_PCMD_STATUS p).addr →
    t.reg a = s.reg a)) ∧
  (∀ (s : State) (p : Port), s.powered = true → s.get (R.HND_PCMD_STATUS p) = 1 →
    Runs (.handleDestroy p) s fun t => t = (s.usedBy p).rsvd p (R.HND_PCMD_CODE p).addr) ∧
  (∀ (s : State) (p : Port) (e : Nat), s.powered = true → s.get (R.HND_PCMD_STATUS p) ≠ 1 →
    handleRefusal s true = some e → Runs (.handleQuery p) s fun t => t.get (R.HND_PCMD_STATUS p) = e % 16 ∧
    t.handles = s.handles ∧ t = { s with regs := t.regs, power := t.power } ∧ (∀ a, a ≠ (R.HND_PCMD_STATUS p).addr →
    t.reg a = s.reg a)) ∧
  (∀ (s : State) (p : Port), s.powered = true → s.get (R.HND_PCMD_STATUS p) = 1 →
    Runs (.handleQuery p) s fun t => t = (s.usedBy p).rsvd p (R.HND_PCMD_CODE p).addr) ∧
  (∀ (s : State) (p : Port) (c : HandleCmd) (i : Nat) (w : List Word), s.powered = true →
    (s.handles.cmds.find? (fun x => x.port == p.val && !x.checked) = some c) → c.port = p.val → c.code = 1 →
    (checkCreate s c).toOption = some (i, w) → effectNow s ⟨c.cls, i, w, false, false⟩ = true →
    Runs (.handleCheck p) s fun t => (t.channel c.cls i).map (·.words) = some w ∧ t.get (R.HND_PCMD_STATUS p) = 2 ∧
    t.reg (R.HND_PHND_HANDLE p).addr = handleWord c.cls (slotGen s c.cls i) i ∧
    t.handles.cmds.any (·.port == p.val) = false ∧ t.handles.gens = s.handles.gens ∧ (coresQuiet s = true →
    t.mem = s.mem ∧ t.dev = s.dev ∧ t.cores = s.cores ∧ t.folio = s.folio ∧ t.cycle = s.cycle ∧ t.fabric = s.fabric)) ∧
  (∀ (s : State) (p : Port) (c : HandleCmd) (i : Nat) (w : List Word), s.powered = true →
    (s.handles.cmds.find? (fun x => x.port == p.val && !x.checked) = some c) → c.port = p.val → c.code = 1 →
    (checkCreate s c).toOption = some (i, w) → effectNow s ⟨c.cls, i, w, false, false⟩ = false →
    Runs (.handleCheck p) s fun t => (t.handles.cmds.find? (fun x => x.port == p.val) = some { c with idx := i, words := w, checked := true }) ∧
    t.handles.channels = s.handles.channels ∧ (coresQuiet s = true → t = { s with handles := t.handles })) ∧
  (∀ (s : State) (p : Port) (c : HandleCmd), s.powered = true →
    (s.handles.cmds.find? (fun x => x.port == p.val && !x.checked) = some c) → c.port = p.val →
    ((if c.code = 1 then (checkCreate s c).toOption.isSome else (checkHandle s c).toOption.isSome) = false) →
    Runs (.handleCheck p) s fun t => t.get (R.HND_PCMD_STATUS p) = 5 ∧ t.handles.channels = s.handles.channels ∧
    t.handles.gens = s.handles.gens ∧ t.handles.cmds.any (·.port == p.val) = false ∧ (coresQuiet s = true →
    t = { s with regs := t.regs, handles := t.handles })) ∧
  (∀ (s : State) (p : Port) (c : HandleCmd) (ch : Channel), s.powered = true →
    (s.handles.cmds.find? (fun x => x.port == p.val && !x.checked) = some c) → c.port = p.val → c.code = 3 →
    (checkHandle s c).toOption = some ch → Runs (.handleCheck p) s fun t => t.get (R.HND_PCMD_STATUS p) = 2 ∧
    t.handles.channels = s.handles.channels ∧
    t.reg (R.HND_PBLK_WORD p 0).addr = BitVec.ofNat 36 (ch.cls * 2 ^ 30 + (queryWords s ch).length) ∧
    (((List.range (queryWords s ch).length).map fun i => t.reg (R.HND_PBLK_WORD p (i + 1)).addr) = queryWords s ch) ∧
    (coresQuiet s = true → t = { s with regs := t.regs, handles := t.handles })) ∧
  (∀ (s : State) (p : Port) (c : HandleCmd) (ch : Channel), s.powered = true →
    (s.handles.cmds.find? (fun x => x.port == p.val && !x.checked) = some c) → c.port = p.val → c.code = 2 →
    (checkHandle s c).toOption = some ch → effectNow s ch = true →
    Runs (.handleCheck p) s fun t => t.get (R.HND_PCMD_STATUS p) = 2 ∧
    (t.handles.channels = s.handles.channels.filter (fun x => !(x.cls == c.cls && x.idx == ch.idx))) ∧
    slotGen t c.cls ch.idx = slotGen s c.cls ch.idx + 1 ∧ t.handles.cmds.any (·.port == p.val) = false ∧
    (coresQuiet s = true → t.mem = s.mem ∧ t.dev = s.dev ∧ t.cores = s.cores ∧ t.folio = s.folio ∧ t.cycle = s.cycle ∧
    t.fabric = s.fabric)) ∧
  (∀ (s : State) (p : Port) (c : HandleCmd), s.powered = true →
    (s.handles.cmds.find? (fun x => x.port == p.val && x.checked) = some c) → c.port = p.val → c.code = 2 →
    effectNow s ((s.channel c.cls c.idx).getD ⟨c.cls, c.idx, c.words, false, false⟩) = true →
    Runs (.handleCommandEffect p) s fun t => t.get (R.HND_PCMD_STATUS p) = 2 ∧
    (t.handles.channels = s.handles.channels.filter (fun x => !(x.cls == c.cls && x.idx == c.idx))) ∧
    slotGen t c.cls c.idx = slotGen s c.cls c.idx + 1 ∧ t.handles.cmds.any (·.port == p.val) = false ∧
    (coresQuiet s = true → t.mem = s.mem ∧ t.dev = s.dev ∧ t.cores = s.cores ∧ t.folio = s.folio ∧ t.cycle = s.cycle ∧
    t.fabric = s.fabric)) ∧
  (∀ (s : State) (p : Port) (c : HandleCmd), s.powered = true →
    (s.handles.cmds.find? (fun x => x.port == p.val && x.checked) = some c) → c.port = p.val → c.code = 1 →
    effectNow s ((s.channel c.cls c.idx).getD ⟨c.cls, c.idx, c.words, false, false⟩) = true →
    Runs (.handleCommandEffect p) s fun t => t.get (R.HND_PCMD_STATUS p) = 2 ∧
    (t.channel c.cls c.idx).map (·.words) = some c.words ∧
    t.reg (R.HND_PHND_HANDLE p).addr = handleWord c.cls (slotGen s c.cls c.idx) c.idx ∧
    t.handles.cmds.any (·.port == p.val) = false ∧ t.handles.gens = s.handles.gens ∧ (coresQuiet s = true →
    t.mem = s.mem ∧ t.dev = s.dev ∧ t.cores = s.cores ∧ t.folio = s.folio ∧ t.cycle = s.cycle ∧ t.fabric = s.fabric))

/-- Expert pages (R112, R114, R115); errors of the word memory (R254 to R256). -/
def Obligations.ExpertPages : Prop :=
  (∀ (s : State) (m : Fin 18) (b : Fin 64), s.powered = true → b.val < 32 → s.unlock = none →
    Runs (.expertUnlockStep m 0xAAA b) s fun t => t = { s with unlock := some ⟨m, b⟩ }) ∧
  (∀ (s : State) (m : Fin 18) (b : Fin 64), s.powered = true → b.val < 32 → s.unlock = some ⟨m, b⟩ →
    s.getBit R.SYS_XPERM_PERM b = true → Runs (.expertUnlockStep m 0x555 b) s fun t => t.unlock = none ∧
    t.getBit R.SYS_XOPEN_OPEN b = true ∧ t.get R.SYS_XOPEN_RESULT = 1 ∧
    t = { s with regs := t.regs, unlock := t.unlock } ∧ (∀ a, a ≠ R.SYS_XOPEN_OPEN.addr →
    a ≠ R.SYS_XOPEN_RESULT.addr → t.reg a = s.reg a)) ∧
  (∀ (s : State) (m : Fin 18) (b : Fin 64), s.powered = true → b.val < 32 → s.unlock = some ⟨m, b⟩ →
    s.getBit R.SYS_XPERM_PERM b = false →
    Runs (.expertUnlockStep m 0x555 b) s fun t => t = { s with unlock := none }.set R.SYS_XOPEN_RESULT 2) ∧
  (∀ (s : State) (m : Fin 18) (k : BitVec 12) (b : Fin 64) (x y : Nat), s.powered = true → b.val < 32 →
    s.unlock = some ⟨x, y⟩ → (¬(x = m.val ∧ y = b.val ∧ k = 0x555)) →
    Runs (.expertUnlockStep m k b) s fun t => t = { s with unlock := none }.set R.SYS_XOPEN_RESULT 3) ∧
  (∀ (s : State), s.powered = true → s.unlock ≠ none →
    Runs (.expertUnlockTimeout) s fun t => t = { s with unlock := none }.set R.SYS_XOPEN_RESULT 3) ∧
  (∀ (s : State) (m : Fin 18) (b : Fin 64), s.powered = true → b.val < 32 → s.unlock = none →
    Runs (.expertRelock m b) s fun t => t.getBit R.SYS_XOPEN_OPEN b = false ∧ t = { s with regs := t.regs } ∧ (∀ a,
    a ≠ R.SYS_XOPEN_OPEN.addr → t.reg a = s.reg a)) ∧
  (∀ (s : State) (m : Fin 18), s.powered = true → s.unlock = none → s.getBit R.SYS_XOPEN_OPEN 7 = true →
    Runs (.expertRestore m 7) s fun t => t.get R.FAB_XFILT0_FILT = 0 ∧ t.get R.FAB_XFILT1_FILT = 0 ∧
    t.get R.FAB_XSCRUB_RATE = 0 ∧ t.get R.FAB_XMIS_TIME = 2 ∧
    t = { s with regs := t.regs, overridden := t.overridden } ∧ (∀ a, a ≠ R.FAB_XFILT0_FILT.addr →
    a ≠ R.FAB_XFILT1_FILT.addr → a ≠ R.FAB_XSCRUB_RATE.addr → a ≠ R.FAB_XMIS_TIME.addr → t.reg a = s.reg a)) ∧
  (∀ (s : State) (m : Fin 18) (b : Fin 64), s.powered = true → b.val < 32 → s.unlock = none →
    s.getBit R.SYS_XOPEN_OPEN b = false → Runs (.expertRestore m b) s fun t => t = s) ∧
  (∀ (s : State) (a : BitVec 24), s.powered = true → (regionOf a.toNat).scrubbed = true → s.poisoned a.toNat = false →
    Runs (.memoryScrub a 1) s fun t => t.get R.IMP_ECCCOR_COUNT = (s.get R.IMP_ECCCOR_COUNT + 1) % 2 ^ 36 ∧
    t.flag R.IMP_MEMEVT_COR = true ∧ t.poison = s.poison ∧ t = { s with regs := t.regs } ∧ (∀ a,
    a ≠ R.IMP_ECCCOR_COUNT.addr → a ≠ R.IMP_MEMEVT_COR.addr → t.reg a = s.reg a)) ∧
  (∀ (s : State) (a : BitVec 24), s.powered = true → (regionOf a.toNat).scrubbed = true →
    Runs (.memoryScrub a 2) s fun t => t.poisoned a.toNat = true ∧ t.get R.IMP_ECCADR_ADDR = a.toNat ∧
    t.get R.IMP_ECCUNC_COUNT = (s.get R.IMP_ECCUNC_COUNT + 1) % 2 ^ 36 ∧ t.flag R.IMP_MEMEVT_UNC = true ∧
    t.flag R.IMP_MEMEVT_SCRUB = true ∧ t.mem = s.mem ∧
    t = { s with regs := t.regs, poison := t.poison, records := t.records, free := t.free })

/-- LATCH to SCATTER (R118, R122, R128, R129). -/
def Obligations.CycleBegins : Prop :=
  (∀ (s : State) (c : Cls), mayLatch s c = true → (s.cls c).phase = .idle →
    Runs (.latch c) s fun t => (t.cls c).phase = .gather ∧ (t.cls c).latchAt = latchInstant s c ∧
    (t.cls c).notBefore = latchInstant s c + 1 ∧ (t.cls c).checked = false ∧ (t.cls c).allowed = false ∧
    (t.cls c).stretchN = 0 ∧ t.get R.CYC_CHKLEAD_K = checkLead s % 2 ^ 24 ∧ t.dev = s.dev ∧
    (boundChannels s c false 3 = [] → s.twin.logs = [] →
    t.mem.clear 0x600000 0x200000 = s.mem.clear 0x600000 0x200000)) ∧
  (∀ (s : State) (c : Cls), mayLatch s c = true → (s.cls c).phase ≠ .idle →
    Runs (.latch c) s fun t => t.cls c = { s.cls c with notBefore := latchInstant s c + 1 } ∧
    t.get (R.CYC_OVC_SKIP c) = (s.get (R.CYC_OVC_SKIP c) + 1) % 2 ^ 18 ∧ t.getBit R.CYC_EVT_SKIP c = true ∧
    t = { s with regs := t.regs, cycle := t.cycle } ∧ (∀ a, a ≠ (R.CYC_OVC_SKIP c).addr → a ≠ R.CYC_EVT_SKIP.addr →
    t.reg a = s.reg a)) ∧
  (∀ (s : State) (c : Cls), cycleOpen s = true → (s.cls c).phase = .gather → gatherDone s c = true →
    s.flag R.CLK_STAT_STOPPED = false → s.coreUnits = [] → coresQuiet s = true →
    Runs (.gatherComplete c) s fun t => (t.cls c).phase = .solve ∧ (t.cls c).latchAt = (s.cls c).latchAt ∧
    t.dev = s.dev ∧ t.cores = s.cores ∧ (∀ x, x < 0x600000 ∨ 0x600000 + 0x200000 ≤ x → t.word x = s.word x)) ∧
  (∀ (s : State) (c : Cls), cycleOpen s = true → (s.cls c).phase = .gather → s.flag R.CLK_STAT_STOPPED = false →
    s.coreUnits = [] → coresQuiet s = true → Runs (.gatherDeadline c) s fun t => (t.cls c).phase = .solve ∧
    (t.cls c).latchAt = (s.cls c).latchAt ∧ t.dev = s.dev ∧ (∀ x, x < 0x600000 ∨ 0x600000 + 0x200000 ≤ x →
    t.word x = s.word x) ∧ t.cores = s.cores) ∧
  (∀ (s : State) (c : Cls) (u : CoreUnit) (e : SheetEntry), cycleOpen s = true → (s.cls c).phase = .gather →
    gatherDone s c = true → s.standalone = true → s.flag R.CLK_STAT_STOPPED = false → s.fabricUnits = [] →
    coresQuiet s = true → s.coreUnits = [u] → u.cls = c → u.event = none → s.placed 1 u.id false = some e →
    e.place < 8 → (s.core e.place).task = none → (s.core e.place).ready = [] → (s.core e.place).preempted = [] →
    (s.cls c).busUnit = none → (s.cls c).passesLeft = [] → remoteUnits s c = [] →
    Runs (.gatherComplete c) s fun t => (t.cls c).phase = .solve ∧ (t.core e.place).task = some ⟨u.id, c, none,
    false⟩ ∧ (t.core e.place).pc = BitVec.ofNat 24 (e.base + u.entry) ∧ t.mem = s.mem) ∧
  (∀ (s : State) (c : Cls), cycleOpen s = true → (s.cls c).phase = .solve → solveDone s c = true → s.partner = none →
    Runs (.solveComplete c) s fun t => t = s.setCls c { s.cls c with phase := .scatter }) ∧
  (∀ (s : State) (c : Cls), cycleOpen s = true → (s.cls c).phase = .late → solveDone s c = true →
    Runs (.scatterComplete c) s fun t => t.cls c = s.cls c ∧
    t.get (R.CYC_DONE_DONE c) = ceilDiv (s.now - (s.cls c).latchAt) 125 % 2 ^ 24 ∧
    t = { s with regs := t.regs, imposer := t.imposer } ∧ (∀ a, a ≠ (R.CYC_DONE_DONE c).addr →
    a ≠ (R.CYC_PEAK_PEAK c).addr → t.reg a = s.reg a)) ∧
  (∀ (s : State) (c : Cls), cycleOpen s = true → (s.cls c).phase = .scatter →
    Runs (.scatterComplete c) s fun t => (t.cls c).phase = .done ∧
    t.get (R.CYC_DONE_DONE c) = ceilDiv (s.now - (s.cls c).latchAt) 125 % 2 ^ 24 ∧
    t.get (R.CYC_PEAK_PEAK c) = max (s.get (R.CYC_PEAK_PEAK c)) (min (ceilDiv (s.now - (s.cls c).latchAt) 125) (2 ^ 24
      - 1)) ∧ t = { s with regs := t.regs, cycle := t.cycle, imposer := t.imposer, net := t.net, spine := t.spine })

/-- The commit check (R128 to R132); COMMIT and the STOP broadcast (R124, R129, R139, R140). -/
def Obligations.CommitOrSkip : Prop :=
  (∀ (s : State) (c : Cls), cycleOpen s = true → (s.cls c).checked = false → systemChecked s = false →
    (s.cls c).phase = .done → (s.cls c).voided = false → (s.cls c).stretchN = 0 →
    Runs (.commitCheck c) s fun t => t = (trackSend s [.decision c.val 0]).setCls c { s.cls c with checked := true, allowed := true }) ∧
  (∀ (s : State) (c : Cls), cycleOpen s = true → (s.cls c).checked = false → systemChecked s = false →
    (s.cls c).phase = .solve → (s.cls c).voided = false → (s.cls c).faulted = false →
    s.get (R.CYC_XPOL_OVRLIM c) = 0 → s.get (R.CYC_XPOL_OVRPOL c) = 0 →
    Runs (.commitCheck c) s fun t => t.cls c = { s.cls c with checked := true, overran := true, voided := true, phase := .late } ∧
    t.get (R.CYC_OVC_OVR c) = (s.get (R.CYC_OVC_OVR c) + 1) % 2 ^ 18 ∧
    t.get (R.CYC_CONS_CONS c) = min (s.get (R.CYC_CONS_CONS c) + 1) 255 ∧ t.getBit R.CYC_EVT_OVR c = true ∧
    t = { s with regs := t.regs, cycle := t.cycle, records := t.records, twin := t.twin }) ∧
  (∀ (s : State) (c : Cls), cycleOpen s = true → systemChecked s = false → (s.cls c).phase = .done →
    0 < (s.cls c).stretchN → (s.cls c).allowed = false → (s.cls c).voided = false →
    Runs (.stretchCheck c) s fun t => t = ((trackSend s [.decision c.val 0]).setCls c { s.cls c with checked := true, allowed := true }).putBit R.CYC_EVT_STRETCH c true) ∧
  (∀ (s : State) (c : Cls), cycleOpen s = true → systemChecked s = false → (s.cls c).phase = .solve →
    0 < (s.cls c).stretchN → (s.cls c).allowed = false → (s.cls c).voided = false → s.get (R.CYC_XPOL_OVRPOL c) = 1 →
    (s.cls c).stretchN < s.get (R.CYC_XPOL_SLIM c) →
    Runs (.stretchCheck c) s fun t => t = (trackSend s [.decision c.val 2]).setCls c { s.cls c with checked := true, stretchN := (s.cls c).stretchN + 1 }) ∧
  (∀ (s : State) (c : Cls), s.cycling = true → (s.cls c).phase = .late → solveDone s c = true →
    s.cycle.stopDue = false →
    Runs (.overrunWorkDone c) s fun t => (t = s.setCls c { s.cls c with phase := if (s.cls c).checked then .done else .idle, voided := (s.cls c).checked })) ∧
  (∀ (s : State) (c : Cls), s.powered = true → s.acting = true → systemChecked s = true → cycleOpen s = true →
    (s.cls c).phase = .done → (s.cls c).checked = true → (s.cls c).allowed = false → (s.cls c).voided = false →
    s.cycle.peerOverrun.testBit c = false → (s.cls c).stretchN = 0 → reportsIn s c = true → s.dev ≠ .halt →
    Runs (.commitDecision c none) s fun t => (t.cls c).allowed = true ∧ t.spine.decisions = (c.val,
    0) :: s.spine.decisions ∧ t.spine.sent.head? = some (⟨8, c, commitAt s c % 2 ^ 36, [0]⟩ : SentFrame) ∧
    t = { s with cycle := t.cycle, spine := t.spine, twin := t.twin }) ∧
  (∀ (s : State) (c : Cls) (h : FrameHead), s.powered = true → s.acting = false → cycleOpen s = true →
    (spineAccept s 8 h).2 = true → (s.cls c).phase = .done → Runs (.commitDecision c (some (h,
    1))) s fun t => (t.cls c).voided = true ∧ (t.cls c).allowed = (s.cls c).allowed ∧ (c.val, 1) ∈ t.spine.decisions ∧
    t = { s with regs := t.regs, cycle := t.cycle, spine := t.spine, twin := t.twin }) ∧
  (∀ (s : State) (c : Cls), cycleOpen s = true → (s.cls c).checked = false → systemChecked s = true →
    s.acting = false → (s.cls c).phase = .done → (s.cls c).stretchN = 0 →
    Runs (.commitCheck c) s fun t => t.cls c = { s.cls c with checked := true } ∧ t.spine.sent.head? = some (⟨2, 8,
    s.now % 2 ^ 36, [BitVec.ofNat 36 (c * 2 + bitNat (s.cls c).voided)]⟩ : SentFrame) ∧
    t = { s with cycle := t.cycle, spine := t.spine }) ∧
  (∀ (s : State) (c : Cls), cycleOpen s = true → s.power.pfStep ≤ 3 → (s.cls c).phase = .done →
    (s.cls c).checked = true → (s.cls c).faulted = false → s.getBit R.CYC_STAT_HALTED c = false →
    s.twin.yieldFrom = none → (s.cls c).allowed = true → s.cycle.stopping = false → s.cycle.stopDue = false →
    s.spine.stepDue = 0 → Runs (.commit c) s fun t => (t.cls c).phase = .idle ∧
    t.get (R.CYC_CNT_COUNT c) = (s.get (R.CYC_CNT_COUNT c) + 1) % 2 ^ 36 ∧ t.get (R.CYC_CONS_CONS c) = 0 ∧
    ((s.cls c).overran = false → (s.cls c).stretchN = 0 → t.getBit R.CYC_STAT_READY c = true) ∧ (s.standalone = true →
    (classPoints s c true).all (fun p => delivered s c p) = true →
    (classPoints s c true).all (fun p => t.point p.word p.global p.num == committedValue s c p) = true) ∧
    (boundChannels s c true 3 = [] → t.mem.clear 0x600000 0x200000 = s.mem.clear 0x600000 0x200000) ∧ t.dev = s.dev) ∧
  (∀ (s : State) (c : Cls), cycleOpen s = true → s.power.pfStep ≤ 3 → (s.cls c).phase = .done →
    (s.cls c).checked = true → (s.cls c).faulted = false → s.getBit R.CYC_STAT_HALTED c = false →
    s.twin.yieldFrom = none → (s.cls c).allowed = false → (s.cls c).voided = true → s.cycle.stopping = false →
    s.cycle.stopDue = false → s.spine.stepDue = 0 →
    Runs (.commit c) s fun t => t.cls c = { s.cls c with phase := .idle, checked := false } ∧
    t.get (R.CYC_OVC_SKIP c) = (s.get (R.CYC_OVC_SKIP c) + 1) % 2 ^ 18 ∧ t.getBit R.CYC_EVT_SKIP c = true ∧
    t.get (R.CYC_CNT_COUNT c) = s.get (R.CYC_CNT_COUNT c) ∧ (∀ x, x < 0x600000 ∨ 0x600000 + 0x200000 ≤ x →
    t.word x = s.word x) ∧ t.cycle.committed = s.cycle.committed) ∧
  (∀ (s : State), s.acting = true → s.dev = .run → s.cycle.stopping = true →
    Runs (.stopBroadcast none) s fun t => t.spine.sent.head? = some ⟨8, 8, s.now % 2 ^ 36, []⟩ ∧
    t = { s with spine := t.spine }) ∧
  (∀ (s : State) (h : FrameHead), s.powered = true → (spineAccept s 8 h).2 = true → s.isWorker = true → s.dev = .run →
    inGap s = true → Runs (.stopBroadcast (some h)) s fun t => t.dev = .stop ∧ t.flag R.SYS_STATE_RELEASED = false) ∧
  (∀ (s : State) (h : FrameHead), s.powered = true → (spineAccept s 8 h).2 = true → s.isWorker = true → s.dev = .run →
    inGap s = false → Runs (.stopBroadcast (some h)) s fun t => t.cycle = { s.cycle with stopDue := true } ∧
    t.dev = .run ∧ t = { s with regs := t.regs, cycle := t.cycle, spine := t.spine })

/-- Event tasks and debug halt (R19, R133 to R138, R151, R152, R155). -/
def Obligations.EventTasks : Prop :=
  (∀ (s : State) (e : Fin 32), s.dev = .run → s.get (R.CYC_ETCFG_SRC e) ≠ 0 → s.get (R.CYC_ETCFG_SRC e) ≠ 6 →
    ((s.event e).ready = true ∨ (s.event e).running = true) →
    Runs (.eventTrigger e) s fun t => (t.event e).again = true ∧
    t.get (R.CYC_ETCNT_MERGED e) = (s.get (R.CYC_ETCNT_MERGED e) + 1) % 2 ^ 18 ∧ t.flag R.CYC_EVT_EVMISS = true ∧
    t = { s with regs := t.regs, cycle := t.cycle, power := t.power } ∧ (∀ a, a ≠ (R.CYC_ETCNT_MERGED e).addr →
    a ≠ R.CYC_EVT_EVMISS.addr → t.reg a = s.reg a)) ∧
  (∀ (s : State) (e : Fin 32) (x : Nat) (u : CoreUnit) (k : Nat), s.dev = .run → s.get (R.CYC_ETCFG_SRC e) ≠ 0 →
    s.get (R.CYC_ETCFG_SRC e) ≠ 6 → s.event e = ⟨false, false, false, x⟩ →
    s.coreUnits.find? (·.event == some e.val) = some u → s.coreOf ⟨u.id, s.get (R.CYC_ETCFG_HOST e), some e,
    false⟩ = some k → k < 8 → (s.core k).task = none → (s.core k).ready = [] → (s.core k).preempted = [] →
    Runs (.eventTrigger e) s fun t => t.get (R.CYC_ETTIM_TIME e) = s.now % 2 ^ 36 ∧ (t.event e).running = true ∧
    (t.core k).task = some ⟨u.id, s.get (R.CYC_ETCFG_HOST e), some e.val, false⟩ ∧
    t.get (R.CYC_ETCNT_RUNS e) = (s.get (R.CYC_ETCNT_RUNS e) + 1) % 2 ^ 18 ∧ t.mem = s.mem) ∧
  (∀ (s : State) (e : Fin 32) (x : Nat) (u : CoreUnit) (k : Nat) (r : TaskRef), s.dev = .run →
    s.get (R.CYC_ETCFG_SRC e) ≠ 0 → s.get (R.CYC_ETCFG_SRC e) ≠ 6 → s.event e = ⟨false, false, false, x⟩ →
    s.coreUnits.find? (·.event == some e.val) = some u → s.coreOf ⟨u.id, s.get (R.CYC_ETCFG_HOST e), some e,
    false⟩ = some k → k < 8 → (s.core k).task = some r → (s.core k).ready = [] → taskRank s ⟨u.id,
    s.get (R.CYC_ETCFG_HOST e), some e, false⟩ < taskRank s r → preemptHeld s k = false →
    Runs (.eventTrigger e) s fun t => (t.core k).task = some ⟨u.id, s.get (R.CYC_ETCFG_HOST e), some e.val, false⟩ ∧
    (t.core k).preempted.head?.map (·.task) = some r ∧ (t.event e).running = true) ∧
  (∀ (s : State) (m : BitVec 32), s.dev = .run → Runs (.softwareTrigger m) s fun t => (∀ e : Fin 32,
    m.getLsbD e = false ∨ s.get (R.CYC_ETCFG_SRC e) ≠ 6 → t.event e = s.event e) ∧ (∀ e : Fin 32, m.getLsbD e = true →
    s.get (R.CYC_ETCFG_SRC e) = 6 → (s.event e).ready = true ∨ (s.event e).running = true →
    (t.event e).again = true) ∧ (∀ e : Fin 32, m.getLsbD e = true → s.get (R.CYC_ETCFG_SRC e) = 6 →
    s.coreUnits.any (·.event == some e.val) = true → (t.event e).ready = true ∨ (t.event e).running = true) ∧
    t.dev = .run) ∧
  (∀ (s : State) (k : Fin 8) (tk : TaskRef), coreRuns s k = true → (s.core k).task = some tk →
    tk.event.isSome = true → Runs (.eventBoundExceeded k) s fun t => t.getBit R.CYC_EVT_FAULT tk.cls = true ∧
    t.upd.spoiled = true) ∧
  (∀ (s : State), s.flag R.DBG_STAT_CONN = true → s.dev = .run → s.power.pfStep = 0 →
    s.flag R.CYC_CFG_HALTOUT = true → Runs (.debugHalt) s fun t => t.dev = .halt ∧ t.flag R.DBG_STAT_HALT = true ∧
    t.flag R.SYS_STATE_RELEASED = false ∧ t.cycle = { s.cycle with heldRelease := s.flag R.SYS_STATE_RELEASED } ∧
    t.watchdog = { s.watchdog with haltAt := some (ladderGrain s) } ∧
    t = { s with regs := t.regs, dev := t.dev, cycle := t.cycle, watchdog := t.watchdog, can := t.can, free := t.free }) ∧
  (∀ (s : State), s.flag R.DBG_STAT_CONN = true → s.dev = .run → s.power.pfStep = 0 →
    s.flag R.CYC_CFG_HALTOUT = false → Runs (.debugHalt) s fun t => t.dev = .halt ∧ t.flag R.DBG_STAT_HALT = true ∧
    t.flag R.SYS_STATE_RELEASED = false ∧ t.cycle.heldRelease = false ∧ t.mem = s.mem ∧ t.cores = s.cores) ∧
  (∀ (s : State), s.flag R.DBG_STAT_CONN = true → s.dev = .halt → s.power.pfStep = 0 → coresQuiet s = true →
    Runs (.debugResume) s fun t => t.dev = .run ∧ t.flag R.DBG_STAT_HALT = false ∧
    (t.watchdog = { s.watchdog with haltAt := none, shift := s.watchdog.shift + (s.watchdog.haltAt.map fun h => grainsSince s h).getD 0 }) ∧
    t.mem = s.mem ∧ t.cores = s.cores)

/-- Passes, planes and ports of the fabric (R161, R165, R172, R174, R186). -/
def Obligations.FabricPasses : Prop :=
  (∀ (s : State) (q : Fin 8) (p : Pass) (rest : List Pass) (act st : List FabricUnit) (u : FabricUnit) (us : UnitSt),
    (s.cycling = true ∨ s.dev = .halt) → s.flag R.SYS_STATE_DEFER = false → s.power.pfStep ≤ 3 →
    s.flag R.CLK_STAT_STOPPED = false → s.flag (R.FAB_QSTAT_DIS q) = false → s.quire q = ⟨none, none, p :: rest, act,
    st⟩ → s.fabricUnit p.unit = some u → s.unitSt p.unit = some us →
    Runs (.fabricPassStart q) s fun t => t.quire q = ⟨some p, some (passResult u us (capture s u)), rest, act, st⟩ ∧
    t.fabric.units = s.fabric.units ∧ ((u.inTaps.flatMap tapWords).any s.poisoned = false → t.regs = s.regs ∧
    t.records = s.records) ∧ t = { s with regs := t.regs, fabric := t.fabric, records := t.records }) ∧
  (∀ (s : State) (q : Fin 8), (s.cycling = true ∨ s.dev = .halt) → s.flag R.SYS_STATE_DEFER = false →
    s.power.pfStep ≤ 3 → s.flag R.CLK_STAT_STOPPED = false → (s.quire q).running = none → (s.quire q).waiting = [] →
    Runs (.fabricPassStart q) s fun t => t = s) ∧
  (∀ (s : State) (q : Fin 8) (p : Pass) (new old : UnitSt) (rest : List Pass) (act st : List FabricUnit) (u :
      FabricUnit), (s.cycling = true ∨ s.dev = .halt) → s.quire q = ⟨some p, some new, rest, act, st⟩ →
    s.fabricUnit p.unit = some u → s.unitSt p.unit = some old → p.by' = .cls → ((s.cls p.cls).phase ≠ .solve ∧
    (s.cls p.cls).phase ≠ .late ∨ (s.cls p.cls).passesLeft.erase p.unit ≠ []) → new.id = p.unit →
    Runs (.fabricPassComplete q) s fun t => t.quire q = ⟨none, none, rest, act, st⟩ ∧
    t.unitSt p.unit = some (passMerge u old new) ∧
    t.get (R.FAB_QPASS_PASSES q) = (s.get (R.FAB_QPASS_PASSES q) + 1) % 2 ^ 36 ∧
    t.get (R.FAB_QBUSY_BUSY q) = (s.get (R.FAB_QBUSY_BUSY q) + passClocks s u) % 2 ^ 36 ∧ t.cores = s.cores ∧
    t.mem = s.mem ∧ t = { s with regs := t.regs, fabric := t.fabric, cycle := t.cycle }) ∧
  (∀ (s : State) (q : Fin 8) (p : Pass) (new old : UnitSt) (rest : List Pass) (act st : List FabricUnit) (u :
      FabricUnit) (k : Nat) (tk : TaskRef), s.quire q = ⟨some p, some new, rest, act, st⟩ →
    s.fabricUnit p.unit = some u → s.unitSt p.unit = some old → p.by' = .core k tk false → coreRuns s k = true →
    (s.core k).task = some tk → (s.core k).wait = .fcall p.unit → new.id = p.unit →
    Runs (.fabricPassComplete q) s fun t => t.unitSt p.unit = some (passMerge u old new) ∧
    t.get (R.FAB_QPASS_PASSES q) = (s.get (R.FAB_QPASS_PASSES q) + 1) % 2 ^ 36 ∧ (t.quire q).running = none ∧
    t.core k = { s.core k with wait := .none }.advance 1 ∧ t.mem = s.mem) ∧
  (∀ (s : State) (m : BitVec 8), s.cycling = true → inGap s = true → passesIdle s = true → m ≠ 0 →
    (((List.range 8).filter m.toNat.testBit).all (fun q => s.flag (R.FAB_QSTAT_STAGED q)) = true) →
    Runs (.planeSwitch m) s fun t => (((List.range 8).all fun q => t.get (R.FAB_QSTAT_PLANE q) == (if m.toNat.testBit
      q then 1 - s.get (R.FAB_QSTAT_PLANE q) else s.get (R.FAB_QSTAT_PLANE q))) = true) ∧
    (((List.range 8).all fun q => t.quire q == (if m.toNat.testBit q then { s.quire q with active := (s.quire q).staged, staged := (s.quire q).active } else s.quire q)) = true) ∧
    t.fabric.units = s.fabric.units ∧ t.dev = s.dev) ∧
  (∀ (s : State) (m : BitVec 8), s.cycling = true →
    (((List.range 8).filter m.toNat.testBit).any (fun q => !s.flag (R.FAB_QSTAT_STAGED q)) = true) →
    Runs (.planeSwitch m) s fun t => t = s) ∧
  (∀ (s : State) (p : Port) (v : Word) (us : UnitSt), s.powered = true →
    portCell s (s.get (R.FAB_CSEL_KIND p)) (s.get (R.FAB_CSEL_UNIT p)) (s.get (R.FAB_CSEL_INDEX p)) = some us →
    s.get (R.FAB_CSEL_KIND p) = 0 → us.id = s.get (R.FAB_CSEL_UNIT p) →
    Runs (.presetWrite p v) s fun t => ((t.unitSt us.id).map (fun x => x.timers.map (·.pt)) = some ((us.timers.map
      (·.pt)).set (s.get (R.FAB_CSEL_INDEX p)) (bitsOf v 0 32))) ∧
    ((t.unitSt us.id).map (fun x => x.timers.map (·.et)) = some (us.timers.map (·.et))) ∧
    t.get (R.FAB_CVAL_VALUE p) = bitsOf v 0 32 ∧ t = { s with regs := t.regs, fabric := t.fabric, power := t.power } ∧
    (∀ a, a ≠ (R.FAB_CVAL_VALUE p).addr → t.reg a = s.reg a)) ∧
  (∀ (s : State) (p : Port) (v : Word) (us : UnitSt), s.powered = true →
    portCell s (s.get (R.FAB_CSEL_KIND p)) (s.get (R.FAB_CSEL_UNIT p)) (s.get (R.FAB_CSEL_INDEX p)) = some us →
    s.get (R.FAB_CSEL_KIND p) = 1 → us.id = s.get (R.FAB_CSEL_UNIT p) →
    Runs (.presetWrite p v) s fun t => ((t.unitSt us.id).map (fun x => x.counters.map (·.pv)) = some ((us.counters.map
      (·.pv)).set (s.get (R.FAB_CSEL_INDEX p)) v.toInt)) ∧
    ((t.unitSt us.id).map (fun x => x.counters.map (·.cv)) = some (us.counters.map (·.cv))) ∧
    t.reg (R.FAB_CVAL_VALUE p).addr = v ∧ t = { s with regs := t.regs, fabric := t.fabric, power := t.power } ∧ (∀ a,
    a ≠ (R.FAB_CVAL_VALUE p).addr → t.reg a = s.reg a)) ∧
  (∀ (s : State) (p : Port) (v : Word), s.powered = true →
    portCell s (s.get (R.FAB_CSEL_KIND p)) (s.get (R.FAB_CSEL_UNIT p)) (s.get (R.FAB_CSEL_INDEX p)) = none →
    Runs (.presetWrite p v) s fun t => t.get (R.FAB_CVAL_VALUE p) = 0 ∧ t.flag R.FAB_EVT_SELERR = true ∧
    t = { s with regs := t.regs, power := t.power } ∧ (∀ a, a ≠ (R.FAB_CVAL_VALUE p).addr →
    a ≠ R.FAB_EVT_SELERR.addr → t.reg a = s.reg a)) ∧
  (∀ (s : State) (p : Port) (w : Fin 8) (u : Fin 512) (i : Fin 32768), s.powered = true → w.val < 6 →
    Runs (.probeSelect p w u i) s fun t => t.get (R.FAB_PSEL_WHAT p) = w.val ∧ t.get (R.FAB_PSEL_UNIT p) = u.val ∧
    t.get (R.FAB_PSEL_INDEX p) = i.val ∧
    (t.get (R.FAB_PVAL_VALUE p) = (match probeValue t p with | some v => v.toNat | none => 0)) ∧ t.fabric = s.fabric ∧
    t = { s with regs := t.regs, power := t.power } ∧ (∀ a, a ≠ (R.FAB_PSEL_WHAT p).addr →
    a ≠ (R.FAB_PVAL_VALUE p).addr → a ≠ R.FAB_EVT_SELERR.addr → t.reg a = s.reg a))

/-- The reflex paths and the scrubbers of the fabric (R175, R178, R182 to R184). -/
def Obligations.ReflexPaths : Prop :=
  (∀ (s : State) (tr : Fin 32) (r : ReflexUnit) (i : Nat), tripLeaf s tr = some (r, i) →
    reflexRuns s (tr.val / 4) = true → tripsFit s = true → tripCause s r i = true → tripReset s r i = false →
    32 ≤ bitsOf (r.unit.reflex.getD (4 * i + 3) 0) 14 7 → s.getBit R.FAB_TRIP_T tr = false →
    Runs (.reflexTrip tr) s fun t => t.getBit R.FAB_TRIP_T tr = true ∧ t.getBit R.FAB_TRIPEVT_EVT tr = true ∧
    t.flag R.FAB_EVT_TRIP = true ∧ (pinsUnwatched s = true → t.mem = s.mem ∧ t.cores = s.cores) ∧
    t.fabric.units = s.fabric.units ∧ t.dev = s.dev) ∧
  (∀ (s : State) (tr : Fin 32) (r : ReflexUnit) (i : Nat) (pin : Nat), tripLeaf s tr = some (r, i) →
    reflexRuns s (tr.val / 4) = true → tripsFit s = true → tripCause s r i = true → s.getBit R.FAB_TRIP_T tr = false →
    ((List.range 8).all (fun q => q == tr.val / 4 || (reflexUnits s q).isEmpty) = true) →
    reflexUnits s (tr.val / 4) = [r] → r.unit.reflex.length = 4 → tripReset s r i = false →
    32 ≤ bitsOf (r.unit.reflex.getD (4 * i + 3) 0) 14 7 → reflexPin r.unit i = some pin → pinMode s pin = 3 →
    s.dev ≠ .standby → Runs (.reflexTrip tr) s fun t => t.fabric.drive.testBit pin = true ∧
    t.fabric.level.testBit pin = true) ∧
  (∀ (s : State) (tr : Fin 32) (r : ReflexUnit) (i : Nat), tripLeaf s tr = some (r, i) →
    reflexRuns s (tr.val / 4) = true → tripsFit s = true → tripCause s r i = false → tripReset s r i = true →
    s.getBit R.FAB_TRIP_T tr = true → reflexDrives s = [] → r.unit.reflex.length = 4 →
    Runs (.tripClear tr) s fun t => t.getBit R.FAB_TRIP_T tr = false ∧ t.mem = s.mem ∧ t.cores = s.cores ∧
    t.fabric.units = s.fabric.units ∧ t.dev = s.dev) ∧
  (∀ (s : State) (pin : Fin 24) (l : Bool), s.powered = true → (reflexDrives s).contains pin.val = false →
    Runs (.fastPinEdge pin l) s fun t => t.getBit R.FAB_PINLVL_LEVEL pin = l ∧ (pinsUnwatched s = true →
    t.mem = s.mem ∧ t.cores = s.cores) ∧ t.fabric.units = s.fabric.units ∧ t.dev = s.dev) ∧
  (∀ (s : State) (pin : Fin 24), s.powered = true → s.fabric.drive.testBit pin = true → 2 ≤ pinMode s pin →
    Runs (.pinMismatch pin) s fun t => t.getBit R.FAB_PINMIS_MIS pin = true ∧ t.flag R.FAB_EVT_PINMIS = true ∧
    t = { s with regs := t.regs } ∧ (∀ a, a ≠ R.FAB_PINMIS_MIS.addr → a ≠ R.FAB_EVT_PINMIS.addr → t.reg a = s.reg a)) ∧
  (∀ (s : State) (q : Fin 8) (st sg : Bool) (ofs : BitVec 18) (rd : Bool), s.powered = true → (s.dev = .load ∨
    reflexState s = true) → s.flag (R.FAB_QSTAT_DIS q) = false → scrubReads s q st ofs.toNat = true →
    Runs (.fabricScrub q st sg ofs 1 rd) s fun t => t.get R.FAB_CORR_COUNT = (s.get R.FAB_CORR_COUNT + 1) % 2 ^ 36 ∧
    t.getBit R.FAB_EVT_CORR q = true ∧
    (t.get R.FAB_SCRUB_COUNT = (s.get R.FAB_SCRUB_COUNT + (if rd && !st then 1 else 0)) % 2 ^ 36) ∧
    t = { s with regs := t.regs } ∧ (∀ a, a ≠ R.FAB_CORR_COUNT.addr → a ≠ R.FAB_EVT_CORR.addr →
    a ≠ R.FAB_SCRUB_COUNT.addr → t.reg a = s.reg a)) ∧
  (∀ (s : State) (q : Fin 8) (st sg : Bool) (ofs : BitVec 18) (rd : Bool), s.powered = true → (s.dev = .load ∨
    reflexState s = true) → s.flag (R.FAB_QSTAT_DIS q) = false → scrubReads s q st ofs.toNat = true →
    Runs (.fabricScrub q st sg ofs 0 rd) s fun t => (t = if rd && !st then s.add R.FAB_SCRUB_COUNT 1 else s)) ∧
  (∀ (s : State) (q : Fin 8) (ofs : BitVec 18) (rd : Bool), s.powered = true → (s.dev = .load ∨
    reflexState s = true) → s.flag (R.FAB_QSTAT_DIS q) = false → scrubReads s q false ofs.toNat = true →
    Runs (.fabricScrub q false true ofs 2 rd) s fun t => t.flag (R.FAB_QSTAT_STAGED q) = false ∧
    t.getBit R.FAB_STAT_STAGED q = false ∧ t.flag R.FAB_EVT_STAGEERR = true ∧ t.flag (R.FAB_QSTAT_DIS q) = false ∧
    t.fabric = s.fabric ∧ t = { s with regs := t.regs, records := t.records }) ∧
  (∀ (s : State) (q : Fin 8) (st sg : Bool) (ofs : BitVec 18) (rd : Bool), s.powered = true → (s.dev = .load ∨
    reflexState s = true) → s.flag (R.FAB_QSTAT_DIS q) = false → scrubReads s q st ofs.toNat = true → (st = true ∨
    sg = false) → Runs (.fabricScrub q st sg ofs 2 rd) s fun t => t.flag (R.FAB_QSTAT_DIS q) = true ∧
    t.flag R.FAB_EVT_UNCORR = true ∧ t.getBit R.FAB_STAT_DIS q = true ∧ (t.quire q).running = none ∧
    (t.quire q).waiting = [] ∧ (s.imposer.sheet.any (fun e => e.kind == 2 && e.place == q && !e.remote) = true →
    t.imposer.lossDue = true) ∧ ((s.quire q).running = none → (s.quire q).waiting = [] → t.mem = s.mem ∧
    t.cores = s.cores))

/-- R143 and R171: the counter cells CTU, CTD and CTUD. -/
def Obligations.CounterCells : Prop :=
  (∀ (ty : Nat) (c : CounterSt) (cu cd r ld : Bool), ty < 3 →
    let up : Bool := decide (ty ≠ 1) && c.cuPrev == some false && cu
    let down : Bool := decide (ty ≠ 0) && c.cdPrev == some false && cd
    let t : CounterSt := counterEval ty c cu cd r ld
    (r = true → t.cv = 0) ∧ (r = false → ld = true → t.cv = c.pv) ∧
    (r = false → ld = false → up = down → t.cv = c.cv) ∧
    (r = false → ld = false → up = true → down = false → c.cv < 2 ^ 35 - 1 → -2 ^ 35 ≤ c.cv → t.cv = c.cv + 1) ∧
    (r = false → ld = false → up = true → down = false → c.cv = 2 ^ 35 - 1 → t.cv = c.cv) ∧
    (r = false → ld = false → up = false → down = true → -2 ^ 35 < c.cv → c.cv < 2 ^ 35 → t.cv = c.cv - 1) ∧
    (r = false → ld = false → up = false → down = true → c.cv = -2 ^ 35 → t.cv = c.cv) ∧
    t.cuPrev = some cu ∧ t.cdPrev = some cd ∧ t.pv = c.pv ∧
    (ty = 0 → t.q = decide (c.pv ≤ t.cv)) ∧ (ty = 1 → t.q = decide (t.cv ≤ 0)) ∧
    (ty = 2 → t.q = decide (c.pv ≤ t.cv) ∧ t.qd = decide (t.cv ≤ 0)))

/-- Register instructions of the word cores (R223 to R237). -/
def Obligations.CoreMovesAndArithmetic : Prop :=
  (∀ (s : State) (core : Fin 8) (cond : Fin 16) (opnd : BitVec 26),
    coreReady s core (instrWord cond 4 opnd) { legal := true } = true →
    Runs (.ldi core cond opnd) s fun t => t.core core = ((s.core core).setG (opField opnd 22 4) ((opnd.extractLsb' 0
      22).signExtend 36)).advance 1 ∧ t.get (R.ZC_RET_COUNT core) = (s.get (R.ZC_RET_COUNT core) + 1) % 2 ^ 36 ∧
    coresKept s t core = true ∧ t = { s with cores := t.cores, regs := t.regs } ∧ (∀ a,
    a ≠ (R.ZC_RET_COUNT core).addr → a ≠ (R.ZC_STAT_TASK core).addr → t.reg a = s.reg a)) ∧
  (∀ (s : State) (core : Fin 8) (cond : Fin 16) (opnd : BitVec 26) (d : Nat),
    coreReady s core (instrWord cond 5 opnd) { legal := opField opnd 18 4 == 0 } = true → d = opField opnd 22 4 →
    Runs (.ldiu core cond opnd) s fun t => t.core core = ((s.core core).setG d (BitVec.ofNat 36 (opField opnd 0 18 * 2
      ^ 18 + ((s.core core).gr d).toNat % 2 ^ 18))).advance 1 ∧
    t.get (R.ZC_RET_COUNT core) = (s.get (R.ZC_RET_COUNT core) + 1) % 2 ^ 36 ∧ coresKept s t core = true ∧
    t = { s with cores := t.cores, regs := t.regs } ∧ (∀ a, a ≠ (R.ZC_RET_COUNT core).addr →
    a ≠ (R.ZC_STAT_TASK core).addr → t.reg a = s.reg a)) ∧
  (∀ (s : State) (core : Fin 8) (cond : Fin 16) (opnd : BitVec 26) (lit : Word) (md : Nat),
    coreReady s core (instrWord cond 6 opnd) (checksM opnd lit false (opField opnd 25 1 == 0 && opField opnd 16 6 ==
      0)) = true → md = opField opnd 0 10 →
    Runs (.lea core cond opnd lit) s fun t => t.core core = (((s.core core).mdModify md).setX (opField opnd 22 3)
      (BitVec.ofNat 24 ((s.core core).ea md lit))).advance (mdLen md) ∧
    t.get (R.ZC_RET_COUNT core) = (s.get (R.ZC_RET_COUNT core) + 1) % 2 ^ 36 ∧ coresKept s t core = true ∧
    t = { s with cores := t.cores, regs := t.regs } ∧ (∀ a, a ≠ (R.ZC_RET_COUNT core).addr →
    a ≠ (R.ZC_STAT_TASK core).addr → t.reg a = s.reg a)) ∧
  (∀ (s : State) (core : Fin 8) (cond : Fin 16) (opnd : BitVec 26),
    coreReady s core (instrWord cond 2 opnd) { legal := opField opnd 0 16 == 0 && srAssigned (opField opnd 16 6), priv := decide (48 ≤ opField opnd 16 6) } = true →
    Runs (.mfs core cond opnd) s fun t => t.core core = ((s.core core).setG (opField opnd 22 4) ((s.core core).special
      (opField opnd 16 6))).advance 1 ∧ t.get (R.ZC_RET_COUNT core) = (s.get (R.ZC_RET_COUNT core) + 1) % 2 ^ 36 ∧
    coresKept s t core = true ∧ t = { s with cores := t.cores, regs := t.regs } ∧ (∀ a,
    a ≠ (R.ZC_RET_COUNT core).addr → a ≠ (R.ZC_STAT_TASK core).addr → t.reg a = s.reg a)) ∧
  (∀ (s : State) (core : Fin 8) (cond : Fin 16) (opnd : BitVec 26),
    coreReady s core (instrWord cond 3 opnd) { legal := opField opnd 0 16 == 0 && srAssigned (opField opnd 16 6) && opField opnd 16 6 != 29, priv := decide (48 ≤ opField opnd 16 6) } = true →
    (¬(16 ≤ opField opnd 16 6 ∧ opField opnd 16 6 < 24 ∧ ringLegal ((s.core core).gr (opField opnd 22 4)) = false)) →
    Runs (.mts core cond opnd) s fun t => t.core core = ((s.core core).setSpecial (opField opnd 16 6) ((s.core
      core).gr (opField opnd 22 4))).advance 1 ∧
    t.get (R.ZC_RET_COUNT core) = (s.get (R.ZC_RET_COUNT core) + 1) % 2 ^ 36 ∧ coresKept s t core = true ∧
    t = { s with cores := t.cores, regs := t.regs } ∧ (∀ a, a ≠ (R.ZC_RET_COUNT core).addr →
    a ≠ (R.ZC_STAT_TASK core).addr → t.reg a = s.reg a)) ∧
  (∀ (s : State) (core : Fin 8) (cond : Fin 16) (opnd : BitVec 26),
    coreReady s core (instrWord cond 3 opnd) { legal := opField opnd 0 16 == 0 && srAssigned (opField opnd 16 6) && opField opnd 16 6 != 29, priv := decide (48 ≤ opField opnd 16 6) } = true →
    16 ≤ opField opnd 16 6 → opField opnd 16 6 < 24 → ringLegal ((s.core core).gr (opField opnd 22 4)) = false →
    Runs (.mts core cond opnd) s fun t => t.core core = (s.core core).advance 1 ∧ t.flag R.SYS_ERR_RSVD = true ∧
    t.get R.SYS_ERRADR_ADDR = (s.core core).pc.toNat ∧ t.get R.SYS_ERRADR_MASTER = core.val ∧
    coresKept s t core = true ∧ t = { s with cores := t.cores, regs := t.regs }) ∧
  (∀ (s : State) (core : Fin 8) (cond : Fin 16) (opnd : BitVec 26) (a b : Word),
    coreReady s core (instrWord cond 16 opnd) { legal := opField opnd 0 8 == 0 && decide (opField opnd 8 6 ≤ 33) && (decide (opField opnd 8 6 < 27) || opField opnd 14 4 == 0) && (!aluFlagsOnly (opField opnd 8 6) || opField opnd 22 4 == 0) } = true →
    opField opnd 8 6 = 0 → (swBit (s.core core).sw swOVE = false ∨ handlerFree (s.core core) = true) →
    a = (s.core core).gr (opField opnd 18 4) → b = (s.core core).gr (opField opnd 14 4) →
    Runs (.alu core cond opnd) s fun t => (t.core core).gr (opField opnd 22 4) = a + b ∧
    swBit (t.core core).sw swZ = decide (a + b = 0) ∧ swBit (t.core core).sw swN = (a + b).msb ∧
    swBit (t.core core).sw swC = decide (2 ^ 36 ≤ a.toNat + b.toNat) ∧
    swBit (t.core core).sw swV = decide ((a + b).toInt ≠ a.toInt + b.toInt)) ∧
  (∀ (s : State) (core : Fin 8) (cond : Fin 16) (opnd : BitVec 26) (a b : Word),
    coreReady s core (instrWord cond 16 opnd) { legal := opField opnd 0 8 == 0 && decide (opField opnd 8 6 ≤ 33) && (decide (opField opnd 8 6 < 27) || opField opnd 14 4 == 0) && (!aluFlagsOnly (opField opnd 8 6) || opField opnd 22 4 == 0) } = true →
    opField opnd 8 6 = 1 → (swBit (s.core core).sw swOVE = false ∨ handlerFree (s.core core) = true) →
    a = (s.core core).gr (opField opnd 18 4) → b = (s.core core).gr (opField opnd 14 4) →
    Runs (.alu core cond opnd) s fun t => ((t.core core).gr (opField opnd 22 4) = a + b + (if swBit (s.core core).sw
      swC then 1 else 0)) ∧
    swBit (t.core core).sw swC = decide (2 ^ 36 ≤ a.toNat + b.toNat + bitNat (swBit (s.core core).sw swC))) ∧
  (∀ (s : State) (core : Fin 8) (cond : Fin 16) (opnd : BitVec 26) (a b : Word),
    coreReady s core (instrWord cond 16 opnd) { legal := opField opnd 0 8 == 0 && decide (opField opnd 8 6 ≤ 33) && (decide (opField opnd 8 6 < 27) || opField opnd 14 4 == 0) && (!aluFlagsOnly (opField opnd 8 6) || opField opnd 22 4 == 0) } = true →
    opField opnd 8 6 = 2 → (swBit (s.core core).sw swOVE = false ∨ handlerFree (s.core core) = true) →
    a = (s.core core).gr (opField opnd 18 4) → b = (s.core core).gr (opField opnd 14 4) →
    Runs (.alu core cond opnd) s fun t => (t.core core).gr (opField opnd 22 4) = a - b ∧
    swBit (t.core core).sw swZ = decide (a - b = 0) ∧ swBit (t.core core).sw swN = (a - b).msb ∧
    swBit (t.core core).sw swC = decide (a.toNat < b.toNat) ∧
    swBit (t.core core).sw swV = decide ((a - b).toInt ≠ a.toInt - b.toInt)) ∧
  (∀ (s : State) (core : Fin 8) (cond : Fin 16) (opnd : BitVec 26) (a b : Word),
    coreReady s core (instrWord cond 16 opnd) { legal := opField opnd 0 8 == 0 && decide (opField opnd 8 6 ≤ 33) && (decide (opField opnd 8 6 < 27) || opField opnd 14 4 == 0) && (!aluFlagsOnly (opField opnd 8 6) || opField opnd 22 4 == 0) } = true →
    opField opnd 8 6 = 7 → (swBit (s.core core).sw swOVE = false ∨ handlerFree (s.core core) = true) →
    a = (s.core core).gr (opField opnd 18 4) → b = (s.core core).gr (opField opnd 14 4) →
    Runs (.alu core cond opnd) s fun t => (t.core core).gr (opField opnd 22 4) = a ^^^ b ∧
    swBit (t.core core).sw swZ = decide (a ^^^ b = 0) ∧ swBit (t.core core).sw swN = (a ^^^ b).msb ∧
    swBit (t.core core).sw swC = swBit (s.core core).sw swC ∧ swBit (t.core core).sw swV = swBit (s.core core).sw swV) ∧
  (∀ (s : State) (core : Fin 8) (cond : Fin 16) (opnd : BitVec 26) (a b : Word),
    coreReady s core (instrWord cond 16 opnd) { legal := opField opnd 0 8 == 0 && decide (opField opnd 8 6 ≤ 33) && (decide (opField opnd 8 6 < 27) || opField opnd 14 4 == 0) && (!aluFlagsOnly (opField opnd 8 6) || opField opnd 22 4 == 0) } = true →
    opField opnd 8 6 = 14 → (swBit (s.core core).sw swOVE = false ∨ handlerFree (s.core core) = true) →
    a = (s.core core).gr (opField opnd 18 4) → b = (s.core core).gr (opField opnd 14 4) →
    Runs (.alu core cond opnd) s fun t => (t.core core).gr (opField opnd 22 4) = a * b ∧
    swBit (t.core core).sw swZ = decide (a * b = 0) ∧ swBit (t.core core).sw swN = (a * b).msb ∧
    swBit (t.core core).sw swV = decide ((a * b).toInt ≠ a.toInt * b.toInt) ∧
    swBit (t.core core).sw swC = swBit (s.core core).sw swC) ∧
  (∀ (s : State) (core : Fin 8) (cond : Fin 16) (opnd : BitVec 26) (a b : Word),
    coreReady s core (instrWord cond 16 opnd) { legal := opField opnd 0 8 == 0 && decide (opField opnd 8 6 ≤ 33) && (decide (opField opnd 8 6 < 27) || opField opnd 14 4 == 0) && (!aluFlagsOnly (opField opnd 8 6) || opField opnd 22 4 == 0) } = true →
    opField opnd 8 6 = 17 → (swBit (s.core core).sw swOVE = false ∨ handlerFree (s.core core) = true) →
    a = (s.core core).gr (opField opnd 18 4) → b = (s.core core).gr (opField opnd 14 4) → b = 0 →
    Runs (.alu core cond opnd) s fun t => (t.core core).gr (opField opnd 22 4) = 0 ∧
    swBit (t.core core).sw swZ = true ∧ swBit (t.core core).sw swN = false ∧ swBit (t.core core).sw swV = true) ∧
  (∀ (s : State) (core : Fin 8) (cond : Fin 16) (opnd : BitVec 26) (r : AluRes),
    coreReady s core (instrWord cond 16 opnd) { legal := opField opnd 0 8 == 0 && decide (opField opnd 8 6 ≤ 33) && (decide (opField opnd 8 6 < 27) || opField opnd 14 4 == 0) && (!aluFlagsOnly (opField opnd 8 6) || opField opnd 22 4 == 0) } = true →
    r = aluOp (opField opnd 8 6) ((s.core core).gr (opField opnd 18 4)) ((s.core core).gr (opField opnd 14 4)) (swBit
      (s.core core).sw swC) (swBit (s.core core).sw swSAT) →
    (swBit (s.core core).sw swOVE && (r.v == some true && r.traps)) = false →
    Runs (.alu core cond opnd) s fun t => (t.core core = ((if aluFlagsOnly (opField opnd 8 6) then { (s.core core) with sw := swFlags (s.core core).sw r } else { (s.core core) with sw := swFlags (s.core core).sw r }.setG (opField opnd 22 4) r.val)).advance 1) ∧
    t.get (R.ZC_RET_COUNT core) = (s.get (R.ZC_RET_COUNT core) + 1) % 2 ^ 36 ∧ coresKept s t core = true ∧
    t = { s with cores := t.cores, regs := t.regs } ∧ (∀ a, a ≠ (R.ZC_RET_COUNT core).addr →
    a ≠ (R.ZC_STAT_TASK core).addr → t.reg a = s.reg a)) ∧
  (∀ (s : State) (core : Fin 8) (cond : Fin 16) (opnd : BitVec 26) (r : AluRes),
    coreReady s core (instrWord cond 16 opnd) { legal := opField opnd 0 8 == 0 && decide (opField opnd 8 6 ≤ 33) && (decide (opField opnd 8 6 < 27) || opField opnd 14 4 == 0) && (!aluFlagsOnly (opField opnd 8 6) || opField opnd 22 4 == 0) } = true →
    r = aluOp (opField opnd 8 6) ((s.core core).gr (opField opnd 18 4)) ((s.core core).gr (opField opnd 14 4)) (swBit
      (s.core core).sw swC) (swBit (s.core core).sw swSAT) → swBit (s.core core).sw swOVE = true →
    ((r.v == some true && r.traps)) = true → handlerFree (s.core core) = true →
    Runs (.alu core cond opnd) s fun t => (t.core core = handlerCore (((if aluFlagsOnly (opField opnd 8 6) then { (s.core core) with sw := swFlags (s.core core).sw r } else { (s.core core) with sw := swFlags (s.core core).sw r }.setG (opField opnd 22 4) r.val)).advance 1) 3 (((if aluFlagsOnly (opField opnd 8 6) then { (s.core core) with sw := swFlags (s.core core).sw r } else { (s.core core) with sw := swFlags (s.core core).sw r }.setG (opField opnd 22 4) r.val)).advance 1).pc (instrWord cond 16 opnd)) ∧
    coresKept s t core = true ∧ t.mem = s.mem ∧ t.dev = s.dev) ∧
  (∀ (s : State) (core : Fin 8) (cond : Fin 16) (opnd : BitVec 26) (r : AluRes),
    coreReady s core (instrWord cond 17 opnd) { legal := decide (opField opnd 12 6 ≤ 26) && (!aluFlagsOnly (opField opnd 12 6) || opField opnd 22 4 == 0) } = true →
    r = aluOp (opField opnd 12 6) ((s.core core).gr (opField opnd 18 4)) ((opnd.extractLsb' 0 12).signExtend 36)
      (swBit (s.core core).sw swC) (swBit (s.core core).sw swSAT) →
    (swBit (s.core core).sw swOVE && (r.v == some true && r.traps)) = false →
    Runs (.alui core cond opnd) s fun t => (t.core core = ((if aluFlagsOnly (opField opnd 12 6) then { (s.core core) with sw := swFlags (s.core core).sw r } else { (s.core core) with sw := swFlags (s.core core).sw r }.setG (opField opnd 22 4) r.val)).advance 1) ∧
    t.get (R.ZC_RET_COUNT core) = (s.get (R.ZC_RET_COUNT core) + 1) % 2 ^ 36 ∧ coresKept s t core = true ∧
    t = { s with cores := t.cores, regs := t.regs } ∧ (∀ a, a ≠ (R.ZC_RET_COUNT core).addr →
    a ≠ (R.ZC_STAT_TASK core).addr → t.reg a = s.reg a)) ∧
  (∀ (s : State) (core : Fin 8) (cond : Fin 16) (opnd : BitVec 26) (r : AluRes),
    coreReady s core (instrWord cond 17 opnd) { legal := decide (opField opnd 12 6 ≤ 26) && (!aluFlagsOnly (opField opnd 12 6) || opField opnd 22 4 == 0) } = true →
    r = aluOp (opField opnd 12 6) ((s.core core).gr (opField opnd 18 4)) ((opnd.extractLsb' 0 12).signExtend 36)
      (swBit (s.core core).sw swC) (swBit (s.core core).sw swSAT) → swBit (s.core core).sw swOVE = true →
    ((r.v == some true && r.traps)) = true → handlerFree (s.core core) = true →
    Runs (.alui core cond opnd) s fun t => (t.core core = handlerCore (((if aluFlagsOnly (opField opnd 12 6) then { (s.core core) with sw := swFlags (s.core core).sw r } else { (s.core core) with sw := swFlags (s.core core).sw r }.setG (opField opnd 22 4) r.val)).advance 1) 3 (((if aluFlagsOnly (opField opnd 12 6) then { (s.core core) with sw := swFlags (s.core core).sw r } else { (s.core core) with sw := swFlags (s.core core).sw r }.setG (opField opnd 22 4) r.val)).advance 1).pc (instrWord cond 17 opnd)) ∧
    coresKept s t core = true ∧ t.mem = s.mem ∧ t.dev = s.dev) ∧
  (∀ (s : State) (core : Fin 8) (cond : Fin 16) (opnd : BitVec 26) (lit : Word) (md : Nat) (r : AluRes),
    coreReady s core (instrWord cond 18 opnd) (checksRM opnd lit (decide (opField opnd 12 6 ≤ 26) && (!aluFlagsOnly
      (opField opnd 12 6) || opField opnd 22 4 == 0))) = true → md = opField opnd 0 10 → mdImmediate md = true →
    r = aluOp (opField opnd 12 6) ((s.core core).gr (opField opnd 18 4)) lit (swBit (s.core core).sw swC) (swBit
      (s.core core).sw swSAT) → (swBit (s.core core).sw swOVE && (r.v == some true && r.traps)) = false →
    Runs (.alum core cond opnd lit) s fun t => (t.core core = ((if aluFlagsOnly (opField opnd 12 6) then { (s.core core) with sw := swFlags (s.core core).sw r } else { (s.core core) with sw := swFlags (s.core core).sw r }.setG (opField opnd 22 4) r.val)).advance 2) ∧
    t.get (R.ZC_RET_COUNT core) = (s.get (R.ZC_RET_COUNT core) + 1) % 2 ^ 36 ∧ coresKept s t core = true ∧
    t = { s with cores := t.cores, regs := t.regs } ∧ (∀ a, a ≠ (R.ZC_RET_COUNT core).addr →
    a ≠ (R.ZC_STAT_TASK core).addr → t.reg a = s.reg a)) ∧
  (∀ (s : State) (core : Fin 8) (cond : Fin 16) (opnd : BitVec 26) (lit : Word) (md : Nat) (r : AluRes),
    coreReady s core (instrWord cond 18 opnd) (checksRM opnd lit (decide (opField opnd 12 6 ≤ 26) && (!aluFlagsOnly
      (opField opnd 12 6) || opField opnd 22 4 == 0))) = true → md = opField opnd 0 10 → mdImmediate md = true →
    r = aluOp (opField opnd 12 6) ((s.core core).gr (opField opnd 18 4)) lit (swBit (s.core core).sw swC) (swBit
      (s.core core).sw swSAT) → swBit (s.core core).sw swOVE = true → ((r.v == some true && r.traps)) = true →
    handlerFree (s.core core) = true →
    Runs (.alum core cond opnd lit) s fun t => (t.core core = handlerCore (((if aluFlagsOnly (opField opnd 12 6) then { (s.core core) with sw := swFlags (s.core core).sw r } else { (s.core core) with sw := swFlags (s.core core).sw r }.setG (opField opnd 22 4) r.val)).advance 2) 3 (((if aluFlagsOnly (opField opnd 12 6) then { (s.core core) with sw := swFlags (s.core core).sw r } else { (s.core core) with sw := swFlags (s.core core).sw r }.setG (opField opnd 22 4) r.val)).advance 2).pc (instrWord cond 18 opnd)) ∧
    coresKept s t core = true ∧ t.mem = s.mem ∧ t.dev = s.dev) ∧
  (∀ (s : State) (core : Fin 8) (cond : Fin 16) (opnd : BitVec 26) (lit : Word) (md a : Nat) (w : Word) (r : AluRes),
    coreReady s core (instrWord cond 18 opnd) (checksRM opnd lit (decide (opField opnd 12 6 ≤ 26) && (!aluFlagsOnly
      (opField opnd 12 6) || opField opnd 22 4 == 0))) = true → md = opField opnd 0 10 → mdImmediate md = false →
    a = (s.core core).ea md lit → loadGives s core a = some w →
    r = aluOp (opField opnd 12 6) ((s.core core).gr (opField opnd 18 4)) w (swBit (s.core core).sw swC) (swBit (s.core
      core).sw swSAT) → (swBit (s.core core).sw swOVE && (r.v == some true && r.traps)) = false →
    Runs (.alum core cond opnd lit) s fun t => (t.core core = ((if aluFlagsOnly (opField opnd 12 6) then { (s.core core).mdModify md with sw := swFlags (s.core core).sw r } else { (s.core core).mdModify md with sw := swFlags (s.core core).sw r }.setG (opField opnd 22 4) r.val)).advance (mdLen md)) ∧
    t.get (R.ZC_RET_COUNT core) = (s.get (R.ZC_RET_COUNT core) + 1) % 2 ^ 36 ∧ coresKept s t core = true ∧
    (regionOf a ≠ .regs → t = { s with cores := t.cores, regs := t.regs, spine := t.spine }) ∧ (regionOf a ≠ .regs →
    (∀ a, a ≠ (R.ZC_RET_COUNT core).addr → a ≠ (R.ZC_STAT_TASK core).addr → t.reg a = s.reg a)) ∧ t.mem = s.mem ∧
    t.dev = s.dev) ∧
  (∀ (s : State) (core : Fin 8) (cond : Fin 16) (opnd : BitVec 26) (lit : Word) (md a : Nat) (w : Word) (r : AluRes),
    coreReady s core (instrWord cond 18 opnd) (checksRM opnd lit (decide (opField opnd 12 6 ≤ 26) && (!aluFlagsOnly
      (opField opnd 12 6) || opField opnd 22 4 == 0))) = true → md = opField opnd 0 10 → mdImmediate md = false →
    a = (s.core core).ea md lit → loadGives s core a = some w →
    r = aluOp (opField opnd 12 6) ((s.core core).gr (opField opnd 18 4)) w (swBit (s.core core).sw swC) (swBit (s.core
      core).sw swSAT) → swBit (s.core core).sw swOVE = true → ((r.v == some true && r.traps)) = true →
    handlerFree (s.core core) = true →
    Runs (.alum core cond opnd lit) s fun t => (t.core core = handlerCore (((if aluFlagsOnly (opField opnd 12 6) then { (s.core core).mdModify md with sw := swFlags (s.core core).sw r } else { (s.core core).mdModify md with sw := swFlags (s.core core).sw r }.setG (opField opnd 22 4) r.val)).advance (mdLen md)) 3 (((if aluFlagsOnly (opField opnd 12 6) then { (s.core core).mdModify md with sw := swFlags (s.core core).sw r } else { (s.core core).mdModify md with sw := swFlags (s.core core).sw r }.setG (opField opnd 22 4) r.val)).advance (mdLen md)).pc (instrWord cond 18 opnd)) ∧
    coresKept s t core = true ∧ t.mem = s.mem ∧ t.dev = s.dev) ∧
  (∀ (s : State) (core : Fin 8) (cond : Fin 16) (opnd : BitVec 26) (fn a b d : Nat) (r : PairRes),
    coreReady s core (instrWord cond 19 opnd) { legal := opField opnd 0 8 == 0 && daluLegal (opField opnd 8 6) (opField opnd 22 4) (opField opnd 18 4) (opField opnd 14 4) } = true →
    fn = opField opnd 8 6 → a = opField opnd 18 4 → b = opField opnd 14 4 → d = opField opnd 22 4 →
    r = daluOp fn ((s.core core).gr a) ((s.core core).gr (a + 1)) ((s.core core).gr b) ((s.core core).gr (b + 1)) →
    (swBit (s.core core).sw swOVE && r.flags.v == some true) = false →
    Runs (.dalu core cond opnd) s fun t => (t.core core = ((if fn = 2 then { (s.core core) with sw := swFlags (s.core core).sw r.flags } else ({ (s.core core) with sw := swFlags (s.core core).sw r.flags }.setG d r.hi).setG (d + 1) r.flags.val)).advance 1) ∧
    t.get (R.ZC_RET_COUNT core) = (s.get (R.ZC_RET_COUNT core) + 1) % 2 ^ 36 ∧ coresKept s t core = true ∧
    t = { s with cores := t.cores, regs := t.regs } ∧ (∀ a, a ≠ (R.ZC_RET_COUNT core).addr →
    a ≠ (R.ZC_STAT_TASK core).addr → t.reg a = s.reg a)) ∧
  (∀ (s : State) (core : Fin 8) (cond : Fin 16) (opnd : BitVec 26) (fn a b d : Nat) (r : PairRes),
    coreReady s core (instrWord cond 19 opnd) { legal := opField opnd 0 8 == 0 && daluLegal (opField opnd 8 6) (opField opnd 22 4) (opField opnd 18 4) (opField opnd 14 4) } = true →
    fn = opField opnd 8 6 → a = opField opnd 18 4 → b = opField opnd 14 4 → d = opField opnd 22 4 →
    r = daluOp fn ((s.core core).gr a) ((s.core core).gr (a + 1)) ((s.core core).gr b) ((s.core core).gr (b + 1)) →
    swBit (s.core core).sw swOVE = true → (r.flags.v == some true) = true → handlerFree (s.core core) = true →
    Runs (.dalu core cond opnd) s fun t => (t.core core = handlerCore (((if fn = 2 then { (s.core core) with sw := swFlags (s.core core).sw r.flags } else ({ (s.core core) with sw := swFlags (s.core core).sw r.flags }.setG d r.hi).setG (d + 1) r.flags.val)).advance 1) 3 (((if fn = 2 then { (s.core core) with sw := swFlags (s.core core).sw r.flags } else ({ (s.core core) with sw := swFlags (s.core core).sw r.flags }.setG d r.hi).setG (d + 1) r.flags.val)).advance 1).pc (instrWord cond 19 opnd)) ∧
    coresKept s t core = true ∧ t.mem = s.mem ∧ t.dev = s.dev) ∧
  (∀ (s : State) (core : Fin 8) (cond : Fin 16) (opnd : BitVec 26) (r : FRes),
    coreReady s core (instrWord cond 20 opnd) { legal := opField opnd 0 8 == 0 && decide (opField opnd 8 6 ≤ 13) && (!faluUnary (opField opnd 8 6) || opField opnd 14 4 == 0) && (opField opnd 8 6 != 5 || opField opnd 22 4 == 0) } = true →
    opField opnd 8 6 ≠ 5 →
    r = fOp (opField opnd 8 6) ((s.core core).gr (opField opnd 18 4)) ((s.core core).gr (opField opnd 14 4)) →
    (swBit (s.core core).sw swOVE && (r.nv || r.dz || r.ov)) = false →
    Runs (.falu core cond opnd) s fun t => (t.core core).gr (opField opnd 22 4) = r.val ∧
    swBit (t.core core).sw swNV = (swBit (s.core core).sw swNV || r.nv) ∧
    swBit (t.core core).sw swDZ = (swBit (s.core core).sw swDZ || r.dz) ∧
    swBit (t.core core).sw swOF = (swBit (s.core core).sw swOF || r.ov) ∧
    swBit (t.core core).sw swUF = (swBit (s.core core).sw swUF || r.uf) ∧
    swBit (t.core core).sw swNX = (swBit (s.core core).sw swNX || r.nx) ∧
    swBit (t.core core).sw swC = swBit (s.core core).sw swC ∧
    t.core core = ({ (s.core core) with sw := (t.core core).sw }.setG (opField opnd 22 4) r.val).advance 1 ∧
    t.get (R.ZC_RET_COUNT core) = (s.get (R.ZC_RET_COUNT core) + 1) % 2 ^ 36 ∧ coresKept s t core = true ∧
    t = { s with cores := t.cores, regs := t.regs } ∧ (∀ a, a ≠ (R.ZC_RET_COUNT core).addr →
    a ≠ (R.ZC_STAT_TASK core).addr → t.reg a = s.reg a)) ∧
  (∀ (s : State) (core : Fin 8) (cond : Fin 16) (opnd : BitVec 26) (r : FRes),
    coreReady s core (instrWord cond 20 opnd) { legal := opField opnd 0 8 == 0 && decide (opField opnd 8 6 ≤ 13) && (!faluUnary (opField opnd 8 6) || opField opnd 14 4 == 0) && (opField opnd 8 6 != 5 || opField opnd 22 4 == 0) } = true →
    opField opnd 8 6 ≠ 5 →
    r = fOp (opField opnd 8 6) ((s.core core).gr (opField opnd 18 4)) ((s.core core).gr (opField opnd 14 4)) →
    swBit (s.core core).sw swOVE = true → ((r.nv || r.dz || r.ov)) = true → handlerFree (s.core core) = true →
    Runs (.falu core cond opnd) s fun t => (t.core core).gr (opField opnd 22 4) = r.val ∧ (t.core core).tcause = 3 ∧
    (t.core core).pc = (s.core core).vbase + 24 ∧ (t.core core).tval = instrWord cond 20 opnd ∧
    coresKept s t core = true ∧ t.mem = s.mem ∧ t.dev = s.dev) ∧
  (∀ (s : State) (core : Fin 8) (cond : Fin 16) (opnd : BitVec 26) (r : Bool × Bool × Bool × Bool),
    coreReady s core (instrWord cond 20 opnd) { legal := opField opnd 0 8 == 0 && opField opnd 22 4 == 0 } = true →
    opField opnd 8 6 = 5 → r = fCmp ((s.core core).gr (opField opnd 18 4)) ((s.core core).gr (opField opnd 14 4)) →
    (swBit (s.core core).sw swOVE && r.2.2.2) = false →
    Runs (.falu core cond opnd) s fun t => t.core core = { (s.core core) with sw := (t.core core).sw }.advance 1 ∧
    swBit (t.core core).sw swZ = r.1 ∧ swBit (t.core core).sw swN = r.2.1 ∧ swBit (t.core core).sw swV = r.2.2.1 ∧
    swBit (t.core core).sw swC = false ∧ swBit (t.core core).sw swNV = (swBit (s.core core).sw swNV || r.2.2.2) ∧
    t.get (R.ZC_RET_COUNT core) = (s.get (R.ZC_RET_COUNT core) + 1) % 2 ^ 36 ∧ coresKept s t core = true ∧
    t = { s with cores := t.cores, regs := t.regs } ∧ (∀ a, a ≠ (R.ZC_RET_COUNT core).addr →
    a ≠ (R.ZC_STAT_TASK core).addr → t.reg a = s.reg a)) ∧
  (∀ (s : State) (core : Fin 8) (cond : Fin 16) (opnd : BitVec 26) (r : Bool × Bool × Bool × Bool),
    coreReady s core (instrWord cond 20 opnd) { legal := opField opnd 0 8 == 0 && opField opnd 22 4 == 0 } = true →
    opField opnd 8 6 = 5 → r = fCmp ((s.core core).gr (opField opnd 18 4)) ((s.core core).gr (opField opnd 14 4)) →
    swBit (s.core core).sw swOVE = true → (r.2.2.2) = true → handlerFree (s.core core) = true →
    Runs (.falu core cond opnd) s fun t => swBit (t.core core).sw swZ = r.1 ∧ (t.core core).tcause = 3 ∧
    (t.core core).pc = (s.core core).vbase + 24 ∧ (t.core core).tval = instrWord cond 20 opnd ∧
    coresKept s t core = true ∧ t.mem = s.mem ∧ t.dev = s.dev) ∧
  (∀ (s : State) (core : Fin 8) (cond : Fin 16) (opnd : BitVec 26) (lit : Word) (md : Nat) (r : FRes),
    coreReady s core (instrWord cond 21 opnd) (checksRM opnd lit (decide (opField opnd 12 6 ≤ 13) && !faluUnary
      (opField opnd 12 6) && (opField opnd 12 6 != 5 || opField opnd 22 4 == 0))) = true → opField opnd 12 6 ≠ 5 →
    md = opField opnd 0 10 → mdImmediate md = true →
    r = fOp (opField opnd 12 6) ((s.core core).gr (opField opnd 18 4)) lit →
    (swBit (s.core core).sw swOVE && (r.nv || r.dz || r.ov)) = false →
    Runs (.falum core cond opnd lit) s fun t => t.core core = ({ (s.core core) with sw := (t.core core).sw }.setG (opField opnd 22 4) r.val).advance 2 ∧
    swBit (t.core core).sw swNV = (swBit (s.core core).sw swNV || r.nv) ∧
    t.get (R.ZC_RET_COUNT core) = (s.get (R.ZC_RET_COUNT core) + 1) % 2 ^ 36 ∧ coresKept s t core = true ∧
    t = { s with cores := t.cores, regs := t.regs } ∧ (∀ a, a ≠ (R.ZC_RET_COUNT core).addr →
    a ≠ (R.ZC_STAT_TASK core).addr → t.reg a = s.reg a)) ∧
  (∀ (s : State) (core : Fin 8) (cond : Fin 16) (opnd : BitVec 26) (lit : Word) (md : Nat) (r : FRes),
    coreReady s core (instrWord cond 21 opnd) (checksRM opnd lit (decide (opField opnd 12 6 ≤ 13) && !faluUnary
      (opField opnd 12 6) && (opField opnd 12 6 != 5 || opField opnd 22 4 == 0))) = true → opField opnd 12 6 ≠ 5 →
    md = opField opnd 0 10 → mdImmediate md = true →
    r = fOp (opField opnd 12 6) ((s.core core).gr (opField opnd 18 4)) lit → swBit (s.core core).sw swOVE = true →
    ((r.nv || r.dz || r.ov)) = true → handlerFree (s.core core) = true →
    Runs (.falum core cond opnd lit) s fun t => (t.core core).gr (opField opnd 22 4) = r.val ∧
    (t.core core).tcause = 3 ∧ (t.core core).pc = (s.core core).vbase + 24 ∧
    (t.core core).tval = instrWord cond 21 opnd ∧ coresKept s t core = true ∧ t.mem = s.mem ∧ t.dev = s.dev) ∧
  (∀ (s : State) (core : Fin 8) (cond : Fin 16) (opnd : BitVec 26) (lit : Word) (md a : Nat) (w : Word) (r : FRes),
    coreReady s core (instrWord cond 21 opnd) (checksRM opnd lit (decide (opField opnd 12 6 ≤ 13) && !faluUnary
      (opField opnd 12 6) && (opField opnd 12 6 != 5 || opField opnd 22 4 == 0))) = true → opField opnd 12 6 ≠ 5 →
    md = opField opnd 0 10 → mdImmediate md = false → a = (s.core core).ea md lit → loadGives s core a = some w →
    r = fOp (opField opnd 12 6) ((s.core core).gr (opField opnd 18 4)) w →
    (swBit (s.core core).sw swOVE && (r.nv || r.dz || r.ov)) = false →
    Runs (.falum core cond opnd lit) s fun t => t.core core = ({ (s.core core).mdModify md with sw := (t.core core).sw }.setG (opField opnd 22 4) r.val).advance (mdLen md) ∧
    t.get (R.ZC_RET_COUNT core) = (s.get (R.ZC_RET_COUNT core) + 1) % 2 ^ 36 ∧ coresKept s t core = true ∧
    (regionOf a ≠ .regs → t = { s with cores := t.cores, regs := t.regs, spine := t.spine }) ∧ (regionOf a ≠ .regs →
    (∀ a, a ≠ (R.ZC_RET_COUNT core).addr → a ≠ (R.ZC_STAT_TASK core).addr → t.reg a = s.reg a)) ∧ t.mem = s.mem ∧
    t.dev = s.dev) ∧
  (∀ (s : State) (core : Fin 8) (cond : Fin 16) (opnd : BitVec 26) (lit : Word) (md a : Nat) (w : Word) (r : FRes),
    coreReady s core (instrWord cond 21 opnd) (checksRM opnd lit (decide (opField opnd 12 6 ≤ 13) && !faluUnary
      (opField opnd 12 6) && (opField opnd 12 6 != 5 || opField opnd 22 4 == 0))) = true → opField opnd 12 6 ≠ 5 →
    md = opField opnd 0 10 → mdImmediate md = false → a = (s.core core).ea md lit → loadGives s core a = some w →
    r = fOp (opField opnd 12 6) ((s.core core).gr (opField opnd 18 4)) w → swBit (s.core core).sw swOVE = true →
    ((r.nv || r.dz || r.ov)) = true → handlerFree (s.core core) = true →
    Runs (.falum core cond opnd lit) s fun t => (t.core core).gr (opField opnd 22 4) = r.val ∧
    (t.core core).tcause = 3 ∧ (t.core core).pc = (s.core core).vbase + 24 ∧
    (t.core core).tval = instrWord cond 21 opnd ∧ coresKept s t core = true ∧ t.mem = s.mem ∧ t.dev = s.dev) ∧
  (∀ (s : State) (core : Fin 8) (cond : Fin 16) (opnd : BitVec 26) (lit : Word) (md a : Nat) (w : Word) (r : Bool ×
      Bool × Bool × Bool),
    coreReady s core (instrWord cond 21 opnd) (checksRM opnd lit (decide (opField opnd 12 6 ≤ 13) && !faluUnary
      (opField opnd 12 6) && (opField opnd 12 6 != 5 || opField opnd 22 4 == 0))) = true → opField opnd 12 6 = 5 →
    md = opField opnd 0 10 → mdImmediate md = false → a = (s.core core).ea md lit → loadGives s core a = some w →
    r = fCmp ((s.core core).gr (opField opnd 18 4)) w → (swBit (s.core core).sw swOVE && r.2.2.2) = false →
    Runs (.falum core cond opnd lit) s fun t => t.core core = { (s.core core).mdModify md with sw := (t.core core).sw }.advance (mdLen md) ∧
    swBit (t.core core).sw swZ = r.1 ∧ swBit (t.core core).sw swN = r.2.1 ∧ swBit (t.core core).sw swV = r.2.2.1 ∧
    swBit (t.core core).sw swC = false ∧ t.get (R.ZC_RET_COUNT core) = (s.get (R.ZC_RET_COUNT core) + 1) % 2 ^ 36 ∧
    coresKept s t core = true ∧ (regionOf a ≠ .regs →
    t = { s with cores := t.cores, regs := t.regs, spine := t.spine }) ∧ (regionOf a ≠ .regs → (∀ a,
    a ≠ (R.ZC_RET_COUNT core).addr → a ≠ (R.ZC_STAT_TASK core).addr → t.reg a = s.reg a)) ∧ t.mem = s.mem ∧
    t.dev = s.dev) ∧
  (∀ (s : State) (core : Fin 8) (cond : Fin 16) (opnd : BitVec 26) (lit : Word) (md a : Nat) (w : Word) (r : Bool ×
      Bool × Bool × Bool),
    coreReady s core (instrWord cond 21 opnd) (checksRM opnd lit (decide (opField opnd 12 6 ≤ 13) && !faluUnary
      (opField opnd 12 6) && (opField opnd 12 6 != 5 || opField opnd 22 4 == 0))) = true → opField opnd 12 6 = 5 →
    md = opField opnd 0 10 → mdImmediate md = false → a = (s.core core).ea md lit → loadGives s core a = some w →
    r = fCmp ((s.core core).gr (opField opnd 18 4)) w → swBit (s.core core).sw swOVE = true → (r.2.2.2) = true →
    handlerFree (s.core core) = true → Runs (.falum core cond opnd lit) s fun t => swBit (t.core core).sw swZ = r.1 ∧
    (t.core core).tcause = 3 ∧ (t.core core).pc = (s.core core).vbase + 24 ∧
    (t.core core).tval = instrWord cond 21 opnd ∧ coresKept s t core = true ∧ t.mem = s.mem ∧ t.dev = s.dev) ∧
  (∀ (s : State) (core : Fin 8) (cond : Fin 16) (opnd : BitVec 26) (lit : Word) (md : Nat) (r : Bool × Bool × Bool ×
      Bool),
    coreReady s core (instrWord cond 21 opnd) (checksRM opnd lit (decide (opField opnd 12 6 ≤ 13) && !faluUnary
      (opField opnd 12 6) && (opField opnd 12 6 != 5 || opField opnd 22 4 == 0))) = true → opField opnd 12 6 = 5 →
    md = opField opnd 0 10 → mdImmediate md = true → r = fCmp ((s.core core).gr (opField opnd 18 4)) lit →
    (swBit (s.core core).sw swOVE && r.2.2.2) = false →
    Runs (.falum core cond opnd lit) s fun t => t.core core = { (s.core core) with sw := (t.core core).sw }.advance 2 ∧
    swBit (t.core core).sw swZ = r.1 ∧ swBit (t.core core).sw swN = r.2.1 ∧ swBit (t.core core).sw swV = r.2.2.1 ∧
    t.get (R.ZC_RET_COUNT core) = (s.get (R.ZC_RET_COUNT core) + 1) % 2 ^ 36 ∧ coresKept s t core = true ∧
    t = { s with cores := t.cores, regs := t.regs } ∧ (∀ a, a ≠ (R.ZC_RET_COUNT core).addr →
    a ≠ (R.ZC_STAT_TASK core).addr → t.reg a = s.reg a)) ∧
  (∀ (s : State) (core : Fin 8) (cond : Fin 16) (opnd : BitVec 26) (lit : Word) (md : Nat) (r : Bool × Bool × Bool ×
      Bool),
    coreReady s core (instrWord cond 21 opnd) (checksRM opnd lit (decide (opField opnd 12 6 ≤ 13) && !faluUnary
      (opField opnd 12 6) && (opField opnd 12 6 != 5 || opField opnd 22 4 == 0))) = true → opField opnd 12 6 = 5 →
    md = opField opnd 0 10 → mdImmediate md = true → r = fCmp ((s.core core).gr (opField opnd 18 4)) lit →
    swBit (s.core core).sw swOVE = true → (r.2.2.2) = true → handlerFree (s.core core) = true →
    Runs (.falum core cond opnd lit) s fun t => swBit (t.core core).sw swZ = r.1 ∧ (t.core core).tcause = 3 ∧
    (t.core core).pc = (s.core core).vbase + 24 ∧ (t.core core).tval = instrWord cond 21 opnd ∧
    coresKept s t core = true ∧ t.mem = s.mem ∧ t.dev = s.dev) ∧
  (∀ (s : State) (core : Fin 8) (cond : Fin 16) (opnd : BitVec 26) (an : Nat) (r : AccRes),
    coreReady s core (instrWord cond 24 opnd) { legal := opField opnd 0 6 == 0 && macLegal (opField opnd 6 6) (opField opnd 20 4) (opField opnd 16 4) (opField opnd 12 4) } = true →
    opField opnd 6 6 < 6 → an = opField opnd 24 2 →
    r = macOp (opField opnd 6 6) ((s.core core).acc an) ((s.core core).acc (opField opnd 16 4 % 4)) ((s.core core).gr
      (opField opnd 20 4)) ((s.core core).gr (opField opnd 16 4)) →
    (swBit (s.core core).sw swOVE && (r.flags.v == some true && r.flags.traps)) = false →
    Runs (.mac core cond opnd) s fun t => t.core core = ({ (s.core core).setAcc an r.acc with sw := swFlags (s.core core).sw r.flags }).advance 1 ∧
    t.get (R.ZC_RET_COUNT core) = (s.get (R.ZC_RET_COUNT core) + 1) % 2 ^ 36 ∧ coresKept s t core = true ∧
    t = { s with cores := t.cores, regs := t.regs } ∧ (∀ a, a ≠ (R.ZC_RET_COUNT core).addr →
    a ≠ (R.ZC_STAT_TASK core).addr → t.reg a = s.reg a)) ∧
  (∀ (s : State) (core : Fin 8) (cond : Fin 16) (opnd : BitVec 26) (an : Nat) (r : AccRes),
    coreReady s core (instrWord cond 24 opnd) { legal := opField opnd 0 6 == 0 && macLegal (opField opnd 6 6) (opField opnd 20 4) (opField opnd 16 4) (opField opnd 12 4) } = true →
    opField opnd 6 6 < 6 → an = opField opnd 24 2 →
    r = macOp (opField opnd 6 6) ((s.core core).acc an) ((s.core core).acc (opField opnd 16 4 % 4)) ((s.core core).gr
      (opField opnd 20 4)) ((s.core core).gr (opField opnd 16 4)) → swBit (s.core core).sw swOVE = true →
    ((r.flags.v == some true && r.flags.traps)) = true → handlerFree (s.core core) = true →
    Runs (.mac core cond opnd) s fun t => t.core core = handlerCore (({ (s.core core).setAcc an r.acc with sw := swFlags (s.core core).sw r.flags }).advance 1) 3 (({ (s.core core).setAcc an r.acc with sw := swFlags (s.core core).sw r.flags }).advance 1).pc (instrWord cond 24 opnd) ∧
    coresKept s t core = true ∧ t.mem = s.mem ∧ t.dev = s.dev) ∧
  (∀ (s : State) (core : Fin 8) (cond : Fin 16) (opnd : BitVec 26) (r : AluRes),
    coreReady s core (instrWord cond 24 opnd) { legal := opField opnd 0 6 == 0 && macLegal (opField opnd 6 6) (opField opnd 20 4) (opField opnd 16 4) (opField opnd 12 4) } = true →
    6 ≤ opField opnd 6 6 →
    r = accExtract (opField opnd 6 6 == 6) ((s.core core).acc (opField opnd 24 2)) (swBit (s.core core).sw swSAT) →
    (swBit (s.core core).sw swOVE && (r.v == some true && r.traps)) = false →
    Runs (.mac core cond opnd) s fun t => t.core core = ({ (s.core core) with sw := swFlags (s.core core).sw r }.setG (opField opnd 12 4) r.val).advance 1 ∧
    t.get (R.ZC_RET_COUNT core) = (s.get (R.ZC_RET_COUNT core) + 1) % 2 ^ 36 ∧ coresKept s t core = true ∧
    t = { s with cores := t.cores, regs := t.regs } ∧ (∀ a, a ≠ (R.ZC_RET_COUNT core).addr →
    a ≠ (R.ZC_STAT_TASK core).addr → t.reg a = s.reg a)) ∧
  (∀ (s : State) (core : Fin 8) (cond : Fin 16) (opnd : BitVec 26) (r : AluRes),
    coreReady s core (instrWord cond 24 opnd) { legal := opField opnd 0 6 == 0 && macLegal (opField opnd 6 6) (opField opnd 20 4) (opField opnd 16 4) (opField opnd 12 4) } = true →
    6 ≤ opField opnd 6 6 →
    r = accExtract (opField opnd 6 6 == 6) ((s.core core).acc (opField opnd 24 2)) (swBit (s.core core).sw swSAT) →
    swBit (s.core core).sw swOVE = true → ((r.v == some true && r.traps)) = true → handlerFree (s.core core) = true →
    Runs (.mac core cond opnd) s fun t => t.core core = handlerCore (({ (s.core core) with sw := swFlags (s.core core).sw r }.setG (opField opnd 12 4) r.val).advance 1) 3 (({ (s.core core) with sw := swFlags (s.core core).sw r }.setG (opField opnd 12 4) r.val).advance 1).pc (instrWord cond 24 opnd) ∧
    coresKept s t core = true ∧ t.mem = s.mem ∧ t.dev = s.dev) ∧
  (∀ (s : State) (core : Fin 8) (cond : Fin 16) (opnd : BitVec 26) (md1 md2 an : Nat) (w : Word × Word) (r : AccRes),
    coreReady s core (instrWord cond 25 opnd) { legal := opField opnd 20 3 == 0 && mdLegal (opField opnd 10 10) && mdLegal (opField opnd 0 10) && !mdLiteral (opField opnd 10 10) && !mdLiteral (opField opnd 0 10) } = true →
    md1 = opField opnd 10 10 → md2 = opField opnd 0 10 → an = opField opnd 24 2 →
    loadsGive s core ((s.core core).ea md1 0) ((s.core core).ea md2 0) = some w →
    r = macOp (opField opnd 23 1) ((s.core core).acc an) 0 w.1 w.2 →
    (swBit (s.core core).sw swOVE && (r.flags.v == some true && r.flags.traps)) = false →
    Runs (.macd core cond opnd) s fun t => t.core core = ({ (((s.core core).mdModify md1).mdModify md2).setAcc an r.acc with sw := swFlags (s.core core).sw r.flags }).advance 1 ∧
    t.get (R.ZC_RET_COUNT core) = (s.get (R.ZC_RET_COUNT core) + 1) % 2 ^ 36 ∧ coresKept s t core = true ∧
    t.mem = s.mem ∧ t.dev = s.dev ∧ (regionOf ((s.core core).ea md1 0) ≠ .regs →
    regionOf ((s.core core).ea md2 0) ≠ .regs → t = { s with cores := t.cores, regs := t.regs, spine := t.spine })) ∧
  (∀ (s : State) (core : Fin 8) (cond : Fin 16) (opnd : BitVec 26) (md1 md2 an : Nat) (w : Word × Word) (r : AccRes),
    coreReady s core (instrWord cond 25 opnd) { legal := opField opnd 20 3 == 0 && mdLegal (opField opnd 10 10) && mdLegal (opField opnd 0 10) && !mdLiteral (opField opnd 10 10) && !mdLiteral (opField opnd 0 10) } = true →
    md1 = opField opnd 10 10 → md2 = opField opnd 0 10 → an = opField opnd 24 2 →
    loadsGive s core ((s.core core).ea md1 0) ((s.core core).ea md2 0) = some w →
    r = macOp (opField opnd 23 1) ((s.core core).acc an) 0 w.1 w.2 → swBit (s.core core).sw swOVE = true →
    ((r.flags.v == some true && r.flags.traps)) = true → handlerFree (s.core core) = true →
    Runs (.macd core cond opnd) s fun t => t.core core = handlerCore (({ (((s.core core).mdModify md1).mdModify md2).setAcc an r.acc with sw := swFlags (s.core core).sw r.flags }).advance 1) 3 (({ (((s.core core).mdModify md1).mdModify md2).setAcc an r.acc with sw := swFlags (s.core core).sw r.flags }).advance 1).pc (instrWord cond 25 opnd) ∧
    coresKept s t core = true ∧ t.mem = s.mem ∧ t.dev = s.dev) ∧
  (∀ (s : State) (core : Fin 8) (cond : Fin 16) (opnd : BitVec 26) (fn i a : Nat),
    coreReady s core (instrWord cond 26 opnd) { legal := opField opnd 0 12 == 0 && bitLegal (opField opnd 12 4) (opField opnd 22 4) (opField opnd 16 6) } = true →
    fn = opField opnd 12 4 → i = opField opnd 16 6 → a = opField opnd 22 4 → fn < 7 →
    Runs (.bit core cond opnd) s fun t => t.core core = ({ (s.core core) with sw := swPut (s.core core).sw swBA (bitOp fn (swBit (s.core core).sw swBA) (((s.core core).gr a).getLsbD i)).1 }).advance 1 ∧
    t.get (R.ZC_RET_COUNT core) = (s.get (R.ZC_RET_COUNT core) + 1) % 2 ^ 36 ∧ coresKept s t core = true ∧
    t = { s with cores := t.cores, regs := t.regs } ∧ (∀ a, a ≠ (R.ZC_RET_COUNT core).addr →
    a ≠ (R.ZC_STAT_TASK core).addr → t.reg a = s.reg a)) ∧
  (∀ (s : State) (core : Fin 8) (cond : Fin 16) (opnd : BitVec 26) (fn i a : Nat),
    coreReady s core (instrWord cond 26 opnd) { legal := opField opnd 0 12 == 0 && bitLegal (opField opnd 12 4) (opField opnd 22 4) (opField opnd 16 6) } = true →
    fn = opField opnd 12 4 → i = opField opnd 16 6 → a = opField opnd 22 4 → 7 ≤ fn → fn ≤ 11 →
    Runs (.bit core cond opnd) s fun t => t.core core = ((s.core core).setG a (withBits ((s.core core).gr a) i 1
      (bitNat (bitOp fn (swBit (s.core core).sw swBA) (((s.core core).gr a).getLsbD i)).2))).advance 1 ∧
    t.get (R.ZC_RET_COUNT core) = (s.get (R.ZC_RET_COUNT core) + 1) % 2 ^ 36 ∧ coresKept s t core = true ∧
    t = { s with cores := t.cores, regs := t.regs } ∧ (∀ a, a ≠ (R.ZC_RET_COUNT core).addr →
    a ≠ (R.ZC_STAT_TASK core).addr → t.reg a = s.reg a)) ∧
  (∀ (s : State) (core : Fin 8) (cond : Fin 16) (opnd : BitVec 26) (fn i : Nat),
    coreReady s core (instrWord cond 26 opnd) { legal := opField opnd 0 12 == 0 && bitLegal (opField opnd 12 4) (opField opnd 22 4) (opField opnd 16 6) } = true →
    fn = opField opnd 12 4 → i = opField opnd 16 6 → 13 ≤ fn →
    Runs (.bit core cond opnd) s fun t => (t.core core = ({ (s.core core) with sw := (if fn = 13 then swPut (s.core core).sw swBA (swBit (s.core core).sw i) else swPut (s.core core).sw i (swBit (s.core core).sw swBA)) }).advance 1) ∧
    t.get (R.ZC_RET_COUNT core) = (s.get (R.ZC_RET_COUNT core) + 1) % 2 ^ 36 ∧ coresKept s t core = true ∧
    t = { s with cores := t.cores, regs := t.regs } ∧ (∀ a, a ≠ (R.ZC_RET_COUNT core).addr →
    a ≠ (R.ZC_STAT_TASK core).addr → t.reg a = s.reg a))

/-- The checks before the own effect of an instruction (R220),
with the trap entry of R206; that TVAL holds the address of a literal word that cannot be fetched is the choice of
  the model (DEDUCED, log 41). -/
def Obligations.CoreChecks : Prop :=
  (∀ (i : Instr) (c : Fin 8) (w : Word) (ch : Checks) (s : State), coreIssue i = some (c, w, ch) → (coreRuns s c = false ∨ (issueHeld s c = true ∧ ∀ f, (s.core c).wait ≠ .fence f)) → Runs i s fun t => t = s) ∧
  (∀ (i : Instr) (c : Fin 8) (w : Word) (ch : Checks) (s : State), coreIssue i = some (c, w, ch) → coreRuns s c = true → (s.core c).wait = .none → (s.core c).arrived = false → preemptDue s c = false → handlerFree (s.core c) = true → fetchBad s (s.core c).pc.toNat = true → s.poisoned (s.core c).pc.toNat = false →
    Runs i s fun t => t.core c = handlerCore (s.core c) 2 (s.core c).pc (BitVec.ofNat 36 (s.core c).pc.toNat) ∧ coresKept s t c = true ∧ t.mem = s.mem) ∧
  (∀ (i : Instr) (c : Fin 8) (w : Word) (ch : Checks) (s : State), coreIssue i = some (c, w, ch) → coreRuns s c = true → (s.core c).wait = .none → (s.core c).arrived = false → preemptDue s c = false → handlerFree (s.core c) = true → fetchBad s (s.core c).pc.toNat = false → ch.legal = false →
    Runs i s fun t => t.core c = handlerCore (s.core c) 0 (s.core c).pc w ∧ coresKept s t c = true ∧ t.mem = s.mem) ∧
  (∀ (i : Instr) (c : Fin 8) (w : Word) (ch : Checks) (s : State), coreIssue i = some (c, w, ch) → coreRuns s c = true → (s.core c).wait = .none → (s.core c).arrived = false → preemptDue s c = false → handlerFree (s.core c) = true → fetchBad s (s.core c).pc.toNat = false → ch.legal = true → ch.priv = true → swPL (s.core c).sw = 0 →
    Runs i s fun t => t.core c = handlerCore (s.core c) 1 (s.core c).pc w ∧ coresKept s t c = true ∧ t.mem = s.mem) ∧
  (∀ (i : Instr) (c : Fin 8) (w : Word) (ch : Checks) (s : State), coreIssue i = some (c, w, ch) → coreRuns s c = true → (s.core c).wait = .none → (s.core c).arrived = false → preemptDue s c = false → handlerFree (s.core c) = true → fetchBad s (s.core c).pc.toNat = false → ch.legal = true → (ch.priv && swPL (s.core c).sw == 0) = false →
    condHolds (bitsOf w 32 4) (s.core c).sw = true → ch.literal = true → fetchBad s ((s.core c).pc + 1).toNat = true →
    s.poisoned ((s.core c).pc + 1).toNat = false →
    Runs i s fun t => t.core c = handlerCore (s.core c) 2 (s.core c).pc (BitVec.ofNat 36 ((s.core c).pc + 1).toNat) ∧ coresKept s t c = true ∧ t.mem = s.mem) ∧
  (∀ (i : Instr) (c : Fin 8) (w : Word) (ch : Checks) (s : State), coreIssue i = some (c, w, ch) → coreRuns s c = true → (s.core c).wait = .none → (s.core c).arrived = false → preemptDue s c = false → handlerFree (s.core c) = true → fetchBad s (s.core c).pc.toNat = false → ch.legal = true → (ch.priv && swPL (s.core c).sw == 0) = false →
    condHolds (bitsOf w 32 4) (s.core c).sw = true → (ch.literal && fetchBad s ((s.core c).pc + 1).toNat) = false →
    ch.litLegal = false →
    Runs i s fun t => t.core c = handlerCore (s.core c) 0 (s.core c).pc w ∧ coresKept s t c = true ∧ t.mem = s.mem)

/-- R201: instructions whose condition is false. -/
def Obligations.FalseConditionOnlyAdvances : Prop :=
  (∀ (i : Instr) (c : Fin 8) (w : Word) (ch : Checks) (s : State), coreIssue i = some (c, w, ch) → coreRuns s c = true → (s.core c).wait = .none → (s.core c).arrived = false → preemptDue s c = false → fetchBad s (s.core c).pc.toNat = false → condHolds (bitsOf w 32 4) (s.core c).sw = false → ch.legal = true →
    (ch.priv && swPL (s.core c).sw == 0) = false →
    Runs i s fun t => t.core c = (s.core c).advance ch.len ∧ coresKept s t c = true ∧ t = { s with cores := t.cores, regs := t.regs } ∧
      (∀ a, a ≠ (R.ZC_RET_COUNT c).addr → a ≠ (R.ZC_STAT_TASK c).addr → t.reg a = s.reg a)) ∧
  (∀ (i : Instr) (c : Fin 8) (w : Word) (ch : Checks) (s : State), coreIssue i = some (c, w, ch) → coreRuns s c = true → (s.core c).wait = .none → (s.core c).arrived = false → preemptDue s c = false → handlerFree (s.core c) = true → fetchBad s (s.core c).pc.toNat = false → condHolds (bitsOf w 32 4) (s.core c).sw = false → ch.legal = false →
    Runs i s fun t => t.core c = handlerCore (s.core c) 0 (s.core c).pc w ∧ coresKept s t c = true ∧ t.mem = s.mem) ∧
  (∀ (i : Instr) (c : Fin 8) (w : Word) (ch : Checks) (s : State), coreIssue i = some (c, w, ch) → coreRuns s c = true → (s.core c).wait = .none → (s.core c).arrived = false → preemptDue s c = false → handlerFree (s.core c) = true → fetchBad s (s.core c).pc.toNat = false → condHolds (bitsOf w 32 4) (s.core c).sw = false → ch.legal = true →
    ch.priv = true → swPL (s.core c).sw = 0 →
    Runs i s fun t => t.core c = handlerCore (s.core c) 1 (s.core c).pc w ∧ coresKept s t c = true ∧ t.mem = s.mem)

/-- The encoding of the word cores: no bit of a word is dropped,
and every unassigned major and function is told apart (R214, R217, R218). -/
def Obligations.CoreWords : Prop :=
  (∀ (c : Fin 8) (w lit : Word) (f : Bool), coreWord (decodeCore c w lit f) = some w) ∧
  (∀ (i : Instr) (c : Fin 8) (w : Word) (ch : Checks), coreIssue i = some (c, w, ch) →
    coreWord i = some w ∧ ∃ lit f, decodeCore c w lit f = i) ∧
  (∀ (c : Fin 8) (w lit : Word) (f : Bool), decodeCore c w lit f = .unassignedOpcode c w ↔ wordUnassigned w = true)

/-- Transfers, system instructions and traps of the word cores (R202 to R209, R239 to R244). -/
def Obligations.CoreTransfersAndSystem : Prop :=
  (∀ (s : State) (core : Fin 8) (cond : Fin 16) (opnd : BitVec 26) (g : BitVec 24),
    coreReady s core (instrWord cond 32 opnd) { legal := opField opnd 24 2 == 0 } = true →
    g = (s.core core).pc + 1 + opnd.extractLsb' 0 24 →
    Runs (.br core cond opnd) s fun t => t.core core = { (s.core core) with pc := g, rpf := (s.core core).rpf && (decide ((s.core core).rps.toNat ≤ (g : BitVec 24).toNat) && decide (g.toNat ≤ (s.core core).rpe.toNat)) } ∧
    t.get (R.ZC_RET_COUNT core) = (s.get (R.ZC_RET_COUNT core) + 1) % 2 ^ 36 ∧ coresKept s t core = true ∧
    t = { s with cores := t.cores, regs := t.regs } ∧ (∀ a, a ≠ (R.ZC_RET_COUNT core).addr →
    a ≠ (R.ZC_STAT_TASK core).addr → t.reg a = s.reg a)) ∧
  (∀ (s : State) (core : Fin 8) (cond : Fin 16) (opnd : BitVec 26) (g : BitVec 24),
    coreReady s core (instrWord cond 33 opnd) { legal := opField opnd 24 2 == 0 } = true →
    g = (s.core core).pc + 1 + opnd.extractLsb' 0 24 →
    Runs (.call core cond opnd) s fun t => t.core core = { (s.core core).setG 15 (((s.core core).pc + 1).setWidth 36) with pc := g, rpf := (s.core core).rpf && (decide ((s.core core).rps.toNat ≤ (g : BitVec 24).toNat) && decide (g.toNat ≤ (s.core core).rpe.toNat)) } ∧
    t.get (R.ZC_RET_COUNT core) = (s.get (R.ZC_RET_COUNT core) + 1) % 2 ^ 36 ∧ coresKept s t core = true ∧
    t = { s with cores := t.cores, regs := t.regs } ∧ (∀ a, a ≠ (R.ZC_RET_COUNT core).addr →
    a ≠ (R.ZC_STAT_TASK core).addr → t.reg a = s.reg a)) ∧
  (∀ (s : State) (core : Fin 8) (cond : Fin 16) (opnd : BitVec 26) (g : BitVec 24),
    coreReady s core (instrWord cond 34 opnd) { legal := opField opnd 0 21 == 0 } = true →
    g = ((s.core core).gr (opField opnd 22 4)).setWidth 24 →
    Runs (.jmp core cond opnd) s fun t => (t.core core = { (if opnd.getLsbD 21 then (s.core core).setG 15 (((s.core core).pc + 1).setWidth 36) else (s.core core)) with pc := g, rpf := (s.core core).rpf && (decide ((s.core core).rps.toNat ≤ (g : BitVec 24).toNat) && decide (g.toNat ≤ (s.core core).rpe.toNat)) }) ∧
    t.get (R.ZC_RET_COUNT core) = (s.get (R.ZC_RET_COUNT core) + 1) % 2 ^ 36 ∧ coresKept s t core = true ∧
    t = { s with cores := t.cores, regs := t.regs } ∧ (∀ a, a ≠ (R.ZC_RET_COUNT core).addr →
    a ≠ (R.ZC_STAT_TASK core).addr → t.reg a = s.reg a)) ∧
  (∀ (s : State) (core : Fin 8) (cond : Fin 16) (opnd : BitVec 26) (e : BitVec 24) (n : Word),
    coreReady s core (instrWord cond 35 opnd) { legal := opnd.getLsbD 25 || opField opnd 20 5 == 0 } = true →
    (s.core core).rpf = false → e = (s.core core).pc + 1 + BitVec.ofNat 24 (opField opnd 0 16) →
    ((s.core core).pc + 1).toNat ≤ e.toNat →
    (n = (if opnd.getLsbD 25 then BitVec.ofNat 36 (opField opnd 16 9) else (s.core core).gr (opField opnd 16 4))) →
    n ≠ 0 →
    Runs (.rep core cond opnd) s fun t => t.core core = { (s.core core) with rps := (s.core core).pc + 1, rpe := e, rpc := n, rpf := true, pc := (s.core core).pc + 1 } ∧
    t.get (R.ZC_RET_COUNT core) = (s.get (R.ZC_RET_COUNT core) + 1) % 2 ^ 36 ∧ coresKept s t core = true ∧
    t = { s with cores := t.cores, regs := t.regs } ∧ (∀ a, a ≠ (R.ZC_RET_COUNT core).addr →
    a ≠ (R.ZC_STAT_TASK core).addr → t.reg a = s.reg a)) ∧
  (∀ (s : State) (core : Fin 8) (cond : Fin 16) (opnd : BitVec 26),
    coreReady s core (instrWord cond 35 opnd) { legal := opnd.getLsbD 25 || opField opnd 20 5 == 0 } = true →
    (s.core core).rpf = false → opnd.getLsbD 25 = true → opField opnd 16 9 = 0 →
    ((s.core core).pc + 1).toNat ≤ ((s.core core).pc + 1 + BitVec.ofNat 24 (opField opnd 0 16)).toNat →
    Runs (.rep core cond opnd) s fun t => t.core core = { (s.core core) with pc := (s.core core).pc + 1 + BitVec.ofNat 24 (opField opnd 0 16) + 1 } ∧
    t.get (R.ZC_RET_COUNT core) = (s.get (R.ZC_RET_COUNT core) + 1) % 2 ^ 36 ∧ coresKept s t core = true ∧
    t = { s with cores := t.cores, regs := t.regs } ∧ (∀ a, a ≠ (R.ZC_RET_COUNT core).addr →
    a ≠ (R.ZC_STAT_TASK core).addr → t.reg a = s.reg a)) ∧
  (∀ (s : State) (core : Fin 8) (cond : Fin 16) (opnd : BitVec 26),
    coreReady s core (instrWord cond 35 opnd) { legal := opnd.getLsbD 25 || opField opnd 20 5 == 0 } = true →
    (s.core core).rpf = true → handlerFree (s.core core) = true →
    Runs (.rep core cond opnd) s fun t => t.core core = handlerCore (s.core core) 0 (s.core core).pc (instrWord cond
      35 opnd) ∧ t.mem = s.mem ∧ coresKept s t core = true) ∧
  (∀ (s : State) (core : Fin 8) (cond : Fin 16) (rest : BitVec 20),
    coreReady s core (instrWord cond 1 (BitVec.ofNat 6 0 ++ rest)) { legal := rest == 0 } = true →
    Runs (.nop core cond rest) s fun t => t.core core = ((s.core core)).advance 1 ∧
    t.get (R.ZC_RET_COUNT core) = (s.get (R.ZC_RET_COUNT core) + 1) % 2 ^ 36 ∧ coresKept s t core = true ∧
    t = { s with cores := t.cores, regs := t.regs } ∧ (∀ a, a ≠ (R.ZC_RET_COUNT core).addr →
    a ≠ (R.ZC_STAT_TASK core).addr → t.reg a = s.reg a)) ∧
  (∀ (s : State) (core : Fin 8) (cond : Fin 16) (rest : BitVec 20) (tk : TaskRef),
    coreReady s core (instrWord cond 1 (BitVec.ofNat 6 1 ++ rest)) { legal := rest == 0 } = true →
    (s.core core).imprecise = none → swBit (s.core core).sw swTH = false → (s.core core).task = some tk →
    (tk.event.all (fun e => !(s.event e).again) = true) → (s.core core).preempted = [] →
    Runs (.tend core cond rest) s fun t => (t.core core).task = (s.core core).ready.head? ∧
    t.get (R.ZC_RET_COUNT core) = (s.get (R.ZC_RET_COUNT core) + 1) % 2 ^ 36 ∧ coresKept s t core = true ∧
    t.mem = s.mem ∧ t.dev = s.dev ∧ t.handles = s.handles) ∧
  (∀ (s : State) (core : Fin 8) (cond : Fin 16) (rest : BitVec 20) (tk x : TaskRef),
    coreReady s core (instrWord cond 1 (BitVec.ofNat 6 1 ++ rest)) { legal := rest == 0 } = true →
    (s.core core).imprecise = none → swBit (s.core core).sw swTH = false → (s.core core).task = some tk →
    (tk.event.all (fun e => !(s.event e).again) = true) → (s.core core).preempted = [] → (s.core core).ready = [x] →
    Runs (.tend core cond rest) s fun t => (t.core core).task = some x ∧
    t.get (R.ZC_RET_COUNT core) = (s.get (R.ZC_RET_COUNT core) + 1) % 2 ^ 36 ∧ coresKept s t core = true ∧
    t.mem = s.mem ∧ t.dev = s.dev) ∧
  (∀ (s : State) (core : Fin 8) (cond : Fin 16) (rest : BitVec 20) (a : Nat),
    coreReady s core (instrWord cond 1 (BitVec.ofNat 6 1 ++ rest)) { legal := rest == 0 } = true →
    (s.core core).imprecise = some a → swBit (s.core core).sw swTH = false → (s.core core).vbase ≠ 0 →
    Runs (.tend core cond rest) s fun t => t.core core = { handlerCore (s.core core) 18 (s.core core).pc (BitVec.ofNat 36 a) with imprecise := none, arrived := false, firstTrap := 2, pc := (s.core core).vbase + 16 } ∧
    coresKept s t core = true ∧ t.mem = s.mem) ∧
  (∀ (s : State) (core : Fin 8) (cond : Fin 16) (rest : BitVec 20) (tk : TaskRef),
    coreReady s core (instrWord cond 1 (BitVec.ofNat 6 2 ++ rest)) { legal := rest == 0, priv := true } = true →
    (s.core core).imprecise = none → (s.core core).task = some tk →
    (tk.event.all (fun e => !(s.event e).again) = true) → (s.core core).preempted = [] →
    Runs (.tquit core cond rest) s fun t => (t.core core).task = (s.core core).ready.head? ∧ t.mem = s.mem ∧
    t.get (R.ZC_RET_COUNT core) = (s.get (R.ZC_RET_COUNT core) + 1) % 2 ^ 36) ∧
  (∀ (s : State) (core : Fin 8) (cond : Fin 16) (rest : BitVec 20),
    coreReady s core (instrWord cond 1 (BitVec.ofNat 6 3 ++ rest)) { legal := rest == 0, priv := true } = true →
    bitsOf (s.core core).tcause 0 6 = 3 → swPL (s.core core).tsw < 2 →
    Runs (.rtt core cond rest) s fun t => t.core core = { (s.core core) with pc := (s.core core).tpc, sw := (s.core core).tsw &&& 0x7FFFF, firstTrap := 0 } ∧
    t.get (R.ZC_RET_COUNT core) = (s.get (R.ZC_RET_COUNT core) + 1) % 2 ^ 36 ∧ coresKept s t core = true ∧
    t = { s with cores := t.cores, regs := t.regs } ∧ (∀ a, a ≠ (R.ZC_RET_COUNT core).addr →
    a ≠ (R.ZC_STAT_TASK core).addr → t.reg a = s.reg a)) ∧
  (∀ (s : State) (core : Fin 8) (cond : Fin 16) (rest : BitVec 20),
    coreReady s core (instrWord cond 1 (BitVec.ofNat 6 3 ++ rest)) { legal := rest == 0, priv := true } = true →
    bitsOf (s.core core).tcause 0 6 = 3 → 2 ≤ swPL (s.core core).tsw →
    Runs (.rtt core cond rest) s fun t => (t.core core).pc = (s.core core).tpc ∧
    swPL (t.core core).sw = swPL (s.core core).sw ∧
    t.get (R.ZC_RET_COUNT core) = (s.get (R.ZC_RET_COUNT core) + 1) % 2 ^ 36 ∧ coresKept s t core = true ∧
    t = { s with cores := t.cores, regs := t.regs } ∧ (∀ a, a ≠ (R.ZC_RET_COUNT core).addr →
    a ≠ (R.ZC_STAT_TASK core).addr → t.reg a = s.reg a)) ∧
  (∀ (s : State) (core : Fin 8) (cond : Fin 16) (rest : BitVec 20),
    coreReady s core (instrWord cond 1 (BitVec.ofNat 6 3 ++ rest)) { legal := rest == 0, priv := true } = true →
    bitsOf (s.core core).tcause 0 6 ≠ 3 → handlerFree (s.core core) = true →
    Runs (.rtt core cond rest) s fun t => t.core core = handlerCore (s.core core) 0 (s.core core).pc (instrWord cond 1
      (BitVec.ofNat 6 3 ++ rest)) ∧ t.mem = s.mem ∧ coresKept s t core = true) ∧
  (∀ (s : State) (core : Fin 8) (cond : Fin 16) (rest : BitVec 20),
    coreReady s core (instrWord cond 1 (BitVec.ofNat 6 4 ++ rest)) { legal := rest == 0 } = true →
    s.flag R.DBG_STAT_CONN = false → Runs (.debug core cond rest) s fun t => t.core core = (s.core core).advance 1 ∧
    t.flag R.ZC_EVT_DBGIGN = true ∧ t.dev = s.dev ∧
    t.get (R.ZC_RET_COUNT core) = (s.get (R.ZC_RET_COUNT core) + 1) % 2 ^ 36 ∧ coresKept s t core = true ∧
    t = { s with cores := t.cores, regs := t.regs }) ∧
  (∀ (s : State) (core : Fin 8) (cond : Fin 16) (rest : BitVec 20),
    coreReady s core (instrWord cond 1 (BitVec.ofNat 6 4 ++ rest)) { legal := rest == 0 } = true →
    s.flag R.DBG_STAT_CONN = true → (s.core core).imprecise = none → swBit (s.core core).sw swTH = false →
    s.dev = .run → s.power.pfStep = 0 →
    Runs (.debug core cond rest) s fun t => t.core core = (s.core core).advance 1 ∧ t.dev = .halt ∧
    t.flag R.DBG_STAT_HALT = true ∧ t.flag R.SYS_STATE_RELEASED = false ∧
    t.watchdog.haltAt = some (s.get R.WDG_LCLK_GRAIN) ∧
    t.get (R.ZC_RET_COUNT core) = (s.get (R.ZC_RET_COUNT core) + 1) % 2 ^ 36 ∧ coresKept s t core = true) ∧
  (∀ (s : State) (core : Fin 8) (cond : Fin 16) (rest : BitVec 20) (tk : TaskRef),
    coreReady s core (instrWord cond 1 (BitVec.ofNat 6 4 ++ rest)) { legal := rest == 0 } = true →
    s.flag R.DBG_STAT_CONN = true → (s.core core).imprecise = none → swBit (s.core core).sw swTH = true →
    s.dev = .run → s.power.pfStep = 0 → (s.core core).task = some tk →
    (tk.event.all (fun e => !(s.event e).again) = true) → Runs (.debug core cond rest) s fun t => t.dev = .halt ∧
    t.flag R.DBG_STAT_HALT = true ∧ t.getBit R.ZC_EVT_DOUBLE core = true) ∧
  (∀ (s : State) (core : Fin 8) (cond : Fin 16) (rest : BitVec 20) (a : Nat),
    coreReady s core (instrWord cond 1 (BitVec.ofNat 6 4 ++ rest)) { legal := rest == 0 } = true →
    s.flag R.DBG_STAT_CONN = true → (s.core core).imprecise = some a → swBit (s.core core).sw swTH = false →
    (s.core core).vbase ≠ 0 →
    Runs (.debug core cond rest) s fun t => t.core core = { handlerCore (s.core core) 18 (s.core core).pc (BitVec.ofNat 36 a) with imprecise := none, arrived := false, firstTrap := 2, pc := (s.core core).vbase + 16 } ∧
    coresKept s t core = true ∧ t.dev = s.dev) ∧
  (∀ (s : State) (core : Fin 8) (word : Word), wordUnassigned word = true → coreRuns s core = true →
    (s.core core).wait = .none → (s.core core).arrived = false → preemptDue s core = false →
    fetchBad s (s.core core).pc.toNat = false → handlerFree (s.core core) = true →
    Runs (.unassignedOpcode core word) s fun t => t.core core = handlerCore (s.core core) 0 (s.core core).pc word ∧
    t.mem = s.mem ∧ coresKept s t core = true) ∧
  (∀ (s : State) (core : Fin 8) (word : Word), wordUnassigned word = false →
    Runs (.unassignedOpcode core word) s fun t => t = s) ∧
  (∀ (s : State) (core : Fin 8) (cond : Fin 16) (rest : BitVec 24) (f : Bool),
    coreReady s core (instrWord cond 40 (BitVec.ofNat 2 1 ++ rest)) { legal := rest == 0 } = true →
    (s.core core).imprecise = none → f = false → Runs (.fenceC core cond ⟨rest,
    f⟩) s fun t => t.core core = ((s.core core)).advance 1 ∧
    t.get (R.ZC_RET_COUNT core) = (s.get (R.ZC_RET_COUNT core) + 1) % 2 ^ 36 ∧ coresKept s t core = true ∧
    t = { s with cores := t.cores, regs := t.regs } ∧ (∀ a, a ≠ (R.ZC_RET_COUNT core).addr →
    a ≠ (R.ZC_STAT_TASK core).addr → t.reg a = s.reg a)) ∧
  (∀ (s : State) (core : Fin 8) (cond : Fin 16) (rest : BitVec 24) (f : Bool),
    coreReady s core (instrWord cond 40 (BitVec.ofNat 2 2 ++ rest)) { legal := rest == 0 } = true →
    (s.core core).imprecise = none → f = false → Runs (.fenceD core cond ⟨rest,
    f⟩) s fun t => t.core core = ((s.core core)).advance 1 ∧
    t.get (R.ZC_RET_COUNT core) = (s.get (R.ZC_RET_COUNT core) + 1) % 2 ^ 36 ∧ coresKept s t core = true ∧
    t = { s with cores := t.cores, regs := t.regs } ∧ (∀ a, a ≠ (R.ZC_RET_COUNT core).addr →
    a ≠ (R.ZC_STAT_TASK core).addr → t.reg a = s.reg a)) ∧
  (∀ (s : State) (core : Fin 8) (cond : Fin 16) (rest : BitVec 24) (f : Bool),
    coreReady s core (instrWord cond 40 (BitVec.ofNat 2 3 ++ rest)) { legal := rest == 0 } = true →
    (s.core core).imprecise = none → f = false → s.get (R.SPN_RSTAT_PEND core) = 0 → Runs (.fenceS core cond ⟨rest,
    f⟩) s fun t => t.core core = ((s.core core)).advance 1 ∧
    t.get (R.ZC_RET_COUNT core) = (s.get (R.ZC_RET_COUNT core) + 1) % 2 ^ 36 ∧ coresKept s t core = true ∧
    t = { s with cores := t.cores, regs := t.regs } ∧ (∀ a, a ≠ (R.ZC_RET_COUNT core).addr →
    a ≠ (R.ZC_STAT_TASK core).addr → t.reg a = s.reg a)) ∧
  (∀ (s : State) (core : Fin 8) (cond : Fin 16) (rest : BitVec 24) (f : Bool),
    coreReady s core (instrWord cond 40 (BitVec.ofNat 2 3 ++ rest)) { legal := rest == 0 } = true →
    (s.core core).imprecise = none → s.get (R.SPN_RSTAT_PEND core) ≠ 0 → Runs (.fenceS core cond ⟨rest,
    f⟩) s fun t => t.core core = { (s.core core) with wait := .fence 3 } ∧ coresKept s t core = true ∧
    t = { s with cores := t.cores }) ∧
  (∀ (s : State) (core : Fin 8) (cond : Fin 16) (rest : BitVec 24) (f : Bool),
    coreReady s core (instrWord cond 40 (BitVec.ofNat 2 1 ++ rest)) { legal := rest == 0 } = true →
    (s.core core).imprecise = none → f = true → Runs (.fenceC core cond ⟨rest,
    f⟩) s fun t => t.core core = { (s.core core) with wait := .fence 1 } ∧ coresKept s t core = true ∧
    t = { s with cores := t.cores }) ∧
  (∀ (s : State) (core : Fin 8) (cond : Fin 16) (rest : BitVec 24) (f : Bool), (s.core core).wait = .fence 1 →
    coreReady (s.setCore core { (s.core core) with wait := .none }) core (instrWord cond 40 (BitVec.ofNat 2 1 ++ rest)) { legal := rest == 0 } = true →
    coreRuns s core = true → (s.core core).imprecise = none → f = false → s.get (R.SPN_RSTAT_PEND core) = 0 →
    Runs (.fenceC core cond ⟨rest, f⟩) s fun t => t.core core = { (s.core core) with wait := .none }.advance 1 ∧
    t.get (R.ZC_RET_COUNT core) = (s.get (R.ZC_RET_COUNT core) + 1) % 2 ^ 36 ∧ coresKept s t core = true ∧
    t = { s with cores := t.cores, regs := t.regs } ∧ (∀ a, a ≠ (R.ZC_RET_COUNT core).addr →
    a ≠ (R.ZC_STAT_TASK core).addr → t.reg a = s.reg a)) ∧
  (∀ (s : State) (core : Fin 8) (cond : Fin 16) (rest : BitVec 24) (f : Bool) (a : Nat),
    coreReady s core (instrWord cond 40 (BitVec.ofNat 2 1 ++ rest)) { legal := rest == 0 } = true →
    (s.core core).imprecise = some a → swBit (s.core core).sw swTH = false → (s.core core).vbase ≠ 0 →
    Runs (.fenceC core cond ⟨rest,
    f⟩) s fun t => t.core core = { handlerCore (s.core core) 18 (s.core core).pc (BitVec.ofNat 36 a) with imprecise := none, arrived := false, firstTrap := 2, pc := (s.core core).vbase + 16 } ∧
    coresKept s t core = true ∧ t.mem = s.mem) ∧
  (∀ (s : State) (core : Fin 8) (cond : Fin 16) (rest : BitVec 24) (f : Bool),
    coreReady s core (instrWord cond 40 (BitVec.ofNat 2 2 ++ rest)) { legal := rest == 0 } = true →
    (s.core core).imprecise = none → f = true → Runs (.fenceD core cond ⟨rest,
    f⟩) s fun t => t.core core = { (s.core core) with wait := .fence 2 } ∧ coresKept s t core = true ∧
    t = { s with cores := t.cores }) ∧
  (∀ (s : State) (core : Fin 8) (cond : Fin 16) (rest : BitVec 24) (f : Bool), (s.core core).wait = .fence 2 →
    coreReady (s.setCore core { (s.core core) with wait := .none }) core (instrWord cond 40 (BitVec.ofNat 2 2 ++ rest)) { legal := rest == 0 } = true →
    coreRuns s core = true → (s.core core).imprecise = none → f = false → s.get (R.SPN_RSTAT_PEND core) = 0 →
    Runs (.fenceD core cond ⟨rest, f⟩) s fun t => t.core core = { (s.core core) with wait := .none }.advance 1 ∧
    t.get (R.ZC_RET_COUNT core) = (s.get (R.ZC_RET_COUNT core) + 1) % 2 ^ 36 ∧ coresKept s t core = true ∧
    t = { s with cores := t.cores, regs := t.regs } ∧ (∀ a, a ≠ (R.ZC_RET_COUNT core).addr →
    a ≠ (R.ZC_STAT_TASK core).addr → t.reg a = s.reg a)) ∧
  (∀ (s : State) (core : Fin 8) (cond : Fin 16) (rest : BitVec 24) (f : Bool) (a : Nat),
    coreReady s core (instrWord cond 40 (BitVec.ofNat 2 2 ++ rest)) { legal := rest == 0 } = true →
    (s.core core).imprecise = some a → swBit (s.core core).sw swTH = false → (s.core core).vbase ≠ 0 →
    Runs (.fenceD core cond ⟨rest,
    f⟩) s fun t => t.core core = { handlerCore (s.core core) 18 (s.core core).pc (BitVec.ofNat 36 a) with imprecise := none, arrived := false, firstTrap := 2, pc := (s.core core).vbase + 16 } ∧
    coresKept s t core = true ∧ t.mem = s.mem) ∧
  (∀ (s : State) (core : Fin 8) (cond : Fin 16) (rest : BitVec 24) (f : Bool),
    coreReady s core (instrWord cond 40 (BitVec.ofNat 2 3 ++ rest)) { legal := rest == 0 } = true →
    (s.core core).imprecise = none → f = true → Runs (.fenceS core cond ⟨rest,
    f⟩) s fun t => t.core core = { (s.core core) with wait := .fence 3 } ∧ coresKept s t core = true ∧
    t = { s with cores := t.cores }) ∧
  (∀ (s : State) (core : Fin 8) (cond : Fin 16) (rest : BitVec 24) (f : Bool), (s.core core).wait = .fence 3 →
    coreReady (s.setCore core { (s.core core) with wait := .none }) core (instrWord cond 40 (BitVec.ofNat 2 3 ++ rest)) { legal := rest == 0 } = true →
    coreRuns s core = true → (s.core core).imprecise = none → f = false → s.get (R.SPN_RSTAT_PEND core) = 0 →
    Runs (.fenceS core cond ⟨rest, f⟩) s fun t => t.core core = { (s.core core) with wait := .none }.advance 1 ∧
    t.get (R.ZC_RET_COUNT core) = (s.get (R.ZC_RET_COUNT core) + 1) % 2 ^ 36 ∧ coresKept s t core = true ∧
    t = { s with cores := t.cores, regs := t.regs } ∧ (∀ a, a ≠ (R.ZC_RET_COUNT core).addr →
    a ≠ (R.ZC_STAT_TASK core).addr → t.reg a = s.reg a)) ∧
  (∀ (s : State) (core : Fin 8) (cond : Fin 16) (rest : BitVec 24) (f : Bool) (a : Nat),
    coreReady s core (instrWord cond 40 (BitVec.ofNat 2 3 ++ rest)) { legal := rest == 0 } = true →
    (s.core core).imprecise = some a → swBit (s.core core).sw swTH = false → (s.core core).vbase ≠ 0 →
    Runs (.fenceS core cond ⟨rest,
    f⟩) s fun t => t.core core = { handlerCore (s.core core) 18 (s.core core).pc (BitVec.ofNat 36 a) with imprecise := none, arrived := false, firstTrap := 2, pc := (s.core core).vbase + 16 } ∧
    coresKept s t core = true ∧ t.mem = s.mem) ∧
  (∀ (s : State) (core : Fin 8) (sc : Nat), coreRuns s core = true → (s.core core).wait = .fence sc →
    handlerFree (s.core core) = true →
    Runs (.fenceTimeout core) s fun t => t.core core = handlerCore (s.core core) 5 (s.core core).pc (BitVec.ofNat 36
      sc) ∧ coresKept s t core = true ∧ t.mem = s.mem) ∧
  (∀ (s : State) (core : Fin 8) (a : Nat), coreRuns s core = true → (s.core core).imprecise = some a →
    awaitsRemote s core = false → swBit (s.core core).sw swTH = false → (s.core core).vbase ≠ 0 →
    Runs (.storeError core) s fun t => t.core core = { handlerCore (s.core core) 18 (s.core core).pc (BitVec.ofNat 36 a) with imprecise := none, arrived := false, firstTrap := 2, pc := (s.core core).vbase + 16 } ∧
    coresKept s t core = true ∧ t.mem = s.mem) ∧
  (∀ (s : State) (core : Fin 8), coreRuns s core = true → (s.core core).imprecise.isSome = true →
    awaitsRemote s core = true →
    Runs (.storeError core) s fun t => t.core core = { (s.core core) with arrived := true } ∧
    coresKept s t core = true ∧ t = { s with cores := t.cores }) ∧
  (∀ (s : State) (core : Fin 8) (tk : TaskRef), coreRuns s core = true → swBit (s.core core).sw swTH = true →
    (s.core core).task = some tk → (tk.event.all (fun e => !(s.event e).again) = true) →
    (s.core core).preempted = [] →
    Runs (.handlerLimit core) s fun t => (t.core core).task = (s.core core).ready.head? ∧
    t.flag R.ZC_EVT_HLIM = true ∧ t.mem = s.mem) ∧
  (∀ (s : State) (core : Fin 8), swBit (s.core core).sw swTH = false → Runs (.handlerLimit core) s fun t => t = s)

/-- Fabric calls and handle instructions (R164 to R166, R245 to R248). -/
def Obligations.CoreCallsAndHandles : Prop :=
  (∀ (s : State) (core : Fin 8) (cond : Fin 16) (unit : BitVec 9) (rest : BitVec 15) (u : FabricUnit) (q : Nat) (tk :
      TaskRef),
    coreReady s core (instrWord cond 41 (unit ++ BitVec.ofNat 2 0 ++ rest)) { legal := rest == 0 } = true →
    s.fabricUnit unit.toNat = some u → u.cls = coreClass s core → s.quireOf unit.toNat = some q →
    (s.core core).task = some tk → s.flag (R.FAB_QSTAT_DIS q) = false → coreCalls s core < 4 →
    Runs (.fcall core cond unit rest) s fun t => t.core core = { (s.core core) with wait := .fcall unit.toNat } ∧
    t.quire q = { s.quire q with waiting := insertPass ⟨unit.toNat, u.cls, .core core tk false⟩ (s.quire q).waiting } ∧
    coresKept s t core = true ∧ t = { s with cores := t.cores, fabric := t.fabric }) ∧
  (∀ (s : State) (core : Fin 8) (cond : Fin 16) (unit : BitVec 9) (rest : BitVec 15) (u : FabricUnit) (q : Nat) (tk :
      TaskRef),
    coreReady s core (instrWord cond 41 (unit ++ BitVec.ofNat 2 1 ++ rest)) { legal := rest == 0 } = true →
    s.fabricUnit unit.toNat = some u → u.cls = coreClass s core → s.quireOf unit.toNat = some q →
    (s.core core).task = some tk → s.flag (R.FAB_QSTAT_DIS q) = false → coreCalls s core < 4 →
    Runs (.fcallp core cond unit rest) s fun t => t.core core = { (s.core core) with posted := (s.core core).posted ++ [(unit.toNat, false)] }.advance 1 ∧
    t.quire q = { s.quire q with waiting := insertPass ⟨unit.toNat, u.cls, .core core tk true⟩ (s.quire q).waiting } ∧
    t.get (R.ZC_RET_COUNT core) = (s.get (R.ZC_RET_COUNT core) + 1) % 2 ^ 36 ∧ coresKept s t core = true ∧
    t = { s with cores := t.cores, fabric := t.fabric, regs := t.regs }) ∧
  (∀ (s : State) (core : Fin 8) (cond : Fin 16) (unit : BitVec 9) (rest : BitVec 15) (u : FabricUnit) (q : Nat) (tk :
      TaskRef),
    coreReady s core (instrWord cond 41 (unit ++ BitVec.ofNat 2 0 ++ rest)) { legal := rest == 0 } = true →
    s.fabricUnit unit.toNat = some u → u.cls = coreClass s core → s.quireOf unit.toNat = some q →
    (s.core core).task = some tk → s.flag (R.FAB_QSTAT_DIS q) = false → 4 ≤ coreCalls s core →
    Runs (.fcall core cond unit rest) s fun t => t = s) ∧
  (∀ (s : State) (core : Fin 8) (cond : Fin 16) (unit : BitVec 9) (rest : BitVec 15),
    coreReady s core (instrWord cond 41 (unit ++ BitVec.ofNat 2 0 ++ rest)) { legal := rest == 0 } = true →
    (s.fabricUnit unit.toNat = none ∨ s.quireOf unit.toNat = none) → handlerFree (s.core core) = true →
    Runs (.fcall core cond unit rest) s fun t => t.core core = handlerCore (s.core core) 2 (s.core core).pc
      (BitVec.ofNat 36 (2 ^ 35 + unit.toNat)) ∧ t.flag R.FAB_EVT_CALLERR = true ∧ t.fabric = s.fabric ∧
    coresKept s t core = true) ∧
  (∀ (s : State) (core : Fin 8) (cond : Fin 16) (unit : BitVec 9) (rest : BitVec 15) (u : FabricUnit),
    coreReady s core (instrWord cond 41 (unit ++ BitVec.ofNat 2 1 ++ rest)) { legal := rest == 0 } = true →
    s.fabricUnit unit.toNat = some u → u.cls ≠ coreClass s core → handlerFree (s.core core) = true →
    Runs (.fcallp core cond unit rest) s fun t => t.core core = handlerCore (s.core core) 2 (s.core core).pc
      (BitVec.ofNat 36 (2 ^ 35 + unit.toNat)) ∧ t.flag R.FAB_EVT_CALLERR = true ∧ t.fabric = s.fabric ∧
    coresKept s t core = true) ∧
  (∀ (s : State) (core : Fin 8) (cond : Fin 16) (unit : BitVec 9) (rest : BitVec 15) (u : FabricUnit) (q : Nat) (tk :
      TaskRef),
    coreReady s core (instrWord cond 41 (unit ++ BitVec.ofNat 2 1 ++ rest)) { legal := rest == 0 } = true →
    s.fabricUnit unit.toNat = some u → u.cls = coreClass s core → s.quireOf unit.toNat = some q →
    (s.core core).task = some tk → s.flag (R.FAB_QSTAT_DIS q) = true → handlerFree (s.core core) = true →
    Runs (.fcallp core cond unit rest) s fun t => t.core core = handlerCore (s.core core) 2 (s.core core).pc
      (BitVec.ofNat 36 (2 ^ 35 + unit.toNat)) ∧ t.flag R.FAB_EVT_CALLERR = true ∧ coresKept s t core = true) ∧
  (∀ (s : State) (core : Fin 8) (cond : Fin 16) (unit : BitVec 9) (rest : BitVec 15),
    coreReady s core (instrWord cond 41 (unit ++ BitVec.ofNat 2 2 ++ rest)) { legal := rest == 0 && unit == 0 } = true →
    postedOpen (s.core core).posted = [] → postedFail (s.core core).posted = none →
    Runs (.fwait core cond unit rest) s fun t => t.core core = ({ (s.core core) with posted := [] }).advance 1 ∧
    t.get (R.ZC_RET_COUNT core) = (s.get (R.ZC_RET_COUNT core) + 1) % 2 ^ 36 ∧ coresKept s t core = true ∧
    t = { s with cores := t.cores, regs := t.regs } ∧ (∀ a, a ≠ (R.ZC_RET_COUNT core).addr →
    a ≠ (R.ZC_STAT_TASK core).addr → t.reg a = s.reg a)) ∧
  (∀ (s : State) (core : Fin 8) (cond : Fin 16) (unit : BitVec 9) (rest : BitVec 15),
    coreReady s core (instrWord cond 41 (unit ++ BitVec.ofNat 2 2 ++ rest)) { legal := rest == 0 && unit == 0 } = true →
    postedOpen (s.core core).posted ≠ [] →
    Runs (.fwait core cond unit rest) s fun t => t.core core = { (s.core core) with wait := .fwait } ∧
    coresKept s t core = true ∧ t = { s with cores := t.cores }) ∧
  (∀ (s : State) (core : Fin 8) (cond : Fin 16) (unit : BitVec 9) (rest : BitVec 15) (n : Nat),
    coreReady s core (instrWord cond 41 (unit ++ BitVec.ofNat 2 2 ++ rest)) { legal := rest == 0 && unit == 0 } = true →
    postedOpen (s.core core).posted = [] → postedFail (s.core core).posted = some n →
    handlerFree (s.core core) = true →
    Runs (.fwait core cond unit rest) s fun t => t.core core = { handlerCore (s.core core) 2 (s.core core).pc (BitVec.ofNat 36 (2 ^ 35 + n)) with posted := [] } ∧
    coresKept s t core = true ∧ t.mem = s.mem) ∧
  (∀ (s : State) (core : Fin 8) (cond d a : Fin 16) (post : Bool) (rest : BitVec 15),
    coreReady s core (hcmdWord cond d a 3 post rest) { legal := rest == 0 && a == 0 && !post } = true →
    s.get (R.HND_PCMD_STATUS core) = 0 →
    Runs (.hwait core cond d a post rest) s fun t => t.core core = ({ (s.core core).setG d 0 with sw := swPut (s.core core).sw swZ false, wait := .none }).advance 1 ∧
    t.get (R.ZC_RET_COUNT core) = (s.get (R.ZC_RET_COUNT core) + 1) % 2 ^ 36 ∧ coresKept s t core = true ∧
    t = { s with cores := t.cores, regs := t.regs } ∧ (∀ a, a ≠ (R.ZC_RET_COUNT core).addr →
    a ≠ (R.ZC_STAT_TASK core).addr → t.reg a = s.reg a)) ∧
  (∀ (s : State) (core : Fin 8) (cond d a : Fin 16) (post : Bool) (rest : BitVec 15),
    coreReady s core (hcmdWord cond d a 3 post rest) { legal := rest == 0 && a == 0 && !post } = true →
    s.get (R.HND_PCMD_STATUS core) = 2 →
    Runs (.hwait core cond d a post rest) s fun t => t.core core = ({ (s.core core).setG d (s.reg (R.HND_PHND_HANDLE core).addr) with sw := swPut (s.core core).sw swZ true, wait := .none }).advance 1 ∧
    t.get (R.ZC_RET_COUNT core) = (s.get (R.ZC_RET_COUNT core) + 1) % 2 ^ 36 ∧ coresKept s t core = true ∧
    t = { s with cores := t.cores, regs := t.regs } ∧ (∀ a, a ≠ (R.ZC_RET_COUNT core).addr →
    a ≠ (R.ZC_STAT_TASK core).addr → t.reg a = s.reg a)) ∧
  (∀ (s : State) (core : Fin 8) (cond d a : Fin 16) (post : Bool) (rest : BitVec 15),
    coreReady s core (hcmdWord cond d a 3 post rest) { legal := rest == 0 && a == 0 && !post } = true →
    s.get (R.HND_PCMD_STATUS core) = 1 → handleHeld s core = false →
    Runs (.hwait core cond d a post rest) s fun t => t.core core = { (s.core core) with wait := .handle d } ∧
    coresKept s t core = true ∧ t = { s with cores := t.cores }) ∧
  (∀ (s : State) (core : Fin 8) (cond d a : Fin 16) (post : Bool) (rest : BitVec 15),
    coreReady s core (hcmdWord cond d a 3 post rest) { legal := rest == 0 && a == 0 && !post } = true →
    s.get (R.HND_PCMD_STATUS core) = 1 → handleHeld s core = true →
    Runs (.hwait core cond d a post rest) s fun t => t.core core = ({ (s.core core).setG d 1 with sw := swPut (s.core core).sw swZ false, wait := .none }).advance 1 ∧
    t.get (R.ZC_RET_COUNT core) = (s.get (R.ZC_RET_COUNT core) + 1) % 2 ^ 36 ∧ coresKept s t core = true ∧
    t = { s with cores := t.cores, regs := t.regs } ∧ (∀ a, a ≠ (R.ZC_RET_COUNT core).addr →
    a ≠ (R.ZC_STAT_TASK core).addr → t.reg a = s.reg a)) ∧
  (∀ (s : State) (core : Fin 8) (cond d a : Fin 16) (post : Bool) (rest : BitVec 15) (st : Nat),
    coreReady s core (hcmdWord cond d a 3 post rest) { legal := rest == 0 && a == 0 && !post } = true →
    s.get (R.HND_PCMD_STATUS core) = st → (st = 3 ∨ st = 4 ∨ st = 6 ∨ st = 7 ∨ 8 ≤ st) →
    Runs (.hwait core cond d a post rest) s fun t => t.core core = ({ (s.core core).setG d (BitVec.ofNat 36 st) with sw := swPut (s.core core).sw swZ false, wait := .none }).advance 1 ∧
    t.get (R.ZC_RET_COUNT core) = (s.get (R.ZC_RET_COUNT core) + 1) % 2 ^ 36 ∧ coresKept s t core = true ∧
    t = { s with cores := t.cores, regs := t.regs } ∧ (∀ a, a ≠ (R.ZC_RET_COUNT core).addr →
    a ≠ (R.ZC_STAT_TASK core).addr → t.reg a = s.reg a)) ∧
  (∀ (s : State) (core : Fin 8) (cond d a : Fin 16) (post : Bool) (rest : BitVec 15),
    coreReady s core (hcmdWord cond d a 3 post rest) { legal := rest == 0 && a == 0 && !post } = true →
    s.get (R.HND_PCMD_STATUS core) = 5 → handlerFree (s.core core) = true →
    Runs (.hwait core cond d a post rest) s fun t => t.core core = handlerCore (s.core core) 4 (s.core core).pc
      (BitVec.ofNat 36 (s.get (R.HND_PERR_CODE core) * 2 ^ 32)) ∧ coresKept s t core = true ∧ t.handles = s.handles) ∧
  (∀ (s : State) (core : Fin 8) (cond d a : Fin 16) (post : Bool) (rest : BitVec 15),
    coreReady s core (hcmdWord cond d a 0 post rest) { legal := rest == 0 } = true → post = true →
    s.get (R.HND_PCMD_STATUS core) ≠ 1 →
    Runs (.hcmdCreate core cond d a post rest) s fun t => t.core core = (s.core core).advance 1 ∧
    t.reg (R.HND_PARG_CLASS core).addr = BitVec.ofNat 36 (((s.core core).gr a).toNat / 2 ^ 29 * 2 ^ 29 + ((s.core
      core).gr a).toNat % 2 ^ 18) ∧ t.get (R.HND_PCMD_CODE core) = 1 ∧ (handleRefusal s false = none →
    t.get (R.HND_PCMD_STATUS core) = 1) ∧ t.get (R.ZC_RET_COUNT core) = (s.get (R.ZC_RET_COUNT core) + 1) % 2 ^ 36 ∧
    coresKept s t core = true ∧ t.mem = s.mem ∧ t.dev = s.dev) ∧
  (∀ (s : State) (core : Fin 8) (cond d a : Fin 16) (post : Bool) (rest : BitVec 15),
    coreReady s core (hcmdWord cond d a 1 post rest) { legal := rest == 0 } = true → post = true →
    s.get (R.HND_PCMD_STATUS core) ≠ 1 →
    Runs (.hcmdDestroy core cond d a post rest) s fun t => t.core core = (s.core core).advance 1 ∧
    t.reg (R.HND_PHND_HANDLE core).addr = (s.core core).gr a ∧ t.get (R.HND_PCMD_CODE core) = 2 ∧
    (handleRefusal s false = none → t.get (R.HND_PCMD_STATUS core) = 1) ∧
    t.get (R.ZC_RET_COUNT core) = (s.get (R.ZC_RET_COUNT core) + 1) % 2 ^ 36 ∧ coresKept s t core = true ∧
    t.mem = s.mem ∧ t.dev = s.dev) ∧
  (∀ (s : State) (core : Fin 8) (cond d a : Fin 16) (post : Bool) (rest : BitVec 15),
    coreReady s core (hcmdWord cond d a 2 post rest) { legal := rest == 0 } = true → post = true →
    s.get (R.HND_PCMD_STATUS core) ≠ 1 →
    Runs (.hcmdQuery core cond d a post rest) s fun t => t.core core = (s.core core).advance 1 ∧
    t.reg (R.HND_PHND_HANDLE core).addr = (s.core core).gr a ∧ t.get (R.HND_PCMD_CODE core) = 3 ∧
    (handleRefusal s true = none → t.get (R.HND_PCMD_STATUS core) = 1) ∧
    t.get (R.ZC_RET_COUNT core) = (s.get (R.ZC_RET_COUNT core) + 1) % 2 ^ 36 ∧ coresKept s t core = true ∧
    t.mem = s.mem ∧ t.dev = s.dev) ∧
  (∀ (s : State) (core : Fin 8) (cond d a : Fin 16) (post : Bool) (rest : BitVec 15),
    coreReady s core (hcmdWord cond d a 0 post rest) { legal := rest == 0 } = true → post = false →
    s.get (R.HND_PCMD_STATUS core) ≠ 1 → (s.handles.cmds.all (fun x => x.port != core.val) = true) →
    handleRefusal s false = none →
    Runs (.hcmdCreate core cond d a post rest) s fun t => t.get (R.HND_PCMD_STATUS core) = 1 ∧
    t.get (R.HND_PCMD_CODE core) = 1 ∧ t.core core = { (s.core core) with wait := .handle d } ∧
    coresKept s t core = true ∧ t.mem = s.mem) ∧
  (∀ (s : State) (core : Fin 8) (cond d a : Fin 16) (post : Bool) (rest : BitVec 15),
    coreReady s core (hcmdWord cond d a 1 post rest) { legal := rest == 0 } = true → post = false →
    s.get (R.HND_PCMD_STATUS core) ≠ 1 → (s.handles.cmds.all (fun x => x.port != core.val) = true) →
    handleRefusal s false = none →
    Runs (.hcmdDestroy core cond d a post rest) s fun t => t.get (R.HND_PCMD_STATUS core) = 1 ∧
    t.get (R.HND_PCMD_CODE core) = 2 ∧ t.core core = { (s.core core) with wait := .handle d } ∧
    coresKept s t core = true ∧ t.mem = s.mem) ∧
  (∀ (s : State) (core : Fin 8) (cond d a : Fin 16) (post : Bool) (rest : BitVec 15),
    coreReady s core (hcmdWord cond d a 2 post rest) { legal := rest == 0 } = true → post = false →
    s.get (R.HND_PCMD_STATUS core) ≠ 1 → (s.handles.cmds.all (fun x => x.port != core.val) = true) →
    handleRefusal s true = none →
    Runs (.hcmdQuery core cond d a post rest) s fun t => t.get (R.HND_PCMD_STATUS core) = 1 ∧
    t.get (R.HND_PCMD_CODE core) = 3 ∧ t.core core = { (s.core core) with wait := .handle d } ∧
    coresKept s t core = true ∧ t.mem = s.mem) ∧
  (∀ (s : State) (core : Fin 8) (cond d a : Fin 16) (post : Bool) (rest : BitVec 15),
    coreReady s core (hcmdWord cond d a 0 post rest) { legal := rest == 0 } = true → post = true →
    s.get (R.HND_PCMD_STATUS core) = 1 →
    Runs (.hcmdCreate core cond d a post rest) s fun t => t.core core = (s.core core).advance 1 ∧
    t.flag R.SYS_ERR_RSVD = true ∧ t.handles = s.handles ∧
    t.get (R.ZC_RET_COUNT core) = (s.get (R.ZC_RET_COUNT core) + 1) % 2 ^ 36 ∧ coresKept s t core = true ∧
    t.mem = s.mem) ∧
  (∀ (s : State) (core : Fin 8) (cond d a : Fin 16) (post : Bool) (rest : BitVec 15),
    coreReady s core (hcmdWord cond d a 1 post rest) { legal := rest == 0 } = true → post = true →
    s.get (R.HND_PCMD_STATUS core) = 1 →
    Runs (.hcmdDestroy core cond d a post rest) s fun t => t.core core = (s.core core).advance 1 ∧
    t.flag R.SYS_ERR_RSVD = true ∧ t.handles = s.handles ∧
    t.get (R.ZC_RET_COUNT core) = (s.get (R.ZC_RET_COUNT core) + 1) % 2 ^ 36 ∧ coresKept s t core = true ∧
    t.mem = s.mem) ∧
  (∀ (s : State) (core : Fin 8) (cond d a : Fin 16) (post : Bool) (rest : BitVec 15),
    coreReady s core (hcmdWord cond d a 2 post rest) { legal := rest == 0 } = true → post = true →
    s.get (R.HND_PCMD_STATUS core) = 1 →
    Runs (.hcmdQuery core cond d a post rest) s fun t => t.core core = (s.core core).advance 1 ∧
    t.flag R.SYS_ERR_RSVD = true ∧ t.handles = s.handles ∧
    t.get (R.ZC_RET_COUNT core) = (s.get (R.ZC_RET_COUNT core) + 1) % 2 ^ 36 ∧ coresKept s t core = true ∧
    t.mem = s.mem)

/-- Loads of the word cores (R225, R237, R341). -/
def Obligations.CoreLoads : Prop :=
  (∀ (s : State) (core : Fin 8) (cond : Fin 16) (opnd : BitVec 26) (lit : Word) (md : Nat) (a : Nat),
    coreReady s core (instrWord cond 8 opnd) (checksM opnd lit true (opField opnd 16 6 == 0)) = true →
    md = opField opnd 0 10 → a = (s.core core).ea md lit → mdImmediate md = true →
    Runs (.ld core cond opnd lit) s fun t => t.core core = ((s.core core).setG (opField opnd 22 4) lit).advance 2 ∧
    t.get (R.ZC_RET_COUNT core) = (s.get (R.ZC_RET_COUNT core) + 1) % 2 ^ 36 ∧ coresKept s t core = true ∧
    t = { s with cores := t.cores, regs := t.regs } ∧ (∀ a, a ≠ (R.ZC_RET_COUNT core).addr →
    a ≠ (R.ZC_STAT_TASK core).addr → t.reg a = s.reg a)) ∧
  (∀ (s : State) (core : Fin 8) (cond : Fin 16) (opnd : BitVec 26) (lit : Word) (md : Nat) (a : Nat) (w : Word),
    coreReady s core (instrWord cond 8 opnd) (checksM opnd lit true (opField opnd 16 6 == 0)) = true →
    md = opField opnd 0 10 → a = (s.core core).ea md lit → mdImmediate md = false → loadGives s core a = some w →
    Runs (.ld core cond opnd lit) s fun t => t.core core = (((s.core core).mdModify md).setG (opField opnd 22 4)
      w).advance (mdLen md) ∧ t.get (R.ZC_RET_COUNT core) = (s.get (R.ZC_RET_COUNT core) + 1) % 2 ^ 36 ∧
    coresKept s t core = true ∧ (regionOf a ≠ .regs →
    t = { s with cores := t.cores, regs := t.regs, spine := t.spine }) ∧ (regionOf a ≠ .regs → (∀ a,
    a ≠ (R.ZC_RET_COUNT core).addr → a ≠ (R.ZC_STAT_TASK core).addr → t.reg a = s.reg a)) ∧ t.mem = s.mem ∧
    t.dev = s.dev) ∧
  (∀ (s : State) (core : Fin 8) (cond : Fin 16) (opnd : BitVec 26) (lit : Word) (md : Nat) (a : Nat),
    coreReady s core (instrWord cond 10 opnd) (checksM opnd lit true (opField opnd 16 4 == 0)) = true →
    md = opField opnd 0 10 → a = (s.core core).ea md lit → mdImmediate md = true →
    Runs (.ldh core cond opnd lit) s fun t => t.core core = ((s.core core).setG (opField opnd 22 4) (halfWord lit
      (opnd.getLsbD 21) (opnd.getLsbD 20))).advance 2 ∧
    t.get (R.ZC_RET_COUNT core) = (s.get (R.ZC_RET_COUNT core) + 1) % 2 ^ 36 ∧ coresKept s t core = true ∧
    t = { s with cores := t.cores, regs := t.regs } ∧ (∀ a, a ≠ (R.ZC_RET_COUNT core).addr →
    a ≠ (R.ZC_STAT_TASK core).addr → t.reg a = s.reg a)) ∧
  (∀ (s : State) (core : Fin 8) (cond : Fin 16) (opnd : BitVec 26) (lit : Word) (md : Nat) (a : Nat) (w : Word),
    coreReady s core (instrWord cond 10 opnd) (checksM opnd lit true (opField opnd 16 4 == 0)) = true →
    md = opField opnd 0 10 → a = (s.core core).ea md lit → mdImmediate md = false → loadGives s core a = some w →
    Runs (.ldh core cond opnd lit) s fun t => (t.core core = (((s.core core).mdModify md).setG (opField opnd 22 4) (if
      opnd.getLsbD 20 then (w.extractLsb' (if opnd.getLsbD 21 then 18 else 0) 18).signExtend 36 else (w.extractLsb'
      (if opnd.getLsbD 21 then 18 else 0) 18).setWidth 36)).advance (mdLen md)) ∧
    t.get (R.ZC_RET_COUNT core) = (s.get (R.ZC_RET_COUNT core) + 1) % 2 ^ 36 ∧ coresKept s t core = true ∧
    (regionOf a ≠ .regs → t = { s with cores := t.cores, regs := t.regs, spine := t.spine }) ∧ (regionOf a ≠ .regs →
    (∀ a, a ≠ (R.ZC_RET_COUNT core).addr → a ≠ (R.ZC_STAT_TASK core).addr → t.reg a = s.reg a)) ∧ t.mem = s.mem ∧
    t.dev = s.dev) ∧
  (∀ (s : State) (core : Fin 8) (cond : Fin 16) (opnd : BitVec 26) (lit : Word) (md : Nat) (a : Nat) (w : Word ×
      Word),
    coreReady s core (instrWord cond 12 opnd) (checksM opnd lit false (opField opnd 16 6 == 0 && opField opnd 22 4 % 2
      == 0)) = true → md = opField opnd 0 10 → a = (s.core core).ea md lit → a % 2 = 0 →
    loadsGive s core a (a + 1) = some w →
    Runs (.ldd core cond opnd lit) s fun t => t.core core = ((((s.core core).mdModify md).setG (opField opnd 22 4)
      w.1).setG (opField opnd 22 4 + 1) w.2).advance (mdLen md) ∧
    t.get (R.ZC_RET_COUNT core) = (s.get (R.ZC_RET_COUNT core) + 1) % 2 ^ 36 ∧ coresKept s t core = true ∧
    (regionOf a ≠ .regs → t = { s with cores := t.cores, regs := t.regs, spine := t.spine }) ∧ (regionOf a ≠ .regs →
    (∀ a, a ≠ (R.ZC_RET_COUNT core).addr → a ≠ (R.ZC_STAT_TASK core).addr → t.reg a = s.reg a)) ∧ t.mem = s.mem ∧
    t.dev = s.dev) ∧
  (∀ (s : State) (core : Fin 8) (cond : Fin 16) (opnd : BitVec 26) (lit : Word) (md : Nat) (a : Nat),
    coreReady s core (instrWord cond 12 opnd) (checksM opnd lit false (opField opnd 16 6 == 0 && opField opnd 22 4 % 2
      == 0)) = true → md = opField opnd 0 10 → a = (s.core core).ea md lit → a % 2 = 1 →
    handlerFree (s.core core) = true →
    Runs (.ldd core cond opnd lit) s fun t => t.core core = handlerCore (s.core core) 2 (s.core core).pc (BitVec.ofNat
      36 a) ∧ t.mem = s.mem ∧ coresKept s t core = true) ∧
  (∀ (s : State) (core : Fin 8) (cond : Fin 16) (opnd : BitVec 26) (lit : Word) (md : Nat) (a : Nat) (w : Word),
    coreReady s core (instrWord cond 27 opnd) (checksM opnd lit (decide (opField opnd 16 4 < 7)) (decide (opField opnd
      20 6 ≤ 35) && decide (opField opnd 16 4 ≤ 11))) = true → md = opField opnd 0 10 → a = (s.core core).ea md lit →
    opField opnd 16 4 < 7 → mdImmediate md = false → loadGives s core a = some w →
    Runs (.bitm core cond opnd lit) s fun t => t.core core = ({ (s.core core).mdModify md with sw := swPut (s.core core).sw swBA (bitOp (opField opnd 16 4) (swBit (s.core core).sw swBA) (w.getLsbD (opField opnd 20 6))).1 }).advance (mdLen md) ∧
    t.get (R.ZC_RET_COUNT core) = (s.get (R.ZC_RET_COUNT core) + 1) % 2 ^ 36 ∧ coresKept s t core = true ∧
    (regionOf a ≠ .regs → t = { s with cores := t.cores, regs := t.regs, spine := t.spine }) ∧ (regionOf a ≠ .regs →
    (∀ a, a ≠ (R.ZC_RET_COUNT core).addr → a ≠ (R.ZC_STAT_TASK core).addr → t.reg a = s.reg a)) ∧ t.mem = s.mem ∧
    t.dev = s.dev) ∧
  (∀ (s : State) (core : Fin 8) (cond : Fin 16) (opnd : BitVec 26) (lit : Word) (md : Nat) (a : Nat),
    coreReady s core (instrWord cond 27 opnd) (checksM opnd lit (decide (opField opnd 16 4 < 7)) (decide (opField opnd
      20 6 ≤ 35) && decide (opField opnd 16 4 ≤ 11))) = true → md = opField opnd 0 10 → a = (s.core core).ea md lit →
    opField opnd 16 4 < 7 → mdImmediate md = true →
    Runs (.bitm core cond opnd lit) s fun t => t.core core = ({ (s.core core) with sw := swPut (s.core core).sw swBA (bitOp (opField opnd 16 4) (swBit (s.core core).sw swBA) (lit.getLsbD (opField opnd 20 6))).1 }).advance 2 ∧
    t.get (R.ZC_RET_COUNT core) = (s.get (R.ZC_RET_COUNT core) + 1) % 2 ^ 36 ∧ coresKept s t core = true ∧
    t = { s with cores := t.cores, regs := t.regs } ∧ (∀ a, a ≠ (R.ZC_RET_COUNT core).addr →
    a ≠ (R.ZC_STAT_TASK core).addr → t.reg a = s.reg a)) ∧
  (∀ (s : State) (core : Fin 8) (cond : Fin 16) (opnd : BitVec 26) (lit : Word) (md : Nat) (a : Nat),
    coreReady s core (instrWord cond 8 opnd) (checksM opnd lit true (opField opnd 16 6 == 0)) = true →
    md = opField opnd 0 10 → a = (s.core core).ea md lit → mdImmediate md = false → loadBus s core a = true →
    handlerFree (s.core core) = true →
    Runs (.ld core cond opnd lit) s fun t => t.core core = handlerCore (s.core core) 2 (s.core core).pc (BitVec.ofNat
      36 a) ∧ t.mem = s.mem ∧ coresKept s t core = true) ∧
  (∀ (s : State) (core : Fin 8) (cond : Fin 16) (opnd : BitVec 26) (lit : Word) (md : Nat) (a : Nat),
    coreReady s core (instrWord cond 8 opnd) (checksM opnd lit true (opField opnd 16 6 == 0)) = true →
    md = opField opnd 0 10 → a = (s.core core).ea md lit → mdImmediate md = false → loadWaits s core a = true →
    Runs (.ld core cond opnd lit) s fun t => t.core core = { (s.core core) with wait := .remote a } ∧
    coresKept s t core = true ∧
    (s.spine.requests.any (fun q => q.master == core.val && q.ea == a && !q.store) = true →
    t = { s with cores := t.cores }) ∧
    (s.spine.requests.any (fun q => q.master == core.val && q.ea == a && !q.store) = false →
    t.spine.requests = s.spine.requests ++ [windowRequest s core a false 0 0]) ∧
    t = { s with cores := t.cores, spine := t.spine }) ∧
  (∀ (s : State) (core : Fin 8) (cond : Fin 16) (opnd : BitVec 26) (lit : Word) (md : Nat) (a : Nat),
    coreReady s core (instrWord cond 10 opnd) (checksM opnd lit true (opField opnd 16 4 == 0)) = true →
    md = opField opnd 0 10 → a = (s.core core).ea md lit → mdImmediate md = false → loadBus s core a = true →
    handlerFree (s.core core) = true →
    Runs (.ldh core cond opnd lit) s fun t => t.core core = handlerCore (s.core core) 2 (s.core core).pc (BitVec.ofNat
      36 a) ∧ t.mem = s.mem ∧ coresKept s t core = true) ∧
  (∀ (s : State) (core : Fin 8) (cond : Fin 16) (opnd : BitVec 26) (lit : Word) (md : Nat) (a : Nat),
    coreReady s core (instrWord cond 10 opnd) (checksM opnd lit true (opField opnd 16 4 == 0)) = true →
    md = opField opnd 0 10 → a = (s.core core).ea md lit → mdImmediate md = false → loadWaits s core a = true →
    Runs (.ldh core cond opnd lit) s fun t => t.core core = { (s.core core) with wait := .remote a } ∧
    coresKept s t core = true ∧
    (s.spine.requests.any (fun q => q.master == core.val && q.ea == a && !q.store) = true →
    t = { s with cores := t.cores }) ∧
    (s.spine.requests.any (fun q => q.master == core.val && q.ea == a && !q.store) = false →
    t.spine.requests = s.spine.requests ++ [windowRequest s core a false 0 0]) ∧
    t = { s with cores := t.cores, spine := t.spine }) ∧
  (∀ (s : State) (core : Fin 8) (cond : Fin 16) (opnd : BitVec 26) (lit : Word) (md : Nat) (a : Nat),
    coreReady s core (instrWord cond 18 opnd) (checksRM opnd lit (decide (opField opnd 12 6 ≤ 26) && (!aluFlagsOnly
      (opField opnd 12 6) || opField opnd 22 4 == 0))) = true → md = opField opnd 0 10 → a = (s.core core).ea md lit →
    mdImmediate md = false → loadBus s core a = true → handlerFree (s.core core) = true →
    Runs (.alum core cond opnd lit) s fun t => t.core core = handlerCore (s.core core) 2 (s.core core).pc
      (BitVec.ofNat 36 a) ∧ t.mem = s.mem ∧ coresKept s t core = true) ∧
  (∀ (s : State) (core : Fin 8) (cond : Fin 16) (opnd : BitVec 26) (lit : Word) (md : Nat) (a : Nat),
    coreReady s core (instrWord cond 18 opnd) (checksRM opnd lit (decide (opField opnd 12 6 ≤ 26) && (!aluFlagsOnly
      (opField opnd 12 6) || opField opnd 22 4 == 0))) = true → md = opField opnd 0 10 → a = (s.core core).ea md lit →
    mdImmediate md = false → loadWaits s core a = true →
    Runs (.alum core cond opnd lit) s fun t => t.core core = { (s.core core) with wait := .remote a } ∧
    coresKept s t core = true ∧
    (s.spine.requests.any (fun q => q.master == core.val && q.ea == a && !q.store) = true →
    t = { s with cores := t.cores }) ∧
    (s.spine.requests.any (fun q => q.master == core.val && q.ea == a && !q.store) = false →
    t.spine.requests = s.spine.requests ++ [windowRequest s core a false 0 0]) ∧
    t = { s with cores := t.cores, spine := t.spine }) ∧
  (∀ (s : State) (core : Fin 8) (cond : Fin 16) (opnd : BitVec 26) (lit : Word) (md : Nat) (a : Nat),
    coreReady s core (instrWord cond 21 opnd) (checksRM opnd lit (decide (opField opnd 12 6 ≤ 13) && !faluUnary
      (opField opnd 12 6) && (opField opnd 12 6 != 5 || opField opnd 22 4 == 0))) = true → md = opField opnd 0 10 →
    a = (s.core core).ea md lit → mdImmediate md = false → loadBus s core a = true →
    handlerFree (s.core core) = true →
    Runs (.falum core cond opnd lit) s fun t => t.core core = handlerCore (s.core core) 2 (s.core core).pc
      (BitVec.ofNat 36 a) ∧ t.mem = s.mem ∧ coresKept s t core = true) ∧
  (∀ (s : State) (core : Fin 8) (cond : Fin 16) (opnd : BitVec 26) (lit : Word) (md : Nat) (a : Nat),
    coreReady s core (instrWord cond 21 opnd) (checksRM opnd lit (decide (opField opnd 12 6 ≤ 13) && !faluUnary
      (opField opnd 12 6) && (opField opnd 12 6 != 5 || opField opnd 22 4 == 0))) = true → md = opField opnd 0 10 →
    a = (s.core core).ea md lit → mdImmediate md = false → loadWaits s core a = true →
    Runs (.falum core cond opnd lit) s fun t => t.core core = { (s.core core) with wait := .remote a } ∧
    coresKept s t core = true ∧
    (s.spine.requests.any (fun q => q.master == core.val && q.ea == a && !q.store) = true →
    t = { s with cores := t.cores }) ∧
    (s.spine.requests.any (fun q => q.master == core.val && q.ea == a && !q.store) = false →
    t.spine.requests = s.spine.requests ++ [windowRequest s core a false 0 0]) ∧
    t = { s with cores := t.cores, spine := t.spine }) ∧
  (∀ (s : State) (core : Fin 8) (cond : Fin 16) (opnd : BitVec 26) (lit : Word) (md : Nat) (a : Nat),
    coreReady s core (instrWord cond 27 opnd) (checksM opnd lit (decide (opField opnd 16 4 < 7)) (decide (opField opnd
      20 6 ≤ 35) && decide (opField opnd 16 4 ≤ 11))) = true → md = opField opnd 0 10 → a = (s.core core).ea md lit →
    opField opnd 16 4 < 7 → mdImmediate md = false → loadBus s core a = true → handlerFree (s.core core) = true →
    Runs (.bitm core cond opnd lit) s fun t => t.core core = handlerCore (s.core core) 2 (s.core core).pc
      (BitVec.ofNat 36 a) ∧ t.mem = s.mem ∧ coresKept s t core = true) ∧
  (∀ (s : State) (core : Fin 8) (cond : Fin 16) (opnd : BitVec 26) (lit : Word) (md : Nat) (a : Nat),
    coreReady s core (instrWord cond 27 opnd) (checksM opnd lit (decide (opField opnd 16 4 < 7)) (decide (opField opnd
      20 6 ≤ 35) && decide (opField opnd 16 4 ≤ 11))) = true → md = opField opnd 0 10 → a = (s.core core).ea md lit →
    opField opnd 16 4 < 7 → mdImmediate md = false → loadWaits s core a = true →
    Runs (.bitm core cond opnd lit) s fun t => t.core core = { (s.core core) with wait := .remote a } ∧
    coresKept s t core = true ∧
    (s.spine.requests.any (fun q => q.master == core.val && q.ea == a && !q.store) = true →
    t = { s with cores := t.cores }) ∧
    (s.spine.requests.any (fun q => q.master == core.val && q.ea == a && !q.store) = false →
    t.spine.requests = s.spine.requests ++ [windowRequest s core a false 0 0]) ∧
    t = { s with cores := t.cores, spine := t.spine })

/-- Stores of the word cores (R225, R226, R237, R238). -/
def Obligations.CoreStores : Prop :=
  (∀ (s : State) (core : Fin 8) (cond : Fin 16) (opnd : BitVec 26) (lit : Word) (md : Nat) (a : Nat),
    coreReady s core (instrWord cond 9 opnd) (checksM opnd lit false (opField opnd 16 6 == 0)) = true →
    md = opField opnd 0 10 → a = (s.core core).ea md lit → wordWritable s a = true →
    Runs (.st core cond opnd lit) s fun t => t.core core = ((s.core core).mdModify md).advance (mdLen md) ∧
    t.word a = ((s.core core).gr (opField opnd 22 4)) ∧ (∀ x, x < a ∨ a + 1 ≤ x → t.word x = s.word x) ∧
    coresKept s t core = true ∧ t.get (R.ZC_RET_COUNT core) = (s.get (R.ZC_RET_COUNT core) + 1) % 2 ^ 36 ∧
    t.dev = s.dev ∧ t.time = s.time) ∧
  (∀ (s : State) (core : Fin 8) (cond : Fin 16) (opnd : BitVec 26) (lit : Word) (md : Nat) (a : Nat),
    coreReady s core (instrWord cond 9 opnd) (checksM opnd lit false (opField opnd 16 6 == 0)) = true →
    md = opField opnd 0 10 → a = (s.core core).ea md lit → storeRefused s core a = true →
    Runs (.st core cond opnd lit) s fun t => t.core core = { ((s.core core).mdModify md).advance (mdLen md) with imprecise := some (((s.core core).imprecise).getD a) } ∧
    t.mem = s.mem ∧ coresKept s t core = true ∧
    t.get (R.ZC_RET_COUNT core) = (s.get (R.ZC_RET_COUNT core) + 1) % 2 ^ 36 ∧ t.dev = s.dev ∧ t.time = s.time) ∧
  (∀ (s : State) (core : Fin 8) (cond : Fin 16) (opnd : BitVec 26) (lit : Word) (md : Nat) (a : Nat) (g : Bool) (n :
      Nat), coreReady s core (instrWord cond 9 opnd) (checksM opnd lit false (opField opnd 16 6 == 0)) = true →
    md = opField opnd 0 10 → a = (s.core core).ea md lit → regionOf a = .image → imagePart a = (.value, g) →
    globalHidden s a (coreForeign s core) = false → a = pointAddr true g n → n < 32768 →
    ((pointOwner s true g n).any (fun p => p.cls == coreClass s core && p.out) = true) → coreWriter s core = .work →
    coreClass s core < 8 →
    Runs (.st core cond opnd lit) s fun t => t.core core = ((s.core core).mdModify md).advance (mdLen md) ∧
    pointIn (t.view (coreClass s core)) true g n = ((s.core core).gr (opField opnd 22 4)) ∧ t.mem = s.mem ∧
    coresKept s t core = true ∧ t.get (R.ZC_RET_COUNT core) = (s.get (R.ZC_RET_COUNT core) + 1) % 2 ^ 36 ∧
    t.dev = s.dev ∧ t.time = s.time) ∧
  (∀ (s : State) (core : Fin 8) (cond : Fin 16) (opnd : BitVec 26) (lit : Word) (md : Nat) (a : Nat),
    coreReady s core (instrWord cond 9 opnd) (checksM opnd lit false (opField opnd 16 6 == 0)) = true →
    md = opField opnd 0 10 → a = (s.core core).ea md lit → regionOf a = .image → (imagePart a).1 ≠ .reserved →
    Runs (.st core cond opnd lit) s fun t => t.core core = ((s.core core).mdModify md).advance (mdLen md) ∧
    t.mem = s.mem ∧ coresKept s t core = true ∧
    t.get (R.ZC_RET_COUNT core) = (s.get (R.ZC_RET_COUNT core) + 1) % 2 ^ 36 ∧ t.dev = s.dev ∧ t.time = s.time) ∧
  (∀ (s : State) (core : Fin 8) (cond : Fin 16) (opnd : BitVec 26) (lit : Word) (md : Nat) (a : Nat),
    coreReady s core (instrWord cond 9 opnd) (checksM opnd lit false (opField opnd 16 6 == 0)) = true →
    md = opField opnd 0 10 → a = (s.core core).ea md lit → regionOf a = .remote → s.flag (R.SPN_RSEL_EN core) = true →
    Runs (.st core cond opnd lit) s fun t => t.core core = ((s.core core).mdModify md).advance (mdLen md) ∧
    t.spine.requests = s.spine.requests ++ [windowRequest s core a true ((s.core core).gr (opField opnd 22 4)) 0] ∧
    t.get (R.SPN_RSTAT_PEND core) = (s.get (R.SPN_RSTAT_PEND core) + 1) % 2 ^ (R.SPN_RSTAT_PEND core).width ∧
    t.mem = s.mem ∧ coresKept s t core = true ∧
    t.get (R.ZC_RET_COUNT core) = (s.get (R.ZC_RET_COUNT core) + 1) % 2 ^ 36 ∧ t.dev = s.dev ∧ t.time = s.time) ∧
  (∀ (s : State) (core : Fin 8) (cond : Fin 16) (opnd : BitVec 26) (lit : Word) (md : Nat) (a : Nat),
    coreReady s core (instrWord cond 9 opnd) (checksM opnd lit false (opField opnd 16 6 == 0)) = true →
    md = opField opnd 0 10 → a = (s.core core).ea md lit → regionOf a = .regs →
    Runs (.st core cond opnd lit) s fun t => t = betweenInstructions (writeReg (complete s core ((s.core
      core).mdModify md) (mdLen md)) core a ((s.core core).gr (opField opnd 22 4)).toNat) core) ∧
  (∀ (s : State) (core : Fin 8) (cond : Fin 16) (opnd : BitVec 26) (lit : Word) (md : Nat) (a : Nat),
    coreReady s core (instrWord cond 11 opnd) (checksM opnd lit false (opField opnd 16 5 == 0)) = true →
    md = opField opnd 0 10 → a = (s.core core).ea md lit → wordWritable s a = true → s.poisoned a = false →
    Runs (.sth core cond opnd lit) s fun t => t.core core = ((s.core core).mdModify md).advance (mdLen md) ∧
    (t.word a = (if opnd.getLsbD 21 then withBits (s.word a) 18 18 ((s.core core).gr (opField opnd 22 4)).toNat else
      withBits (s.word a) 0 18 ((s.core core).gr (opField opnd 22 4)).toNat)) ∧ (∀ x, x < a ∨ a + 1 ≤ x →
    t.word x = s.word x) ∧ coresKept s t core = true ∧
    t.get (R.ZC_RET_COUNT core) = (s.get (R.ZC_RET_COUNT core) + 1) % 2 ^ 36 ∧ t.dev = s.dev ∧ t.time = s.time) ∧
  (∀ (s : State) (core : Fin 8) (cond : Fin 16) (opnd : BitVec 26) (lit : Word) (md : Nat) (a : Nat),
    coreReady s core (instrWord cond 11 opnd) (checksM opnd lit false (opField opnd 16 5 == 0)) = true →
    md = opField opnd 0 10 → a = (s.core core).ea md lit → regionOf a = .remote → s.flag (R.SPN_RSEL_EN core) = true →
    Runs (.sth core cond opnd lit) s fun t => t.core core = ((s.core core).mdModify md).advance (mdLen md) ∧
    (t.spine.requests = s.spine.requests ++ [windowRequest s core a true (if opnd.getLsbD 21 then withBits (0 : Word)
      18 18 ((s.core core).gr (opField opnd 22 4)).toNat else withBits (0 : Word) 0 18 ((s.core core).gr (opField opnd
      22 4)).toNat) ((if opnd.getLsbD 21 then withBits (0 : Word) 18 18 ((s.core core).gr (opField opnd 22 4)).toNat
      else withBits (0 : Word) 0 18 ((s.core core).gr (opField opnd 22 4)).toNat) ^^^ (if opnd.getLsbD 21 then
      withBits (BitVec.allOnes 36 : Word) 18 18 ((s.core core).gr (opField opnd 22 4)).toNat else withBits
      (BitVec.allOnes 36 : Word) 0 18 ((s.core core).gr (opField opnd 22 4)).toNat))]) ∧
    t.get (R.SPN_RSTAT_PEND core) = (s.get (R.SPN_RSTAT_PEND core) + 1) % 2 ^ (R.SPN_RSTAT_PEND core).width ∧
    t.mem = s.mem ∧ coresKept s t core = true ∧
    t.get (R.ZC_RET_COUNT core) = (s.get (R.ZC_RET_COUNT core) + 1) % 2 ^ 36 ∧ t.dev = s.dev ∧ t.time = s.time) ∧
  (∀ (s : State) (core : Fin 8) (cond : Fin 16) (opnd : BitVec 26) (lit : Word) (md : Nat) (a : Nat),
    coreReady s core (instrWord cond 11 opnd) (checksM opnd lit false (opField opnd 16 5 == 0)) = true →
    md = opField opnd 0 10 → a = (s.core core).ea md lit → storeRefused s core a = true → loadWaits s core a = false →
    handlerFree (s.core core) = true →
    Runs (.sth core cond opnd lit) s fun t => t.core core = handlerCore (s.core core) 2 (s.core core).pc (BitVec.ofNat
      36 a) ∧ t.mem = s.mem ∧ coresKept s t core = true) ∧
  (∀ (s : State) (core : Fin 8) (cond : Fin 16) (opnd : BitVec 26) (lit : Word) (md : Nat) (a : Nat),
    coreReady s core (instrWord cond 13 opnd) (checksM opnd lit false (opField opnd 16 6 == 0 && opField opnd 22 4 % 2
      == 0)) = true → md = opField opnd 0 10 → a = (s.core core).ea md lit → a % 2 = 0 → wordWritable s a = true →
    wordWritable s (a + 1) = true →
    Runs (.std core cond opnd lit) s fun t => t.core core = ((s.core core).mdModify md).advance (mdLen md) ∧
    t.word a = ((s.core core).gr (opField opnd 22 4)) ∧ t.word (a + 1) = (s.core core).gr (opField opnd 22 4 + 1) ∧
    (∀ x, x < a ∨ a + 2 ≤ x → t.word x = s.word x) ∧ coresKept s t core = true ∧
    t.get (R.ZC_RET_COUNT core) = (s.get (R.ZC_RET_COUNT core) + 1) % 2 ^ 36 ∧ t.dev = s.dev ∧ t.time = s.time) ∧
  (∀ (s : State) (core : Fin 8) (cond : Fin 16) (opnd : BitVec 26) (lit : Word) (md : Nat) (a : Nat),
    coreReady s core (instrWord cond 13 opnd) (checksM opnd lit false (opField opnd 16 6 == 0 && opField opnd 22 4 % 2
      == 0)) = true → md = opField opnd 0 10 → a = (s.core core).ea md lit → a % 2 = 1 →
    handlerFree (s.core core) = true →
    Runs (.std core cond opnd lit) s fun t => t.core core = handlerCore (s.core core) 2 (s.core core).pc (BitVec.ofNat
      36 a) ∧ t.mem = s.mem ∧ coresKept s t core = true) ∧
  (∀ (s : State) (core : Fin 8) (cond : Fin 16) (opnd : BitVec 26) (lit : Word) (md : Nat) (a : Nat),
    coreReady s core (instrWord cond 13 opnd) (checksM opnd lit false (opField opnd 16 6 == 0 && opField opnd 22 4 % 2
      == 0)) = true → md = opField opnd 0 10 → a = (s.core core).ea md lit → a % 2 = 0 →
    storeRefused s core a = true →
    Runs (.std core cond opnd lit) s fun t => t.core core = { ((s.core core).mdModify md).advance (mdLen md) with imprecise := some (((s.core core).imprecise).getD a) } ∧
    t.word a = s.word a ∧ coresKept s t core = true ∧
    t.get (R.ZC_RET_COUNT core) = (s.get (R.ZC_RET_COUNT core) + 1) % 2 ^ 36 ∧ t.dev = s.dev ∧ t.time = s.time) ∧
  (∀ (s : State) (core : Fin 8) (cond : Fin 16) (opnd : BitVec 26) (lit : Word) (md : Nat) (a : Nat) (f : Nat),
    coreReady s core (instrWord cond 14 opnd) (checksM opnd lit false true) = true → md = opField opnd 0 10 →
    a = (s.core core).ea md lit → atomRegion a = true → f = opField opnd 16 2 → f ≠ 1 → wordWritable s a = true →
    s.poisoned a = false →
    Runs (.atom core cond opnd lit) s fun t => t.core core = (((s.core core).mdModify md).setG (opField opnd 22 4)
      (s.word a)).advance (mdLen md) ∧
    (t.word a = (if f = 0 then (s.core core).gr (opField opnd 18 4) else if f = 2 then s.word a ||| (s.core core).gr
      (opField opnd 18 4) else s.word a &&& ~~~((s.core core).gr (opField opnd 18 4)))) ∧ (∀ x, x < a ∨ a + 1 ≤ x →
    t.word x = s.word x) ∧ coresKept s t core = true ∧
    t.get (R.ZC_RET_COUNT core) = (s.get (R.ZC_RET_COUNT core) + 1) % 2 ^ 36 ∧ t.dev = s.dev ∧ t.time = s.time) ∧
  (∀ (s : State) (core : Fin 8) (cond : Fin 16) (opnd : BitVec 26) (lit : Word) (md : Nat) (a : Nat) (b : Word) (r :
      AluRes), coreReady s core (instrWord cond 14 opnd) (checksM opnd lit false true) = true →
    md = opField opnd 0 10 → a = (s.core core).ea md lit → atomRegion a = true → opField opnd 16 2 = 1 →
    b = (s.core core).gr (opField opnd 18 4) → r = aluAdd (s.word a) b 0 →
    (swBit (s.core core).sw swOVE && r.v == some true) = false → wordWritable s a = true → s.poisoned a = false →
    Runs (.atom core cond opnd lit) s fun t => t.core core = { (((s.core core).mdModify md).setG (opField opnd 22 4) (s.word a)) with sw := swFlags (s.core core).sw r }.advance (mdLen md) ∧
    t.word a = s.word a + b ∧ (∀ x, x < a ∨ a + 1 ≤ x → t.word x = s.word x) ∧ coresKept s t core = true ∧
    t.get (R.ZC_RET_COUNT core) = (s.get (R.ZC_RET_COUNT core) + 1) % 2 ^ 36 ∧ t.dev = s.dev ∧ t.time = s.time) ∧
  (∀ (s : State) (core : Fin 8) (cond : Fin 16) (opnd : BitVec 26) (lit : Word) (md : Nat) (a : Nat),
    coreReady s core (instrWord cond 14 opnd) (checksM opnd lit false true) = true → md = opField opnd 0 10 →
    a = (s.core core).ea md lit → (atomRegion a = false ∨ storeRefused s core a = true ∨ loadBus s core a = true) →
    handlerFree (s.core core) = true →
    Runs (.atom core cond opnd lit) s fun t => t.core core = handlerCore (s.core core) 2 (s.core core).pc
      (BitVec.ofNat 36 a) ∧ t.mem = s.mem ∧ coresKept s t core = true) ∧
  (∀ (s : State) (core : Fin 8) (cond : Fin 16) (opnd : BitVec 26) (lit : Word) (md : Nat) (a : Nat),
    coreReady s core (instrWord cond 27 opnd) (checksM opnd lit (decide (opField opnd 16 4 < 7)) (decide (opField opnd
      20 6 ≤ 35) && decide (opField opnd 16 4 ≤ 11))) = true → md = opField opnd 0 10 → a = (s.core core).ea md lit →
    7 ≤ opField opnd 16 4 → wordWritable s a = true → s.poisoned a = false →
    Runs (.bitm core cond opnd lit) s fun t => t.core core = ((s.core core).mdModify md).advance (mdLen md) ∧
    t.word a = (withBits (s.word a) (opField opnd 20 6) 1 (bitNat (bitOp (opField opnd 16 4) (swBit (s.core core).sw
      swBA) ((s.word a).getLsbD (opField opnd 20 6))).2)) ∧ (∀ x, x < a ∨ a + 1 ≤ x → t.word x = s.word x) ∧
    coresKept s t core = true ∧ t.get (R.ZC_RET_COUNT core) = (s.get (R.ZC_RET_COUNT core) + 1) % 2 ^ 36 ∧
    t.dev = s.dev ∧ t.time = s.time) ∧
  (∀ (s : State) (core : Fin 8) (cond : Fin 16) (opnd : BitVec 26) (lit : Word) (md : Nat) (a : Nat),
    coreReady s core (instrWord cond 27 opnd) (checksM opnd lit (decide (opField opnd 16 4 < 7)) (decide (opField opnd
      20 6 ≤ 35) && decide (opField opnd 16 4 ≤ 11))) = true → md = opField opnd 0 10 → a = (s.core core).ea md lit →
    7 ≤ opField opnd 16 4 → regionOf a = .remote → s.flag (R.SPN_RSEL_EN core) = true →
    Runs (.bitm core cond opnd lit) s fun t => t.core core = ((s.core core).mdModify md).advance (mdLen md) ∧
    t.spine.requests = s.spine.requests ++ [windowRequest s core a true (withBits (0 : Word) (opField opnd 20 6) 1
      (bitNat (bitOp (opField opnd 16 4) (swBit (s.core core).sw swBA) ((0 : Word).getLsbD (opField opnd 20 6))).2))
      ((withBits (0 : Word) (opField opnd 20 6) 1 (bitNat (bitOp (opField opnd 16 4) (swBit (s.core core).sw swBA) ((0
      : Word).getLsbD (opField opnd 20 6))).2)) ^^^ (withBits (BitVec.allOnes 36 : Word) (opField opnd 20 6) 1 (bitNat
      (bitOp (opField opnd 16 4) (swBit (s.core core).sw swBA) ((BitVec.allOnes 36 : Word).getLsbD (opField opnd 20
      6))).2)))] ∧
    t.get (R.SPN_RSTAT_PEND core) = (s.get (R.SPN_RSTAT_PEND core) + 1) % 2 ^ (R.SPN_RSTAT_PEND core).width ∧
    t.mem = s.mem ∧ coresKept s t core = true ∧
    t.get (R.ZC_RET_COUNT core) = (s.get (R.ZC_RET_COUNT core) + 1) % 2 ^ 36 ∧ t.dev = s.dev ∧ t.time = s.time) ∧
  (∀ (s : State) (core : Fin 8) (cond : Fin 16) (opnd : BitVec 26) (lit : Word) (md : Nat) (a : Nat),
    coreReady s core (instrWord cond 27 opnd) (checksM opnd lit (decide (opField opnd 16 4 < 7)) (decide (opField opnd
      20 6 ≤ 35) && decide (opField opnd 16 4 ≤ 11))) = true → md = opField opnd 0 10 → a = (s.core core).ea md lit →
    7 ≤ opField opnd 16 4 → regionOf a = .regs → handlerFree (s.core core) = true →
    Runs (.bitm core cond opnd lit) s fun t => t.core core = handlerCore (s.core core) 2 (s.core core).pc
      (BitVec.ofNat 36 a) ∧ t.mem = s.mem ∧ coresKept s t core = true) ∧
  (∀ (s : State) (core : Fin 8) (cond : Fin 16) (opnd : BitVec 26) (lit : Word) (md : Nat) (a : Nat) (g : Bool) (n :
      Nat),
    coreReady s core (instrWord cond 27 opnd) (checksM opnd lit (decide (opField opnd 16 4 < 7)) (decide (opField opnd
      20 6 ≤ 35) && decide (opField opnd 16 4 ≤ 11))) = true → md = opField opnd 0 10 → a = (s.core core).ea md lit →
    7 ≤ opField opnd 16 4 → bitPointWord a = true → s.poisoned a = false →
    globalHidden s a (coreForeign s core) = false → opField opnd 20 6 < 32 →
    (n = 32 * (a - (if g then 0x620000 else 0x600000)) + opField opnd 20 6) → g = (imagePart a).2 →
    ((pointOwner s false g n).any (fun p => p.cls == coreClass s core && p.out) = true) → coreWriter s core = .work →
    coreClass s core < 8 →
    Runs (.bitm core cond opnd lit) s fun t => t.core core = ((s.core core).mdModify md).advance (mdLen md) ∧
    pointIn (t.view (coreClass s core)) false g n = BitVec.ofNat 36 (bitNat (bitOp (opField opnd 16 4) (swBit (s.core
      core).sw swBA) ((pointIn (s.view (coreClass s core)) false g n).getLsbD 0)).2) ∧ t.mem = s.mem ∧
    coresKept s t core = true ∧ t.get (R.ZC_RET_COUNT core) = (s.get (R.ZC_RET_COUNT core) + 1) % 2 ^ 36 ∧
    t.dev = s.dev ∧ t.time = s.time)

/-- String instructions of the word cores (R203, R241). -/
def Obligations.CoreStrings : Prop :=
  (∀ (s : State) (core : Fin 8) (cond : Fin 16) (rest : BitVec 22),
    coreReady s core (instrWord cond 36 (BitVec.ofNat 4 0 ++ rest)) { legal := rest == 0 } = true →
    (s.core core).gr 12 = 0 →
    Runs (.movs core cond rest) s fun t => t.core core = ({ (s.core core) with sw := (s.core core).sw }).advance 1 ∧
    t.get (R.ZC_RET_COUNT core) = (s.get (R.ZC_RET_COUNT core) + 1) % 2 ^ 36 ∧ coresKept s t core = true ∧
    t = { s with cores := t.cores, regs := t.regs } ∧ (∀ a, a ≠ (R.ZC_RET_COUNT core).addr →
    a ≠ (R.ZC_STAT_TASK core).addr → t.reg a = s.reg a)) ∧
  (∀ (s : State) (core : Fin 8) (cond : Fin 16) (rest : BitVec 22),
    coreReady s core (instrWord cond 36 (BitVec.ofNat 4 1 ++ rest)) { legal := rest == 0 } = true →
    (s.core core).gr 12 = 0 →
    Runs (.fill core cond rest) s fun t => t.core core = ({ (s.core core) with sw := (s.core core).sw }).advance 1 ∧
    t.get (R.ZC_RET_COUNT core) = (s.get (R.ZC_RET_COUNT core) + 1) % 2 ^ 36 ∧ coresKept s t core = true ∧
    t = { s with cores := t.cores, regs := t.regs } ∧ (∀ a, a ≠ (R.ZC_RET_COUNT core).addr →
    a ≠ (R.ZC_STAT_TASK core).addr → t.reg a = s.reg a)) ∧
  (∀ (s : State) (core : Fin 8) (cond : Fin 16) (rest : BitVec 22),
    coreReady s core (instrWord cond 36 (BitVec.ofNat 4 2 ++ rest)) { legal := rest == 0 } = true →
    (s.core core).gr 12 = 0 →
    Runs (.cmps core cond rest) s fun t => t.core core = ({ (s.core core) with sw := cmpsFlags (s.core core).sw true false }).advance 1 ∧
    t.get (R.ZC_RET_COUNT core) = (s.get (R.ZC_RET_COUNT core) + 1) % 2 ^ 36 ∧ coresKept s t core = true ∧
    t = { s with cores := t.cores, regs := t.regs } ∧ (∀ a, a ≠ (R.ZC_RET_COUNT core).addr →
    a ≠ (R.ZC_STAT_TASK core).addr → t.reg a = s.reg a)) ∧
  (∀ (s : State) (core : Fin 8) (cond : Fin 16) (rest : BitVec 22),
    coreReady s core (instrWord cond 36 (BitVec.ofNat 4 3 ++ rest)) { legal := rest == 0 } = true →
    (s.core core).gr 12 = 0 →
    Runs (.scan core cond rest) s fun t => t.core core = ({ (s.core core) with sw := swPut (s.core core).sw swZ false }).advance 1 ∧
    t.get (R.ZC_RET_COUNT core) = (s.get (R.ZC_RET_COUNT core) + 1) % 2 ^ 36 ∧ coresKept s t core = true ∧
    t = { s with cores := t.cores, regs := t.regs } ∧ (∀ a, a ≠ (R.ZC_RET_COUNT core).addr →
    a ≠ (R.ZC_STAT_TASK core).addr → t.reg a = s.reg a)) ∧
  (∀ (s : State) (core : Fin 8) (cond : Fin 16) (rest : BitVec 22) (a b : Nat) (w : Word),
    coreReady s core (instrWord cond 36 (BitVec.ofNat 4 0 ++ rest)) { legal := rest == 0 } = true →
    (s.core core).gr 12 ≠ 0 → a = ((s.core core).xn 6).toNat → b = ((s.core core).xn 7).toNat →
    loadGives s core a = some w → wordWritable s b = true →
    Runs (.movs core cond rest) s fun t => (t.core core = (if (s.core core).gr 12 = 1 then ((((s.core core).stringStep
      6).stringStep 7).setG 12 0).advance 1 else (((s.core core).stringStep 6).stringStep 7).setG 12 ((s.core core).gr
      12 - 1))) ∧ t.word b = w ∧ (∀ x, x < b ∨ b + 1 ≤ x → t.word x = s.word x) ∧ t.dev = s.dev ∧
    coresKept s t core = true) ∧
  (∀ (s : State) (core : Fin 8) (cond : Fin 16) (rest : BitVec 22) (a b : Nat) (w : Word),
    coreReady s core (instrWord cond 36 (BitVec.ofNat 4 0 ++ rest)) { legal := rest == 0 } = true →
    (s.core core).gr 12 = 1 → a = ((s.core core).xn 6).toNat → b = ((s.core core).xn 7).toNat →
    loadGives s core a = some w → wordWritable s b = true →
    Runs (.movs core cond rest) s fun t => (t.core core = (if (s.core core).gr 12 = 1 then ((((s.core core).stringStep
      6).stringStep 7).setG 12 0).advance 1 else (((s.core core).stringStep 6).stringStep 7).setG 12 ((s.core core).gr
      12 - 1))) ∧ t.word b = w ∧ (∀ x, x < b ∨ b + 1 ≤ x → t.word x = s.word x) ∧
    t.get (R.ZC_RET_COUNT core) = (s.get (R.ZC_RET_COUNT core) + 1) % 2 ^ 36 ∧ t.dev = s.dev ∧
    coresKept s t core = true) ∧
  (∀ (s : State) (core : Fin 8) (cond : Fin 16) (rest : BitVec 22) (a : Nat),
    coreReady s core (instrWord cond 36 (BitVec.ofNat 4 0 ++ rest)) { legal := rest == 0 } = true →
    (s.core core).gr 12 ≠ 0 → a = ((s.core core).xn 6).toNat → loadBus s core a = true →
    handlerFree (s.core core) = true →
    Runs (.movs core cond rest) s fun t => t.core core = handlerCore (s.core core) 2 (s.core core).pc (BitVec.ofNat 36
      a) ∧ t.mem = s.mem ∧ coresKept s t core = true) ∧
  (∀ (s : State) (core : Fin 8) (cond : Fin 16) (rest : BitVec 22) (a : Nat),
    coreReady s core (instrWord cond 36 (BitVec.ofNat 4 0 ++ rest)) { legal := rest == 0 } = true →
    (s.core core).gr 12 ≠ 0 → a = ((s.core core).xn 6).toNat → loadWaits s core a = true →
    Runs (.movs core cond rest) s fun t => t.core core = { (s.core core) with wait := .remote a } ∧
    coresKept s t core = true ∧
    (s.spine.requests.any (fun q => q.master == core.val && q.ea == a && !q.store) = true →
    t = { s with cores := t.cores }) ∧
    (s.spine.requests.any (fun q => q.master == core.val && q.ea == a && !q.store) = false →
    t.spine.requests = s.spine.requests ++ [windowRequest s core a false 0 0]) ∧
    t = { s with cores := t.cores, spine := t.spine }) ∧
  (∀ (s : State) (core : Fin 8) (cond : Fin 16) (rest : BitVec 22) (b : Nat),
    coreReady s core (instrWord cond 36 (BitVec.ofNat 4 1 ++ rest)) { legal := rest == 0 } = true →
    (s.core core).gr 12 ≠ 0 → b = ((s.core core).xn 7).toNat → wordWritable s b = true →
    Runs (.fill core cond rest) s fun t => (t.core core = (if (s.core core).gr 12 = 1 then (((s.core core).stringStep
      7).setG 12 0).advance 1 else ((s.core core).stringStep 7).setG 12 ((s.core core).gr 12 - 1))) ∧
    t.word b = (s.core core).gr 13 ∧ (∀ x, x < b ∨ b + 1 ≤ x → t.word x = s.word x) ∧ t.dev = s.dev ∧
    coresKept s t core = true) ∧
  (∀ (s : State) (core : Fin 8) (cond : Fin 16) (rest : BitVec 22) (b : Nat),
    coreReady s core (instrWord cond 36 (BitVec.ofNat 4 1 ++ rest)) { legal := rest == 0 } = true →
    (s.core core).gr 12 = 1 → b = ((s.core core).xn 7).toNat → wordWritable s b = true →
    Runs (.fill core cond rest) s fun t => (t.core core = (if (s.core core).gr 12 = 1 then (((s.core core).stringStep
      7).setG 12 0).advance 1 else ((s.core core).stringStep 7).setG 12 ((s.core core).gr 12 - 1))) ∧
    t.word b = (s.core core).gr 13 ∧ (∀ x, x < b ∨ b + 1 ≤ x → t.word x = s.word x) ∧
    t.get (R.ZC_RET_COUNT core) = (s.get (R.ZC_RET_COUNT core) + 1) % 2 ^ 36 ∧ t.dev = s.dev ∧
    coresKept s t core = true) ∧
  (∀ (s : State) (core : Fin 8) (cond : Fin 16) (rest : BitVec 22) (b : Nat),
    coreReady s core (instrWord cond 36 (BitVec.ofNat 4 1 ++ rest)) { legal := rest == 0 } = true →
    (s.core core).gr 12 ≠ 0 → b = ((s.core core).xn 7).toNat → storeRefused s core b = true →
    handlerFree (s.core core) = true →
    Runs (.fill core cond rest) s fun t => t.core core = handlerCore (s.core core) 2 (s.core core).pc (BitVec.ofNat 36
      b) ∧ t.mem = s.mem ∧ coresKept s t core = true) ∧
  (∀ (s : State) (core : Fin 8) (cond : Fin 16) (rest : BitVec 22) (b : Nat),
    coreReady s core (instrWord cond 36 (BitVec.ofNat 4 1 ++ rest)) { legal := rest == 0 } = true →
    (s.core core).gr 12 ≠ 0 → b = ((s.core core).xn 7).toNat → regionOf b = .remote →
    s.flag (R.SPN_RSEL_EN core) = true →
    Runs (.fill core cond rest) s fun t => (t.core core = (if (s.core core).gr 12 = 1 then (((s.core core).stringStep
      7).setG 12 0).advance 1 else ((s.core core).stringStep 7).setG 12 ((s.core core).gr 12 - 1))) ∧
    t.spine.requests = s.spine.requests ++ [windowRequest s core b true ((s.core core).gr 13) 0] ∧ t.mem = s.mem ∧
    t.dev = s.dev ∧ coresKept s t core = true) ∧
  (∀ (s : State) (core : Fin 8) (cond : Fin 16) (rest : BitVec 22) (b : Nat),
    coreReady s core (instrWord cond 36 (BitVec.ofNat 4 1 ++ rest)) { legal := rest == 0 } = true →
    (s.core core).gr 12 ≠ 0 → b = ((s.core core).xn 7).toNat → regionOf b = .image → (imagePart b).1 ≠ .reserved →
    Runs (.fill core cond rest) s fun t => (t.core core = (if (s.core core).gr 12 = 1 then (((s.core core).stringStep
      7).setG 12 0).advance 1 else ((s.core core).stringStep 7).setG 12 ((s.core core).gr 12 - 1))) ∧ t.mem = s.mem ∧
    t.dev = s.dev ∧ coresKept s t core = true) ∧
  (∀ (s : State) (core : Fin 8) (cond : Fin 16) (rest : BitVec 22) (b : Nat),
    coreReady s core (instrWord cond 36 (BitVec.ofNat 4 1 ++ rest)) { legal := rest == 0 } = true →
    (s.core core).gr 12 ≠ 0 → b = ((s.core core).xn 7).toNat → regionOf b = .regs →
    Runs (.fill core cond rest) s fun t => t = betweenInstructions (writeReg (stringNext s core ((s.core
      core).stringStep 7)) core b ((s.core core).gr 13).toNat) core) ∧
  (∀ (s : State) (core : Fin 8) (cond : Fin 16) (rest : BitVec 22) (a b : Nat) (w : Word × Word),
    coreReady s core (instrWord cond 36 (BitVec.ofNat 4 2 ++ rest)) { legal := rest == 0 } = true →
    (s.core core).gr 12 ≠ 0 → a = ((s.core core).xn 6).toNat → b = ((s.core core).xn 7).toNat →
    loadsGive s core a b = some w → w.1 = w.2 →
    Runs (.cmps core cond rest) s fun t => (t.core core = (if (s.core core).gr 12 = 1 then ({ (((s.core core).stringStep 6).stringStep 7) with sw := cmpsFlags (s.core core).sw true false }.setG 12 0).advance 1 else (((s.core core).stringStep 6).stringStep 7).setG 12 ((s.core core).gr 12 - 1))) ∧
    t.mem = s.mem ∧ t.dev = s.dev ∧ coresKept s t core = true) ∧
  (∀ (s : State) (core : Fin 8) (cond : Fin 16) (rest : BitVec 22) (a b : Nat) (w : Word × Word),
    coreReady s core (instrWord cond 36 (BitVec.ofNat 4 2 ++ rest)) { legal := rest == 0 } = true →
    (s.core core).gr 12 ≠ 0 → a = ((s.core core).xn 6).toNat → b = ((s.core core).xn 7).toNat →
    loadsGive s core a b = some w → w.1 ≠ w.2 →
    Runs (.cmps core cond rest) s fun t => t.core core = { (s.core core) with sw := cmpsFlags (s.core core).sw false (decide (w.1.toNat < w.2.toNat)) }.advance 1 ∧
    t.mem = s.mem ∧ t.get (R.ZC_RET_COUNT core) = (s.get (R.ZC_RET_COUNT core) + 1) % 2 ^ 36 ∧ t.dev = s.dev ∧
    coresKept s t core = true) ∧
  (∀ (s : State) (core : Fin 8) (cond : Fin 16) (rest : BitVec 22) (a : Nat),
    coreReady s core (instrWord cond 36 (BitVec.ofNat 4 2 ++ rest)) { legal := rest == 0 } = true →
    (s.core core).gr 12 ≠ 0 → a = ((s.core core).xn 6).toNat → loadBus s core a = true →
    loadWaits s core ((s.core core).xn 7).toNat = false → handlerFree (s.core core) = true →
    Runs (.cmps core cond rest) s fun t => t.core core = handlerCore (s.core core) 2 (s.core core).pc (BitVec.ofNat 36
      a) ∧ t.mem = s.mem ∧ coresKept s t core = true) ∧
  (∀ (s : State) (core : Fin 8) (cond : Fin 16) (rest : BitVec 22) (a : Nat) (w : Word),
    coreReady s core (instrWord cond 36 (BitVec.ofNat 4 3 ++ rest)) { legal := rest == 0 } = true →
    (s.core core).gr 12 ≠ 0 → a = ((s.core core).xn 6).toNat → loadGives s core a = some w → w = (s.core core).gr 13 →
    Runs (.scan core cond rest) s fun t => t.core core = { (s.core core) with sw := swPut (s.core core).sw swZ true }.advance 1 ∧
    t.mem = s.mem ∧ t.get (R.ZC_RET_COUNT core) = (s.get (R.ZC_RET_COUNT core) + 1) % 2 ^ 36 ∧ t.dev = s.dev ∧
    coresKept s t core = true) ∧
  (∀ (s : State) (core : Fin 8) (cond : Fin 16) (rest : BitVec 22) (a : Nat) (w : Word),
    coreReady s core (instrWord cond 36 (BitVec.ofNat 4 3 ++ rest)) { legal := rest == 0 } = true →
    (s.core core).gr 12 ≠ 0 → a = ((s.core core).xn 6).toNat → loadGives s core a = some w → w ≠ (s.core core).gr 13 →
    Runs (.scan core cond rest) s fun t => (t.core core = (if (s.core core).gr 12 = 1 then ({ ((s.core core).stringStep 6) with sw := swPut (s.core core).sw swZ false }.setG 12 0).advance 1 else ((s.core core).stringStep 6).setG 12 ((s.core core).gr 12 - 1))) ∧
    t.mem = s.mem ∧ t.dev = s.dev ∧ coresKept s t core = true) ∧
  (∀ (s : State) (core : Fin 8) (cond : Fin 16) (rest : BitVec 22) (a : Nat),
    coreReady s core (instrWord cond 36 (BitVec.ofNat 4 3 ++ rest)) { legal := rest == 0 } = true →
    (s.core core).gr 12 ≠ 0 → a = ((s.core core).xn 6).toNat → loadBus s core a = true →
    handlerFree (s.core core) = true →
    Runs (.scan core cond rest) s fun t => t.core core = handlerCore (s.core core) 2 (s.core core).pc (BitVec.ofNat 36
      a) ∧ t.mem = s.mem ∧ coresKept s t core = true) ∧
  (∀ (s : State) (core : Fin 8) (cond : Fin 16) (rest : BitVec 22) (a : Nat),
    coreReady s core (instrWord cond 36 (BitVec.ofNat 4 3 ++ rest)) { legal := rest == 0 } = true →
    (s.core core).gr 12 ≠ 0 → a = ((s.core core).xn 6).toNat → loadWaits s core a = true →
    Runs (.scan core cond rest) s fun t => t.core core = { (s.core core) with wait := .remote a } ∧
    coresKept s t core = true ∧
    (s.spine.requests.any (fun q => q.master == core.val && q.ea == a && !q.store) = true →
    t = { s with cores := t.cores }) ∧
    (s.spine.requests.any (fun q => q.master == core.val && q.ea == a && !q.store) = false →
    t.spine.requests = s.spine.requests ++ [windowRequest s core a false 0 0]) ∧
    t = { s with cores := t.cores, spine := t.spine })

/-- The imposer (R267 to R279); what an improvement search proposes is an operand (log 17). -/
def Obligations.PlacementChanges : Prop :=
  (∀ (s : State) (tr : Fin 16) (mv : List (Nat × Nat × Nat)) (rb : BitVec 8) (c : FolioContent), s.dev = .run →
    s.content = some c → s.primary = true → inGap s = true → s.flag R.SYS_STATE_DEFER = false → s.power.pfStep = 0 →
    s.cycle.stopping = false → s.flag R.IMP_XCFG_FREEZE = true → Runs (.imposerSearch tr ⟨mv,
    rb⟩) s fun t => t.flag R.IMP_STAT_FROZEN = true ∧ t.imposer.prepared = s.imposer.prepared ∧
    t.imposer.boundary = s.imposer.boundary + 1 ∧ (s.imposer.arrivals = [] →
    sheetPlaces t.imposer.sheet = sheetPlaces s.imposer.sheet ∧ t.mem = s.mem) ∧ (s.imposer.lossNew = true →
    t.flag R.IMP_EVT_LOSS = true ∧ t.flag R.IMP_EVT_FROZENLOSS = true) ∧ t.cores = s.cores ∧ t.dev = s.dev) ∧
  (∀ (s : State) (tr : Fin 16) (mv : List (Nat × Nat × Nat)) (rb : BitVec 8) (c : FolioContent) (u : State) (new :
      List SheetEntry), s.dev = .run → s.content = some c → s.primary = true → inGap s = true →
    s.flag R.SYS_STATE_DEFER = false → s.power.pfStep = 0 → s.cycle.stopping = false →
    s.flag R.IMP_XCFG_FREEZE = false → u = searchState s c → u.imposer.lossDue = false → pendingPins u = [] →
    (tr = 2 ∨ tr = 3 ∨ tr = 4) → u.imposer.prepared = none → u.olc.staged = none → mv ≠ [] →
    moveAll u c tr mv u.imposer.sheet = some new → mv.all (holdMet u ·) = true →
    gainEnough (u.draw.2.draw.2.set R.IMP_STAT_TRIG tr) c new tr (u.draw.1, u.draw.2.draw.1) = true →
    timingFits u c new (u.get R.IMP_XCFG_MARGIN) = true → Runs (.imposerSearch tr ⟨mv,
    rb⟩) s fun t => t.imposer.prepared = some ⟨mv, tr, 0⟩ ∧ t.imposer.sheet = u.imposer.sheet ∧
    t.flag R.IMP_STAT_WAIT = true ∧ t.get R.IMP_STAT_TRIG = tr ∧ t.mem = u.mem ∧ t.cores = s.cores) ∧
  (∀ (s : State) (tr : Fin 16) (mv : List (Nat × Nat × Nat)) (rb : BitVec 8) (c : FolioContent) (u : State),
    s.dev = .run → s.content = some c → s.primary = true → inGap s = true → s.flag R.SYS_STATE_DEFER = false →
    s.power.pfStep = 0 → s.cycle.stopping = false → s.flag R.IMP_XCFG_FREEZE = false → u = searchState s c →
    u.imposer.lossDue = false → pendingPins u = [] → (tr = 2 ∨ tr = 3 ∨ tr = 4) → u.imposer.prepared = none →
    u.olc.staged = none → moveAll u c tr mv u.imposer.sheet = none → Runs (.imposerSearch tr ⟨mv,
    rb⟩) s fun t => t.imposer.prepared = none ∧ t.imposer.sheet = u.imposer.sheet ∧ t.get R.IMP_STAT_LAST = 2 ∧
    t.mem = u.mem ∧ t.cores = s.cores) ∧
  (∀ (s : State) (tr : Fin 16) (mv : List (Nat × Nat × Nat)) (rb : BitVec 8) (c : FolioContent) (u : State),
    s.dev = .run → s.content = some c → s.primary = true → inGap s = true → s.flag R.SYS_STATE_DEFER = false →
    s.power.pfStep = 0 → s.cycle.stopping = false → s.flag R.IMP_XCFG_FREEZE = false → u = searchState s c →
    u.imposer.lossDue = true → (lossFound u c).2.1 = [] → (lossFound u c).2.2 = true → Runs (.imposerSearch tr ⟨mv,
    rb⟩) s fun t => t.imposer.prepared = none ∧ t.imposer.lossDue = true ∧ t.imposer.sheet = u.imposer.sheet ∧
    t.flag R.IMP_EVT_NOFIT = true ∧ t.get R.IMP_STAT_TRIG = 1 ∧ t.get R.IMP_STAT_LAST = 2) ∧
  (∀ (s : State) (tr : Fin 16) (mv : List (Nat × Nat × Nat)) (rb : BitVec 8) (c : FolioContent) (u : State) (i : Nat)
      (e : SheetEntry), s.dev = .run → s.content = some c → s.primary = true → inGap s = true →
    s.flag R.SYS_STATE_DEFER = false → s.power.pfStep = 0 → s.cycle.stopping = false →
    s.flag R.IMP_XCFG_FREEZE = false → u = searchState s c → u.imposer.lossDue = false → pendingPins u = [i] →
    u.imposer.sheet[i]? = some e → e.key = devCode (u.get (R.IMP_XPIN_DEV i)) * 16 + u.get (R.IMP_XPIN_PLACE i) →
    i < 2048 → Runs (.imposerSearch tr ⟨mv, rb⟩) s fun t => t.get (R.IMP_XPIN_STATE i) = 2 ∧
    (t.imposer.sheet[i]?).any (·.pin) = true ∧ sheetPlaces t.imposer.sheet = sheetPlaces u.imposer.sheet ∧
    t.mem = u.mem) ∧
  (∀ (s : State) (tr : Fin 16) (mv : List (Nat × Nat × Nat)) (rb : BitVec 8) (c : FolioContent) (i : Nat) (u : State),
    s.dev = .run → s.content = some c → s.primary = true → inGap s = true → s.flag R.SYS_STATE_DEFER = false →
    s.power.pfStep = 0 → s.cycle.stopping = false → s.flag R.IMP_XCFG_FREEZE = false → u = searchState s c →
    u.imposer.lossDue = false → pendingPins u = [i] → u.imposer.sheet[i]? = none → i < 2048 →
    Runs (.imposerSearch tr ⟨mv, rb⟩) s fun t => t.get (R.IMP_XPIN_STATE i) = 3 ∧ t.flag R.IMP_EVT_PINREF = true ∧
    t.imposer.sheet = u.imposer.sheet ∧ t.mem = u.mem) ∧
  (∀ (s : State) (rb : BitVec 8) (c : FolioContent) (pr : Prepared) (new : List SheetEntry), s.dev = .run →
    s.content = some c → s.primary = true → inGap s = true → s.flag R.SYS_STATE_DEFER = false → s.power.pfStep = 0 →
    s.cycle.stopping = false → s.imposer.prepared = some pr → s.flag R.IMP_XCFG_FREEZE = false → olcHere s = false →
    moveAll s c pr.trig pr.moves s.imposer.sheet = some new → pr.trig ≠ 6 →
    (pr.moves.any (fun x => (s.imposer.sheet[x.1]?).any (entryBusy s c)) = false) → moveQuires s c new = [] →
    (timingFits s c new (if pr.trig = 1 ∨ pr.trig = 6 then 0 else s.get R.IMP_XCFG_MARGIN) = true) →
    Runs (.placementSwitch ⟨true, rb⟩) s fun t => t.imposer.sheet = new ∧ t.imposer.prepared = none ∧
    t.get R.IMP_SGEN_GEN = (s.get R.IMP_SGEN_GEN + 1) % 2 ^ 36 ∧
    t.get R.IMP_MOVES_COUNT = (s.get R.IMP_MOVES_COUNT + 1) % 2 ^ 36 ∧ t.flag R.IMP_EVT_MOVED = true ∧
    t.flag R.IMP_STAT_WAIT = false ∧ t.get R.IMP_STAT_LAST = 1 ∧ t.get R.IMP_STAT_TRIG = pr.trig % 16 ∧
    t.cores = s.cores ∧ (s.olc.next = none →
    t = { s with regs := t.regs, imposer := t.imposer, mem := t.mem, poison := t.poison, spine := t.spine, fabric := t.fabric })) ∧
  (∀ (s : State) (rb : BitVec 8) (c : FolioContent) (pr : Prepared) (new : List SheetEntry), s.dev = .run →
    s.content = some c → s.primary = true → inGap s = true → s.flag R.SYS_STATE_DEFER = false → s.power.pfStep = 0 →
    s.cycle.stopping = false → s.imposer.prepared = some pr → s.flag R.IMP_XCFG_FREEZE = false → olcHere s = false →
    moveAll s c pr.trig pr.moves s.imposer.sheet = some new → (timingFits s c new (if pr.trig = 1 ∨
    pr.trig = 6 then 0 else s.get R.IMP_XCFG_MARGIN) = true) → (¬(2 ≤ pr.trig ∧ pr.trig ≤ 4 ∧ 7 ≤ pr.failed)) →
    Runs (.placementSwitch ⟨false, rb⟩) s fun t => t.imposer.prepared = some { pr with failed := pr.failed + 1 } ∧
    t.imposer.sheet = s.imposer.sheet ∧ t.get R.IMP_STAT_LAST = 3 ∧ t.mem = s.mem ∧ t.cores = s.cores) ∧
  (∀ (s : State) (rb : BitVec 8) (c : FolioContent) (pr : Prepared) (new : List SheetEntry), s.dev = .run →
    s.content = some c → s.primary = true → inGap s = true → s.flag R.SYS_STATE_DEFER = false → s.power.pfStep = 0 →
    s.cycle.stopping = false → s.imposer.prepared = some pr → s.flag R.IMP_XCFG_FREEZE = false → olcHere s = false →
    moveAll s c pr.trig pr.moves s.imposer.sheet = some new → (timingFits s c new (if pr.trig = 1 ∨
    pr.trig = 6 then 0 else s.get R.IMP_XCFG_MARGIN) = true) → 2 ≤ pr.trig → pr.trig ≤ 4 → 7 ≤ pr.failed →
    Runs (.placementSwitch ⟨false, rb⟩) s fun t => t.imposer = { s.imposer with prepared := none } ∧
    t.flag R.IMP_EVT_ABANDON = true ∧ t.get R.IMP_STAT_LAST = 4 ∧ t = { s with regs := t.regs, imposer := t.imposer }) ∧
  (∀ (s : State) (f : Bool) (rb : BitVec 8) (c : FolioContent) (pr : Prepared) (new : List SheetEntry), s.dev = .run →
    s.content = some c → s.primary = true → inGap s = true → s.flag R.SYS_STATE_DEFER = false → s.power.pfStep = 0 →
    s.cycle.stopping = false → s.imposer.prepared = some pr → s.flag R.IMP_XCFG_FREEZE = false → olcHere s = false →
    moveAll s c pr.trig pr.moves s.imposer.sheet = some new → (timingFits s c new (if pr.trig = 1 ∨
    pr.trig = 6 then 0 else s.get R.IMP_XCFG_MARGIN) = false) → Runs (.placementSwitch ⟨f,
    rb⟩) s fun t => t.imposer.prepared = none ∧ t.imposer.sheet = s.imposer.sheet ∧
    t.imposer.lossDue = (s.imposer.lossDue || pr.trig == 1) ∧ t.get R.IMP_STAT_LAST = 2 ∧
    t = { s with regs := t.regs, imposer := t.imposer }) ∧
  (∀ (s : State) (e : Fin 2048) (v : Word), s.powered = true → expertOpen s 9 = true →
    Runs (.imposerPinWrite e v) s fun t => t.get (R.IMP_XPIN_PIN e) = bitsOf v 33 1 ∧
    (t.get (R.IMP_XPIN_DEV e) = (if s.isWorker || s.standalone then 0 else bitsOf v 24 6)) ∧
    t.get (R.IMP_XPIN_PLACE e) = bitsOf v 20 4 ∧ t.get (R.IMP_XPIN_STATE e) = bitsOf v 33 1 ∧
    t = { s with regs := t.regs } ∧ (∀ a, a ≠ (R.IMP_XPIN_PIN e).addr → t.reg a = s.reg a)) ∧
  (∀ (s : State) (e : Fin 2048) (v : Word), s.powered = true → expertOpen s 9 = false →
    Runs (.imposerPinWrite e v) s fun t => t = s.raise R.SYS_XOPEN_XIGN)

/-- The force table (R306 to R308, R313). -/
def Obligations.ForceCommands : Prop :=
  (∀ (s : State) (p : Port) (fc : FolioContent) (ty : Scalar) (pt : Point) (e : Nat), s.powered = true →
    s.get (R.FRC_PCMD_STATUS p) ≠ 1 → s.getBit R.FRC_PERM_PERM p = true → s.folio.content = some fc →
    forceRefusal s false = none → forceAtOnce s = false →
    (forceTarget s fc (s.get (R.FRC_PSYM_SYM p)) (s.get (R.FRC_PSYM_ELEM p))).toOption = some (ty, pt) →
    forceInRange ty (s.reg (R.FRC_PVAL_VALUE p).addr) = true →
    (s.forces.find? (fun f => f.word == pt.word && f.num == pt.num) = none) → forceFree s = some e →
    Runs (.forceSet p) s fun t => t.forces = s.forces ++ [⟨e, s.get (R.FRC_PSYM_SYM p), s.get (R.FRC_PSYM_ELEM p),
    s.reg (R.FRC_PVAL_VALUE p).addr, pt.word, pt.num, pt.cls, pt.out, ty.forceCode.getD 0, false, false, false, none,
    s.qual pt.word false pt.num⟩] ∧ t.get (R.FRC_PCMD_STATUS p) = 1 ∧ t.get (R.FRC_PENT_ENTRY p) = e % 2 ^ 10 ∧
    t.forceCmds = s.forceCmds ++ [⟨p, [pt.cls]⟩] ∧
    t = { s with power := t.power, regs := t.regs, forces := t.forces, forceCmds := t.forceCmds } ∧ (∀ a,
    a ≠ (R.FRC_PCMD_STATUS p).addr → a ≠ (R.FRC_PENT_ENTRY p).addr → a ≠ (R.FRC_PERR_CODE p).addr →
    t.reg a = s.reg a)) ∧
  (∀ (s : State) (p : Port) (fc : FolioContent) (ty : Scalar) (pt : Point), s.powered = true →
    s.get (R.FRC_PCMD_STATUS p) ≠ 1 → s.getBit R.FRC_PERM_PERM p = true → s.folio.content = some fc →
    forceRefusal s false = none → s.dev = .stop →
    (forceTarget s fc (s.get (R.FRC_PSYM_SYM p)) (s.get (R.FRC_PSYM_ELEM p))).toOption = some (ty, pt) →
    forceInRange ty (s.reg (R.FRC_PVAL_VALUE p).addr) = true → s.forces = [] → s.forceCmds = [] →
    Runs (.forceSet p) s fun t => t.get (R.FRC_PCMD_STATUS p) = 2 ∧
    t.forces = [{ (⟨0, s.get (R.FRC_PSYM_SYM p), s.get (R.FRC_PSYM_ELEM p), s.reg (R.FRC_PVAL_VALUE p).addr, pt.word, pt.num, pt.cls, pt.out, ty.forceCode.getD 0, false, false, false, none, s.qual pt.word false pt.num⟩ : Force) with applied := true, live := false }] ∧
    t.get R.FRC_STAT_COUNT = 1 ∧ t.get R.FRC_GEN_GEN = (s.get R.FRC_GEN_GEN + 1) % 2 ^ 36 ∧
    t.flag R.FRC_EVT_CHANGE = true ∧ t.forceCmds = [] ∧
    t = { s with power := t.power, regs := t.regs, forces := t.forces, forceCmds := t.forceCmds, keeper := t.keeper }) ∧
  (∀ (s : State) (p : Port) (fc : FolioContent) (ty : Scalar) (pt : Point), s.powered = true →
    s.get (R.FRC_PCMD_STATUS p) ≠ 1 → s.getBit R.FRC_PERM_PERM p = true → s.folio.content = some fc →
    forceRefusal s false = none →
    (forceTarget s fc (s.get (R.FRC_PSYM_SYM p)) (s.get (R.FRC_PSYM_ELEM p))).toOption = some (ty, pt) →
    forceInRange ty (s.reg (R.FRC_PVAL_VALUE p).addr) = false →
    Runs (.forceSet p) s fun t => t.get (R.FRC_PCMD_STATUS p) = 5 ∧ t.get (R.FRC_PERR_CODE p) = 7 ∧
    t.forces = s.forces ∧ t.flag R.FRC_EVT_REFUSE = true ∧ t = { s with power := t.power, regs := t.regs }) ∧
  (∀ (s : State) (p : Port) (fc : FolioContent) (ty : Scalar) (pt : Point) (f : Force), s.powered = true →
    s.get (R.FRC_PCMD_STATUS p) ≠ 1 → s.getBit R.FRC_PERM_PERM p = true → s.folio.content = some fc →
    forceRefusal s false = none → forceAtOnce s = false →
    (forceTarget s fc (s.get (R.FRC_PSYM_SYM p)) (s.get (R.FRC_PSYM_ELEM p))).toOption = some (ty, pt) →
    forceInRange ty (s.reg (R.FRC_PVAL_VALUE p).addr) = true → s.forces = [f] → f.word = pt.word → f.num = pt.num →
    Runs (.forceSet p) s fun t => t.forces = [{ f with sym := s.get (R.FRC_PSYM_SYM p), elem := s.get (R.FRC_PSYM_ELEM p), next := some (s.reg (R.FRC_PVAL_VALUE p).addr), ending := false }] ∧
    t.get (R.FRC_PCMD_STATUS p) = 1 ∧ t.get (R.FRC_PENT_ENTRY p) = f.entry % 2 ^ 10 ∧
    t.forceCmds = s.forceCmds ++ [⟨p, [pt.cls]⟩] ∧
    t = { s with power := t.power, regs := t.regs, forces := t.forces, forceCmds := t.forceCmds }) ∧
  (∀ (s : State) (p : Port) (fc : FolioContent), s.powered = true → s.get (R.FRC_PCMD_STATUS p) ≠ 1 →
    s.getBit R.FRC_PERM_PERM p = true → s.folio.content = some fc → forceRefusal s false = none →
    (forceTarget s fc (s.get (R.FRC_PSYM_SYM p)) (s.get (R.FRC_PSYM_ELEM p))).toOption = none →
    Runs (.forceSet p) s fun t => t.get (R.FRC_PCMD_STATUS p) = 5 ∧ t.get (R.FRC_PERR_CODE p) ≠ 0 ∧
    t.forces = s.forces ∧ t.forceCmds = s.forceCmds ∧ t.flag R.FRC_EVT_REFUSE = true ∧
    t = { s with power := t.power, regs := t.regs }) ∧
  (∀ (s : State) (p : Port) (fc : FolioContent) (ty : Scalar) (pt : Point), s.powered = true →
    s.get (R.FRC_PCMD_STATUS p) ≠ 1 → s.getBit R.FRC_PERM_PERM p = true → s.folio.content = some fc →
    forceRefusal s false = none → forceAtOnce s = false →
    (forceTarget s fc (s.get (R.FRC_PSYM_SYM p)) (s.get (R.FRC_PSYM_ELEM p))).toOption = some (ty, pt) →
    (s.forces.any (fun f => f.word == pt.word && f.num == pt.num) = true) →
    Runs (.forceClear p) s fun t => (t.forces = s.forces.map (fun f => if f.word == pt.word && f.num == pt.num then { f with ending := true } else f)) ∧
    t.get (R.FRC_PCMD_STATUS p) = 1 ∧ t.forceCmds = s.forceCmds ++ [⟨p, [pt.cls]⟩] ∧
    t = { s with power := t.power, regs := t.regs, forces := t.forces, forceCmds := t.forceCmds } ∧ (∀ a,
    a ≠ (R.FRC_PCMD_STATUS p).addr → a ≠ (R.FRC_PERR_CODE p).addr → t.reg a = s.reg a)) ∧
  (∀ (s : State) (p : Port) (fc : FolioContent), s.powered = true → s.get (R.FRC_PCMD_STATUS p) ≠ 1 →
    s.getBit R.FRC_PERM_PERM p = true → s.folio.content = some fc → forceRefusal s false = none → s.dev = .stop →
    s.forceCmds = [] → Runs (.forceClearall p) s fun t => t.get (R.FRC_PCMD_STATUS p) = 2 ∧ t.forces = [] ∧
    t.get R.FRC_STAT_COUNT = 0 ∧ t.forceCmds = [] ∧
    t = { s with power := t.power, regs := t.regs, forces := t.forces, forceCmds := t.forceCmds, keeper := t.keeper }) ∧
  (∀ (s : State) (p : Port) (fc : FolioContent), s.powered = true → s.get (R.FRC_PCMD_STATUS p) ≠ 1 →
    s.getBit R.FRC_PERM_PERM p = true → s.folio.content = some fc → forceRefusal s false = none →
    forceAtOnce s = false → s.forces.isEmpty = false →
    Runs (.forceClearall p) s fun t => (t.forces = s.forces.map (fun f => { f with ending := true })) ∧
    t.get (R.FRC_PCMD_STATUS p) = 1 ∧ t.forceCmds = s.forceCmds ++ [⟨p, (s.forces.map (·.cls)).eraseDups⟩] ∧
    t = { s with power := t.power, regs := t.regs, forces := t.forces, forceCmds := t.forceCmds }) ∧
  (∀ (s : State) (p : Port) (fc : FolioContent) (f : Force), s.powered = true → s.get (R.FRC_PCMD_STATUS p) ≠ 1 →
    s.getBit R.FRC_PERM_PERM p = true → s.folio.content = some fc → forceRefusal s true = none →
    (s.forces.find? (fun f => f.applied && f.entry == s.get (R.FRC_PENT_ENTRY p)) = some f) →
    Runs (.forceRead p) s fun t => t.get (R.FRC_PCMD_STATUS p) = 2 ∧ t.flag (R.FRC_PINFO_VALID p) = true ∧
    t.reg (R.FRC_PVAL_VALUE p).addr = f.value ∧ t.get (R.FRC_PINFO_SRCQ p) = f.srcq % 4 ∧
    t.flag (R.FRC_PINFO_DIR p) = f.out ∧ t.forces = s.forces ∧ t = { s with power := t.power, regs := t.regs }) ∧
  (∀ (s : State) (p : Port) (fc : FolioContent), s.powered = true → s.get (R.FRC_PCMD_STATUS p) ≠ 1 →
    s.getBit R.FRC_PERM_PERM p = true → s.folio.content = some fc → forceRefusal s true = none →
    (s.forces.find? (fun f => f.applied && f.entry == s.get (R.FRC_PENT_ENTRY p)) = none) →
    Runs (.forceRead p) s fun t => t.get (R.FRC_PCMD_STATUS p) = 2 ∧ t.reg (R.FRC_PINFO_VALID p).addr = 0 ∧
    t.forces = s.forces ∧ t = { s with power := t.power, regs := t.regs }) ∧
  (∀ (s : State) (p : Port), s.powered = true → s.get (R.FRC_PCMD_STATUS p) ≠ 1 → forceRefusal s false = none →
    s.getBit R.FRC_PERM_PERM p = false → Runs (.forceClear p) s fun t => t.get (R.FRC_PCMD_STATUS p) = 5 ∧
    t.get (R.FRC_PERR_CODE p) = 6 ∧ t.forces = s.forces ∧ t.flag R.FRC_EVT_REFUSE = true ∧
    t = { s with power := t.power, regs := t.regs })

/-- Staging (R282 to R285). -/
def Obligations.OnlineChangeStages : Prop :=
  (∀ (s : State) (m : Fin 18) (img : FolioImage) (a : FolioContent) (sh : List SheetEntry), (s.dev = .run ∨
    s.dev = .stop ∨ s.dev = .halt) → s.get R.OLC_CMD_STATUS ≠ 1 → s.power.pfStep = 0 → olcState s = 0 →
    s.flag R.PCI_STAT_BME = true → s.content = some a →
    verify ((((s.set R.OLC_CMD_CODE 1).set R.OLC_STAT_TWCAUSE 0).set R.OLC_STAT_TWINRDY 0).set R.OLC_STAT_CAUSE 0) img
      [2] fitsStaged = none →
    placeStaged ((((s.set R.OLC_CMD_CODE 1).set R.OLC_STAT_TWCAUSE 0).set R.OLC_STAT_TWINRDY 0).set R.OLC_STAT_CAUSE
      0) a (combine a (img.program ((((s.set R.OLC_CMD_CODE 1).set R.OLC_STAT_TWCAUSE 0).set R.OLC_STAT_TWINRDY 0).set
      R.OLC_STAT_CAUSE 0)) (gatherings img.words)) = some sh →
    Runs (.olcStage m (some img)) s fun t => t.get R.OLC_STAT_STATE = 1 ∧ t.get R.OLC_STAT_CAUSE = 0 ∧
    t.get R.OLC_CMD_STATUS = 1 ∧ t.olc.staged = some img ∧
    t.olc.next = some (combine a (img.program ((((s.set R.OLC_CMD_CODE 1).set R.OLC_STAT_TWCAUSE 0).set
      R.OLC_STAT_TWINRDY 0).set R.OLC_STAT_CAUSE 0)) (gatherings img.words)) ∧ t.olc.sheet = sh ∧ t.folio = s.folio ∧
    t.imposer.sheet = s.imposer.sheet ∧ t.dev = s.dev ∧
    t = { s with regs := t.regs, olc := t.olc, mem := t.mem, poison := t.poison, fabric := t.fabric, imposer := t.imposer, twin := t.twin, power := t.power }) ∧
  (∀ (s : State) (m : Fin 18) (img : FolioImage) (a : FolioContent) (cause pos : Nat), (s.dev = .run ∨ s.dev = .stop ∨
    s.dev = .halt) → s.get R.OLC_CMD_STATUS ≠ 1 → s.power.pfStep = 0 → olcState s = 0 → s.flag R.PCI_STAT_BME = true →
    s.content = some a →
    verify ((((s.set R.OLC_CMD_CODE 1).set R.OLC_STAT_TWCAUSE 0).set R.OLC_STAT_TWINRDY 0).set R.OLC_STAT_CAUSE 0) img
      [2] fitsStaged = some (cause, pos) → cause < 32 →
    Runs (.olcStage m (some img)) s fun t => t.get R.OLC_STAT_STATE = 0 ∧ t.get R.OLC_STAT_CAUSE = cause ∧
    t.get R.OLC_CMD_STATUS = 6 ∧ t.olc.staged = none ∧ t.olc.next = none ∧ t.folio = s.folio ∧ t.mem = s.mem ∧
    t = { s with regs := t.regs, olc := t.olc, fabric := t.fabric, records := t.records, power := t.power }) ∧
  (∀ (s : State) (m : Fin 18), (s.dev = .run ∨ s.dev = .stop ∨ s.dev = .halt) → s.get R.OLC_CMD_STATUS ≠ 1 →
    s.power.pfStep = 0 → s.acting = true → s.get R.OLC_SRC_NODE ≠ 0 →
    s.flag (R.SPN_NODE_PRESENT (olcTarget s)) = true → s.get (R.SPN_NODE_STATE (olcTarget s)) = 4 →
    s.flag R.PCI_STAT_BME = true → Runs (.olcForward m) s fun t => t.olc.forward = some (olcTarget s) ∧
    t.get R.OLC_CMD_STATUS = 1 ∧ t.get R.OLC_STAT_STATE = s.get R.OLC_STAT_STATE ∧ t.spine.sent.head? = some (⟨9, 8,
    s.now % 2 ^ 36, []⟩ : SentFrame) ∧
    t = { s with regs := t.regs, olc := t.olc, spine := t.spine, power := t.power } ∧ (∀ a,
    a ≠ R.OLC_CMD_STATUS.addr → t.reg a = s.reg a)) ∧
  (∀ (s : State) (a b : FolioContent), s.powered = true → olcState s = 1 → s.content = some a → s.olc.next = some b →
    Runs (.stagingDone) s fun t => t.get R.OLC_STAT_STATE = 2 ∧
    (t.get R.OLC_CMD_STATUS = (if s.get R.OLC_CMD_STATUS = 1 then 2 else s.get R.OLC_CMD_STATUS)) ∧
    (((List.range 8).map fun i => BitVec.ofNat 36 (t.get (R.OLC_DIGEST_DIGEST i))) = (List.range 8).map fun i =>
      BitVec.ofNat 36 (((b.mapDigests.elim [] Prod.snd).getD i 0).toNat % 2 ^ 32)) ∧ t.folio = s.folio ∧
    t.mem = s.mem ∧ t.olc = s.olc ∧ t = { s with regs := t.regs, twin := t.twin, free := t.free }) ∧
  (∀ (s : State) (a b : FolioContent) (i j u v o q : Nat) (x y : Symbol), s.powered = true → (olcState s = 2 ∨
    olcState s = 3) → s.content = some a → s.olc.next = some b → mapPairs b = [(i, 1, j)] → b.symbols[i]? = some y →
    a.symbols[j]? = some x → y.home = .seg u o → x.home = .seg v q →
    (segBase b s.olc.sheet u + o + symbolWords y ≤ segBase a s.imposer.sheet v + q ∨
    segBase a s.imposer.sheet v + q + symbolWords y ≤ segBase b s.olc.sheet u + o) →
    Runs (.backgroundCopy) s fun t => t.words (segBase b s.olc.sheet u + o) (symbolWords y) = s.words (segBase a
      s.imposer.sheet v + q) (symbolWords y) ∧ t.olc = { s.olc with dirty := [] } ∧ (∀ x,
    x < segBase b s.olc.sheet u + o ∨ segBase b s.olc.sheet u + o + symbolWords y ≤ x → t.word x = s.word x) ∧
    t = { s with mem := t.mem, poison := t.poison, olc := t.olc }) ∧
  (∀ (s : State) (m : Fin 18), s.powered = true → s.dev ≠ .standby → s.get R.OLC_CMD_STATUS ≠ 1 → s.power.pfStep = 0 →
    (olcState s = 2 ∨ olcState s = 3) → Runs (.olcDiscard m) s fun t => t.get R.OLC_STAT_STATE = 0 ∧
    t.get R.OLC_CMD_STATUS = 2 ∧ t.olc.staged = none ∧ t.olc.next = none ∧ t.olc.old = s.olc.old ∧ t.folio = s.folio ∧
    t.mem = s.mem ∧ t = { s with regs := t.regs, olc := t.olc, fabric := t.fabric, twin := t.twin, power := t.power }) ∧
  (∀ (s : State) (m : Fin 18) (img : Option FolioImage), s.powered = true → s.dev ≠ .standby →
    s.get R.OLC_CMD_STATUS ≠ 1 → s.power.pfStep = 0 → (olcState s ≠ 0 ∨ (s.dev ≠ .run ∧ s.dev ≠ .stop ∧
    s.dev ≠ .halt)) → Runs (.olcStage m img) s fun t => t.get R.OLC_CMD_STATUS = 3 ∧ t.olc = s.olc ∧ t.mem = s.mem ∧
    t = { s with regs := t.regs, power := t.power } ∧ (∀ a, a ≠ R.OLC_CMD_STATUS.addr → t.reg a = s.reg a))

/-- The switch, its confirmation and its undo (R286 to R299); online change of a pair (R301). -/
def Obligations.OnlineChangeSwitches : Prop :=
  (∀ (s : State) (m : Fin 18) (b : Bool), (s.dev = .run ∨ s.dev = .halt) → s.get R.OLC_CMD_STATUS ≠ 1 →
    s.power.pfStep = 0 → olcState s = 2 → hasStandby s = false → (b = false ∨
    ((s.now / 31250 + (s.get R.OLC_SWAT_AT + 2 ^ 36 - s.now / 31250 % 2 ^ 36) % 2 ^ 36) % max 1 (s.get R.CYC_MAJOR_M)
      = 0 ∧
    s.now + s.get R.OLC_XCFG_LEAD * 10000 ≤ (s.now / 31250 + (s.get R.OLC_SWAT_AT + 2 ^ 36 - s.now / 31250 % 2 ^ 36) %
      2 ^ 36) * 31250)) → Runs (.olcArm m b) s fun t => t.get R.OLC_STAT_STATE = 3 ∧ t.get R.OLC_STAT_TRIES = 0 ∧
    t.get R.OLC_STAT_CAUSE = 0 ∧ t.get R.OLC_CMD_STATUS = 1 ∧
    (t.olc = { s.olc with armAt := if b then some (s.get R.OLC_SWAT_AT) else none, acked := none }) ∧
    t.folio = s.folio ∧ t = { s with regs := t.regs, olc := t.olc, twin := t.twin, power := t.power }) ∧
  (∀ (s : State) (m : Fin 18) (b : Bool) (a n : FolioContent), s.dev = .stop → s.get R.OLC_CMD_STATUS ≠ 1 →
    s.power.pfStep = 0 → olcState s = 2 → hasStandby s = false → s.content = some a → s.olc.next = some n →
    switchPlanes s a n (sheetFor s a n s.olc.sheet) = true → Runs (.olcArm m b) s fun t => t.folio.content = some n ∧
    t.olc.old.map (·.content) = some a ∧ t.get R.OLC_STAT_STATE = 5 ∧ t.get R.OLC_CMD_STATUS = 2 ∧
    t.get R.OLC_COUNT_SWITCHES = (s.get R.OLC_COUNT_SWITCHES + 1) % 2 ^ 18 ∧ t.dev = .stop) ∧
  (∀ (s : State) (a b : FolioContent), s.content = some a → s.olc.next = some b → olcState s = 3 → s.dev = .run →
    inGap s = true → s.power.pfStep < 3 → s.flag R.SYS_STATE_DEFER = false →
    (s.olc.armAt.all (fun x => x == nextMajor s % 2 ^ 36) = true) →
    switchAllowed s a b (sheetFor s a b s.olc.sheet) .switch (switchTime s b (stagedClasses s) (dirtyCarried s a b)) =
      true → Runs (.olcSwitch) s fun t => t.folio.content = some b ∧ t.olc.old.map (·.content) = some a ∧
    t.olc.old.map (·.sheet) = some s.imposer.sheet ∧ t.get R.OLC_STAT_STATE = 5 ∧
    t.get R.OLC_LAST_AT = nextMajor s % 2 ^ 36 ∧
    t.get R.OLC_COUNT_SWITCHES = (s.get R.OLC_COUNT_SWITCHES + 1) % 2 ^ 18 ∧ t.dev = .run ∧ (stagedClasses s = [] →
    t.time = s.time)) ∧
  (∀ (s : State) (a b : FolioContent), s.content = some a → s.olc.next = some b → olcState s = 3 → s.dev = .run →
    inGap s = true → s.power.pfStep < 3 → s.flag R.SYS_STATE_DEFER = false → s.olc.armAt = none →
    switchAllowed s a b (sheetFor s a b s.olc.sheet) .switch (switchTime s b (stagedClasses s) (dirtyCarried s a b)) =
      false → s.get R.OLC_STAT_TRIES + 1 < s.get R.OLC_XCFG_TRIES →
    Runs (.olcSwitch) s fun t => t.get R.OLC_STAT_TRIES = s.get R.OLC_STAT_TRIES + 1 ∧ t.get R.OLC_STAT_STATE = 3 ∧
    t.folio = s.folio ∧ t.olc = { s.olc with acked := none } ∧ t = { s with regs := t.regs, olc := t.olc } ∧ (∀ a,
    a ≠ R.OLC_STAT_TRIES.addr → t.reg a = s.reg a)) ∧
  (∀ (s : State) (m : Fin 18), (s.dev = .run ∨ s.dev = .halt) → s.get R.OLC_CMD_STATUS ≠ 1 → s.power.pfStep = 0 →
    olcState s = 5 → Runs (.olcConfirm m) s fun t => t.get R.OLC_CMD_STATUS = 1 ∧
    t.olc = { s.olc with confirmDue := true } ∧ t = { s with regs := t.regs, olc := t.olc, power := t.power } ∧ (∀ a,
    a ≠ R.OLC_CMD_STATUS.addr → t.reg a = s.reg a)) ∧
  (∀ (s : State) (m : Fin 18) (b : FolioContent), (s.dev = .stop ∨ s.dev = .safe) → s.get R.OLC_CMD_STATUS ≠ 1 →
    s.power.pfStep = 0 → olcState s = 5 → s.content = some b →
    Runs (.olcConfirm m) s fun t => t.get R.OLC_CMD_STATUS = 2 ∧ t.get R.OLC_STAT_STATE = 0 ∧ t.olc.old = none ∧
    t.olc.staged = none ∧ t.folio.content = some b ∧ t.flag R.FOL_STAT_DIVERGED = true ∧ t.dev = s.dev) ∧
  (∀ (s : State) (b : FolioContent), olcState s = 5 → s.olc.confirmDue = true → s.dev = .run → inGap s = true →
    (hasStandby s = false ∨ s.olc.acked = some (nextMajor s, .confirm)) → s.content = some b →
    Runs (.olcConfirmApply) s fun t => t.get R.OLC_STAT_STATE = 0 ∧ t.olc.old = none ∧ t.olc.staged = none ∧
    t.olc.confirmDue = false ∧ t.folio.content = some b ∧ t.flag R.FOL_STAT_DIVERGED = true ∧
    (((List.range 8).map fun i => BitVec.ofNat 36 (t.get (R.FOL_PDIGEST_DIGEST i))) = programSha t.folio.bodies) ∧
    t.dev = .run ∧ t.imposer = s.imposer) ∧
  (∀ (s : State) (m : Fin 18), (s.dev = .run ∨ s.dev = .halt) → s.get R.OLC_CMD_STATUS ≠ 1 → s.power.pfStep = 0 →
    olcState s = 5 → s.flag R.OLC_STAT_NOUNDO = false → Runs (.olcUndo m) s fun t => t.get R.OLC_CMD_STATUS = 1 ∧
    t.olc = { s.olc with undoDue := 1 } ∧ t = { s with regs := t.regs, olc := t.olc, power := t.power } ∧ (∀ a,
    a ≠ R.OLC_CMD_STATUS.addr → t.reg a = s.reg a)) ∧
  (∀ (s : State) (b : FolioContent) (o : OldProgram), s.powered = true → s.content = some b → s.olc.old = some o →
    olcState s = 5 → s.olc.undoDue ≠ 0 → inGap s = true → s.flag R.OLC_STAT_NOUNDO = false →
    switchAllowed s b o.content (sheetFor s b o.content o.sheet) .undo (switchTime s b (stagedClasses s) (dirtyCarried
      s o.content b)) = true → Runs (.olcUndoApply) s fun t => t.folio.content = some o.content ∧ t.olc.old = none ∧
    t.olc.undoDue = 0 ∧ t.get R.OLC_STAT_STATE = 0 ∧
    t.get R.OLC_COUNT_UNDOS = (s.get R.OLC_COUNT_UNDOS + 1) % 2 ^ 18 ∧ t.dev = s.dev) ∧
  (∀ (s : State), s.powered = true → 0 < s.get R.OLC_CFG_UNDOT → olcState s = 5 → s.olc.undoDue = 0 →
    s.flag R.OLC_STAT_NOUNDO = false →
    Runs (.undotExpiry) s fun t => t = { s with olc := { s.olc with undoDue := 3 } }) ∧
  (∀ (s : State), s.powered = true → hasStandby s = true → (olcState s = 3 ∨ s.olc.confirmDue = true ∨
    s.olc.undoDue ≠ 0) → Runs (.armMessage none) s fun t => t.twin.sent.head? = some (⟨36, 8,
    nextMajor s * 31250 % 2 ^ 36, [s.reg R.OLC_STAT_STATE.addr]⟩ : SentFrame) ∧ t = { s with twin := t.twin }) ∧
  (∀ (s : State) (h : FrameHead) (act : OlcAct) (at' : Nat), s.dev = .standby → (twinAccept s 36 h).2 = true →
    Runs (.armMessage (some (h, act, at'))) s fun t => t.olc = { s.olc with acked := some (at', act) } ∧
    t.twin.sent.head? = some (⟨36, 8, at' * 31250 % 2 ^ 36, [BitVec.ofNat 36 at']⟩ : SentFrame) ∧
    t = { s with olc := t.olc, twin := t.twin }) ∧
  (∀ (s : State) (h : FrameHead) (b : Nat), s.powered = true → (twinAccept s 36 h).2 = true → hasStandby s = true →
    (olcState s = 3 ∨ s.olc.confirmDue = true ∨ s.olc.undoDue ≠ 0) →
    s.now + s.get R.OLC_XCFG_LEAD * 10000 ≤ b * 31250 →
    Runs (.armAcknowledge h b) s fun t => (t.olc = { s.olc with acked := some (b, if olcState s = 3 then .switch else if s.olc.confirmDue then .confirm else .undo) }) ∧
    t = { s with olc := t.olc, twin := t.twin }) ∧
  (∀ (s : State) (h : FrameHead) (b : Nat), s.powered = true → (twinAccept s 36 h).2 = true →
    b * 31250 < s.now + s.get R.OLC_XCFG_LEAD * 10000 →
    Runs (.armAcknowledge h b) s fun t => t = (twinAccept s 36 h).1) ∧
  (∀ (s : State) (h : FrameHead) (b : Nat), s.dev = .standby → (twinAccept s 36 h).2 = true →
    s.flag R.SYS_STATE_DEFER = false → s.olc.acked = some (b, .discard) →
    Runs (.goMessage h) s fun t => t.get R.OLC_STAT_STATE = 0 ∧ t.olc.staged = none ∧ t.olc.next = none ∧
    t.olc.acked = none ∧ t.folio = s.folio ∧
    t = { s with regs := t.regs, olc := t.olc, twin := t.twin, fabric := t.fabric }) ∧
  (∀ (s : State) (h : FrameHead) (n : Nat) (a b : FolioContent), s.dev = .standby → (twinAccept s 36 h).2 = true →
    s.flag R.SYS_STATE_DEFER = false → s.olc.acked = some (n, .switch) → (olcState s = 2 ∨ olcState s = 3) →
    s.content = some a → s.olc.next = some b → switchPlanes s a b (sheetFor s a b s.olc.sheet) = true →
    Runs (.goMessage h) s fun t => t.folio.content = some b ∧ t.get R.OLC_STAT_STATE = 5 ∧
    t.olc.old.map (·.content) = some a ∧ t.dev = .standby) ∧
  (∀ (s : State) (h : FrameHead) (n : Nat) (b : FolioContent), s.dev = .standby → (twinAccept s 36 h).2 = true →
    s.flag R.SYS_STATE_DEFER = false → s.olc.acked = some (n, .confirm) → olcState s = 5 → s.content = some b →
    Runs (.goMessage h) s fun t => t.folio.content = some b ∧ t.get R.OLC_STAT_STATE = 0 ∧ t.olc.old = none ∧
    t.dev = .standby) ∧
  (∀ (s : State) (h : FrameHead) (n : Nat) (b : FolioContent) (o : OldProgram), s.dev = .standby →
    (twinAccept s 36 h).2 = true → s.flag R.SYS_STATE_DEFER = false → s.olc.acked = some (n, .undo) → olcState s = 5 →
    s.content = some b → s.olc.old = some o → undoPlanes s = true →
    Runs (.goMessage h) s fun t => t.folio.content = some o.content ∧ t.get R.OLC_STAT_STATE = 0 ∧ t.olc.old = none ∧
    t.dev = .standby)

/-- Frames, lanes and time of the spine (R319 to R322, R337 to R342). -/
def Obligations.SpineFrames : Prop :=
  (∀ (s : State) (h : FrameHead) (m : StatusMsg), s.powered = true → h.crcOk = false →
    Runs (.statusFrame h m) s fun t => t = s.add (R.SPN_LANE_CRCERR (h.lane % 4)) 1) ∧
  (∀ (s : State) (h : FrameHead) (m : TickMsg), s.powered = true → (spineAccept s 1 h).2 = true → s.acting = false →
    s.spine.stepDue = 0 → m.offset.natAbs ≤ 4000 →
    Runs (.tickFrame h m) s fun t => t.get R.SPN_HOPS_HOPS = m.hops % 64 ∧
    (t.spine.tickGood = (if m.offset.natAbs ≤ 4 * (4 + m.hops) then s.spine.tickGood + 1 else 0)) ∧
    t.spine.tickAt = some s.time.loc ∧ t.getInt R.SPN_TERR_ERR = saturate 18 m.offset ∧
    (t.flag R.SPN_STAT_SYNC = decide (64 ≤ (if m.offset.natAbs ≤ 4 * (4 + m.hops) then s.spine.tickGood + 1 else 0)))
      ∧ t.flag R.SPN_STAT_ISOL = false ∧
    ((configuredDomains s).all (fun d => t.time.domSlew.toList.getD d 0 == -m.offset * 250000) = true) ∧
    t.time.dom = s.time.dom ∧
    (t.time.notices = s.time.notices ++ m.notices.filter (fun n => !s.time.notices.contains n)) ∧
    t = { s with regs := t.regs, spine := t.spine, time := t.time, records := t.records, host := t.host, free := t.free }) ∧
  (∀ (s : State) (h : FrameHead) (m : TickMsg), s.powered = true → (spineAccept s 1 h).2 = true → s.acting = false →
    s.spine.stepDue = 0 → 4000 < m.offset.natAbs → s.cycling = true → inGap s = false →
    Runs (.tickFrame h m) s fun t => t.get R.SPN_HOPS_HOPS = m.hops % 64 ∧
    (t.spine.tickGood = (if m.offset.natAbs ≤ 4 * (4 + m.hops) then s.spine.tickGood + 1 else 0)) ∧
    t.spine.tickAt = some s.time.loc ∧ t.getInt R.SPN_TERR_ERR = saturate 18 m.offset ∧
    (t.flag R.SPN_STAT_SYNC = decide (64 ≤ (if m.offset.natAbs ≤ 4 * (4 + m.hops) then s.spine.tickGood + 1 else 0)))
      ∧ t.flag R.SPN_STAT_ISOL = false ∧ t.spine.stepDue = -(m.offset / 4) ∧ t.time.dom = s.time.dom ∧
    t.time.domSlew = s.time.domSlew ∧
    t = { s with regs := t.regs, spine := t.spine, time := t.time, records := t.records, host := t.host, free := t.free }) ∧
  (∀ (s : State) (h : FrameHead) (m : TickMsg), s.powered = true → (spineAccept s 1 h).2 = true → s.acting = false →
    s.spine.stepDue = 0 → 4000 < m.offset.natAbs → s.cycling = false →
    Runs (.tickFrame h m) s fun t => t.get R.SPN_HOPS_HOPS = m.hops % 64 ∧
    (t.spine.tickGood = (if m.offset.natAbs ≤ 4 * (4 + m.hops) then s.spine.tickGood + 1 else 0)) ∧
    t.spine.tickAt = some s.time.loc ∧ t.getInt R.SPN_TERR_ERR = saturate 18 m.offset ∧
    (t.flag R.SPN_STAT_SYNC = decide (64 ≤ (if m.offset.natAbs ≤ 4 * (4 + m.hops) then s.spine.tickGood + 1 else 0)))
      ∧ t.flag R.SPN_STAT_ISOL = false ∧ t.time.dom = ⟨#[m.dom0 % 2 ^ 72, m.dom1 % 2 ^ 72], rfl⟩ ∧
    (s.time.active.isSome = true → t.time.active = some m.active) ∧ t.spine.stepDue = 0 ∧
    t = { s with regs := t.regs, spine := t.spine, time := t.time, records := t.records, host := t.host, free := t.free }) ∧
  (∀ (s : State) (h : FrameHead) (m : StatusMsg), s.powered = true → (spineAccept s 2 h).2 = true → s.acting = true →
    Runs (.statusFrame h m) s fun t => t.get (R.SPN_NODE_STATE (h.src % 128)) = m.state % 16 ∧
    (t.node (h.src % 128)).bind (·.status) = some m ∧ (t.node (h.src % 128)).any (·.lost) = false ∧
    t.cycle.peerOverrun = (s.cycle.peerOverrun ||| m.overrun % 256) ∧
    ((List.range 8).all (fun k => t.cycle.peerChecked.contains (k,
    h.src % 128) == (m.checked.testBit k || s.cycle.peerChecked.contains (k, h.src % 128))) = true) ∧ (∀ c,
    s.content = some c → (s.node (h.src % 128)).any (fun n => n.status.any (·.state == 4)) = true → m.state ≠ 4 →
    s.imposer.sheet.any (fun e => e.kind == 1 && e.remote && e.addr == (h.src % 128) / 2 * 2 && (hostMembers t c
      e.addr).isEmpty) = true → t.imposer.lossDue = true) ∧ (s.olc.forward ≠ some (h.src % 128) →
    s.folio.forward.any (·.1 == h.src % 128) = false →
    t = { s with regs := t.regs, spine := t.spine, cycle := t.cycle, imposer := t.imposer, folio := t.folio })) ∧
  (∀ (s : State) (h : FrameHead) (m : StatusMsg), s.powered = true → (spineAccept s 2 h).2 = true → s.acting = false →
    Runs (.statusFrame h m) s fun t => (t.node (h.src % 128)).bind (·.status) = some m ∧
    (t.node (h.src % 128)).any (·.lost) = false ∧ (s.partner.any (·.addr == h.src % 128) = true →
    t.spine.heardPartner = some s.time.loc) ∧ (s.partner.any (·.addr == h.src % 128) = false →
    t.spine.heardOther = some s.time.loc) ∧ t = { s with spine := t.spine }) ∧
  (∀ (s : State) (h : FrameHead) (records : List NodeRecord), s.powered = true → (spineAccept s 3 h).2 = true →
    s.acting = false → Runs (.discoverFrame h records) s fun t => t.spine.sent.head? = some (⟨3, 8, s.now % 2 ^ 36,
    ownRecord s h⟩ : SentFrame) ∧ (h.west = false → h.lane % 2 = 0 → t.flag R.SPN_EVT_CABLE = true) ∧
    t = { s with regs := t.regs, spine := t.spine } ∧ (∀ a, a ≠ R.SPN_EVT_CABLE.addr → t.reg a = s.reg a)) ∧
  (∀ (s : State) (h : FrameHead) (records : List NodeRecord), s.powered = true → (spineAccept s 3 h).2 = true →
    s.acting = true → s.spine.discovering = true →
    Runs (.discoverFrame h records) s fun t => (t.spine.records = s.spine.records ++ records.filter (fun x =>
      !s.spine.records.any fun y => y.addr == x.addr)) ∧ t.spine.discovering = true ∧ t = { s with spine := t.spine }) ∧
  (∀ (s : State) (h : FrameHead), s.powered = true → (s.dev ≠ .boot ∨ s.power.refOk = true) → h.src ≠ s.spine.addr →
    h.lane < 4 → (laneUp s (if h.lane % 2 = 0 then h.lane + 1 else h.lane - 1) = true) →
    Runs (.frameForward h) s fun t => (t.spine = { s.spine with forwarded := some { h with lane := if h.lane % 2 = 0 then h.lane + 1 else h.lane - 1, hops := (h.hops + 1) % 64 } }) ∧
    t = { s with spine := t.spine }) ∧
  (∀ (s : State) (h : FrameHead), s.powered = true → (s.dev ≠ .boot ∨ s.power.refOk = true) → h.src ≠ s.spine.addr →
    h.lane < 4 → (laneUp s (if h.lane % 2 = 0 then h.lane + 1 else h.lane - 1) = false) →
    Runs (.frameForward h) s fun t => t.spine = { s.spine with forwarded := some { h with west := !h.west, hops := (h.hops + 1) % 64 } } ∧
    t = { s with spine := t.spine }) ∧
  (∀ (s : State) (lane : Fin 4) (delay : BitVec 16), s.powered = true →
    Runs (.delayExchange lane delay) s fun t => t.get (R.SPN_LDLY_DELAY lane) = delay.toNat ∧
    t = { s with regs := t.regs } ∧ (∀ a, a ≠ (R.SPN_LDLY_DELAY lane).addr → t.reg a = s.reg a)) ∧
  (∀ (s : State) (lane : Fin 6) (path : Option Nat), s.powered = true → lane.val < 4 →
    Runs (.laneDown lane path) s fun t => t.flag (R.SPN_LANE_LINK lane) = false ∧
    t.flag (R.SPN_LANE_WRAP lane) = true ∧ (s.acting = false → path.isSome = true →
    t.get R.SPN_HOPS_HOPS = path.getD 0 % 64) ∧ t = { s with regs := t.regs }) ∧
  (∀ (s : State) (lane : Fin 6) (path : Option Nat), s.powered = true → 4 ≤ lane.val →
    Runs (.laneDown lane path) s fun t => t.getBit R.TWN_STAT_LANES (lane.val - 4) = false ∧
    t.flag R.TWN_EVT_LANE = true ∧ t = { s with regs := t.regs } ∧ (∀ a, a ≠ R.TWN_STAT_LANES.addr →
    a ≠ R.TWN_EVT_LANE.addr → t.reg a = s.reg a)) ∧
  (∀ (s : State) (lane : Fin 6) (path : Option Nat), s.powered = true → lane.val < 4 →
    Runs (.laneRestored lane path) s fun t => t.flag (R.SPN_LANE_LINK lane) = true ∧
    t.flag (R.SPN_LANE_WRAP lane) = false ∧ (s.acting = true → t.get R.SPN_HOPS_HOPS = s.get R.SPN_HOPS_HOPS) ∧
    (s.acting = false → path.isSome = true → t.get R.SPN_HOPS_HOPS = path.getD 0 % 64) ∧
    t = { s with regs := t.regs }) ∧
  (∀ (s : State) (lane : Fin 6) (path : Option Nat), s.powered = true → 4 ≤ lane.val →
    Runs (.laneRestored lane path) s fun t => t.getBit R.TWN_STAT_LANES (lane.val - 4) = true ∧
    t = { s with regs := t.regs } ∧ (∀ a, a ≠ R.TWN_STAT_LANES.addr → t.reg a = s.reg a))

/-- Nodes of the spine (R26, R88, R325 to R327, R342 to R344). The clauses on ADMITTED at isolation,
on the nodes a release waits for and on a delivery to a lost node are the choices of logs 145, 146 and 138. -/
def Obligations.SpineNodes : Prop :=
  (∀ (s : State) (c : FolioContent), s.powered = true → s.content = some c → s.acting = true →
    s.spine.discovering = true → (s.spine.records.all (fun x => decide (x.addr < 128)) = true) →
    (s.spine.records.Pairwise (fun x y => x.addr ≠ y.addr)) →
    Runs (.discoveryEnd) s fun t => t.spine.discovering = false ∧ (∀ a : Fin 128,
    t.flag (R.SPN_NODE_PRESENT a) = s.spine.records.any (·.addr == a.val)) ∧ (∀ a : Fin 128,
    t.flag (R.SPN_NODE_EXPECTED a) = (c.nodes.find? (·.addr == a.val)).isSome) ∧ (∀ a : Fin 128,
    t.flag (R.SPN_NODE_REQUIRED a) = (c.nodes.find? (·.addr == a.val)).any (·.required)) ∧ (∀ x ∈ s.spine.records,
    t.get (R.SPN_NODE_STATE x.addr) = x.state % 16) ∧ (∀ x ∈ s.spine.records,
    t.get (R.SPN_NODE_INDEX x.addr) = x.index % 64) ∧ (∀ x ∈ s.spine.records,
    t.get (R.SPN_NODE_HOPS x.addr) = x.hops % 64) ∧ (∀ x ∈ s.spine.records,
    t.get (R.SPN_NODE1_CAUSE x.addr) = recordCause s c x) ∧ (∀ x ∈ s.spine.records,
    (t.node x.addr).map (·.passed) = some (recordCause s c x == 0 && x.folio)) ∧ (∀ x ∈ s.spine.records,
    recordCause s c x ≠ 0 → t.flag R.SPN_EVT_UNKNOWN = true) ∧ (∀ x ∈ s.spine.records, x.reversed = true →
    t.flag R.SPN_EVT_CABLE = true) ∧ t = { s with regs := t.regs, spine := t.spine }) ∧
  (∀ (s : State), s.powered = true → s.acting = true → Runs (.discoveryRepeat) s fun t => t.spine.discovering = true ∧
    t.spine.records = [] ∧ t.spine.sent.head? = some (⟨3, 8, s.now % 2 ^ 36, []⟩ : SentFrame) ∧
    t = { s with spine := t.spine }) ∧
  (∀ (s : State) (node : Fin 128), s.powered = true → s.acting = true → nodeLost s node = false →
    s.flag (R.SPN_NODE_PRESENT node) = true →
    Runs (.nodeLost node) s fun t => (t.node node).map (·.lost) = some true ∧
    t.flag (R.SPN_NODE_PRESENT node) = false ∧ t.flag (R.SPN_NODE_ADMITTED node) = false ∧
    t.get (R.SPN_NODE1_LOSSES node) = (s.get (R.SPN_NODE1_LOSSES node) + 1) % 2 ^ 18 ∧ t.flag R.SPN_EVT_LOST = true ∧
    (∀ c, s.content = some c →
    s.imposer.sheet.any (fun e => e.kind == 1 && e.remote && e.addr == node.val / 2 * 2 && (hostMembers t c
      e.addr).isEmpty) = true → t.imposer.lossDue = true) ∧ (s.folio.forward.any (·.1 == node.val) = true →
    t.folio.forward = none ∧ t.get R.FOL_STAT_CAUSE = 24) ∧
    (shelfBusy t (decide (64 ≤ node.val))).any (·.1 == node.val) = false ∧
    t = { s with regs := t.regs, spine := t.spine, imposer := t.imposer, folio := t.folio }) ∧
  (∀ (s : State) (node : Fin 128), s.powered = true → s.acting = true → (s.cycling = false ∨ inGap s = true) →
    nodeReady s node = true → s.flag (R.SPN_NODE_ADMITTED node) = false →
    Runs (.nodeAdmission node none) s fun t => t.flag (R.SPN_NODE_ADMITTED node) = true ∧
    t.flag R.SPN_EVT_JOIN = true ∧ t.spine.sent.head? = some (⟨8, 8, s.now % 2 ^ 36,
    [BitVec.ofNat 36 node]⟩ : SentFrame) ∧ t = { s with regs := t.regs, spine := t.spine } ∧ (∀ a,
    a ≠ (R.SPN_NODE_ADMITTED node).addr → a ≠ R.SPN_EVT_JOIN.addr → t.reg a = s.reg a)) ∧
  (∀ (s : State) (node : Fin 128) (h : FrameHead), s.powered = true → (spineAccept s 8 h).2 = true →
    s.acting = false → s.content.isSome = true → s.dev = .run →
    Runs (.nodeAdmission node (some h)) s fun t => t.flag R.SPN_STAT_ADMITTED = true ∧ t.dev = .run ∧
    t.cycle = s.cycle ∧ t = { s with regs := t.regs, spine := t.spine } ∧ (∀ a, a ≠ R.SPN_STAT_ADMITTED.addr →
    t.reg a = s.reg a)) ∧
  (∀ (s : State) (node : Fin 128) (h : FrameHead), s.powered = true → (spineAccept s 8 h).2 = true →
    s.acting = false → s.content.isSome = true → (s.dev = .stop ∧ s.flag R.SPN_CFG_JOIN = true ∨ s.dev = .load ∧
    s.folio.loading = none) → s.primary = true → s.power.pfStep = 0 →
    Runs (.nodeAdmission node (some h)) s fun t => t.flag R.SPN_STAT_ADMITTED = true ∧ t.dev = .run ∧
    t.spine.releaseOwn = true ∧ t.spine.releaseAt = none ∧ t.cycle.startAt = s.now) ∧
  (∀ (s : State) (mode : Nat), s.powered = true → s.folio.waiting = some mode → s.acting = true →
    s.spine.startAt = none → requiredReady s = true →
    Runs (.startBroadcast none) s fun t => t.spine.startAt = some (ceilDiv (s.now + 1000000) 31250 * 31250, mode) ∧
    t.spine.sent.head? = some (⟨8, 8, ceilDiv (s.now + 1000000) 31250 * 31250 % 2 ^ 36,
    [BitVec.ofNat 36 mode]⟩ : SentFrame) ∧ t = { s with spine := t.spine }) ∧
  (∀ (s : State) (h : FrameHead) (at0 : Nat) (cold : Bool), s.powered = true → (spineAccept s 8 h).2 = true →
    s.acting = false → s.isWorker = true → Runs (.startBroadcast (some (h, at0,
    cold))) s fun t => (t.spine.startAt = some (at0, if cold then 1 else 2)) ∧ t = { s with spine := t.spine }) ∧
  (∀ (s : State) (at0 mode : Nat), s.powered = true → s.spine.startAt = some (at0, mode) → s.content.isSome = true →
    s.primary = true → s.power.pfStep = 0 → s.acting = false → (s.dev = .stop ∨ s.dev = .load ∧
    s.folio.loading = none) → Runs (.startInstant) s fun t => t.dev = .run ∧ t.spine.startAt = none ∧
    t.spine.releaseOwn = false ∧ t.spine.releaseAt = none ∧ t.flag R.SPN_STAT_ADMITTED = true ∧ t.cycle.startAt = at0) ∧
  (∀ (s : State) (at0 mode : Nat), s.powered = true → s.spine.startAt = some (at0, mode) → s.content.isSome = true →
    s.primary = true → s.power.pfStep = 0 → s.acting = true → s.folio.waiting.isSome = true →
    Runs (.startInstant) s fun t => t.dev = .run ∧ t.spine.startAt = none ∧ t.spine.releaseAt = none ∧
    t.folio.waiting = none ∧ t.cycle.startAt = at0 ∧ (s.dev = .stop → s.get R.SYS_CMD_STATUS = 1 →
    t.get R.SYS_CMD_STATUS = 2) ∧ (∀ a : Fin 128, nodeReady s a = true → t.flag (R.SPN_NODE_ADMITTED a) = true)) ∧
  (∀ (s : State), s.powered = true → s.acting = true → s.folio.waiting.isSome = true → s.spine.startAt = none →
    requiredReady s = false → Runs (.startTimeout) s fun t => t.folio = { s.folio with waiting := none } ∧
    t.get R.SPN_STAT_CAUSE = 5 ∧ (s.dev = .load → t.dev = .stop) ∧ (s.dev ≠ .load → t.dev = s.dev) ∧ (s.dev ≠ .load →
    s.get R.SYS_CMD_STATUS = 1 → t.get R.SYS_CMD_STATUS = 3) ∧
    t = { s with dev := t.dev, regs := t.regs, folio := t.folio, records := t.records, fabric := t.fabric, host := t.host, free := t.free }) ∧
  (∀ (s : State), s.powered = true → s.acting = true → s.dev = .run → s.spine.releaseAt = none → allReady s = true →
    (List.range 128).all (releaseReady s) = true →
    Runs (.releaseBroadcast none) s fun t => t.spine.releaseAt = some (slowestCommit s (s.now + broadcastTime s)) ∧
    t.spine.sent.head? = some (⟨8, 8, slowestCommit s (s.now + broadcastTime s) % 2 ^ 36, []⟩ : SentFrame) ∧
    t = { s with spine := t.spine }) ∧
  (∀ (s : State) (h : FrameHead) (at0 : Nat), s.powered = true → (spineAccept s 8 h).2 = true → s.acting = false →
    Runs (.releaseBroadcast (some (h, at0))) s fun t => t.spine.releaseAt = some at0 ∧
    t = { s with spine := t.spine }) ∧
  (∀ (s : State), s.powered = true → s.isWorker = true → s.flag R.SPN_STAT_ISOL = false →
    s.folio.loading.any (·.src == 3) = false → (s.dev ≠ .run ∨ s.flag R.SPN_CFG_ISOPOL = true) →
    Runs (.workerIsolated) s fun t => t.flag R.SPN_STAT_ISOL = true ∧ t.flag R.SPN_EVT_ISOL = true ∧
    t.flag R.SPN_STAT_SYNC = false ∧ t.flag R.SPN_STAT_ADMITTED = false ∧ t.spine.tickGood = 0 ∧
    ((configuredDomains s).all (fun d => t.get (R.NTM_DSTAT_STATE d) == if s.get (R.NTM_DSTAT_STATE d) = 1 ∨
    s.get (R.NTM_DSTAT_STATE d) = 2 then 3 else s.get (R.NTM_DSTAT_STATE d)) = true) ∧
    t = { s with regs := t.regs, spine := t.spine, time := t.time, records := t.records, host := t.host, free := t.free }) ∧
  (∀ (s : State) (l : FolioLoad), s.powered = true → s.isWorker = true → s.flag R.SPN_STAT_ISOL = false →
    s.folio.loading = some l → l.src = 3 → l.otherSlot = false → s.dev = .load →
    Runs (.workerIsolated) s fun t => t.flag R.SPN_STAT_ISOL = true ∧ t.dev = .stop ∧ t.folio.loading = none ∧
    t.get R.FOL_STAT_CAUSE = 18 ∧ (l.accepted.isSome = true → t.content = none)) ∧
  (∀ (s : State), s.powered = true → s.isWorker = true → s.flag R.SPN_STAT_ISOL = false →
    s.folio.loading.any (·.src == 3) = false → s.dev = .run → s.flag R.SPN_CFG_ISOPOL = false → inGap s = false →
    Runs (.workerIsolated) s fun t => t.flag R.SPN_STAT_ISOL = true ∧ t.flag R.SPN_STAT_ADMITTED = false ∧
    t.cycle.stopDue = true ∧ t.dev = s.dev) ∧
  (∀ (s : State), s.powered = true → s.isWorker = true → s.flag R.SPN_STAT_ISOL = false →
    s.folio.loading.any (·.src == 3) = false → s.dev = .run → s.flag R.SPN_CFG_ISOPOL = false → inGap s = true →
    cyclesDone s = true → Runs (.workerIsolated) s fun t => t.flag R.SPN_STAT_ISOL = true ∧ t.dev = .stop) ∧
  (∀ (s : State), s.powered = true → s.flag R.SPN_STAT_ISOL = true → s.flag R.SPN_CFG_ISOPOL = true →
    s.get R.SPN_CFG_ISOLIM ≠ 0 → s.dev = .run → inGap s = false →
    Runs (.isolimExpiry) s fun t => t.cycle = { s.cycle with stopDue := true } ∧ t = { s with cycle := t.cycle }) ∧
  (∀ (s : State), s.powered = true → s.flag R.SPN_STAT_ISOL = true → s.flag R.SPN_CFG_ISOPOL = true →
    s.get R.SPN_CFG_ISOLIM ≠ 0 → s.dev = .run → inGap s = true → cyclesDone s = true →
    Runs (.isolimExpiry) s fun t => t.dev = .stop) ∧
  (∀ (s : State), s.powered = true → (s.flag R.SPN_STAT_ISOL = false ∨ s.flag R.SPN_CFG_ISOPOL = false ∨
    s.get R.SPN_CFG_ISOLIM = 0 ∨ s.dev ≠ .run) → Runs (.isolimExpiry) s fun t => t = s)

/-- Data frames of the spine (R274, R276, R319, R329 to R332). -/
def Obligations.SpineData : Prop :=
  (∀ (s : State) (h : FrameHead) (payload : List Word) (n k l g : Nat), s.powered = true →
    (spineAccept s 4 h).2 = true → s.dev = .run → s.isWorker = false → hasStandby s = false →
    (s.cls (h.cls % 8)).phase = .gather → h.tref % 2 ^ 36 = (s.cls (h.cls % 8)).latchAt % 2 ^ 36 →
    ((classRuns s (h.cls % 8) false).filter (fun x => x.node / 2 == h.src / 2) = [⟨n, k, false, true, l, g, 1⟩]) →
    g < 0x20000 → Runs (.gatherFrame h payload) s fun t => ((payload.getD 1 0).toNat % 4 = 0 →
    t.point true true g = payload.getD 0 0) ∧ t.qual true true g = (payload.getD 1 0).toNat % 4 ∧
    t.spine.gathered = (h.cls % 8, n) :: s.spine.gathered ∧
    t = { s with mem := t.mem, spine := t.spine, poison := t.poison }) ∧
  (∀ (s : State) (h : FrameHead) (payload : List Word), s.powered = true → (spineAccept s 4 h).2 = true →
    s.dev = .run → s.isWorker = false → (s.cls (h.cls % 8)).phase = .gather →
    h.tref % 2 ^ 36 = (s.cls (h.cls % 8)).latchAt % 2 ^ 36 →
    Runs (.gatherFrame h payload) s fun t => (t.spine.gathered = ((classRuns s (h.cls % 8) false).filter (fun x =>
      x.node / 2 == h.src / 2)).map (fun x => (h.cls % 8, x.node)) ++ s.spine.gathered) ∧ (hasStandby s = true →
    t.twin.sent.head? = some (⟨34, h.cls % 8, (s.cls (h.cls % 8)).latchAt % 2 ^ 36, payload⟩ : SentFrame)) ∧
    t.dev = s.dev ∧ t.cycle = s.cycle ∧ t.cores = s.cores ∧ t.regs = s.regs ∧ t.handles = s.handles) ∧
  (∀ (s : State) (h : FrameHead) (payload : List Word), s.powered = true → (spineAccept s 4 h).2 = true →
    ((s.cls (h.cls % 8)).phase ≠ .gather ∨ h.tref % 2 ^ 36 ≠ (s.cls (h.cls % 8)).latchAt % 2 ^ 36 ∨
    s.isWorker = true ∨ s.dev = .standby ∨ s.cycling = false) →
    Runs (.gatherFrame h payload) s fun t => t.spine.gathered = s.spine.gathered ∧ t = { s with spine := t.spine }) ∧
  (∀ (s : State) (h : FrameHead) (payload : List Word), s.powered = true → (spineAccept s 5 h).2 = true →
    s.acting = false → Runs (.scatterFrame h payload) s fun t => t.spine.scatters.head? = some (h.cls % 8,
    h.tref % 2 ^ 36, payload) ∧ t.spine.scatters.length ≤ s.spine.scatters.length + 1 ∧
    t = { s with spine := t.spine }) ∧
  (∀ (s : State) (h : FrameHead) (unit : Nat) (points : List PointValue), s.powered = true →
    (spineAccept s 6 h).2 = true → s.cycling = true → s.imposer.foreignUnits.find? (·.id == unit) = none →
    Runs (.feedFrame h unit points) s fun t => t = { s with spine := t.spine }) ∧
  (∀ (s : State) (h : FrameHead) (unit : Nat) (points : List PointValue) (u : CoreUnit), s.powered = true →
    (spineAccept s 6 h).2 = true → s.cycling = true → s.imposer.foreignUnits.find? (·.id == unit) = some u →
    u.cls < 8 → (points.Pairwise (fun x y => x.word = y.word → x.num ≠ y.num)) →
    (points.all (fun p => decide (p.num < 0x20000)) = true) →
    Runs (.feedFrame h unit points) s fun t => (coresQuiet s = true → (∀ p ∈ points, p.word = true →
    pointIn (t.view u.cls) true true p.num = p.value)) ∧ (coresQuiet s = true → (∀ p ∈ points, p.word = false →
    p.value.toNat < 2 → pointIn (t.view u.cls) false true p.num = p.value)) ∧ (∀ k, s.coreOf ⟨u.id, u.cls, none,
    true⟩ = some k → k < 8 → coresQuiet s = true → (s.core k).task = none → (s.core k).ready = [] →
    (t.core k).task = some ⟨u.id, u.cls, none, true⟩) ∧ t.dev = s.dev ∧ t.mem = s.mem) ∧
  (∀ (s : State) (h : FrameHead) (unit : Nat) (points : List PointValue) (data : List (Nat × List Word)) (c :
      FolioContent) (u : CoreUnit), s.powered = true → (spineAccept s 7 h).2 = true → s.dev = .run →
    s.isWorker = false → s.content = some c → (remoteUnits s (h.cls % 8)).find? (·.id == unit) = some u → u.cls < 8 →
    ((s.cls u.cls).phase = .gather ∨ (s.cls u.cls).phase = .solve) →
    (points.all (fun p => (pointOwner s p.word true p.num).any (fun x => x.cls == u.cls && x.out)) = true) →
    (points.Pairwise (fun x y => x.word = y.word → x.num ≠ y.num)) →
    (points.all (fun p => decide (p.num < 0x20000)) = true) →
    Runs (.returnFrame h unit points data) s fun t => (∀ p ∈ points, p.word = true →
    pointIn (t.view u.cls) true true p.num = p.value) ∧ (∀ p ∈ points, p.word = false → p.value.toNat < 2 →
    pointIn (t.view u.cls) false true p.num = p.value) ∧ t.spine.returned = unit :: s.spine.returned ∧ (data = [] →
    t.mem = s.mem) ∧ (data.length = 1 →
    data.all (fun d => !u.segs.contains d.1 || (List.range d.2.length).all fun i => t.word (segBase c s.imposer.sheet
      d.1 + i) == d.2.getD i 0) = true) ∧ t.dev = s.dev ∧ t.cores = s.cores) ∧
  (∀ (s : State) (h : FrameHead) (unit : Nat) (points : List PointValue) (u : CoreUnit), s.powered = true →
    (spineAccept s 7 h).2 = true → s.dev = .run → s.content.isSome = true →
    (remoteUnits s (h.cls % 8)).find? (·.id == unit) = some u → (s.cls u.cls).phase ≠ .gather →
    (s.cls u.cls).phase ≠ .solve →
    Runs (.returnFrame h unit points []) s fun t => t.spine.returned = s.spine.returned ∧
    t = { s with spine := t.spine }) ∧
  (∀ (s : State) (cls : Cls), s.powered = true → s.acting = true →
    Runs (.barrierCompletion cls none) s fun t => t.spine.barriers = s.spine.barriers + 1 ∧
    t.spine.sent.head? = some (⟨8, cls, s.now % 2 ^ 36, []⟩ : SentFrame) ∧ t = { s with spine := t.spine }) ∧
  (∀ (s : State) (cls : Cls) (h : FrameHead), s.powered = true → (spineAccept s 8 h).2 = true →
    Runs (.barrierCompletion cls (some h)) s fun t => t.spine.barriers = s.spine.barriers + 1 ∧
    t.spine.sent = s.spine.sent ∧ t = { s with spine := t.spine }) ∧
  (∀ (s : State) (h : FrameHead) (u : CoreUnit) (core : Nat) (data : List (Nat × List Word)), s.powered = true →
    (spineAccept s 9 h).2 = true → s.dev ≠ .standby → s.isWorker = true → s.content.isSome = true →
    Runs (.bulkFrame h (.code u core data)) s fun t => t.imposer.arrivals = s.imposer.arrivals ++ [(u, core % 8,
    data)] ∧ t.imposer.sheet = s.imposer.sheet ∧ t = { s with imposer := t.imposer, spine := t.spine }) ∧
  (∀ (s : State) (h : FrameHead) (n : Nat) (last : Bool), s.powered = true → (spineAccept s 9 h).2 = true →
    s.dev = .stop → s.folio.loading = none → s.power.pfStep = 0 → s.acting = false →
    Runs (.bulkFrame h (.folio n last)) s fun t => t.dev = .load ∧ t.folio.loading = some ⟨3, false, none, false⟩ ∧
    t.folio.content = s.folio.content) ∧
  (∀ (s : State) (h : FrameHead) (n : Nat), s.powered = true → (spineAccept s 9 h).2 = true → s.dev ≠ .standby →
    Runs (.bulkFrame h (.image n)) s fun t => t = { s with spine := t.spine })

/-- Remote accesses, snapshots, broadcasts and resets (R334 to R336, R341, R612). -/
def Obligations.SpineAccesses : Prop :=
  (∀ (s : State) (h : FrameHead) (a : Nat), s.powered = true → (spineAccept s 10 h).2 = true →
    remoteAdmits s a false = true → s.poisoned a = false →
    Runs (.remoteFrame h (.read a)) s fun t => t.spine.sent.head? = some (⟨10, 8, s.now % 2 ^ 36, [BitVec.ofNat 36 a,
    s.word a]⟩ : SentFrame) ∧ t = { s with spine := t.spine }) ∧
  (∀ (s : State) (h : FrameHead) (a : Nat) (w keep : Word), s.powered = true → (spineAccept s 10 h).2 = true →
    remoteAdmits s a true = true → (keep = 0 ∨ s.poisoned a = false) →
    Runs (.remoteFrame h (.write a w keep)) s fun t => (t.word a = ((if keep = 0 then 0 else s.word a &&& keep) ^^^
      w)) ∧ t.spine.sent.head? = some (⟨10, 8, s.now % 2 ^ 36, [BitVec.ofNat 36 a]⟩ : SentFrame) ∧ (∀ x, x < a ∨
    a + 1 ≤ x → t.word x = s.word x) ∧
    t = { s with mem := t.mem, poison := t.poison, spine := t.spine, regs := t.regs, olc := t.olc } ∧ (∀ a,
    a ≠ R.RET_STAT_DIRTY.addr → t.reg a = s.reg a)) ∧
  (∀ (s : State) (h : FrameHead) (a : Nat) (w keep : Word), s.powered = true → (spineAccept s 10 h).2 = true →
    remoteAdmits s a true = false → (keep = 0 ∨ s.poisoned a = false) →
    Runs (.remoteFrame h (.write a w keep)) s fun t => t.spine.sent.head? = some (⟨10, 8, s.now % 2 ^ 36,
    []⟩ : SentFrame) ∧ t = { s with spine := t.spine }) ∧
  (∀ (s : State) (h : FrameHead) (p ea : Nat) (q : RemoteReq) (v : Option Word), s.powered = true →
    (spineAccept s 10 h).2 = true →
    (s.spine.requests.find? (fun q => q.master == p && q.ea == ea && q.store == false) = some q) → p < 8 →
    (s.core p).wait = .remote ea →
    Runs (.remoteFrame h (.answer p ea false v)) s fun t => t.spine.requests = s.spine.requests.erase q ∧
    t.spine.answers = s.spine.answers ++ [(p, ea, v)] ∧ (t.core p).wait = .none ∧ coresKept s t p = true ∧
    t = { s with cores := t.cores, spine := t.spine }) ∧
  (∀ (s : State) (h : FrameHead) (p ea : Nat) (q : RemoteReq) (w : Word), s.powered = true →
    (spineAccept s 10 h).2 = true →
    (s.spine.requests.find? (fun q => q.master == p && q.ea == ea && q.store == true) = some q) →
    s.get (R.SPN_RSTAT_PEND p) ≠ 0 →
    Runs (.remoteFrame h (.answer p ea true (some w))) s fun t => t.spine.requests = s.spine.requests.erase q ∧
    t.get (R.SPN_RSTAT_PEND p) = s.get (R.SPN_RSTAT_PEND p) - 1 ∧ t.spine.answers = s.spine.answers ∧
    t = { s with regs := t.regs, cores := t.cores, spine := t.spine } ∧ (∀ a, a ≠ (R.SPN_RSTAT_PEND p).addr →
    t.reg a = s.reg a)) ∧
  (∀ (s : State) (m : Fin 9) (q : RemoteReq), s.powered = true →
    (s.spine.requests.find? (fun q => q.master == m.val) = some q) → q.store = false →
    Runs (.remoteTimeout m) s fun t => t.spine.requests = s.spine.requests.erase q ∧
    t.spine.answers = s.spine.answers ++ [(m.val, q.ea, none)] ∧ t.flag R.SPN_EVT_RTO = true ∧
    t = { s with regs := t.regs, cores := t.cores, spine := t.spine } ∧ (∀ a, a ≠ R.SPN_EVT_RTO.addr →
    t.reg a = s.reg a)) ∧
  (∀ (s : State) (m : Fin 9) (q : RemoteReq), s.powered = true →
    (s.spine.requests.find? (fun q => q.master == m.val) = some q) → q.store = true → m.val < 8 →
    (s.core m).imprecise = none → Runs (.remoteTimeout m) s fun t => t.spine.requests = s.spine.requests.erase q ∧
    (t.core m).imprecise = some q.ea ∧ t.flag R.SPN_EVT_RTO = true ∧ coresKept s t m = true ∧
    t = { s with regs := t.regs, cores := t.cores, spine := t.spine } ∧ (∀ a, a ≠ R.SPN_EVT_RTO.addr →
    a ≠ (R.SPN_RSTAT_PEND m).addr → t.reg a = s.reg a)) ∧
  (∀ (s : State), s.powered = true → s.get R.SPN_SNAPCTL_PERIOD ≠ 0 → s.content.all (·.snapshot.isNone) = false →
    s.spine.snapshot = none → Runs (.snapshot true) s fun t => t.spine.snapshot = some (snapshotWords s) ∧
    t = { s with spine := t.spine }) ∧
  (∀ (s : State), s.powered = true → s.flag R.SPN_SNAPCTL_ARM = true → s.content.all (·.snapshot.isNone) = false →
    s.spine.snapshot = none → Runs (.snapshot false) s fun t => t.spine.snapshot = some (snapshotWords s) ∧
    t.flag R.SPN_SNAPCTL_ARM = false ∧ t = { s with regs := t.regs, spine := t.spine } ∧ (∀ a,
    a ≠ R.SPN_SNAPCTL_ARM.addr → t.reg a = s.reg a)) ∧
  (∀ (s : State), s.powered = true → s.get R.SPN_SNAPCTL_PERIOD ≠ 0 → s.content.all (·.snapshot.isNone) = false →
    s.spine.snapshot.isSome = true → Runs (.snapshot true) s fun t => t = s.raise R.SPN_EVT_SNAPMISS) ∧
  (∀ (s : State) (m : List (Nat × Word)), s.powered = true → s.spine.snapshot = some m →
    (m.all (fun p => decide (p.1 < 40960)) = true) → (m.Pairwise (fun x y => x.1 ≠ y.1)) →
    Runs (.snapshotDone) s fun t => t.spine.snapshot = none ∧ (∀ p ∈ m,
    t.word (s.get R.SPN_SNAPBASE_ADDR + p.1) = p.2) ∧ (∀ x, x < s.get R.SPN_SNAPBASE_ADDR ∨
    s.get R.SPN_SNAPBASE_ADDR + 40960 ≤ x → t.word x = s.word x) ∧
    t.get R.SPN_SNAPSEQ_SEQ = (s.get R.SPN_SNAPSEQ_SEQ + 1) % 2 ^ R.SPN_SNAPSEQ_SEQ.width ∧
    t = { s with regs := t.regs, mem := t.mem, poison := t.poison, spine := t.spine } ∧ (∀ a,
    a ≠ R.SPN_SNAPSEQ_SEQ.addr → t.reg a = s.reg a)) ∧
  (∀ (s : State) (m : Fin 18), s.powered = true → (m = 8 ∨ m = 9) → s.get R.SPN_GOP_STATUS ≠ 1 → s.acting = true →
    Runs (.bcast m none) s fun t => t.get R.SPN_GOP_STATUS = 2 ∧ t.get R.SPN_GOP_CODE = 1 ∧
    (t.spine.sent.head? = some (⟨8, 8, s.now % 2 ^ 36,
    (List.range 4).map fun i => s.reg (R.SPN_BTX_WORD i).addr⟩ : SentFrame)) ∧
    t = { s with regs := t.regs, spine := t.spine, power := t.power } ∧ (∀ a, a ≠ R.SPN_GOP_STATUS.addr →
    t.reg a = s.reg a)) ∧
  (∀ (s : State) (m : Fin 18), s.powered = true → m ≠ 8 → m ≠ 9 →
    Runs (.bcast m none) s fun t => t = s.rsvd m R.SPN_GOP_CODE.addr) ∧
  (∀ (s : State) (m : Fin 18) (h : FrameHead) (ws : Vector Word 4), s.powered = true → (spineAccept s 8 h).2 = true →
    s.flag R.SPN_STAT_ADMITTED = true → Runs (.bcast m (some (h,
    ws))) s fun t => ((List.range 4).all (fun i => t.reg (R.SPN_BRX_WORD i).addr == ws.toList.getD i 0) = true) ∧
    t.flag R.SPN_EVT_BRX = true ∧ t = { s with regs := t.regs, spine := t.spine } ∧ (∀ a,
    a ≠ (R.SPN_BRX_WORD 0).addr → a ≠ (R.SPN_BRX_WORD 1).addr → a ≠ (R.SPN_BRX_WORD 2).addr →
    a ≠ (R.SPN_BRX_WORD 3).addr → a ≠ R.SPN_EVT_BRX.addr → t.reg a = s.reg a)) ∧
  (∀ (s : State) (m : Fin 18), s.powered = true → (m = 8 ∨ m = 9) → s.get R.SPN_GOP_STATUS ≠ 1 → s.acting = true →
    Runs (.spineResetWarm m none) s fun t => t.spine.resetAt = some (ceilDiv (s.now + broadcastTime s + 1000) 31250 *
      31250, false) ∧ t.get R.SPN_GOP_STATUS = 1 ∧ t.dev = s.dev ∧
    t = { s with regs := t.regs, spine := t.spine, power := t.power } ∧ (∀ a, a ≠ R.SPN_GOP_STATUS.addr →
    t.reg a = s.reg a)) ∧
  (∀ (s : State) (m : Fin 18), s.powered = true → (m = 8 ∨ m = 9) → s.get R.SPN_GOP_STATUS ≠ 1 → s.acting = false →
    Runs (.spineResetWarm m none) s fun t => t.get R.SPN_GOP_STATUS = 5 ∧ t.spine = s.spine ∧
    t = { s with regs := t.regs, power := t.power } ∧ (∀ a, a ≠ R.SPN_GOP_STATUS.addr → t.reg a = s.reg a)) ∧
  (∀ (s : State) (m : Fin 18) (h : FrameHead) (at0 : Nat), s.powered = true → (spineAccept s 8 h).2 = true →
    s.acting = false → Runs (.spineResetWarm m (some (h, at0))) s fun t => t.spine.resetAt = some (at0, false) ∧
    t.dev = s.dev ∧ t = { s with spine := t.spine }) ∧
  (∀ (s : State) (m : Fin 18), s.powered = true → (m = 8 ∨ m = 9) → s.get R.SPN_GOP_STATUS ≠ 1 → s.acting = true →
    Runs (.spineResetCold m none) s fun t => t.spine.resetAt = some (ceilDiv (s.now + broadcastTime s + 1000) 31250 *
      31250, true) ∧ t.get R.SPN_GOP_STATUS = 1 ∧ t.dev = s.dev ∧
    t = { s with regs := t.regs, spine := t.spine, power := t.power } ∧ (∀ a, a ≠ R.SPN_GOP_STATUS.addr →
    t.reg a = s.reg a)) ∧
  (∀ (s : State) (m : Fin 18), s.powered = true → (m = 8 ∨ m = 9) → s.get R.SPN_GOP_STATUS ≠ 1 → s.acting = false →
    Runs (.spineResetCold m none) s fun t => t.get R.SPN_GOP_STATUS = 5 ∧ t.spine = s.spine ∧
    t = { s with regs := t.regs, power := t.power } ∧ (∀ a, a ≠ R.SPN_GOP_STATUS.addr → t.reg a = s.reg a)) ∧
  (∀ (s : State) (m : Fin 18) (h : FrameHead) (at0 : Nat), s.powered = true → (spineAccept s 8 h).2 = true →
    s.acting = false → Runs (.spineResetCold m (some (h, at0))) s fun t => t.spine.resetAt = some (at0, true) ∧
    t.dev = s.dev ∧ t = { s with spine := t.spine }) ∧
  (∀ (s : State) (at0 : Nat) (cold : Bool), s.powered = true → s.spine.resetAt = some (at0, cold) → s.acting = true →
    s.flag R.SPN_GOP_SELF = false → s.get R.SPN_GOP_STATUS = 1 →
    Runs (.resetInstant) s fun t => t.spine.resetAt = none ∧ t.get R.SPN_GOP_STATUS = 2 ∧ t.dev = s.dev ∧
    t = { s with regs := t.regs, spine := t.spine } ∧ (∀ a, a ≠ R.SPN_GOP_STATUS.addr → t.reg a = s.reg a)) ∧
  (∀ (s : State) (at0 : Nat), s.powered = true → s.spine.resetAt = some (at0, true) → (s.acting = false ∨
    s.flag R.SPN_GOP_SELF = true) → Runs (.resetInstant) s fun t => t.dev = .boot ∧ t.spine.resetAt = none ∧
    t.get R.RST_CAUSE_SPINE = 1) ∧
  (∀ (s : State) (at0 : Nat), s.powered = true → s.spine.resetAt = some (at0, false) → (s.acting = false ∨
    s.flag R.SPN_GOP_SELF = true) → s.power.pfStep = 0 → s.flag R.SYS_STATE_DEFER = false → deferring s = false →
    Runs (.resetInstant) s fun t => t.dev = .boot ∧ t.spine.resetAt = none ∧ t.power.bootKind = 2 ∧
    t.get R.RST_CAUSE_SPINE = 1)

/-- Heartbeats, pairing and loss (R352 to R355, R360, R361, R368). -/
def Obligations.PairHeartbeats : Prop :=
  (∀ (s : State), s.powered = true → Runs (.heartSend) s fun t => t.twin.sentHeart = some (⟨s.dev.code,
    s.flag R.TWN_STAT_PRIMARY, s.get R.TWN_STAT_PSTATE, s.twin.departAt, reachesSpine s⟩ : HeartMsg) ∧
    t.twin.missed = s.twin.missed ∧ t = { s with twin := t.twin }) ∧
  (∀ (s : State) (h : FrameHead) (m : HeartMsg), s.powered = true → h.crcOk = false →
    Runs (.heartFrame h m) s fun t => t = s) ∧
  (∀ (s : State) (h : FrameHead) (m : HeartMsg), s.powered = true → (twinAccept s 33 h).2 = true →
    m.departure = none → s.dev = .standby → s.twin.waiting = false →
    Runs (.heartFrame h m) s fun t => t.twin.heart = some m ∧ t.twin.missed = 0 ∧ t.twin.lost = false ∧
    t.get R.TWN_STAT_PARTNER = m.state % 16 ∧ t.dev = .standby ∧ t = { s with regs := t.regs, twin := t.twin } ∧ (∀ a,
    a ≠ R.TWN_STAT_PARTNER.addr → t.reg a = s.reg a)) ∧
  (∀ (s : State) (h : FrameHead) (m : HeartMsg), s.powered = true → (twinAccept s 33 h).2 = true →
    m.departure = none → (s.dev = .run ∨ s.dev = .halt) → s.partner.isSome = true → s.flag R.TWN_STAT_PRIMARY = true →
    s.twin.waiting = false → m.state = 5 → s.twin.heart.any (·.state == 5) = false →
    Runs (.heartFrame h m) s fun t => t.get R.TWN_STAT_PSTATE = 3 ∧ t.twin.copyDone = 0 ∧ t.twin.fabricDue = false ∧
    t.twin.tracked = [] ∧ t.twin.heart = some m ∧ t.dev = s.dev ∧ t = { s with regs := t.regs, twin := t.twin }) ∧
  (∀ (s : State) (h : FrameHead) (m : HeartMsg), s.powered = true → (twinAccept s 33 h).2 = true →
    m.departure = none → (s.dev = .run ∨ s.dev = .halt) → s.partner.isSome = true → s.flag R.TWN_STAT_PRIMARY = true →
    s.twin.waiting = false → m.state ≠ 5 → s.twin.heart.any (·.state == 5) = true → 3 ≤ s.get R.TWN_STAT_PSTATE →
    Runs (.heartFrame h m) s fun t => t.get R.TWN_STAT_PSTATE = 1 ∧ t.flag R.TWN_EVT_ALONE = true ∧
    t.twin.heart = some m ∧ t.twin.switchAt = none ∧ t.dev = s.dev ∧
    t = { s with regs := t.regs, twin := t.twin, records := t.records, free := t.free, host := t.host }) ∧
  (∀ (s : State) (h : FrameHead) (m : HeartMsg), s.powered = true → (twinAccept s 33 h).2 = true →
    s.twin.waiting = true → m.departure = none → s.dev = .load → m.state = 4 →
    Runs (.heartFrame h m) s fun t => t.flag R.TWN_STAT_PRIMARY = false ∧ t.get R.TWN_STAT_PSTATE = 2 ∧
    t.twin.waiting = false ∧ t.dev = .load ∧ t = { s with regs := t.regs, twin := t.twin } ∧ (∀ a,
    a ≠ R.TWN_STAT_PRIMARY.addr → t.reg a = s.reg a)) ∧
  (∀ (s : State) (h : FrameHead) (m : HeartMsg) (d : Nat), s.powered = true → (twinAccept s 33 h).2 = true →
    m.departure = some d → s.twin.heart.any (·.departure == some d) = false → s.dev = .standby →
    s.get R.TWN_STAT_PSTATE ≠ 3 → s.twin.waiting = false →
    Runs (.heartFrame h m) s fun t => t.twin.takeFrom = some (d + 3000) ∧ t.twin.switchAt = none ∧
    t.flag R.TWN_EVT_DEPART = true ∧ t.dev = .standby ∧ t = { s with regs := t.regs, twin := t.twin }) ∧
  (∀ (s : State), s.powered = true → s.partner.isSome = true → (s.twin.missed + 1 < s.get R.TWN_XHB_HBLIM ∨
    s.twin.lost = true ∨ s.twin.heart = none) → Runs (.heartbeatMiss) s fun t => t.twin.missed = s.twin.missed + 1 ∧
    t.twin.lost = s.twin.lost ∧
    t.get R.TWN_HBMISS_COUNT = (s.get R.TWN_HBMISS_COUNT + 1) % 2 ^ R.TWN_HBMISS_COUNT.width ∧
    t = { s with regs := t.regs, twin := t.twin } ∧ (∀ a, a ≠ R.TWN_HBMISS_COUNT.addr → t.reg a = s.reg a)) ∧
  (∀ (s : State), s.powered = true → s.partner.isSome = true → s.get R.TWN_XHB_HBLIM ≤ s.twin.missed + 1 →
    s.twin.lost = false → s.twin.heart.isSome = true → s.dev = .standby → s.get R.TWN_STAT_PSTATE ≠ 3 →
    seesPartner s = false → reachesSpine s = true → Runs (.heartbeatMiss) s fun t => t.twin.lost = true ∧
    t.twin.heart = none ∧ t.flag R.TWN_EVT_HBLOSS = true ∧ t.get R.TWN_STAT_PARTNER = 0 ∧
    t.twin.takeFrom = some s.now ∧ t.dev = .standby ∧ t = { s with regs := t.regs, twin := t.twin }) ∧
  (∀ (s : State), s.powered = true → cyclesDone s = true → s.partner.isSome = true →
    s.get R.TWN_XHB_HBLIM ≤ s.twin.missed + 1 → s.twin.lost = false → s.twin.heart.isSome = true → s.dev = .standby →
    (s.get R.TWN_STAT_PSTATE = 3 ∨ seesPartner s = true ∨ reachesSpine s = false) →
    Runs (.heartbeatMiss) s fun t => t.dev = .stop ∧
    (t.get R.TWN_STAT_CAUSE = if s.get R.TWN_STAT_PSTATE = 3 then 9 else if seesPartner s = true then 5 else 6) ∧
    t.twin.takeFrom = none ∧ t.flag R.TWN_EVT_WITHDRAW = true ∧ t.get R.TWN_STAT_PSTATE = 0) ∧
  (∀ (s : State), s.powered = true → s.partner.isSome = true → s.get R.TWN_XHB_HBLIM ≤ s.twin.missed + 1 →
    s.twin.lost = false → s.twin.heart.isSome = true → (s.dev = .run ∨ s.dev = .halt) →
    s.flag R.TWN_STAT_PRIMARY = true → reachesSpine s = true → Runs (.heartbeatMiss) s fun t => t.twin.lost = true ∧
    t.twin.heart = none ∧ t.get R.TWN_STAT_PSTATE = 1 ∧ t.flag R.TWN_EVT_ALONE = true ∧ t.dev = s.dev ∧
    t = { s with regs := t.regs, twin := t.twin, records := t.records, free := t.free, host := t.host }) ∧
  (∀ (s : State), s.powered = true → s.partner.isSome = true → s.get R.TWN_XHB_HBLIM ≤ s.twin.missed + 1 →
    s.twin.lost = false → s.twin.heart.isSome = true → (s.dev = .run ∨ s.dev = .halt) →
    s.flag R.TWN_STAT_PRIMARY = true → reachesSpine s = false → Runs (.heartbeatMiss) s fun t => t.twin.lost = true ∧
    t.twin.yieldFrom = some s.now ∧ t.flag R.TWN_EVT_YIELD = true ∧ t.dev = s.dev ∧
    t = { s with regs := t.regs, twin := t.twin, records := t.records, free := t.free, host := t.host }) ∧
  (∀ (s : State), s.powered = true → s.dev = .load → s.twin.waiting = true → s.twin.heart = none →
    s.partner.isSome = true → s.standalone = false →
    Runs (.pairWaitTimeout) s fun t => t.flag R.TWN_STAT_PRIMARY = true ∧ t.get R.TWN_STAT_PSTATE = 1 ∧
    t.twin.waiting = false ∧ t.folio.waiting = some (s.folio.waiting.getD 2) ∧ t.dev = .load ∧ (s.acting = true →
    t.spine.discovering = true) ∧ t = { s with regs := t.regs, folio := t.folio, twin := t.twin, spine := t.spine } ∧
    (∀ a, a ≠ R.TWN_STAT_PRIMARY.addr → t.reg a = s.reg a)) ∧
  (∀ (s : State) (peer : PairId), s.powered = true → s.partner.isSome = true → s.dev = .load →
    s.get R.TWN_STAT_PSTATE = 2 → pairingCause s peer ≠ 0 → Runs (.pairingCheck peer) s fun t => t.dev = .stop ∧
    t.get R.TWN_STAT_CAUSE = pairingCause s peer ∧ t.get R.TWN_STAT_PSTATE = 0 ∧ t.twin.partner = some peer ∧
    t.reg R.TWN_PSER0_SERIAL.addr = peer.serial.getD 0 0 ∧ t.reg R.TWN_PSER1_SERIAL.addr = peer.serial.getD 1 0 ∧
    t.folio = { s.folio with waiting := none }) ∧
  (∀ (s : State) (peer : PairId), s.powered = true → s.partner.isSome = true → s.dev = .load →
    s.get R.TWN_STAT_PSTATE = 2 → pairingCause s peer = 0 → Runs (.pairingCheck peer) s fun t => t.dev = .standby ∧
    t.get R.TWN_STAT_PSTATE = 3 ∧ t.flag R.TWN_STAT_PRIMARY = false ∧ t.twin.partner = some peer ∧
    t.flag R.SYS_STATE_RELEASED = false) ∧
  (∀ (s : State), s.powered = true → s.twin.rejoinDue = true → s.dev = .stop → s.power.pfStep = 0 →
    s.flag R.SYS_STATE_DEFER = false → deferring s = false → Runs (.autorejoin) s fun t => t.dev = .boot ∧
    t.power.bootKind = 2 ∧ t.flag R.RST_CAUSE_CMDWARM = true) ∧
  (∀ (s : State), s.powered = true → (s.twin.rejoinDue = false ∨ s.dev ≠ .stop) → Runs (.autorejoin) s fun t => t = s)

/-- Tracking, takeover, switchover and resynchronisation (R356 to R358, R362 to R367). -/
def Obligations.TwinTracking : Prop :=
  (∀ (s : State) (h : FrameHead) (points : List PointValue), s.powered = true → (twinAccept s 34 h).2 = true →
    s.dev = .standby → h.tref % 2 ^ 36 = (s.cls (h.cls % 8)).latchAt % 2 ^ 36 → (s.cls (h.cls % 8)).phase = .gather →
    (points.all (fun p => decide (p.num < 32768) && decide (p.qual < 4)) = true) →
    (points.Pairwise (fun x y => x.word = y.word → x.global = y.global → x.num ≠ y.num)) →
    Runs (.trkinFrame h points) s fun t => (∀ p ∈ points, p.word = true → t.point true p.global p.num = p.value) ∧
    (∀ p ∈ points, p.word = false → p.value.toNat < 2 → t.point false p.global p.num = p.value) ∧ (∀ p ∈ points,
    t.qual p.word p.global p.num = p.qual) ∧ t.twin.trkin = (h.cls % 8, points) :: s.twin.trkin ∧
    t = { s with regs := t.regs, mem := t.mem, poison := t.poison, twin := t.twin } ∧ (∀ a,
    a ≠ (R.TWN_TRK_ARRIVAL (h.cls % 8)).addr → t.reg a = s.reg a)) ∧
  (∀ (s : State) (h : FrameHead) (points : List PointValue), s.powered = true → (twinAccept s 34 h).2 = true →
    s.dev = .standby → h.tref % 2 ^ 36 = (s.cls (h.cls % 8)).latchAt % 2 ^ 36 → (s.cls (h.cls % 8)).phase ≠ .gather →
    s.twin.trkLate.testBit (h.cls % 8) = true → Runs (.trkinFrame h points) s fun t => t.get R.TWN_STAT_PSTATE = 3 ∧
    t.twin.fabricDue = true ∧ t.twin.skipped = 0 ∧ t = { s with regs := t.regs, twin := t.twin }) ∧
  (∀ (s : State) (h : FrameHead) (runs : List (Nat × List Word)) (last : Bool), s.powered = true →
    (twinAccept s 35 h).2 = true → s.dev = .standby → s.get R.TWN_STAT_PSTATE ≠ 3 →
    Runs (.trklogFrame h true runs last) s fun t => (t.twin.logs = s.twin.logs ++ [(h.cls % 8,
    (runs.flatMap fun x => x.2.zipIdx.map fun w => (x.1 + w.2, w.1)))]) ∧ (last = true →
    t.twin.logDone.testBit (h.cls % 8) = true) ∧ t = { s with twin := t.twin }) ∧
  (∀ (s : State) (h : FrameHead) (runs : List (Nat × List Word)) (last : Bool) (ws : List (Nat × Word)),
    s.powered = true → (twinAccept s 35 h).2 = true → s.dev = .standby → s.get R.TWN_STAT_PSTATE ≠ 3 →
    (ws = (runs.flatMap fun x => x.2.zipIdx.map fun w => (x.1 + w.2, w.1))) → (ws.map (·.1)).Nodup →
    Runs (.trklogFrame h false runs last) s fun t => (∀ w ∈ ws,
    t.word w.1 = if inImage w.1 then imageWord w.1 w.2 else w.2) ∧ t.twin.logs = s.twin.logs ∧ (∀ x,
    x ∉ ws.map (·.1) → t.word x = s.word x)) ∧
  (∀ (s : State) (h : FrameHead) (on : Bool) (c n d : Nat), s.powered = true → (twinAccept s 36 h).2 = true →
    s.dev = .standby → Runs (.trkctlFrame h [.released on, .count c n,
    .switchAt d]) s fun t => t.flag R.SYS_STATE_RELEASED = on ∧ t.get (R.CYC_CNT_COUNT (c % 8)) = n % 2 ^ 36 ∧
    t.twin.switchAt = some d ∧ t.dev = .standby ∧ t = { s with regs := t.regs, twin := t.twin }) ∧
  (∀ (s : State) (h : FrameHead) (l : List Force), s.powered = true → (twinAccept s 36 h).2 = true →
    s.dev = .standby → Runs (.trkctlFrame h [.forces l]) s fun t => t.forces = l ∧ t.dev = .standby ∧ t.mem = s.mem ∧
    t.cores = s.cores) ∧
  (∀ (s : State) (h : FrameHead), s.powered = true → (twinAccept s 36 h).2 = true → s.dev = .standby →
    inGap s = false → Runs (.trkctlFrame h [.leaveRun]) s fun t => t.cycle = { s.cycle with stopDue := true } ∧
    t = { s with cycle := t.cycle, twin := t.twin }) ∧
  (∀ (s : State) (h : FrameHead) (l : List SheetEntry), s.powered = true → (twinAccept s 36 h).2 = true →
    s.dev = .standby → s.content.isSome = true → inGap s = false →
    Runs (.trkctlFrame h [.sheet l]) s fun t => t.twin.sheetDue = some l ∧ t = { s with twin := t.twin }) ∧
  (∀ (s : State) (h : FrameHead) (c d : Nat), s.powered = true → (twinAccept s 36 h).2 = true → s.dev = .standby →
    (s.cls (c % 8)).phase = .done → d = 1 →
    Runs (.trkctlFrame h [.decision c d]) s fun t => t.spine.decisions = (c % 8, d) :: s.spine.decisions ∧
    (t.cls (c % 8)).voided = true ∧ (t.cls (c % 8)).allowed = false ∧
    t = { s with cycle := t.cycle, spine := t.spine, twin := t.twin }) ∧
  (∀ (s : State) (h : FrameHead) (stat : Word) (digest : List Word), s.powered = true → (twinAccept s 36 h).2 = true →
    hasStandby s = true →
    Runs (.trkctlFrame h [.olc stat digest]) s fun t => t.flag R.OLC_STAT_TWINRDY = (bitsOf stat 0 4 == 2 &&
      (s.olc.next.bind (·.mapDigests)).map (·.2) == some digest) ∧ t.get R.OLC_STAT_TWCAUSE = bitsOf stat 8 5 ∧
    t = { s with regs := t.regs, twin := t.twin }) ∧
  (∀ (s : State) (h : FrameHead) (d : BitVec 32) (own : Nat), s.powered = true → (twinAccept s 37 h).2 = true →
    s.dev = .standby → s.get R.TWN_STAT_PSTATE = 4 → s.twin.ownDigest.toList.getD (h.cls % 8) none = some own →
    own = d.toNat → Runs (.digestFrame h d) s fun t => t.get (R.TWN_MM_CONS (h.cls % 8)) = 0 ∧
    t.get (R.TWN_MM_TOTAL (h.cls % 8)) = s.get (R.TWN_MM_TOTAL (h.cls % 8)) ∧
    t = { s with regs := t.regs, twin := t.twin } ∧ (∀ a, a ≠ (R.TWN_MM_CONS (h.cls % 8)).addr → t.reg a = s.reg a)) ∧
  (∀ (s : State) (h : FrameHead) (d : BitVec 32) (own : Nat), s.powered = true → (twinAccept s 37 h).2 = true →
    s.dev = .standby → s.get R.TWN_STAT_PSTATE = 4 → s.twin.ownDigest.toList.getD (h.cls % 8) none = some own →
    own ≠ d.toNat → s.get R.TWN_CFG_MMLIM = 0 →
    Runs (.digestFrame h d) s fun t => t.get (R.TWN_MM_TOTAL (h.cls % 8)) = (s.get (R.TWN_MM_TOTAL (h.cls % 8)) + 1) %
      2 ^ 18 ∧ t.flag R.TWN_EVT_MISMATCH = true ∧ t.get R.TWN_STAT_PSTATE = 4 ∧ t.dev = .standby ∧
    t = { s with regs := t.regs, twin := t.twin, records := t.records }) ∧
  (∀ (s : State) (d : Nat), s.powered = true → s.twin.takeFrom = some d → s.dev = .standby →
    Runs (.takeover) s fun t => t.dev = .run ∧ t.flag R.TWN_STAT_PRIMARY = true ∧ t.get R.TWN_STAT_PSTATE = 1 ∧
    t.flag R.SYS_STATE_TAKEN = true ∧ t.flag R.TWN_EVT_TAKEOVER = true ∧ t.get R.SYS_STATE_MODE = 3 ∧
    t.flag R.SYS_STATE_RELEASED = s.flag R.SYS_STATE_RELEASED ∧ t.get R.TWN_TTIME_INSTANT = firstCommit s d % 2 ^ 36 ∧
    t.twin.takeFrom = none ∧ (s.isWorker = false → s.standalone = false → t.acting = true) ∧ (olcState s = 3 →
    olcState t = 2)) ∧
  (∀ (s : State), s.powered = true → (s.twin.takeFrom = none ∨ s.dev ≠ .standby) → Runs (.takeover) s fun t => t = s) ∧
  (∀ (s : State), s.powered = true → cyclesDone s = true → s.twin.yieldFrom.isSome = true → s.twin.departAt = none →
    s.dev = .run → s.flag R.TWN_STAT_PRIMARY = true → Runs (.primaryYield) s fun t => t.dev = .stop ∧
    t.get R.TWN_STAT_PSTATE = 0) ∧
  (∀ (s : State) (m : Fin 18), s.powered = true → s.get R.TWN_CMD_STATUS ≠ 1 → s.dev = .run →
    s.get R.TWN_STAT_PSTATE = 4 → hasStandby s = true → s.power.pfStep = 0 →
    Runs (.twinSwitch m) s fun t => t.get R.TWN_CMD_STATUS = 1 ∧ t.twin.switchAt = some (nextMajor s * 31250) ∧
    t.dev = .run ∧ t = { s with regs := t.regs, twin := t.twin, power := t.power } ∧ (∀ a, a ≠ R.TWN_CMD_STATUS.addr →
    t.reg a = s.reg a)) ∧
  (∀ (s : State) (m : Fin 18), s.powered = true → s.get R.TWN_CMD_STATUS ≠ 1 → s.dev = .standby →
    Runs (.twinSwitch m) s fun t => t.get R.TWN_CMD_STATUS = 5 ∧ t = { s with regs := t.regs, power := t.power } ∧
    (∀ a, a ≠ R.TWN_CMD_STATUS.addr → t.reg a = s.reg a)) ∧
  (∀ (s : State), s.powered = true → s.twin.switchAt.isSome = true → s.dev = .standby →
    Runs (.switchover) s fun t => t.dev = .run ∧ t.flag R.TWN_STAT_PRIMARY = true ∧ t.get R.TWN_STAT_PSTATE = 4 ∧
    t.flag R.TWN_EVT_SWITCH = true ∧ t.get R.SYS_STATE_MODE = 3 ∧ t.twin.switchAt = none) ∧
  (∀ (s : State), s.powered = true → s.twin.switchAt.isSome = true → s.dev = .run → s.flag R.TWN_STAT_PRIMARY = true →
    s.upd.activateDue = false → Runs (.switchover) s fun t => t.flag R.TWN_EVT_SWITCH = true ∧
    t.flag R.SYS_STATE_TAKEN = false ∧ t.dev = .standby ∧ t.flag R.TWN_STAT_PRIMARY = false ∧
    t.get R.TWN_STAT_PSTATE = 4 ∧ t.flag R.SPN_STAT_ACTING = false ∧ (s.get R.TWN_CMD_STATUS = 1 →
    t.get R.TWN_CMD_STATUS = 2) ∧ t.twin.switchAt = none) ∧
  (∀ (s : State), s.powered = true → s.twin.switchAt.isSome = true → s.dev = .run → s.flag R.TWN_STAT_PRIMARY = true →
    s.upd.activateDue = true → s.power.pfStep = 0 → s.flag R.SYS_STATE_DEFER = false → deferring s = false →
    Runs (.switchover) s fun t => t.dev = .boot ∧ t.power.bootKind = 2) ∧
  (∀ (s : State) (m : Fin 18), s.powered = true → s.get R.TWN_CMD_STATUS ≠ 1 → s.dev ≠ .standby →
    s.flag R.TWN_STAT_PRIMARY = false → Runs (.twinWithdraw m) s fun t => t.get R.TWN_CMD_STATUS = 3 ∧
    t = { s with regs := t.regs, power := t.power } ∧ (∀ a, a ≠ R.TWN_CMD_STATUS.addr → t.reg a = s.reg a)) ∧
  (∀ (s : State) (m : Fin 18), s.powered = true → cyclesDone s = true → s.get R.TWN_CMD_STATUS ≠ 1 →
    s.dev = .standby → Runs (.twinWithdraw m) s fun t => t.dev = .stop ∧ t.get R.TWN_CMD_STATUS = 2 ∧
    t.get R.TWN_STAT_PSTATE = 0 ∧ t.flag R.TWN_EVT_WITHDRAW = true ∧ t.get R.TWN_STAT_CAUSE = s.get R.TWN_STAT_CAUSE ∧
    t.twin.rejoinDue = false) ∧
  (∀ (s : State) (m : Fin 18), s.powered = true → s.get R.TWN_CMD_STATUS ≠ 1 → s.dev ≠ .standby →
    s.flag R.TWN_STAT_PRIMARY = true → Runs (.twinWithdraw m) s fun t => t.get R.TWN_CMD_STATUS = 5 ∧
    t = { s with regs := t.regs, power := t.power } ∧ (∀ a, a ≠ R.TWN_CMD_STATUS.addr → t.reg a = s.reg a)) ∧
  (∀ (s : State) (addrs : List Nat), s.powered = true → s.get R.TWN_STAT_PSTATE = 3 → hasStandby s = true →
    s.twin.fabricDue = false → addrs = copySlice (copyRanges s) s.twin.copyDone 256 →
    Runs (.resyncCopy none) s fun t => t.twin.copyDone = s.twin.copyDone + addrs.length ∧
    t.twin.sent.head? = some (⟨38, 8, s.now % 2 ^ 36, addrs.map s.word⟩ : SentFrame) ∧ t.mem = s.mem ∧
    t = { s with regs := t.regs, twin := t.twin } ∧ (∀ a, a ≠ R.TWN_COPY_WORDS.addr → t.reg a = s.reg a)) ∧
  (∀ (s : State) (h : FrameHead) (ws : List Word) (addrs : List Nat), s.powered = true →
    (twinAccept s 38 h).2 = true → s.get R.TWN_STAT_PSTATE = 3 → s.dev = .standby →
    addrs = copySlice (copyRanges s) s.twin.copyDone (min 256 ws.length) → addrs.Nodup → Runs (.resyncCopy (some (h,
    ws))) s fun t => (∀ x ∈ addrs.zip ws, t.word x.1 = x.2) ∧ t.twin.copyDone = s.twin.copyDone + addrs.length ∧ (∀ x,
    x ∉ addrs → t.word x = s.word x)) ∧
  (∀ (s : State) (h : FrameHead) (units : List UnitSt), s.powered = true → (twinAccept s 38 h).2 = true →
    s.get R.TWN_STAT_PSTATE = 3 → s.twin.fabricDue = true → s.dev = .standby → Runs (.fabricStateCopy (some (h,
    units))) s fun t => t.get R.TWN_STAT_PSTATE = 4 ∧ t.flag R.TWN_EVT_SYNCED = true ∧ t.twin.fabricDue = false ∧
    (t.fabric.units = s.fabric.units.map (fun u => (units.find? (·.id == u.id)).getD u)) ∧
    t = { s with regs := t.regs, fabric := t.fabric, twin := t.twin }) ∧
  (∀ (s : State), s.powered = true → s.get R.TWN_STAT_PSTATE = 3 → s.twin.fabricDue = true → hasStandby s = true →
    s.cycling = true → inGap s = true → s.fabric.quires.toList.all (·.running.isNone) = true →
    s.now + fabricCopyTime s + 1000 ≤ nextMajor s * 31250 →
    Runs (.fabricStateCopy none) s fun t => t.get R.TWN_STAT_PSTATE = 4 ∧ t.flag R.TWN_EVT_SYNCED = true ∧
    t.twin.fabricDue = false ∧ t.twin.sent.head? = some (⟨38, 8, s.now % 2 ^ 36,
    [BitVec.ofNat 36 s.fabric.units.length]⟩ : SentFrame) ∧ t = { s with regs := t.regs, twin := t.twin }) ∧
  (∀ (s : State), s.powered = true → s.get R.TWN_STAT_PSTATE = 3 → s.twin.fabricDue = true → (s.dev = .standby ∨
    hasStandby s = true) → (hasStandby s = false ∨ s.cycling = false ∨ inGap s = false ∨
    s.fabric.quires.toList.all (·.running.isNone) = false ∨ nextMajor s * 31250 < s.now + fabricCopyTime s + 1000) →
    s.twin.skipped < 63 →
    Runs (.fabricStateCopy none) s fun t => t.twin = { s.twin with skipped := s.twin.skipped + 1 } ∧
    t = { s with twin := t.twin }) ∧
  (∀ (s : State), s.powered = true → cyclesDone s = true → s.get R.TWN_STAT_PSTATE = 3 → s.twin.fabricDue = true →
    s.dev = .standby → hasStandby s = false → 63 ≤ s.twin.skipped →
    Runs (.fabricStateCopy none) s fun t => t.dev = .stop ∧ t.get R.TWN_STAT_CAUSE = 9 ∧ t.get R.TWN_STAT_PSTATE = 0) ∧
  (∀ (s : State) (x : Nat × OlcAct), s.powered = true → cyclesDone s = true → s.dev = .standby →
    s.olc.acked = some x → x.2 = .switch → Runs (.goTimeout) s fun t => t.dev = .stop ∧ t.get R.TWN_STAT_CAUSE = 10 ∧
    t.olc.acked = none)

/-- The field link (R14, R15, R373, R374, R386, R390, R391). -/
def Obligations.FieldLinkFrames : Prop :=
  (∀ (s : State) (arr : Bool), s.powered = true → arr = true →
    Runs (.fieldCommandFrame arr) s fun t => t.flag R.FIO_STAT_RELEASE = t.field.frRelease ∧
    t.flag R.FIO_STAT_DRIVE = t.field.frDrive ∧ t.field.frCmd = s.field.cmd ∧ t.field.frFb = s.field.fbReq ∧
    t.field.frRelease = (s.flag R.SYS_STATE_RELEASED || s.cycle.heldRelease) ∧ t.field.frDrive = driveBit s ∧
    t.field.silent = false ∧ t.field.ackDue = 0 ∧ t.field.cfgDue = false ∧
    t.field.configured = (s.field.configured || s.field.cfgDue) ∧
    t.field.fallback = (s.field.fallback && !t.field.frRelease) ∧ t = { s with regs := t.regs, field := t.field }) ∧
  (∀ (s : State), s.powered = true →
    Runs (.fieldCommandFrame false) s fun t => t.flag R.FIO_STAT_RELEASE = (s.flag R.SYS_STATE_RELEASED ||
      s.cycle.heldRelease) ∧ t.field = s.field ∧ t = { s with regs := t.regs }) ∧
  (∀ (s : State), s.powered = true → Runs (.statusFrameMissing) s fun t => t.field.missed = s.field.missed + 1 ∧
    t.field.chans = s.field.chans ∧ (∀ n : Fin 32, chInput (fchWord s n) = true →
    t.flag (R.FIO_CDIAG_STALE n) = true) ∧ t = { s with regs := t.regs, field := t.field }) ∧
  (∀ (s : State), s.powered = true → 32 ≤ s.field.missed → s.field.linkLost = false →
    Runs (.dieLinkLost) s fun t => t.flag R.FIO_STAT_LINK = false ∧ t.flag R.FIO_EVT_LINKLOST = true ∧
    t.field = { s.field with linkLost := true } ∧
    t = { s with regs := t.regs, field := t.field, records := t.records }) ∧
  (∀ (s : State) (amps volts : List Nat) (pins : BitVec 32), s.powered = true →
    Runs (.fieldStatusFrame amps volts pins) s fun t => t.flag R.FIO_STAT_LINK = true ∧ t.field.missed = 0 ∧
    t.field.latchOffs = [] ∧ t.field.restart = false ∧ t.flag R.FIO_STAT_DIEUP = s.field.configured ∧
    (s.metering = false → t.meter = s.meter) ∧
    t = { s with regs := t.regs, field := t.field, records := t.records, meter := t.meter }) ∧
  (∀ (s : State), Runs (.fieldLinkFallback) s fun t => t.field.fallback = true ∧ t.field.silent = true ∧
    t = { s with field := t.field }) ∧
  (∀ (s : State) (g : BitVec 4), Runs (.fieldDiePowerUp g) s fun t => t.field.configured = false ∧
    t.field.restart = true ∧ t.field.fallback = false ∧ t.field.silent = false ∧
    (t.field.chans.toList.all (fun d => !d.stage && d.cfg == 0) = true) ∧ (∀ i : Fin 4,
    (t.group i).phase = if g.getLsbD i then .recovery else .missing) ∧ t = { s with field := t.field }) ∧
  (∀ (s : State) (m : BitVec 4), s.powered = true →
    Runs (.fieldAck m) s fun t => t.field.ackDue = s.field.ackDue ||| (m.toNat &&& s.get R.FIO_STAT_AWAIT) ∧
    t.field.chans = s.field.chans ∧ t = { s with regs := t.regs, field := t.field, records := t.records }) ∧
  (∀ (s : State) (m : BitVec 32), s.powered = true →
    Runs (.latchRestart m) s fun t => t.field.lackDue = s.field.lackDue ||| m.toNat ∧ t = { s with field := t.field })

/-- Field inputs (R378 to R382, R394, R395). -/
def Obligations.FieldInputs : Prop :=
  (∀ (s : State) (ch : Fin 32) (lv : Bool) (seen : Nat), chInput (s.die ch).cfg = true → (s.die ch).level ≠ lv →
    filterPassed (s.die ch) seen = true → Runs (.inputFilterAccept ch ⟨lv, seen⟩) s fun t => (t.die ch).level = lv ∧
    t.field.chans.toList.eraseIdx ch = s.field.chans.toList.eraseIdx ch ∧ (sourceUnwatched s (.field ch lv) = true →
    t = { s with field := t.field })) ∧
  (∀ (s : State) (ch : Fin 32), chType (s.die ch).cfg = 3 → lplusPresent s ch = true → (s.die ch).broken = false →
    Runs (.wireBreak ch) s fun t => (t.die ch).broken = true ∧ (t.die ch).diag.testBit 2 = true ∧
    t.field.chans.toList.eraseIdx ch = s.field.chans.toList.eraseIdx ch ∧ t = { s with field := t.field }) ∧
  (∀ (s : State) (ch : Fin 32), lplusPresent s ch = true →
    Runs (.wireBreakEnd ch) s fun t => (t.die ch).broken = false ∧
    t.field.chans.toList.eraseIdx ch = s.field.chans.toList.eraseIdx ch ∧ t = { s with field := t.field }) ∧
  (∀ (s : State) (ch : Fin 32) (w : Word) (rest : List Word) (r down : Bool), chType (s.die ch).cfg = 4 →
    groupPresent s ch = true → (s.die ch).ctr = w :: rest → (bitsOf w 32 2 &&& (if r then 1 else 2) ≠ 0) →
    down = (bitsOf w 34 2 == 1 || (decide (2 ≤ bitsOf w 34 2) && (s.die (bitsOf w 0 5)).level)) →
    Runs (.counterEdge ch r) s fun t => ((t.die ch).count = (if down then (s.die ch).count + 2 ^ 36 - 1 else (s.die
      ch).count + 1) % 2 ^ 36) ∧
    (t.die ch).diag.testBit 1 = ((s.die ch).diag.testBit 1 || (bitsOf w 30 1 == 1 && (t.die ch).count == (rest.getD 1
      0).toNat)) ∧ t.field.chans.toList.eraseIdx ch = s.field.chans.toList.eraseIdx ch ∧
    (sourceUnwatched s (.counter ch) = true → t = { s with field := t.field })) ∧
  (∀ (s : State) (m : BitVec 32) (ch : Fin 32), s.powered = true → m.getLsbD ch = true → s.field.configured = true →
    chInput (s.die ch).cfg = true → chType (s.die ch).cfg ≠ 4 → groupPresent s ch = true →
    Runs (.frontEndTest m) s fun t => (t.die ch).testing = true ∧ t = { s with field := t.field }) ∧
  (∀ (s : State) (fails : BitVec 32) (ch : Fin 32), s.powered = true → (s.die ch).testing = true →
    Runs (.testDone fails) s fun t => t.flag R.FIO_EVT_TESTDONE = true ∧ (t.die ch).testing = false ∧
    (fails.getLsbD ch = true → (t.reg (R.FIO_CDIAG_STALE ch).addr).getLsbD 8 = true) ∧
    t = { s with regs := t.regs, field := t.field, records := t.records })

/-- Field outputs (R385 to R387, R394); group supplies and how the inputs sample then (R377, R389, R390). -/
def Obligations.FieldOutputs : Prop :=
  (∀ (s : State) (ch : Fin 32), detecting s ch = true → (s.die ch).stage = true → (s.die ch).latched = false →
    min ((s.die ch).tcnt + 1) 15 < chTcyc (s.die ch).cfg →
    Runs (.thermalCycle ch) s fun t => (t.die ch).tcnt = min ((s.die ch).tcnt + 1) 15 ∧ (t.die ch).ilim = true ∧
    (t.die ch).stage = true ∧ (t.die ch).latched = false ∧
    t.field.chans.toList.eraseIdx ch = s.field.chans.toList.eraseIdx ch ∧ t = { s with field := t.field }) ∧
  (∀ (s : State) (ch : Fin 32), detecting s ch = true → (s.die ch).stage = true → (s.die ch).latched = false →
    chTcyc (s.die ch).cfg ≤ min ((s.die ch).tcnt + 1) 15 →
    Runs (.thermalCycle ch) s fun t => (t.die ch).latched = true ∧ (t.die ch).stage = false ∧ (∀ m ∈ pairMates s ch,
    (t.die m).latched = true ∧ (t.die m).stage = false) ∧ (∀ n : Fin 32, n ≠ ch → n.val ∉ pairMates s ch →
    t.die n = s.die n) ∧ t.field.latchOffs = s.field.latchOffs ++ [(ch.val, 1)] ∧ t = { s with field := t.field }) ∧
  (∀ (s : State) (ch : Fin 32), detecting s ch = true → (s.die ch).stage = true → (s.die ch).latched = false →
    Runs (.groupOverload ch) s fun t => (t.die ch).latched = true ∧ (t.die ch).stage = false ∧ (∀ m ∈ pairMates s ch,
    (t.die m).latched = true ∧ (t.die m).stage = false) ∧ (∀ n : Fin 32, n ≠ ch → n.val ∉ pairMates s ch →
    t.die n = s.die n) ∧ t.field.latchOffs = s.field.latchOffs ++ [(ch.val, 2)] ∧ t = { s with field := t.field }) ∧
  (∀ (s : State) (ch : Fin 32), Runs (.tcntReset ch) s fun t => (t.die ch).tcnt = 0 ∧ (t.die ch).ilim = false ∧
    (t.die ch).latched = (s.die ch).latched ∧ t.field.chans.toList.eraseIdx ch = s.field.chans.toList.eraseIdx ch ∧
    t = { s with field := t.field }) ∧
  (∀ (s : State) (ch : Fin 32), detecting s ch = true → (s.die ch).stage = false → pairMates s ch = [] →
    (chWire (s.die ch).cfg = 1 → s.field.frDrive = true ∧ 48 < s.field.driveAge) → (s.die ch).feed = false →
    Runs (.externalFeed ch) s fun t => (t.die ch).feed = true ∧ (t.die ch).stage = false ∧
    t.field.chans.toList.eraseIdx ch = s.field.chans.toList.eraseIdx ch ∧ t = { s with field := t.field }) ∧
  (∀ (s : State) (ch : Fin 32), Runs (.externalFeedEnd ch) s fun t => (t.die ch).feed = false ∧
    (t.die ch).stage = (s.die ch).stage ∧ t = { s with field := t.field }) ∧
  (∀ (s : State) (ch : Fin 32), detecting s ch = true → (s.die ch).stage = true → bitsOf (s.die ch).cfg 12 1 = 1 →
    Runs (.openLoad ch) s fun t => (t.die ch).diag.testBit 6 = true ∧ (t.die ch).stage = true ∧
    t.field.chans.toList.eraseIdx ch = s.field.chans.toList.eraseIdx ch ∧ t = { s with field := t.field }) ∧
  (∀ (s : State) (g : Fin 4), (s.group g).low = false → Runs (.lplusLow g) s fun t => (t.group g).low = true ∧
    (t.group g).newLow = (s.group g).newLow + 1 ∧ (t.group g).phase = (s.group g).phase ∧
    t.field.chans = s.field.chans ∧ t = { s with field := t.field }) ∧
  (∀ (s : State) (g : Fin 4), Runs (.lplusLowEnd g) s fun t => (t.group g).low = false ∧
    (t.group g).phase = (s.group g).phase ∧ t.field.chans = s.field.chans ∧ t = { s with field := t.field }) ∧
  (∀ (s : State) (g : Fin 4) (i : Nat), (s.group g).phase ≠ .missing → i < 8 →
    Runs (.lplusMissing g) s fun t => (t.group g).phase = .missing ∧
    (t.group g).newMissing = (s.group g).newMissing + 1 ∧ (t.die (8 * g + i)).stage = false ∧ (∀ n : Fin 32,
    n.val / 8 ≠ g → (t.die n).stage = (s.die n).stage) ∧ (∀ n : Fin 32, (t.die n).pulsed = samplesPulsed t n) ∧
    t = { s with field := t.field }) ∧
  (∀ (s : State) (g : Fin 4), (s.group g).phase = .missing →
    Runs (.recoveryBegin g) s fun t => (t.group g).phase = .recovery ∧ (∀ n : Fin 32,
    t.die n = { s.die n with pulsed := samplesPulsed t n }) ∧ t = { s with field := t.field }) ∧
  (∀ (s : State) (g : Fin 4), (s.group g).phase = .recovery →
    Runs (.recoveryEnd g) s fun t => ((t.group g).phase = (if s.getBit R.FIO_XAUTO_AUTO g then .ok else .awaiting)) ∧
    (t.group g).newRecovered = (s.group g).newRecovered + 1 ∧ (∀ n : Fin 32,
    t.die n = { s.die n with pulsed := samplesPulsed t n }) ∧ t = { s with field := t.field })

/-- The metering inputs (R400 to R402); the value behind a filter,
a coil integrator or a delay is free (log 12); energies of a line cycle (R407 to R412). -/
def Obligations.MeterInputs : Prop :=
  (∀ (s : State) (i : Fin 24) (raw : Word) (ovr : Bool), inputClocked s i = true →
    s.flag (R.MTR_INCFG_HPF i) = false → s.get (R.MTR_INCFG_KIND i) ≠ 4 → s.flag (R.MTR_INCFG_PHC i) = false →
    Runs (.modulatorSample i raw ovr) s fun t => (t.meter.samples.toList.getD i 0 = (if s.flag (R.MTR_INST_FAULT i)
      then fZero false else (fMul (fOfInt ((if s.flag (R.MTR_INCFG_INV i) then -raw.toInt else raw.toInt) - s.getInt
      (R.MTR_INOFS_OFS i)) 35).val (BitVec.ofNat 36 (s.get (R.MTR_INSCL_SCALE i)))).val)) ∧ (∀ k : Fin 24, k ≠ i →
    t.meter.samples.toList.getD k 0 = s.meter.samples.toList.getD k 0) ∧ t.flag (R.MTR_INST_OVR i) = ovr ∧
    (ovr = true → t.flag R.MTR_EVT_OVR = true) ∧
    (t.get (R.MTR_INST_OVRCNT i) = (if ovr then (s.get (R.MTR_INST_OVRCNT i) + 1) % 2 ^ (R.MTR_INST_OVRCNT i).width
      else s.get (R.MTR_INST_OVRCNT i))) ∧ t.meter.fifo = s.meter.fifo ∧
    t.meter.chs.map (·.totals) = s.meter.chs.map (·.totals) ∧ t = { s with regs := t.regs, meter := t.meter } ∧ (∀ a,
    a ≠ (R.MTR_INST_OVR i).addr → a ≠ R.MTR_EVT_OVR.addr → t.reg a = s.reg a)) ∧
  (∀ (s : State) (i : Fin 24) (raw : Word) (ovr : Bool), inputClocked s i = true →
    (s.flag (R.MTR_INCFG_HPF i) = true ∨ s.get (R.MTR_INCFG_KIND i) = 4 ∨ s.flag (R.MTR_INCFG_PHC i) = true) →
    Runs (.modulatorSample i raw ovr) s fun t => (t.meter.samples.toList.getD i 0 = (if s.flag (R.MTR_INST_FAULT i)
      then fZero false else (fMul (fOfInt (signedOf 36 s.draw.1) 35).val (BitVec.ofNat 36 (s.get (R.MTR_INSCL_SCALE
      i)))).val)) ∧ (∀ k : Fin 24, k ≠ i → t.meter.samples.toList.getD k 0 = s.meter.samples.toList.getD k 0) ∧
    t.flag (R.MTR_INST_OVR i) = ovr ∧ (ovr = true → t.flag R.MTR_EVT_OVR = true) ∧
    (t.get (R.MTR_INST_OVRCNT i) = (if ovr then (s.get (R.MTR_INST_OVRCNT i) + 1) % 2 ^ (R.MTR_INST_OVRCNT i).width
      else s.get (R.MTR_INST_OVRCNT i))) ∧ t.meter.fifo = s.meter.fifo ∧
    t.meter.chs.map (·.totals) = s.meter.chs.map (·.totals) ∧ t.free = s.free + 1 ∧
    t = { s with regs := t.regs, meter := t.meter, free := t.free } ∧ (∀ a, a ≠ (R.MTR_INST_OVR i).addr →
    a ≠ R.MTR_EVT_OVR.addr → t.reg a = s.reg a)) ∧
  (∀ (s : State) (i : Fin 24), inputClocked s i = true → s.flag (R.MTR_INST_FAULT i) = false →
    Runs (.modulatorInputFault i) s fun t => t.flag (R.MTR_INST_FAULT i) = true ∧ t.getBit R.MTR_STAT_INFLT i = true ∧
    t.flag R.MTR_EVT_INFLT = true ∧ t.meter = s.meter ∧
    (s.meter.chs.all (fun c => sourceUnwatched s (.meter (16 * c.idx + 9))) = true → t = { s with regs := t.regs }) ∧
    (s.meter.chs.all (fun c => sourceUnwatched s (.meter (16 * c.idx + 9))) = true → (∀ a,
    a ≠ (R.MTR_INST_FAULT i).addr → a ≠ R.MTR_STAT_INFLT.addr → a ≠ R.MTR_EVT_INFLT.addr → t.reg a = s.reg a))) ∧
  (∀ (s : State) (i : Fin 24), s.metering = true →
    Runs (.modulatorFaultEnd i) s fun t => t.flag (R.MTR_INST_FAULT i) = false ∧ t.getBit R.MTR_STAT_INFLT i = false ∧
    t = { s with regs := t.regs } ∧ (∀ a, a ≠ (R.MTR_INST_FAULT i).addr → a ≠ R.MTR_STAT_INFLT.addr →
    t.reg a = s.reg a)) ∧
  (∀ (s : State) (m : Fin 24) (means : CycleMeans) (c : MeterCh) (w : List Word) (p q : Int) (noref : Bool) (ns :
      Nat), s.metering = true → s.meterCh m = some c → mtrWords s m = w →
    (p = ((mtrPhases w).map fun i => means.vi.getD i 0).sum) →
    (q = ((mtrPhases w).map fun i => means.vq.getD i 0).sum) →
    (noref = (belowPct (means.vv.getD 0 0) (mtrUdin w) 10 || decide (3 ≤ if 14290000 ≤ means.period ∧
    means.period ≤ 25000000 then 0 else c.badPeriods + 1))) → (ns = (if noref then mtrNominal w else means.period)) →
    (((mtrPhases w).all (fun i => decide (means.ii.getD i 0 * 2 ^ 560 < fMag (w.getD 3 0) * fMag (w.getD 3 0) * 10 ^
      12)) || decide (p.natAbs * 2 ^ 280 < fMag (w.getD 4 0) * 10 ^ 12)) = false) →
    Runs (.lineCycleEnd m means) s fun t => ((t.meterCh m).map (·.totals) = some (((List.range 8).map fun i =>
      (accStep (mtrUnit w) (c.totals.getD i 0) (c.residues.getD i 0) ((energies p q (natSqrt (p.natAbs ^ 2 + q.natAbs
      ^ 2) 120 0) ns).getD i 0))).map (·.1))) ∧
    ((t.meterCh m).map (·.residues) = some (((List.range 8).map fun i => (accStep (mtrUnit w) (c.totals.getD i 0)
      (c.residues.getD i 0) ((energies p q (natSqrt (p.natAbs ^ 2 + q.natAbs ^ 2) 120 0) ns).getD i 0))).map (·.2.1)))
      ∧ t.flag (R.MTR_CST_CREEP m) = false ∧ (s.flag R.MTR_TSEL_EN = false → t.meter.fifo = s.meter.fifo) ∧
    (t.meterCh m).map (·.meteredNs) = some (c.meteredNs + ns) ∧
    t.get (R.MTR_CCYC_COUNT m) = (s.get (R.MTR_CCYC_COUNT m) + 1) % 2 ^ 36 ∧
    (t.get (R.MTR_CST_QUAD m) = (if 0 ≤ p then (if 0 ≤ q then 0 else 3) else (if 0 ≤ q then 1 else 2))) ∧
    t.flag (R.MTR_CST_NOREF m) = noref ∧ (t.meterCh m).map (·.begins) = some c.begins ∧
    (bitsOf (w.getD 1 0) 21 3 = 0 → t = { s with regs := t.regs, meter := t.meter })) ∧
  (∀ (s : State) (m : Fin 24) (means : CycleMeans) (c : MeterCh) (w : List Word) (p q : Int) (noref : Bool) (ns :
      Nat), s.metering = true → s.meterCh m = some c → mtrWords s m = w →
    (p = ((mtrPhases w).map fun i => means.vi.getD i 0).sum) →
    (q = ((mtrPhases w).map fun i => means.vq.getD i 0).sum) →
    (noref = (belowPct (means.vv.getD 0 0) (mtrUdin w) 10 || decide (3 ≤ if 14290000 ≤ means.period ∧
    means.period ≤ 25000000 then 0 else c.badPeriods + 1))) → (ns = (if noref then mtrNominal w else means.period)) →
    (((mtrPhases w).all (fun i => decide (means.ii.getD i 0 * 2 ^ 560 < fMag (w.getD 3 0) * fMag (w.getD 3 0) * 10 ^
      12)) || decide (p.natAbs * 2 ^ 280 < fMag (w.getD 4 0) * 10 ^ 12)) = true) →
    Runs (.lineCycleEnd m means) s fun t => (t.meterCh m).map (·.totals) = some c.totals ∧
    (t.meterCh m).map (·.residues) = some c.residues ∧ t.flag (R.MTR_CST_CREEP m) = true ∧
    t.meter.fifo = s.meter.fifo ∧ (t.meterCh m).map (·.meteredNs) = some (c.meteredNs + ns) ∧
    t.get (R.MTR_CCYC_COUNT m) = (s.get (R.MTR_CCYC_COUNT m) + 1) % 2 ^ 36 ∧
    (t.get (R.MTR_CST_QUAD m) = (if 0 ≤ p then (if 0 ≤ q then 0 else 3) else (if 0 ≤ q then 1 else 2))) ∧
    t.flag (R.MTR_CST_NOREF m) = noref ∧ (t.meterCh m).map (·.begins) = some c.begins ∧
    (bitsOf (w.getD 1 0) 21 3 = 0 → t = { s with regs := t.regs, meter := t.meter }))

/-- Commits, demand, pulses and reads of the metering engine (R411, R414 to R416, R422 to R426). -/
def Obligations.MeterRecords : Prop :=
  (∀ (s : State), s.metering = true →
    Runs (.meterCommit) s fun t => t.meter.lastCommit = some (s.get R.WDG_LCLK_GRAIN) ∧ t.meter.chs = s.meter.chs ∧
    t.meter.pqcs = s.meter.pqcs ∧ t.meter.fifo = s.meter.fifo ∧
    (t.keeper.commits = s.keeper.commits ++ (if s.flag R.SYS_STATE_DEFER ∧
    s.power.pfStep = 0 then [] else s.meter.chs.map (fun c => (⟨mtrGroup c.idx, 8, c.totals.zipIdx.map (fun p => (p.2,
    false, p.1)), none⟩ : GroupCommit)) ++ s.meter.pqcs.map (fun c => (⟨pqcGroup c.idx, 1, [(0, false, c.total)],
    none⟩ : GroupCommit)))) ∧ t = { s with regs := t.regs, meter := t.meter, keeper := t.keeper } ∧ (∀ a,
    a ≠ R.KPR_STAT_BUSY.addr → t.reg a = s.reg a)) ∧
  (∀ (s : State) (m : Fin 64) (c : MeterCh), s.metering = true → s.meterCh m = some c →
    dintMinutes (bitsOf ((mtrWords s m).getD 1 0) 24 4) ≠ 0 →
    Runs (.demandIntervalEnd false m) s fun t => t.keeper.demandSeq = (s.keeper.demandSeq + 1) % 2 ^ 36 ∧
    t.get R.KPR_DSEQ_SEQ = (s.keeper.demandSeq + 1) % 2 ^ 36 ∧ (t.meterCh m).map (·.begins) = some c.totals ∧
    (t.meterCh m).map (·.totals) = some c.totals ∧ (t.meterCh m).map (·.meteredNs) = some 0 ∧
    t.flag (R.MTR_CEVT_DEMAND m) = true ∧ t.flag R.MTR_EVT_DEMAND = true ∧
    (sourceUnwatched s (.meter (16 * m.val + 8)) = true →
    t.word (0x405000 + 16 * (s.keeper.demandSeq % 3072)) = BitVec.ofNat 36 s.keeper.demandSeq) ∧
    (sourceUnwatched s (.meter (16 * m.val + 8)) = true →
    (t.words (0x405000 + 16 * (s.keeper.demandSeq % 3072) + 5) 8 = (List.range 8).map (fun i => BitVec.ofNat 36
      (demandDelta (c.begins.getD i 0) (c.totals.getD i 0)).1))) ∧
    (sourceUnwatched s (.meter (16 * m.val + 8)) = true → (∀ x, x < 0x405000 + 16 * (s.keeper.demandSeq % 3072) ∨
    0x405000 + 16 * (s.keeper.demandSeq % 3072) + 16 ≤ x → t.word x = s.word x))) ∧
  (∀ (s : State) (q : Fin 64) (c : PqcCh), s.metering = true → s.meter.pqcs.find? (·.idx == q.val) = some c →
    dintMinutes (bitsOf ((pqcWords s q).getD 0 0) 24 4) ≠ 0 →
    Runs (.demandIntervalEnd true q) s fun t => t.keeper.demandSeq = (s.keeper.demandSeq + 1) % 2 ^ 36 ∧
    (t.meter.pqcs.find? (·.idx == q.val)).map (·.begins) = some c.total ∧
    (t.meter.pqcs.find? (·.idx == q.val)).map (·.total) = some c.total ∧ t.flag R.MTR_EVT_DEMAND = true ∧
    (sourceUnwatched s (.meter (512 + q.val)) = true →
    t.word (0x405000 + 16 * (s.keeper.demandSeq % 3072)) = BitVec.ofNat 36 s.keeper.demandSeq) ∧
    (sourceUnwatched s (.meter (512 + q.val)) = true →
    t.word (0x405000 + 16 * (s.keeper.demandSeq % 3072) + 5) = BitVec.ofNat 36 (demandDelta c.begins c.total).1) ∧
    (sourceUnwatched s (.meter (512 + q.val)) = true → (∀ x, x < 0x405000 + 16 * (s.keeper.demandSeq % 3072) ∨
    0x405000 + 16 * (s.keeper.demandSeq % 3072) + 16 ≤ x → t.word x = s.word x))) ∧
  (∀ (s : State) (pin : Fin 24), s.metering = true → (s.meter.pqcs.map (·.idx)).Nodup →
    (s.meter.pqcs.all (fun c => decide (c.idx < 64)) = true) →
    Runs (.pqcPinEdge pin) s fun t => (t.meter.pqcs = s.meter.pqcs.map (fun c => if (fun c : PqcCh => bitsOf ((pqcWords s c.idx).getD 0 0) 34 2 == 2 && bitsOf ((pqcWords s c.idx).getD 0 0) 28 5 == pin.val) c then { c with total := (c.total + 1) % 2 ^ 72, pulses := c.pulses + 1 } else c)) ∧
    (((s.meter.pqcs.filter (fun c : PqcCh => bitsOf ((pqcWords s c.idx).getD 0 0) 34 2 == 2 && bitsOf ((pqcWords s
      c.idx).getD 0 0) 28 5 == pin.val)).all fun c => t.get (R.MTR_QCNT_COUNT c.idx) == (c.total + 1) % 2 ^ 36) =
      true) ∧ t.meter.chs = s.meter.chs ∧ t = { s with regs := t.regs, meter := t.meter }) ∧
  (∀ (s : State), s.powered = true → s.dev ≠ .boot → s.dev ≠ .load → s.flag R.SYS_STATE_FOLIO = true →
    s.metering = false → s.folio.content.isSome = true → Runs (.meterStart) s fun t => t.flag R.MTR_STAT_RUN = true ∧
    t.meter.fifo = [] ∧ (∀ m : Fin 64,
    (t.meterCh m).isSome = s.handles.channels.any (fun ch => ch.cls == 4 && ch.idx == m.val)) ∧ (∀ m : Fin 64,
    (t.meterCh m).all (fun c => c.totals == (List.range 8).map (groupValue s (mtrGroup m) 8)) = true) ∧ (∀ q : Fin 64,
    (t.meter.pqcs.find? (·.idx == q.val)).all (fun c => c.total == groupValue s (pqcGroup q) 1 0) = true) ∧
    (∀ q : Fin 64,
    (t.meter.pqcs.find? (·.idx == q.val)).isSome = s.handles.channels.any (fun ch => ch.cls == 5 && ch.idx == q.val))
      ∧ (s.meter.lastCommit.isSome = true → t.flag R.MTR_EVT_GAP = true) ∧
    t = { s with regs := t.regs, meter := t.meter, records := t.records }) ∧
  (∀ (s : State), s.powered = true → Runs (.tfifoRead) s fun t => t.meter.fifo = s.meter.fifo.drop 1 ∧
    (t.get R.MTR_TFIFO_TIME = (match s.meter.fifo with | _ :: x :: _ => x % 2 ^ 35 | _ => 0)) ∧
    t.flag R.MTR_TFIFO_VALID = decide (2 ≤ s.meter.fifo.length) ∧ t = { s with regs := t.regs, meter := t.meter } ∧
    (∀ a, a ≠ R.MTR_TFIFO_VALID.addr → t.reg a = s.reg a)) ∧
  (∀ (s : State) (p : Port), s.powered = true →
    Runs (.accumulatorRead p) s fun t => t.get (R.MTR_AL_LOW p) = portTotal s p % 2 ^ 36 ∧
    t.get (R.MTR_AH_HIGH p) = portTotal s p / 2 ^ 36 % 2 ^ 36 ∧ t = { s with regs := t.regs, power := t.power } ∧
    (∀ a, a ≠ (R.MTR_AL_LOW p).addr → a ≠ (R.MTR_AH_HIGH p).addr → t.reg a = s.reg a))

/-- Frames received (R430,
R434 to R436); REC after a good frame above 127 is a free value (log 2); transmission (R437, R440 to R442, R445,
R448). -/
def Obligations.CanReceive : Prop :=
  (∀ (s : State) (n : Fin 4) (f : CanFrame) (age : Nat), s.powered = true → canOnBus s n = true → ((f.fmt = 1 →
    s.flag (R.CAN_CTL_FDEN n) = true) ∧ (f.fmt = 2 → s.flag (R.CAN_CTL_XLEN n) = true)) →
    ((canChannels s n).find? (fun i => canMatches (canWords s i) f) = none) → Runs (.canFrameReceived n ⟨f,
    age⟩) s fun t => t.flag (R.CAN_EVT_RXDROP n) = true ∧
    ((t.canCtl n).rec' = (if 127 < (s.canCtl n).rec' then 119 + s.draw.1 % 9 else (s.canCtl n).rec' - 1)) ∧
    t.mem = s.mem ∧ t = { s with regs := t.regs, can := t.can, records := t.records, free := t.free }) ∧
  (∀ (s : State) (n : Fin 4) (f : CanFrame) (age : Nat) (i : Nat) (w : List Word), s.powered = true →
    canOnBus s n = true → ((f.fmt = 1 → s.flag (R.CAN_CTL_FDEN n) = true) ∧ (f.fmt = 2 →
    s.flag (R.CAN_CTL_XLEN n) = true)) → ((canChannels s n).find? (fun i => canMatches (canWords s i) f) = some i) →
    canWords s i = w → canKind w = 0 → Runs (.canFrameReceived n ⟨f,
    age⟩) s fun t => ((t.canCtl n).rec' = (if 127 < (s.canCtl n).rec' then 119 + s.draw.1 % 9 else (s.canCtl n).rec' -
      1)) ∧ t.get (R.CAN_CNT_RXOK n) = (s.get (R.CAN_CNT_RXOK n) + 1) % 2 ^ 18 ∧ (sourceUnwatched s (.can i) = true →
    t.word (canAddr w) = BitVec.ofNat 36 (2 ^ 35 + bitNat ((s.word (canAddr w)).getLsbD 35 || (s.word (canAddr
      w)).getLsbD 34) * 2 ^ 34 + (bitsOf (s.word (canAddr w)) 0 18 + 1) % 2 ^ 18)) ∧
    (sourceUnwatched s (.can i) = true → t.words (canAddr w + 1) 4 = (canRecord w f (s.now - age)).take 4) ∧
    (sourceUnwatched s (.can i) = true →
    t.words (canAddr w + 6) ((canRecord w f (s.now - age)).drop 5).length = (canRecord w f (s.now - age)).drop 5) ∧
    (sourceUnwatched s (.can i) = true → t.word (canAddr w + 5) = s.word (canAddr w + 5)) ∧
    (sourceUnwatched s (.can i) = true → (∀ x, x < canAddr w ∨
    canAddr w + (canRecord w f (s.now - age)).length + 1 ≤ x → t.word x = s.word x))) ∧
  (∀ (s : State) (n : Fin 4) (f : CanFrame) (age : Nat) (i : Nat) (w : List Word), s.powered = true →
    canOnBus s n = true → ((f.fmt = 1 → s.flag (R.CAN_CTL_FDEN n) = true) ∧ (f.fmt = 2 →
    s.flag (R.CAN_CTL_XLEN n) = true)) → ((canChannels s n).find? (fun i => canMatches (canWords s i) f) = some i) →
    canWords s i = w → canKind w = 1 →
    (bitsOf (s.word (canAddr w)) 18 18 + 2 ^ 18 - bitsOf (s.word (canAddr w)) 0 18) % 2 ^ 18 ≠ canDepth w →
    Runs (.canFrameReceived n ⟨f,
    age⟩) s fun t => ((t.canCtl n).rec' = (if 127 < (s.canCtl n).rec' then 119 + s.draw.1 % 9 else (s.canCtl n).rec' -
      1)) ∧ t.get (R.CAN_CNT_RXOK n) = (s.get (R.CAN_CNT_RXOK n) + 1) % 2 ^ 18 ∧ (sourceUnwatched s (.can i) = true →
    bitsOf (t.word (canAddr w)) 18 18 = (bitsOf (s.word (canAddr w)) 18 18 + 1) % 2 ^ 18) ∧
    (sourceUnwatched s (.can i) = true → bitsOf (t.word (canAddr w)) 0 18 = bitsOf (s.word (canAddr w)) 0 18) ∧
    (sourceUnwatched s (.can i) = true →
    t.words (canAddr w + 2 + bitsOf (s.word (canAddr w)) 18 18 % canDepth w * canRecSize w + 1) 4 = (canRecord w f
      (s.now - age)).take 4) ∧ (sourceUnwatched s (.can i) = true →
    t.words (canAddr w + 2 + bitsOf (s.word (canAddr w)) 18 18 % canDepth w * canRecSize w + 6) ((canRecord w f (s.now
      - age)).drop 5).length = (canRecord w f (s.now - age)).drop 5) ∧ (sourceUnwatched s (.can i) = true → (∀ x,
    x ≠ canAddr w → x < canAddr w + 2 + bitsOf (s.word (canAddr w)) 18 18 % canDepth w * canRecSize w ∨
    canAddr w + 2 + bitsOf (s.word (canAddr w)) 18 18 % canDepth w * canRecSize w + (canRecord w f (s.now -
      age)).length + 1 ≤ x → t.word x = s.word x))) ∧
  (∀ (s : State) (n : Fin 4) (f : CanFrame) (age : Nat) (i : Nat) (w : List Word), s.powered = true →
    canOnBus s n = true → ((f.fmt = 1 → s.flag (R.CAN_CTL_FDEN n) = true) ∧ (f.fmt = 2 →
    s.flag (R.CAN_CTL_XLEN n) = true)) → ((canChannels s n).find? (fun i => canMatches (canWords s i) f) = some i) →
    canWords s i = w → canKind w = 1 →
    (bitsOf (s.word (canAddr w)) 18 18 + 2 ^ 18 - bitsOf (s.word (canAddr w)) 0 18) % 2 ^ 18 = canDepth w →
    Runs (.canFrameReceived n ⟨f,
    age⟩) s fun t => ((t.canCtl n).rec' = (if 127 < (s.canCtl n).rec' then 119 + s.draw.1 % 9 else (s.canCtl n).rec' -
      1)) ∧
    t.word (canAddr w + 2 + (bitsOf (s.word (canAddr w)) 18 18 + 2 ^ 18 - 1) % canDepth w * canRecSize w) = s.word
      (canAddr w + 2 + (bitsOf (s.word (canAddr w)) 18 18 + 2 ^ 18 - 1) % canDepth w * canRecSize w) ||| 0x400000000 ∧
    t.flag (R.CAN_EVT_RXOVR n) = true ∧ t.get (R.CAN_CNT_RXOK n) = s.get (R.CAN_CNT_RXOK n) ∧ (∀ x,
    x ∉ [canAddr w + 2 + (bitsOf (s.word (canAddr w)) 18 18 + 2 ^ 18 - 1) % canDepth w * canRecSize w] →
    t.word x = s.word x)) ∧
  (∀ (s : State) (n : Fin 4) (f : CanFrame) (age : Nat), s.powered = true → canOnBus s n = true → ((f.fmt = 1 ∧
    s.flag (R.CAN_CTL_FDEN n) = false) ∨ (f.fmt = 2 ∧ s.flag (R.CAN_CTL_XLEN n) = false)) →
    Runs (.canFrameReceived n ⟨f, age⟩) s fun t => t.flag (R.CAN_ST_SYNC n) = false ∧ t = { s with regs := t.regs } ∧
    (∀ a, a ≠ (R.CAN_ST_SYNC n).addr → t.reg a = s.reg a)) ∧
  (∀ (s : State) (p : Port) (ch : Channel) (b : CanBuf), (s.dev = .stop ∨ s.dev = .run ∨ s.dev = .halt) →
    (handleChannel s (s.reg (R.CAN_PHND_HANDLE p).addr)).toOption = some ch → ch.cls = 3 → canKind ch.words = 2 →
    ch.bound = false → s.canBuf ch.idx = some b → b.pend = false →
    Runs (.txreq p) s fun t => t.get (R.CAN_PCMD_STATUS p) = 2 ∧
    t.canBuf ch.idx = some { b with pend := true, marked := false, begun := false } ∧
    (t.word (canAddr ch.words)).getLsbD 35 = true ∧ (t.word (canAddr ch.words)).getLsbD 34 = false ∧ (∀ x,
    x < canAddr ch.words ∨ canAddr ch.words + 1 ≤ x → t.word x = s.word x)) ∧
  (∀ (s : State) (p : Port) (ch : Channel) (b : CanBuf), (s.dev = .stop ∨ s.dev = .run ∨ s.dev = .halt) →
    (handleChannel s (s.reg (R.CAN_PHND_HANDLE p).addr)).toOption = some ch → ch.cls = 3 → canKind ch.words = 2 →
    ch.bound = false → s.canBuf ch.idx = some b → b.pend = true →
    Runs (.txreq p) s fun t => t.get (R.CAN_PCMD_STATUS p) = 2 ∧ t.can = s.can ∧ t.mem = s.mem) ∧
  (∀ (s : State) (p : Port) (ch : Channel) (b : CanBuf), (s.dev = .stop ∨ s.dev = .run ∨ s.dev = .halt) →
    (handleChannel s (s.reg (R.CAN_PHND_HANDLE p).addr)).toOption = some ch → ch.cls = 3 → canKind ch.words = 2 →
    ch.bound = false → s.canBuf ch.idx = some b → b.pend = true →
    Runs (.cancel p false) s fun t => t.get (R.CAN_PCMD_STATUS p) = 2 ∧
    t.canBuf ch.idx = some { b with pend := false, marked := false, begun := false } ∧
    (t.word (canAddr ch.words)).getLsbD 35 = false ∧ (t.word (canAddr ch.words)).getLsbD 34 = true ∧ (∀ x,
    x < canAddr ch.words ∨ canAddr ch.words + 1 ≤ x → t.word x = s.word x)) ∧
  (∀ (s : State) (p : Port) (ch : Channel) (b : CanBuf), (s.dev = .stop ∨ s.dev = .run ∨ s.dev = .halt) →
    (handleChannel s (s.reg (R.CAN_PHND_HANDLE p).addr)).toOption = some ch → ch.cls = 3 → canKind ch.words = 2 →
    ch.bound = false → s.canBuf ch.idx = some b → b.pend = true →
    Runs (.cancel p true) s fun t => t.get (R.CAN_PCMD_STATUS p) = 3 ∧
    t.canBuf ch.idx = some { b with marked := true } ∧ t = { s with regs := t.regs, can := t.can, power := t.power } ∧
    (∀ a, a ≠ (R.CAN_PCMD_STATUS p).addr → t.reg a = s.reg a)) ∧
  (∀ (s : State) (p : Port) (ch : Channel) (b : CanBuf) (sent : Bool), (s.dev = .stop ∨ s.dev = .run ∨
    s.dev = .halt) → (handleChannel s (s.reg (R.CAN_PHND_HANDLE p).addr)).toOption = some ch → ch.cls = 3 →
    canKind ch.words = 2 → ch.bound = false → s.canBuf ch.idx = some b → b.pend = false →
    Runs (.cancel p sent) s fun t => t.get (R.CAN_PCMD_STATUS p) = 2 ∧ t.can = s.can ∧ t.mem = s.mem) ∧
  (∀ (s : State) (p : Port), s.powered = true → (¬(s.dev = .stop ∨ s.dev = .run ∨ s.dev = .halt)) →
    Runs (.txreq p) s fun t => (t.get (R.CAN_PCMD_STATUS p) = (if s.dev = .standby then 7 else 4)) ∧
    t = { s with regs := t.regs, power := t.power } ∧ (∀ a, a ≠ (R.CAN_PCMD_STATUS p).addr → t.reg a = s.reg a)) ∧
  (∀ (s : State) (p : Port) (sent : Bool), s.powered = true → (¬(s.dev = .stop ∨ s.dev = .run ∨ s.dev = .halt)) →
    Runs (.cancel p sent) s fun t => (t.get (R.CAN_PCMD_STATUS p) = (if s.dev = .standby then 7 else 4)) ∧
    t = { s with regs := t.regs, power := t.power } ∧ (∀ a, a ≠ (R.CAN_PCMD_STATUS p).addr → t.reg a = s.reg a)) ∧
  (∀ (s : State) (n : Fin 4) (age : Nat) (i : Nat) (w : List Word) (b : CanBuf), s.powered = true →
    canSends s n = true → canSending s n = some i → canWords s i = w → s.canBuf i = some b → Runs (.canFrameSent ⟨n,
    age⟩) s fun t => (t.canCtl n).tec = (s.canCtl n).tec - 1 ∧ (t.canCtl n).noAck = 0 ∧
    t.canBuf i = some { b with pend := false, marked := false, begun := false } ∧
    (t.word (canAddr w)).getLsbD 35 = false ∧ (t.word (canAddr w)).getLsbD 34 = false ∧
    bitsOf (t.word (canAddr w)) 0 18 = (bitsOf (s.word (canAddr w)) 0 18 + 1) % 2 ^ 18 ∧
    t.word (canAddr w + 4) = BitVec.ofNat 36 ((s.now - age) % 2 ^ 36) ∧
    t.words (canAddr w + 1) 3 = s.words (canAddr w + 1) 3 ∧
    t.get (R.CAN_CNT_TXOK n) = (s.get (R.CAN_CNT_TXOK n) + 1) % 2 ^ 18 ∧ (∀ x, x < canAddr w ∨ canAddr w + 5 ≤ x →
    t.word x = s.word x) ∧
    t = { s with regs := t.regs, can := t.can, records := t.records, mem := t.mem, poison := t.poison, keeper := t.keeper, olc := t.olc }) ∧
  (∀ (s : State) (n : Fin 4) (cause : CanTxError) (i : Nat) (w : List Word) (b : CanBuf), s.powered = true →
    canSends s n = true → canSending s n = some i → canWords s i = w → s.canBuf i = some b →
    cause ≠ .lostArbitration → b.marked = false → (w.getD 1 0).getLsbD 35 = false →
    Runs (.canTxError n cause) s fun t => t.get (R.CAN_ST_LEC n) = cause.lec ∧ t.flag (R.CAN_EVT_ERR n) = true ∧
    ((t.canCtl n).tec = (s.canCtl n).tec + (if (match cause with | .ack d => s.get (R.CAN_ST_ERRST n) == 1 && !d | .stuff a => a | _ => false) then 0 else 8)) ∧
    t.get (R.CAN_ERRC_ERRS n) = (s.get (R.CAN_ERRC_ERRS n) + 1) % 2 ^ 18 ∧
    t.canBuf i = some { b with begun := false } ∧ (cause.inData = false → t.mem = s.mem) ∧ (∀ x, x ∉ [canAddr w] →
    t.word x = s.word x) ∧
    t = { s with regs := t.regs, can := t.can, records := t.records, mem := t.mem, poison := t.poison, keeper := t.keeper, olc := t.olc }) ∧
  (∀ (s : State) (n : Fin 4) (i : Nat) (w : List Word) (b : CanBuf), s.powered = true → canSends s n = true →
    canSending s n = some i → canWords s i = w → s.canBuf i = some b → b.marked = false →
    (w.getD 1 0).getLsbD 35 = false →
    Runs (.canTxError n .lostArbitration) s fun t => t = s.setCanBuf { b with begun := false }) ∧
  (∀ (s : State) (n : Fin 4) (cause : CanTxError) (i : Nat) (w : List Word) (b : CanBuf), s.powered = true →
    canSends s n = true → canSending s n = some i → canWords s i = w → s.canBuf i = some b → b.marked = true →
    Runs (.canTxError n cause) s fun t => t.canBuf i = some { b with pend := false, marked := false, begun := false } ∧
    (t.word (canAddr w)).getLsbD 35 = false ∧ (t.word (canAddr w)).getLsbD 34 = true ∧ (∀ x, x < canAddr w ∨
    canAddr w + 1 ≤ x → t.word x = s.word x)) ∧
  (∀ (s : State) (n : Fin 4) (cause : CanTxError) (i : Nat) (w : List Word) (b : CanBuf), s.powered = true →
    canSends s n = true → canSending s n = some i → canWords s i = w → s.canBuf i = some b → b.marked = false →
    (w.getD 1 0).getLsbD 35 = true →
    Runs (.canTxError n cause) s fun t => t.canBuf i = some { b with pend := false, marked := false, begun := false } ∧
    (t.word (canAddr w)).getLsbD 35 = false ∧ (t.word (canAddr w)).getLsbD 34 = false ∧ (∀ x, x < canAddr w ∨
    canAddr w + 1 ≤ x → t.word x = s.word x))

/-- The controllers (R431, R432, R442 to R445, R449). -/
def Obligations.CanControllers : Prop :=
  (∀ (s : State) (n : Fin 4) (lec : Fin 7) (dom : Bool), s.powered = true → canOnBus s n = true →
    Runs (.canRxError n lec dom) s fun t => t.get (R.CAN_ST_LEC n) = lec.val ∧ t.flag (R.CAN_EVT_ERR n) = true ∧
    ((t.canCtl n).rec' = (s.canCtl n).rec' + (if dom then 8 else 1)) ∧ (t.canCtl n).tec = (s.canCtl n).tec ∧
    t.get (R.CAN_ERRC_ERRS n) = (s.get (R.CAN_ERRC_ERRS n) + 1) % 2 ^ 18 ∧
    t = { s with regs := t.regs, can := t.can, records := t.records }) ∧
  (∀ (s : State) (n : Fin 4), s.powered = true → s.get (R.CAN_ST_ERRST n) = 2 → (s.flag (R.CAN_CTL_AUTOREC n) = true ∨
    (s.canCtl n).recovering = true) → Runs (.busoffRecovery n) s fun t => (t.canCtl n).tec = 0 ∧
    (t.canCtl n).rec' = 0 ∧ t.get (R.CAN_ST_ERRST n) = 0 ∧ t.flag (R.CAN_ST_SYNC n) = true ∧
    t.flag (R.CAN_EVT_RECOVERED n) = true ∧ t.can.bufs = s.can.bufs ∧ t = { s with regs := t.regs, can := t.can }) ∧
  (∀ (s : State) (n : Fin 4), s.powered = true → s.get (R.CAN_ST_ERRST n) = 2 →
    Runs (.recover n) s fun t => (t.canCtl n).recovering = true ∧ (t.canCtl n).tec = (s.canCtl n).tec ∧
    t = { s with can := t.can }) ∧
  (∀ (s : State) (n : Fin 4), s.powered = true → s.get (R.CAN_CTL_MODE n) = 4 →
    Runs (.canSleep n) s fun t => t.getBit R.CAN_STAT_SLEEP n = true ∧ t.flag (R.CAN_ST_SYNC n) = false ∧
    t.getBit R.CLK_GATE_CAN n = (s.get (R.CAN_CTL_WAKE n) == 1) ∧ t = { s with regs := t.regs } ∧ (∀ a,
    a ≠ R.CAN_STAT_SLEEP.addr → a ≠ (R.CAN_ST_SYNC n).addr → a ≠ R.CLK_GATE_CAN.addr → a ≠ R.CLK_STAT_PERLOCK.addr →
    t.reg a = s.reg a)) ∧
  (∀ (s : State) (n : Fin 4) (fr : Option CanFrame) (age : Nat), s.powered = true → canServes s = true →
    s.getBit R.CAN_STAT_SLEEP n = true → s.get (R.CAN_CTL_MODE n) = 4 → s.get (R.CAN_CTL_WAKE n) = 1 →
    Runs (.canWake n ⟨fr, age⟩) s fun t => t.get (R.CAN_CTL_MODE n) = 1 ∧ t.getBit R.CLK_GATE_CAN n = false ∧
    t.flag (R.CAN_EVT_WAKE n) = true ∧ t.can = s.can ∧ (sourceUnwatched s (.can (512 + n.val)) = true →
    t = { s with regs := t.regs })) ∧
  (∀ (s : State) (n : Fin 4) (f : CanFrame) (age : Nat), s.powered = true → canServes s = true →
    s.getBit R.CAN_STAT_SLEEP n = true → s.get (R.CAN_CTL_MODE n) = 4 → s.get (R.CAN_CTL_WAKE n) = 2 →
    f.ide = (s.get (R.CAN_WID_ID n)).testBit 29 →
    f.id &&& s.get (R.CAN_WMSK_MASK n) = s.get (R.CAN_WID_ID n) % 2 ^ 29 &&& s.get (R.CAN_WMSK_MASK n) →
    Runs (.canWake n ⟨some f, age⟩) s fun t => t.get (R.CAN_CTL_MODE n) = 1 ∧ t.flag (R.CAN_EVT_WAKE n) = true ∧
    t = canReceive (canWakeUp s n) n f (s.now - age)) ∧
  (∀ (s : State) (m : Fin 18) (n : Fin 4) (v : Word) (b t1 t2 db d1 d2 : Nat), s.powered = true →
    canRates v = some ((b, t1, t2), (db, d1, d2)) → canRateLegal v = true →
    Runs (.canRateWrite m n v) s fun t => t.get (R.CAN_BR_NRATE n) = bitsOf v 25 11 ∧
    (t.get (R.CAN_XNBT_NBRP n) = (if s.overridden.contains ((R.CAN_XNBT_NBRP n).addr,
    (R.CAN_XNBT_NBRP n).lo) then s.get (R.CAN_XNBT_NBRP n) else (b - 1) % 2 ^ 9)) ∧
    (t.get (R.CAN_XNBT_NTSEG1 n) = (if s.overridden.contains ((R.CAN_XNBT_NTSEG1 n).addr,
    (R.CAN_XNBT_NTSEG1 n).lo) then s.get (R.CAN_XNBT_NTSEG1 n) else t1 % 2 ^ 9)) ∧
    (t.get (R.CAN_XNBT_NTSEG2 n) = (if s.overridden.contains ((R.CAN_XNBT_NTSEG2 n).addr,
    (R.CAN_XNBT_NTSEG2 n).lo) then s.get (R.CAN_XNBT_NTSEG2 n) else t2 % 2 ^ 8)) ∧
    (t.get (R.CAN_XNBT_NSJW n) = (if s.overridden.contains ((R.CAN_XNBT_NSJW n).addr,
    (R.CAN_XNBT_NSJW n).lo) then s.get (R.CAN_XNBT_NSJW n) else t2 % 2 ^ (R.CAN_XNBT_NSJW n).width)) ∧
    (t.get (R.CAN_XDBT_DBRP n) = (if s.overridden.contains ((R.CAN_XDBT_DBRP n).addr,
    (R.CAN_XDBT_DBRP n).lo) then s.get (R.CAN_XDBT_DBRP n) else (db - 1) % 2 ^ 5)) ∧
    (t.get (R.CAN_XDBT_DTSEG1 n) = (if s.overridden.contains ((R.CAN_XDBT_DTSEG1 n).addr,
    (R.CAN_XDBT_DTSEG1 n).lo) then s.get (R.CAN_XDBT_DTSEG1 n) else d1 % 2 ^ 6)) ∧
    (t.get (R.CAN_XDBT_DTSEG2 n) = (if s.overridden.contains ((R.CAN_XDBT_DTSEG2 n).addr,
    (R.CAN_XDBT_DTSEG2 n).lo) then s.get (R.CAN_XDBT_DTSEG2 n) else d2 % 2 ^ (R.CAN_XDBT_DTSEG2 n).width)) ∧
    (t.get (R.CAN_XDBT_DSJW n) = (if s.overridden.contains ((R.CAN_XDBT_DSJW n).addr,
    (R.CAN_XDBT_DSJW n).lo) then s.get (R.CAN_XDBT_DSJW n) else d2 % 2 ^ (R.CAN_XDBT_DSJW n).width)) ∧
    (t.get (R.CAN_XDBT_TDCO n) = (if s.overridden.contains ((R.CAN_XDBT_TDCO n).addr,
    (R.CAN_XDBT_TDCO n).lo) then s.get (R.CAN_XDBT_TDCO n) else (d1 + 1) % 2 ^ (R.CAN_XDBT_TDCO n).width)) ∧
    t = { s with regs := t.regs, power := t.power } ∧ (∀ a, a ≠ (R.CAN_BR_NRATE n).addr →
    a ≠ (R.CAN_XNBT_NBRP n).addr → a ≠ (R.CAN_XDBT_DBRP n).addr → t.reg a = s.reg a)) ∧
  (∀ (s : State) (m : Fin 18) (n : Fin 4) (v : Word), s.powered = true → canRateLegal v = false →
    Runs (.canRateWrite m n v) s fun t => t = (s.usedBy m).rsvd m (R.CAN_BR_NRATE n).addr) ∧
  (∀ (s : State) (n : Fin 4), s.powered = true →
    Runs (.canTimingApply n) s fun t => (t.canCtl n).nbt = s.reg (R.CAN_XNBT_NBRP n).addr ∧
    (t.canCtl n).dbt = s.reg (R.CAN_XDBT_DBRP n).addr ∧ (t.canCtl n).tec = (s.canCtl n).tec ∧
    t = { s with can := t.can }) ∧
  (∀ (s : State) (n : Fin 4), s.powered = true → 1 ≤ s.get (R.CAN_CTL_MODE n) → s.get (R.CAN_CTL_MODE n) ≤ 3 →
    s.get (R.CAN_ST_ERRST n) ≠ 2 → Runs (.canBusIntegration n) s fun t => t.flag (R.CAN_ST_SYNC n) = true ∧
    t = { s with regs := t.regs } ∧ (∀ a, a ≠ (R.CAN_ST_SYNC n).addr → t.reg a = s.reg a))

/-- The network-time unit (R453 to R459, R476); the law of the servo is open,
and its rate a free value (log 127); changes of time and triggers (R456, R457, R462, R463). -/
def Obligations.NetworkTimeCommands : Prop :=
  (∀ (s : State) (d : Fin 2) (ofs : Int) (utc : Option (BitVec 16)) (gm : Bool), s.powered = true →
    timeMaster s = true → ptpMode s d = true → ofs.natAbs ≤ 4 * stepThreshold s →
    Runs (.ptpMessage d ofs utc gm) s fun t => t.get (R.NTM_DOFS_OFS d) = natOfInt 36 (saturate 36 ofs) ∧
    (16 ≤ (if ofs.natAbs < 4000 then s.time.good.toList.getD d 0 + 1 else 0) → t.get (R.NTM_DSTAT_STATE d) = 2) ∧
    t.free = s.free + 1 ∧ t.time.dom = s.time.dom ∧ t.time.domSlew.toList.getD d 0 = -ofs * 250000 ∧
    t.time.notices = s.time.notices ∧
    t = { s with regs := t.regs, time := t.time, records := t.records, free := t.free }) ∧
  (∀ (s : State) (d : Fin 2) (ofs : Int) (utc : Option (BitVec 16)) (gm : Bool), s.powered = true →
    timeMaster s = true → ptpMode s d = true → 4 * stepThreshold s < ofs.natAbs → stepDue s d = false →
    Runs (.ptpMessage d ofs utc gm) s fun t => t.get (R.NTM_DOFS_OFS d) = natOfInt 36 (saturate 36 ofs) ∧
    (16 ≤ (if ofs.natAbs < 4000 then s.time.good.toList.getD d 0 + 1 else 0) → t.get (R.NTM_DSTAT_STATE d) = 2) ∧
    t.free = s.free + 1 ∧ t.time.dom = s.time.dom ∧ t.time.notices = s.time.notices ++ [⟨changeInstant s,
    .step d (-(ofs / 4)), false⟩] ∧ t.flag R.NTM_STAT_PEND = true ∧ t.time.domSlew = s.time.domSlew ∧
    t = { s with regs := t.regs, time := t.time, records := t.records, free := t.free }) ∧
  (∀ (s : State) (d : Fin 2) (ofs : Int) (utc : Option (BitVec 16)) (gm : Bool), s.powered = true →
    timeMaster s = true → ptpMode s d = true → 4 * stepThreshold s < ofs.natAbs → stepDue s d = true →
    Runs (.ptpMessage d ofs utc gm) s fun t => t.get (R.NTM_DOFS_OFS d) = natOfInt 36 (saturate 36 ofs) ∧
    (16 ≤ (if ofs.natAbs < 4000 then s.time.good.toList.getD d 0 + 1 else 0) → t.get (R.NTM_DSTAT_STATE d) = 2) ∧
    t.free = s.free + 1 ∧ t.time.dom = s.time.dom ∧ t.time.notices = s.time.notices ∧
    t.time.domSlew = s.time.domSlew ∧
    t = { s with regs := t.regs, time := t.time, records := t.records, free := t.free }) ∧
  (∀ (s : State) (d : Fin 2), s.powered = true → timeMaster s = true → ptpMode s d = true →
    (s.get (R.NTM_DSTAT_STATE d) = 1 ∨ s.get (R.NTM_DSTAT_STATE d) = 2) →
    Runs (.sourceLoss d) s fun t => t.get (R.NTM_DSTAT_STATE d) = 3 ∧ t.flag R.NTM_EVT_SRCLOSS = true ∧
    t.flag R.NTM_EVT_HOLD = true ∧ t = { s with regs := t.regs, time := t.time, records := t.records }) ∧
  (∀ (s : State) (d : Fin 2), s.powered = true → s.get (R.NTM_DSTAT_STATE d) = 3 →
    Runs (.holdoverExpiry d) s fun t => t.get (R.NTM_DSTAT_STATE d) = 4 ∧ t.flag R.NTM_EVT_FREE = true ∧
    t = { s with regs := t.regs } ∧ (∀ a, a ≠ (R.NTM_DSTAT_STATE d).addr → a ≠ R.NTM_STAT_Q0.addr →
    a ≠ R.NTM_EVT_FREE.addr → t.reg a = s.reg a)) ∧
  (∀ (s : State) (m : Fin 18) (d : Fin 2), (s.dev = .stop ∨ s.dev = .run ∨ s.dev = .halt) → timeMaster s = true →
    s.get R.NTM_CMD_STATUS ≠ 1 → s.time.active ≠ some d.val →
    Runs (.switch m d) s fun t => t.get R.NTM_CMD_STATUS = 1 ∧ t.time.notices = s.time.notices ++ [⟨changeInstant s,
    .switch d none, true⟩] ∧ t.time.active = s.time.active ∧ t.flag R.NTM_STAT_PEND = true ∧
    t = { s with regs := t.regs, time := t.time, power := t.power } ∧ (∀ a, a ≠ R.NTM_CMD_STATUS.addr →
    a ≠ R.NTM_STAT_PEND.addr → t.reg a = s.reg a)) ∧
  (∀ (s : State) (m : Fin 18) (d : Fin 2), (s.dev = .stop ∨ s.dev = .run ∨ s.dev = .halt) → timeMaster s = true →
    s.get R.NTM_CMD_STATUS ≠ 1 → s.time.active = some d.val →
    Runs (.switch m d) s fun t => t.get R.NTM_CMD_STATUS = 2 ∧ t = { s with regs := t.regs, power := t.power } ∧ (∀ a,
    a ≠ R.NTM_CMD_STATUS.addr → t.reg a = s.reg a)) ∧
  (∀ (s : State) (m : Fin 18) (d : Fin 2), s.powered = true → (¬(timeMaster s = true ∧ (s.dev = .stop ∨ s.dev = .run ∨
    s.dev = .halt))) → s.get R.NTM_CMD_STATUS ≠ 1 →
    Runs (.switch m d) s fun t => (t.get R.NTM_CMD_STATUS = (if timeMaster s then 3 else 5)) ∧
    t = { s with regs := t.regs, power := t.power } ∧ (∀ a, a ≠ R.NTM_CMD_STATUS.addr → t.reg a = s.reg a)) ∧
  (∀ (s : State) (m : Fin 18) (d : Fin 2), (s.dev = .stop ∨ s.dev = .run ∨ s.dev = .halt) → timeMaster s = true →
    s.get R.NTM_CMD_STATUS ≠ 1 → (s.get (R.NTM_DCFG_MODE d) = 5 ∨ s.get (R.NTM_DCFG_MODE d) = 1) →
    Runs (.set m d) s fun t => t.get R.NTM_CMD_STATUS = 1 ∧ t.time.notices = s.time.notices ++ [⟨changeInstant s,
    .step d 0, true⟩] ∧ t.flag R.NTM_STAT_PEND = true ∧
    t = { s with regs := t.regs, time := t.time, power := t.power } ∧ (∀ a, a ≠ R.NTM_CMD_STATUS.addr →
    a ≠ R.NTM_STAT_PEND.addr → t.reg a = s.reg a)) ∧
  (∀ (s : State), s.powered = true → Runs (.slewDone) s fun t => t.time.delta = 0 ∧ t.get R.NTM_DELTA_DELTA = 0 ∧
    t.flag R.NTM_STAT_SLEW = false ∧ t = { s with regs := t.regs, time := t.time } ∧ (∀ a,
    a ≠ R.NTM_DELTA_DELTA.addr → a ≠ R.NTM_STAT_SLEW.addr → t.reg a = s.reg a)) ∧
  (∀ (s : State) (p : Port), s.powered = true →
    Runs (.timeSnapshot p) s fun t => t.get (R.NTM_PAL_A p) = s.now % 2 ^ 36 ∧
    t.get (R.NTM_PAH_A p) = s.now / 2 ^ 36 % 2 ^ 36 ∧ t.get (R.NTM_PD0L_D0 p) = s.domain 0 % 2 ^ 36 ∧
    t.get (R.NTM_PD0H_D0 p) = s.domain 0 / 2 ^ 36 % 2 ^ 36 ∧ t.get (R.NTM_PD1L_D1 p) = s.domain 1 % 2 ^ 36 ∧
    t.get (R.NTM_PD1H_D1 p) = s.domain 1 / 2 ^ 36 % 2 ^ 36 ∧ t.get (R.NTM_PLOC_LOC p) = s.time.loc % 2 ^ 36 ∧
    t.get (R.NTM_PSNAP_SEQ p) = (s.get (R.NTM_PSNAP_SEQ p) + 1) % 2 ^ (R.NTM_PSNAP_SEQ p).width ∧
    t = { s with regs := t.regs, power := t.power } ∧ (∀ a, a ≠ (R.NTM_PAH_A p).addr → a ≠ (R.NTM_PAL_A p).addr →
    a ≠ (R.NTM_PD0H_D0 p).addr → a ≠ (R.NTM_PD0L_D0 p).addr → a ≠ (R.NTM_PD1H_D1 p).addr →
    a ≠ (R.NTM_PD1L_D1 p).addr → a ≠ (R.NTM_PLOC_LOC p).addr → a ≠ (R.NTM_PSNAP_SEQ p).addr → t.reg a = s.reg a)) ∧
  (∀ (s : State) (at' d : Nat) (given : Option Int) (cmd : Bool) (rest : List TimeNotice), s.powered = true →
    s.time.notices = ⟨at', .switch d given, cmd⟩ :: rest → (rest.all (fun n => decide (at' < n.at')) = true) →
    Runs (.timeNoticeApply) s fun t => t.time.notices = rest ∧ t.time.active = some d ∧ t.get R.NTM_STAT_ACT = d % 2 ∧
    t.flag R.NTM_STAT_PEND = !rest.isEmpty ∧ t.flag R.NTM_EVT_SWITCH = true ∧
    (t.get R.NTM_CMD_STATUS = (if cmd then 2 else s.get R.NTM_CMD_STATUS)) ∧ t.time.dom = s.time.dom ∧
    (t.time.delta = (if (given.getD (((s.now : Int) - (s.domain d : Int)) * 1000000)).natAbs ≤ stepThreshold s *
      1000000 then given.getD (((s.now : Int) - (s.domain d : Int)) * 1000000) else 0)) ∧
    (stepThreshold s * 1000000 < (given.getD (((s.now : Int) - (s.domain d : Int)) * 1000000)).natAbs →
    t.flag R.NTM_EVT_STEP = true) ∧ (∀ e : Fin 32, s.get (R.CYC_ETCFG_SRC e) ≠ 3 → t.mem = s.mem)) ∧
  (∀ (s : State) (at' d : Nat) (by' : Int) (rest : List TimeNotice), s.powered = true → d < 2 → s.time.notices = ⟨at',
    .step d by', false⟩ :: rest → (rest.all (fun n => decide (at' < n.at')) = true) →
    Runs (.timeNoticeApply) s fun t => t.time.notices = rest ∧ t.domain d = natOfInt 72 ((s.domain d : Int) + by') ∧
    t.domain (1 - d) = s.domain (1 - d) ∧ t.time.active = s.time.active ∧ (s.time.active = some d →
    t.flag R.NTM_EVT_STEP = true) ∧ (∀ e : Fin 32, s.get (R.CYC_ETCFG_SRC e) ≠ 3 → t.mem = s.mem)) ∧
  (∀ (s : State) (at' d : Nat) (by' : Int) (rest : List TimeNotice), s.powered = true → d < 2 → s.time.notices = ⟨at',
    .step d by', true⟩ :: rest → (rest.all (fun n => decide (at' < n.at')) = true) →
    Runs (.timeNoticeApply) s fun t => t.time.notices = rest ∧
    t.domain d = (s.get R.NTM_SETH_VALUE * 2 ^ 36 + s.get R.NTM_SETL_VALUE) % 2 ^ 72 ∧
    t.domain (1 - d) = s.domain (1 - d) ∧ t.get R.NTM_CMD_STATUS = 2 ∧ t.time.active = s.time.active ∧ (∀ e : Fin 32,
    s.get (R.CYC_ETCFG_SRC e) ≠ 3 → t.mem = s.mem)) ∧
  (∀ (s : State) (i : Fin 256) (ch : Channel) (e : TmrSt), s.powered = true → s.channel 6 i = some ch →
    s.tmr i = some e → e.armed = true → bitsOf (ch.words.getD 0 0) 34 2 ≠ 2 →
    Runs (.tmrExpiry i) s fun t => (t.tmr i).map (·.count) = some ((e.count + 1) % 2 ^ 18) ∧
    (t.tmr i).map (·.time) = some (instant36 e.next) ∧
    (t.tmr i).map (·.armed) = some (bitsOf (ch.words.getD 0 0) 34 2 == 1) ∧
    (t.tmr i).map (·.next) = some (e.next + (ch.words.getD 2 0).toNat) ∧ (sourceUnwatched s (.time i) = true →
    t = { s with time := t.time })) ∧
  (∀ (s : State) (i : Fin 256) (ch : Channel) (e : TmrSt) (r : Bool), s.powered = true → s.channel 6 i = some ch →
    s.tmr i = some e → bitsOf (ch.words.getD 0 0) 34 2 = 2 →
    (bitsOf (ch.words.getD 0 0) 32 2 &&& (if r then 1 else 2) ≠ 0) →
    Runs (.tmrCapture i r) s fun t => (t.tmr i).map (·.count) = some ((e.count + 1) % 2 ^ 18) ∧
    (t.tmr i).map (·.time) = some (instant36 s.now) ∧ (t.tmr i).map (·.armed) = some e.armed ∧
    (sourceUnwatched s (.time i) = true → t = { s with time := t.time }))

/-- The calendar (R466 to R471); the WDAY of a synchronisation is a free value (log 11); the alarm and the periodic
  wake (R472, R473); the windowed watchdog (R478 to R485). -/
def Obligations.CalendarCounts : Prop :=
  (∀ (s : State), s.calendar.applyDue = false → s.calendar.shiftDue = none → s.calendar.grain + 1 < 32768 →
    Runs (.grainBoundary) s fun t => t.calendar.grain = s.calendar.grain + 1 ∧ t.calendar.date = s.cal.date ∧
    t.calendar.time = s.cal.time ∧
    (t.get R.WDG_LCLK_GRAIN = (if s.power.vaonLost then s.get R.WDG_LCLK_GRAIN else (s.get R.WDG_LCLK_GRAIN + 1) % 2 ^
      36)) ∧ t.flag R.RTC_STAT_PEND = false ∧ t = { s with regs := t.regs, calendar := t.calendar } ∧ (∀ a,
    a ≠ R.WDG_LCLK_GRAIN.addr → a ≠ R.RTC_STAT_PEND.addr → t.reg a = s.reg a)) ∧
  (∀ (s : State), s.calendar.applyDue = false → s.calendar.shiftDue = none → 32768 ≤ s.calendar.grain + 1 →
    Runs (.grainBoundary) s fun t => t.calendar.grain = 0 ∧ t.calendar.date = (secondAdvance s.cal).date ∧
    t.calendar.time = (secondAdvance s.cal).time ∧
    (t.get R.WDG_LCLK_GRAIN = (if s.power.vaonLost then s.get R.WDG_LCLK_GRAIN else (s.get R.WDG_LCLK_GRAIN + 1) % 2 ^
      36)) ∧ t.flag R.RTC_STAT_PEND = false ∧ t = { s with regs := t.regs, calendar := t.calendar }) ∧
  (∀ (s : State) (n : Int), s.calendar.applyDue = false → s.calendar.shiftDue = some n →
    s.calendar.grain + 1 < 32768 → 0 ≤ (s.calendar.grain : Int) + 1 + n → (s.calendar.grain : Int) + 1 + n < 32768 →
    Runs (.grainBoundary) s fun t => t.calendar.grain = ((s.calendar.grain : Int) + 1 + n).toNat ∧
    t.calendar.shiftDue = none ∧ t.flag R.RTC_EVT_SHIFTED = true ∧ t.flag R.RTC_STAT_PEND = false ∧
    t = { s with regs := t.regs, calendar := t.calendar }) ∧
  (∀ (s : State), s.calendar.applyDue = true → s.calendar.shiftDue = none →
    Runs (.grainBoundary) s fun t => t.calendar.date = (s.reg R.RTC_WDATE_DAY.addr).toNat ∧
    t.calendar.time = (s.reg R.RTC_WTIME_SEC.addr).toNat ∧ t.calendar.grain = s.get R.RTC_WSUB_GRAIN ∧
    t.flag R.RTC_STAT_INVALID = false ∧ t.flag R.RTC_EVT_APPLIED = true ∧ t.flag R.RTC_STAT_PEND = false ∧
    t.calendar.applyDue = false ∧ t = { s with regs := t.regs, calendar := t.calendar }) ∧
  (∀ (s : State), Runs (.calendarRollover) s fun t => t.calendar.date = (secondAdvance s.cal).date ∧
    t.calendar.time = (secondAdvance s.cal).time ∧ t.calendar.grain = 0 ∧
    t = { s with regs := t.regs, calendar := t.calendar } ∧ (s.flag R.UPD_STAT_TRIAL = false →
    t = { s with calendar := t.calendar })) ∧
  (∀ (s : State), s.powered = true → Runs (.apply) s fun t => t.calendar.applyDue = true ∧
    t.flag R.RTC_STAT_PEND = true ∧ t = { s with regs := t.regs, calendar := t.calendar } ∧ (∀ a,
    a ≠ R.RTC_STAT_PEND.addr → t.reg a = s.reg a)) ∧
  (∀ (s : State), s.powered = true →
    Runs (.shift) s fun t => t.calendar.shiftDue = some (s.getInt R.RTC_SHIFT_GRAINS) ∧
    t.flag R.RTC_STAT_PEND = true ∧ t = { s with regs := t.regs, calendar := t.calendar } ∧ (∀ a,
    a ≠ R.RTC_STAT_PEND.addr → t.reg a = s.reg a)) ∧
  (∀ (s : State), s.powered = true →
    Runs (.rtcSnap) s fun t => t.reg R.RTC_RDATE_DAY.addr = BitVec.ofNat 36 s.calendar.date ∧
    t.reg R.RTC_RTIME_SEC.addr = BitVec.ofNat 36 s.calendar.time ∧
    t.get R.RTC_RSUB_GRAIN = s.calendar.grain % 2 ^ 15 ∧ t.calendar = s.calendar ∧ t = { s with regs := t.regs } ∧
    (∀ a, a ≠ R.RTC_RDATE_DAY.addr → a ≠ R.RTC_RTIME_SEC.addr → a ≠ R.RTC_RSUB_GRAIN.addr → a ≠ R.RTC_SNAP_SEQ.addr →
    t.reg a = s.reg a)) ∧
  (∀ (s : State) (d v : Nat), s.powered = true → syncSource s = some (d, v) → s.get (R.NTM_DSTAT_STATE d) = 2 →
    (utcOf s d v - calNanos s).natAbs < 1000000000 →
    (2 * (utcOf s d v - calNanos s) * 32768 + 1000000000).fdiv 2000000000 ≠ 0 →
    Runs (.calendarSync) s fun t => t.calendar.shiftDue = some ((2 * (utcOf s d v - calNanos s) * 32768 +
      1000000000).fdiv 2000000000) ∧ t.flag R.RTC_STAT_PEND = true ∧
    t.flag R.RTC_STAT_SYNCED = decide (((2 * (utcOf s d v - calNanos s) * 32768 + 1000000000).fdiv 2000000000).natAbs
      ≤ 2) ∧ t.calendar.date = s.calendar.date ∧ t = { s with regs := t.regs, calendar := t.calendar } ∧ (∀ a,
    a ≠ R.RTC_STAT_PEND.addr → t.reg a = s.reg a)) ∧
  (∀ (s : State) (d v : Nat), s.powered = true → syncSource s = some (d, v) → s.get (R.NTM_DSTAT_STATE d) = 2 →
    1000000000 ≤ (utcOf s d v - calNanos s).natAbs → Runs (.calendarSync) s fun t => t.calendar.applyDue = true ∧
    t.flag R.RTC_STAT_PEND = true ∧ t.flag R.RTC_EVT_SYNCSTEP = true ∧ t.flag R.RTC_STAT_SYNCED = false ∧
    t.get R.RTC_WSUB_GRAIN = (utcOf s d v).toNat % 1000000000 * 32768 / 1000000000 ∧
    (calOf 0 (t.reg R.RTC_WTIME_SEC.addr).toNat).sec = (utcOf s d v).toNat / 1000000000 % 60 ∧
    t.calendar.date = s.calendar.date ∧ t.free = s.free + 1 ∧
    t = { s with regs := t.regs, calendar := t.calendar, free := t.free } ∧ (∀ a, a ≠ R.RTC_STAT_PEND.addr →
    a ≠ R.RTC_EVT_SYNCSTEP.addr → a ≠ R.RTC_WDATE_DAY.addr → a ≠ R.RTC_WTIME_SEC.addr → a ≠ R.RTC_WSUB_GRAIN.addr →
    t.reg a = s.reg a)) ∧
  (∀ (s : State) (d v : Nat), s.powered = true → syncSource s = some (d, v) → s.get (R.NTM_DSTAT_STATE d) ≠ 2 →
    Runs (.calendarSync) s fun t => t = s) ∧
  (∀ (s : State), s.powered = true → Runs (.arm) s fun t => t.flag R.RTC_STAT_ARMED = true ∧
    t = { s with regs := t.regs } ∧ (∀ a, a ≠ R.RTC_STAT_ARMED.addr → t.reg a = s.reg a)) ∧
  (∀ (s : State), s.powered = true → Runs (.disarm) s fun t => t.flag R.RTC_STAT_ARMED = false ∧
    t = { s with regs := t.regs } ∧ (∀ a, a ≠ R.RTC_STAT_ARMED.addr → t.reg a = s.reg a)) ∧
  (∀ (s : State), s.power.vaonLost = false → s.flag R.RTC_STAT_ARMED = true → alarmKey s ≤ calNow s →
    Runs (.alarmFire) s fun t => t.flag R.RTC_STAT_ARMED = false ∧ t.flag R.RTC_EVT_ALARM = true ∧
    t.calendar = s.calendar ∧ (sourceUnwatched s (.time 256) = true → t = { s with regs := t.regs }) ∧
    (sourceUnwatched s (.time 256) = true → (∀ a, a ≠ R.RTC_STAT_ARMED.addr → a ≠ R.RTC_EVT_ALARM.addr →
    t.reg a = s.reg a))) ∧
  (∀ (s : State), s.power.vaonLost = false → s.flag R.RTC_WAKE_PERIOD = true →
    s.get R.RTC_WAKE_PERIOD ≤ s.calendar.wakeCount → Runs (.periodicWake) s fun t => t.flag R.RTC_EVT_WAKE = true ∧
    t.calendar = { s.calendar with wakeCount := 0 } ∧ (sourceUnwatched s (.time 257) = true →
    t = { s with regs := t.regs, calendar := t.calendar }) ∧ (sourceUnwatched s (.time 257) = true → (∀ a,
    a ≠ R.RTC_EVT_WAKE.addr → t.reg a = s.reg a))) ∧
  (∀ (s : State) (m : Fin 18) (tok : BitVec 12), s.powered = true → m.val ≤ 8 → watchdogLive s = true →
    windowAge s < windowClose s → windowOpen s ≤ windowAge s → tok.toNat = s.watchdog.token → slotsDone s = true →
    Runs (.watchdogService m tok) s fun t => t.get R.WDG_WSTART_GRAIN = s.get R.WDG_LCLK_GRAIN ∧
    t.get R.WDG_STAT_CHECKED = 0 ∧ t.flag R.WDG_STAT_HELD = false ∧ t.flag R.WDG_STAT_FIRST = false ∧
    (t.watchdog.goodWindows = (if 64 ≤ s.watchdog.goodWindows + 1 then 0 else s.watchdog.goodWindows + 1)) ∧
    t = { s with regs := t.regs, watchdog := t.watchdog, power := t.power } ∧ (∀ a, a ≠ R.WDG_STAT_FIRST.addr →
    a ≠ R.WDG_WSTART_GRAIN.addr → t.reg a = s.reg a)) ∧
  (∀ (s : State) (m : Fin 18) (tok : BitVec 12), s.powered = true → m.val ≤ 8 → watchdogLive s = true →
    windowAge s < windowClose s → windowOpen s ≤ windowAge s → tok.toNat = s.watchdog.token → slotsDone s = false →
    Runs (.watchdogService m tok) s fun t => t = (s.usedBy m).raise R.WDG_STAT_HELD) ∧
  (∀ (s : State) (m : Fin 18) (tok : BitVec 12), s.powered = true → 8 < m.val → windowAge s < windowClose s →
    Runs (.watchdogService m tok) s fun t => t = s.rsvd m R.WDG_SVC_TOKEN.addr) ∧
  (∀ (s : State) (m : Fin 18) (k : Fin 16) (tok : BitVec 12), s.powered = true → watchdogLive s = true →
    windowAge s < windowClose s → s.flag (R.WDG_SLOT_EN k) = true →
    tok.toNat = s.watchdog.slotTokens.toList.getD k 0 → slotRuns s k m = true →
    s.getBit R.WDG_STAT_CHECKED k = false →
    (s.flag R.WDG_STAT_HELD && slotsDone (s.putBit R.WDG_STAT_CHECKED k true)) = false →
    Runs (.watchdogCheckin m k tok) s fun t => t.getBit R.WDG_STAT_CHECKED k = true ∧
    t = { s with regs := t.regs, power := t.power } ∧ (∀ a, a ≠ R.WDG_STAT_CHECKED.addr → t.reg a = s.reg a)) ∧
  (∀ (s : State) (m : Fin 18) (k : Fin 16) (tok : BitVec 12), s.powered = true → watchdogLive s = true →
    windowAge s < windowClose s → s.flag (R.WDG_SLOT_EN k) = true →
    tok.toNat = s.watchdog.slotTokens.toList.getD k 0 → slotRuns s k m = true →
    s.getBit R.WDG_STAT_CHECKED k = false → s.flag R.WDG_STAT_HELD = true →
    slotsDone (s.putBit R.WDG_STAT_CHECKED k true) = true →
    Runs (.watchdogCheckin m k tok) s fun t => t.get R.WDG_WSTART_GRAIN = s.get R.WDG_LCLK_GRAIN ∧
    t.get R.WDG_STAT_CHECKED = 0 ∧ t.flag R.WDG_STAT_HELD = false ∧
    (t.watchdog.goodWindows = (if 64 ≤ s.watchdog.goodWindows + 1 then 0 else s.watchdog.goodWindows + 1)) ∧
    t = { s with regs := t.regs, watchdog := t.watchdog, power := t.power }) ∧
  (∀ (s : State), s.cycling = true → watchdogLive s = true → s.flag R.SYS_STATE_DEFER = false →
    s.flag R.WDG_STAT_HELD = false → s.watchdog.failedAt ≠ some (s.get R.WDG_LCLK_GRAIN) → deferring s = false →
    Runs (.windowClose) s fun t => (t.dev = .boot ∨ t.dev = .safe) ∧ t.get R.WDG_STAT_CAUSE = 2 ∧
    t.flag R.WDG_EVT_LATE = true ∧ t.watchdog.goodWindows = 0)

/-- Secure start and the firmware update (R530 to R542). -/
def Obligations.FirmwareUpdates : Prop :=
  (∀ (s : State) (c : Fin 3) (o : Nat) (f : FlashPort), s.dev = .boot → s.power.porstLow = false →
    s.power.rstLow = false → s.power.refOk = true → Runs (.secureStart c o f none none) s fun t => t.dev = .off ∧
    t.power.secureFailed = true) ∧
  (∀ (s : State) (o : Nat) (f : FlashPort) (a b : Option FlashImage), s.dev = .boot → s.power.porstLow = false →
    s.power.rstLow = false → s.power.refOk = true → Runs (.secureStart 2 o f a b) s fun t => t.dev = .off ∧
    t.power.secureFailed = true) ∧
  (∀ (s : State) (c : Fin 3) (o : Nat) (f : FlashPort) (img : FlashImage) (other : Option FlashImage), s.dev = .boot →
    s.power.porstLow = false → s.power.rstLow = false → s.power.refOk = true → s.flag R.WDG_LADDER_SAFE = false →
    s.folio.prevSrc = none → c.val < 2 → s.get R.UPD_STAT_S0 = 4 → s.get R.UPD_STAT_S1 ≠ 3 →
    imageCause s (some img) = 0 → (s.get R.RST_STRAP_BOOTSRC = 0 ∨ s.get R.RST_STRAP_BOOTSRC = 3) →
    Runs (.secureStart c o f (some img) other) s fun t => t.dev = .load ∧ t.folio.loading = some ⟨0, false, none,
    true⟩ ∧ t.get R.UPD_STAT_RUNSLOT = 0 ∧ t.flag R.UPD_STAT_TRIAL = false ∧ t.get R.UPD_STAT_S0 = 4 ∧
    t.get R.UPD_SVN_SVN = img.svn % 2 ^ 16 ∧ t.flag (R.ZC_STAT_BUSY 8) = true ∧
    t.power.secureFailed = s.power.secureFailed) ∧
  (∀ (s : State) (c : Fin 3) (o : Nat) (f : FlashPort) (img other : FlashImage), s.dev = .boot →
    s.power.porstLow = false → s.power.rstLow = false → s.power.refOk = true → s.flag R.WDG_LADDER_SAFE = false →
    s.folio.prevSrc = none → c.val < 2 → s.get R.UPD_STAT_S0 = 4 → s.get R.UPD_STAT_S1 = 3 → s.upd.attempt = 0 →
    imageCause s (some other) = 0 → (s.get R.RST_STRAP_BOOTSRC = 1 ∨ s.get R.RST_STRAP_BOOTSRC = 2) →
    Runs (.secureStart c o f (some img) (some other)) s fun t => t.dev = .stop ∧ t.get R.UPD_STAT_RUNSLOT = 1 ∧
    t.flag R.UPD_STAT_TRIAL = true ∧ t.upd.attempt = 1 ∧ t.get R.UPD_STAT_S1 = 3) ∧
  (∀ (s : State) (m : Fin 18) (keep : Bool) (k : Nat), s.powered = true → s.get R.UPD_CMD_STATUS ≠ 1 →
    updStates s = true → s.folio.loading = none → s.upd.run = none → s.flag R.PCI_STAT_BME = true →
    targetSlot s = some k → Runs (.updWrite m keep) s fun t => slotState t k = 1 ∧
    slotState t (1 - k) = slotState s (1 - k) ∧ t.upd.run = some ⟨1, k⟩ ∧ t.get R.UPD_CMD_STATUS = 1 ∧
    t.flag R.UPD_STAT_BUSY = true ∧ t.get R.UPD_STAT_CAUSE = 0 ∧ t.get R.UPD_STAT_CHUNKS = 0 ∧
    t.flag R.UPD_CMD_KEEPFOLIO = keep ∧ t = { s with regs := t.regs, upd := t.upd, power := t.power }) ∧
  (∀ (s : State) (m : Fin 18) (keep : Bool), s.powered = true → s.get R.UPD_CMD_STATUS ≠ 1 →
    (s.folio.loading.any (fun l => decide (l.src < 2)) = true) →
    Runs (.updWrite m keep) s fun t => t.get R.UPD_CMD_STATUS = 6 ∧ t.upd = s.upd ∧
    t = { s with regs := t.regs, power := t.power } ∧ (∀ a, a ≠ R.UPD_CMD_STATUS.addr → t.reg a = s.reg a)) ∧
  (∀ (s : State) (m : Fin 18) (keep : Bool), s.powered = true → s.get R.UPD_CMD_STATUS ≠ 1 → s.folio.loading = none →
    (updStates s = false ∨ s.upd.run.isSome = true) → Runs (.updWrite m keep) s fun t => t.get R.UPD_CMD_STATUS = 3 ∧
    t.upd = s.upd ∧ t = { s with regs := t.regs, power := t.power } ∧ (∀ a, a ≠ R.UPD_CMD_STATUS.addr →
    t.reg a = s.reg a)) ∧
  (∀ (s : State) (m : Fin 18) (keep : Bool), s.powered = true → s.get R.UPD_CMD_STATUS = 1 →
    Runs (.updWrite m keep) s fun t => t = (s.usedBy m).rsvd m R.UPD_CMD_CODE.addr) ∧
  (∀ (s : State) (img : FlashImage) (k : Nat), s.powered = true → s.upd.run = some ⟨1, k⟩ → k < 2 →
    s.get R.UPD_CMD_STATUS = 1 → imageCause s (some img) = 0 →
    Runs (.slotWriteDone 0 (some img)) s fun t => slotState t k = 2 ∧ slotState t (1 - k) = slotState s (1 - k) ∧
    t.get R.UPD_CMD_STATUS = 2 ∧ t.upd.run = none ∧ t.flag R.UPD_STAT_BUSY = false ∧ t.get R.UPD_STAT_CAUSE = 0) ∧
  (∀ (s : State) (img : FlashImage) (k c : Nat), s.powered = true → s.upd.run = some ⟨1, k⟩ → k < 2 →
    s.get R.UPD_CMD_STATUS = 1 → imageCause s (some img) = c → c ≠ 0 →
    Runs (.slotWriteDone 0 (some img)) s fun t => slotState t k = 0 ∧ slotState t (1 - k) = slotState s (1 - k) ∧
    t.get R.UPD_CMD_STATUS = 7 ∧ t.get R.UPD_STAT_CAUSE = c ∧ t.upd.run = none) ∧
  (∀ (s : State) (fault : Fin 3) (img : Option FlashImage) (k : Nat), s.powered = true → s.upd.run = some ⟨1, k⟩ →
    k < 2 → s.get R.UPD_CMD_STATUS = 1 → fault.val ≠ 0 →
    Runs (.slotWriteDone fault img) s fun t => slotState t k = 0 ∧ t.get R.UPD_CMD_STATUS = 7 ∧
    t.get R.UPD_STAT_CAUSE = 8 + fault.val ∧ t.upd.run = none ∧ (fault = 2 → t.flag R.XSP_EVT_ERR = true)) ∧
  (∀ (s : State) (fault : Fin 3) (img : Option FlashImage) (n k : Nat), s.powered = true → s.upd.run = some ⟨n, k⟩ →
    (n = 2 ∨ n = 4) →
    Runs (.slotWriteDone fault img) s fun t => (t.get R.UPD_CMD_STATUS = (if fault.val = 0 then 2 else 7)) ∧
    t.flag R.UPD_STAT_BUSY = false ∧ (fault.val ≠ 0 → t.get R.UPD_STAT_CAUSE = 8 + fault.val) ∧ t.upd.run = none ∧
    (fault = 2 → t.flag R.XSP_EVT_ERR = true) ∧ t.get R.UPD_STAT_S0 = s.get R.UPD_STAT_S0 ∧
    t.get R.UPD_STAT_S1 = s.get R.UPD_STAT_S1) ∧
  (∀ (s : State) (m : Fin 18) (slot : Fin 2), s.powered = true → s.get R.UPD_CMD_STATUS ≠ 1 → updStates s = true →
    s.folio.loading = none → s.upd.run = none → s.flag R.PCI_STAT_BME = true →
    Runs (.folwrite m slot none) s fun t => t.get R.UPD_CMD_STATUS = 7 ∧ t.get R.UPD_STAT_CAUSE = 9 ∧
    t.upd.run = none ∧ t.get R.UPD_CMD_SLOT = slot.val) ∧
  (∀ (s : State) (m : Fin 18) (slot : Fin 2) (img : FolioImage), s.powered = true → s.get R.UPD_CMD_STATUS ≠ 1 →
    updStates s = true → s.folio.loading = none → s.upd.run = none → s.flag R.PCI_STAT_BME = true →
    folioCheck ((((s.usedBy m).set R.UPD_CMD_CODE 2).set R.UPD_CMD_SLOT slot).set R.UPD_CMD_SHELF 0) img = true →
    Runs (.folwrite m slot (some img)) s fun t => t.get R.UPD_CMD_STATUS = 1 ∧ t.flag R.UPD_STAT_BUSY = true ∧
    t.get R.UPD_STAT_CAUSE = 0 ∧ t.get R.UPD_STAT_CHUNKS = 0 ∧ t.upd.run = some ⟨2, slot⟩ ∧
    t.get R.UPD_CMD_SLOT = slot.val ∧ t.flag R.UPD_CMD_SHELF = false ∧
    t = { s with regs := t.regs, upd := t.upd, power := t.power }) ∧
  (∀ (s : State) (m : Fin 18) (slot : Fin 2) (img : FolioImage), s.powered = true → s.get R.UPD_CMD_STATUS ≠ 1 →
    updStates s = true → s.folio.loading = none → s.upd.run = none → s.flag R.PCI_STAT_BME = true →
    folioCheck ((((s.usedBy m).set R.UPD_CMD_CODE 2).set R.UPD_CMD_SLOT slot).set R.UPD_CMD_SHELF 0) img = false →
    Runs (.folwrite m slot (some img)) s fun t => t.get R.UPD_CMD_STATUS = 7 ∧ t.get R.UPD_STAT_CAUSE = 2 ∧
    t.upd.run = none) ∧
  (∀ (s : State) (m : Fin 18) (slot : Fin 2) (ws : List Word), s.powered = true → s.get R.UPD_CMD_STATUS ≠ 1 →
    updStates s = true → s.folio.loading = none → s.upd.run = none → s.flag R.PCI_STAT_BME = true →
    shelfSound s ws = true → Runs (.shelfWrite m slot (some ws)) s fun t => t.get R.UPD_CMD_STATUS = 1 ∧
    t.flag R.UPD_STAT_BUSY = true ∧ t.get R.UPD_STAT_CAUSE = 0 ∧ t.get R.UPD_STAT_CHUNKS = 0 ∧ t.upd.run = some ⟨4,
    slot⟩ ∧ t.flag R.UPD_CMD_SHELF = true ∧ t.get R.UPD_CMD_SLOT = slot.val ∧
    t = { s with regs := t.regs, upd := t.upd, power := t.power }) ∧
  (∀ (s : State) (m : Fin 18) (slot : Fin 2) (ws : List Word), s.powered = true → s.get R.UPD_CMD_STATUS ≠ 1 →
    updStates s = true → s.folio.loading = none → s.upd.run = none → s.flag R.PCI_STAT_BME = true →
    shelfSound s ws = false → Runs (.shelfWrite m slot (some ws)) s fun t => t.get R.UPD_CMD_STATUS = 7 ∧
    t.get R.UPD_STAT_CAUSE = 2 ∧ t.upd.run = none) ∧
  (∀ (s : State) (m : Fin 18) (self : Bool) (img : Option FlashImage), s.powered = true → s.get R.UPD_CMD_STATUS ≠ 1 →
    updStates s = true → s.folio.loading = none → s.upd.run = none → s.flag R.PCI_STAT_BME = true → s.acting = false →
    Runs (.distribute m self img) s fun t => t.get R.UPD_CMD_STATUS = 5 ∧ t.upd = s.upd ∧ t.spine = s.spine ∧
    t = { s with regs := t.regs, power := t.power } ∧ (∀ a, a ≠ R.UPD_CMD_STATUS.addr → t.reg a = s.reg a)) ∧
  (∀ (s : State) (m : Fin 18) (self : Bool), s.powered = true → s.get R.UPD_CMD_STATUS ≠ 1 → updStates s = true →
    s.folio.loading = none → s.upd.run = none → s.flag R.PCI_STAT_BME = true → s.acting = true →
    Runs (.distribute m self none) s fun t => t.get R.UPD_CMD_STATUS = 7 ∧ t.get R.UPD_STAT_CAUSE = 9 ∧
    t.spine = s.spine) ∧
  (∀ (s : State) (m : Fin 18) (self : Bool) (img : FlashImage), s.powered = true → s.get R.UPD_CMD_STATUS ≠ 1 →
    updStates s = true → s.folio.loading = none → s.upd.run = none → s.flag R.PCI_STAT_BME = true → s.acting = true →
    (headerCause s img = 0 ∨ headerCause s img = 3 ∨ headerCause s img = 4) →
    Runs (.distribute m self (some img)) s fun t => (∀ a : Fin 128,
    t.get (R.UPD_NODE_STATE a) = bitNat (s.flag (R.SPN_NODE_ADMITTED a) && (s.node a).any fun n => n.record.any fun x
      => typeFits img x.type)) ∧ t.spine.sent.head? = some (⟨9, 8, s.now % 2 ^ 36, img.header⟩ : SentFrame) ∧
    (t.upd.run = (if self ∧ headerCause s img = 0 then (targetSlot s).map (fun k => (⟨3, k⟩ : UpdWrite)) else none)) ∧
    (t.get R.UPD_CMD_STATUS = (if (t.upd.run.isNone && (List.range 128).all fun a => t.get (R.UPD_NODE_STATE a) != 1)
      then 2 else 1)) ∧ t = { s with regs := t.regs, upd := t.upd, spine := t.spine, power := t.power }) ∧
  (∀ (s : State) (m : Fin 18) (self : Bool) (img : FlashImage) (c : Nat), s.powered = true →
    s.get R.UPD_CMD_STATUS ≠ 1 → updStates s = true → s.folio.loading = none → s.upd.run = none →
    s.flag R.PCI_STAT_BME = true → s.acting = true → headerCause s img = c → (c ≠ 0 ∧ c ≠ 3 ∧ c ≠ 4) →
    Runs (.distribute m self (some img)) s fun t => t.get R.UPD_CMD_STATUS = 7 ∧ t.get R.UPD_STAT_CAUSE = c ∧
    t.spine = s.spine ∧ t.upd = s.upd) ∧
  (∀ (s : State) (h : FrameHead) (img : FlashImage) (bytes k : Nat), s.powered = true → (spineAccept s 9 h).2 = true →
    s.acting = false → s.upd.run = none → headerCause s img = 0 → targetSlot s = some k → img.chunkOk 0 bytes = true →
    Runs (.distributeChunk h (.data img 0 bytes)) s fun t => slotState t k = 1 ∧ t.upd.run = some ⟨3, k⟩ ∧
    t.get R.UPD_STAT_CHUNKS = 1 ∧ t.spine.sent.head? = some (⟨9, 8, s.now % 2 ^ 36, [0]⟩ : SentFrame) ∧
    t = { s with regs := t.regs, upd := t.upd, spine := t.spine }) ∧
  (∀ (s : State) (h : FrameHead) (img : FlashImage) (bytes c : Nat), s.powered = true → (spineAccept s 9 h).2 = true →
    s.acting = false → s.upd.run = none → headerCause s img = c → c ≠ 0 →
    Runs (.distributeChunk h (.data img 0 bytes)) s fun t => t.get R.UPD_STAT_CAUSE = c % 16 ∧ t.upd = s.upd ∧
    slotState t 0 = slotState s 0 ∧ slotState t 1 = slotState s 1 ∧ t = { s with regs := t.regs, spine := t.spine }) ∧
  (∀ (s : State) (h : FrameHead) (st cause n : Nat), s.powered = true → (spineAccept s 9 h).2 = true →
    s.acting = true → s.get (R.UPD_NODE_STATE (h.src % 128)) ≠ 0 →
    Runs (.distributeChunk h (.report st cause n)) s fun t => t.get (R.UPD_NODE_STATE (h.src % 128)) = st % 2 ^
      (R.UPD_NODE_STATE 0).width ∧ t.get (R.UPD_NODE_CAUSE (h.src % 128)) = cause % 2 ^ (R.UPD_NODE_CAUSE 0).width ∧
    t.get (R.UPD_NODE_CHUNKS (h.src % 128)) = n % 2 ^ (R.UPD_NODE_CHUNKS 0).width ∧ t.upd = s.upd ∧
    t = { s with regs := t.regs, spine := t.spine }) ∧
  (∀ (s : State) (a : Fin 128), s.powered = true → s.acting = true → s.get (R.UPD_NODE_STATE a) = 1 →
    Runs (.creditTimeout a) s fun t => t.get (R.UPD_NODE_STATE a) = 4 ∧ t.get (R.UPD_NODE_CAUSE a) = 9 ∧
    t.get (R.UPD_NODE_CHUNKS a) = s.get (R.UPD_NODE_CHUNKS a) ∧ t = { s with regs := t.regs }) ∧
  (∀ (s : State) (m : Fin 18) (k : Nat), s.powered = true → s.get R.UPD_CMD_STATUS ≠ 1 → (updStates s = true ∨
    s.dev = .standby) → (slotState s k = 2 ∧ k < 2 ∧ (k = 1 → slotState s 0 ≠ 2)) → s.power.pfStep = 0 →
    s.partner = none → s.flag R.SYS_STATE_DEFER = false → deferring s = false →
    Runs (.activate m) s fun t => t.dev = .boot ∧ slotState t k = 3 ∧ slotState t (1 - k) = slotState s (1 - k) ∧
    t.upd.attempt = 0 ∧ t.upd.pwrTry = 0 ∧ t.flag R.RST_CAUSE_CMDWARM = true) ∧
  (∀ (s : State) (m : Fin 18), s.powered = true → s.get R.UPD_CMD_STATUS ≠ 1 → s.get R.UPD_STAT_S0 ≠ 2 →
    s.get R.UPD_STAT_S1 ≠ 2 → Runs (.activate m) s fun t => t.get R.UPD_CMD_STATUS = 3 ∧ t.upd = s.upd ∧
    t = { s with regs := t.regs, power := t.power } ∧ (∀ a, a ≠ R.UPD_CMD_STATUS.addr → t.reg a = s.reg a)) ∧
  (∀ (s : State) (m : Fin 18), s.powered = true → s.get R.UPD_CMD_STATUS ≠ 1 → (updStates s = true ∨
    s.dev = .standby) → s.flag R.UPD_STAT_TRIAL = true → s.power.pfStep = 0 → s.partner = none →
    s.flag R.SYS_STATE_DEFER = false → deferring s = false → Runs (.reject m) s fun t => t.dev = .boot ∧
    t.upd.reason = 3 ∧ t.flag R.RST_CAUSE_CMDWARM = true) ∧
  (∀ (s : State) (m : Fin 18), s.powered = true → s.get R.UPD_CMD_STATUS ≠ 1 → s.flag R.UPD_STAT_TRIAL = false →
    Runs (.reject m) s fun t => t.get R.UPD_CMD_STATUS = 3 ∧ t = { s with regs := t.regs, power := t.power } ∧ (∀ a,
    a ≠ R.UPD_CMD_STATUS.addr → t.reg a = s.reg a)) ∧
  (∀ (s : State) (m : Fin 18), s.powered = true → s.flag R.UPD_STAT_BUSY = true →
    Runs (.updCancel m) s fun t => t.get R.UPD_CMD_STATUS = 7 ∧ t.get R.UPD_STAT_CAUSE = 11 ∧
    t.flag R.UPD_STAT_BUSY = false ∧ t.upd.run = none ∧ slotState t 0 = slotState s 0 ∧
    slotState t 1 = slotState s 1 ∧ (∀ a : Fin 128, s.get (R.UPD_NODE_STATE a) = 1 → t.get (R.UPD_NODE_STATE a) = 4)) ∧
  (∀ (s : State) (m : Fin 18), s.powered = true → s.flag R.UPD_STAT_BUSY = false → s.get R.UPD_CMD_STATUS ≠ 1 →
    Runs (.updCancel m) s fun t => t.get R.UPD_CMD_STATUS = 3 ∧ t.upd = s.upd ∧
    t = { s with regs := t.regs, power := t.power } ∧ (∀ a, a ≠ R.UPD_CMD_STATUS.addr → t.reg a = s.reg a)) ∧
  (∀ (s : State) (c : FolioContent) (k : Nat), s.powered = true → s.flag R.UPD_STAT_TRIAL = true →
    s.content = some c → (s.dev = .run ∨ s.dev = .standby ∨ (s.dev = .stop ∧ c.autostart = false)) →
    s.upd.spoiled = false → (s.partner = none ∨ s.get R.TWN_STAT_PSTATE = 4) → (s.standalone = true ∨
    (s.acting = false ∧ s.flag R.SPN_STAT_ADMITTED = true)) → s.get R.UPD_STAT_RUNSLOT = k → k < 2 →
    Runs (.trialConfirm true) s fun t => slotState t k = 4 ∧
    (slotState t (1 - k) = (if slotState s (1 - k) = 4 then 5 else slotState s (1 - k))) ∧
    t.flag R.UPD_STAT_TRIAL = false ∧
    (t.get R.COL_MINSVN_SVN = (if s.upd.raises then max (s.get R.UPD_SVN_SVN) (s.get R.COL_MINSVN_SVN) else s.get
      R.COL_MINSVN_SVN)) ∧ t = { s with regs := t.regs, records := t.records }) ∧
  (∀ (s : State), s.powered = true → Runs (.trialConfirm false) s fun t => t = s) ∧
  (∀ (s : State), s.powered = true → s.flag R.UPD_STAT_TRIAL = true → s.power.pfStep = 0 → s.partner = none →
    s.flag R.SYS_STATE_DEFER = false → deferring s = false → Runs (.trialmaxExpiry) s fun t => t.dev = .boot ∧
    t.upd.reason = 2 ∧ t.flag R.RST_CAUSE_CMDWARM = true)

/-- The retain store (R488 to R493, R497). -/
def Obligations.RetainStoreCycle : Prop :=
  (∀ (s : State) (m : Fin 18), s.dev = .run → s.get R.RET_CMD_STATUS ≠ 1 → (s.retain.running = none ∨
    s.flag R.RET_STAT_DIRTY = true) → Runs (.retainStoreCmd m) s fun t => t.get R.RET_CMD_STATUS = 1 ∧
    t.get R.RET_CMD_CODE = 1 ∧ t.retain.waiting = true ∧ t.retain.byCommand = true ∧
    t.retain.running = s.retain.running ∧
    t = { s with regs := t.regs, retain := t.retain, twin := t.twin, power := t.power }) ∧
  (∀ (s : State) (m : Fin 18), s.powered = true → (s.dev = .standby ∨ s.dev = .boot ∨ s.dev = .load) →
    s.get R.RET_CMD_STATUS ≠ 1 →
    Runs (.retainStoreCmd m) s fun t => (t.get R.RET_CMD_STATUS = (if s.dev = .standby then 5 else 3)) ∧
    t = { s with regs := t.regs, power := t.power } ∧ (∀ a, a ≠ R.RET_CMD_CODE.addr → t.reg a = s.reg a)) ∧
  (∀ (s : State), s.powered = true → s.retain.waiting = true → storePostponed s = false → s.retain.running = none →
    s.flag R.SYS_STATE_DEFER = false → s.power.pfStep = 0 →
    Runs (.retainStoreStart) s fun t => t.retain.running = some ⟨targetRecto s.retain, nextStoreSeq s.retain,
    workingCopy t, s.retain.byCommand⟩ ∧ t.retain.waiting = false ∧ t.flag R.RET_STAT_BUSY = true ∧
    t.flag R.RET_STAT_DIRTY = false ∧ (if targetRecto s.retain then t.retain.verso = s.retain.verso ∧
    t.retain.recto.complete = false else t.retain.recto = s.retain.recto ∧ t.retain.verso.complete = false) ∧
    t = { s with regs := t.regs, retain := t.retain, mem := t.mem, poison := t.poison, keeper := t.keeper, olc := t.olc } ∧
    (∀ a, a ≠ R.RET_STAT_BUSY.addr → a ≠ R.KPR_STAT_BUF.addr → t.reg a = s.reg a)) ∧
  (∀ (s : State), (s.dev ≠ .off ∧ s.dev ≠ .boot ∧ s.dev ≠ .load) → 0 < s.get R.RET_CFG_PERIOD →
    s.flag R.RET_STAT_DIRTY = true → Runs (.periodicStore) s fun t => t.retain.waiting = true ∧
    t.retain.running = s.retain.running ∧ t = { s with regs := t.regs, retain := t.retain } ∧ (∀ a,
    a ≠ R.RET_STAT_POSTP.addr → t.reg a = s.reg a)) ∧
  (∀ (s : State), s.powered = true → s.flag R.RET_STAT_POSTP = false →
    Runs (.minivExpiry) s fun t => t.retain = { s.retain with inInterval := false } ∧
    t = { s with regs := t.regs, retain := t.retain } ∧ (∀ a, a ≠ R.RET_STAT_POSTP.addr → t.reg a = s.reg a)) ∧
  (∀ (s : State), s.powered = true → s.flag R.RET_STAT_POSTP = true → s.retain.waiting = true →
    s.retain.running = none → s.flag R.SYS_STATE_DEFER = false → s.power.pfStep = 0 →
    Runs (.minivExpiry) s fun t => t.retain.inInterval = false ∧ t.retain.running.isSome = true ∧
    t.retain.waiting = false ∧ t.flag R.RET_STAT_BUSY = true ∧ t.flag R.RET_STAT_POSTP = false) ∧
  (∀ (s : State) (us : BitVec 16) (run : StoreRun), s.powered = true → s.retain.running = some run →
    (s.cycling = true ∨ s.retain.waiting = false) →
    Runs (.retainStoreDone true us) s fun t => t.retain.running = none ∧ t.flag R.RET_STAT_BUSY = false ∧
    t.get R.RET_STAT_LAST = 1 ∧ t.flag R.RET_EVT_DONE = true ∧ t.get R.RET_DUR_DUR = us.toNat ∧
    ((if run.toRecto then t.retain.recto else t.retain.verso).data = run.data) ∧
    ((if run.toRecto then t.retain.recto else t.retain.verso).seq = run.seq) ∧
    ((if run.toRecto then t.retain.recto else t.retain.verso).valid = true) ∧
    ((if run.toRecto then t.retain.recto else t.retain.verso).count = (if run.toRecto then s.retain.recto else
      s.retain.verso).count + 1) ∧
    ((if run.toRecto then t.retain.verso else t.retain.recto) = (if run.toRecto then s.retain.verso else
      s.retain.recto)) ∧ (run.byCommand = true → t.get R.RET_CMD_STATUS = 2) ∧
    t = { s with regs := t.regs, retain := t.retain, records := t.records }) ∧
  (∀ (s : State) (us : BitVec 16) (run : StoreRun), s.powered = true → s.retain.running = some run →
    (s.cycling = true ∨ s.retain.waiting = false) →
    Runs (.retainStoreDone false us) s fun t => t.retain.running = none ∧ t.flag R.RET_STAT_BUSY = false ∧
    t.get R.RET_STAT_LAST = 3 ∧ t.flag R.RET_EVT_VERIFY = true ∧ t.flag R.RET_STAT_DIRTY = true ∧
    t.retain.recto = s.retain.recto ∧ t.retain.verso = s.retain.verso ∧ (run.byCommand = true →
    t.get R.RET_CMD_STATUS = 7) ∧ t = { s with regs := t.regs, retain := t.retain, records := t.records })

/-- The keeper (R498 to R503, R508). -/
def Obligations.KeeperGroups : Prop :=
  (∀ (s : State), s.powered = true → s.keeper.buffer ≠ [] →
    Runs (.keeperAbsorb) s fun t => t.keeper = { s.keeper with buffer := s.keeper.buffer.drop 1 } ∧
    t.get R.KPR_STAT_BUF = (s.keeper.buffer.length - 1) % 64 ∧ t = { s with regs := t.regs, keeper := t.keeper } ∧
    (∀ a, a ≠ R.KPR_STAT_BUF.addr → t.reg a = s.reg a)) ∧
  (∀ (s : State) (p : Port) (a n : Nat), s.powered = true → s.get (R.KPR_PCMD_STATUS p) ≠ 1 → portGroup s p = some (a,
    n) → s.get (R.KPR_PSEL_KIND p) = 0 → s.get (R.KPR_PSEL_INDEX p) < n →
    Runs (.stage p) s fun t => (t.keeper.staged = s.keeper.staged.filter (fun e => !(e.1 == p.val && e.2.1 == s.get
      (R.KPR_PSEL_INDEX p))) ++ [(p.val, s.get (R.KPR_PSEL_INDEX p), portValue s p)]) ∧
    t.keeper.commits = s.keeper.commits ∧ t.get (R.KPR_PCMD_STATUS p) = 2 ∧
    t = { s with regs := t.regs, keeper := t.keeper, power := t.power } ∧ (∀ a, a ≠ (R.KPR_PCMD_STATUS p).addr →
    a ≠ R.PCI_VPEND_PEND.addr → t.reg a = s.reg a)) ∧
  (∀ (s : State) (p : Port) (a n : Nat), s.powered = true → s.get (R.KPR_PCMD_STATUS p) ≠ 1 → portGroup s p = some (a,
    n) → (s.get (R.KPR_PSEL_KIND p) ≠ 0 ∨ n ≤ s.get (R.KPR_PSEL_INDEX p)) →
    Runs (.stage p) s fun t => t.get (R.KPR_PCMD_STATUS p) = 5 ∧ t.get (R.KPR_PCMD_ERR p) = 1 ∧
    t = { s with regs := t.regs, power := t.power } ∧ (∀ a, a ≠ (R.KPR_PCMD_STATUS p).addr →
    a ≠ R.PCI_VPEND_PEND.addr → t.reg a = s.reg a)) ∧
  (∀ (s : State) (p : Port) (a n : Nat), keeperRefusal s = none → (s.flag R.SYS_STATE_DEFER = false ∨
    s.power.pfStep ≠ 0) → s.get (R.KPR_PCMD_STATUS p) ≠ 1 → portGroup s p = some (a, n) →
    s.get (R.KPR_PSEL_KIND p) = 0 → s.get (R.KPR_PSEL_INDEX p) < n →
    Runs (.commitGroup p) s fun t => (t.keeper.commits = s.keeper.commits ++ [⟨a, n,
    ((s.keeper.staged.filter (·.1 == p.val)).filter (·.2.1 < n)).map fun e => (e.2.1, false, e.2.2), some p.val⟩]) ∧
    t.keeper.staged = s.keeper.staged.filter (·.1 != p.val) ∧ t.get (R.KPR_PCMD_STATUS p) = 1 ∧
    t.flag R.KPR_STAT_BUSY = true ∧ t = { s with regs := t.regs, keeper := t.keeper, power := t.power } ∧ (∀ a,
    a ≠ (R.KPR_PCMD_STATUS p).addr → a ≠ R.KPR_STAT_BUSY.addr → t.reg a = s.reg a)) ∧
  (∀ (s : State) (p : Port) (a n : Nat), keeperRefusal s = none → (s.flag R.SYS_STATE_DEFER = false ∨
    s.power.pfStep ≠ 0) → s.get (R.KPR_PCMD_STATUS p) ≠ 1 → portGroup s p = some (a, n) →
    s.get (R.KPR_PSEL_KIND p) = 0 → s.get (R.KPR_PSEL_INDEX p) < n →
    Runs (.add p) s fun t => t.keeper.commits = s.keeper.commits ++ [⟨a, n, [(s.get (R.KPR_PSEL_INDEX p), true,
    portValue s p)], some p.val⟩] ∧ t.keeper.staged = s.keeper.staged ∧ t.get (R.KPR_PCMD_STATUS p) = 1 ∧
    t.flag R.KPR_STAT_BUSY = true ∧ t = { s with regs := t.regs, keeper := t.keeper, power := t.power } ∧ (∀ a,
    a ≠ (R.KPR_PCMD_STATUS p).addr → a ≠ R.KPR_STAT_BUSY.addr → t.reg a = s.reg a)) ∧
  (∀ (s : State) (p : Port) (st : Nat), s.powered = true → keeperRefusal s = some st →
    s.get (R.KPR_PCMD_STATUS p) ≠ 1 → Runs (.add p) s fun t => t.get (R.KPR_PCMD_STATUS p) = st ∧
    t = { s with regs := t.regs, power := t.power } ∧ (∀ a, a ≠ (R.KPR_PCMD_STATUS p).addr → t.reg a = s.reg a)) ∧
  (∀ (s : State) (p : Port) (st : Nat), s.powered = true → keeperRefusal s = some st →
    s.get (R.KPR_PCMD_STATUS p) ≠ 1 → Runs (.commitGroup p) s fun t => t.get (R.KPR_PCMD_STATUS p) = st ∧
    t = { s with regs := t.regs, power := t.power } ∧ (∀ a, a ≠ (R.KPR_PCMD_STATUS p).addr → t.reg a = s.reg a)) ∧
  (∀ (s : State) (c : GroupCommit) (rest : List GroupCommit), s.powered = true → s.keeper.commits = c :: rest →
    0 < c.count → Runs (.wideCounterCommit) s fun t => t.keeper.commits = rest ∧
    groupSel t c.addr c.count = !groupSel s c.addr c.count ∧
    groupWords t c.addr c.count = slotWords (commitValues s c) ∧ groupGood t c.addr c.count = true ∧ (∀ p : Fin 9,
    c.port = some p.val → t.get (R.KPR_PCMD_STATUS p) = 2) ∧ (∀ x, x < c.addr ∨ c.addr + 4 * c.count + 1 ≤ x →
    t.word x = s.word x) ∧
    t = { s with regs := t.regs, mem := t.mem, poison := t.poison, keeper := t.keeper, olc := t.olc }) ∧
  (∀ (s : State) (p : Port) (a n : Nat), s.powered = true → portGroup s p = some (a, n) →
    s.get (R.KPR_PSEL_INDEX p) < n → groupGood s a n = true →
    Runs (.keeperValueRead p) s fun t => t.keeper = { s.keeper with latched := s.keeper.latched.setIfInBounds p (BitVec.ofNat 36 (groupValue s a n (s.get (R.KPR_PSEL_INDEX p)) / 2 ^ 36)) } ∧
    t = { s with keeper := t.keeper, power := t.power }) ∧
  (∀ (s : State) (p : Port) (a n : Nat), s.powered = true → portGroup s p = some (a, n) →
    s.get (R.KPR_PSEL_INDEX p) < n → groupGood s a n = false →
    Runs (.keeperValueRead p) s fun t => t.keeper = { s.keeper with latched := s.keeper.latched.setIfInBounds p (BitVec.ofNat 36 (groupValue s a n (s.get (R.KPR_PSEL_INDEX p)) / 2 ^ 36)) } ∧
    t.flag R.KPR_EVT_WCBAD = true ∧ t.get (R.KPR_PCMD_ERR p) = 2 ∧
    t = { s with regs := t.regs, keeper := t.keeper, records := t.records, power := t.power })

/-- Fault journal and event recorder (R509 to R516, R520); views and commands of the recorder (R516 to R519, R521). -/
def Obligations.ReportsAndRecords : Prop :=
  (∀ (s : State) (code src : BitVec 8) (d0 d1 : Word), s.powered = true →
    ((s.records.journal.held && s.records.journal.queue.getLast?.any (fun e => sameReport e ⟨true, code.toNat,
    src.toNat, d0, d1⟩)) = false) → s.records.journal.queue.length < 16 →
    Runs (.reportAccept true code src d0 d1) s fun t => t.records.journal.queue = s.records.journal.queue ++ [recEntry
      s ⟨true, code.toNat, src.toNat, d0, d1⟩ 1 1] ∧ t.records.journal.held = decide (code.toNat ≠ 1) ∧
    t.records.recorder = s.records.recorder ∧ t = { s with regs := t.regs, records := t.records }) ∧
  (∀ (s : State) (code src : BitVec 8) (d0 d1 : Word), s.powered = true →
    ((s.records.journal.held && s.records.journal.queue.getLast?.any (fun e => sameReport e ⟨true, code.toNat,
    src.toNat, d0, d1⟩)) = false) → 16 ≤ s.records.journal.queue.length →
    Runs (.reportAccept true code src d0 d1) s fun t => t.records.journal.queue = s.records.journal.queue ∧
    t.records.journal.lost = (s.records.journal.lost + 1) % 2 ^ 36 ∧
    t.records.journal.pending = s.records.journal.pending + 1 ∧ t.flag R.JNL_EVT_LOST = true ∧
    t.records.recorder = s.records.recorder ∧ t = { s with regs := t.regs, records := t.records }) ∧
  (∀ (s : State) (code src : BitVec 8) (d0 d1 : Word), s.powered = true → (s.power.pfStep = 0 ∨
    pfReporter src.toNat = true) →
    ((s.records.recorder.held && s.records.recorder.queue.getLast?.any (fun e => sameReport e ⟨false, code.toNat,
    src.toNat, d0, d1⟩)) = false) → s.records.recorder.queue.length < 16 →
    Runs (.reportAccept false code src d0 d1) s fun t => t.records.recorder.queue = s.records.recorder.queue ++
      [recEntry s ⟨false, code.toNat, src.toNat, d0, d1⟩ 1 1] ∧ t.records.journal = s.records.journal ∧
    t = { s with regs := t.regs, records := t.records }) ∧
  (∀ (s : State) (code src : BitVec 8) (d0 d1 : Word), s.powered = true → 0 < s.power.pfStep →
    pfReporter src.toNat = false →
    Runs (.reportAccept false code src d0 d1) s fun t => t.records.recorder.queue = s.records.recorder.queue ∧
    t.records.recorder.lost = (s.records.recorder.lost + 1) % 2 ^ 36 ∧ t.flag R.EVR_EVT_LOST = true ∧
    t.records.journal = s.records.journal ∧ t = { s with regs := t.regs, records := t.records }) ∧
  (∀ (s : State) (code src : BitVec 8) (d0 d1 : Word) (e : RecEntry), s.powered = true → (s.power.pfStep = 0 ∨
    pfReporter src.toNat = true) → s.records.recorder.held = true → s.records.recorder.queue.getLast? = some e →
    sameReport e ⟨false, code.toNat, src.toNat, d0, d1⟩ = true →
    Runs (.reportAccept false code src d0 d1) s fun t => t.records.recorder.queue = s.records.recorder.queue.dropLast ++ [{ e with times := e.times + 1 }] ∧
    t.records.journal = s.records.journal ∧ t = { s with regs := t.regs, records := t.records }) ∧
  (∀ (s : State) (e : RecEntry), s.powered = true → s.records.journal.ready = some e → s.records.journal.next ≤ 4096 →
    1 ≤ s.records.journal.next → Runs (.recordWrite) s fun t => t.records.journal.next = s.records.journal.next + 1 ∧
    t.words (0x411000 + 8 * (s.records.journal.next - 1)) 8 = recWords (gapFill s.records.journal e)
      s.records.journal.next ∧ t.flag R.JNL_EVT_NEW = true ∧ t.records.recorder = s.records.recorder ∧ (∀ x,
    x < 0x411000 + 8 * (s.records.journal.next - 1) ∨ 0x411000 + 8 * (s.records.journal.next - 1) + 8 ≤ x →
    t.word x = s.word x) ∧ t = { s with regs := t.regs, mem := t.mem, poison := t.poison, records := t.records }) ∧
  (∀ (s : State) (e : RecEntry), s.powered = true → s.records.journal.ready = none →
    s.records.recorder.ready = some e → s.records.epUsed < 1024 →
    Runs (.recordWrite) s fun t => t.records.recorder.next = (s.records.recorder.next + 1) % 2 ^ 36 ∧
    t.records.epUsed = s.records.epUsed + 1 ∧
    t.words (0x429000 + 8 * s.records.epUsed) 8 = recWords (gapFill s.records.recorder e) s.records.recorder.next ∧
    t.flag R.EVR_EVT_NEW = true ∧ t.records.journal = s.records.journal ∧ (∀ x, x < 0x429000 + 8 * s.records.epUsed ∨
    0x429000 + 8 * s.records.epUsed + 8 ≤ x → t.word x = s.word x) ∧
    t = { s with regs := t.regs, mem := t.mem, poison := t.poison, records := t.records }) ∧
  (∀ (s : State) (j : Bool), s.powered = true →
    Runs (.heldRecordRelease j) s fun t => ((if j then t.records.journal.held else t.records.recorder.held) = false) ∧
    t.records.journal.queue = s.records.journal.queue ∧ t.records.recorder.queue = s.records.recorder.queue ∧
    t = { s with regs := t.regs, records := t.records }) ∧
  (∀ (s : State) (p : Port) (ch : Channel) (v : RecView) (seq a gone : Nat), s.powered = true →
    s.get (R.EVR_PCMD_STATUS p) ≠ 1 → (s.dev ≠ .boot ∧ s.dev ≠ .load) →
    (handleChannel s (s.reg (R.EVR_PHND_HANDLE p).addr)).toOption = some ch → ch.cls = 8 → s.recView ch.idx = some v →
    viewAtEnd v v.ribbon = false → viewFind s v ch.words = some (seq, a, gone) → viewAtEnd v seq = false →
    Runs (.next p) s fun t => t.get (R.EVR_PCMD_STATUS p) = 2 ∧ t.get (R.EVR_PRIB_RIBBON p) = (seq + 1) % 2 ^ 36 ∧
    (∀ k : Fin 8, t.reg (R.EVR_PREC_WORD p k).addr = s.word (a + k)) ∧
    t.recView v.idx = some { v with ribbon := (seq + 1) % 2 ^ 36, skip := (v.skip + gone) % 2 ^ 36 } ∧
    t = { s with regs := t.regs, records := t.records, power := t.power }) ∧
  (∀ (s : State) (p : Port) (ch : Channel) (v : RecView), s.powered = true → s.get (R.EVR_PCMD_STATUS p) ≠ 1 →
    (s.dev ≠ .boot ∧ s.dev ≠ .load) → (handleChannel s (s.reg (R.EVR_PHND_HANDLE p).addr)).toOption = some ch →
    ch.cls = 8 → s.recView ch.idx = some v → viewAtEnd v v.ribbon = false → viewFind s v ch.words = none →
    Runs (.next p) s fun t => t.get (R.EVR_PCMD_STATUS p) = 6 ∧ t.records = s.records ∧
    t = { s with regs := t.regs, power := t.power }) ∧
  (∀ (s : State) (p : Port) (ch : Channel) (v : RecView), s.powered = true → s.get (R.EVR_PCMD_STATUS p) ≠ 1 →
    (s.dev ≠ .boot ∧ s.dev ≠ .load) → (handleChannel s (s.reg (R.EVR_PHND_HANDLE p).addr)).toOption = some ch →
    ch.cls = 8 → s.recView ch.idx = some v → viewAtEnd v v.ribbon = true →
    Runs (.next p) s fun t => t.get (R.EVR_PCMD_STATUS p) = 7 ∧ t.records = s.records ∧
    t = { s with regs := t.regs, power := t.power }) ∧
  (∀ (s : State) (p : Port) (ch : Channel) (v : RecView), s.powered = true → s.get (R.EVR_PCMD_STATUS p) ≠ 1 →
    (s.dev ≠ .boot ∧ s.dev ≠ .load) → (handleChannel s (s.reg (R.EVR_PHND_HANDLE p).addr)).toOption = some ch →
    ch.cls = 8 → s.recView ch.idx = some v → Runs (.mark p) s fun t => t.get (R.EVR_PCMD_STATUS p) = 2 ∧
    t.recView v.idx = some { v with stopAt := some (storeNext s (ch.words.getD 0 0).msb) } ∧
    t = { s with regs := t.regs, records := t.records, power := t.power }) ∧
  (∀ (s : State) (p : Port), s.powered = true → s.get (R.EVR_PCMD_STATUS p) ≠ 1 → (s.dev = .stop ∨ s.dev = .run ∨
    s.dev = .halt) → 128 ≤ bitsOf (s.reg (R.EVR_PREC_WORD p 1).addr) 28 8 → s.power.pfStep = 0 →
    ((s.records.recorder.held && s.records.recorder.queue.getLast?.any (fun e => sameReport e ⟨false,
    bitsOf (s.reg (R.EVR_PREC_WORD p 1).addr) 28 8, 32 + p.val, s.reg (R.EVR_PREC_WORD p 5).addr,
    s.reg (R.EVR_PREC_WORD p 6).addr⟩)) = false) → s.records.recorder.queue.length < 16 →
    Runs (.write p) s fun t => t.get (R.EVR_PCMD_STATUS p) = 2 ∧
    t.records.recorder.queue = s.records.recorder.queue ++ [recEntry s ⟨false,
    bitsOf (s.reg (R.EVR_PREC_WORD p 1).addr) 28 8, 32 + p.val, s.reg (R.EVR_PREC_WORD p 5).addr,
    s.reg (R.EVR_PREC_WORD p 6).addr⟩ 1 1] ∧ t.records.journal = s.records.journal ∧
    t = { s with regs := t.regs, records := t.records, power := t.power }) ∧
  (∀ (s : State) (p : Port), s.powered = true → s.get (R.EVR_PCMD_STATUS p) ≠ 1 → (s.dev = .stop ∨ s.dev = .run ∨
    s.dev = .halt) → bitsOf (s.reg (R.EVR_PREC_WORD p 1).addr) 28 8 < 128 →
    Runs (.write p) s fun t => t.get (R.EVR_PCMD_STATUS p) = 5 ∧ t.get (R.EVR_PCMD_ERR p) = 4 ∧
    t = { s with regs := t.regs, power := t.power }) ∧
  (∀ (s : State) (p : Port), s.powered = true → s.get (R.EVR_PCMD_STATUS p) ≠ 1 → (s.dev = .standby ∨ s.dev = .boot ∨
    s.dev = .load ∨ s.dev = .safe) →
    Runs (.write p) s fun t => (t.get (R.EVR_PCMD_STATUS p) = (if s.dev = .standby then 8 else 3)) ∧
    t = { s with regs := t.regs, power := t.power }) ∧
  (∀ (s : State) (m : Fin 18) (o : Option (BitVec 16)), s.powered = true → (s.dev ≠ .boot ∧ s.dev ≠ .load) →
    s.get R.EVR_CMD_STATUS ≠ 1 → sealCause (sealAt s o) [2] = 0 →
    Runs (.clear m o) s fun t => t.get R.EVR_CMD_STATUS = 2 ∧ t.records.epBase = s.records.recorder.next ∧
    t.records.epUsed = 1 ∧ t.records.recorder.next = (s.records.recorder.next + 1) % 2 ^ 36 ∧
    t.flag R.EVR_EVT_CLEARED = true ∧ t.get R.COL_CMDCNT_COUNT = (sealWord (sealAt s o) 4).toNat ∧ (∀ x,
    x < 0x429000 ∨ 0x429000 + 8 ≤ x → t.word x = s.word x) ∧
    t = { s with regs := t.regs, mem := t.mem, poison := t.poison, records := t.records, power := t.power }) ∧
  (∀ (s : State) (m : Fin 18) (o : Option (BitVec 16)) (c : Nat), s.powered = true → (s.dev ≠ .boot ∧ s.dev ≠ .load) →
    s.get R.EVR_CMD_STATUS ≠ 1 → sealCause (sealAt s o) [2] = c → c ≠ 0 →
    Runs (.clear m o) s fun t => t.get R.EVR_CMD_STATUS = 4 ∧ t.get R.COL_CAUSE_CAUSE = c ∧
    t.get R.COL_CMDCNT_COUNT = s.get R.COL_CMDCNT_COUNT ∧
    t = { s with regs := t.regs, records := t.records, power := t.power })

/-- Owner keys and attestation (R525 to R529, R543); the per-message secret is a free value (log 2). -/
def Obligations.OwnerKeys : Prop :=
  (∀ (s : State), s.dev = .stop → s.get R.COL_CMD_STATUS ≠ 1 → s.get R.COL_KSTAT_STATE = 0 →
    (sealBlock s 48).isSome = true → Runs (.claim 8) s fun t => t.get R.COL_CMD_STATUS = 2 ∧
    t = { s with regs := t.regs, records := t.records, power := t.power } ∧ keyState t 0 = 1 ∧ (∀ k : Fin 3,
    keyState t (k.val + 1) = 0) ∧ (∀ k : Fin 16, t.get (R.COL_OKEY_KEY k) = bitsOf (sealWord s (5 + k)) 0 32)) ∧
  (∀ (s : State) (m : Fin 18), s.powered = true → s.get R.COL_CMD_STATUS ≠ 1 → (m ≠ 8 ∨ s.dev ≠ .stop ∨
    s.get R.COL_KSTAT_STATE ≠ 0) → Runs (.claim m) s fun t => t.get R.COL_CMD_STATUS = 3 ∧
    t = { s with regs := t.regs, power := t.power } ∧ (∀ a, a ≠ R.COL_CMD_STATUS.addr → t.reg a = s.reg a)) ∧
  (∀ (s : State) (m : Fin 18) (o : Option (BitVec 16)), s.powered = true → s.get R.COL_CMD_STATUS ≠ 1 →
    sealCause (sealAt s o) [3, 4, 5] = 0 → bitsOf (sealWord (sealAt s o) 1) 28 8 = 3 →
    Runs (.install m o) s fun t => t.get R.COL_CMD_STATUS = 2 ∧
    t = { s with regs := t.regs, records := t.records, power := t.power } ∧
    t.get R.COL_SBADR_OFS = (sealAt s o).get R.COL_SBADR_OFS ∧ keyState t (bitsOf (sealWord (sealAt s o) 1) 4 2) = 1 ∧
    (∀ k : Fin 4, k.val ≠ bitsOf (sealWord (sealAt s o) 1) 4 2 → keyState t k = keyState s k) ∧
    t.get R.COL_CMDCNT_COUNT = (sealWord (sealAt s o) 4).toNat ∧ (∀ k : Fin 16,
    t.get (R.COL_OKEY_KEY (16 * (bitsOf (sealWord (sealAt s o) 1) 4 2) + k)) = bitsOf (sealWord (sealAt s o) (5 + k))
      0 32)) ∧
  (∀ (s : State) (m : Fin 18) (o : Option (BitVec 16)) (c : Nat), s.powered = true → s.get R.COL_CMD_STATUS ≠ 1 →
    sealCause (sealAt s o) [3, 4, 5] = c → c ≠ 0 → Runs (.install m o) s fun t => t.get R.COL_CMD_STATUS = 7 ∧
    t.get R.COL_CAUSE_CAUSE = c ∧ t.get R.COL_KSTAT_STATE = s.get R.COL_KSTAT_STATE ∧
    t.get R.COL_CMDCNT_COUNT = s.get R.COL_CMDCNT_COUNT ∧
    t = { s with regs := t.regs, records := t.records, power := t.power }) ∧
  (∀ (s : State) (m : Fin 18) (o : Option (BitVec 16)), s.powered = true → s.get R.COL_CMD_STATUS ≠ 1 →
    sealCause (sealAt s o) [3, 4, 5] = 0 → bitsOf (sealWord (sealAt s o) 1) 28 8 = 4 →
    Runs (.revoke m o) s fun t => t.get R.COL_CMD_STATUS = 2 ∧
    t = { s with regs := t.regs, records := t.records, power := t.power } ∧
    t.get R.COL_SBADR_OFS = (sealAt s o).get R.COL_SBADR_OFS ∧ keyState t (bitsOf (sealWord (sealAt s o) 1) 4 2) = 2 ∧
    (∀ k : Fin 4, k.val ≠ bitsOf (sealWord (sealAt s o) 1) 4 2 → keyState t k = keyState s k) ∧
    t.get R.COL_CMDCNT_COUNT = (sealWord (sealAt s o) 4).toNat) ∧
  (∀ (s : State) (m : Fin 18) (o : Option (BitVec 16)), s.powered = true → s.get R.COL_CMD_STATUS ≠ 1 →
    sealCause (sealAt s o) [3, 4, 5] = 0 → bitsOf (sealWord (sealAt s o) 1) 28 8 = 5 →
    Runs (.setpol m o) s fun t => t.get R.COL_CMD_STATUS = 2 ∧
    t = { s with regs := t.regs, records := t.records, power := t.power } ∧
    t.get R.COL_SBADR_OFS = (sealAt s o).get R.COL_SBADR_OFS ∧
    t.get R.COL_KSTAT_OWNSIGN = bitsOf (sealWord (sealAt s o) 5) 0 1 ∧
    t.get R.COL_KSTAT_STATE = s.get R.COL_KSTAT_STATE ∧ t.get R.COL_CMDCNT_COUNT = (sealWord (sealAt s o) 4).toNat) ∧
  (∀ (s : State) (m : Fin 18) (nonce : Option (Vector (BitVec 32) 8)), s.powered = true → s.get R.COL_CMD_STATUS ≠ 1 →
    Runs (.attest m nonce) s fun t => t.get R.COL_CMD_STATUS = 2 ∧ (∀ i : Fin 16,
    t.get (R.COL_ASIG_SIG i) = ((byteWords 8 (ecdsaSign s.ids.unitKey (shaWords (attestWords (nonceAt s nonce)))
      (secretNumber s).1).1 ++ byteWords 8 (ecdsaSign s.ids.unitKey (shaWords (attestWords (nonceAt s nonce)))
      (secretNumber s).1).2).getD i 0).toNat) ∧ t.free = s.free + 4 ∧
    t = { s with regs := t.regs, free := t.free, power := t.power })

/-- Writes of registers (R6, R7, R116, R610, R612). -/
def Obligations.RegisterWrites : Prop :=
  (∀ (s : State) (m : Fin 18) (a : BitVec 17) (v : Word), s.powered = true → regRow (0xC00000 + a.toNat) = none →
    Runs (.registerWrite m a v) s fun t => t = s.usedBy m) ∧
  (∀ (s : State) (m : Fin 18) (v : Word), s.powered = true →
    Runs (.registerWrite m (BitVec.ofNat 17 (R.CLK_STAT_RELOCKLATE.addr - 0xC00000)) v) s fun t => t.flag
      R.CLK_STAT_RELOCKLATE = (s.flag R.CLK_STAT_RELOCKLATE && !v.getLsbD 9) ∧
    t.get R.CLK_STAT_X32OK = s.get R.CLK_STAT_X32OK ∧ t.flag R.CLK_STAT_STOPPED = s.flag R.CLK_STAT_STOPPED ∧
    t.dev = s.dev ∧ t.mem = s.mem ∧ t = { s with regs := t.regs, host := t.host, power := t.power }) ∧
  (∀ (s : State) (m : Fin 18) (v : Word), s.powered = true →
    Runs (.registerWrite m (BitVec.ofNat 17 (R.SPN_EVT_BREAK.addr - 0xC00000)) v) s fun t => ((List.range 11).all (fun
      i => t.getBit ⟨R.SPN_EVT_BREAK.addr, 0, 11⟩ i == (s.getBit ⟨R.SPN_EVT_BREAK.addr, 0,
    11⟩ i && !v.getLsbD i)) = true) ∧ t.mem = s.mem ∧ t.dev = s.dev ∧
    t = { s with regs := t.regs, host := t.host, power := t.power }) ∧
  (∀ (s : State) (m : Fin 18) (v : Word), s.powered = true →
    Runs (.registerWrite m (BitVec.ofNat 17 (R.PCI_VMASK_MASK.addr - 0xC00000)) v) s fun t => t.get R.PCI_VMASK_MASK =
      v.toNat % 2 ^ 32 ∧ t.mem = s.mem ∧ t.dev = s.dev ∧
    t = { s with regs := t.regs, host := t.host, power := t.power }) ∧
  (∀ (s : State) (m : Fin 18) (v : Word), s.powered = true → (0 < s.power.pfStep ∨ heldInReset s = true ∨
    (s.power.pfPin = false ∧ s.power.pfMon = false)) → s.flag R.PWR_PFCFG_LOCK = true →
    Runs (.registerWrite m (BitVec.ofNat 17 (R.PWR_PFCFG_LOCK.addr - 0xC00000)) v) s fun t => t.flag R.PWR_PFCFG_LOCK
      = true ∧ t.get R.PWR_PFCFG_PFSTORE = s.get R.PWR_PFCFG_PFSTORE ∧
    t.get R.PWR_PFCFG_PFSRC = s.get R.PWR_PFCFG_PFSRC ∧ t = { s with regs := t.regs, power := t.power }) ∧
  (∀ (s : State) (m : Fin 18) (v : Word), s.powered = true → (0 < s.power.pfStep ∨ heldInReset s = true ∨
    (s.power.pfPin = false ∧ s.power.pfMon = false)) → s.flag R.PWR_PFCFG_LOCK = false → 1 ≤ v.toNat % 4 →
    Runs (.registerWrite m (BitVec.ofNat 17 (R.PWR_PFCFG_LOCK.addr - 0xC00000)) v) s fun t => t.flag R.PWR_PFCFG_LOCK
      = v.getLsbD 35 ∧ t.flag R.PWR_PFCFG_PFSTORE = v.getLsbD 4 ∧ t.get R.PWR_PFCFG_PFSRC = v.toNat % 4 ∧
    t = { s with regs := t.regs, power := t.power } ∧ (∀ a, a ≠ R.PWR_PFCFG_LOCK.addr → t.reg a = s.reg a)) ∧
  (∀ (s : State) (m : Fin 18) (v : Word), s.powered = true → (0 < s.power.pfStep ∨ heldInReset s = true ∨
    (s.power.pfPin = false ∧ s.power.pfMon = false)) → s.flag R.PWR_PFCFG_LOCK = false → v.toNat % 4 = 0 →
    Runs (.registerWrite m (BitVec.ofNat 17 (R.PWR_PFCFG_LOCK.addr - 0xC00000)) v) s fun t => t.get R.PWR_PFCFG_PFSRC
      = s.get R.PWR_PFCFG_PFSRC ∧ t.flag R.SYS_ERR_RSVD = true ∧ t.get R.SYS_ERRADR_ADDR = R.PWR_PFCFG_LOCK.addr ∧
    t.get R.SYS_ERRADR_MASTER = m.val ∧ t = { s with regs := t.regs, power := t.power } ∧ (∀ a,
    a ≠ R.PWR_PFCFG_LOCK.addr → a ≠ R.SYS_ERR_RSVD.addr → a ≠ R.SYS_ERRADR_ADDR.addr → t.reg a = s.reg a)) ∧
  (∀ (s : State) (m : Fin 18) (v : Word), s.dev = .run → s.power.pfStep = 0 → heldInReset s = false →
    s.flag R.PWR_PFCFG_LOCK = false → ((s.power.pfPin && v.getLsbD 0) || (s.power.pfMon && v.getLsbD 1)) = true →
    Runs (.registerWrite m (BitVec.ofNat 17 (R.PWR_PFCFG_LOCK.addr - 0xC00000)) v) s fun t => t.power.pfStep = 3 ∧
    t.flag R.PWR_STAT_PFACT = true ∧ t.dev = .run) ∧
  (∀ (s : State) (m : Fin 18) (v : Word), s.powered = true → expertOpen s 9 = false →
    Runs (.registerWrite m (BitVec.ofNat 17 (R.IMP_XCFG_FREEZE.addr - 0xC00000)) v) s fun t => t.reg
      R.IMP_XCFG_FREEZE.addr = s.reg R.IMP_XCFG_FREEZE.addr ∧ t.flag R.SYS_XOPEN_XIGN = true ∧
    t.overridden = s.overridden ∧ t = { s with regs := t.regs, power := t.power } ∧ (∀ a, a ≠ R.SYS_XOPEN_XIGN.addr →
    t.reg a = s.reg a)) ∧
  (∀ (s : State) (m : Fin 18) (v : Word), s.powered = true → expertOpen s 9 = true →
    Runs (.registerWrite m (BitVec.ofNat 17 (R.IMP_XCFG_FREEZE.addr - 0xC00000)) v) s fun t => t.flag
      R.IMP_XCFG_FREEZE = v.getLsbD 35 ∧ t.get R.IMP_XCFG_MARGIN = v.toNat % 16 ∧
    (t.get R.IMP_XCFG_HOLD = (if v.toNat / 256 % 256 = 0 then s.get R.IMP_XCFG_HOLD else v.toNat / 256 % 256)) ∧
    t.overridden.contains (R.IMP_XCFG_FREEZE.addr, 35) = true ∧ (v.toNat / 256 % 256 = 0 →
    t.flag R.SYS_ERR_RSVD = true) ∧ t = { s with regs := t.regs, overridden := t.overridden, power := t.power }) ∧
  (∀ (s : State) (m : Fin 18) (p : Port) (v : Word), s.powered = true → masterPort m = p.val →
    Runs (.registerWrite m (BitVec.ofNat 17 ((R.FRC_PSYM_SYM p).addr - 0xC00000)) v) s fun t => t.get (R.FRC_PSYM_SYM
      p) = v.toNat % 2 ^ 18 ∧ t.get (R.FRC_PSYM_ELEM p) = v.toNat / 2 ^ 18 ∧
    t = { s with regs := t.regs, power := t.power } ∧ (∀ a, a ≠ (R.FRC_PSYM_SYM p).addr → t.reg a = s.reg a)) ∧
  (∀ (s : State) (m : Fin 18) (p : Port) (v : Word), s.powered = true → masterPort m ≠ p.val →
    Runs (.registerWrite m (BitVec.ofNat 17 ((R.FRC_PSYM_SYM p).addr - 0xC00000)) v) s fun t => t = (s.usedBy m).rsvd
      m (R.FRC_PSYM_SYM p).addr) ∧
  (∀ (s : State) (m : Fin 18) (v : Word), s.powered = true → s.get R.FOL_CMD_STATUS = 1 → v.toNat % 16 ≠ 2 →
    Runs (.registerWrite m (BitVec.ofNat 17 (R.FOL_CMD_CODE.addr - 0xC00000)) v) s fun t => t = (s.usedBy m).rsvd m
      R.FOL_CMD_CODE.addr) ∧
  (∀ (s : State) (m : Fin 18) (v : Word), s.powered = true →
    Runs (.registerWrite m (BitVec.ofNat 17 (R.SYS_STATE_STATE.addr - 0xC00000)) v) s fun t => t = s.usedBy m)

/-- The host and mirror ports and the debug ports (R545 to R555, R569, R570). -/
def Obligations.HostAndMirrorPorts : Prop :=
  (∀ (s : State) (a : BitVec 24) (first : Fin 8) (count : Fin 9), s.powered = true → s.flag R.PCI_STAT_PERST = false →
    hostServed s = true → s.flag R.CLK_STAT_STOPPED = false → a.toNat < 0x3F0000 → s.poisoned a.toNat = false →
    Runs (.pcieAccess .bar0 a first count none) s fun t => t.host.completion = some (slotBytes ((s.word
      a.toNat).setWidth 64) first count, false) ∧ t = { s with host := t.host }) ∧
  (∀ (s : State) (a : BitVec 24) (d : BitVec 64), s.powered = true → s.flag R.PCI_STAT_PERST = false →
    hostServed s = true → s.flag R.CLK_STAT_STOPPED = false → a.toNat < 0x3F0000 → hasStandby s = false →
    Runs (.pcieAccess .bar0 a 0 8 (some d)) s fun t => t.word a.toNat = d.setWidth 36 ∧ (d.extractLsb' 36 28 ≠ 0#28 →
    t.flag R.PCI_EVT_UPPER = true) ∧ (∀ x, x < a.toNat ∨ a.toNat + 1 ≤ x → t.word x = s.word x) ∧ t.dev = s.dev) ∧
  (∀ (s : State) (a : BitVec 24) (first : Fin 8) (count : Fin 9) (d : BitVec 64), s.powered = true →
    s.flag R.PCI_STAT_PERST = false → hostServed s = true → s.flag R.CLK_STAT_STOPPED = false → (first ≠ 0 ∨
    count.val < 8) → Runs (.pcieAccess .bar0 a first count (some d)) s fun t => t = s.raise R.PCI_EVT_PARTIAL) ∧
  (∀ (s : State) (a : BitVec 24) (first : Fin 8) (count : Fin 9), s.powered = true → s.flag R.PCI_STAT_PERST = false →
    hostServed s = true → s.flag R.CLK_STAT_STOPPED = false → 0x450000 ≤ a.toNat → a.toNat < 0x500000 →
    Runs (.pcieAccess .bar0 a first count none) s fun t => t.host.completion = some (BitVec.allOnes 64, false) ∧
    t.flag R.PCI_EVT_REFUSED = true ∧ t.get R.PCI_ERRADR_ADDR = a.toNat ∧
    t = { s with regs := t.regs, host := t.host } ∧ (∀ a, a ≠ R.PCI_EVT_REFUSED.addr → a ≠ R.PCI_ERRADR_ADDR.addr →
    t.reg a = s.reg a)) ∧
  (∀ (s : State) (a : BitVec 24) (first : Fin 8) (count : Fin 9), s.flag R.PCI_STAT_PERST = false →
    hostServed s = false →
    Runs (.pcieAccess .bar0 a first count none) s fun t => t.host = { s.host with resetAccess := true, completion := some (BitVec.allOnes 64, false) } ∧
    t = { s with host := t.host }) ∧
  (∀ (s : State) (sp : PcieSpace) (a : BitVec 24) (first : Fin 8) (count : Fin 9) (d : Option (BitVec 64)),
    s.flag R.PCI_STAT_PERST = true → Runs (.pcieAccess sp a first count d) s fun t => t = s) ∧
  (∀ (s : State), Runs (.pciPerst true) s fun t => t.flag R.PCI_STAT_PERST = true ∧ t.flag R.PCI_STAT_BME = false ∧
    t.flag R.PCI_STAT_LINK = false ∧ t.host.pba = 0 ∧ t.mem = s.mem ∧ t.dev = s.dev ∧
    t = { s with regs := t.regs, host := t.host } ∧ (∀ a, a ≠ R.PCI_STAT_PERST.addr → a ≠ R.CLK_STAT_PCILOCK.addr →
    t.reg a = s.reg a)) ∧
  (∀ (s : State) (up : Bool) (speed width : Fin 4), s.flag R.PCI_STAT_PERST = false →
    Runs (.pcieLinkChange up speed width) s fun t => t.flag R.PCI_STAT_LINK = up ∧
    (t.get R.PCI_STAT_SPEED = (if up then speed.val else 0)) ∧
    (t.get R.PCI_STAT_WIDTH = (if up then width.val else 0)) ∧ t = { s with regs := t.regs } ∧ (∀ a,
    a ≠ R.PCI_STAT_LINK.addr → t.reg a = s.reg a)) ∧
  (∀ (s : State) (mask : BitVec 8), s.powered = true → mask.getLsbD 3 = true → s.host.driven = 0 →
    s.flag (⟨R.PCI_VMASK_MASK.addr, 27, 1⟩ : Fld) = true → (s.host.table.getD 111 0).testBit 0 = false →
    Runs (.softwareInterrupt mask) s fun t => t.flag ⟨R.PCI_VPEND_PEND.addr, 27, 1⟩ = true ∧
    t.host.sent.toList.getD 27 0 = s.host.sent.toList.getD 27 0 + 1 ∧ t.mem = s.mem ∧
    t = { s with regs := t.regs, host := t.host }) ∧
  (∀ (s : State) (a : BitVec 22), mirrorOn s = true → a.toNat < 0x10000 → s.poisoned (0x440000 + a.toNat) = false →
    Runs (.mirrorRead a) s fun t => t.mirror.data = some (s.word (0x440000 + a.toNat)) ∧
    t.mirror.flipIrq = (s.mirror.flipIrq && a != 0) ∧ t.mirror.replyIrq = (s.mirror.replyIrq && a != 0xFFFF) ∧
    t = { s with mirror := t.mirror }) ∧
  (∀ (s : State) (a : BitVec 22), mirrorOn s = false →
    Runs (.mirrorRead a) s fun t => t.mirror = { s.mirror with data := none } ∧ t = { s with mirror := t.mirror }) ∧
  (∀ (s : State) (a : BitVec 22) (w : Word), mirrorOn s = true → a.toNat < 0xF000 →
    Runs (.mirrorWrite a w) s fun t => t = s.raise R.MIR_EVT_WIGN) ∧
  (∀ (s : State) (a : BitVec 22) (w : Word), mirrorOn s = true → 0xF000 ≤ a.toNat → a.toNat < 0xF7FE →
    Runs (.mirrorWrite a w) s fun t => t.word (0x440000 + a.toNat) = w ∧ (∀ x, x < 0x440000 + a.toNat ∨
    0x440000 + a.toNat + 1 ≤ x → t.word x = s.word x) ∧ t.regs = s.regs ∧ t.dev = s.dev) ∧
  (∀ (s : State) (w : Word), mirrorOn s = true → Runs (.doorbell w) s fun t => t.word 0x44F7FF = w ∧
    t.flag R.MIR_EVT_DOOR = true ∧ t.get R.MIR_DOORS_COUNT = (s.get R.MIR_DOORS_COUNT + 1) % 2 ^ 36 ∧
    t.flag ⟨R.PCI_VPEND_PEND.addr, 4, 1⟩ = true ∧ (∀ x, x < 0x44F7FF ∨ 0x44F7FF + 1 ≤ x → t.word x = s.word x) ∧
    t.dev = s.dev) ∧
  (∀ (s : State) (w : Word), mirrorOn s = true → Runs (.mirrorHold w) s fun t => t.word 0x44F7FE = w ∧
    (t.mirror.hold = (if w = 1 then true else if w = 0 then false else s.mirror.hold)) ∧ (∀ x, x < 0x44F7FE ∨
    0x44F7FE + 1 ≤ x → t.word x = s.word x) ∧ t.dev = s.dev) ∧
  (∀ (s : State), s.powered = true → s.mirror.hold = true → Runs (.holdExpiry) s fun t => t.mirror.hold = false ∧
    t.word 0x44F7FE = 0 ∧ t.flag R.MIR_EVT_HOLDEXP = true ∧ t.flag R.MIR_STAT_HOLD = false ∧ (∀ x, x < 0x44F7FE ∨
    0x44F7FE + 1 ≤ x → t.word x = s.word x)) ∧
  (∀ (s : State), s.powered = true → s.mirror.hold = false → Runs (.holdExpiry) s fun t => t = s) ∧
  (∀ (s : State) (w : Word), s.powered = true → s.mirror.copy = some [(9, w)] → s.cycling = true →
    Runs (.mirrorFlip) s fun t => t.word 0x440009 = w ∧ t.word 0x440004 = 0 ∧
    t.get R.MIR_FLIPS_COUNT = (s.get R.MIR_FLIPS_COUNT + 1) % 2 ^ 36 ∧
    t.mirror = { s.mirror with copy := none, flipIrq := true } ∧ (∀ x, x < 0x440004 ∨ 0x440004 + 6 ≤ x →
    t.word x = s.word x) ∧ t.dev = s.dev) ∧
  (∀ (s : State) (c : CoreId) (w : Word), coreRuns s c = true →
    Runs (.replyDoorbell c w) s fun t => t.word 0x44FFFF = w ∧ t.mirror.replyIrq = true ∧ (∀ x, x < 0x44FFFF ∨
    0x44FFFF + 1 ≤ x → t.word x = s.word x) ∧ t.dev = s.dev) ∧
  (∀ (s : State), s.powered = true → s.power.porstLow = false → Runs (.jtagInstruction ⟨.highz,
    none⟩) s fun t => t.dbg.instr = .bypass ∧ t.flag R.DBG_EVT_BSIGN = true ∧ t.flag R.DBG_STAT_CONN = false ∧
    t = { s with regs := t.regs, dbg := t.dbg }) ∧
  (∀ (s : State), s.flag R.DBG_CFG_ENABLE = true → Runs (.jtagInstruction ⟨.debug,
    none⟩) s fun t => t.dbg.instr = .debug ∧ t.flag R.DBG_STAT_CONN = true ∧ (s.flag R.CLK_STAT_STOPPED = true →
    t.power.pllWaking = true) ∧ t = { s with regs := t.regs, dbg := t.dbg, power := t.power } ∧ (∀ a,
    a ≠ R.DBG_STAT_CONN.addr → t.reg a = s.reg a)) ∧
  (∀ (s : State) (a : BitVec 24), s.flag R.DBG_CFG_ENABLE = true → hostServed s = true → a.toNat < 0x3F0000 →
    s.poisoned a.toNat = false → Runs (.jtagInstruction ⟨.debug, some (a,
    none)⟩) s fun t => t.dbg.out = some (s.word a.toNat) ∧ t.flag R.DBG_STAT_CONN = true ∧
    t = { s with regs := t.regs, dbg := t.dbg, power := t.power } ∧ (∀ a, a ≠ R.DBG_STAT_CONN.addr →
    t.reg a = s.reg a)) ∧
  (∀ (s : State) (a : BitVec 24) (w : Word), s.flag R.DBG_CFG_ENABLE = true → hostServed s = true →
    a.toNat < 0x3F0000 → hasStandby s = false → Runs (.jtagInstruction ⟨.debug, some (a,
    some w)⟩) s fun t => t.word a.toNat = w ∧ (∀ x, x < a.toNat ∨ a.toNat + 1 ≤ x → t.word x = s.word x) ∧
    t.dev = s.dev) ∧
  (∀ (s : State) (access : Option (BitVec 24 × Option Word)), s.flag R.DBG_CFG_ENABLE = false →
    Runs (.jtagInstruction ⟨.debug, access⟩) s fun t => t.dbg = { s.dbg with instr := .bypass, out := none } ∧
    t.flag R.DBG_STAT_CONN = false ∧ t = { s with regs := t.regs, dbg := t.dbg } ∧ (∀ a, a ≠ R.DBG_STAT_CONN.addr →
    t.reg a = s.reg a)) ∧
  (∀ (s : State) (access : Option (BitVec 24 × Option Word)), Runs (.jtagInstruction ⟨.idcode,
    access⟩) s fun t => (t.dbg.out.getD 0).toNat / 2 ^ 28 = s.rev % 16 ∧
    (t.dbg.out.getD 0).toNat / 2 ^ 12 % 2 ^ 16 = 0xB909 ∧ (t.dbg.out.getD 0).toNat % 2 = 1 ∧
    t = { s with regs := t.regs, dbg := t.dbg, free := t.free } ∧ (∀ a, a ≠ R.DBG_STAT_CONN.addr → t.reg a = s.reg a)) ∧
  (∀ (s : State) (b : BitVec 8), s.powered = true → s.flag R.DBG_CFG_ENABLE = true →
    Runs (.debugUartInput b) s fun t => t.dbg = { s.dbg with uart := s.dbg.uart ++ [b.toNat] } ∧
    t = { s with dbg := t.dbg }) ∧
  (∀ (s : State), Runs (.tapReset) s fun t => t.dbg = { s.dbg with instr := .idcode } ∧
    t.flag R.DBG_STAT_CONN = false ∧ t = { s with regs := t.regs, dbg := t.dbg } ∧ (∀ a, a ≠ R.DBG_STAT_CONN.addr →
    t.reg a = s.reg a))

/-- The station protocol (R561, R564, R566); the Ethernet ports (R557, R559, R560). -/
def Obligations.StationFrames : Prop :=
  (∀ (s : State) (port : Fin 2) (bytes : List (BitVec 8)) (f : StnIn) (st : StationCh), s.powered = true →
    s.getBit R.ETH_STAT_LINK port = true → stnParse (bytes.map (·.toNat)) = some f →
    (s.net.stations.find? (fun x => stnNumber (stnWords s x.idx) == f.number && (stnPort (stnWords s x.idx) ==
      port.val || stnPort (stnWords s x.idx) == 2) && stnNbi (stnWords s x.idx) == f.nb && stnNwi (stnWords s x.idx)
      == f.nw && s.get R.STN_SYS_SYSID == f.sysid) = some st) → Runs (.stationInFrame port ⟨bytes,
    none⟩) s fun t => (t.station st.idx).map (·.state) = some 1 ∧
    ((t.station st.idx).map (·.bits) = some ((List.range f.nb).map fun i => unpackPoint 1 f.body i == 1)) ∧
    (t.station st.idx).map (·.words) = some (unpackWords f.nw ((f.body.drop (ceilDiv f.nb 8)).drop (ceilDiv f.nb 4)))
      ∧ (t.station st.idx).map (·.ack) = some f.ack ∧ (t.station st.idx).map (·.lastIn) = some (some s.time.loc) ∧
    (st.state = 3 → t.flag R.STN_EVT_RETURN = true) ∧ (t.station st.idx).map (·.tag) = some (some f.time) ∧
    (t.station st.idx).map (·.out) = some st.out ∧ (sourceUnwatched s (.station st.idx) = true ∧
    stnSync (stnWords s st.idx) = false → t = { s with regs := t.regs, net := t.net })) ∧
  (∀ (s : State) (port : Fin 2) (bytes : List (BitVec 8)), s.powered = true → s.getBit R.ETH_STAT_LINK port = true →
    stnParse (bytes.map (·.toNat)) = none → Runs (.stationInFrame port ⟨bytes,
    none⟩) s fun t => t = s.raise R.STN_EVT_FMT) ∧
  (∀ (s : State) (port : Fin 2) (bytes : List (BitVec 8)) (src : BitVec 48) (seq : BitVec 16), s.powered = true →
    s.getBit R.ETH_STAT_LINK port = true → s.get R.ETH_CFG_RED ≠ 0 →
    ((s.net.dups.any fun d => d.1 == src.toNat && d.2.1 == seq.toNat && decide (s.time.loc - d.2.2 ≤ 400000000)) =
      true) → Runs (.stationInFrame port ⟨bytes, some (src, seq)⟩) s fun t => t.net.stations = s.net.stations ∧
    t = { s with net := t.net }) ∧
  (∀ (s : State) (port : Fin 2) (bytes : List (BitVec 8)) (tag : Option (BitVec 48 × BitVec 16)), s.powered = true →
    s.getBit R.ETH_STAT_LINK port = false → Runs (.stationInFrame port ⟨bytes, tag⟩) s fun t => t = s) ∧
  (∀ (s : State) (i : Fin 256) (st : StationCh), s.powered = true → s.station i = some st → st.state ≠ 3 →
    ((st.lastIn.any fun u => decide (s.time.loc < u + stnTmo s i * 100000)) = false) →
    Runs (.stationDrop i) s fun t => t.station i = some { st with state := 3 } ∧ t.flag R.STN_EVT_DROP = true ∧
    t.get (R.STN_ST_STATE st.idx) = 3 ∧ t = { s with regs := t.regs, net := t.net }) ∧
  (∀ (s : State) (i : Fin 256) (st : StationCh), s.powered = true → s.station i = some st → (st.state = 3 ∨
    (st.lastIn.any fun u => decide (s.time.loc < u + stnTmo s i * 100000)) = true) →
    Runs (.stationDrop i) s fun t => t = s) ∧
  (∀ (s : State) (c : Cls) (i : Nat) (st : StationCh), (s.dev = .stop ∨ s.dev = .safe ∨ s.dev = .halt) →
    s.power.pfStep = 0 → classStations s c = [i] → s.station i = some st → stnLink s (stnWords s i) = true →
    Runs (.keepAlive c) s fun t => (t.station i).map (·.out) = some (stnOutBytes s c i s.draw.1 s.draw.2.draw.1) ∧
    (t.station i).map (·.outAt) = some (some s.now) ∧ (t.station i).map (·.state) = some st.state ∧
    t = { s with regs := t.regs, net := t.net, free := t.free }) ∧
  (∀ (s : State) (c : Cls) (i : Nat), (s.dev = .stop ∨ s.dev = .safe ∨ s.dev = .halt) → classStations s c = [i] →
    (0 < s.power.pfStep ∨ stnLink s (stnWords s i) = false) →
    Runs (.keepAlive c) s fun t => t = { s with free := t.free }) ∧
  (∀ (s : State) (n : Fin 2) (up : Bool) (sp : Fin 4), s.powered = true → s.get (R.ETH_PCFG_MODE n) ≠ 0 →
    Runs (.ethLinkChange n up sp) s fun t => t.flag (R.ETH_PST_LINK n) = up ∧ t.getBit R.ETH_STAT_LINK n = up ∧
    t.get (R.ETH_PST_SPEED n) = sp.val ∧ t.getBit R.ETH_EVT_LINK n = true ∧ (up = false ∧ s.get R.ETH_CFG_RED ≠ 0 →
    t.flag R.ETH_EVT_RED = true) ∧ t = { s with regs := t.regs } ∧ (∀ a, a ≠ (R.ETH_PST_LINK n).addr →
    a ≠ R.ETH_STAT_LINK.addr → a ≠ R.ETH_EVT_LINK.addr → t.reg a = s.reg a)) ∧
  (∀ (s : State) (n : Fin 2) (ip : BitVec 32), s.powered = true → s.getBit R.ETH_STAT_LINK n = true →
    s.get (R.ETH_IP_IP n) = ip.toNat →
    Runs (.arpIcmpRequest n ip) s fun t => (t.ethPort n).answered = (s.ethPort n).answered + 1 ∧
    (t.ethPort n).gates = (s.ethPort n).gates ∧ t = { s with net := t.net }) ∧
  (∀ (s : State) (n : Fin 2) (ip : BitVec 32), s.powered = true → s.getBit R.ETH_STAT_LINK n = true →
    s.get (R.ETH_IP_IP n) ≠ ip.toNat →
    Runs (.arpIcmpRequest n ip) s fun t => t.get (R.ETH_CNT_DROP n) = (s.get (R.ETH_CNT_DROP n) + 1) % 2 ^ 18 ∧
    t = { s with regs := t.regs } ∧ (∀ a, a ≠ (R.ETH_CNT_DROP n).addr → t.reg a = s.reg a)) ∧
  (∀ (s : State) (n : Fin 2) (crc : Bool), s.powered = true → s.getBit R.ETH_STAT_LINK n = true →
    Runs (.ethFrameDiscard n crc) s fun t => (t.get (R.ETH_CNT_CRCERR n) = (s.get (R.ETH_CNT_CRCERR n) + (if crc then
      1 else 0)) % 2 ^ 18) ∧
    (t.get (R.ETH_CNT_DROP n) = (s.get (R.ETH_CNT_DROP n) + (if crc then 0 else 1)) % 2 ^ 18) ∧
    t = { s with regs := t.regs } ∧ (∀ a, a ≠ (R.ETH_CNT_DROP n).addr → t.reg a = s.reg a)) ∧
  (∀ (s : State) (n : Fin 2) (src : BitVec 48) (seq : BitVec 16), s.powered = true → s.get R.ETH_CFG_RED = 2 →
    s.get R.ETH_STAT_LINK = 3 → s.net.dups = [] →
    Runs (.hsrRingForward n src seq) s fun t => (t.ethPort (1 - n.val)).forwarded = (s.ethPort (1 - n.val)).forwarded
      + 1 ∧ t.ethPort n = s.ethPort n ∧ t.net.dups = [(src.toNat, seq.toNat, s.time.loc)] ∧
    t = { s with net := t.net }) ∧
  (∀ (s : State) (n : Fin 2) (src : BitVec 48) (seq : BitVec 16) (at' : Nat), s.powered = true →
    s.get R.ETH_CFG_RED = 2 → s.get R.ETH_STAT_LINK = 3 → s.net.dups = [(src.toNat, seq.toNat, at')] →
    s.time.loc ≤ at' + 400000000 → Runs (.hsrRingForward n src seq) s fun t => t = s) ∧
  (∀ (s : State) (n : Fin 2), s.powered = true → (s.ethPort n).entry + 1 < (s.ethPort n).gates.length →
    Runs (.gateControlEntry n) s fun t => t.ethPort n = { s.ethPort n with entry := (s.ethPort n).entry + 1 } ∧
    t = { s with net := t.net }) ∧
  (∀ (s : State) (n : Fin 2), s.powered = true → (s.ethPort n).gates.length ≤ (s.ethPort n).entry + 1 →
    s.flag (R.ETH_XGCFG_EN n) = true →
    Runs (.gateControlEntry n) s fun t => (t.ethPort n = { s.ethPort n with gates := (List.range (min (s.get (R.ETH_XGCFG_LEN n)) 64)).map (fun e => s.get (R.ETH_XGCL_GATES (64 * n.val + e))), entry := 0 }) ∧
    t = { s with net := t.net })

/-- R59: a deferral holds neither a cold reset nor a loss of power back. -/
def Obligations.ColdResetDuringDeferral : Prop :=
  (∀ (s : State), s.powered = true → s.flag R.SYS_STATE_DEFER = true → Runs (.porstAssert) s fun t => t.dev = .boot ∧
    t.power.bootKind = 1 ∧ t.flag R.SYS_STATE_DEFER = false) ∧
  (∀ (s : State), s.powered = true → s.flag R.SYS_STATE_DEFER = true →
    Runs (.debugResetRequest true) s fun t => t.dev = .boot ∧ t.power.bootKind = 1 ∧ t.flag R.SYS_STATE_DEFER = false) ∧
  (∀ (s : State) (m : Fin 18), s.powered = true → s.flag R.SYS_STATE_DEFER = true → s.get R.SYS_CMD_STATUS ≠ 1 →
    Runs (.resetCold m) s fun t => t.dev = .boot ∧ t.power.bootKind = 1 ∧ t.flag R.SYS_STATE_DEFER = false) ∧
  (∀ (s : State) (at0 : Nat), s.powered = true → s.flag R.SYS_STATE_DEFER = true → s.spine.resetAt = some (at0,
    true) → (s.acting = false ∨ s.flag R.SPN_GOP_SELF = true) → Runs (.resetInstant) s fun t => t.dev = .boot ∧
    t.power.bootKind = 1 ∧ t.flag R.SYS_STATE_DEFER = false) ∧
  (∀ (s : State) (rail : Fin 8), s.powered = true → s.flag R.SYS_STATE_DEFER = true →
    Runs (.railLost rail) s fun t => t.dev = .off)

/-- R30: SYS_CMD while a command of it is pending, and reserved codes. -/
def Obligations.PendingSysCommand : Prop :=
  (∀ (s : State) (m : Fin 18) (v : Word), s.powered = true → s.get R.SYS_CMD_STATUS = 1 →
    Runs (.registerWrite m (BitVec.ofNat 17 (R.SYS_CMD_CODE.addr - 0xC00000)) v) s fun t => t = (((s.usedBy m).raise
      R.SYS_ERR_RSVD).set R.SYS_ERRADR_MASTER m.val).set R.SYS_ERRADR_ADDR R.SYS_CMD_CODE.addr) ∧
  (∀ (s : State) (m : Fin 18) (v : Word), s.powered = true → s.get R.SYS_CMD_STATUS ≠ 1 → 7 ≤ v.toNat % 16 →
    Runs (.registerWrite m (BitVec.ofNat 17 (R.SYS_CMD_CODE.addr - 0xC00000)) v) s fun t => t.get R.SYS_CMD_CODE =
      s.get R.SYS_CMD_CODE ∧ t.get R.SYS_CMD_STATUS = s.get R.SYS_CMD_STATUS ∧ t.flag R.SYS_ERR_RSVD = true ∧
    t.dev = s.dev ∧ t = { s with regs := t.regs, power := t.power }) ∧
  (∀ (s : State) (m : Fin 18), s.powered = true → s.get R.SYS_CMD_STATUS = 1 →
    Runs (.startCold m) s fun t => t = (((s.usedBy m).raise R.SYS_ERR_RSVD).set R.SYS_ERRADR_MASTER m.val).set
      R.SYS_ERRADR_ADDR R.SYS_CMD_CODE.addr) ∧
  (∀ (s : State) (m : Fin 18), s.powered = true → s.get R.SYS_CMD_STATUS = 1 →
    Runs (.startWarm m) s fun t => t = (((s.usedBy m).raise R.SYS_ERR_RSVD).set R.SYS_ERRADR_MASTER m.val).set
      R.SYS_ERRADR_ADDR R.SYS_CMD_CODE.addr) ∧
  (∀ (s : State) (m : Fin 18), s.powered = true → s.get R.SYS_CMD_STATUS = 1 →
    Runs (.stop m) s fun t => t = (((s.usedBy m).raise R.SYS_ERR_RSVD).set R.SYS_ERRADR_MASTER m.val).set
      R.SYS_ERRADR_ADDR R.SYS_CMD_CODE.addr) ∧
  (∀ (s : State) (m : Fin 18), s.powered = true → s.get R.SYS_CMD_STATUS = 1 →
    Runs (.resetWarm m) s fun t => t = (((s.usedBy m).raise R.SYS_ERR_RSVD).set R.SYS_ERRADR_MASTER m.val).set
      R.SYS_ERRADR_ADDR R.SYS_CMD_CODE.addr) ∧
  (∀ (s : State) (m : Fin 18), s.powered = true → s.get R.SYS_CMD_STATUS = 1 →
    Runs (.resetCold m) s fun t => t = (((s.usedBy m).raise R.SYS_ERR_RSVD).set R.SYS_ERRADR_MASTER m.val).set
      R.SYS_ERRADR_ADDR R.SYS_CMD_CODE.addr) ∧
  (∀ (s : State) (m : Fin 18) (o : Option (BitVec 16)), s.powered = true → s.get R.SYS_CMD_STATUS = 1 →
    Runs (.leaveSafe m o) s fun t => t = (((sealAt (s.usedBy m) o).raise R.SYS_ERR_RSVD).set R.SYS_ERRADR_MASTER
      m.val).set R.SYS_ERRADR_ADDR R.SYS_CMD_CODE.addr)

/-- R85: a load from host memory and bus mastering. -/
def Obligations.HostLoadNeedsBusMastering : Prop :=
  (∀ (s : State) (m : Fin 18), s.get R.FOL_CMD_STATUS ≠ 1 → s.dev = .stop → s.power.pfStep = 0 →
    s.get R.FOL_SRC_SRC = 2 → s.flag R.PCI_STAT_BME = false →
    Runs (.folioLoad m) s fun t => t.get R.FOL_CMD_STATUS = 6 ∧ t.get R.FOL_STAT_CAUSE = 18 ∧ t.dev = .stop ∧
    t.folio = s.folio ∧ t = { s with regs := t.regs, records := t.records, fabric := t.fabric, power := t.power }) ∧
  (∀ (s : State) (m : Fin 18), s.get R.FOL_CMD_STATUS ≠ 1 → s.dev = .stop → s.power.pfStep = 0 →
    s.get R.FOL_SRC_SRC = 2 → s.flag R.PCI_STAT_BME = true →
    Runs (.folioLoad m) s fun t => t.get R.FOL_CMD_STATUS = 1 ∧ t.dev = .load ∧ t.folio.loading.isSome = true)

/-- R349 and R371: the limits of the twin and spine units. -/
def Obligations.ExpertLimitWords : Prop :=
  (∀ (s : State) (m : Fin 18) (v : Word), s.powered = true → expertOpen s 13 = true → 4 ≤ v.toNat % 2 ^ 4 →
    Runs (.registerWrite m (BitVec.ofNat 17 (R.TWN_XHB_HBLIM.addr - 0xC00000)) v) s fun t => t.reg
      R.TWN_XHB_HBLIM.addr = BitVec.ofNat 36 (v.toNat % 2 ^ 4 + (s.reg R.TWN_XHB_HBLIM.addr).toNat / 2 ^ 4 * 2 ^ 4) ∧
    t.get R.TWN_XHB_HBLIM = v.toNat % 2 ^ 4 ∧ t.dev = s.dev ∧
    t = { s with regs := t.regs, overridden := t.overridden, power := t.power } ∧ (∀ a, a ≠ R.TWN_XHB_HBLIM.addr →
    a ≠ R.CLK_GATE_TWN.addr → t.reg a = s.reg a)) ∧
  (∀ (s : State) (m : Fin 18) (v : Word), s.powered = true → expertOpen s 13 = true → v.toNat % 2 ^ 4 < 4 →
    Runs (.registerWrite m (BitVec.ofNat 17 (R.TWN_XHB_HBLIM.addr - 0xC00000)) v) s fun t => t.reg
      R.TWN_XHB_HBLIM.addr = s.reg R.TWN_XHB_HBLIM.addr ∧ t.flag R.SYS_ERR_RSVD = true ∧
    t.get R.SYS_ERRADR_ADDR = R.TWN_XHB_HBLIM.addr ∧ t.dev = s.dev ∧ t = { s with regs := t.regs, power := t.power }) ∧
  (∀ (s : State) (m : Fin 18) (v : Word), s.powered = true → expertOpen s 13 = false →
    Runs (.registerWrite m (BitVec.ofNat 17 (R.TWN_XHB_HBLIM.addr - 0xC00000)) v) s fun t => t = ((s.usedBy m).set
      R.CLK_GATE_TWN 0).raise R.SYS_XOPEN_XIGN) ∧
  (∀ (s : State) (m : Fin 18) (v : Word), s.powered = true → expertOpen s 12 = true → 5 ≤ v.toNat % 2 ^ 8 →
    Runs (.registerWrite m (BitVec.ofNat 17 (R.SPN_XCFG_RTIME.addr - 0xC00000)) v) s fun t => t.reg
      R.SPN_XCFG_RTIME.addr = BitVec.ofNat 36 (v.toNat % 2 ^ 8 + (s.reg R.SPN_XCFG_RTIME.addr).toNat / 2 ^ 8 * 2 ^ 8)
      ∧ t.get R.SPN_XCFG_RTIME = v.toNat % 2 ^ 8 ∧ t.dev = s.dev ∧
    t = { s with regs := t.regs, overridden := t.overridden, power := t.power } ∧ (∀ a, a ≠ R.SPN_XCFG_RTIME.addr →
    t.reg a = s.reg a)) ∧
  (∀ (s : State) (m : Fin 18) (v : Word), s.powered = true → expertOpen s 12 = true → v.toNat % 2 ^ 8 < 5 →
    Runs (.registerWrite m (BitVec.ofNat 17 (R.SPN_XCFG_RTIME.addr - 0xC00000)) v) s fun t => t.reg
      R.SPN_XCFG_RTIME.addr = s.reg R.SPN_XCFG_RTIME.addr ∧ t.flag R.SYS_ERR_RSVD = true ∧
    t.get R.SYS_ERRADR_ADDR = R.SPN_XCFG_RTIME.addr ∧ t.dev = s.dev ∧ t = { s with regs := t.regs, power := t.power }) ∧
  (∀ (s : State) (m : Fin 18) (v : Word), s.powered = true → expertOpen s 12 = false →
    Runs (.registerWrite m (BitVec.ofNat 17 (R.SPN_XCFG_RTIME.addr - 0xC00000)) v) s fun t => t = (s.usedBy m).raise
      R.SYS_XOPEN_XIGN) ∧
  (State.reset.get R.TWN_XHB_HBLIM = 10 ∧ State.reset.reg R.TWN_XHB_HBLIM.addr = 10 ∧ State.reset.get R.SPN_XCFG_RTIME = 20 ∧ State.reset.reg R.SPN_XCFG_RTIME.addr = 20 ∧ R.TWN_XHB_HBLIM = ⟨0xC00000 + 13 * 0x1000 + 0x200, 0, 4⟩ ∧ R.SPN_XCFG_RTIME = ⟨0xC00000 + 12 * 0x1000 + 0x200, 0, 8⟩)

/-- R236: traps of MACD. -/
def Obligations.MacdBusTrap : Prop :=
  (∀ (s : State) (core : Fin 8) (cond : Fin 16) (opnd : BitVec 26) (a1 a2 : Nat),
    coreReady s core (instrWord cond 25 opnd) { legal := opField opnd 20 3 == 0 && mdLegal (opField opnd 10 10) && mdLegal (opField opnd 0 10) && !mdLiteral (opField opnd 10 10) && !mdLiteral (opField opnd 0 10) } = true →
    handlerFree (s.core core) = true → a1 = (s.core core).ea (opField opnd 10 10) 0 →
    a2 = (s.core core).ea (opField opnd 0 10) 0 → missingAnswer s core [a1, a2] s.spine.answers = none →
    (loadWord s core a1).1 = .bus →
    Runs (.macd core cond opnd) s fun t => t.core core = handlerCore (s.core core) 2 (s.core core).pc (BitVec.ofNat 36
      a1) ∧ (t.core core).a = (s.core core).a ∧ (t.core core).x = (s.core core).x ∧
    (t.core core).tval = BitVec.ofNat 36 a1 ∧ swBit (t.core core).sw swZ = swBit (s.core core).sw swZ ∧
    swBit (t.core core).sw swN = swBit (s.core core).sw swN ∧
    swBit (t.core core).sw swC = swBit (s.core core).sw swC ∧
    swBit (t.core core).sw swV = swBit (s.core core).sw swV ∧
    swBit (t.core core).sw swBA = swBit (s.core core).sw swBA ∧ coresKept s t core = true) ∧
  (∀ (s : State) (core : Fin 8) (cond : Fin 16) (opnd : BitVec 26) (a1 a2 : Nat),
    coreReady s core (instrWord cond 25 opnd) { legal := opField opnd 20 3 == 0 && mdLegal (opField opnd 10 10) && mdLegal (opField opnd 0 10) && !mdLiteral (opField opnd 10 10) && !mdLiteral (opField opnd 0 10) } = true →
    handlerFree (s.core core) = true → a1 = (s.core core).ea (opField opnd 10 10) 0 →
    a2 = (s.core core).ea (opField opnd 0 10) 0 → missingAnswer s core [a1, a2] s.spine.answers = none →
    (loadWord s core a1).1 ≠ .bus → (loadWord (loadWord s core a1).2 core a2).1 = .bus →
    Runs (.macd core cond opnd) s fun t => t.core core = handlerCore (s.core core) 2 (s.core core).pc (BitVec.ofNat 36
      a2) ∧ (t.core core).a = (s.core core).a ∧ (t.core core).x = (s.core core).x ∧
    (t.core core).tval = BitVec.ofNat 36 a2 ∧ swBit (t.core core).sw swZ = swBit (s.core core).sw swZ ∧
    swBit (t.core core).sw swN = swBit (s.core core).sw swN ∧
    swBit (t.core core).sw swC = swBit (s.core core).sw swC ∧
    swBit (t.core core).sw swV = swBit (s.core core).sw swV ∧
    swBit (t.core core).sw swBA = swBit (s.core core).sw swBA ∧ coresKept s t core = true)

end
end

