-- ==== Sys2Proof/Laws/Bits.lean ====
section
/-!
SUPPORT. Bit fields of a word: a field read back, and a field that a write to another does not touch.
-/
namespace Sys2Proof.Machine

theorem withBits_getLsbD (w : Word) (lo width v i : Nat) (h : lo + width ≤ 36) :
    (withBits w lo width v).getLsbD i =
      if lo ≤ i ∧ i < lo + width then v.testBit (i - lo) else w.getLsbD i := by
  by_cases hi : i < 36
  · by_cases hl : lo ≤ i
    · by_cases hw : i < lo + width
      · have h1 : i - lo < width := by omega
        have h3 : ¬ i < lo := by omega
        simp [withBits, hi, hl, hw, h1, h3]
        rw [BitVec.getElem_eq_testBit_toNat]; simp [h1]
      · have h1 : ¬ i - lo < width := by omega
        have h3 : ¬ i < lo := by omega
        simp [withBits, hi, hl, hw, h1, h3, BitVec.getLsbD_ofNat]
    · have h3 : i < lo := by omega
      simp [withBits, hi, hl, h3]
  · have : ¬ (lo ≤ i ∧ i < lo + width) := by omega
    simp [this, BitVec.getLsbD_of_ge _ _ (Nat.le_of_not_lt hi)]

/-- A field written reads as the value reduced to its width. -/
theorem bitsOf_withBits_same (w : Word) (lo width v : Nat) (h : lo + width ≤ 36) :
    bitsOf (withBits w lo width v) lo width = v % 2 ^ width := by
  apply Nat.eq_of_testBit_eq
  intro i
  simp only [bitsOf, Nat.testBit_mod_two_pow, BitVec.testBit_toNat, BitVec.getLsbD_extractLsb']
  by_cases hi : i < width
  · have : lo ≤ lo + i ∧ lo + i < lo + width := by omega
    simp only [hi, decide_true, Bool.true_and]
    rw [withBits_getLsbD _ _ _ _ _ h, if_pos this, Nat.add_sub_cancel_left]
  · simp [hi]

/-- A field that does not overlap the one written is unchanged. -/
theorem bitsOf_withBits_other (w : Word) (lo width v lo' width' : Nat) (h : lo + width ≤ 36)
    (hd : lo + width ≤ lo' ∨ lo' + width' ≤ lo) :
    bitsOf (withBits w lo width v) lo' width' = bitsOf w lo' width' := by
  apply Nat.eq_of_testBit_eq
  intro i
  simp only [bitsOf, BitVec.testBit_toNat, BitVec.getLsbD_extractLsb']
  by_cases hi : i < width'
  · have : ¬ (lo ≤ lo' + i ∧ lo' + i < lo + width) := by omega
    rw [withBits_getLsbD _ _ _ _ _ h, if_neg this]
  · simp [hi]

end Sys2Proof.Machine
end

