-- ==== Sys2Proof/Laws/State.lean ====
section
/-!
SUPPORT. One lemma for each field of State under each of the register updates: only `regs` changes, and under a report
only `regs` and `records`.
-/
namespace Sys2Proof.Machine
variable (s : State)

@[simp] theorem State.setFlag_eq (f : Fld) (b : Bool) : s.setFlag f b = s.set f (bitNat b) := rfl
@[simp] theorem State.raise_eq (f : Fld) : s.raise f = s.set f 1 := rfl
@[simp] theorem State.when_true (f : State → State) : s.when true f = f s := rfl
@[simp] theorem State.when_false (f : State → State) : s.when false f = s := rfl
@[simp] theorem State.regs_set (f : Fld) (v : Nat) :
    (s.set f v).regs = s.regs.wr f.addr (withBits (s.regs.rd f.addr) f.lo f.width v) := rfl
@[simp] theorem State.regs_setReg (a : Nat) (w : Word) : (s.setReg a w).regs = s.regs.wr a w := rfl
@[simp] theorem State.pending_set (f : Fld) (v : Nat) : (s.set f v).pending = s.pending := rfl
@[simp] theorem State.dev_set (f : Fld) (v : Nat) : (s.set f v).dev = s.dev := rfl
@[simp] theorem State.mem_set (f : Fld) (v : Nat) : (s.set f v).mem = s.mem := rfl
@[simp] theorem State.poison_set (f : Fld) (v : Nat) : (s.set f v).poison = s.poison := rfl
@[simp] theorem State.overridden_set (f : Fld) (v : Nat) : (s.set f v).overridden = s.overridden := rfl
@[simp] theorem State.unlock_set (f : Fld) (v : Nat) : (s.set f v).unlock = s.unlock := rfl
@[simp] theorem State.free_set (f : Fld) (v : Nat) : (s.set f v).free = s.free := rfl
@[simp] theorem State.power_set (f : Fld) (v : Nat) : (s.set f v).power = s.power := rfl
@[simp] theorem State.folio_set (f : Fld) (v : Nat) : (s.set f v).folio = s.folio := rfl
@[simp] theorem State.handles_set (f : Fld) (v : Nat) : (s.set f v).handles = s.handles := rfl
@[simp] theorem State.cycle_set (f : Fld) (v : Nat) : (s.set f v).cycle = s.cycle := rfl
@[simp] theorem State.fabric_set (f : Fld) (v : Nat) : (s.set f v).fabric = s.fabric := rfl
@[simp] theorem State.cores_set (f : Fld) (v : Nat) : (s.set f v).cores = s.cores := rfl
@[simp] theorem State.imposer_set (f : Fld) (v : Nat) : (s.set f v).imposer = s.imposer := rfl
@[simp] theorem State.forces_set (f : Fld) (v : Nat) : (s.set f v).forces = s.forces := rfl
@[simp] theorem State.forceCmds_set (f : Fld) (v : Nat) : (s.set f v).forceCmds = s.forceCmds := rfl
@[simp] theorem State.olc_set (f : Fld) (v : Nat) : (s.set f v).olc = s.olc := rfl
@[simp] theorem State.time_set (f : Fld) (v : Nat) : (s.set f v).time = s.time := rfl
@[simp] theorem State.calendar_set (f : Fld) (v : Nat) : (s.set f v).calendar = s.calendar := rfl
@[simp] theorem State.watchdog_set (f : Fld) (v : Nat) : (s.set f v).watchdog = s.watchdog := rfl
@[simp] theorem State.retain_set (f : Fld) (v : Nat) : (s.set f v).retain = s.retain := rfl
@[simp] theorem State.keeper_set (f : Fld) (v : Nat) : (s.set f v).keeper = s.keeper := rfl
@[simp] theorem State.records_set (f : Fld) (v : Nat) : (s.set f v).records = s.records := rfl
@[simp] theorem State.field_set (f : Fld) (v : Nat) : (s.set f v).field = s.field := rfl
@[simp] theorem State.meter_set (f : Fld) (v : Nat) : (s.set f v).meter = s.meter := rfl
@[simp] theorem State.can_set (f : Fld) (v : Nat) : (s.set f v).can = s.can := rfl
@[simp] theorem State.net_set (f : Fld) (v : Nat) : (s.set f v).net = s.net := rfl
@[simp] theorem State.mirror_set (f : Fld) (v : Nat) : (s.set f v).mirror = s.mirror := rfl
@[simp] theorem State.host_set (f : Fld) (v : Nat) : (s.set f v).host = s.host := rfl
@[simp] theorem State.dbg_set (f : Fld) (v : Nat) : (s.set f v).dbg = s.dbg := rfl
@[simp] theorem State.upd_set (f : Fld) (v : Nat) : (s.set f v).upd = s.upd := rfl
@[simp] theorem State.spine_set (f : Fld) (v : Nat) : (s.set f v).spine = s.spine := rfl
@[simp] theorem State.twin_set (f : Fld) (v : Nat) : (s.set f v).twin = s.twin := rfl
@[simp] theorem State.house_set (f : Fld) (v : Nat) : (s.set f v).house = s.house := rfl
@[simp] theorem State.ids_set (f : Fld) (v : Nat) : (s.set f v).ids = s.ids := rfl
@[simp] theorem State.pending_setReg (a : Nat) (w : Word) : (s.setReg a w).pending = s.pending := rfl
@[simp] theorem State.dev_setReg (a : Nat) (w : Word) : (s.setReg a w).dev = s.dev := rfl
@[simp] theorem State.mem_setReg (a : Nat) (w : Word) : (s.setReg a w).mem = s.mem := rfl
@[simp] theorem State.poison_setReg (a : Nat) (w : Word) : (s.setReg a w).poison = s.poison := rfl
@[simp] theorem State.overridden_setReg (a : Nat) (w : Word) : (s.setReg a w).overridden = s.overridden := rfl
@[simp] theorem State.unlock_setReg (a : Nat) (w : Word) : (s.setReg a w).unlock = s.unlock := rfl
@[simp] theorem State.free_setReg (a : Nat) (w : Word) : (s.setReg a w).free = s.free := rfl
@[simp] theorem State.power_setReg (a : Nat) (w : Word) : (s.setReg a w).power = s.power := rfl
@[simp] theorem State.folio_setReg (a : Nat) (w : Word) : (s.setReg a w).folio = s.folio := rfl
@[simp] theorem State.handles_setReg (a : Nat) (w : Word) : (s.setReg a w).handles = s.handles := rfl
@[simp] theorem State.cycle_setReg (a : Nat) (w : Word) : (s.setReg a w).cycle = s.cycle := rfl
@[simp] theorem State.fabric_setReg (a : Nat) (w : Word) : (s.setReg a w).fabric = s.fabric := rfl
@[simp] theorem State.cores_setReg (a : Nat) (w : Word) : (s.setReg a w).cores = s.cores := rfl
@[simp] theorem State.imposer_setReg (a : Nat) (w : Word) : (s.setReg a w).imposer = s.imposer := rfl
@[simp] theorem State.forces_setReg (a : Nat) (w : Word) : (s.setReg a w).forces = s.forces := rfl
@[simp] theorem State.forceCmds_setReg (a : Nat) (w : Word) : (s.setReg a w).forceCmds = s.forceCmds := rfl
@[simp] theorem State.olc_setReg (a : Nat) (w : Word) : (s.setReg a w).olc = s.olc := rfl
@[simp] theorem State.time_setReg (a : Nat) (w : Word) : (s.setReg a w).time = s.time := rfl
@[simp] theorem State.calendar_setReg (a : Nat) (w : Word) : (s.setReg a w).calendar = s.calendar := rfl
@[simp] theorem State.watchdog_setReg (a : Nat) (w : Word) : (s.setReg a w).watchdog = s.watchdog := rfl
@[simp] theorem State.retain_setReg (a : Nat) (w : Word) : (s.setReg a w).retain = s.retain := rfl
@[simp] theorem State.keeper_setReg (a : Nat) (w : Word) : (s.setReg a w).keeper = s.keeper := rfl
@[simp] theorem State.records_setReg (a : Nat) (w : Word) : (s.setReg a w).records = s.records := rfl
@[simp] theorem State.field_setReg (a : Nat) (w : Word) : (s.setReg a w).field = s.field := rfl
@[simp] theorem State.meter_setReg (a : Nat) (w : Word) : (s.setReg a w).meter = s.meter := rfl
@[simp] theorem State.can_setReg (a : Nat) (w : Word) : (s.setReg a w).can = s.can := rfl
@[simp] theorem State.net_setReg (a : Nat) (w : Word) : (s.setReg a w).net = s.net := rfl
@[simp] theorem State.mirror_setReg (a : Nat) (w : Word) : (s.setReg a w).mirror = s.mirror := rfl
@[simp] theorem State.host_setReg (a : Nat) (w : Word) : (s.setReg a w).host = s.host := rfl
@[simp] theorem State.dbg_setReg (a : Nat) (w : Word) : (s.setReg a w).dbg = s.dbg := rfl
@[simp] theorem State.upd_setReg (a : Nat) (w : Word) : (s.setReg a w).upd = s.upd := rfl
@[simp] theorem State.spine_setReg (a : Nat) (w : Word) : (s.setReg a w).spine = s.spine := rfl
@[simp] theorem State.twin_setReg (a : Nat) (w : Word) : (s.setReg a w).twin = s.twin := rfl
@[simp] theorem State.house_setReg (a : Nat) (w : Word) : (s.setReg a w).house = s.house := rfl
@[simp] theorem State.ids_setReg (a : Nat) (w : Word) : (s.setReg a w).ids = s.ids := rfl

/-- Nothing but registers differs. -/
def RegsOnly (s t : State) : Prop := t = { s with regs := t.regs }

theorem RegsOnly.refl : RegsOnly s s := rfl

theorem RegsOnly.trans {s t u : State} (h : RegsOnly s t) (k : RegsOnly t u) : RegsOnly s u := by
  unfold RegsOnly at *
  rw [k, h]

theorem RegsOnly.set {s t : State} (h : RegsOnly s t) (f : Fld) (v : Nat) : RegsOnly s (t.set f v) :=
  h.trans rfl

theorem RegsOnly.setReg {s t : State} (h : RegsOnly s t) (a : Nat) (w : Word) : RegsOnly s (t.setReg a w) :=
  h.trans rfl

theorem RegsOnly.when {s t : State} (h : RegsOnly s t) {f : State → State} (b : Bool) (hf : RegsOnly s (f t)) :
    RegsOnly s (t.when b f) := by
  cases b
  · exact h
  · exact hf

/-- recordSync changes registers only. -/
theorem State.recordSync_regsOnly : RegsOnly s (recordSync s) := by
  unfold recordSync
  simp only [State.setFlag_eq]
  split
  · exact .refl s
  · exact .set (.set (.set (.set (.set (.set (.set (.set (.set (.set (.set (.set (.set (.set (.refl s)
      _ _) _ _) _ _) _ _) _ _) _ _) _ _) _ _) _ _) _ _) _ _) _ _) _ _) _ _

theorem State.report_aux (t : State) (b : Bool) (f : Fld) : RegsOnly t (recordSync (t.when b (·.raise f))) :=
  (RegsOnly.when (.refl t) b (.set (.refl t) f 1)).trans (State.recordSync_regsOnly _)

/-- A report changes the stores and the registers only. -/
theorem State.report_frame (r : Report) :
    s.report r = { s with regs := (s.report r).regs, records := (s.report r).records } := by
  have key : ∃ q m, s.report r = { s with regs := m, records := q } := by
    unfold State.report
    split
    · exact ⟨_, _, State.report_aux _ _ _⟩
    · split
      · exact ⟨_, _, State.report_aux _ true _⟩
      · exact ⟨_, _, State.report_aux _ _ _⟩
  obtain ⟨q, m, h⟩ := key
  rw [h]

@[simp] theorem State.pending_recordSync : (recordSync s).pending = s.pending := by rw [State.recordSync_regsOnly s]
@[simp] theorem State.dev_recordSync : (recordSync s).dev = s.dev := by rw [State.recordSync_regsOnly s]
@[simp] theorem State.mem_recordSync : (recordSync s).mem = s.mem := by rw [State.recordSync_regsOnly s]
@[simp] theorem State.poison_recordSync : (recordSync s).poison = s.poison := by rw [State.recordSync_regsOnly s]
@[simp] theorem State.overridden_recordSync : (recordSync s).overridden = s.overridden := by rw [State.recordSync_regsOnly s]
@[simp] theorem State.unlock_recordSync : (recordSync s).unlock = s.unlock := by rw [State.recordSync_regsOnly s]
@[simp] theorem State.free_recordSync : (recordSync s).free = s.free := by rw [State.recordSync_regsOnly s]
@[simp] theorem State.power_recordSync : (recordSync s).power = s.power := by rw [State.recordSync_regsOnly s]
@[simp] theorem State.folio_recordSync : (recordSync s).folio = s.folio := by rw [State.recordSync_regsOnly s]
@[simp] theorem State.handles_recordSync : (recordSync s).handles = s.handles := by rw [State.recordSync_regsOnly s]
@[simp] theorem State.cycle_recordSync : (recordSync s).cycle = s.cycle := by rw [State.recordSync_regsOnly s]
@[simp] theorem State.fabric_recordSync : (recordSync s).fabric = s.fabric := by rw [State.recordSync_regsOnly s]
@[simp] theorem State.cores_recordSync : (recordSync s).cores = s.cores := by rw [State.recordSync_regsOnly s]
@[simp] theorem State.imposer_recordSync : (recordSync s).imposer = s.imposer := by rw [State.recordSync_regsOnly s]
@[simp] theorem State.forces_recordSync : (recordSync s).forces = s.forces := by rw [State.recordSync_regsOnly s]
@[simp] theorem State.forceCmds_recordSync : (recordSync s).forceCmds = s.forceCmds := by rw [State.recordSync_regsOnly s]
@[simp] theorem State.olc_recordSync : (recordSync s).olc = s.olc := by rw [State.recordSync_regsOnly s]
@[simp] theorem State.time_recordSync : (recordSync s).time = s.time := by rw [State.recordSync_regsOnly s]
@[simp] theorem State.calendar_recordSync : (recordSync s).calendar = s.calendar := by rw [State.recordSync_regsOnly s]
@[simp] theorem State.watchdog_recordSync : (recordSync s).watchdog = s.watchdog := by rw [State.recordSync_regsOnly s]
@[simp] theorem State.retain_recordSync : (recordSync s).retain = s.retain := by rw [State.recordSync_regsOnly s]
@[simp] theorem State.keeper_recordSync : (recordSync s).keeper = s.keeper := by rw [State.recordSync_regsOnly s]
@[simp] theorem State.records_recordSync : (recordSync s).records = s.records := by rw [State.recordSync_regsOnly s]
@[simp] theorem State.field_recordSync : (recordSync s).field = s.field := by rw [State.recordSync_regsOnly s]
@[simp] theorem State.meter_recordSync : (recordSync s).meter = s.meter := by rw [State.recordSync_regsOnly s]
@[simp] theorem State.can_recordSync : (recordSync s).can = s.can := by rw [State.recordSync_regsOnly s]
@[simp] theorem State.net_recordSync : (recordSync s).net = s.net := by rw [State.recordSync_regsOnly s]
@[simp] theorem State.mirror_recordSync : (recordSync s).mirror = s.mirror := by rw [State.recordSync_regsOnly s]
@[simp] theorem State.host_recordSync : (recordSync s).host = s.host := by rw [State.recordSync_regsOnly s]
@[simp] theorem State.dbg_recordSync : (recordSync s).dbg = s.dbg := by rw [State.recordSync_regsOnly s]
@[simp] theorem State.upd_recordSync : (recordSync s).upd = s.upd := by rw [State.recordSync_regsOnly s]
@[simp] theorem State.spine_recordSync : (recordSync s).spine = s.spine := by rw [State.recordSync_regsOnly s]
@[simp] theorem State.twin_recordSync : (recordSync s).twin = s.twin := by rw [State.recordSync_regsOnly s]
@[simp] theorem State.house_recordSync : (recordSync s).house = s.house := by rw [State.recordSync_regsOnly s]
@[simp] theorem State.ids_recordSync : (recordSync s).ids = s.ids := by rw [State.recordSync_regsOnly s]
@[simp] theorem State.pending_report (r : Report) : (s.report r).pending = s.pending := by rw [State.report_frame]
@[simp] theorem State.dev_report (r : Report) : (s.report r).dev = s.dev := by rw [State.report_frame]
@[simp] theorem State.mem_report (r : Report) : (s.report r).mem = s.mem := by rw [State.report_frame]
@[simp] theorem State.poison_report (r : Report) : (s.report r).poison = s.poison := by rw [State.report_frame]
@[simp] theorem State.overridden_report (r : Report) : (s.report r).overridden = s.overridden := by rw [State.report_frame]
@[simp] theorem State.unlock_report (r : Report) : (s.report r).unlock = s.unlock := by rw [State.report_frame]
@[simp] theorem State.free_report (r : Report) : (s.report r).free = s.free := by rw [State.report_frame]
@[simp] theorem State.power_report (r : Report) : (s.report r).power = s.power := by rw [State.report_frame]
@[simp] theorem State.folio_report (r : Report) : (s.report r).folio = s.folio := by rw [State.report_frame]
@[simp] theorem State.handles_report (r : Report) : (s.report r).handles = s.handles := by rw [State.report_frame]
@[simp] theorem State.cycle_report (r : Report) : (s.report r).cycle = s.cycle := by rw [State.report_frame]
@[simp] theorem State.fabric_report (r : Report) : (s.report r).fabric = s.fabric := by rw [State.report_frame]
@[simp] theorem State.cores_report (r : Report) : (s.report r).cores = s.cores := by rw [State.report_frame]
@[simp] theorem State.imposer_report (r : Report) : (s.report r).imposer = s.imposer := by rw [State.report_frame]
@[simp] theorem State.forces_report (r : Report) : (s.report r).forces = s.forces := by rw [State.report_frame]
@[simp] theorem State.forceCmds_report (r : Report) : (s.report r).forceCmds = s.forceCmds := by rw [State.report_frame]
@[simp] theorem State.olc_report (r : Report) : (s.report r).olc = s.olc := by rw [State.report_frame]
@[simp] theorem State.time_report (r : Report) : (s.report r).time = s.time := by rw [State.report_frame]
@[simp] theorem State.calendar_report (r : Report) : (s.report r).calendar = s.calendar := by rw [State.report_frame]
@[simp] theorem State.watchdog_report (r : Report) : (s.report r).watchdog = s.watchdog := by rw [State.report_frame]
@[simp] theorem State.retain_report (r : Report) : (s.report r).retain = s.retain := by rw [State.report_frame]
@[simp] theorem State.keeper_report (r : Report) : (s.report r).keeper = s.keeper := by rw [State.report_frame]
@[simp] theorem State.field_report (r : Report) : (s.report r).field = s.field := by rw [State.report_frame]
@[simp] theorem State.meter_report (r : Report) : (s.report r).meter = s.meter := by rw [State.report_frame]
@[simp] theorem State.can_report (r : Report) : (s.report r).can = s.can := by rw [State.report_frame]
@[simp] theorem State.net_report (r : Report) : (s.report r).net = s.net := by rw [State.report_frame]
@[simp] theorem State.mirror_report (r : Report) : (s.report r).mirror = s.mirror := by rw [State.report_frame]
@[simp] theorem State.host_report (r : Report) : (s.report r).host = s.host := by rw [State.report_frame]
@[simp] theorem State.dbg_report (r : Report) : (s.report r).dbg = s.dbg := by rw [State.report_frame]
@[simp] theorem State.upd_report (r : Report) : (s.report r).upd = s.upd := by rw [State.report_frame]
@[simp] theorem State.spine_report (r : Report) : (s.report r).spine = s.spine := by rw [State.report_frame]
@[simp] theorem State.twin_report (r : Report) : (s.report r).twin = s.twin := by rw [State.report_frame]
@[simp] theorem State.house_report (r : Report) : (s.report r).house = s.house := by rw [State.report_frame]
@[simp] theorem State.ids_report (r : Report) : (s.report r).ids = s.ids := by rw [State.report_frame]
@[simp] theorem State.pending_journal (c k d e : Nat) : (s.journal c k d e).pending = s.pending := State.pending_report s _
@[simp] theorem State.dev_journal (c k d e : Nat) : (s.journal c k d e).dev = s.dev := State.dev_report s _
@[simp] theorem State.mem_journal (c k d e : Nat) : (s.journal c k d e).mem = s.mem := State.mem_report s _
@[simp] theorem State.poison_journal (c k d e : Nat) : (s.journal c k d e).poison = s.poison := State.poison_report s _
@[simp] theorem State.overridden_journal (c k d e : Nat) : (s.journal c k d e).overridden = s.overridden := State.overridden_report s _
@[simp] theorem State.unlock_journal (c k d e : Nat) : (s.journal c k d e).unlock = s.unlock := State.unlock_report s _
@[simp] theorem State.free_journal (c k d e : Nat) : (s.journal c k d e).free = s.free := State.free_report s _
@[simp] theorem State.power_journal (c k d e : Nat) : (s.journal c k d e).power = s.power := State.power_report s _
@[simp] theorem State.folio_journal (c k d e : Nat) : (s.journal c k d e).folio = s.folio := State.folio_report s _
@[simp] theorem State.handles_journal (c k d e : Nat) : (s.journal c k d e).handles = s.handles := State.handles_report s _
@[simp] theorem State.cycle_journal (c k d e : Nat) : (s.journal c k d e).cycle = s.cycle := State.cycle_report s _
@[simp] theorem State.fabric_journal (c k d e : Nat) : (s.journal c k d e).fabric = s.fabric := State.fabric_report s _
@[simp] theorem State.cores_journal (c k d e : Nat) : (s.journal c k d e).cores = s.cores := State.cores_report s _
@[simp] theorem State.imposer_journal (c k d e : Nat) : (s.journal c k d e).imposer = s.imposer := State.imposer_report s _
@[simp] theorem State.forces_journal (c k d e : Nat) : (s.journal c k d e).forces = s.forces := State.forces_report s _
@[simp] theorem State.forceCmds_journal (c k d e : Nat) : (s.journal c k d e).forceCmds = s.forceCmds := State.forceCmds_report s _
@[simp] theorem State.olc_journal (c k d e : Nat) : (s.journal c k d e).olc = s.olc := State.olc_report s _
@[simp] theorem State.time_journal (c k d e : Nat) : (s.journal c k d e).time = s.time := State.time_report s _
@[simp] theorem State.calendar_journal (c k d e : Nat) : (s.journal c k d e).calendar = s.calendar := State.calendar_report s _
@[simp] theorem State.watchdog_journal (c k d e : Nat) : (s.journal c k d e).watchdog = s.watchdog := State.watchdog_report s _
@[simp] theorem State.retain_journal (c k d e : Nat) : (s.journal c k d e).retain = s.retain := State.retain_report s _
@[simp] theorem State.keeper_journal (c k d e : Nat) : (s.journal c k d e).keeper = s.keeper := State.keeper_report s _
@[simp] theorem State.field_journal (c k d e : Nat) : (s.journal c k d e).field = s.field := State.field_report s _
@[simp] theorem State.meter_journal (c k d e : Nat) : (s.journal c k d e).meter = s.meter := State.meter_report s _
@[simp] theorem State.can_journal (c k d e : Nat) : (s.journal c k d e).can = s.can := State.can_report s _
@[simp] theorem State.net_journal (c k d e : Nat) : (s.journal c k d e).net = s.net := State.net_report s _
@[simp] theorem State.mirror_journal (c k d e : Nat) : (s.journal c k d e).mirror = s.mirror := State.mirror_report s _
@[simp] theorem State.host_journal (c k d e : Nat) : (s.journal c k d e).host = s.host := State.host_report s _
@[simp] theorem State.dbg_journal (c k d e : Nat) : (s.journal c k d e).dbg = s.dbg := State.dbg_report s _
@[simp] theorem State.upd_journal (c k d e : Nat) : (s.journal c k d e).upd = s.upd := State.upd_report s _
@[simp] theorem State.spine_journal (c k d e : Nat) : (s.journal c k d e).spine = s.spine := State.spine_report s _
@[simp] theorem State.twin_journal (c k d e : Nat) : (s.journal c k d e).twin = s.twin := State.twin_report s _
@[simp] theorem State.house_journal (c k d e : Nat) : (s.journal c k d e).house = s.house := State.house_report s _
@[simp] theorem State.ids_journal (c k d e : Nat) : (s.journal c k d e).ids = s.ids := State.ids_report s _
@[simp] theorem State.pending_record (c k d e : Nat) : (s.record c k d e).pending = s.pending := State.pending_report s _
@[simp] theorem State.dev_record (c k d e : Nat) : (s.record c k d e).dev = s.dev := State.dev_report s _
@[simp] theorem State.mem_record (c k d e : Nat) : (s.record c k d e).mem = s.mem := State.mem_report s _
@[simp] theorem State.poison_record (c k d e : Nat) : (s.record c k d e).poison = s.poison := State.poison_report s _
@[simp] theorem State.overridden_record (c k d e : Nat) : (s.record c k d e).overridden = s.overridden := State.overridden_report s _
@[simp] theorem State.unlock_record (c k d e : Nat) : (s.record c k d e).unlock = s.unlock := State.unlock_report s _
@[simp] theorem State.free_record (c k d e : Nat) : (s.record c k d e).free = s.free := State.free_report s _
@[simp] theorem State.power_record (c k d e : Nat) : (s.record c k d e).power = s.power := State.power_report s _
@[simp] theorem State.folio_record (c k d e : Nat) : (s.record c k d e).folio = s.folio := State.folio_report s _
@[simp] theorem State.handles_record (c k d e : Nat) : (s.record c k d e).handles = s.handles := State.handles_report s _
@[simp] theorem State.cycle_record (c k d e : Nat) : (s.record c k d e).cycle = s.cycle := State.cycle_report s _
@[simp] theorem State.fabric_record (c k d e : Nat) : (s.record c k d e).fabric = s.fabric := State.fabric_report s _
@[simp] theorem State.cores_record (c k d e : Nat) : (s.record c k d e).cores = s.cores := State.cores_report s _
@[simp] theorem State.imposer_record (c k d e : Nat) : (s.record c k d e).imposer = s.imposer := State.imposer_report s _
@[simp] theorem State.forces_record (c k d e : Nat) : (s.record c k d e).forces = s.forces := State.forces_report s _
@[simp] theorem State.forceCmds_record (c k d e : Nat) : (s.record c k d e).forceCmds = s.forceCmds := State.forceCmds_report s _
@[simp] theorem State.olc_record (c k d e : Nat) : (s.record c k d e).olc = s.olc := State.olc_report s _
@[simp] theorem State.time_record (c k d e : Nat) : (s.record c k d e).time = s.time := State.time_report s _
@[simp] theorem State.calendar_record (c k d e : Nat) : (s.record c k d e).calendar = s.calendar := State.calendar_report s _
@[simp] theorem State.watchdog_record (c k d e : Nat) : (s.record c k d e).watchdog = s.watchdog := State.watchdog_report s _
@[simp] theorem State.retain_record (c k d e : Nat) : (s.record c k d e).retain = s.retain := State.retain_report s _
@[simp] theorem State.keeper_record (c k d e : Nat) : (s.record c k d e).keeper = s.keeper := State.keeper_report s _
@[simp] theorem State.field_record (c k d e : Nat) : (s.record c k d e).field = s.field := State.field_report s _
@[simp] theorem State.meter_record (c k d e : Nat) : (s.record c k d e).meter = s.meter := State.meter_report s _
@[simp] theorem State.can_record (c k d e : Nat) : (s.record c k d e).can = s.can := State.can_report s _
@[simp] theorem State.net_record (c k d e : Nat) : (s.record c k d e).net = s.net := State.net_report s _
@[simp] theorem State.mirror_record (c k d e : Nat) : (s.record c k d e).mirror = s.mirror := State.mirror_report s _
@[simp] theorem State.host_record (c k d e : Nat) : (s.record c k d e).host = s.host := State.host_report s _
@[simp] theorem State.dbg_record (c k d e : Nat) : (s.record c k d e).dbg = s.dbg := State.dbg_report s _
@[simp] theorem State.upd_record (c k d e : Nat) : (s.record c k d e).upd = s.upd := State.upd_report s _
@[simp] theorem State.spine_record (c k d e : Nat) : (s.record c k d e).spine = s.spine := State.spine_report s _
@[simp] theorem State.twin_record (c k d e : Nat) : (s.record c k d e).twin = s.twin := State.twin_report s _
@[simp] theorem State.house_record (c k d e : Nat) : (s.record c k d e).house = s.house := State.house_report s _
@[simp] theorem State.ids_record (c k d e : Nat) : (s.record c k d e).ids = s.ids := State.ids_report s _

end Sys2Proof.Machine
end

