-- ==== Sys2Proof/Laws/WMap.lean ====
section
/-!
SUPPORT. The laws of words held by address: a read after a write, and the canonical form, which every operation keeps.
-/
namespace Sys2Proof.Machine

theorem WMap.rd_drop_same (m : WMap) (a : Nat) : (m.drop a).rd a = 0 := by
  induction m with
  | nil => rfl
  | cons p rest ih =>
    by_cases h : p.1 = a
    · simpa [WMap.drop, h] using ih
    · have h' : ¬ a = p.1 := fun e => h e.symm
      simpa [WMap.drop, h, WMap.rd, h'] using ih

theorem WMap.rd_drop_other (m : WMap) {a b : Nat} (h : b ≠ a) : (m.drop a).rd b = m.rd b := by
  induction m with
  | nil => rfl
  | cons p rest ih =>
    by_cases hp : p.1 = a
    · have hb : ¬ b = p.1 := by omega
      simpa [WMap.drop, hp, WMap.rd, hb] using (by simpa [WMap.drop, h] using ih)
    · by_cases hb : b = p.1
      · simp [WMap.drop, hp, WMap.rd, hb]
      · simpa [WMap.drop, hp, WMap.rd, hb] using ih

theorem WMap.rd_put_same (m : WMap) (a : Nat) (v : Word) : (m.put a v).rd a = v := by
  induction m with
  | nil => simp [WMap.put, WMap.rd]
  | cons p rest ih =>
    unfold WMap.put
    split
    · simp [WMap.rd]
    · split
      · simp [WMap.rd]
      · next h => simpa [WMap.rd, h] using ih

theorem WMap.rd_put_other (m : WMap) {a b : Nat} (v : Word) (h : b ≠ a) : (m.put a v).rd b = m.rd b := by
  induction m with
  | nil => simp [WMap.put, WMap.rd, h]
  | cons p rest ih =>
    unfold WMap.put
    split
    · simp [WMap.rd, h]
    · split
      · next e => subst e; simp [WMap.rd, h]
      · simp only [WMap.rd, ih]

/-- A read of the address written gives the word written. -/
@[simp] theorem WMap.rd_wr_same (m : WMap) (a : Nat) (v : Word) : (m.wr a v).rd a = v := by
  unfold WMap.wr
  split
  · next h => rw [h, WMap.rd_drop_same]
  · exact WMap.rd_put_same m a v

/-- A write leaves every other address alone. -/
theorem WMap.rd_wr_other (m : WMap) {a b : Nat} (v : Word) (h : b ≠ a) : (m.wr a v).rd b = m.rd b := by
  unfold WMap.wr
  split
  · exact WMap.rd_drop_other m h
  · exact WMap.rd_put_other m v h

/-- A read after a write. -/
theorem WMap.rd_wr (m : WMap) (a b : Nat) (v : Word) : (m.wr a v).rd b = if b = a then v else m.rd b := by
  split
  · next h => rw [h, WMap.rd_wr_same]
  · next h => exact WMap.rd_wr_other m v h

/-- A read of a map of which a range has been cleared. -/
theorem WMap.rd_clear (m : WMap) (lo hi a : Nat) :
    (m.clear lo hi).rd a = if lo ≤ a ∧ a < hi then 0 else m.rd a := by
  induction m with
  | nil => simp [WMap.clear, WMap.rd]
  | cons p rest ih =>
    by_cases hp : p.1 < lo ∨ hi ≤ p.1
    · have : WMap.clear (p :: rest) lo hi = p :: WMap.clear rest lo hi := by simp [WMap.clear, hp]
      rw [this]
      by_cases hb : a = p.1
      · have : ¬ (lo ≤ a ∧ a < hi) := by omega
        simp only [WMap.rd, hb, if_true]; rw [hb] at this; simp [this]
      · simp only [WMap.rd, hb, if_false, ih]
    · have : WMap.clear (p :: rest) lo hi = WMap.clear rest lo hi := by
        simp only [not_or, not_lt, not_le] at hp
        simp [WMap.clear, hp]
      rw [this, ih]
      by_cases hb : a = p.1
      · have : lo ≤ a ∧ a < hi := by omega
        simp [this]
      · simp [WMap.rd, hb]

theorem WMap.above_mono {m : WMap} {a b : Nat} (h : WMap.above b m = true) (hab : a ≤ b) : WMap.above a m = true := by
  cases m with
  | nil => rfl
  | cons p rest =>
    simp only [WMap.above, Bool.and_eq_true, decide_eq_true_eq] at h ⊢
    exact ⟨⟨by omega, h.1.2⟩, h.2⟩

theorem WMap.above_filter {m : WMap} {lo : Nat} (q : Nat × Word → Bool) (h : WMap.above lo m = true) :
    WMap.above lo (m.filter q) = true := by
  induction m generalizing lo with
  | nil => rfl
  | cons p rest ih =>
    simp only [WMap.above, Bool.and_eq_true, decide_eq_true_eq] at h
    by_cases hq : q p = true
    · rw [List.filter_cons_of_pos hq]
      simp only [WMap.above, Bool.and_eq_true, decide_eq_true_eq]
      exact ⟨h.1, ih h.2⟩
    · rw [List.filter_cons_of_neg hq]
      exact WMap.above_mono (ih h.2) (by omega)

theorem WMap.above_put {m : WMap} {lo a : Nat} {v : Word} (h : WMap.above lo m = true) (hv : v ≠ 0) (ha : lo ≤ a) :
    WMap.above lo (m.put a v) = true := by
  induction m generalizing lo with
  | nil => simpa [WMap.put, WMap.above, ha] using hv
  | cons p rest ih =>
    simp only [WMap.above, Bool.and_eq_true, decide_eq_true_eq] at h
    unfold WMap.put
    split
    · simp only [WMap.above, Bool.and_eq_true, decide_eq_true_eq]
      exact ⟨⟨ha, hv⟩, ⟨by omega, h.1.2⟩, h.2⟩
    · split
      · next e => simp only [WMap.above, Bool.and_eq_true, decide_eq_true_eq]; exact ⟨⟨ha, hv⟩, e ▸ h.2⟩
      · simp only [WMap.above, Bool.and_eq_true, decide_eq_true_eq]
        exact ⟨h.1, ih h.2 (by omega)⟩

/-- A write keeps the canonical form. -/
theorem WMap.wf_wr {m : WMap} (h : m.wf = true) (a : Nat) (v : Word) : (m.wr a v).wf = true := by
  unfold WMap.wr
  split
  · exact WMap.above_filter _ h
  · next hv => exact WMap.above_put h hv (Nat.zero_le a)

/-- Writing a list of words keeps the canonical form. -/
theorem WMap.wf_wrList {m : WMap} (h : m.wf = true) (a : Nat) (ws : List Word) : (m.wrList a ws).wf = true := by
  induction ws generalizing m a with
  | nil => exact h
  | cons w ws ih => exact ih (WMap.wf_wr h a w) (a + 1)

/-- Clearing a range keeps the canonical form. -/
theorem WMap.wf_clear {m : WMap} (h : m.wf = true) (lo hi : Nat) : (m.clear lo hi).wf = true :=
  WMap.above_filter _ h

/-- A map without the pairs that a test names keeps the canonical form. -/
theorem WMap.wf_filter {m : WMap} (h : m.wf = true) (q : Nat × Word → Bool) : WMap.wf (m.filter q) = true :=
  WMap.above_filter q h

theorem WMap.rd_below {m : WMap} {lo a : Nat} (h : WMap.above lo m = true) (ha : a < lo) : m.rd a = 0 := by
  induction m generalizing lo with
  | nil => rfl
  | cons p rest ih =>
    simp only [WMap.above, Bool.and_eq_true, decide_eq_true_eq] at h
    have : ¬ a = p.1 := by omega
    simpa [WMap.rd, this] using ih h.2 (by omega)

theorem WMap.ext_above {m n : WMap} {lo : Nat} (hm : WMap.above lo m = true) (hn : WMap.above lo n = true)
    (h : ∀ a, m.rd a = n.rd a) : m = n := by
  induction m generalizing n lo with
  | nil =>
    cases n with
    | nil => rfl
    | cons q ns =>
      simp only [WMap.above, Bool.and_eq_true, decide_eq_true_eq] at hn
      exact absurd ((h q.1).symm.trans rfl) (by simpa [WMap.rd] using hn.1.2)
  | cons p ms ih =>
    cases n with
    | nil =>
      simp only [WMap.above, Bool.and_eq_true, decide_eq_true_eq] at hm
      exact absurd (h p.1) (by simpa [WMap.rd] using hm.1.2)
    | cons q ns =>
      simp only [WMap.above, Bool.and_eq_true, decide_eq_true_eq] at hm hn
      have hpq : p.1 = q.1 := by
        rcases Nat.lt_trichotomy p.1 q.1 with e | e | e
        · have h1 := h p.1
          have : ¬ p.1 = q.1 := by omega
          simp only [WMap.rd, if_true, this, if_false] at h1
          exact absurd (h1.trans (WMap.rd_below hn.2 (by omega))) hm.1.2
        · exact e
        · have h1 := h q.1
          have : ¬ q.1 = p.1 := by omega
          simp only [WMap.rd, if_true, this, if_false] at h1
          exact absurd (h1.symm.trans (WMap.rd_below hm.2 (by omega))) hn.1.2
      have hw : p.2 = q.2 := by simpa [WMap.rd, hpq] using h p.1
      obtain ⟨a, v⟩ := p; obtain ⟨b, w⟩ := q
      simp only at hpq hw
      subst hpq; subst hw
      rw [ih hm.2 hn.2 fun x => ?_]
      by_cases hx : x = a
      · subst hx; rw [WMap.rd_below hm.2 (by omega), WMap.rd_below hn.2 (by omega)]
      · simpa [WMap.rd, hx] using h x

/-- Two maps in canonical form that read alike are equal. -/
theorem WMap.ext {m n : WMap} (hm : m.wf = true) (hn : n.wf = true) (h : ∀ a, m.rd a = n.rd a) : m = n :=
  WMap.ext_above hm hn h

end Sys2Proof.Machine
end

