-- ==== Sys2Proof/Laws/Ops.lean ====
section
/-!
SUPPORT. The laws of the named operations: a register field read after a write, and a word of memory read after a
store.
-/
namespace Sys2Proof.Machine
variable (s : State)

/-- A register word read after a field of it, or of another register, was set. -/
theorem State.reg_set (f : Fld) (v a : Nat) :
    (s.set f v).reg a = if a = f.addr then withBits (s.reg f.addr) f.lo f.width v else s.reg a :=
  WMap.rd_wr _ _ _ _

/-- A register word read after a register was replaced. -/
theorem State.reg_setReg (a b : Nat) (w : Word) : (s.setReg a w).reg b = if b = a then w else s.reg b :=
  WMap.rd_wr _ _ _ _

/-- A field set reads as the value reduced to its width. -/
theorem State.get_set_same (f : Fld) (v : Nat) (h : f.lo + f.width ≤ 36) : (s.set f v).get f = v % 2 ^ f.width := by
  simp only [State.get, State.regs_set, WMap.rd_wr_same]
  exact bitsOf_withBits_same _ _ _ _ h

/-- A field of another register is unchanged. -/
theorem State.get_set_addr (f g : Fld) (v : Nat) (h : g.addr ≠ f.addr) : (s.set f v).get g = s.get g := by
  simp only [State.get, State.regs_set, WMap.rd_wr_other _ _ h]

/-- Another field of the same register is unchanged. -/
theorem State.get_set_bits (f g : Fld) (v : Nat) (h : f.lo + f.width ≤ 36)
    (hd : f.lo + f.width ≤ g.lo ∨ g.lo + g.width ≤ f.lo) : (s.set f v).get g = s.get g := by
  by_cases e : g.addr = f.addr
  · simp only [State.get, State.regs_set, e, WMap.rd_wr_same]
    exact bitsOf_withBits_other _ _ _ _ _ _ h hd
  · exact s.get_set_addr f g v e

/-- A field of a register that was not replaced. -/
theorem State.get_setReg_other (a : Nat) (w : Word) (g : Fld) (h : g.addr ≠ a) : (s.setReg a w).get g = s.get g := by
  simp only [State.get, State.regs_setReg, WMap.rd_wr_other _ _ h]

/-- A bit of a field set to a value, read back. -/
theorem withBit_testBit (n i j : Nat) (b : Bool) : (withBit n i b).testBit j = if j = i then b else n.testBit j := by
  unfold withBit
  split
  · next h => split <;> simp_all
  · next h =>
    have key : ∀ m : Nat, m.testBit i = false → (m + 2 ^ i) = m ||| 2 ^ i := by
      intro m hm
      apply Nat.eq_of_testBit_eq
      intro k
      rw [Nat.add_comm]
      rcases Nat.lt_trichotomy k i with e | e | e
      · rw [Nat.testBit_two_pow_add_gt e]; simp [Nat.ne_of_gt e]
      · subst e; rw [Nat.testBit_two_pow_add_eq]; simp [hm]
      · have h1 : m = m % 2 ^ (i + 1) + 2 ^ (i + 1) * (m / 2 ^ (i + 1)) := (Nat.mod_add_div _ _).symm
        have hlt : m % 2 ^ (i + 1) < 2 ^ i := by
          have := Nat.mod_lt m (Nat.two_pow_pos (i + 1))
          by_contra hge
          have hb : (m % 2 ^ (i + 1)).testBit i = true := by
            apply Nat.testBit_of_two_pow_le_and_two_pow_add_one_gt <;> omega
          rw [Nat.testBit_mod_two_pow] at hb; simp [hm] at hb
        have hsum : 2 ^ i + m % 2 ^ (i + 1) < 2 ^ (i + 1) := by
          have hp : 2 ^ (i + 1) = 2 ^ i + 2 ^ i := by rw [Nat.pow_succ]; omega
          omega
        have h2 : (2 ^ i + m) / 2 ^ (i + 1) = m / 2 ^ (i + 1) := by
          conv_lhs => rw [h1, ← Nat.add_assoc, Nat.add_mul_div_left _ _ (Nat.two_pow_pos _)]
          rw [Nat.div_eq_of_lt hsum, Nat.zero_add]
        have h3 : ∀ n : Nat, n.testBit k = (n / 2 ^ (i + 1)).testBit (k - (i + 1)) := by
          intro n; rw [Nat.testBit_div_two_pow]; congr 1; omega
        rw [h3, h2, ← h3]; simp [Nat.ne_of_lt e]
    cases b with
    | true =>
      have hm : n.testBit i = false := by simpa using h
      simp only [if_true, key n hm, Nat.testBit_or, Nat.testBit_two_pow]
      by_cases e : j = i
      · simp [e]
      · simp [e, Ne.symm e]
    | false =>
      have hm : n.testBit i = true := by simpa using h
      simp only [Bool.false_eq_true, if_false]
      have hle : 2 ^ i ≤ n := Nat.ge_two_pow_of_testBit hm
      obtain ⟨m, rfl⟩ : ∃ m, n = m + 2 ^ i := ⟨n - 2 ^ i, by omega⟩
      have hmi : m.testBit i = false := by
        rw [Nat.add_comm, Nat.testBit_two_pow_add_eq] at hm; simpa using hm
      rw [Nat.add_sub_cancel, key m hmi, Nat.testBit_or, Nat.testBit_two_pow]
      by_cases e : j = i
      · simp [e, hmi]
      · simp [e, Ne.symm e]

/-- A conditional change that keeps a field of the state keeps it. -/
theorem State.when_keeps {α : Type} (p : State → α) {s : State} {f : State → State} (b : Bool) (h : p (f s) = p s) :
    p (s.when b f) = p s := by
  cases b
  · rfl
  · exact h

/-- The keeper's buffer holds addresses and older words: memory shows the newest. -/
@[simp] theorem mem_keeperAccept (a : Nat) (w : Word) : (keeperAccept s a w).mem = s.mem :=
  State.when_keeps State.mem _ rfl

/-- A store writes one word of memory. -/
@[simp] theorem State.mem_store (a : Nat) (w : Word) : (s.store a w).mem = s.mem.wr a w := by
  unfold State.store
  refine (State.when_keeps State.mem _ rfl).trans ?_
  refine (State.when_keeps State.mem (f := fun x => keeperAccept x a (s.mem.rd a)) _ (mem_keeperAccept _ _ _)).trans ?_
  exact State.when_keeps State.mem _ rfl

/-- A word of memory read after a store: the word stored, and every other word as it was. -/
theorem State.word_store (a b : Nat) (w : Word) : (s.store a w).word b = if b = a then w else s.word b := by
  simp only [State.word, State.mem_store, WMap.rd_wr]

end Sys2Proof.Machine
end

