-- ==== Sys2Proof/Tests/Slice0.lean ====
section
/-!
SUPPORT. Tests: the states that the witnesses use, ill-formed commands that the check refuses, single steps with the
results that the manual states, and for every statement with hypotheses a state and operands that meet them.
-/
namespace Sys2Proof.Tests
open Sys2Proof Sys2Proof.Machine
set_option Elab.async false

/-- The state after reset with every register at 0, which the kernel reads quickly. -/
def blank : State := { State.reset with regs := [] }

/-- A small standalone folio: one input word point, one output bit point, one segment and one symbol. -/
def smallContent : FolioContent where
  role := 0
  standalone := true
  autostart := false
  startWarm := false
  settings := []
  pools := []
  points := [⟨true, false, 0, 0, false, .unbound⟩, ⟨false, false, 3, 1, true, .unbound⟩]
  pointInit := []
  mirror := []
  wdgToken := 1
  wdgSlots := []
  fabrics := []
  cores := []
  segments := [⟨3, 8, .sram, false, [1, 2], false, none, none, none⟩]
  areas := [⟨0, [3], [(false, 3, 1)]⟩]
  unitIds := []
  lz7 := []
  vbases := []
  pinModes := []
  pinFallback := 0
  symbols := [⟨5, .scalar, [⟨0, .w36 false, 0, 0⟩], .seg 3 0, 0, false⟩]
  channels := []
  runs := []
  nodes := []
  ownAddr := 0
  runDigest := []
  partner := none
  groups := []
  retainDigest := []
  keeperDigest := []
  snapshot := none
  map := []
  mapDigests := none

/-- A sealed command block of one operation in the mailbox, signed by slot 0, whose key is the base point of the curve: its
private key is 1, and so is the secret of the signature. -/
def sealedState (s : State) (op target : Nat) : State :=
  let s := (((s.set R.COL_SBADR_OFS 0).set R.COL_SER0_SERIAL 0).set R.COL_SER1_SERIAL 0).set R.COL_KSTAT_STATE 1
  let s := installKey (s.set R.COL_CMDCNT_COUNT 0) 0 (byteWords 8 curveG.1 ++ byteWords 8 curveG.2)
  let block : List Word := [BitVec.ofNat 36 0o163145141154, BitVec.ofNat 36 (op * 2 ^ 28 + target * 16), 0, 0, 1] ++ List.replicate 27 0
  let r := curveG.1 % curveN
  let sig := byteWords 8 r ++ byteWords 8 ((shaWords block + r) % curveN)
  { s with mem := (s.mem.clear 0x44F000 0x44F030).wrList 0x44F000 (block ++ sig) }

/-- The one channel in force, its pool of 8 slots, generation 1. -/
def withChannel (s : State) (ch : Channel) : State :=
  { s.set (R.HND_POOL_SIZE (ch.cls - 1)) 8 with handles := ⟨[], [ch], [], []⟩ }

/-- The handle of a channel of generation 1. -/
def handleOf (ch : Channel) : Nat := ch.cls * 2 ^ 30 + 2 ^ 18 + ch.idx

/-- A recorder view over the fault journal that begins at its oldest record, and its channel. -/
def viewCh : Channel := ⟨8, 0, [BitVec.ofNat 36 255, 0, 0, 0], false, false⟩

/-- A state from STOP on whose port 3 names the view, with a journal that has no record. -/
def viewState (s : State) : State :=
  let s := (withChannel s viewCh).setReg (R.EVR_PHND_HANDLE 3).addr (BitVec.ofNat 36 (handleOf viewCh))
  let s := s.set (R.EVR_PCMD_STATUS 3) 0
  { s with
    dev := .stop, mem := s.mem.clear 0x400000 0x440000
    records := { s.records with views := [⟨0, 0, none, 0⟩], journal := { s.records.journal with next := 1 } } }

/-- The device is standalone with the small folio in force, in a state. -/
def withSmall (s : State) (d : Dev) : State :=
  { s with
    dev := d, power := { s.power with pfStep := 0 }
    folio := { s.folio with content := some smallContent, loading := none, forward := none } }

/-- A TMR channel: its class words and its entry armed for an instant. -/
def tmrCh (kind edge : Nat) : Channel := ⟨6, 1, [BitVec.ofNat 36 (kind * 2 ^ 34 + edge * 2 ^ 32), 0, 1000], false, false⟩
def tmrEntry : TmrSt := ⟨1, true, false, 4, 5000, 0⟩

/-- A configured field die with every group supplied and channel 2 of a type. -/
def dieState (s : State) (ty : Nat) : State :=
  { s with field := { s.field with
    configured := true, fallback := false, frDrive := true, frRelease := true, driveAge := 100, missed := 0, linkLost := false
    groups := Vector.replicate 4 ⟨.ok, false, 0, 0, 0⟩
    chans := s.field.chans.setIfInBounds 2
      { DieCh.fresh with cfg := BitVec.ofNat 36 (ty * 2 ^ 32 + 3 * 2 ^ 13 + 2 ^ 12), ctr := if ty = 4 then [0x300000000, 7, 9] else [] } } }

/-- The class words of a single-phase meter channel: inputs 0 and 1, unit 1 µWh, demand interval code 1. -/
def mtrWords0 : List Word :=
  [BitVec.ofNat 36 (1 * 2 ^ 33 + 0 * 2 ^ 28 + 1 * 2 ^ 23 + 31 * 2 ^ 18 + 31 * 2 ^ 13 + 31 * 2 ^ 8 + 31 * 2 ^ 3),
   BitVec.ofNat 36 (31 * 2 ^ 31 + 1 * 2 ^ 24), 0, 0, 0, 0, 0]

/-- A running metering engine with one meter channel and one pulse channel on pin 3. -/
def meterState (s : State) : State :=
  let s := ((s.raise R.MTR_STAT_RUN).set R.MTR_STAT_CLKON 15).set R.MTR_TSEL_EN 0
  { s with
    dev := .run, mem := s.mem.clear 0x400000 0x440000
    handles := ⟨[], [⟨4, 0, mtrWords0, false, false⟩, ⟨5, 2, [BitVec.ofNat 36 (2 * 2 ^ 34 + 3 * 2 ^ 28 + 2 ^ 24), 0], false, false⟩], [], []⟩
    meter := { s.meter with chs := [MeterCh.begin 0 (List.replicate 8 5)], pqcs := [PqcCh.begin 2 77 0], fifo := [31, 62] } }

/-- A receive buffer of controller 1 at 100010H for the base identifier 45H, and a transmit buffer at 100040H. -/
def canRxWords : List Word :=
  [BitVec.ofNat 36 (1 * 2 ^ 34 + 0 * 2 ^ 32 + 3 * 2 ^ 30 + 0x45 * 2 ^ 18), BitVec.ofNat 36 (0x7FF * 2 ^ 18),
   BitVec.ofNat 36 (8 * 2 ^ 24 + 4 * 2 ^ 18 + 100), 0x100010, 0, 0]
def canTxWords : List Word :=
  [BitVec.ofNat 36 (1 * 2 ^ 34 + 2 * 2 ^ 32 + 0x33 * 2 ^ 18), 0, BitVec.ofNat 36 (8 * 2 ^ 24), 0x100040, 0, 0]
def canRxCh : Channel := ⟨3, 5, canRxWords, false, false⟩
def canTxCh : Channel := ⟨3, 7, canTxWords, false, false⟩
def canFrame0 : CanFrame := ⟨0, false, false, false, false, 0x45 * 2 ^ 18, 0, 0, false, 0, 6, [0x11223344, 0x55667788]⟩

/-- Controller 1 takes part in the bus; the transmit buffer has a request as said. -/
def canState (s : State) (pend marked : Bool) : State :=
  let s := ((s.set (R.CAN_CTL_MODE 1) 1).raise (R.CAN_ST_SYNC 1)).set (R.CAN_ST_ERRST 1) 0
  let s := (s.set (R.HND_POOL_SIZE 2) 16).setReg (R.CAN_PHND_HANDLE 3).addr (BitVec.ofNat 36 (3 * 2 ^ 30 + 2 ^ 18 + 7))
  { s with
    dev := .run, handles := ⟨[], [canRxCh, canTxCh], [], []⟩
    can := ⟨#v[⟨0, 0, false, 0, [], 0, 0, 0⟩, ⟨9, 3, false, 0, [], 2, 0, 0⟩, ⟨0, 0, false, 0, [], 0, 0, 0⟩, ⟨0, 0, false, 0, [], 0, 0, 0⟩],
      [⟨5, false, false, false, none⟩, ⟨7, pend, marked, false, none⟩]⟩ }

/-- A fabric unit of class 1 on quire 2: one leaf that copies tap 0 to point 3, and a TRIP leaf on pin 2 with arm bit 0
as its reset. -/
def fabUnit : FabricUnit where
  id := 4
  cls := 1
  passes := 1
  leaves := [0, 2, BitVec.ofNat 36 (0x3FFFE * 2 ^ 18 + 0x8000), BitVec.ofNat 36 (0x3FFFE * 2 ^ 18 + 0x3FFFE),
    BitVec.ofNat 36 (0x3FFFE * 2 ^ 18 + 0x3FFFE), BitVec.ofNat 36 (2 ^ 27)]
  timers := []
  counters := []
  inTaps := [BitVec.ofNat 36 3]
  outTaps := [BitVec.ofNat 36 3, 0]
  reflex := [0, 2, BitVec.ofNat 36 (126 * 2 ^ 21 + 126 * 2 ^ 14 + 126 * 2 ^ 7 + 2),
    BitVec.ofNat 36 (2 ^ 29 + 5 * 2 ^ 24 + 2 * 2 ^ 22 + 32 * 2 ^ 14 + 126 * 2 ^ 7 + 126)]
  arms := [⟨3, false⟩]
  cvInit := []
  timerRet := []
  counterRet := []
  fixed := none
  hint := none

/-- The unit's state with its leaf and arm bit. -/
def fabSt (leaf arm : Bool) : UnitSt := ⟨4, [⟨leaf, some leaf, leaf⟩], [], [], [arm]⟩

/-- The unit in force on quire 2, the device in a state. -/
def fabState (s : State) (d : Dev) (leaf arm : Bool) : State :=
  { withSmall (s.set (R.FAB_QSTAT_DIS 2) 0) d with
    folio := { s.folio with content := some { smallContent with fabrics := [fabUnit] }, loading := none, forward := none }
    imposer := { s.imposer with sheet := [⟨2, 4, 1, false, false, false, 0, 0, 2, 0, 0, 0, 0, []⟩] }
    fabric := ⟨[fabSt leaf arm],
      (Vector.replicate 8 ⟨none, none, [], [], []⟩).setIfInBounds 2 ⟨none, none, [], [fabUnit], []⟩, 0, 0, 0⟩ }

/-- A stopped device with a TMR pool of 8 slots and a command of port 3 in progress. -/
def handleState (s : State) (code idx : Nat) (words : List Word) (checked : Bool) (chs : List Channel) : State :=
  { (State.forEach (List.range 9) (fun p z => z.set (R.HND_PCMD_STATUS p) 0) s).set (R.HND_POOL_SIZE 5) 8 with
    dev := .stop, handles := ⟨[], chs, [⟨3, code, 6, idx, words, checked⟩], []⟩ }
/-- The words of a CREATE of a TMR channel: argument, header and class words; and the handle of slot 1. -/
def tmrCreate : List Word := [BitVec.ofNat 36 (6 * 2 ^ 30 + 2 ^ 29), BitVec.ofNat 36 (6 * 2 ^ 30 + 3), BitVec.ofNat 36 (2 ^ 34), 0, 1000]
def tmrHandle : List Word := [BitVec.ofNat 36 (6 * 2 ^ 30 + 2 ^ 18 + 1)]

/-- The small folio with a bit symbol over its output point, whose force table has the entries given. -/
def forceState (s : State) (d : Dev) (fs : List Force) : State :=
  let s := withSmall ((s.set (R.FRC_PCMD_STATUS 3) 0).putBit R.FRC_PERM_PERM 3 true) d
  let s := (((s.set (R.FRC_PSYM_SYM 3) 0).set (R.FRC_PSYM_ELEM 3) 0).setReg (R.FRC_PVAL_VALUE 3).addr 1).set (R.FRC_PENT_ENTRY 3) 0
  { s with
    folio := { s.folio with content := some { smallContent with symbols := [⟨5, .scalar, [⟨0, .bit, 0, 0⟩], .point false 3, 0, false⟩] } }
    forces := fs, forceCmds := [], power := { s.power with pfStep := 0 } }
def force0 : Force := ⟨0, 0, 0, 1, false, 3, 1, true, 0, true, true, false, none, 2⟩

/-- A station channel of number 9 on port 0 with one input bit, SILENT. -/
def stnCh : Channel := ⟨2, 4, [9, 0, 0, 0, BitVec.ofNat 36 (2 ^ 27), BitVec.ofNat 36 (1000 * 2 ^ 20)], false, false⟩
def stnSt (state : Nat) : StationCh := ⟨4, state, none, none, [], [], [], [], 0, [], none⟩
def stnState (s : State) (d : Dev) (state : Nat) : State :=
  let s := (s.set R.STN_SYS_SYSID 7).set (R.ETH_PCFG_MODE 0) 1
  { s with
    dev := d, handles := ⟨[], [stnCh], [], []⟩, power := { s.power with pfStep := 0 }
    net := { s.net with stations := [stnSt state] } }
/-- An IN frame of that station whose input is 1 with quality 0, and a word of the CRC over it. -/
def inFrame : List (BitVec 8) :=
  let body : List Nat := [0x12, 0, 0, 7, 0, 9, 0, 0, 0, 0, 0, 0, 0, 0, 0, 5] ++ List.replicate 16 0 ++ [0, 1, 0, 0] ++ [1, 0, 0, 0]
  (body ++ beBytes 4 (crc32c body)).map (BitVec.ofNat 8 ·)

/-- The small folio in RUN with class 1 in a phase: period 1 ms, COMMIT 0.5 ms after its LATCH, every core idle. -/
def cycState (s : State) (ph : Phase) : State :=
  let s := withSmall s .run
  let s := ((s.set (R.CYC_PER_TICKS 1) 32).set (R.CYC_OFS_OFS 1) 4000).putBit R.CYC_STAT_ACTIVE 1 true
  let s := (((s.putBit R.CYC_STAT_HALTED 1 false).set R.SYS_STATE_DEFER 0).set R.CLK_STAT_STOPPED 0).set R.CYC_CFG_SYSCHK 0
  let s := ((s.set (R.CYC_XPOL_OVRLIM 1) 0).set (R.CYC_XPOL_OVRPOL 1) 0).set R.MIR_CFG_EN 0
  { s with
    cores := Vector.replicate 8 Core.fresh, forces := [], forceCmds := []
    handles := ⟨[], [], [], []⟩
    time := { s.time with loc := 3000100, active := none }
    twin := State.reset.twin, spine := State.reset.spine
    cycle := { s.cycle with
      stopping := false, stopDue := false, startAt := 0
      classes := (Vector.replicate 8 ClassSt.fresh).setIfInBounds 1
        { ClassSt.fresh with phase := ph, latchAt := 3000000, latchLoc := 3000000, notBefore := 3000001, checked := ph == .late || ph == .done } } }

/-- A core unit that is event task 2 of class 1. -/
def evUnit : CoreUnit := ⟨9, 0, 1, some 2, 1000, none, false, [0], 0, [], [], 0, 0, none, none, [], []⟩

/-- A gathering with its CRC. -/
def gathWords (ty : Nat) (body : List Word) : List Word :=
  [BitVec.ofNat 36 (ty * 2 ^ 30 + 2 ^ 18), BitVec.ofNat 36 body.length, 0, BitVec.ofNat 36 (crc32c (packWords body))] ++ body

/-- The body of a gathering: a MAP that carries symbol 0 over digests of 0, and nothing for the other types. -/
def smallBody (ty : Nat) : List Word := if ty = 10 then List.replicate 16 0 ++ [BitVec.ofNat 36 (2 ^ 34), 0] else []

/-- A folio of gatherings of types before its SEAL, for the device type of a state, signed like `sealedState`. -/
def smallImage (s : State) (kind : Nat) (types : List Nat) (c : FolioContent) : FolioImage :=
  let gs := types.flatMap fun t => gathWords t (smallBody t)
  let sealG := gathWords 63 (List.replicate 20 0)
  let n := gs.length + sealG.length
  let head : List Word := [BitVec.ofNat 36 0o146157154151, BitVec.ofNat 36 (2 ^ 18 + 16),
    BitVec.ofNat 36 (bitsOf (s.reg R.COL_TYPE_TYPE.addr) 24 12 * 2 ^ 24 + kind), BitVec.ofNat 36 (16 + n),
    BitVec.ofNat 36 (types.length + 1)] ++ List.replicate 11 0
  let r := curveG.1 % curveN
  let signed := head ++ gs ++ sealG.take 4
  ⟨signed ++ (sealG.drop 4).take 4 ++ byteWords 8 r ++ byteWords 8 ((shaWords signed + r) % curveN), c⟩

/-- The small folio in a device state with an online change in a state, the program it brings, and the one it replaced. -/
def olcState' (s : State) (d : Dev) (st : Nat) : State :=
  let s := ((withSmall s d).set R.OLC_STAT_STATE st).set R.OLC_CMD_STATUS 0
  let s := ((s.set R.CYC_STAT_CONF 0).set R.OLC_STAT_NOUNDO 0).set R.OLC_CFG_AUTOUNDO 0
  let s := (State.forEach (List.range 8) (fun c z => z.set (R.CYC_PER_TICKS c) 0) s).set (R.COL_KSTAT_STATE) 1
  let s := ((s.raise R.PCI_STAT_BME).set R.COL_TYPE_TYPE 0).set R.RST_STRAP_ROLE 0
  let s := installKey s 0 (byteWords 8 curveG.1 ++ byteWords 8 curveG.2)
  let b : FolioContent := { smallContent with map := [(1, 0)] }
  { s with
    cores := Vector.replicate 8 Core.fresh, forces := [], handles := ⟨[], [], [], []⟩, fabric := State.reset.fabric
    cycle := State.reset.cycle, twin := State.reset.twin, spine := State.reset.spine
    imposer := { s.imposer with sheet := [⟨3, 3, 0, false, false, false, 0, 0, 0, 0x200, 1, 0, 0, []⟩] }
    olc := ⟨some (smallImage s 2 [5, 10] b), some b, [⟨3, 3, 0, false, false, false, 0, 0, 0, 0x200, 1, 0, 0, []⟩], [], [],
      none, none, false, 0, some ⟨smallContent, [⟨3, 3, 0, false, false, false, 0, 0, 0, 0x200, 1, 0, 0, []⟩], [], []⟩, none⟩ }

/-- The primary of a pair whose partner's heartbeat shows STANDBY. -/
def pairState (s : State) (st : Nat) : State :=
  let s := (olcState' s .run st).raise R.TWN_STAT_PRIMARY
  { s with
    folio := { s.folio with content := some { smallContent with partner := some ⟨1, none⟩ } }
    twin := { State.reset.twin with heart := some ⟨5, false, 4, none, true⟩, lost := false } }

/-- The device in LOAD with a load in progress, of the settings that the small image passes with. -/
def loadState (s : State) (l : FolioLoad) : State :=
  let s := olcState' s .load 0
  { s with olc := State.reset.olc, folio := { s.folio with loading := some l } }

/-- An acting manager whose listed worker 6 reports STOP without a folio. -/
def shelfState (s : State) : State :=
  let s := (olcState' s .run 0).raise R.SPN_STAT_ACTING
  { s with
    folio := { s.folio with shelfA := none, content := some { smallContent with nodes := [⟨6, true, false, true, none, []⟩] } }
    spine := { s.spine with nodes := [⟨6, some ⟨3, false, false, 0, true, 0, 0, 0, false, 0, 0, 0, []⟩, none, false, false⟩] } }

/-- The head of a spine frame from node 2 to all that arrives on lane 3. -/
def head0 : FrameHead := ⟨3, true, 2, true, 0, 7, 0, 8, true, 1⟩

/-- The small folio in a device state on a node with time domains 0 unconfigured, a fresh spine unit, acting or not. -/
def nodeState (s : State) (d : Dev) (acting : Bool) : State :=
  let s := (((olcState' s d 0).setFlag R.SPN_STAT_ACTING acting).set (R.NTM_DCFG_MODE 0) 0).set (R.NTM_DCFG_MODE 1) 0
  { s with
    olc := State.reset.olc
    folio := { s.folio with waiting := none, content := some { smallContent with role := if acting then 0 else 1, standalone := false, nodes := [⟨6, true, false, true, none, []⟩] } } }

/-- What the acting manager knows of node 6: it passed its checks, holds time lock and runs, and hosts a unit. -/
def node6 (lost : Bool) : NodeSt := ⟨6, some ⟨4, true, true, 3, true, 0, 0, 0, true, 0, 0, 0, []⟩, none, true, lost⟩

/-- The small folio of an acting manager in RUN whose class 1 gathers a run of one word point of node 2 into global point 3, with a
core unit of class 1 that runs at node 6 or comes from elsewhere. -/
def unit1 : CoreUnit := ⟨9, 0, 1, none, 1000, none, true, [0], 0, [], [], 0, 0, none, none, [], []⟩
def dataState (s : State) (ph : Phase) (own foreign : Bool) : State :=
  let s := cycState s ph
  let e : SheetEntry := ⟨1, 9, 1, false, foreign, own, 0, 6, 2, 0x1000, 1, 0, 0, []⟩
  { (s.set R.SPN_GOP_STATUS 0).raise R.SPN_STAT_ACTING with
    folio := { s.folio with content := some { smallContent with points := [⟨true, true, 3, 1, true, .unbound⟩], cores := if own then [unit1] else [], runs := [⟨2, 1, false, true, 0, 3, 1⟩], snapshot := some (40960, 4) } }
    imposer := { s.imposer with sheet := [e], foreignUnits := if foreign then [unit1] else [] } }

/-- The standby of a pair in a PSTATE, whose class 1 gathers. -/
def standbyState (s : State) (pstate : Nat) : State :=
  let z := cycState s .gather
  let z := (z.set R.TWN_STAT_PRIMARY 0).set R.TWN_STAT_PSTATE pstate
  let z := ((z.set R.OLC_STAT_STATE 0).set R.TWN_CMD_STATUS 0).set R.SPN_STAT_ACTING 0
  { z with
    dev := .standby, olc := State.reset.olc
    folio := { z.folio with content := some { smallContent with partner := some ⟨1, none⟩ } }
    twin := { State.reset.twin with heart := some ⟨4, true, pstate, none, true⟩, lost := false } }

/-- The image of a body of one zero byte for that family, signed by a key whose private part and signature secret are 1; or
one whose body is another byte. -/
def updImage (good : Bool) : FlashImage :=
  ⟨[BitVec.ofNat 36 0o165160144146, BitVec.ofNat 36 (2 ^ 18 + 64), BitVec.ofNat 36 (5 * 2 ^ 24 + 15 * 2 ^ 20 + 15 * 2 ^ 16), 3, 1] ++
    List.replicate 27 0 ++ byteWords 8 (curveG.1 % curveN) ++
    byteWords 8 0x69bde228abd4138ab63bf776318b176bdcd509119783fb7368baee40f737fec2 ++ List.replicate 16 0,
    byteWords 8 0x6e340b9cffb37a989ca544e6bb780a2c78901d3fb33738768511a30617afa01d, [if good then 0 else 1], []⟩

/-- A device of that family with slot 0 in use and slot 1 in a state, no key rules and no write in progress, in a state. -/
def updState (s : State) (d : Dev) (slot1 : Nat) : State :=
  let z := (((olcState' s d 0).set R.COL_TYPE_TYPE (5 * 2 ^ 24 + 2 ^ 20 + 2 ^ 16)).set R.COL_MINSVN_SVN 0).set R.COL_KSTAT_OWNSIGN 0
  let z := (((z.set R.UPD_STAT_S0 4).set R.UPD_STAT_S1 slot1).set R.UPD_CMD_STATUS 0).set R.UPD_STAT_RUNSLOT 0
  let z := ((z.set R.UPD_STAT_TRIAL 0).set R.UPD_STAT_BUSY 0).set R.UPD_CMD_CODE 1
  { z with
    olc := State.reset.olc, upd := State.reset.upd, ids := { z.ids with romKey := curveG }
    power := { z.power with refOk := true, porstLow := false, rstLow := false, pfStep := 0, abortDue := 0, bootKind := 0 } }

/-- The small folio in STOP, ready to write a folio to a slot. -/
def folWriteState (s : State) : State :=
  { (olcState' s .stop 0).set R.UPD_CMD_STATUS 0 with olc := State.reset.olc, upd := State.reset.upd }

/-- Core 3 of the small folio runs a task of class 1 at 100H, its registers as in a state, with a handler or none. -/
def runCore (s : State) (vbase : Nat) : State :=
  let z := (dataState s .solve false false).set R.SPN_STAT_ACTING 0
  let z := (z.set R.COL_TYPE_TYPE 0).set (R.SPN_RSEL_EN 3) 0
  { z with
    poison := [], mem := s.mem.filter (fun p => p.1 < 0x3F0000), olc := State.reset.olc
    fabric := { s.fabric with units := [], quires := Vector.replicate 8 ⟨none, none, [], [], []⟩ } }.setCore 3
    { s.core 3 with task := some ⟨9, 1, none, false⟩, wait := .none, imprecise := none, pc := 0x100, x := (s.core 3).x.map (· &&& 0x1FFFFF), preempted := [], ready := [], posted := [], vbase := BitVec.ofNat 24 vbase }

/-- That core from reset, at an address with a status word. -/
def witnessCore (pc sw : Nat) : State :=
  let z := runCore State.reset 0x2000
  z.setCore 3 { z.core 3 with pc := BitVec.ofNat 24 pc, sw := BitVec.ofNat 36 sw }

/-! Ill-formed commands. -/

/-- A frame head whose fields keep to their widths. -/
def okHead : FrameHead := ⟨3, true, 2, true, 0, 7, 0, 8, true, 1⟩

theorem test_wf_head : headWf okHead = true ∧ headWf { okHead with lane := 6 } = false ∧ headWf { okHead with src := 128 } = false ∧
    headWf { okHead with dst := 128 } = false ∧ headWf { okHead with seq := 2 ^ 24 } = false ∧
    headWf { okHead with tref := 2 ^ 36 } = false ∧ headWf { okHead with cls := 9 } = false ∧
    headWf { okHead with hops := 64 } = false := by decide
theorem test_wf_payload : Instr.wf (.gatherFrame okHead [1]) = false := by decide
theorem test_wf_bulk : Instr.wf (.bulkFrame okHead (.image 257)) = false ∧ Instr.wf (.bulkFrame okHead (.folio 257 true)) = false := by
  decide
theorem test_wf_code : bulkWf (.code unit1 8 []) = false ∧ bulkWf (.code unit1 0 [(2 ^ 24, [0])]) = false := by decide
theorem test_wf_point : Instr.wf (.feedFrame okHead 1 [⟨false, true, 3, 2, 0⟩]) = false ∧
    Instr.wf (.trkinFrame okHead [⟨true, true, 3, 2, 4⟩]) = false := by decide
theorem test_wf_unit : Instr.wf (.feedFrame okHead 512 []) = false := by decide
theorem test_wf_return : Instr.wf (.returnFrame okHead 1 [] [(2 ^ 24, [0])]) = false := by decide
theorem test_wf_tick : tickWf ⟨5, 6, 2, [], 12, 3⟩ = false ∧ tickWf ⟨5, 6, 1, [], 12, 64⟩ = false := by decide
theorem test_wf_status : statusWf ⟨16, true, true, 3, true, 0, 0, 0, false, 0, 2, 6, []⟩ = false ∧
    statusWf ⟨5, true, true, 3, true, 0, 0, 0, false, 256, 2, 6, []⟩ = false ∧
    statusWf ⟨5, true, true, 3, true, 0, 0, 0, false, 0, 2, 6, [(8, 0, 0)]⟩ = false := by decide
theorem test_wf_record : recordWf ⟨128, 0, 1, [], 0, 0, false, [], false, 0⟩ = false := by decide
theorem test_wf_heart : heartWf ⟨4, true, 8, none, true⟩ = false := by decide
theorem test_wf_remote : Instr.wf (.remoteFrame okHead (.read (2 ^ 24))) = false ∧
    Instr.wf (.remoteFrame okHead (.write (2 ^ 24) 0 0)) = false ∧ Instr.wf (.remoteFrame okHead (.answer 9 0 false none)) = false := by decide
theorem test_wf_flash : flashWf ⟨[0], [], [], []⟩ = false := by decide
theorem test_wf_chunk : chunkWf (.data ⟨List.replicate 64 0, [], [], []⟩ 60 0) = false ∧
    chunkWf (.report 8 0 0) = false := by decide
theorem test_wf_can : Instr.wf (.canFrameReceived 0 ⟨⟨0, false, false, false, false, 5, 0, 0, false, 0, 9, [0, 0, 0]⟩, 0⟩) = false ∧
    Instr.wf (.canFrameReceived 0 ⟨⟨0, false, false, false, false, 5, 0, 0, false, 0, 8, [0]⟩, 0⟩) = false := by decide
theorem test_wf_slot : Instr.wf (.pcieAccess .bar0 0 1 8 none) = false ∧ Instr.wf (.pcieAccess .bar0 0 1 0 none) = false := by decide

/-! Words and values that the manual works out. -/

/-- 08_zhorex36_instruction_reference, worked example: MACD A0, (X1)+, (X2)+ is 8#014_400_440_240, and it decodes to itself. -/
theorem test_macd_word : (coreIssue (.macd 3 0 0x00240a0)).map (·.2.1) = some 0o014400440240#36 ∧
    decodeCore 3 0o014400440240#36 0 false = .macd 3 0 0x00240a0 := by decide +kernel

/-- The same section: ADD G3, G1, G2 is 8#010_061_100_000. -/
theorem test_add_word : (coreIssue (.alu 3 0 0x0c48000)).map (·.2.1) = some 0o010061100000#36 ∧
    decodeCore 3 0o010061100000#36 0 false = .alu 3 0 0x0c48000 := by decide +kernel

/-- R469's table: each moment before the last grain of a day, and the moment after, from 23:59:59 to 00:00:00. -/
theorem test_rollovers : [((23, 4, 31), (23, 5, 1)), ((100, 2, 28), (100, 2, 29)), ((24, 13, 31), (25, 1, 1)),
      ((24, 12, 0), (24, 12, 1)), ((199, 12, 31), (0, 1, 1))].all (fun p =>
    secondAdvance ⟨p.1.1 / 100, 0, p.1.1 % 100, p.1.2.1, p.1.2.2, 23, 59, 59⟩ ==
      ⟨p.2.1 / 100, 0, p.2.1 % 100, p.2.2.1, p.2.2.2, 0, 0, 0⟩) = true := by decide

/-- 17_watchdog, worked example: a window that begins at grain 1,000,000 with OPEN 1,600 and CLOSE 3,200, slots 0 and 1
enrolled, slot 0 checked in, at a grain. -/
def wdgState (grain : Nat) : State :=
  let s := ((State.reset.raise R.WDG_STAT_ARMED).set R.WDG_WSTART_GRAIN 1000000).set R.WDG_LCLK_GRAIN grain
  let s := ((s.set R.WDG_WIN_OPEN 1600).set R.WDG_WIN_CLOSE 3200).putBit R.WDG_STAT_CHECKED 0 true
  let s := ((s.raise (R.WDG_SLOT_EN 0)).raise (R.WDG_SLOT_EN 1)).set (R.WDG_SLOT_CLASS 1) 4
  { ((s.set R.WDG_CFG_R1MAX 2).set R.WDG_CFG_NRES 3).set R.WDG_CFG_SPAN 60 with
    dev := .run, watchdog := { s.watchdog with token := 5 } }

/-- Step 3 of that example: a service in the grain equal to OPEN, slot 1 missing, sets HELD. -/
theorem test_watchdog_held : (watchdogService (wdgState 1001600) 8 5).flag R.WDG_STAT_HELD = true := by decide +kernel

/-- The text after it: a service in grain 1,001,599 is EARLY and goes to rung 2. -/
theorem test_watchdog_early : (watchdogService (wdgState 1001599) 8 5).get R.WDG_STAT_CAUSE = 1 ∧
    (watchdogService (wdgState 1001599) 8 5).get R.WDG_STAT_RUNG = 2 := by decide +kernel

/-- Step 4: CLOSE begins with HELD at 1: MISSING, slot 1, class 4, rung 1, and C_4 becomes 1. -/
theorem test_watchdog_missing : (let s := windowEnd ((wdgState 1003200).raise R.WDG_STAT_HELD)
    s.get R.WDG_STAT_CAUSE = 4 ∧ s.get R.WDG_STAT_SLOT = 1 ∧ s.get R.WDG_STAT_CLASS = 4 ∧ s.get R.WDG_STAT_RUNG = 1 ∧
    s.watchdog.counts.toList.getD 4 0 = 1 ∧ s.flag R.WDG_STAT_FIRST = true) := by decide +kernel

/-- R218: a transfer into cleared memory traps ILLEGAL at its first instruction; R206: PC := VBASE + 8 × 0. -/
theorem test_zero_word : (match execUnassignedOpcode 3 0 (witnessCore 0x100 0) with
    | .next t => (t.core 3).pc == 0x2000 && (t.core 3).tpc == 0x100 && (t.core 3).tcause == 0
    | _ => false) = true := by decide +kernel

/-- R391: of a pair, the primary alone sets DRIVE. -/
theorem test_drive : driveBit ((pairState State.reset 0).raise R.SYS_STATE_FOLIO) = true ∧
    driveBit (((pairState State.reset 0).raise R.SYS_STATE_FOLIO).set R.TWN_STAT_PRIMARY 0) = false := by decide +kernel

/-- States and operands that meet the hypotheses of StepRunsFrontCommand. -/
theorem witness_StepRunsFrontCommand :
    (({ State.reset with pending := [.aonPowerUp] } : State).pending = [.aonPowerUp]) ∧
    (({ State.reset with dev := .off } : State).pending = [] ∧ ({ State.reset with dev := .off } : State).powered = false) ∧
    (State.reset.pending = [] ∧ State.reset.powered = true) := by
  decide +kernel

/-- States and operands that meet the hypotheses of OffStaysOff. -/
theorem witness_OffStaysOff :
    (let s : State := { State.reset with dev := .off, pending := [.aonPowerUp] }; s.dev = .off ∧ s.pending.any isPowerUp = false ∧
      (match step s with | .next _ => true | _ => false) = true) := by
  decide +kernel

/-- States and operands that meet the hypotheses of WaitingCommandsWellFormed. -/
theorem witness_WaitingCommandsWellFormed :
    (({ State.reset with pending := [.pcieAccess .bar0 0 0 8 none] } : State).pending.all Instr.wf = true) := by
  decide +kernel

/-- States and operands that meet the hypotheses of RailsComeAndGo. -/
theorem witness_RailsComeAndGo :
    (let s : State := { blank with dev := .off, power := { blank.power with secureFailed := false } };
      s.dev = .off ∧ s.power.secureFailed = false) ∧
    (let s : State := { blank with dev := .off, power := { blank.power with vaonLost := true } };
      s.dev = .off ∧ s.power.vaonLost = true) ∧
    (let s : State := { blank with dev := .run };
      s.powered = true) ∧
    (let s : State := { blank with dev := .run, power := { blank.power with pfStep := 0 } };
      s.powered = true ∧ s.power.pfStep = 0) ∧
    (let rail : Fin 8 := 0; let s : State := { blank with dev := .run, power := { blank.power with warned := 0 } };
      s.powered = true ∧ s.power.warned.testBit rail = false) :=
  ⟨by decide +kernel, by decide +kernel, by decide +kernel, by decide +kernel, by decide +kernel⟩

/-- States and operands that meet the hypotheses of RailsComeAndGo, clauses from the 6th on. -/
theorem witness_RailsComeAndGo_2 :
    (let rail : Fin 8 := 0; let s : State := { blank with dev := .run, power := { blank.power with warned := 255 } };
      s.powered = true ∧ s.power.warned.testBit rail = true) ∧
    (let s : State := { blank with dev := .run };
      s.powered = true) :=
  ⟨by decide +kernel, by decide +kernel⟩

/-- States and operands that meet the hypotheses of ResetsEnterBoot. -/
theorem witness_ResetsEnterBoot :
    (let s : State := { blank with dev := .run };
      s.powered = true) ∧
    (let s : State := { blank with dev := .run };
      s.powered = true) ∧
    (let s : State := { (blank.set R.SYS_STATE_DEFER 0) with dev := .run, power := { blank.power with pfStep := 0 }, retain := { blank.retain with running := none }, keeper := { blank.keeper with commits := [] } };
      s.powered = true ∧ s.power.pfStep = 0 ∧ s.flag R.SYS_STATE_DEFER = false ∧ deferring s = false) ∧
    (let s : State := { (blank.set R.SYS_STATE_DEFER 0) with dev := .run, power := { blank.power with pfStep := 0 }, retain := { blank.retain with running := none }, keeper := { blank.keeper with commits := [] } };
      s.powered = true ∧ s.power.pfStep = 0 ∧ s.flag R.SYS_STATE_DEFER = false ∧ deferring s = false) ∧
    (let s : State := { (blank.set R.SYS_STATE_DEFER 0) with dev := .run, power := { blank.power with pfStep := 0 }, retain := { blank.retain with running := none }, keeper := { blank.keeper with commits := [] } };
      s.powered = true ∧ s.power.pfStep = 0 ∧ s.flag R.SYS_STATE_DEFER = false ∧ deferring s = false) :=
  ⟨by decide +kernel, by decide +kernel, by decide +kernel, by decide +kernel, by decide +kernel⟩

/-- States and operands that meet the hypotheses of ResetsEnterBoot, clauses from the 6th on. -/
theorem witness_ResetsEnterBoot_2 :
    (let s : State := { (blank.set R.SYS_STATE_DEFER 0) with dev := .run, power := { blank.power with pfStep := 0 }, retain := { blank.retain with running := none }, keeper := { blank.keeper with commits := [] } };
      s.powered = true ∧ s.power.pfStep = 0 ∧ s.flag R.SYS_STATE_DEFER = false ∧ deferring s = false) ∧
    (let s : State := { (blank.raise R.SYS_STATE_DEFER) with dev := .run, power := { blank.power with pfStep := 0 }, retain := { blank.retain with running := none }, keeper := { blank.keeper with commits := [] } };
      s.powered = true ∧ s.flag R.SYS_STATE_DEFER = true ∧ s.power.pfStep = 0 ∧ deferring s = false) ∧
    (let s : State := { (blank.raise R.SYS_STATE_DEFER) with dev := .run, power := { blank.power with pfStep := 0 } };
      s.powered = true ∧ s.flag R.SYS_STATE_DEFER = true ∧ s.power.pfStep = 0) ∧
    (let s : State := { blank with dev := .boot, power := { blank.power with porstLow := true, pfPin := false, pfMon := false } };
      s.dev = .boot ∧ s.power.porstLow = true ∧ pfailPresent s = false) ∧
    (let s : State := { (blank.set R.PWR_PFCFG_PFSRC 3) with dev := .boot, power := { blank.power with porstLow := true, rstLow := false, pfStep := 0, pfPin := true } };
      s.dev = .boot ∧ s.power.pfStep = 0 ∧ s.power.rstLow = false ∧ pfailPresent s = true) :=
  ⟨by decide +kernel, by decide +kernel, by decide +kernel, by decide +kernel, by decide +kernel⟩

/-- States and operands that meet the hypotheses of ResetsEnterBoot, clauses from the 11th on. -/
theorem witness_ResetsEnterBoot_3 :
    (let s : State := { blank with dev := .boot, power := { blank.power with pfPin := false, pfMon := false } };
      pfailPresent s = false) ∧
    (let s : State := { (blank.set R.SYS_STATE_DEFER 0) with dev := .run, power := { blank.power with pfStep := 0 }, retain := { blank.retain with running := some ⟨true, 1, [], false⟩ }, folio := { blank.folio with content := none } };
      s.powered = true ∧ s.power.pfStep = 0 ∧ s.flag R.SYS_STATE_DEFER = false ∧ deferring s = true ∧
        s.partner = none) ∧
    (let s : State := { blank with power := { blank.power with pfStep := 3 } };
      0 < s.power.pfStep) :=
  ⟨by decide +kernel, by decide +kernel, by decide +kernel⟩

/-- States and operands that meet the hypotheses of ClocksFollowTheirSources. -/
theorem witness_ClocksFollowTheirSources :
    (let s : State := { blank with dev := .boot };
      s.dev = .boot) ∧
    (let s : State := { blank with dev := .run, power := { blank.power with vaonLost := false, slowRc := false } };
      s.powered = true ∧ s.aon = true ∧ s.power.slowRc = false) ∧
    (let s : State := { blank with dev := .run, power := { blank.power with vaonLost := false, slowRc := true } };
      s.powered = true ∧ s.aon = true ∧ s.power.slowRc = true) ∧
    (let s : State := { ((((((blank.set R.CYC_STAT_CONF 1).set (R.CYC_PER_TICKS 0) 640).raise R.CLK_NAP_PLLSTOP).set R.CLK_STAT_STOPPED 0).set R.DBG_STAT_CONN 0)) with dev := .run, power := { blank.power with pllKeep := false }, cycle := State.reset.cycle, handles := State.reset.handles, folio := { blank.folio with loading := none }, upd := { blank.upd with run := none }, retain := { blank.retain with running := none }, time := State.reset.time };
      pllMayStop s = true) ∧
    (let s : State := { (blank.raise R.CLK_STAT_STOPPED) with dev := .run };
      s.powered = true ∧ s.flag R.CLK_STAT_STOPPED = true) :=
  ⟨by decide +kernel, by decide +kernel, by decide +kernel, by decide +kernel, by decide +kernel⟩

/-- States and operands that meet the hypotheses of ClocksFollowTheirSources, clauses from the 6th on. -/
theorem witness_ClocksFollowTheirSources_2 :
    (let s : State := { (blank.raise R.CLK_STAT_STOPPED) with dev := .run };
      s.powered = true ∧ s.flag R.CLK_STAT_STOPPED = true) ∧
    (let s : State := { (blank.raise R.CLK_STAT_STOPPED) with dev := .run, power := { blank.power with pllWaking := true } };
      s.powered = true ∧ s.flag R.CLK_STAT_STOPPED = true ∧ s.power.pllWaking = true) ∧
    (let s : State := { (blank.raise R.CLK_STAT_STOPPED) with dev := .run, power := { blank.power with pllWaking := true } };
      s.powered = true ∧ s.flag R.CLK_STAT_STOPPED = true ∧ s.power.pllWaking = true) :=
  ⟨by decide +kernel, by decide +kernel, by decide +kernel⟩

/-- States and operands that meet the hypotheses of PowerFailRuns. -/
theorem witness_PowerFailRuns :
    (let pin : Bool := false;
      let s : State := { (blank.set R.PWR_PFCFG_PFSRC 3) with dev := .run, power := { blank.power with pfStep := 0, porstLow := false, rstLow := false }, folio := { blank.folio with content := none } };
      (s.dev = .run ∨ s.dev = .standby ∨ s.dev = .halt ∨ s.dev = .safe) ∧ s.power.pfStep = 0 ∧ heldInReset s = false ∧
        ((s.get R.PWR_PFCFG_PFSRC).testBit (if pin then 0 else 1) = true)) ∧
    (let pin : Bool := false;
      let s : State := { (blank.set R.PWR_PFCFG_PFSRC 3) with dev := .boot, power := { blank.power with pfStep := 0, porstLow := false, rstLow := false }, folio := { blank.folio with content := none } };
      (s.dev = .boot ∨ s.dev = .load) ∧ s.power.pfStep = 0 ∧ heldInReset s = false ∧
        ((s.get R.PWR_PFCFG_PFSRC).testBit (if pin then 0 else 1) = true)) ∧
    (let pin : Bool := false;
      let s : State := { (blank.set R.PWR_PFCFG_PFSRC 3) with dev := .stop, power := { blank.power with pfStep := 0, porstLow := false, rstLow := false }, folio := { blank.folio with content := none } };
      s.dev = .stop ∧ s.power.pfStep = 0 ∧ heldInReset s = false ∧
        ((s.get R.PWR_PFCFG_PFSRC).testBit (if pin then 0 else 1) = true)) ∧
    (let s : State := { (blank.set R.PWR_PFCFG_PFSRC 3) with dev := .run, power := { blank.power with pfStep := 3, porstLow := false, rstLow := false }, folio := { blank.folio with content := none } };
      s.powered = true ∧ 0 < s.power.pfStep) ∧
    (let s : State := { (blank.set R.PWR_PFCFG_PFSRC 0) with dev := .run };
      s.powered = true ∧ s.get R.PWR_PFCFG_PFSRC = 0) :=
  ⟨by decide +kernel, by decide +kernel, by decide +kernel, by decide +kernel, by decide +kernel⟩

/-- States and operands that meet the hypotheses of PowerFailRuns, clauses from the 6th on. -/
theorem witness_PowerFailRuns_2 :
    (let s : State := { (blank.set R.PWR_PFCFG_PFSRC 3) with dev := .run, power := { blank.power with pfStep := 3, porstLow := false, rstLow := false }, folio := { blank.folio with content := none } };
      s.powered = true ∧ s.power.pfStep = 3) ∧
    (let s : State := { (blank.set R.PWR_PFCFG_PFSRC 3) with dev := .run, power := { blank.power with pfStep := 3 }, folio := { blank.folio with content := none }, retain := { blank.retain with running := none } };
      s.powered = true ∧ s.power.pfStep = 3 ∧ s.retain.running = none) ∧
    (let s : State := { blank with dev := .run, power := { blank.power with pfStep := 7 }, retain := { blank.retain with running := none } };
      s.powered = true ∧ s.power.pfStep = 7 ∧ s.retain.running = none) ∧
    (let s : State := { blank with dev := .run };
      s.powered = true) :=
  ⟨by decide +kernel, by decide +kernel, by decide +kernel, by decide +kernel⟩

/-- States and operands that meet the hypotheses of SystemCommandsRun. -/
theorem witness_SystemCommandsRun :
    (let s : State := { ((blank.set R.SYS_CMD_STATUS 0).set R.SYS_STATE_DEFER 0) with dev := .stop, power := { blank.power with pfStep := 0 }, folio := { blank.folio with content := some smallContent }, olc := State.reset.olc, retain := { blank.retain with running := none }, keeper := { blank.keeper with commits := [] } };
      s.dev = .stop ∧ s.get R.SYS_CMD_STATUS ≠ 1 ∧ s.content.any (·.standalone) = true ∧ s.power.pfStep = 0 ∧
        s.flag R.SYS_STATE_DEFER = false) ∧
    (let s : State := { ((blank.set R.SYS_CMD_STATUS 0).set R.SYS_STATE_DEFER 0) with dev := .stop, power := { blank.power with pfStep := 0 }, folio := { blank.folio with content := some smallContent }, olc := State.reset.olc, retain := { blank.retain with running := none }, keeper := { blank.keeper with commits := [] } };
      s.dev = .stop ∧ s.get R.SYS_CMD_STATUS ≠ 1 ∧ s.content.any (·.standalone) = true ∧ s.power.pfStep = 0 ∧
        s.flag R.SYS_STATE_DEFER = false) ∧
    (let s : State := { ((blank.set R.SYS_CMD_STATUS 0).set R.SYS_STATE_DEFER 0) with dev := .run, power := { blank.power with pfStep := 0 }, folio := { blank.folio with content := some smallContent }, olc := State.reset.olc, retain := { blank.retain with running := none }, keeper := { blank.keeper with commits := [] } };
      s.powered = true ∧ s.get R.SYS_CMD_STATUS ≠ 1 ∧ (s.dev ≠ .stop ∨ s.content = none)) ∧
    (let s : State := { ((blank.set R.SYS_CMD_STATUS 0).set R.SYS_STATE_DEFER 0) with dev := .halt, power := { blank.power with pfStep := 0 }, folio := { blank.folio with content := some smallContent }, olc := State.reset.olc, retain := { blank.retain with running := none }, keeper := { blank.keeper with commits := [] } };
      (s.dev = .halt ∨ s.dev = .standby) ∧ s.get R.SYS_CMD_STATUS ≠ 1) ∧
    (let s : State := { ((blank.set R.SYS_CMD_STATUS 0).set R.SYS_STATE_DEFER 0) with dev := .stop, power := { blank.power with pfStep := 0 }, folio := { blank.folio with content := some smallContent }, olc := State.reset.olc, retain := { blank.retain with running := none }, keeper := { blank.keeper with commits := [] } };
      s.powered = true ∧ s.get R.SYS_CMD_STATUS ≠ 1) :=
  ⟨by decide +kernel, by decide +kernel, by decide +kernel, by decide +kernel, by decide +kernel⟩

/-- States and operands that meet the hypotheses of SystemCommandsRun, clauses from the 6th on. -/
theorem witness_SystemCommandsRun_2 :
    (let s : State := { ((blank.set R.SYS_CMD_STATUS 0).set R.SYS_STATE_DEFER 0) with dev := .stop, power := { blank.power with pfStep := 0 }, folio := { blank.folio with content := some smallContent }, olc := State.reset.olc, retain := { blank.retain with running := none }, keeper := { blank.keeper with commits := [] } };
      s.powered = true ∧ s.get R.SYS_CMD_STATUS ≠ 1 ∧ s.power.pfStep = 0 ∧ s.flag R.SYS_STATE_DEFER = false ∧
        deferring s = false) ∧
    (let o : Option (BitVec 16) := none;
      let s : State := { ((sealedState (blank.set R.SYS_CMD_STATUS 0) 1 0).set R.SYS_STATE_DEFER 0) with dev := .safe, power := { blank.power with pfStep := 0 }, folio := { blank.folio with content := some smallContent }, olc := State.reset.olc, retain := { blank.retain with running := none }, keeper := { blank.keeper with commits := [] } };
      s.dev = .safe ∧ s.get R.SYS_CMD_STATUS ≠ 1 ∧ s.power.pfStep = 0 ∧ sealCause (sealAt s o) [1] = 0) ∧
    (let s : State := { (blank.set R.SYS_CMD_STATUS 1) with dev := .run };
      s.powered = true ∧ s.get R.SYS_CMD_STATUS = 1) :=
  ⟨by decide +kernel, by decide +kernel, by decide +kernel⟩

/-- States and operands that meet the hypotheses of FolioLoads. -/
theorem witness_FolioLoads :
    (let s : State := (((olcState' blank .stop 0).set R.FOL_CMD_STATUS 0).set R.FOL_SRC_SRC 2);
      s.get R.FOL_CMD_STATUS ≠ 1 ∧ s.dev = .stop ∧ s.power.pfStep = 0 ∧ (s.get R.FOL_SRC_SRC = 2 →
        s.flag R.PCI_STAT_BME = true)) ∧
    (let s : State := ((olcState' blank .run 0).set R.FOL_CMD_STATUS 0);
      s.powered = true ∧ s.get R.FOL_CMD_STATUS ≠ 1 ∧ s.dev ≠ .stop) ∧
    (let src : Nat := 2; let byC : Bool := true; let o : Bool := false;
      let s : State := (loadState blank ⟨2, true, none, false⟩).set R.FOL_CMD_STATUS 1;
      s.powered = true ∧ s.folio.loading = some ⟨src, byC, none, o⟩) ∧
    (let src : Nat := 2; let byC : Bool := true; let o : Bool := false;
      let s : State := loadState blank ⟨2, true, none, false⟩;
      let img : FolioImage := smallImage s 1 [1, 2, 5, 7, 8, 9] smallContent;
      s.dev = .load ∧ s.power.pfStep = 0 ∧ s.folio.loading = some ⟨src, byC, none, o⟩ ∧
        verify (s.set R.FOL_LEN_LEN (img.words.getD 3 0).toNat) img (loadKinds s ⟨src, byC, none,
        o⟩) fitsWhole = none) ∧
    (let src : Nat := 2; let cause : Nat := 4; let pos : Nat := 2; let byC : Bool := true;
      let s : State := loadState blank ⟨2, true, none, false⟩;
      let img : FolioImage := smallImage s 2 [1, 2, 5, 7, 8, 9] smallContent;
      s.dev = .load ∧ s.power.pfStep = 0 ∧ s.folio.loading = some ⟨src, byC, none, false⟩ ∧
        verify (s.set R.FOL_LEN_LEN (img.words.getD 3 0).toNat) img (loadKinds s ⟨src, byC, none,
        false⟩) fitsWhole = some (cause, pos) ∧ cause < 32) :=
  ⟨by decide +kernel, by decide +kernel, by decide +kernel, by decide +kernel, by decide +kernel⟩

/-- States and operands that meet the hypotheses of FolioLoads, clauses from the 6th on. -/
theorem witness_FolioLoads_2 :
    (let src : Nat := 2; let byC : Bool := true; let o : Bool := false;
      let img : FolioImage := smallImage State.reset 1 [1, 2, 5, 7, 8, 9] smallContent;
      let s : State := (let z : State := loadState blank ⟨2, true, (some (smallImage State.reset 1 [1, 2, 5, 7, 8, 9] smallContent)), false⟩; { z with folio := { z.folio with carryFresh := false }, power := { z.power with pfPin := false, pfMon := false } });
      s.dev = .load ∧ s.power.pfStep = 0 ∧ s.power.pfPin = false ∧ s.power.pfMon = false ∧
        s.folio.loading = some ⟨src, byC, some img, o⟩ ∧ img.content.autostart = false ∧ s.folio.carryFresh = false) ∧
    (let src : Nat := 2; let byC : Bool := true; let o : Bool := false;
      let img : FolioImage := smallImage State.reset 1 [1, 2, 5, 7, 8, 9] smallContent;
      let s : State := (let z : State := loadState blank ⟨2, true, (some (smallImage State.reset 1 [1, 2, 5, 7, 8, 9] smallContent)), false⟩; { z with power := { z.power with pfPin := false, pfMon := false } });
      s.dev = .load ∧ s.power.pfStep = 0 ∧ s.power.pfPin = false ∧ s.power.pfMon = false ∧
        s.folio.loading = some ⟨src, byC, some img, o⟩) ∧
    (let src : Nat := 2; let byC : Bool := true; let s : State := loadState blank ⟨2, true, none, false⟩;
      s.powered = true ∧ s.folio.loading = some ⟨src, byC, none, false⟩ ∧ failingRead s = some none) ∧
    (let byC : Bool := false; let s : State := loadState blank ⟨3, false, none, false⟩;
      s.powered = true ∧ s.folio.loading = some ⟨3, byC, none, false⟩) ∧
    (let s : State := (let z : State := ((((((olcState' blank .run 0).set R.FOL_CMD_STATUS 0).raise R.SPN_STAT_ACTING).setReg R.FOL_SRC_NODE.addr 12).raise (R.SPN_NODE_PRESENT 6)).set (R.SPN_NODE_STATE 6) 3); { z with folio := { z.folio with shelfA := none } });
      s.powered = true ∧ s.get R.FOL_CMD_STATUS ≠ 1 ∧ managesSpine s = true ∧ (s.dev = .stop ∨ s.dev = .run) ∧
        shelfBusy s (decide (64 ≤ forwardTarget s)) = none ∧ s.get R.FOL_SRC_NODE ≠ 0 ∧
        s.flag (R.SPN_NODE_PRESENT (forwardTarget s)) = true ∧ s.get (R.SPN_NODE_STATE (forwardTarget s)) = 3 ∧
        s.flag R.PCI_STAT_BME = true) :=
  ⟨by decide +kernel, by decide +kernel, by decide +kernel, by decide +kernel, by decide +kernel⟩

/-- States and operands that meet the hypotheses of FolioLoads, clauses from the 11th on. -/
theorem witness_FolioLoads_3 :
    (let s : State := (let z : State := ((olcState' blank .run 0).set R.FOL_CMD_STATUS 0).set R.SPN_STAT_ACTING 0; { z with folio := { z.folio with content := none } });
      s.powered = true ∧ s.get R.FOL_CMD_STATUS ≠ 1 ∧ managesSpine s = false) ∧
    (let s : State := (let z : State := (((olcState' blank .run 0).set R.FOL_CMD_STATUS 0).raise R.SPN_STAT_ACTING).setReg R.FOL_SRC_NODE.addr 12; { z with folio := { z.folio with shelfA := some (8, true) } });
      s.powered = true ∧ s.get R.FOL_CMD_STATUS ≠ 1 ∧ managesSpine s = true ∧ (s.dev = .stop ∨ s.dev = .run) ∧
        shelfBusy s (decide (64 ≤ forwardTarget s)) ≠ none) ∧
    (let a : Fin 128 := 6;
      let shelf : List Word := (BitVec.ofNat 36 0o163150154146 :: (List.replicate 512 (0 : Word)).set 25 (BitVec.ofNat 36 (2 ^ 35)));
      let cap : Nat := 0x2000000; let s : State := shelfState blank;
      s.powered = true ∧ s.acting = true ∧ shelfBusy s (decide (64 ≤ a.val)) = none ∧ s.folio.forward = none ∧
        (s.content.any (fun c => c.nodes.any fun n => n.addr == a.val && n.shelved) = true) ∧
        ((s.node a).any (fun n => n.status.any fun x => x.state == 3 && !x.folio) = true) ∧
        (shelfEntry shelf cap a).isSome = true) ∧
    (let a : Fin 128 := 6; let s : State := shelfState blank;
      s.powered = true ∧ s.acting = true ∧ shelfBusy s (decide (64 ≤ a.val)) = none ∧ s.folio.forward = none ∧
        (s.content.any (fun c => c.nodes.any fun n => n.addr == a.val && n.shelved) = true) ∧
        ((s.node a).any (fun n => n.status.any fun x => x.state == 3 && !x.folio) = true)) ∧
    (let a : Fin 128 := 6; let b : Bool := true;
      let s : State := (let z : State := (olcState' blank .run 0).set R.FOL_CMD_STATUS 1; { z with folio := { z.folio with forward := some (6, true) } });
      s.powered = true ∧ failingRead s = some (some a.val) ∧ s.folio.forward = some (a.val, b) ∧
        s.get R.FOL_CMD_STATUS = 1) :=
  ⟨by decide +kernel, by decide +kernel, by decide +kernel, by decide +kernel, by decide +kernel⟩

/-- States and operands that meet the hypotheses of HandleCommands. -/
theorem witness_HandleCommands :
    (let p : Port := 0; let s : State := handleState blank 1 0 [] false [];
      s.powered = true ∧ s.get (R.HND_PCMD_STATUS p) ≠ 1 ∧ handleRefusal s false = none) ∧
    (let p : Port := 0; let s : State := handleState blank 1 0 [] false [];
      s.powered = true ∧ s.get (R.HND_PCMD_STATUS p) ≠ 1 ∧ handleRefusal s false = none) ∧
    (let p : Port := 0; let s : State := handleState blank 1 0 [] false [];
      s.powered = true ∧ s.get (R.HND_PCMD_STATUS p) ≠ 1 ∧ handleRefusal s true = none) ∧
    (let p : Port := 0; let e : Nat := 3; let s : State := { handleState blank 1 0 [] false [] with dev := .boot };
      s.powered = true ∧ s.get (R.HND_PCMD_STATUS p) ≠ 1 ∧ handleRefusal s false = some e) ∧
    (let p : Port := 0; let s : State := (handleState blank 1 0 [] false []).set (R.HND_PCMD_STATUS p) 1;
      s.powered = true ∧ s.get (R.HND_PCMD_STATUS p) = 1) :=
  ⟨by decide +kernel, by decide +kernel, by decide +kernel, by decide +kernel, by decide +kernel⟩

/-- States and operands that meet the hypotheses of HandleCommands, clauses from the 6th on. -/
theorem witness_HandleCommands_2 :
    (let p : Port := 0; let e : Nat := 3; let s : State := { handleState blank 1 0 [] false [] with dev := .boot };
      s.powered = true ∧ s.get (R.HND_PCMD_STATUS p) ≠ 1 ∧ handleRefusal s false = some e) ∧
    (let p : Port := 0; let s : State := (handleState blank 1 0 [] false []).set (R.HND_PCMD_STATUS p) 1;
      s.powered = true ∧ s.get (R.HND_PCMD_STATUS p) = 1) ∧
    (let p : Port := 0; let e : Nat := 3; let s : State := { handleState blank 1 0 [] false [] with dev := .boot };
      s.powered = true ∧ s.get (R.HND_PCMD_STATUS p) ≠ 1 ∧ handleRefusal s true = some e) ∧
    (let p : Port := 0; let s : State := (handleState blank 1 0 [] false []).set (R.HND_PCMD_STATUS p) 1;
      s.powered = true ∧ s.get (R.HND_PCMD_STATUS p) = 1) ∧
    (let p : Port := 3; let c : HandleCmd := ⟨3, 1, 6, 2 ^ 18, tmrCreate, false⟩; let i : Nat := 0;
      let w : List Word := tmrCreate.drop 2; let s : State := handleState blank 1 (2 ^ 18) tmrCreate false [];
      s.powered = true ∧ (s.handles.cmds.find? (fun x => x.port == p.val && !x.checked) = some c) ∧ c.port = p.val ∧
        c.code = 1 ∧ (checkCreate s c).toOption = some (i, w) ∧ effectNow s ⟨c.cls, i, w, false, false⟩ = true) :=
  ⟨by decide +kernel, by decide +kernel, by decide +kernel, by decide +kernel, by decide +kernel⟩

/-- States and operands that meet the hypotheses of HandleCommands, clauses from the 11th on. -/
theorem witness_HandleCommands_3 :
    (let p : Port := 3;
      let c : HandleCmd := ⟨3, 1, 2, 0, [BitVec.ofNat 36 (2 * 2 ^ 30), BitVec.ofNat 36 (2 * 2 ^ 30 + 6), 0, 0, 0, 0, 0, 0], false⟩;
      let i : Nat := 0; let w : List Word := [0, 0, 0, 0, 0, 0];
      let s : State := let z := (handleState blank 1 0 [] false []); { ((((z.set R.CYC_STAT_CONF 1).set R.CYC_STAT_HALTED 0).set (R.HND_POOL_SIZE 1) 8).set (R.ETH_PCFG_MODE 0) 1) with dev := .run, folio := (withSmall z .run).folio, power := { z.power with pfStep := 0 }, cycle := { z.cycle with classes := z.cycle.classes.setIfInBounds 0 { ClassSt.fresh with phase := .solve } }, handles := ⟨[], [], [⟨3, 1, 2, 0, [BitVec.ofNat 36 (2 * 2 ^ 30), BitVec.ofNat 36 (2 * 2 ^ 30 + 6), 0, 0, 0, 0, 0, 0], false⟩], []⟩ };
      s.powered = true ∧ (s.handles.cmds.find? (fun x => x.port == p.val && !x.checked) = some c) ∧ c.port = p.val ∧
        c.code = 1 ∧ (checkCreate s c).toOption = some (i, w) ∧ effectNow s ⟨c.cls, i, w, false, false⟩ = false) ∧
    (let p : Port := 3; let c : HandleCmd := ⟨3, 2, 6, 1, tmrHandle, false⟩;
      let s : State := handleState blank 2 1 tmrHandle false [];
      s.powered = true ∧ (s.handles.cmds.find? (fun x => x.port == p.val && !x.checked) = some c) ∧ c.port = p.val ∧
        ((if c.code = 1 then (checkCreate s c).toOption.isSome else (checkHandle s c).toOption.isSome) = false)) ∧
    (let p : Port := 3; let c : HandleCmd := ⟨3, 3, 6, 1, tmrHandle, false⟩; let ch : Channel := tmrCh 1 0;
      let s : State := handleState blank 3 1 tmrHandle false [tmrCh 1 0];
      s.powered = true ∧ (s.handles.cmds.find? (fun x => x.port == p.val && !x.checked) = some c) ∧ c.port = p.val ∧
        c.code = 3 ∧ (checkHandle s c).toOption = some ch) ∧
    (let p : Port := 3; let c : HandleCmd := ⟨3, 2, 6, 1, tmrHandle, false⟩; let ch : Channel := tmrCh 1 0;
      let s : State := handleState blank 2 1 tmrHandle false [tmrCh 1 0];
      s.powered = true ∧ (s.handles.cmds.find? (fun x => x.port == p.val && !x.checked) = some c) ∧ c.port = p.val ∧
        c.code = 2 ∧ (checkHandle s c).toOption = some ch ∧ effectNow s ch = true) ∧
    (let p : Port := 3; let c : HandleCmd := ⟨3, 2, 6, 1, tmrHandle, true⟩;
      let s : State := handleState blank 2 1 tmrHandle true [tmrCh 1 0];
      s.powered = true ∧ (s.handles.cmds.find? (fun x => x.port == p.val && x.checked) = some c) ∧ c.port = p.val ∧
        c.code = 2 ∧ effectNow s ((s.channel c.cls c.idx).getD ⟨c.cls, c.idx, c.words, false, false⟩) = true) :=
  ⟨by decide +kernel, by decide +kernel, by decide +kernel, by decide +kernel, by decide +kernel⟩

/-- States and operands that meet the hypotheses of HandleCommands, clauses from the 16th on. -/
theorem witness_HandleCommands_4 :
    (let p : Port := 3; let c : HandleCmd := ⟨3, 1, 6, 1, tmrCreate.drop 2, true⟩;
      let s : State := handleState blank 1 1 (tmrCreate.drop 2) true [];
      s.powered = true ∧ (s.handles.cmds.find? (fun x => x.port == p.val && x.checked) = some c) ∧ c.port = p.val ∧
        c.code = 1 ∧ effectNow s ((s.channel c.cls c.idx).getD ⟨c.cls, c.idx, c.words, false, false⟩) = true) := by
  decide +kernel

/-- States and operands that meet the hypotheses of ExpertPages. -/
theorem witness_ExpertPages :
    (let b : Fin 64 := 0;
      let s : State := let z := (blank); { (((z.set R.SYS_XOPEN_OPEN 0).putBit R.SYS_XPERM_PERM 5 true).set R.SYS_XOPEN_RESULT 0) with dev := .run, unlock := none };
      s.powered = true ∧ b.val < 32 ∧ s.unlock = none) ∧
    (let m : Fin 18 := 0; let b : Fin 64 := 5;
      let s : State := let z := (blank); { (((z.set R.SYS_XOPEN_OPEN 0).putBit R.SYS_XPERM_PERM 5 true).set R.SYS_XOPEN_RESULT 0) with dev := .run, unlock := some ⟨m, b⟩ };
      s.powered = true ∧ b.val < 32 ∧ s.unlock = some ⟨m, b⟩ ∧ s.getBit R.SYS_XPERM_PERM b = true) ∧
    (let m : Fin 18 := 3; let b : Fin 64 := 6;
      let s : State := let z := (blank); { (((z.set R.SYS_XOPEN_OPEN 0).putBit R.SYS_XPERM_PERM 6 false).set R.SYS_XOPEN_RESULT 0) with dev := .run, unlock := some ⟨m, b⟩ };
      s.powered = true ∧ b.val < 32 ∧ s.unlock = some ⟨m, b⟩ ∧ s.getBit R.SYS_XPERM_PERM b = false) ∧
    (let m : Fin 18 := 2; let k : BitVec 12 := 0; let b : Fin 64 := 5; let x : Nat := 1; let y : Nat := 5;
      let s : State := let z := (blank); { (((z.set R.SYS_XOPEN_OPEN 0).putBit R.SYS_XPERM_PERM 5 true).set R.SYS_XOPEN_RESULT 0) with dev := .run, unlock := some ⟨x, y⟩ };
      s.powered = true ∧ b.val < 32 ∧ s.unlock = some ⟨x, y⟩ ∧ (¬(x = m.val ∧ y = b.val ∧ k = 0x555))) ∧
    (let s : State := let z := (blank); { (((z.set R.SYS_XOPEN_OPEN 0).putBit R.SYS_XPERM_PERM 5 true).set R.SYS_XOPEN_RESULT 0) with dev := .run, unlock := some ⟨2, 5⟩ };
      s.powered = true ∧ s.unlock ≠ none) :=
  ⟨by decide +kernel, by decide +kernel, by decide +kernel, by decide +kernel, by decide +kernel⟩

/-- States and operands that meet the hypotheses of ExpertPages, clauses from the 6th on. -/
theorem witness_ExpertPages_2 :
    (let b : Fin 64 := 0;
      let s : State := let z := (blank); { (((z.set R.SYS_XOPEN_OPEN 0).putBit R.SYS_XPERM_PERM 5 true).set R.SYS_XOPEN_RESULT 0) with dev := .run, unlock := none };
      s.powered = true ∧ b.val < 32 ∧ s.unlock = none) ∧
    (let s : State := let y := (let z := (blank); { (((z.set R.SYS_XOPEN_OPEN 0).putBit R.SYS_XPERM_PERM 5 true).set R.SYS_XOPEN_RESULT 0) with dev := .run, unlock := none }); y.putBit R.SYS_XOPEN_OPEN 7 true;
      s.powered = true ∧ s.unlock = none ∧ s.getBit R.SYS_XOPEN_OPEN 7 = true) ∧
    (let b : Fin 64 := 0;
      let s : State := let z := (blank); { (((z.set R.SYS_XOPEN_OPEN 0).putBit R.SYS_XPERM_PERM 5 true).set R.SYS_XOPEN_RESULT 0) with dev := .run, unlock := none };
      s.powered = true ∧ b.val < 32 ∧ s.unlock = none ∧ s.getBit R.SYS_XOPEN_OPEN b = false) ∧
    (let a : BitVec 24 := 0; let s : State := { blank with dev := .run, poison := [] };
      s.powered = true ∧ (regionOf a.toNat).scrubbed = true ∧ s.poisoned a.toNat = false) ∧
    (let a : BitVec 24 := 0; let s : State := { blank with dev := .run };
      s.powered = true ∧ (regionOf a.toNat).scrubbed = true) :=
  ⟨by decide +kernel, by decide +kernel, by decide +kernel, by decide +kernel, by decide +kernel⟩

/-- States and operands that meet the hypotheses of CycleBegins. -/
theorem witness_CycleBegins :
    (let c : Cls := 1; let s : State := cycState blank .idle;
      mayLatch s c = true ∧ (s.cls c).phase = .idle) ∧
    (let c : Cls := 1; let s : State := cycState blank .solve;
      mayLatch s c = true ∧ (s.cls c).phase ≠ .idle) ∧
    (let c : Cls := 1; let s : State := cycState blank .gather;
      cycleOpen s = true ∧ (s.cls c).phase = .gather ∧ gatherDone s c = true ∧ s.flag R.CLK_STAT_STOPPED = false ∧
        s.coreUnits = [] ∧ coresQuiet s = true) ∧
    (let c : Cls := 1; let s : State := cycState blank .gather;
      cycleOpen s = true ∧ (s.cls c).phase = .gather ∧ s.flag R.CLK_STAT_STOPPED = false ∧ s.coreUnits = [] ∧
        coresQuiet s = true) ∧
    (let c : Cls := 1; let u : CoreUnit := { evUnit with event := none };
      let e : SheetEntry := ⟨1, 9, 1, false, false, false, 0, 0, 3, 0x100, 0, 0, 0, []⟩;
      let s : State := (let z : State := cycState blank .gather; { z with imposer := { z.imposer with sheet := [⟨1, 9, 1, false, false, false, 0, 0, 3, 0x100, 0, 0, 0, []⟩] }, folio := { z.folio with content := some { smallContent with cores := [{ evUnit with event := none }] } } });
      cycleOpen s = true ∧ (s.cls c).phase = .gather ∧ gatherDone s c = true ∧ s.standalone = true ∧
        s.flag R.CLK_STAT_STOPPED = false ∧ s.fabricUnits = [] ∧ coresQuiet s = true ∧ s.coreUnits = [u] ∧ u.cls = c ∧
        u.event = none ∧ s.placed 1 u.id false = some e ∧ e.place < 8 ∧ (s.core e.place).task = none ∧
        (s.core e.place).ready = [] ∧ (s.core e.place).preempted = [] ∧ (s.cls c).busUnit = none ∧
        (s.cls c).passesLeft = [] ∧ remoteUnits s c = []) :=
  ⟨by decide +kernel, by decide +kernel, by decide +kernel, by decide +kernel, by decide +kernel⟩

/-- States and operands that meet the hypotheses of CycleBegins, clauses from the 6th on. -/
theorem witness_CycleBegins_2 :
    (let c : Cls := 1; let s : State := cycState blank .solve;
      cycleOpen s = true ∧ (s.cls c).phase = .solve ∧ solveDone s c = true ∧ s.partner = none) ∧
    (let c : Cls := 1; let s : State := cycState blank .late;
      cycleOpen s = true ∧ (s.cls c).phase = .late ∧ solveDone s c = true) ∧
    (let c : Cls := 1; let s : State := cycState blank .scatter;
      cycleOpen s = true ∧ (s.cls c).phase = .scatter) :=
  ⟨by decide +kernel, by decide +kernel, by decide +kernel⟩

/-- States and operands that meet the hypotheses of CommitOrSkip. -/
theorem witness_CommitOrSkip :
    (let c : Cls := 1;
      let s : State := (let z : State := cycState blank .done; z.setCls 1 { z.cls 1 with checked := false });
      cycleOpen s = true ∧ (s.cls c).checked = false ∧ systemChecked s = false ∧ (s.cls c).phase = .done ∧
        (s.cls c).voided = false ∧ (s.cls c).stretchN = 0) ∧
    (let c : Cls := 1; let s : State := cycState blank .solve;
      cycleOpen s = true ∧ (s.cls c).checked = false ∧ systemChecked s = false ∧ (s.cls c).phase = .solve ∧
        (s.cls c).voided = false ∧ (s.cls c).faulted = false ∧ s.get (R.CYC_XPOL_OVRLIM c) = 0 ∧
        s.get (R.CYC_XPOL_OVRPOL c) = 0) ∧
    (let c : Cls := 1;
      let s : State := (let z : State := cycState blank .done; z.setCls 1 { z.cls 1 with stretchN := 1 });
      cycleOpen s = true ∧ systemChecked s = false ∧ (s.cls c).phase = .done ∧ 0 < (s.cls c).stretchN ∧
        (s.cls c).allowed = false ∧ (s.cls c).voided = false) ∧
    (let c : Cls := 1;
      let s : State := ((let z : State := cycState blank .solve; z.setCls 1 { z.cls 1 with stretchN := 1 }).set (R.CYC_XPOL_OVRPOL 1) 1).set (R.CYC_XPOL_SLIM 1) 3;
      cycleOpen s = true ∧ systemChecked s = false ∧ (s.cls c).phase = .solve ∧ 0 < (s.cls c).stretchN ∧
        (s.cls c).allowed = false ∧ (s.cls c).voided = false ∧ s.get (R.CYC_XPOL_OVRPOL c) = 1 ∧
        (s.cls c).stretchN < s.get (R.CYC_XPOL_SLIM c)) ∧
    (let c : Cls := 1; let s : State := cycState blank .late;
      s.cycling = true ∧ (s.cls c).phase = .late ∧ solveDone s c = true ∧ s.cycle.stopDue = false) :=
  ⟨by decide +kernel, by decide +kernel, by decide +kernel, by decide +kernel, by decide +kernel⟩

/-- States and operands that meet the hypotheses of CommitOrSkip, clauses from the 6th on. -/
theorem witness_CommitOrSkip_2 :
    (let c : Cls := 1;
      let s : State := (let z : State := ((cycState blank .done).raise R.CYC_CFG_SYSCHK).raise R.SPN_STAT_ACTING; { z with cycle := { z.cycle with peerOverrun := 0 }, folio := { z.folio with content := some { smallContent with standalone := false } } });
      s.powered = true ∧ s.acting = true ∧ systemChecked s = true ∧ cycleOpen s = true ∧ (s.cls c).phase = .done ∧
        (s.cls c).checked = true ∧ (s.cls c).allowed = false ∧ (s.cls c).voided = false ∧
        s.cycle.peerOverrun.testBit c = false ∧ (s.cls c).stretchN = 0 ∧ reportsIn s c = true ∧ s.dev ≠ .halt) ∧
    (let c : Cls := 1; let h : FrameHead := ⟨3, true, 0, true, 0, 7, 0, 8, true, 1⟩;
      let s : State := (cycState blank .done).set R.SPN_STAT_ACTING 0;
      s.powered = true ∧ s.acting = false ∧ cycleOpen s = true ∧ (spineAccept s 8 h).2 = true ∧
        (s.cls c).phase = .done) ∧
    (let c : Cls := 1;
      let s : State := (let z : State := (((let z : State := cycState blank .done; z.setCls 1 { z.cls 1 with checked := false })).raise R.CYC_CFG_SYSCHK).set R.SPN_STAT_ACTING 0; { z with folio := { z.folio with content := some { smallContent with role := 1, standalone := false } } });
      cycleOpen s = true ∧ (s.cls c).checked = false ∧ systemChecked s = true ∧ s.acting = false ∧
        (s.cls c).phase = .done ∧ (s.cls c).stretchN = 0) ∧
    (let c : Cls := 1;
      let s : State := (let z : State := cycState blank .done; z.setCls 1 { z.cls 1 with allowed := true });
      cycleOpen s = true ∧ s.power.pfStep ≤ 3 ∧ (s.cls c).phase = .done ∧ (s.cls c).checked = true ∧
        (s.cls c).faulted = false ∧ s.getBit R.CYC_STAT_HALTED c = false ∧ s.twin.yieldFrom = none ∧
        (s.cls c).allowed = true ∧ s.cycle.stopping = false ∧ s.cycle.stopDue = false ∧ s.spine.stepDue = 0) ∧
    (let c : Cls := 1;
      let s : State := (let z : State := cycState blank .done; z.setCls 1 { z.cls 1 with voided := true });
      cycleOpen s = true ∧ s.power.pfStep ≤ 3 ∧ (s.cls c).phase = .done ∧ (s.cls c).checked = true ∧
        (s.cls c).faulted = false ∧ s.getBit R.CYC_STAT_HALTED c = false ∧ s.twin.yieldFrom = none ∧
        (s.cls c).allowed = false ∧ (s.cls c).voided = true ∧ s.cycle.stopping = false ∧ s.cycle.stopDue = false ∧
        s.spine.stepDue = 0) :=
  ⟨by decide +kernel, by decide +kernel, by decide +kernel, by decide +kernel, by decide +kernel⟩

/-- States and operands that meet the hypotheses of CommitOrSkip, clauses from the 11th on. -/
theorem witness_CommitOrSkip_3 :
    (let s : State := (let z : State := (cycState blank .idle).raise R.SPN_STAT_ACTING; { z with cycle := { z.cycle with stopping := true } });
      s.acting = true ∧ s.dev = .run ∧ s.cycle.stopping = true) ∧
    (let h : FrameHead := ⟨3, true, 0, true, 0, 7, 0, 8, true, 1⟩;
      let s : State := (let z : State := ((cycState blank .idle).set R.CYC_STAT_CONF 2).set R.CYC_MAJOR_M 32; { z with folio := { z.folio with content := some { smallContent with role := 1, standalone := false } } });
      s.powered = true ∧ (spineAccept s 8 h).2 = true ∧ s.isWorker = true ∧ s.dev = .run ∧ inGap s = true) ∧
    (let h : FrameHead := ⟨3, true, 0, true, 0, 7, 0, 8, true, 1⟩;
      let s : State := (let z : State := (cycState blank .solve); { z with folio := { z.folio with content := some { smallContent with role := 1, standalone := false } } });
      s.powered = true ∧ (spineAccept s 8 h).2 = true ∧ s.isWorker = true ∧ s.dev = .run ∧ inGap s = false) :=
  ⟨by decide +kernel, by decide +kernel, by decide +kernel⟩

/-- States and operands that meet the hypotheses of EventTasks. -/
theorem witness_EventTasks :
    (let e : Fin 32 := 2;
      let s : State := (let z : State := (((cycState blank .idle).set (R.CYC_ETCFG_SRC 2) 1).set (R.CYC_ETCFG_HOST 2) 1); { z with cycle := { z.cycle with events := (Vector.replicate 32 ⟨false, false, false, 0⟩).setIfInBounds 2 ⟨true, false, false, 0⟩ } });
      s.dev = .run ∧ s.get (R.CYC_ETCFG_SRC e) ≠ 0 ∧ s.get (R.CYC_ETCFG_SRC e) ≠ 6 ∧ ((s.event e).ready = true ∨
        (s.event e).running = true)) ∧
    (let e : Fin 32 := 2; let x : Nat := 0; let u : CoreUnit := evUnit; let k : Nat := 3;
      let s : State := (let z : State := (let z : State := (((cycState blank .idle).set (R.CYC_ETCFG_SRC 2) 1).set (R.CYC_ETCFG_HOST 2) 1); { z with cycle := { z.cycle with events := (Vector.replicate 32 ⟨false, false, false, 0⟩).setIfInBounds 2 ⟨false, false, false, 0⟩ } }); { z with imposer := { z.imposer with sheet := [⟨1, 9, 1, false, false, false, 0, 0, 3, 0x100, 0, 0, 0, []⟩] }, folio := { z.folio with content := some { smallContent with cores := [evUnit] } } });
      s.dev = .run ∧ s.get (R.CYC_ETCFG_SRC e) ≠ 0 ∧ s.get (R.CYC_ETCFG_SRC e) ≠ 6 ∧ s.event e = ⟨false, false, false,
        x⟩ ∧ s.coreUnits.find? (·.event == some e.val) = some u ∧ s.coreOf ⟨u.id, s.get (R.CYC_ETCFG_HOST e), some e,
        false⟩ = some k ∧ k < 8 ∧ (s.core k).task = none ∧ (s.core k).ready = [] ∧ (s.core k).preempted = []) ∧
    (let e : Fin 32 := 2; let x : Nat := 0; let u : CoreUnit := evUnit; let k : Nat := 3;
      let r : TaskRef := ⟨5, 3, none, false⟩;
      let s : State := (let z : State := (let z : State := (((cycState blank .idle).set (R.CYC_ETCFG_SRC 2) 1).set (R.CYC_ETCFG_HOST 2) 1); { z with cycle := { z.cycle with events := (Vector.replicate 32 ⟨false, false, false, 0⟩).setIfInBounds 2 ⟨false, false, false, 0⟩ } }); { z with imposer := { z.imposer with sheet := [⟨1, 9, 1, false, false, false, 0, 0, 3, 0x100, 0, 0, 0, []⟩] }, cores := (Vector.replicate 8 Core.fresh).setIfInBounds 3 { Core.fresh with task := some ⟨5, 3, none, false⟩ }, spine := { z.spine with answers := [] }, folio := { z.folio with content := some { smallContent with cores := [evUnit] } } });
      s.dev = .run ∧ s.get (R.CYC_ETCFG_SRC e) ≠ 0 ∧ s.get (R.CYC_ETCFG_SRC e) ≠ 6 ∧ s.event e = ⟨false, false, false,
        x⟩ ∧ s.coreUnits.find? (·.event == some e.val) = some u ∧ s.coreOf ⟨u.id, s.get (R.CYC_ETCFG_HOST e), some e,
        false⟩ = some k ∧ k < 8 ∧ (s.core k).task = some r ∧ (s.core k).ready = [] ∧ taskRank s ⟨u.id,
        s.get (R.CYC_ETCFG_HOST e), some e, false⟩ < taskRank s r ∧ preemptHeld s k = false) ∧
    (let s : State := (let z : State := (((cycState blank .idle).set (R.CYC_ETCFG_SRC 2) 6).set (R.CYC_ETCFG_HOST 2) 1); { z with cycle := { z.cycle with events := (Vector.replicate 32 ⟨false, false, false, 0⟩).setIfInBounds 2 ⟨true, false, false, 0⟩ } });
      s.dev = .run) ∧
    (let k : Fin 8 := 3; let tk : TaskRef := ⟨9, 1, some 2, false⟩;
      let s : State := (let z : State := (cycState blank .solve); { z with cores := (Vector.replicate 8 Core.fresh).setIfInBounds 3 { Core.fresh with task := some ⟨9, 1, some 2, false⟩ } });
      coreRuns s k = true ∧ (s.core k).task = some tk ∧ tk.event.isSome = true) :=
  ⟨by decide +kernel, by decide +kernel, by decide +kernel, by decide +kernel, by decide +kernel⟩

/-- States and operands that meet the hypotheses of EventTasks, clauses from the 6th on. -/
theorem witness_EventTasks_2 :
    (let s : State := ((cycState blank .solve).raise R.DBG_STAT_CONN).raise R.CYC_CFG_HALTOUT;
      s.flag R.DBG_STAT_CONN = true ∧ s.dev = .run ∧ s.power.pfStep = 0 ∧ s.flag R.CYC_CFG_HALTOUT = true) ∧
    (let s : State := ((cycState blank .solve).raise R.DBG_STAT_CONN).set R.CYC_CFG_HALTOUT 0;
      s.flag R.DBG_STAT_CONN = true ∧ s.dev = .run ∧ s.power.pfStep = 0 ∧ s.flag R.CYC_CFG_HALTOUT = false) ∧
    (let s : State := { ((cycState blank .solve).raise R.DBG_STAT_CONN) with dev := .halt };
      s.flag R.DBG_STAT_CONN = true ∧ s.dev = .halt ∧ s.power.pfStep = 0 ∧ coresQuiet s = true) :=
  ⟨by decide +kernel, by decide +kernel, by decide +kernel⟩

/-- States and operands that meet the hypotheses of FabricPasses. -/
theorem witness_FabricPasses :
    (let q : Fin 8 := 2; let p : Pass := (⟨4, 1, .cls⟩ : Pass); let rest : List Pass := [];
      let act : List FabricUnit := []; let st : List FabricUnit := []; let u : FabricUnit := fabUnit;
      let us : UnitSt := fabSt true false;
      let s : State := let z := (((fabState blank .run true false).set R.SYS_STATE_DEFER 0).set R.CLK_STAT_STOPPED 0); z.setQuire 2 ⟨none, none, [(⟨4, 1, .cls⟩ : Pass)], [], []⟩;
      (s.cycling = true ∨ s.dev = .halt) ∧ s.flag R.SYS_STATE_DEFER = false ∧ s.power.pfStep ≤ 3 ∧
        s.flag R.CLK_STAT_STOPPED = false ∧ s.flag (R.FAB_QSTAT_DIS q) = false ∧ s.quire q = ⟨none, none, p :: rest,
        act, st⟩ ∧ s.fabricUnit p.unit = some u ∧ s.unitSt p.unit = some us) ∧
    (let q : Fin 8 := 0;
      let s : State := (((fabState blank .run true false).set R.SYS_STATE_DEFER 0).set R.CLK_STAT_STOPPED 0);
      (s.cycling = true ∨ s.dev = .halt) ∧ s.flag R.SYS_STATE_DEFER = false ∧ s.power.pfStep ≤ 3 ∧
        s.flag R.CLK_STAT_STOPPED = false ∧ (s.quire q).running = none ∧ (s.quire q).waiting = []) ∧
    (let q : Fin 8 := 2; let p : Pass := (⟨4, 1, .cls⟩ : Pass); let new : UnitSt := fabSt false false;
      let old : UnitSt := fabSt true false; let rest : List Pass := []; let act : List FabricUnit := [];
      let st : List FabricUnit := []; let u : FabricUnit := fabUnit;
      let s : State := let z := (fabState blank .run true false); { z.setQuire 2 ⟨some (⟨4, 1, .cls⟩ : Pass), some (fabSt false false), [], [], []⟩ with cycle := { z.cycle with classes := z.cycle.classes.setIfInBounds 1 ClassSt.fresh } };
      (s.cycling = true ∨ s.dev = .halt) ∧ s.quire q = ⟨some p, some new, rest, act, st⟩ ∧
        s.fabricUnit p.unit = some u ∧ s.unitSt p.unit = some old ∧ p.by' = .cls ∧ ((s.cls p.cls).phase ≠ .solve ∧
        (s.cls p.cls).phase ≠ .late ∨ (s.cls p.cls).passesLeft.erase p.unit ≠ []) ∧ new.id = p.unit) ∧
    (let q : Fin 8 := 2; let p : Pass := ⟨4, 1, .core 3 ⟨9, 1, none, false⟩ false⟩;
      let new : UnitSt := fabSt false false; let old : UnitSt := fabSt true false; let rest : List Pass := [];
      let act : List FabricUnit := []; let st : List FabricUnit := []; let u : FabricUnit := fabUnit;
      let k : Nat := 3; let tk : TaskRef := ⟨9, 1, none, false⟩;
      let s : State := let z := (dataState blank .solve false false); let z := { z with fabric := (fabState blank .run true false).fabric, folio := { z.folio with content := some { smallContent with fabrics := [fabUnit] } }, power := { z.power with pfStep := 0 } }; (z.setQuire 2 ⟨some ⟨4, 1, .core 3 ⟨9, 1, none, false⟩ false⟩, some (fabSt false false), [], [], []⟩).setCore 3 { Core.fresh with task := some ⟨9, 1, none, false⟩, wait := .fcall 4, pc := 0x100 };
      s.quire q = ⟨some p, some new, rest, act, st⟩ ∧ s.fabricUnit p.unit = some u ∧ s.unitSt p.unit = some old ∧
        p.by' = .core k tk false ∧ coreRuns s k = true ∧ (s.core k).task = some tk ∧ (s.core k).wait = .fcall p.unit ∧
        new.id = p.unit) ∧
    (let m : BitVec 8 := 5;
      let s : State := (fabState (State.forEach (List.range 8) (fun q z => (z.set (R.FAB_QSTAT_STAGED q) 1).set (R.CYC_PER_TICKS q) 0) (blank.set R.CYC_STAT_CONF 0)) .run true false);
      s.cycling = true ∧ inGap s = true ∧ passesIdle s = true ∧ m ≠ 0 ∧
        (((List.range 8).filter m.toNat.testBit).all (fun q => s.flag (R.FAB_QSTAT_STAGED q)) = true)) :=
  ⟨by decide +kernel, by decide +kernel, by decide +kernel, by decide +kernel, by decide +kernel⟩

/-- States and operands that meet the hypotheses of FabricPasses, clauses from the 6th on. -/
theorem witness_FabricPasses_2 :
    (let m : BitVec 8 := 5; let s : State := ((fabState blank .run true false).set (R.FAB_QSTAT_STAGED 2) 0);
      s.cycling = true ∧
        (((List.range 8).filter m.toNat.testBit).any (fun q => !s.flag (R.FAB_QSTAT_STAGED q)) = true)) ∧
    (let p : Port := 3; let us : UnitSt := ⟨4, [], [⟨0, 5, true, true, 9⟩], [], []⟩;
      let s : State := let z := (((fabState blank .run true false).set (R.FAB_CSEL_KIND 3) 0).set (R.FAB_CSEL_UNIT 3) 4).set (R.FAB_CSEL_INDEX 3) 0; { z with fabric := { z.fabric with units := [⟨4, [], [⟨0, 5, true, true, 9⟩], [], []⟩] } };
      s.powered = true ∧
        portCell s (s.get (R.FAB_CSEL_KIND p)) (s.get (R.FAB_CSEL_UNIT p)) (s.get (R.FAB_CSEL_INDEX p)) = some us ∧
        s.get (R.FAB_CSEL_KIND p) = 0 ∧ us.id = s.get (R.FAB_CSEL_UNIT p)) ∧
    (let p : Port := 3; let us : UnitSt := ⟨4, [], [], [⟨0, none, none, 5, true, true⟩], []⟩;
      let s : State := let z := (((fabState blank .run true false).set (R.FAB_CSEL_KIND 3) 1).set (R.FAB_CSEL_UNIT 3) 4).set (R.FAB_CSEL_INDEX 3) 0; { z with fabric := { z.fabric with units := [⟨4, [], [], [⟨0, none, none, 5, true, true⟩], []⟩] } };
      s.powered = true ∧
        portCell s (s.get (R.FAB_CSEL_KIND p)) (s.get (R.FAB_CSEL_UNIT p)) (s.get (R.FAB_CSEL_INDEX p)) = some us ∧
        s.get (R.FAB_CSEL_KIND p) = 1 ∧ us.id = s.get (R.FAB_CSEL_UNIT p)) ∧
    (let p : Port := 3; let s : State := (fabState blank .run true false).set (R.FAB_CSEL_UNIT 3) 77;
      s.powered = true ∧
        portCell s (s.get (R.FAB_CSEL_KIND p)) (s.get (R.FAB_CSEL_UNIT p)) (s.get (R.FAB_CSEL_INDEX p)) = none) ∧
    (let w : Fin 8 := 4; let s : State := fabState blank .run true false;
      s.powered = true ∧ w.val < 6) :=
  ⟨by decide +kernel, by decide +kernel, by decide +kernel, by decide +kernel, by decide +kernel⟩

/-- States and operands that meet the hypotheses of ReflexPaths. -/
theorem witness_ReflexPaths :
    (let tr : Fin 32 := 8; let r : ReflexUnit := ⟨fabUnit, fabSt true false, 8⟩; let i : Nat := 0;
      let s : State := let z := (fabState blank .run true false); (z.putBit R.FAB_PINLVL_LEVEL 2 true).putBit R.FAB_TRIP_T 8 false;
      tripLeaf s tr = some (r, i) ∧ reflexRuns s (tr.val / 4) = true ∧ tripsFit s = true ∧ tripCause s r i = true ∧
        tripReset s r i = false ∧ 32 ≤ bitsOf (r.unit.reflex.getD (4 * i + 3) 0) 14 7 ∧
        s.getBit R.FAB_TRIP_T tr = false) ∧
    (let tr : Fin 32 := 8; let r : ReflexUnit := ⟨fabUnit, fabSt true false, 8⟩; let i : Nat := 0;
      let pin : Nat := 5;
      let s : State := let z := (fabState blank .run true false); ((z.putBit R.FAB_PINLVL_LEVEL 2 true).putBit R.FAB_TRIP_T 8 false).set R.FAB_PINMODE0_MODES (3 * 2 ^ 10);
      tripLeaf s tr = some (r, i) ∧ reflexRuns s (tr.val / 4) = true ∧ tripsFit s = true ∧ tripCause s r i = true ∧
        s.getBit R.FAB_TRIP_T tr = false ∧
        ((List.range 8).all (fun q => q == tr.val / 4 || (reflexUnits s q).isEmpty) = true) ∧
        reflexUnits s (tr.val / 4) = [r] ∧ r.unit.reflex.length = 4 ∧ tripReset s r i = false ∧
        32 ≤ bitsOf (r.unit.reflex.getD (4 * i + 3) 0) 14 7 ∧ reflexPin r.unit i = some pin ∧ pinMode s pin = 3 ∧
        s.dev ≠ .standby) ∧
    (let tr : Fin 32 := 8; let r : ReflexUnit := ⟨fabUnit, fabSt true true, 8⟩; let i : Nat := 0;
      let s : State := let z := (fabState blank .run true true); ((z.putBit R.FAB_PINLVL_LEVEL 2 false).putBit R.FAB_TRIP_T 8 true).set R.FAB_PINMODE0_MODES 0;
      tripLeaf s tr = some (r, i) ∧ reflexRuns s (tr.val / 4) = true ∧ tripsFit s = true ∧ tripCause s r i = false ∧
        tripReset s r i = true ∧ s.getBit R.FAB_TRIP_T tr = true ∧ reflexDrives s = [] ∧ r.unit.reflex.length = 4) ∧
    (let pin : Fin 24 := 0; let s : State := (fabState blank .run true false).set R.FAB_PINMODE0_MODES 0;
      s.powered = true ∧ (reflexDrives s).contains pin.val = false) ∧
    (let pin : Fin 24 := 0;
      let s : State := let z := (((fabState blank .run true false).set R.FAB_PINMODE0_MODES (2^36-1)).set R.FAB_PINMODE1_MODES 4095); { z with fabric := { z.fabric with drive := 2^24-1 } };
      s.powered = true ∧ s.fabric.drive.testBit pin = true ∧ 2 ≤ pinMode s pin) :=
  ⟨by decide +kernel, by decide +kernel, by decide +kernel, by decide +kernel, by decide +kernel⟩

/-- States and operands that meet the hypotheses of ReflexPaths, clauses from the 6th on. -/
theorem witness_ReflexPaths_2 :
    (let q : Fin 8 := 0; let st : Bool := false; let ofs : BitVec 18 := 0;
      let s : State := let z := (fabState blank .run true false); (z.set (R.FAB_QSTAT_DIS q) 0).set R.FAB_XSCRUB_RATE 0;
      s.powered = true ∧ (s.dev = .load ∨ reflexState s = true) ∧ s.flag (R.FAB_QSTAT_DIS q) = false ∧
        scrubReads s q st ofs.toNat = true) ∧
    (let q : Fin 8 := 0; let st : Bool := false; let ofs : BitVec 18 := 0;
      let s : State := let z := (fabState blank .run true false); (z.set (R.FAB_QSTAT_DIS q) 0).set R.FAB_XSCRUB_RATE 0;
      s.powered = true ∧ (s.dev = .load ∨ reflexState s = true) ∧ s.flag (R.FAB_QSTAT_DIS q) = false ∧
        scrubReads s q st ofs.toNat = true) ∧
    (let q : Fin 8 := 0; let ofs : BitVec 18 := 0;
      let s : State := let z := (fabState blank .run true false); (z.set (R.FAB_QSTAT_DIS q) 0).set R.FAB_XSCRUB_RATE 0;
      s.powered = true ∧ (s.dev = .load ∨ reflexState s = true) ∧ s.flag (R.FAB_QSTAT_DIS q) = false ∧
        scrubReads s q false ofs.toNat = true) ∧
    (let q : Fin 8 := 0; let st : Bool := true; let sg : Bool := false; let ofs : BitVec 18 := 0;
      let s : State := let z := (fabState blank .run true false); (z.set (R.FAB_QSTAT_DIS q) 0).set R.FAB_XSCRUB_RATE 0;
      s.powered = true ∧ (s.dev = .load ∨ reflexState s = true) ∧ s.flag (R.FAB_QSTAT_DIS q) = false ∧
        scrubReads s q st ofs.toNat = true ∧ (st = true ∨ sg = false)) :=
  ⟨by decide +kernel, by decide +kernel, by decide +kernel, by decide +kernel⟩

/-- States and operands that meet the hypotheses of CounterCells. -/
theorem witness_CounterCells :
    (0 < 3 ∧ (⟨2 ^ 35 - 2, some false, some false, 5, false, false⟩ : CounterSt).cv < 2 ^ 35 - 1 ∧
      (⟨2 ^ 35 - 1, some false, some false, 5, false, false⟩ : CounterSt).cv = 2 ^ 35 - 1 ∧
      (⟨-2 ^ 35, some false, some false, 5, false, false⟩ : CounterSt).cv = -2 ^ 35 ∧
      (⟨-2 ^ 35 + 1, some false, some false, 5, false, false⟩ : CounterSt).cv > -2 ^ 35) := by
  decide +kernel

/-- States and operands that meet the hypotheses of CoreMovesAndArithmetic. -/
theorem witness_CoreMovesAndArithmetic :
    (let core : Fin 8 := 3; let cond : Fin 16 := 0; let opnd : BitVec 26 := 0; let s : State := runCore blank 0x2000;
      coreReady s core (instrWord cond 4 opnd) { legal := true } = true) ∧
    (let core : Fin 8 := 3; let cond : Fin 16 := 0; let opnd : BitVec 26 := 0; let s : State := runCore blank 0x2000;
      let d : Nat := opField opnd 22 4;
      coreReady s core (instrWord cond 5 opnd) { legal := opField opnd 18 4 == 0 } = true ∧ d = opField opnd 22 4) ∧
    (let core : Fin 8 := 3; let cond : Fin 16 := 0; let opnd : BitVec 26 := 0; let lit : Word := 5;
      let s : State := runCore blank 0x2000; let md : Nat := opField opnd 0 10;
      coreReady s core (instrWord cond 6 opnd) (checksM opnd lit false (opField opnd 25 1 == 0 && opField opnd 16 6 ==
          0)) = true ∧ md = opField opnd 0 10) ∧
    (let core : Fin 8 := 3; let cond : Fin 16 := 0; let opnd : BitVec 26 := 0; let s : State := runCore blank 0x2000;
      coreReady s core (instrWord cond 2 opnd) { legal := opField opnd 0 16 == 0 && srAssigned (opField opnd 16 6), priv := decide (48 ≤ opField opnd 16 6) } = true) ∧
    (let core : Fin 8 := 3; let cond : Fin 16 := 0; let opnd : BitVec 26 := 0; let s : State := runCore blank 0x2000;
      coreReady s core (instrWord cond 3 opnd) { legal := opField opnd 0 16 == 0 && srAssigned (opField opnd 16 6) && opField opnd 16 6 != 29, priv := decide (48 ≤ opField opnd 16 6) } = true ∧
        (¬(16 ≤ opField opnd 16 6 ∧ opField opnd 16 6 < 24 ∧
        ringLegal ((s.core core).gr (opField opnd 22 4)) = false))) :=
  ⟨by decide +kernel, by decide +kernel, by decide +kernel, by decide +kernel, by decide +kernel⟩

/-- States and operands that meet the hypotheses of CoreMovesAndArithmetic, clauses from the 6th on. -/
theorem witness_CoreMovesAndArithmetic_2 :
    (let core : Fin 8 := 3; let cond : Fin 16 := 0; let opnd : BitVec 26 := 18 * 65536 + 2 * 4194304;
      let s : State := (let z : State := runCore blank 0x2000; z.setCore 3 ((z.core 3).setG 2 0x800000000));
      coreReady s core (instrWord cond 3 opnd) { legal := opField opnd 0 16 == 0 && srAssigned (opField opnd 16 6) && opField opnd 16 6 != 29, priv := decide (48 ≤ opField opnd 16 6) } = true ∧
        16 ≤ opField opnd 16 6 ∧ opField opnd 16 6 < 24 ∧ ringLegal ((s.core core).gr (opField opnd 22 4)) = false) ∧
    (let core : Fin 8 := 3; let cond : Fin 16 := 0; let opnd : BitVec 26 := 0 * 256;
      let s : State := runCore blank 0x2000; let a : Word := (s.core core).gr (opField opnd 18 4);
      let b : Word := (s.core core).gr (opField opnd 14 4);
      coreReady s core (instrWord cond 16 opnd) { legal := opField opnd 0 8 == 0 && decide (opField opnd 8 6 ≤ 33) && (decide (opField opnd 8 6 < 27) || opField opnd 14 4 == 0) && (!aluFlagsOnly (opField opnd 8 6) || opField opnd 22 4 == 0) } = true ∧
        opField opnd 8 6 = 0 ∧ (swBit (s.core core).sw swOVE = false ∨ handlerFree (s.core core) = true) ∧
        a = (s.core core).gr (opField opnd 18 4) ∧ b = (s.core core).gr (opField opnd 14 4)) ∧
    (let core : Fin 8 := 3; let cond : Fin 16 := 0; let opnd : BitVec 26 := 1 * 256;
      let s : State := runCore blank 0x2000; let a : Word := (s.core core).gr (opField opnd 18 4);
      let b : Word := (s.core core).gr (opField opnd 14 4);
      coreReady s core (instrWord cond 16 opnd) { legal := opField opnd 0 8 == 0 && decide (opField opnd 8 6 ≤ 33) && (decide (opField opnd 8 6 < 27) || opField opnd 14 4 == 0) && (!aluFlagsOnly (opField opnd 8 6) || opField opnd 22 4 == 0) } = true ∧
        opField opnd 8 6 = 1 ∧ (swBit (s.core core).sw swOVE = false ∨ handlerFree (s.core core) = true) ∧
        a = (s.core core).gr (opField opnd 18 4) ∧ b = (s.core core).gr (opField opnd 14 4)) ∧
    (let core : Fin 8 := 3; let cond : Fin 16 := 0; let opnd : BitVec 26 := 2 * 256;
      let s : State := runCore blank 0x2000; let a : Word := (s.core core).gr (opField opnd 18 4);
      let b : Word := (s.core core).gr (opField opnd 14 4);
      coreReady s core (instrWord cond 16 opnd) { legal := opField opnd 0 8 == 0 && decide (opField opnd 8 6 ≤ 33) && (decide (opField opnd 8 6 < 27) || opField opnd 14 4 == 0) && (!aluFlagsOnly (opField opnd 8 6) || opField opnd 22 4 == 0) } = true ∧
        opField opnd 8 6 = 2 ∧ (swBit (s.core core).sw swOVE = false ∨ handlerFree (s.core core) = true) ∧
        a = (s.core core).gr (opField opnd 18 4) ∧ b = (s.core core).gr (opField opnd 14 4)) ∧
    (let core : Fin 8 := 3; let cond : Fin 16 := 0; let opnd : BitVec 26 := 7 * 256;
      let s : State := runCore blank 0x2000; let a : Word := (s.core core).gr (opField opnd 18 4);
      let b : Word := (s.core core).gr (opField opnd 14 4);
      coreReady s core (instrWord cond 16 opnd) { legal := opField opnd 0 8 == 0 && decide (opField opnd 8 6 ≤ 33) && (decide (opField opnd 8 6 < 27) || opField opnd 14 4 == 0) && (!aluFlagsOnly (opField opnd 8 6) || opField opnd 22 4 == 0) } = true ∧
        opField opnd 8 6 = 7 ∧ (swBit (s.core core).sw swOVE = false ∨ handlerFree (s.core core) = true) ∧
        a = (s.core core).gr (opField opnd 18 4) ∧ b = (s.core core).gr (opField opnd 14 4)) :=
  ⟨by decide +kernel, by decide +kernel, by decide +kernel, by decide +kernel, by decide +kernel⟩

/-- States and operands that meet the hypotheses of CoreMovesAndArithmetic, clauses from the 11th on. -/
theorem witness_CoreMovesAndArithmetic_3 :
    (let core : Fin 8 := 3; let cond : Fin 16 := 0; let opnd : BitVec 26 := 14 * 256;
      let s : State := runCore blank 0x2000; let a : Word := (s.core core).gr (opField opnd 18 4);
      let b : Word := (s.core core).gr (opField opnd 14 4);
      coreReady s core (instrWord cond 16 opnd) { legal := opField opnd 0 8 == 0 && decide (opField opnd 8 6 ≤ 33) && (decide (opField opnd 8 6 < 27) || opField opnd 14 4 == 0) && (!aluFlagsOnly (opField opnd 8 6) || opField opnd 22 4 == 0) } = true ∧
        opField opnd 8 6 = 14 ∧ (swBit (s.core core).sw swOVE = false ∨ handlerFree (s.core core) = true) ∧
        a = (s.core core).gr (opField opnd 18 4) ∧ b = (s.core core).gr (opField opnd 14 4)) ∧
    (let core : Fin 8 := 3; let cond : Fin 16 := 0; let opnd : BitVec 26 := 17 * 256;
      let s : State := runCore blank 0x2000; let a : Word := (s.core core).gr (opField opnd 18 4);
      let b : Word := (s.core core).gr (opField opnd 14 4);
      coreReady s core (instrWord cond 16 opnd) { legal := opField opnd 0 8 == 0 && decide (opField opnd 8 6 ≤ 33) && (decide (opField opnd 8 6 < 27) || opField opnd 14 4 == 0) && (!aluFlagsOnly (opField opnd 8 6) || opField opnd 22 4 == 0) } = true ∧
        opField opnd 8 6 = 17 ∧ (swBit (s.core core).sw swOVE = false ∨ handlerFree (s.core core) = true) ∧
        a = (s.core core).gr (opField opnd 18 4) ∧ b = (s.core core).gr (opField opnd 14 4) ∧ b = 0) ∧
    (let core : Fin 8 := 3; let cond : Fin 16 := 0; let opnd : BitVec 26 := 256;
      let s : State := runCore blank 0x2000;
      let r : AluRes := aluOp (opField opnd 8 6) ((s.core core).gr (opField opnd 18 4)) ((s.core core).gr (opField opnd 14 4)) (swBit (s.core core).sw swC) (swBit (s.core core).sw swSAT);
      coreReady s core (instrWord cond 16 opnd) { legal := opField opnd 0 8 == 0 && decide (opField opnd 8 6 ≤ 33) && (decide (opField opnd 8 6 < 27) || opField opnd 14 4 == 0) && (!aluFlagsOnly (opField opnd 8 6) || opField opnd 22 4 == 0) } = true ∧
        r = aluOp (opField opnd 8 6) ((s.core core).gr (opField opnd 18 4)) ((s.core core).gr (opField opnd 14 4))
          (swBit (s.core core).sw swC) (swBit (s.core core).sw swSAT) ∧
        (swBit (s.core core).sw swOVE && (r.v == some true && r.traps)) = false) ∧
    (let core : Fin 8 := 3; let cond : Fin 16 := 0; let opnd : BitVec 26 := BitVec.ofNat 26 (5 * 4194304);
      let s : State := (let z : State := runCore blank 0x2000; ({ z with mem := z.mem.wr 9 7 }).setCore 3 { z.core 3 with sw := ((z.core 3).sw &&& 0xFBFF) ||| 0x400, g := (z.core 3).g.setIfInBounds 0 0x400000000 });
      let r : AluRes := aluOp (opField opnd 8 6) ((s.core core).gr (opField opnd 18 4)) ((s.core core).gr (opField opnd 14 4)) (swBit (s.core core).sw swC) (swBit (s.core core).sw swSAT);
      coreReady s core (instrWord cond 16 opnd) { legal := opField opnd 0 8 == 0 && decide (opField opnd 8 6 ≤ 33) && (decide (opField opnd 8 6 < 27) || opField opnd 14 4 == 0) && (!aluFlagsOnly (opField opnd 8 6) || opField opnd 22 4 == 0) } = true ∧
        r = aluOp (opField opnd 8 6) ((s.core core).gr (opField opnd 18 4)) ((s.core core).gr (opField opnd 14 4))
          (swBit (s.core core).sw swC) (swBit (s.core core).sw swSAT) ∧ swBit (s.core core).sw swOVE = true ∧
        ((r.v == some true && r.traps)) = true ∧ handlerFree (s.core core) = true) ∧
    (let core : Fin 8 := 3; let cond : Fin 16 := 0; let opnd : BitVec 26 := 0; let s : State := runCore blank 0x2000;
      let r : AluRes := aluOp (opField opnd 12 6) ((s.core core).gr (opField opnd 18 4)) ((opnd.extractLsb' 0 12).signExtend 36) (swBit (s.core core).sw swC) (swBit (s.core core).sw swSAT);
      coreReady s core (instrWord cond 17 opnd) { legal := decide (opField opnd 12 6 ≤ 26) && (!aluFlagsOnly (opField opnd 12 6) || opField opnd 22 4 == 0) } = true ∧
        r = aluOp (opField opnd 12 6) ((s.core core).gr (opField opnd 18 4)) ((opnd.extractLsb' 0 12).signExtend 36)
          (swBit (s.core core).sw swC) (swBit (s.core core).sw swSAT) ∧
        (swBit (s.core core).sw swOVE && (r.v == some true && r.traps)) = false) :=
  ⟨by decide +kernel, by decide +kernel, by decide +kernel, by decide +kernel, by decide +kernel⟩

/-- States and operands that meet the hypotheses of CoreMovesAndArithmetic, clauses from the 16th on. -/
theorem witness_CoreMovesAndArithmetic_4 :
    (let core : Fin 8 := 3; let cond : Fin 16 := 0;
      let opnd : BitVec 26 := BitVec.ofNat 26 (5 * 4194304 + 2 * 4096 + 1);
      let s : State := (let z : State := runCore blank 0x2000; ({ z with mem := z.mem.wr 9 7 }).setCore 3 { z.core 3 with sw := ((z.core 3).sw &&& 0xFBFF) ||| 0x400, g := (z.core 3).g.setIfInBounds 0 0x800000000 });
      let r : AluRes := aluOp (opField opnd 12 6) ((s.core core).gr (opField opnd 18 4)) ((opnd.extractLsb' 0 12).signExtend 36) (swBit (s.core core).sw swC) (swBit (s.core core).sw swSAT);
      coreReady s core (instrWord cond 17 opnd) { legal := decide (opField opnd 12 6 ≤ 26) && (!aluFlagsOnly (opField opnd 12 6) || opField opnd 22 4 == 0) } = true ∧
        r = aluOp (opField opnd 12 6) ((s.core core).gr (opField opnd 18 4)) ((opnd.extractLsb' 0 12).signExtend 36)
          (swBit (s.core core).sw swC) (swBit (s.core core).sw swSAT) ∧ swBit (s.core core).sw swOVE = true ∧
        ((r.v == some true && r.traps)) = true ∧ handlerFree (s.core core) = true) ∧
    (let core : Fin 8 := 3; let cond : Fin 16 := 0; let opnd : BitVec 26 := 897; let lit : Word := 0;
      let s : State := runCore blank 0x2000; let md : Nat := opField opnd 0 10;
      let r : AluRes := aluOp (opField opnd 12 6) ((s.core core).gr (opField opnd 18 4)) lit (swBit (s.core core).sw swC) (swBit (s.core core).sw swSAT);
      coreReady s core (instrWord cond 18 opnd) (checksRM opnd lit (decide (opField opnd 12 6 ≤ 26) && (!aluFlagsOnly
          (opField opnd 12 6) || opField opnd 22 4 == 0))) = true ∧ md = opField opnd 0 10 ∧ mdImmediate md = true ∧
        r = aluOp (opField opnd 12 6) ((s.core core).gr (opField opnd 18 4)) lit (swBit (s.core core).sw swC) (swBit
          (s.core core).sw swSAT) ∧ (swBit (s.core core).sw swOVE && (r.v == some true && r.traps)) = false) ∧
    (let core : Fin 8 := 3; let cond : Fin 16 := 0;
      let opnd : BitVec 26 := BitVec.ofNat 26 (5 * 4194304 + 14 * 4096 + 897); let lit : Word := 9;
      let s : State := (let z : State := runCore blank 0x2000; ({ z with mem := z.mem.wr 9 7 }).setCore 3 { z.core 3 with sw := ((z.core 3).sw &&& 0xFBFF) ||| 0x400, g := (z.core 3).g.setIfInBounds 0 0x400000000 });
      let md : Nat := opField opnd 0 10;
      let r : AluRes := aluOp (opField opnd 12 6) ((s.core core).gr (opField opnd 18 4)) lit (swBit (s.core core).sw swC) (swBit (s.core core).sw swSAT);
      coreReady s core (instrWord cond 18 opnd) (checksRM opnd lit (decide (opField opnd 12 6 ≤ 26) && (!aluFlagsOnly
          (opField opnd 12 6) || opField opnd 22 4 == 0))) = true ∧ md = opField opnd 0 10 ∧ mdImmediate md = true ∧
        r = aluOp (opField opnd 12 6) ((s.core core).gr (opField opnd 18 4)) lit (swBit (s.core core).sw swC) (swBit
          (s.core core).sw swSAT) ∧ swBit (s.core core).sw swOVE = true ∧ ((r.v == some true && r.traps)) = true ∧
        handlerFree (s.core core) = true) ∧
    (let core : Fin 8 := 3; let cond : Fin 16 := 0; let opnd : BitVec 26 := 896; let lit : Word := 5;
      let s : State := (let z : State := (runCore blank 0x2000).raise (R.SPN_RSEL_EN 3); { z with spine := { z.spine with answers := (List.range 6).map fun i => (3, 0x800005 + i, some (BitVec.ofNat 36 (77 + i))) } });
      let md : Nat := opField opnd 0 10; let a : Nat := (s.core core).ea (opField opnd 0 10) lit;
      let w : Word := (loadGives s core a).getD 0;
      let r : AluRes := aluOp (opField opnd 12 6) ((s.core core).gr (opField opnd 18 4)) w (swBit (s.core core).sw swC) (swBit (s.core core).sw swSAT);
      coreReady s core (instrWord cond 18 opnd) (checksRM opnd lit (decide (opField opnd 12 6 ≤ 26) && (!aluFlagsOnly
          (opField opnd 12 6) || opField opnd 22 4 == 0))) = true ∧ md = opField opnd 0 10 ∧ mdImmediate md = false ∧
        a = (s.core core).ea md lit ∧ loadGives s core a = some w ∧
        r = aluOp (opField opnd 12 6) ((s.core core).gr (opField opnd 18 4)) w (swBit (s.core core).sw swC) (swBit
          (s.core core).sw swSAT) ∧ (swBit (s.core core).sw swOVE && (r.v == some true && r.traps)) = false) ∧
    (let core : Fin 8 := 3; let cond : Fin 16 := 0;
      let opnd : BitVec 26 := BitVec.ofNat 26 (5 * 4194304 + 14 * 4096 + 896); let lit : Word := 9;
      let s : State := (let z : State := (let z : State := (runCore blank 0x2000).raise (R.SPN_RSEL_EN 3); { z with spine := { z.spine with answers := (List.range 6).map fun i => (3, 0x800005 + i, some (BitVec.ofNat 36 (77 + i))) } }); ({ z with mem := z.mem.wr 9 7 }).setCore 3 { z.core 3 with sw := ((z.core 3).sw &&& 0xFBFF) ||| 0x400, g := (z.core 3).g.setIfInBounds 0 0x400000000 });
      let md : Nat := opField opnd 0 10; let a : Nat := (s.core core).ea (opField opnd 0 10) lit;
      let w : Word := (loadGives s core a).getD 0;
      let r : AluRes := aluOp (opField opnd 12 6) ((s.core core).gr (opField opnd 18 4)) w (swBit (s.core core).sw swC) (swBit (s.core core).sw swSAT);
      coreReady s core (instrWord cond 18 opnd) (checksRM opnd lit (decide (opField opnd 12 6 ≤ 26) && (!aluFlagsOnly
          (opField opnd 12 6) || opField opnd 22 4 == 0))) = true ∧ md = opField opnd 0 10 ∧ mdImmediate md = false ∧
        a = (s.core core).ea md lit ∧ loadGives s core a = some w ∧
        r = aluOp (opField opnd 12 6) ((s.core core).gr (opField opnd 18 4)) w (swBit (s.core core).sw swC) (swBit
          (s.core core).sw swSAT) ∧ swBit (s.core core).sw swOVE = true ∧ ((r.v == some true && r.traps)) = true ∧
        handlerFree (s.core core) = true) :=
  ⟨by decide +kernel, by decide +kernel, by decide +kernel, by decide +kernel, by decide +kernel⟩

/-- States and operands that meet the hypotheses of CoreMovesAndArithmetic, clauses from the 21th on. -/
theorem witness_CoreMovesAndArithmetic_5 :
    (let core : Fin 8 := 3; let cond : Fin 16 := 0; let opnd : BitVec 26 := 0; let s : State := runCore blank 0x2000;
      let fn : Nat := opField opnd 8 6; let a : Nat := opField opnd 18 4; let b : Nat := opField opnd 14 4;
      let d : Nat := opField opnd 22 4;
      let r : PairRes := daluOp fn ((s.core core).gr a) ((s.core core).gr (a + 1)) ((s.core core).gr b) ((s.core core).gr (b + 1));
      coreReady s core (instrWord cond 19 opnd) { legal := opField opnd 0 8 == 0 && daluLegal (opField opnd 8 6) (opField opnd 22 4) (opField opnd 18 4) (opField opnd 14 4) } = true ∧
        fn = opField opnd 8 6 ∧ a = opField opnd 18 4 ∧ b = opField opnd 14 4 ∧ d = opField opnd 22 4 ∧
        r = daluOp fn ((s.core core).gr a) ((s.core core).gr (a + 1)) ((s.core core).gr b) ((s.core core).gr (b + 1))
          ∧ (swBit (s.core core).sw swOVE && r.flags.v == some true) = false) ∧
    (let core : Fin 8 := 3; let cond : Fin 16 := 0; let opnd : BitVec 26 := 0;
      let s : State := (let z : State := runCore blank 0x2000; ({ z with mem := z.mem.wr 9 7 }).setCore 3 { z.core 3 with sw := ((z.core 3).sw &&& 0xFBFF) ||| 0x400, g := (z.core 3).g.setIfInBounds 0 0x400000000 });
      let fn : Nat := opField opnd 8 6; let a : Nat := opField opnd 18 4; let b : Nat := opField opnd 14 4;
      let d : Nat := opField opnd 22 4;
      let r : PairRes := daluOp fn ((s.core core).gr a) ((s.core core).gr (a + 1)) ((s.core core).gr b) ((s.core core).gr (b + 1));
      coreReady s core (instrWord cond 19 opnd) { legal := opField opnd 0 8 == 0 && daluLegal (opField opnd 8 6) (opField opnd 22 4) (opField opnd 18 4) (opField opnd 14 4) } = true ∧
        fn = opField opnd 8 6 ∧ a = opField opnd 18 4 ∧ b = opField opnd 14 4 ∧ d = opField opnd 22 4 ∧
        r = daluOp fn ((s.core core).gr a) ((s.core core).gr (a + 1)) ((s.core core).gr b) ((s.core core).gr (b + 1))
          ∧ swBit (s.core core).sw swOVE = true ∧ (r.flags.v == some true) = true ∧ handlerFree (s.core core) = true) ∧
    (let core : Fin 8 := 3; let cond : Fin 16 := 0; let opnd : BitVec 26 := 0; let s : State := runCore blank 0x2000;
      let r : FRes := fOp (opField opnd 8 6) ((s.core core).gr (opField opnd 18 4)) ((s.core core).gr (opField opnd 14 4));
      coreReady s core (instrWord cond 20 opnd) { legal := opField opnd 0 8 == 0 && decide (opField opnd 8 6 ≤ 13) && (!faluUnary (opField opnd 8 6) || opField opnd 14 4 == 0) && (opField opnd 8 6 != 5 || opField opnd 22 4 == 0) } = true ∧
        opField opnd 8 6 ≠ 5 ∧
        r = fOp (opField opnd 8 6) ((s.core core).gr (opField opnd 18 4)) ((s.core core).gr (opField opnd 14 4)) ∧
        (swBit (s.core core).sw swOVE && (r.nv || r.dz || r.ov)) = false) ∧
    (let core : Fin 8 := 3; let cond : Fin 16 := 0;
      let opnd : BitVec 26 := BitVec.ofNat 26 (5 * 4194304 + 1 * 16384 + 3 * 256);
      let s : State := (let z : State := runCore blank 0x2000; ({ z with mem := z.mem.wr 9 7 }).setCore 3 { z.core 3 with sw := ((z.core 3).sw &&& 0xFBFF) ||| 0x400, g := ((z.core 3).g.setIfInBounds 0 0x400000000).setIfInBounds 1 0 });
      let r : FRes := fOp (opField opnd 8 6) ((s.core core).gr (opField opnd 18 4)) ((s.core core).gr (opField opnd 14 4));
      coreReady s core (instrWord cond 20 opnd) { legal := opField opnd 0 8 == 0 && decide (opField opnd 8 6 ≤ 13) && (!faluUnary (opField opnd 8 6) || opField opnd 14 4 == 0) && (opField opnd 8 6 != 5 || opField opnd 22 4 == 0) } = true ∧
        opField opnd 8 6 ≠ 5 ∧
        r = fOp (opField opnd 8 6) ((s.core core).gr (opField opnd 18 4)) ((s.core core).gr (opField opnd 14 4)) ∧
        swBit (s.core core).sw swOVE = true ∧ ((r.nv || r.dz || r.ov)) = true ∧ handlerFree (s.core core) = true) ∧
    (let core : Fin 8 := 3; let cond : Fin 16 := 0; let opnd : BitVec 26 := 5 * 256;
      let s : State := runCore blank 0x2000;
      let r : Bool × Bool × Bool × Bool := fCmp ((s.core core).gr (opField opnd 18 4)) ((s.core core).gr (opField opnd 14 4));
      coreReady s core (instrWord cond 20 opnd) { legal := opField opnd 0 8 == 0 && opField opnd 22 4 == 0 } = true ∧
        opField opnd 8 6 = 5 ∧
        r = fCmp ((s.core core).gr (opField opnd 18 4)) ((s.core core).gr (opField opnd 14 4)) ∧
        (swBit (s.core core).sw swOVE && r.2.2.2) = false) :=
  ⟨by decide +kernel, by decide +kernel, by decide +kernel, by decide +kernel, by decide +kernel⟩

/-- States and operands that meet the hypotheses of CoreMovesAndArithmetic, clauses from the 26th on. -/
theorem witness_CoreMovesAndArithmetic_6 :
    (let core : Fin 8 := 3; let cond : Fin 16 := 0; let opnd : BitVec 26 := BitVec.ofNat 26 (5 * 256);
      let s : State := (let z : State := runCore blank 0x2000; ({ z with mem := z.mem.wr 9 7 }).setCore 3 { z.core 3 with sw := ((z.core 3).sw &&& 0xFBFF) ||| 0x400, g := (z.core 3).g.setIfInBounds 0 0x7FC000001 });
      let r : Bool × Bool × Bool × Bool := fCmp ((s.core core).gr (opField opnd 18 4)) ((s.core core).gr (opField opnd 14 4));
      coreReady s core (instrWord cond 20 opnd) { legal := opField opnd 0 8 == 0 && opField opnd 22 4 == 0 } = true ∧
        opField opnd 8 6 = 5 ∧
        r = fCmp ((s.core core).gr (opField opnd 18 4)) ((s.core core).gr (opField opnd 14 4)) ∧
        swBit (s.core core).sw swOVE = true ∧ (r.2.2.2) = true ∧ handlerFree (s.core core) = true) ∧
    (let core : Fin 8 := 3; let cond : Fin 16 := 0; let opnd : BitVec 26 := 897; let lit : Word := 0;
      let s : State := runCore blank 0x2000; let md : Nat := opField opnd 0 10;
      let r : FRes := fOp (opField opnd 12 6) ((s.core core).gr (opField opnd 18 4)) lit;
      coreReady s core (instrWord cond 21 opnd) (checksRM opnd lit (decide (opField opnd 12 6 ≤ 13) && !faluUnary
          (opField opnd 12 6) && (opField opnd 12 6 != 5 || opField opnd 22 4 == 0))) = true ∧ opField opnd 12 6 ≠ 5 ∧
        md = opField opnd 0 10 ∧ mdImmediate md = true ∧
        r = fOp (opField opnd 12 6) ((s.core core).gr (opField opnd 18 4)) lit ∧
        (swBit (s.core core).sw swOVE && (r.nv || r.dz || r.ov)) = false) ∧
    (let core : Fin 8 := 3; let cond : Fin 16 := 0;
      let opnd : BitVec 26 := BitVec.ofNat 26 (5 * 4194304 + 0 * 4096 + 897); let lit : Word := 9;
      let s : State := (let z : State := runCore blank 0x2000; ({ z with mem := z.mem.wr 9 7 }).setCore 3 { z.core 3 with sw := ((z.core 3).sw &&& 0xFBFF) ||| 0x400, g := (z.core 3).g.setIfInBounds 0 0x7FC000001 });
      let md : Nat := opField opnd 0 10;
      let r : FRes := fOp (opField opnd 12 6) ((s.core core).gr (opField opnd 18 4)) lit;
      coreReady s core (instrWord cond 21 opnd) (checksRM opnd lit (decide (opField opnd 12 6 ≤ 13) && !faluUnary
          (opField opnd 12 6) && (opField opnd 12 6 != 5 || opField opnd 22 4 == 0))) = true ∧ opField opnd 12 6 ≠ 5 ∧
        md = opField opnd 0 10 ∧ mdImmediate md = true ∧
        r = fOp (opField opnd 12 6) ((s.core core).gr (opField opnd 18 4)) lit ∧ swBit (s.core core).sw swOVE = true ∧
        ((r.nv || r.dz || r.ov)) = true ∧ handlerFree (s.core core) = true) ∧
    (let core : Fin 8 := 3; let cond : Fin 16 := 0; let opnd : BitVec 26 := 896; let lit : Word := 5;
      let s : State := (let z : State := (runCore blank 0x2000).raise (R.SPN_RSEL_EN 3); { z with spine := { z.spine with answers := (List.range 6).map fun i => (3, 0x800005 + i, some (BitVec.ofNat 36 (77 + i))) } });
      let md : Nat := opField opnd 0 10; let a : Nat := (s.core core).ea (opField opnd 0 10) lit;
      let w : Word := (loadGives s core a).getD 0;
      let r : FRes := fOp (opField opnd 12 6) ((s.core core).gr (opField opnd 18 4)) w;
      coreReady s core (instrWord cond 21 opnd) (checksRM opnd lit (decide (opField opnd 12 6 ≤ 13) && !faluUnary
          (opField opnd 12 6) && (opField opnd 12 6 != 5 || opField opnd 22 4 == 0))) = true ∧ opField opnd 12 6 ≠ 5 ∧
        md = opField opnd 0 10 ∧ mdImmediate md = false ∧ a = (s.core core).ea md lit ∧ loadGives s core a = some w ∧
        r = fOp (opField opnd 12 6) ((s.core core).gr (opField opnd 18 4)) w ∧
        (swBit (s.core core).sw swOVE && (r.nv || r.dz || r.ov)) = false) ∧
    (let core : Fin 8 := 3; let cond : Fin 16 := 0;
      let opnd : BitVec 26 := BitVec.ofNat 26 (5 * 4194304 + 0 * 4096 + 896); let lit : Word := 9;
      let s : State := (let z : State := (let z : State := (runCore blank 0x2000).raise (R.SPN_RSEL_EN 3); { z with spine := { z.spine with answers := (List.range 6).map fun i => (3, 0x800005 + i, some (BitVec.ofNat 36 (77 + i))) } }); ({ z with mem := z.mem.wr 9 7 }).setCore 3 { z.core 3 with sw := ((z.core 3).sw &&& 0xFBFF) ||| 0x400, g := (z.core 3).g.setIfInBounds 0 0x7FC000001 });
      let md : Nat := opField opnd 0 10; let a : Nat := (s.core core).ea (opField opnd 0 10) lit;
      let w : Word := (loadGives s core a).getD 0;
      let r : FRes := fOp (opField opnd 12 6) ((s.core core).gr (opField opnd 18 4)) w;
      coreReady s core (instrWord cond 21 opnd) (checksRM opnd lit (decide (opField opnd 12 6 ≤ 13) && !faluUnary
          (opField opnd 12 6) && (opField opnd 12 6 != 5 || opField opnd 22 4 == 0))) = true ∧ opField opnd 12 6 ≠ 5 ∧
        md = opField opnd 0 10 ∧ mdImmediate md = false ∧ a = (s.core core).ea md lit ∧ loadGives s core a = some w ∧
        r = fOp (opField opnd 12 6) ((s.core core).gr (opField opnd 18 4)) w ∧ swBit (s.core core).sw swOVE = true ∧
        ((r.nv || r.dz || r.ov)) = true ∧ handlerFree (s.core core) = true) :=
  ⟨by decide +kernel, by decide +kernel, by decide +kernel, by decide +kernel, by decide +kernel⟩

/-- States and operands that meet the hypotheses of CoreMovesAndArithmetic, clauses from the 31th on. -/
theorem witness_CoreMovesAndArithmetic_7 :
    (let core : Fin 8 := 3; let cond : Fin 16 := 0; let opnd : BitVec 26 := 5 * 4096 + 896; let lit : Word := 5;
      let s : State := (let z : State := (runCore blank 0x2000).raise (R.SPN_RSEL_EN 3); { z with spine := { z.spine with answers := (List.range 6).map fun i => (3, 0x800005 + i, some (BitVec.ofNat 36 (77 + i))) } });
      let md : Nat := opField opnd 0 10; let a : Nat := (s.core core).ea (opField opnd 0 10) lit;
      let w : Word := (loadGives s core a).getD 0;
      let r : Bool × Bool × Bool × Bool := fCmp ((s.core core).gr (opField opnd 18 4)) w;
      coreReady s core (instrWord cond 21 opnd) (checksRM opnd lit (decide (opField opnd 12 6 ≤ 13) && !faluUnary
          (opField opnd 12 6) && (opField opnd 12 6 != 5 || opField opnd 22 4 == 0))) = true ∧ opField opnd 12 6 = 5 ∧
        md = opField opnd 0 10 ∧ mdImmediate md = false ∧ a = (s.core core).ea md lit ∧ loadGives s core a = some w ∧
        r = fCmp ((s.core core).gr (opField opnd 18 4)) w ∧ (swBit (s.core core).sw swOVE && r.2.2.2) = false) ∧
    (let core : Fin 8 := 3; let cond : Fin 16 := 0; let opnd : BitVec 26 := BitVec.ofNat 26 (5 * 4096 + 896);
      let lit : Word := 9;
      let s : State := (let z : State := (let z : State := (runCore blank 0x2000).raise (R.SPN_RSEL_EN 3); { z with spine := { z.spine with answers := (List.range 6).map fun i => (3, 0x800005 + i, some (BitVec.ofNat 36 (77 + i))) } }); ({ z with mem := z.mem.wr 9 7 }).setCore 3 { z.core 3 with sw := ((z.core 3).sw &&& 0xFBFF) ||| 0x400, g := (z.core 3).g.setIfInBounds 0 0x7FC000001 });
      let md : Nat := opField opnd 0 10; let a : Nat := (s.core core).ea (opField opnd 0 10) lit;
      let w : Word := (loadGives s core a).getD 0;
      let r : Bool × Bool × Bool × Bool := fCmp ((s.core core).gr (opField opnd 18 4)) w;
      coreReady s core (instrWord cond 21 opnd) (checksRM opnd lit (decide (opField opnd 12 6 ≤ 13) && !faluUnary
          (opField opnd 12 6) && (opField opnd 12 6 != 5 || opField opnd 22 4 == 0))) = true ∧ opField opnd 12 6 = 5 ∧
        md = opField opnd 0 10 ∧ mdImmediate md = false ∧ a = (s.core core).ea md lit ∧ loadGives s core a = some w ∧
        r = fCmp ((s.core core).gr (opField opnd 18 4)) w ∧ swBit (s.core core).sw swOVE = true ∧ (r.2.2.2) = true ∧
        handlerFree (s.core core) = true) ∧
    (let core : Fin 8 := 3; let cond : Fin 16 := 0; let opnd : BitVec 26 := 5 * 4096 + 897; let lit : Word := 0;
      let s : State := runCore blank 0x2000; let md : Nat := opField opnd 0 10;
      let r : Bool × Bool × Bool × Bool := fCmp ((s.core core).gr (opField opnd 18 4)) lit;
      coreReady s core (instrWord cond 21 opnd) (checksRM opnd lit (decide (opField opnd 12 6 ≤ 13) && !faluUnary
          (opField opnd 12 6) && (opField opnd 12 6 != 5 || opField opnd 22 4 == 0))) = true ∧ opField opnd 12 6 = 5 ∧
        md = opField opnd 0 10 ∧ mdImmediate md = true ∧ r = fCmp ((s.core core).gr (opField opnd 18 4)) lit ∧
        (swBit (s.core core).sw swOVE && r.2.2.2) = false) ∧
    (let core : Fin 8 := 3; let cond : Fin 16 := 0; let opnd : BitVec 26 := BitVec.ofNat 26 (5 * 4096 + 897);
      let lit : Word := 9;
      let s : State := (let z : State := runCore blank 0x2000; ({ z with mem := z.mem.wr 9 7 }).setCore 3 { z.core 3 with sw := ((z.core 3).sw &&& 0xFBFF) ||| 0x400, g := (z.core 3).g.setIfInBounds 0 0x7FC000001 });
      let md : Nat := opField opnd 0 10;
      let r : Bool × Bool × Bool × Bool := fCmp ((s.core core).gr (opField opnd 18 4)) lit;
      coreReady s core (instrWord cond 21 opnd) (checksRM opnd lit (decide (opField opnd 12 6 ≤ 13) && !faluUnary
          (opField opnd 12 6) && (opField opnd 12 6 != 5 || opField opnd 22 4 == 0))) = true ∧ opField opnd 12 6 = 5 ∧
        md = opField opnd 0 10 ∧ mdImmediate md = true ∧ r = fCmp ((s.core core).gr (opField opnd 18 4)) lit ∧
        swBit (s.core core).sw swOVE = true ∧ (r.2.2.2) = true ∧ handlerFree (s.core core) = true) ∧
    (let core : Fin 8 := 3; let cond : Fin 16 := 0; let opnd : BitVec 26 := 0; let s : State := runCore blank 0x2000;
      let an : Nat := opField opnd 24 2;
      let r : AccRes := macOp (opField opnd 6 6) ((s.core core).acc an) ((s.core core).acc (opField opnd 16 4 % 4)) ((s.core core).gr (opField opnd 20 4)) ((s.core core).gr (opField opnd 16 4));
      coreReady s core (instrWord cond 24 opnd) { legal := opField opnd 0 6 == 0 && macLegal (opField opnd 6 6) (opField opnd 20 4) (opField opnd 16 4) (opField opnd 12 4) } = true ∧
        opField opnd 6 6 < 6 ∧ an = opField opnd 24 2 ∧
        r = macOp (opField opnd 6 6) ((s.core core).acc an) ((s.core core).acc (opField opnd 16 4 % 4)) ((s.core
          core).gr (opField opnd 20 4)) ((s.core core).gr (opField opnd 16 4)) ∧
        (swBit (s.core core).sw swOVE && (r.flags.v == some true && r.flags.traps)) = false) :=
  ⟨by decide +kernel, by decide +kernel, by decide +kernel, by decide +kernel, by decide +kernel⟩

/-- States and operands that meet the hypotheses of CoreMovesAndArithmetic, clauses from the 36th on. -/
theorem witness_CoreMovesAndArithmetic_8 :
    (let core : Fin 8 := 3; let cond : Fin 16 := 0; let opnd : BitVec 26 := BitVec.ofNat 26 0;
      let s : State := (let z : State := runCore blank 0x2000; ({ z with mem := z.mem.wr 9 7 }).setCore 3 { z.core 3 with sw := ((z.core 3).sw &&& 0xFBFF) ||| 0x400, a := (z.core 3).a.setIfInBounds 0 (BitVec.ofNat 80 (2 ^ 79 - 1)), g := (z.core 3).g.setIfInBounds 0 2 });
      let an : Nat := opField opnd 24 2;
      let r : AccRes := macOp (opField opnd 6 6) ((s.core core).acc an) ((s.core core).acc (opField opnd 16 4 % 4)) ((s.core core).gr (opField opnd 20 4)) ((s.core core).gr (opField opnd 16 4));
      coreReady s core (instrWord cond 24 opnd) { legal := opField opnd 0 6 == 0 && macLegal (opField opnd 6 6) (opField opnd 20 4) (opField opnd 16 4) (opField opnd 12 4) } = true ∧
        opField opnd 6 6 < 6 ∧ an = opField opnd 24 2 ∧
        r = macOp (opField opnd 6 6) ((s.core core).acc an) ((s.core core).acc (opField opnd 16 4 % 4)) ((s.core
          core).gr (opField opnd 20 4)) ((s.core core).gr (opField opnd 16 4)) ∧ swBit (s.core core).sw swOVE = true ∧
        ((r.flags.v == some true && r.flags.traps)) = true ∧ handlerFree (s.core core) = true) ∧
    (let core : Fin 8 := 3; let cond : Fin 16 := 0; let opnd : BitVec 26 := 7 * 64;
      let s : State := runCore blank 0x2000;
      let r : AluRes := accExtract (opField opnd 6 6 == 6) ((s.core core).acc (opField opnd 24 2)) (swBit (s.core core).sw swSAT);
      coreReady s core (instrWord cond 24 opnd) { legal := opField opnd 0 6 == 0 && macLegal (opField opnd 6 6) (opField opnd 20 4) (opField opnd 16 4) (opField opnd 12 4) } = true ∧
        6 ≤ opField opnd 6 6 ∧
        r = accExtract (opField opnd 6 6 == 6) ((s.core core).acc (opField opnd 24 2)) (swBit (s.core core).sw swSAT)
          ∧ (swBit (s.core core).sw swOVE && (r.v == some true && r.traps)) = false) ∧
    (let core : Fin 8 := 3; let cond : Fin 16 := 0; let opnd : BitVec 26 := BitVec.ofNat 26 (7 * 64);
      let s : State := (let z : State := runCore blank 0x2000; ({ z with mem := z.mem.wr 9 7 }).setCore 3 { z.core 3 with sw := ((z.core 3).sw &&& 0xFBFF) ||| 0x400, a := (z.core 3).a.setIfInBounds 0 (BitVec.ofNat 80 (2 ^ 79 - 1)) });
      let r : AluRes := accExtract (opField opnd 6 6 == 6) ((s.core core).acc (opField opnd 24 2)) (swBit (s.core core).sw swSAT);
      coreReady s core (instrWord cond 24 opnd) { legal := opField opnd 0 6 == 0 && macLegal (opField opnd 6 6) (opField opnd 20 4) (opField opnd 16 4) (opField opnd 12 4) } = true ∧
        6 ≤ opField opnd 6 6 ∧
        r = accExtract (opField opnd 6 6 == 6) ((s.core core).acc (opField opnd 24 2)) (swBit (s.core core).sw swSAT)
          ∧ swBit (s.core core).sw swOVE = true ∧ ((r.v == some true && r.traps)) = true ∧
        handlerFree (s.core core) = true) ∧
    (let core : Fin 8 := 3; let cond : Fin 16 := 0; let opnd : BitVec 26 := 0; let s : State := runCore blank 0x2000;
      let md1 : Nat := opField opnd 10 10; let md2 : Nat := opField opnd 0 10; let an : Nat := opField opnd 24 2;
      let w : Word × Word := (loadsGive s core ((s.core core).ea md1 0) ((s.core core).ea md2 0)).getD (0, 0);
      let r : AccRes := macOp (opField opnd 23 1) ((s.core core).acc an) 0 w.1 w.2;
      coreReady s core (instrWord cond 25 opnd) { legal := opField opnd 20 3 == 0 && mdLegal (opField opnd 10 10) && mdLegal (opField opnd 0 10) && !mdLiteral (opField opnd 10 10) && !mdLiteral (opField opnd 0 10) } = true ∧
        md1 = opField opnd 10 10 ∧ md2 = opField opnd 0 10 ∧ an = opField opnd 24 2 ∧
        loadsGive s core ((s.core core).ea md1 0) ((s.core core).ea md2 0) = some w ∧
        r = macOp (opField opnd 23 1) ((s.core core).acc an) 0 w.1 w.2 ∧
        (swBit (s.core core).sw swOVE && (r.flags.v == some true && r.flags.traps)) = false) ∧
    (let core : Fin 8 := 3; let cond : Fin 16 := 0; let opnd : BitVec 26 := BitVec.ofNat 26 (16 * 1024);
      let s : State := (let z : State := runCore blank 0x2000; ({ z with mem := z.mem.wr 9 7 }).setCore 3 { z.core 3 with sw := ((z.core 3).sw &&& 0xFBFF) ||| 0x400, a := (z.core 3).a.setIfInBounds 0 (BitVec.ofNat 80 (2 ^ 79 - 1)), x := ((z.core 3).x.setIfInBounds 0 9).setIfInBounds 1 9 });
      let md1 : Nat := opField opnd 10 10; let md2 : Nat := opField opnd 0 10; let an : Nat := opField opnd 24 2;
      let w : Word × Word := (loadsGive s core ((s.core core).ea md1 0) ((s.core core).ea md2 0)).getD (0, 0);
      let r : AccRes := macOp (opField opnd 23 1) ((s.core core).acc an) 0 w.1 w.2;
      coreReady s core (instrWord cond 25 opnd) { legal := opField opnd 20 3 == 0 && mdLegal (opField opnd 10 10) && mdLegal (opField opnd 0 10) && !mdLiteral (opField opnd 10 10) && !mdLiteral (opField opnd 0 10) } = true ∧
        md1 = opField opnd 10 10 ∧ md2 = opField opnd 0 10 ∧ an = opField opnd 24 2 ∧
        loadsGive s core ((s.core core).ea md1 0) ((s.core core).ea md2 0) = some w ∧
        r = macOp (opField opnd 23 1) ((s.core core).acc an) 0 w.1 w.2 ∧ swBit (s.core core).sw swOVE = true ∧
        ((r.flags.v == some true && r.flags.traps)) = true ∧ handlerFree (s.core core) = true) :=
  ⟨by decide +kernel, by decide +kernel, by decide +kernel, by decide +kernel, by decide +kernel⟩

/-- States and operands that meet the hypotheses of CoreMovesAndArithmetic, clauses from the 41th on. -/
theorem witness_CoreMovesAndArithmetic_9 :
    (let core : Fin 8 := 3; let cond : Fin 16 := 0; let opnd : BitVec 26 := 0; let s : State := runCore blank 0x2000;
      let fn : Nat := opField opnd 12 4; let i : Nat := opField opnd 16 6; let a : Nat := opField opnd 22 4;
      coreReady s core (instrWord cond 26 opnd) { legal := opField opnd 0 12 == 0 && bitLegal (opField opnd 12 4) (opField opnd 22 4) (opField opnd 16 6) } = true ∧
        fn = opField opnd 12 4 ∧ i = opField opnd 16 6 ∧ a = opField opnd 22 4 ∧ fn < 7) ∧
    (let core : Fin 8 := 3; let cond : Fin 16 := 0; let opnd : BitVec 26 := 8 * 4096;
      let s : State := runCore blank 0x2000; let fn : Nat := opField opnd 12 4; let i : Nat := opField opnd 16 6;
      let a : Nat := opField opnd 22 4;
      coreReady s core (instrWord cond 26 opnd) { legal := opField opnd 0 12 == 0 && bitLegal (opField opnd 12 4) (opField opnd 22 4) (opField opnd 16 6) } = true ∧
        fn = opField opnd 12 4 ∧ i = opField opnd 16 6 ∧ a = opField opnd 22 4 ∧ 7 ≤ fn ∧ fn ≤ 11) ∧
    (let core : Fin 8 := 3; let cond : Fin 16 := 0; let opnd : BitVec 26 := 13 * 4096;
      let s : State := runCore blank 0x2000; let fn : Nat := opField opnd 12 4; let i : Nat := opField opnd 16 6;
      coreReady s core (instrWord cond 26 opnd) { legal := opField opnd 0 12 == 0 && bitLegal (opField opnd 12 4) (opField opnd 22 4) (opField opnd 16 6) } = true ∧
        fn = opField opnd 12 4 ∧ i = opField opnd 16 6 ∧ 13 ≤ fn) :=
  ⟨by decide +kernel, by decide +kernel, by decide +kernel⟩

/-- States and operands that meet the hypotheses of CoreChecks. -/
theorem witness_CoreChecks :
    (let i : Instr := .ldi 3 14 0; (coreIssue i).isSome = true ∧ coreRuns State.reset 3 = false) ∧
    (let s : State := witnessCore 0x450000 0; (coreIssue (.ldi 3 14 0)).isSome = true ∧ coreRuns s 3 = true ∧ (s.core 3).wait = .none ∧ (s.core 3).arrived = false ∧ preemptDue s 3 = false ∧
      handlerFree (s.core 3) = true ∧ fetchBad s (s.core 3).pc.toNat = true ∧ s.poisoned (s.core 3).pc.toNat = false) ∧
    (let s : State := witnessCore 0x100 0; (coreIssue (.nop 3 14 1)).any (fun x => !x.2.2.legal) = true ∧ coreRuns s 3 = true ∧
      (s.core 3).wait = .none ∧ (s.core 3).arrived = false ∧ preemptDue s 3 = false ∧ handlerFree (s.core 3) = true ∧ fetchBad s (s.core 3).pc.toNat = false) ∧
    (let s : State := witnessCore 0x100 0; (coreIssue (.tquit 3 14 0)).any (fun x => x.2.2.legal && x.2.2.priv) = true ∧ coreRuns s 3 = true ∧
      (s.core 3).wait = .none ∧ (s.core 3).arrived = false ∧ preemptDue s 3 = false ∧ handlerFree (s.core 3) = true ∧ fetchBad s (s.core 3).pc.toNat = false ∧ swPL (s.core 3).sw = 0) ∧
    (let s : State := witnessCore 0x44FFFF 0; (coreIssue (.ld 3 0 0x380 0x100)).any (fun x => x.2.2.legal && !x.2.2.priv &&
        condHolds (bitsOf x.2.1 32 4) (s.core 3).sw && x.2.2.literal) = true ∧ coreRuns s 3 = true ∧ (s.core 3).wait = .none ∧ (s.core 3).arrived = false ∧ preemptDue s 3 = false ∧
      handlerFree (s.core 3) = true ∧ fetchBad s (s.core 3).pc.toNat = false ∧ fetchBad s ((s.core 3).pc + 1).toNat = true ∧
      s.poisoned ((s.core 3).pc + 1).toNat = false) ∧
    (let s : State := witnessCore 0x100 0; (coreIssue (.ld 3 0 0x380 (BitVec.ofNat 36 (2 ^ 35)))).any (fun x => x.2.2.legal && !x.2.2.priv &&
        condHolds (bitsOf x.2.1 32 4) (s.core 3).sw && !x.2.2.litLegal) = true ∧ coreRuns s 3 = true ∧ (s.core 3).wait = .none ∧ (s.core 3).arrived = false ∧ preemptDue s 3 = false ∧
      handlerFree (s.core 3) = true ∧ fetchBad s (s.core 3).pc.toNat = false ∧ fetchBad s ((s.core 3).pc + 1).toNat = false) := by
  decide +kernel

/-- States and operands that meet the hypotheses of FalseConditionOnlyAdvances. -/
theorem witness_FalseConditionOnlyAdvances :
    (let s : State := witnessCore 0x100 0; (coreIssue (.ldi 3 1 0)).any (fun x => x.2.2.legal && !x.2.2.priv &&
        !condHolds (bitsOf x.2.1 32 4) (s.core 3).sw) = true ∧ coreRuns s 3 = true ∧ (s.core 3).wait = .none ∧ (s.core 3).arrived = false ∧ preemptDue s 3 = false ∧ fetchBad s (s.core 3).pc.toNat = false) ∧
    (let s : State := witnessCore 0x100 0; (coreIssue (.nop 3 1 1)).any (fun x => !x.2.2.legal &&
        !condHolds (bitsOf x.2.1 32 4) (s.core 3).sw) = true ∧ coreRuns s 3 = true ∧ (s.core 3).wait = .none ∧ (s.core 3).arrived = false ∧ preemptDue s 3 = false ∧ handlerFree (s.core 3) = true ∧
      fetchBad s (s.core 3).pc.toNat = false) ∧
    (let s : State := witnessCore 0x100 0; (coreIssue (.tquit 3 1 0)).any (fun x => x.2.2.legal && x.2.2.priv &&
        !condHolds (bitsOf x.2.1 32 4) (s.core 3).sw) = true ∧ coreRuns s 3 = true ∧ (s.core 3).wait = .none ∧ (s.core 3).arrived = false ∧ preemptDue s 3 = false ∧ handlerFree (s.core 3) = true ∧
      fetchBad s (s.core 3).pc.toNat = false ∧ swPL (s.core 3).sw = 0) := by
  decide +kernel

/-- States and operands that meet the hypotheses of CoreWords. -/
theorem witness_CoreWords :
    ((coreIssue (.alu 3 0 0x0C48000)).isSome = true) := by
  decide +kernel

/-- States and operands that meet the hypotheses of CoreTransfersAndSystem. -/
theorem witness_CoreTransfersAndSystem :
    (let core : Fin 8 := 3; let cond : Fin 16 := 0; let opnd : BitVec 26 := 0; let s : State := runCore blank 0x2000;
      let g : BitVec 24 := (s.core core).pc + 1 + opnd.extractLsb' 0 24;
      coreReady s core (instrWord cond 32 opnd) { legal := opField opnd 24 2 == 0 } = true ∧
        g = (s.core core).pc + 1 + opnd.extractLsb' 0 24) ∧
    (let core : Fin 8 := 3; let cond : Fin 16 := 0; let opnd : BitVec 26 := 0; let s : State := runCore blank 0x2000;
      let g : BitVec 24 := (s.core core).pc + 1 + opnd.extractLsb' 0 24;
      coreReady s core (instrWord cond 33 opnd) { legal := opField opnd 24 2 == 0 } = true ∧
        g = (s.core core).pc + 1 + opnd.extractLsb' 0 24) ∧
    (let core : Fin 8 := 3; let cond : Fin 16 := 0; let opnd : BitVec 26 := 0; let s : State := runCore blank 0x2000;
      let g : BitVec 24 := ((s.core core).gr (opField opnd 22 4)).setWidth 24;
      coreReady s core (instrWord cond 34 opnd) { legal := opField opnd 0 21 == 0 } = true ∧
        g = ((s.core core).gr (opField opnd 22 4)).setWidth 24) ∧
    (let core : Fin 8 := 3; let cond : Fin 16 := 0; let opnd : BitVec 26 := 2 * 65536 + 4;
      let s : State := (let z : State := runCore blank 0x2000; z.setCore 3 { z.core 3 with rpf := false, g := (z.core 3).g.setIfInBounds 2 5 });
      let e : BitVec 24 := (s.core core).pc + 1 + BitVec.ofNat 24 (opField opnd 0 16);
      let n : Word := (if opnd.getLsbD 25 then BitVec.ofNat 36 (opField opnd 16 9) else (s.core core).gr (opField opnd 16 4));
      coreReady s core (instrWord cond 35 opnd) { legal := opnd.getLsbD 25 || opField opnd 20 5 == 0 } = true ∧
        (s.core core).rpf = false ∧ e = (s.core core).pc + 1 + BitVec.ofNat 24 (opField opnd 0 16) ∧
        ((s.core core).pc + 1).toNat ≤ e.toNat ∧
        (n = (if opnd.getLsbD 25 then BitVec.ofNat 36 (opField opnd 16 9) else (s.core core).gr (opField opnd 16 4)))
          ∧ n ≠ 0) ∧
    (let core : Fin 8 := 3; let cond : Fin 16 := 0; let opnd : BitVec 26 := 33554436;
      let s : State := (let z : State := runCore blank 0x2000; z.setCore 3 { z.core 3 with rpf := false, g := (z.core 3).g.setIfInBounds 2 5 });
      coreReady s core (instrWord cond 35 opnd) { legal := opnd.getLsbD 25 || opField opnd 20 5 == 0 } = true ∧
        (s.core core).rpf = false ∧ opnd.getLsbD 25 = true ∧ opField opnd 16 9 = 0 ∧
        ((s.core core).pc + 1).toNat ≤ ((s.core core).pc + 1 + BitVec.ofNat 24 (opField opnd 0 16)).toNat) :=
  ⟨by decide +kernel, by decide +kernel, by decide +kernel, by decide +kernel, by decide +kernel⟩

/-- States and operands that meet the hypotheses of CoreTransfersAndSystem, clauses from the 6th on. -/
theorem witness_CoreTransfersAndSystem_2 :
    (let core : Fin 8 := 3; let cond : Fin 16 := 0; let opnd : BitVec 26 := 2 * 65536 + 4;
      let s : State := (let z : State := (let z : State := runCore blank 0x2000; z.setCore 3 { z.core 3 with rpf := true, g := (z.core 3).g.setIfInBounds 2 5 }); z.setCore 3 { z.core 3 with sw := (z.core 3).sw &&& 0xFFFF });
      coreReady s core (instrWord cond 35 opnd) { legal := opnd.getLsbD 25 || opField opnd 20 5 == 0 } = true ∧
        (s.core core).rpf = true ∧ handlerFree (s.core core) = true) ∧
    (let core : Fin 8 := 3; let cond : Fin 16 := 0; let rest : BitVec 20 := 0; let s : State := runCore blank 0x2000;
      coreReady s core (instrWord cond 1 (BitVec.ofNat 6 0 ++ rest)) { legal := rest == 0 } = true) ∧
    (let core : Fin 8 := 3; let cond : Fin 16 := 0; let rest : BitVec 20 := 0;
      let tk : TaskRef := ⟨9, 1, none, false⟩;
      let s : State := (let z : State := runCore blank 0x2000; z.setCore 3 { z.core 3 with sw := BitVec.ofNat 36 1, tcause := 0 });
      coreReady s core (instrWord cond 1 (BitVec.ofNat 6 1 ++ rest)) { legal := rest == 0 } = true ∧
        (s.core core).imprecise = none ∧ swBit (s.core core).sw swTH = false ∧ (s.core core).task = some tk ∧
        (tk.event.all (fun e => !(s.event e).again) = true) ∧ (s.core core).preempted = []) ∧
    (let core : Fin 8 := 3; let cond : Fin 16 := 0; let rest : BitVec 20 := 0;
      let tk : TaskRef := ⟨9, 1, none, false⟩; let x : TaskRef := ⟨8, 2, none, false⟩;
      let s : State := (let z : State := (let z : State := runCore blank 0x2000; z.setCore 3 { z.core 3 with sw := BitVec.ofNat 36 1, tcause := 0 }); z.setCore 3 { z.core 3 with ready := [⟨8, 2, none, false⟩] });
      coreReady s core (instrWord cond 1 (BitVec.ofNat 6 1 ++ rest)) { legal := rest == 0 } = true ∧
        (s.core core).imprecise = none ∧ swBit (s.core core).sw swTH = false ∧ (s.core core).task = some tk ∧
        (tk.event.all (fun e => !(s.event e).again) = true) ∧ (s.core core).preempted = [] ∧
        (s.core core).ready = [x]) ∧
    (let core : Fin 8 := 3; let cond : Fin 16 := 0; let rest : BitVec 20 := 0; let a : Nat := 77;
      let s : State := (let z : State := (let z : State := runCore blank 0x2000; z.setCore 3 { z.core 3 with sw := BitVec.ofNat 36 1, tcause := 0 }); z.setCore 3 { z.core 3 with imprecise := some 77 });
      coreReady s core (instrWord cond 1 (BitVec.ofNat 6 1 ++ rest)) { legal := rest == 0 } = true ∧
        (s.core core).imprecise = some a ∧ swBit (s.core core).sw swTH = false ∧ (s.core core).vbase ≠ 0) :=
  ⟨by decide +kernel, by decide +kernel, by decide +kernel, by decide +kernel, by decide +kernel⟩

/-- States and operands that meet the hypotheses of CoreTransfersAndSystem, clauses from the 11th on. -/
theorem witness_CoreTransfersAndSystem_3 :
    (let core : Fin 8 := 3; let cond : Fin 16 := 0; let rest : BitVec 20 := 0;
      let tk : TaskRef := ⟨9, 1, none, false⟩;
      let s : State := (let z : State := runCore blank 0x2000; z.setCore 3 { z.core 3 with sw := BitVec.ofNat 36 196608, tcause := 2 });
      coreReady s core (instrWord cond 1 (BitVec.ofNat 6 2 ++ rest)) { legal := rest == 0, priv := true } = true ∧
        (s.core core).imprecise = none ∧ (s.core core).task = some tk ∧
        (tk.event.all (fun e => !(s.event e).again) = true) ∧ (s.core core).preempted = []) ∧
    (let core : Fin 8 := 3; let cond : Fin 16 := 0; let rest : BitVec 20 := 0;
      let s : State := (let z : State := (let z : State := runCore blank 0x2000; z.setCore 3 { z.core 3 with sw := BitVec.ofNat 36 196608, tcause := 3 }); z.setCore 3 { z.core 3 with tsw := (z.core 3).tsw &&& 0xFFFDFFFFF &&& ~~~(0x40000 : Word) });
      coreReady s core (instrWord cond 1 (BitVec.ofNat 6 3 ++ rest)) { legal := rest == 0, priv := true } = true ∧
        bitsOf (s.core core).tcause 0 6 = 3 ∧ swPL (s.core core).tsw < 2) ∧
    (let core : Fin 8 := 3; let cond : Fin 16 := 0; let rest : BitVec 20 := 0;
      let s : State := (let z : State := (let z : State := runCore blank 0x2000; z.setCore 3 { z.core 3 with sw := BitVec.ofNat 36 196608, tcause := 3 }); z.setCore 3 { z.core 3 with tsw := (z.core 3).tsw ||| 0x40000 });
      coreReady s core (instrWord cond 1 (BitVec.ofNat 6 3 ++ rest)) { legal := rest == 0, priv := true } = true ∧
        bitsOf (s.core core).tcause 0 6 = 3 ∧ 2 ≤ swPL (s.core core).tsw) ∧
    (let core : Fin 8 := 3; let cond : Fin 16 := 0; let rest : BitVec 20 := 0;
      let s : State := (let z : State := runCore blank 0x2000; z.setCore 3 { z.core 3 with sw := BitVec.ofNat 36 131072, tcause := 2 });
      coreReady s core (instrWord cond 1 (BitVec.ofNat 6 3 ++ rest)) { legal := rest == 0, priv := true } = true ∧
        bitsOf (s.core core).tcause 0 6 ≠ 3 ∧ handlerFree (s.core core) = true) ∧
    (let core : Fin 8 := 3; let cond : Fin 16 := 0; let rest : BitVec 20 := 0;
      let s : State := (runCore blank 0x2000).set R.DBG_STAT_CONN 0;
      coreReady s core (instrWord cond 1 (BitVec.ofNat 6 4 ++ rest)) { legal := rest == 0 } = true ∧
        s.flag R.DBG_STAT_CONN = false) :=
  ⟨by decide +kernel, by decide +kernel, by decide +kernel, by decide +kernel, by decide +kernel⟩

/-- States and operands that meet the hypotheses of CoreTransfersAndSystem, clauses from the 16th on. -/
theorem witness_CoreTransfersAndSystem_4 :
    (let core : Fin 8 := 3; let cond : Fin 16 := 0; let rest : BitVec 20 := 0;
      let s : State := ((let z : State := runCore blank 0x2000; z.setCore 3 { z.core 3 with sw := BitVec.ofNat 36 1, tcause := 0 })).raise R.DBG_STAT_CONN;
      coreReady s core (instrWord cond 1 (BitVec.ofNat 6 4 ++ rest)) { legal := rest == 0 } = true ∧
        s.flag R.DBG_STAT_CONN = true ∧ (s.core core).imprecise = none ∧ swBit (s.core core).sw swTH = false ∧
        s.dev = .run ∧ s.power.pfStep = 0) ∧
    (let core : Fin 8 := 3; let cond : Fin 16 := 0; let rest : BitVec 20 := 0;
      let tk : TaskRef := ⟨9, 1, none, false⟩;
      let s : State := ((let z : State := runCore blank 0x2000; z.setCore 3 { z.core 3 with sw := BitVec.ofNat 36 65537, tcause := 2 })).raise R.DBG_STAT_CONN;
      coreReady s core (instrWord cond 1 (BitVec.ofNat 6 4 ++ rest)) { legal := rest == 0 } = true ∧
        s.flag R.DBG_STAT_CONN = true ∧ (s.core core).imprecise = none ∧ swBit (s.core core).sw swTH = true ∧
        s.dev = .run ∧ s.power.pfStep = 0 ∧ (s.core core).task = some tk ∧
        (tk.event.all (fun e => !(s.event e).again) = true)) ∧
    (let core : Fin 8 := 3; let cond : Fin 16 := 0; let rest : BitVec 20 := 0; let a : Nat := 77;
      let s : State := (let z : State := ((let z : State := runCore blank 0x2000; z.setCore 3 { z.core 3 with sw := BitVec.ofNat 36 1, tcause := 0 })).raise R.DBG_STAT_CONN; z.setCore 3 { z.core 3 with imprecise := some 77 });
      coreReady s core (instrWord cond 1 (BitVec.ofNat 6 4 ++ rest)) { legal := rest == 0 } = true ∧
        s.flag R.DBG_STAT_CONN = true ∧ (s.core core).imprecise = some a ∧ swBit (s.core core).sw swTH = false ∧
        (s.core core).vbase ≠ 0) ∧
    (let core : Fin 8 := 3; let word : Word := 0;
      let s : State := (let z : State := runCore blank 0x2000; z.setCore 3 { z.core 3 with sw := BitVec.ofNat 36 1, tcause := 0 });
      wordUnassigned word = true ∧ coreRuns s core = true ∧ (s.core core).wait = .none ∧
        (s.core core).arrived = false ∧ preemptDue s core = false ∧ fetchBad s (s.core core).pc.toNat = false ∧
        handlerFree (s.core core) = true) ∧
    (let word : Word := 0x40000000; let s : State := runCore blank 0x2000;
      wordUnassigned word = false) :=
  ⟨by decide +kernel, by decide +kernel, by decide +kernel, by decide +kernel, by decide +kernel⟩

/-- States and operands that meet the hypotheses of CoreTransfersAndSystem, clauses from the 21th on. -/
theorem witness_CoreTransfersAndSystem_5 :
    (let core : Fin 8 := 3; let cond : Fin 16 := 0; let rest : BitVec 24 := 0; let f : Bool := false;
      let s : State := runCore blank 0x2000;
      coreReady s core (instrWord cond 40 (BitVec.ofNat 2 1 ++ rest)) { legal := rest == 0 } = true ∧
        (s.core core).imprecise = none ∧ f = false) ∧
    (let core : Fin 8 := 3; let cond : Fin 16 := 0; let rest : BitVec 24 := 0; let f : Bool := false;
      let s : State := runCore blank 0x2000;
      coreReady s core (instrWord cond 40 (BitVec.ofNat 2 2 ++ rest)) { legal := rest == 0 } = true ∧
        (s.core core).imprecise = none ∧ f = false) ∧
    (let core : Fin 8 := 3; let cond : Fin 16 := 0; let rest : BitVec 24 := 0; let f : Bool := false;
      let s : State := (runCore blank 0x2000).set (R.SPN_RSTAT_PEND 3) 0;
      coreReady s core (instrWord cond 40 (BitVec.ofNat 2 3 ++ rest)) { legal := rest == 0 } = true ∧
        (s.core core).imprecise = none ∧ f = false ∧ s.get (R.SPN_RSTAT_PEND core) = 0) ∧
    (let core : Fin 8 := 3; let cond : Fin 16 := 0; let rest : BitVec 24 := 0;
      let s : State := (runCore blank 0x2000).set (R.SPN_RSTAT_PEND 3) 2;
      coreReady s core (instrWord cond 40 (BitVec.ofNat 2 3 ++ rest)) { legal := rest == 0 } = true ∧
        (s.core core).imprecise = none ∧ s.get (R.SPN_RSTAT_PEND core) ≠ 0) ∧
    (let core : Fin 8 := 3; let cond : Fin 16 := 0; let rest : BitVec 24 := 0; let f : Bool := true;
      let s : State := runCore blank 0x2000;
      coreReady s core (instrWord cond 40 (BitVec.ofNat 2 1 ++ rest)) { legal := rest == 0 } = true ∧
        (s.core core).imprecise = none ∧ f = true) :=
  ⟨by decide +kernel, by decide +kernel, by decide +kernel, by decide +kernel, by decide +kernel⟩

/-- States and operands that meet the hypotheses of CoreTransfersAndSystem, clauses from the 26th on. -/
theorem witness_CoreTransfersAndSystem_6 :
    (let core : Fin 8 := 3; let cond : Fin 16 := 0; let rest : BitVec 24 := 0; let f : Bool := false;
      let s : State := (let z : State := (runCore blank 0x2000).set (R.SPN_RSTAT_PEND 3) 0; z.setCore 3 { z.core 3 with wait := .fence 1 });
      (s.core core).wait = .fence 1 ∧
        coreReady (s.setCore core { (s.core core) with wait := .none }) core (instrWord cond 40 (BitVec.ofNat 2 1 ++ rest)) { legal := rest == 0 } = true ∧
        coreRuns s core = true ∧ (s.core core).imprecise = none ∧ f = false ∧ s.get (R.SPN_RSTAT_PEND core) = 0) ∧
    (let core : Fin 8 := 3; let cond : Fin 16 := 0; let rest : BitVec 24 := 0; let a : Nat := 77;
      let s : State := (let z : State := (let z : State := runCore blank 0x2000; z.setCore 3 { z.core 3 with sw := BitVec.ofNat 36 1, tcause := 0 }); z.setCore 3 { z.core 3 with imprecise := some 77 });
      coreReady s core (instrWord cond 40 (BitVec.ofNat 2 1 ++ rest)) { legal := rest == 0 } = true ∧
        (s.core core).imprecise = some a ∧ swBit (s.core core).sw swTH = false ∧ (s.core core).vbase ≠ 0) ∧
    (let core : Fin 8 := 3; let cond : Fin 16 := 0; let rest : BitVec 24 := 0; let f : Bool := true;
      let s : State := runCore blank 0x2000;
      coreReady s core (instrWord cond 40 (BitVec.ofNat 2 2 ++ rest)) { legal := rest == 0 } = true ∧
        (s.core core).imprecise = none ∧ f = true) ∧
    (let core : Fin 8 := 3; let cond : Fin 16 := 0; let rest : BitVec 24 := 0; let f : Bool := false;
      let s : State := (let z : State := (runCore blank 0x2000).set (R.SPN_RSTAT_PEND 3) 0; z.setCore 3 { z.core 3 with wait := .fence 2 });
      (s.core core).wait = .fence 2 ∧
        coreReady (s.setCore core { (s.core core) with wait := .none }) core (instrWord cond 40 (BitVec.ofNat 2 2 ++ rest)) { legal := rest == 0 } = true ∧
        coreRuns s core = true ∧ (s.core core).imprecise = none ∧ f = false ∧ s.get (R.SPN_RSTAT_PEND core) = 0) ∧
    (let core : Fin 8 := 3; let cond : Fin 16 := 0; let rest : BitVec 24 := 0; let a : Nat := 77;
      let s : State := (let z : State := (let z : State := runCore blank 0x2000; z.setCore 3 { z.core 3 with sw := BitVec.ofNat 36 1, tcause := 0 }); z.setCore 3 { z.core 3 with imprecise := some 77 });
      coreReady s core (instrWord cond 40 (BitVec.ofNat 2 2 ++ rest)) { legal := rest == 0 } = true ∧
        (s.core core).imprecise = some a ∧ swBit (s.core core).sw swTH = false ∧ (s.core core).vbase ≠ 0) :=
  ⟨by decide +kernel, by decide +kernel, by decide +kernel, by decide +kernel, by decide +kernel⟩

/-- States and operands that meet the hypotheses of CoreTransfersAndSystem, clauses from the 31th on. -/
theorem witness_CoreTransfersAndSystem_7 :
    (let core : Fin 8 := 3; let cond : Fin 16 := 0; let rest : BitVec 24 := 0; let f : Bool := true;
      let s : State := runCore blank 0x2000;
      coreReady s core (instrWord cond 40 (BitVec.ofNat 2 3 ++ rest)) { legal := rest == 0 } = true ∧
        (s.core core).imprecise = none ∧ f = true) ∧
    (let core : Fin 8 := 3; let cond : Fin 16 := 0; let rest : BitVec 24 := 0; let f : Bool := false;
      let s : State := (let z : State := (runCore blank 0x2000).set (R.SPN_RSTAT_PEND 3) 0; z.setCore 3 { z.core 3 with wait := .fence 3 });
      (s.core core).wait = .fence 3 ∧
        coreReady (s.setCore core { (s.core core) with wait := .none }) core (instrWord cond 40 (BitVec.ofNat 2 3 ++ rest)) { legal := rest == 0 } = true ∧
        coreRuns s core = true ∧ (s.core core).imprecise = none ∧ f = false ∧ s.get (R.SPN_RSTAT_PEND core) = 0) ∧
    (let core : Fin 8 := 3; let cond : Fin 16 := 0; let rest : BitVec 24 := 0; let a : Nat := 77;
      let s : State := (let z : State := (let z : State := runCore blank 0x2000; z.setCore 3 { z.core 3 with sw := BitVec.ofNat 36 1, tcause := 0 }); z.setCore 3 { z.core 3 with imprecise := some 77 });
      coreReady s core (instrWord cond 40 (BitVec.ofNat 2 3 ++ rest)) { legal := rest == 0 } = true ∧
        (s.core core).imprecise = some a ∧ swBit (s.core core).sw swTH = false ∧ (s.core core).vbase ≠ 0) ∧
    (let core : Fin 8 := 3; let sc : Nat := 3;
      let s : State := (let z : State := (let z : State := runCore blank 0x2000; z.setCore 3 { z.core 3 with sw := BitVec.ofNat 36 1, tcause := 0 }); z.setCore 3 { z.core 3 with wait := .fence 3 });
      coreRuns s core = true ∧ (s.core core).wait = .fence sc ∧ handlerFree (s.core core) = true) ∧
    (let core : Fin 8 := 3; let a : Nat := 77;
      let s : State := (let z : State := (let z : State := runCore blank 0x2000; z.setCore 3 { z.core 3 with sw := BitVec.ofNat 36 1, tcause := 0 }); z.setCore 3 { z.core 3 with imprecise := some 77 });
      coreRuns s core = true ∧ (s.core core).imprecise = some a ∧ awaitsRemote s core = false ∧
        swBit (s.core core).sw swTH = false ∧ (s.core core).vbase ≠ 0) :=
  ⟨by decide +kernel, by decide +kernel, by decide +kernel, by decide +kernel, by decide +kernel⟩

/-- States and operands that meet the hypotheses of CoreTransfersAndSystem, clauses from the 36th on. -/
theorem witness_CoreTransfersAndSystem_8 :
    (let core : Fin 8 := 3;
      let s : State := (let z : State := (let z : State := runCore blank 0x2000; z.setCore 3 { z.core 3 with sw := BitVec.ofNat 36 1, tcause := 0 }); z.setCore 3 { z.core 3 with imprecise := some 77, wait := .remote 0x800005 });
      coreRuns s core = true ∧ (s.core core).imprecise.isSome = true ∧ awaitsRemote s core = true) ∧
    (let core : Fin 8 := 3; let tk : TaskRef := ⟨9, 1, none, false⟩;
      let s : State := (let z : State := runCore blank 0x2000; z.setCore 3 { z.core 3 with sw := BitVec.ofNat 36 196608, tcause := 2 });
      coreRuns s core = true ∧ swBit (s.core core).sw swTH = true ∧ (s.core core).task = some tk ∧
        (tk.event.all (fun e => !(s.event e).again) = true) ∧ (s.core core).preempted = []) ∧
    (let core : Fin 8 := 3;
      let s : State := (let z : State := runCore blank 0x2000; z.setCore 3 { z.core 3 with sw := BitVec.ofNat 36 1, tcause := 0 });
      swBit (s.core core).sw swTH = false) :=
  ⟨by decide +kernel, by decide +kernel, by decide +kernel⟩

/-- States and operands that meet the hypotheses of CoreCallsAndHandles. -/
theorem witness_CoreCallsAndHandles :
    (let core : Fin 8 := 3; let cond : Fin 16 := 0; let unit : BitVec 9 := 4; let rest : BitVec 15 := 0;
      let u : FabricUnit := fabUnit; let q : Nat := 2; let tk : TaskRef := ⟨9, 1, none, false⟩;
      let s : State := (let z : State := (let z : State := runCore blank 0x2000; z.setCore 3 { z.core 3 with sw := BitVec.ofNat 36 1, tcause := 0 }); let f : State := fabState z .run true false; { z.set (R.FAB_QSTAT_DIS 2) 0 with folio := f.folio, imposer := f.imposer, fabric := f.fabric, cycle := z.cycle });
      coreReady s core (instrWord cond 41 (unit ++ BitVec.ofNat 2 0 ++ rest)) { legal := rest == 0 } = true ∧
        s.fabricUnit unit.toNat = some u ∧ u.cls = coreClass s core ∧ s.quireOf unit.toNat = some q ∧
        (s.core core).task = some tk ∧ s.flag (R.FAB_QSTAT_DIS q) = false ∧ coreCalls s core < 4) ∧
    (let core : Fin 8 := 3; let cond : Fin 16 := 0; let unit : BitVec 9 := 4; let rest : BitVec 15 := 0;
      let u : FabricUnit := fabUnit; let q : Nat := 2; let tk : TaskRef := ⟨9, 1, none, false⟩;
      let s : State := (let z : State := (let z : State := runCore blank 0x2000; z.setCore 3 { z.core 3 with sw := BitVec.ofNat 36 1, tcause := 0 }); let f : State := fabState z .run true false; { z.set (R.FAB_QSTAT_DIS 2) 0 with folio := f.folio, imposer := f.imposer, fabric := f.fabric, cycle := z.cycle });
      coreReady s core (instrWord cond 41 (unit ++ BitVec.ofNat 2 1 ++ rest)) { legal := rest == 0 } = true ∧
        s.fabricUnit unit.toNat = some u ∧ u.cls = coreClass s core ∧ s.quireOf unit.toNat = some q ∧
        (s.core core).task = some tk ∧ s.flag (R.FAB_QSTAT_DIS q) = false ∧ coreCalls s core < 4) ∧
    (let core : Fin 8 := 3; let cond : Fin 16 := 0; let unit : BitVec 9 := 4; let rest : BitVec 15 := 0;
      let u : FabricUnit := fabUnit; let q : Nat := 2; let tk : TaskRef := ⟨9, 1, none, false⟩;
      let s : State := (let z : State := (let z : State := (let z : State := runCore blank 0x2000; z.setCore 3 { z.core 3 with sw := BitVec.ofNat 36 1, tcause := 0 }); let f : State := fabState z .run true false; { z.set (R.FAB_QSTAT_DIS 2) 0 with folio := f.folio, imposer := f.imposer, fabric := f.fabric, cycle := z.cycle }); let q : QuireSt := z.quire 1; z.setQuire 1 { q with waiting := (List.range 4).map fun i => ⟨i, 1, .core 3 ⟨9, 1, none, false⟩ true⟩ });
      coreReady s core (instrWord cond 41 (unit ++ BitVec.ofNat 2 0 ++ rest)) { legal := rest == 0 } = true ∧
        s.fabricUnit unit.toNat = some u ∧ u.cls = coreClass s core ∧ s.quireOf unit.toNat = some q ∧
        (s.core core).task = some tk ∧ s.flag (R.FAB_QSTAT_DIS q) = false ∧ 4 ≤ coreCalls s core) ∧
    (let core : Fin 8 := 3; let cond : Fin 16 := 0; let unit : BitVec 9 := 4; let rest : BitVec 15 := 0;
      let s : State := (let z : State := runCore blank 0x2000; z.setCore 3 { z.core 3 with sw := BitVec.ofNat 36 1, tcause := 0 });
      coreReady s core (instrWord cond 41 (unit ++ BitVec.ofNat 2 0 ++ rest)) { legal := rest == 0 } = true ∧
        (s.fabricUnit unit.toNat = none ∨ s.quireOf unit.toNat = none) ∧ handlerFree (s.core core) = true) ∧
    (let core : Fin 8 := 3; let cond : Fin 16 := 0; let unit : BitVec 9 := 4; let rest : BitVec 15 := 0;
      let u : FabricUnit := fabUnit;
      let s : State := (let z : State := (let z : State := (let z : State := runCore blank 0x2000; z.setCore 3 { z.core 3 with sw := BitVec.ofNat 36 1, tcause := 0 }); let f : State := fabState z .run true false; { z.set (R.FAB_QSTAT_DIS 2) 0 with folio := f.folio, imposer := f.imposer, fabric := f.fabric, cycle := z.cycle }); z.setCore 3 { z.core 3 with task := some ⟨9, 2, none, false⟩ });
      coreReady s core (instrWord cond 41 (unit ++ BitVec.ofNat 2 1 ++ rest)) { legal := rest == 0 } = true ∧
        s.fabricUnit unit.toNat = some u ∧ u.cls ≠ coreClass s core ∧ handlerFree (s.core core) = true) :=
  ⟨by decide +kernel, by decide +kernel, by decide +kernel, by decide +kernel, by decide +kernel⟩

/-- States and operands that meet the hypotheses of CoreCallsAndHandles, clauses from the 6th on. -/
theorem witness_CoreCallsAndHandles_2 :
    (let core : Fin 8 := 3; let cond : Fin 16 := 0; let unit : BitVec 9 := 4; let rest : BitVec 15 := 0;
      let u : FabricUnit := fabUnit; let q : Nat := 2; let tk : TaskRef := ⟨9, 1, none, false⟩;
      let s : State := (let z : State := (let z : State := runCore blank 0x2000; z.setCore 3 { z.core 3 with sw := BitVec.ofNat 36 1, tcause := 0 }); let f : State := fabState z .run true false; { z.set (R.FAB_QSTAT_DIS 2) 1 with folio := f.folio, imposer := f.imposer, fabric := f.fabric, cycle := z.cycle });
      coreReady s core (instrWord cond 41 (unit ++ BitVec.ofNat 2 1 ++ rest)) { legal := rest == 0 } = true ∧
        s.fabricUnit unit.toNat = some u ∧ u.cls = coreClass s core ∧ s.quireOf unit.toNat = some q ∧
        (s.core core).task = some tk ∧ s.flag (R.FAB_QSTAT_DIS q) = true ∧ handlerFree (s.core core) = true) ∧
    (let core : Fin 8 := 3; let cond : Fin 16 := 0; let unit : BitVec 9 := 0; let rest : BitVec 15 := 0;
      let s : State := runCore blank 0x2000;
      coreReady s core (instrWord cond 41 (unit ++ BitVec.ofNat 2 2 ++ rest)) { legal := rest == 0 && unit == 0 } = true ∧
        postedOpen (s.core core).posted = [] ∧ postedFail (s.core core).posted = none) ∧
    (let core : Fin 8 := 3; let cond : Fin 16 := 0; let unit : BitVec 9 := 0; let rest : BitVec 15 := 0;
      let s : State := (let z : State := (let z : State := runCore blank 0x2000; z.setCore 3 { z.core 3 with sw := BitVec.ofNat 36 1, tcause := 0 }); z.setCore 3 { z.core 3 with posted := [(4, false), (5, true)] });
      coreReady s core (instrWord cond 41 (unit ++ BitVec.ofNat 2 2 ++ rest)) { legal := rest == 0 && unit == 0 } = true ∧
        postedOpen (s.core core).posted ≠ []) ∧
    (let core : Fin 8 := 3; let cond : Fin 16 := 0; let unit : BitVec 9 := 0; let rest : BitVec 15 := 0;
      let n : Nat := 5;
      let s : State := (let z : State := (let z : State := runCore blank 0x2000; z.setCore 3 { z.core 3 with sw := BitVec.ofNat 36 1, tcause := 0 }); z.setCore 3 { z.core 3 with posted := [(5, true)] });
      coreReady s core (instrWord cond 41 (unit ++ BitVec.ofNat 2 2 ++ rest)) { legal := rest == 0 && unit == 0 } = true ∧
        postedOpen (s.core core).posted = [] ∧ postedFail (s.core core).posted = some n ∧
        handlerFree (s.core core) = true) ∧
    (let core : Fin 8 := 3; let cond : Fin 16 := 0; let d : Fin 16 := 4; let a : Fin 16 := 0;
      let post : Bool := false; let rest : BitVec 15 := 0;
      let s : State := (let z : State := ((let z : State := runCore blank 0x2000; z.setCore 3 { z.core 3 with sw := BitVec.ofNat 36 1, tcause := 0 })).set (R.HND_PCMD_STATUS 3) 0; { z with handles := ⟨[], [], [], []⟩ });
      coreReady s core (hcmdWord cond d a 3 post rest) { legal := rest == 0 && a == 0 && !post } = true ∧
        s.get (R.HND_PCMD_STATUS core) = 0) :=
  ⟨by decide +kernel, by decide +kernel, by decide +kernel, by decide +kernel, by decide +kernel⟩

/-- States and operands that meet the hypotheses of CoreCallsAndHandles, clauses from the 11th on. -/
theorem witness_CoreCallsAndHandles_3 :
    (let core : Fin 8 := 3; let cond : Fin 16 := 0; let d : Fin 16 := 4; let a : Fin 16 := 0;
      let post : Bool := false; let rest : BitVec 15 := 0;
      let s : State := (let z : State := ((let z : State := runCore blank 0x2000; z.setCore 3 { z.core 3 with sw := BitVec.ofNat 36 1, tcause := 0 })).set (R.HND_PCMD_STATUS 3) 2; { z with handles := ⟨[], [], [], []⟩ });
      coreReady s core (hcmdWord cond d a 3 post rest) { legal := rest == 0 && a == 0 && !post } = true ∧
        s.get (R.HND_PCMD_STATUS core) = 2) ∧
    (let core : Fin 8 := 3; let cond : Fin 16 := 0; let d : Fin 16 := 4; let a : Fin 16 := 0;
      let post : Bool := false; let rest : BitVec 15 := 0;
      let s : State := (let z : State := ((let z : State := runCore blank 0x2000; z.setCore 3 { z.core 3 with sw := BitVec.ofNat 36 1, tcause := 0 })).set (R.HND_PCMD_STATUS 3) 1; { z with handles := ⟨[], [], [], []⟩ });
      coreReady s core (hcmdWord cond d a 3 post rest) { legal := rest == 0 && a == 0 && !post } = true ∧
        s.get (R.HND_PCMD_STATUS core) = 1 ∧ handleHeld s core = false) ∧
    (let core : Fin 8 := 3; let cond : Fin 16 := 0; let d : Fin 16 := 4; let a : Fin 16 := 0;
      let post : Bool := false; let rest : BitVec 15 := 0;
      let s : State := (let z : State := (let z : State := ((let z : State := runCore blank 0x2000; z.setCore 3 { z.core 3 with sw := BitVec.ofNat 36 1, tcause := 0 })).set (R.HND_PCMD_STATUS 3) 1; { z with handles := ⟨[], [], [], []⟩ }); { (z.set R.CYC_STAT_CONF 2).set R.CYC_STAT_HALTED 0 with handles := ⟨[], [⟨2, 2, [BitVec.ofNat 36 (2 ^ 29), 0], true, false⟩], [⟨3, 2, 2, 2, [], true⟩], []⟩ });
      coreReady s core (hcmdWord cond d a 3 post rest) { legal := rest == 0 && a == 0 && !post } = true ∧
        s.get (R.HND_PCMD_STATUS core) = 1 ∧ handleHeld s core = true) ∧
    (let core : Fin 8 := 3; let cond : Fin 16 := 0; let d : Fin 16 := 4; let a : Fin 16 := 0;
      let post : Bool := false; let rest : BitVec 15 := 0; let st : Nat := 6;
      let s : State := (let z : State := ((let z : State := runCore blank 0x2000; z.setCore 3 { z.core 3 with sw := BitVec.ofNat 36 1, tcause := 0 })).set (R.HND_PCMD_STATUS 3) 6; { z with handles := ⟨[], [], [], []⟩ });
      coreReady s core (hcmdWord cond d a 3 post rest) { legal := rest == 0 && a == 0 && !post } = true ∧
        s.get (R.HND_PCMD_STATUS core) = st ∧ (st = 3 ∨ st = 4 ∨ st = 6 ∨ st = 7 ∨ 8 ≤ st)) ∧
    (let core : Fin 8 := 3; let cond : Fin 16 := 0; let d : Fin 16 := 4; let a : Fin 16 := 0;
      let post : Bool := false; let rest : BitVec 15 := 0;
      let s : State := (let z : State := ((let z : State := runCore blank 0x2000; z.setCore 3 { z.core 3 with sw := BitVec.ofNat 36 1, tcause := 0 })).set (R.HND_PCMD_STATUS 3) 5; { z with handles := ⟨[], [], [], []⟩ });
      coreReady s core (hcmdWord cond d a 3 post rest) { legal := rest == 0 && a == 0 && !post } = true ∧
        s.get (R.HND_PCMD_STATUS core) = 5 ∧ handlerFree (s.core core) = true) :=
  ⟨by decide +kernel, by decide +kernel, by decide +kernel, by decide +kernel, by decide +kernel⟩

/-- States and operands that meet the hypotheses of CoreCallsAndHandles, clauses from the 16th on. -/
theorem witness_CoreCallsAndHandles_4 :
    (let core : Fin 8 := 3; let cond : Fin 16 := 0; let d : Fin 16 := 4; let a : Fin 16 := 2;
      let post : Bool := true; let rest : BitVec 15 := 0;
      let s : State := (let z : State := ((let z : State := runCore blank 0x2000; z.setCore 3 { z.core 3 with sw := BitVec.ofNat 36 1, tcause := 0 })).set (R.HND_PCMD_STATUS 3) 0; { z with handles := ⟨[], [], [], []⟩ });
      coreReady s core (hcmdWord cond d a 0 post rest) { legal := rest == 0 } = true ∧ post = true ∧
        s.get (R.HND_PCMD_STATUS core) ≠ 1) ∧
    (let core : Fin 8 := 3; let cond : Fin 16 := 0; let d : Fin 16 := 4; let a : Fin 16 := 2;
      let post : Bool := true; let rest : BitVec 15 := 0;
      let s : State := (let z : State := ((let z : State := runCore blank 0x2000; z.setCore 3 { z.core 3 with sw := BitVec.ofNat 36 1, tcause := 0 })).set (R.HND_PCMD_STATUS 3) 0; { z with handles := ⟨[], [], [], []⟩ });
      coreReady s core (hcmdWord cond d a 1 post rest) { legal := rest == 0 } = true ∧ post = true ∧
        s.get (R.HND_PCMD_STATUS core) ≠ 1) ∧
    (let core : Fin 8 := 3; let cond : Fin 16 := 0; let d : Fin 16 := 4; let a : Fin 16 := 2;
      let post : Bool := true; let rest : BitVec 15 := 0;
      let s : State := (let z : State := ((let z : State := runCore blank 0x2000; z.setCore 3 { z.core 3 with sw := BitVec.ofNat 36 1, tcause := 0 })).set (R.HND_PCMD_STATUS 3) 0; { z with handles := ⟨[], [], [], []⟩ });
      coreReady s core (hcmdWord cond d a 2 post rest) { legal := rest == 0 } = true ∧ post = true ∧
        s.get (R.HND_PCMD_STATUS core) ≠ 1) ∧
    (let core : Fin 8 := 3; let cond : Fin 16 := 0; let d : Fin 16 := 4; let a : Fin 16 := 2;
      let post : Bool := false; let rest : BitVec 15 := 0;
      let s : State := (let z : State := ((let z : State := runCore blank 0x2000; z.setCore 3 { z.core 3 with sw := BitVec.ofNat 36 1, tcause := 0 })).set (R.HND_PCMD_STATUS 3) 0; { z with handles := ⟨[], [], [], []⟩ });
      coreReady s core (hcmdWord cond d a 0 post rest) { legal := rest == 0 } = true ∧ post = false ∧
        s.get (R.HND_PCMD_STATUS core) ≠ 1 ∧ (s.handles.cmds.all (fun x => x.port != core.val) = true) ∧
        handleRefusal s false = none) ∧
    (let core : Fin 8 := 3; let cond : Fin 16 := 0; let d : Fin 16 := 4; let a : Fin 16 := 2;
      let post : Bool := false; let rest : BitVec 15 := 0;
      let s : State := (let z : State := ((let z : State := runCore blank 0x2000; z.setCore 3 { z.core 3 with sw := BitVec.ofNat 36 1, tcause := 0 })).set (R.HND_PCMD_STATUS 3) 0; { z with handles := ⟨[], [], [], []⟩ });
      coreReady s core (hcmdWord cond d a 1 post rest) { legal := rest == 0 } = true ∧ post = false ∧
        s.get (R.HND_PCMD_STATUS core) ≠ 1 ∧ (s.handles.cmds.all (fun x => x.port != core.val) = true) ∧
        handleRefusal s false = none) :=
  ⟨by decide +kernel, by decide +kernel, by decide +kernel, by decide +kernel, by decide +kernel⟩

/-- States and operands that meet the hypotheses of CoreCallsAndHandles, clauses from the 21th on. -/
theorem witness_CoreCallsAndHandles_5 :
    (let core : Fin 8 := 3; let cond : Fin 16 := 0; let d : Fin 16 := 4; let a : Fin 16 := 2;
      let post : Bool := false; let rest : BitVec 15 := 0;
      let s : State := (let z : State := ((let z : State := runCore blank 0x2000; z.setCore 3 { z.core 3 with sw := BitVec.ofNat 36 1, tcause := 0 })).set (R.HND_PCMD_STATUS 3) 0; { z with handles := ⟨[], [], [], []⟩ });
      coreReady s core (hcmdWord cond d a 2 post rest) { legal := rest == 0 } = true ∧ post = false ∧
        s.get (R.HND_PCMD_STATUS core) ≠ 1 ∧ (s.handles.cmds.all (fun x => x.port != core.val) = true) ∧
        handleRefusal s true = none) ∧
    (let core : Fin 8 := 3; let cond : Fin 16 := 0; let d : Fin 16 := 4; let a : Fin 16 := 2;
      let post : Bool := true; let rest : BitVec 15 := 0;
      let s : State := (let z : State := ((let z : State := runCore blank 0x2000; z.setCore 3 { z.core 3 with sw := BitVec.ofNat 36 1, tcause := 0 })).set (R.HND_PCMD_STATUS 3) 1; { z with handles := ⟨[], [], [], []⟩ });
      coreReady s core (hcmdWord cond d a 0 post rest) { legal := rest == 0 } = true ∧ post = true ∧
        s.get (R.HND_PCMD_STATUS core) = 1) ∧
    (let core : Fin 8 := 3; let cond : Fin 16 := 0; let d : Fin 16 := 4; let a : Fin 16 := 2;
      let post : Bool := true; let rest : BitVec 15 := 0;
      let s : State := (let z : State := ((let z : State := runCore blank 0x2000; z.setCore 3 { z.core 3 with sw := BitVec.ofNat 36 1, tcause := 0 })).set (R.HND_PCMD_STATUS 3) 1; { z with handles := ⟨[], [], [], []⟩ });
      coreReady s core (hcmdWord cond d a 1 post rest) { legal := rest == 0 } = true ∧ post = true ∧
        s.get (R.HND_PCMD_STATUS core) = 1) ∧
    (let core : Fin 8 := 3; let cond : Fin 16 := 0; let d : Fin 16 := 4; let a : Fin 16 := 2;
      let post : Bool := true; let rest : BitVec 15 := 0;
      let s : State := (let z : State := ((let z : State := runCore blank 0x2000; z.setCore 3 { z.core 3 with sw := BitVec.ofNat 36 1, tcause := 0 })).set (R.HND_PCMD_STATUS 3) 1; { z with handles := ⟨[], [], [], []⟩ });
      coreReady s core (hcmdWord cond d a 2 post rest) { legal := rest == 0 } = true ∧ post = true ∧
        s.get (R.HND_PCMD_STATUS core) = 1) :=
  ⟨by decide +kernel, by decide +kernel, by decide +kernel, by decide +kernel⟩

/-- States and operands that meet the hypotheses of CoreLoads. -/
theorem witness_CoreLoads :
    (let core : Fin 8 := 3; let cond : Fin 16 := 0; let opnd : BitVec 26 := 897; let lit : Word := 0;
      let s : State := runCore blank 0x2000; let md : Nat := opField opnd 0 10;
      let a : Nat := (s.core core).ea (opField opnd 0 10) lit;
      coreReady s core (instrWord cond 8 opnd) (checksM opnd lit true (opField opnd 16 6 == 0)) = true ∧
        md = opField opnd 0 10 ∧ a = (s.core core).ea md lit ∧ mdImmediate md = true) ∧
    (let core : Fin 8 := 3; let cond : Fin 16 := 0; let opnd : BitVec 26 := 896; let lit : Word := 5;
      let s : State := (let z : State := (runCore blank 0x2000).raise (R.SPN_RSEL_EN 3); { z with spine := { z.spine with answers := (List.range 6).map fun i => (3, 0x800005 + i, some (BitVec.ofNat 36 (77 + i))) } });
      let md : Nat := opField opnd 0 10; let a : Nat := (s.core core).ea (opField opnd 0 10) lit;
      let w : Word := (loadGives s core a).getD 0;
      coreReady s core (instrWord cond 8 opnd) (checksM opnd lit true (opField opnd 16 6 == 0)) = true ∧
        md = opField opnd 0 10 ∧ a = (s.core core).ea md lit ∧ mdImmediate md = false ∧ loadGives s core a = some w) ∧
    (let core : Fin 8 := 3; let cond : Fin 16 := 0; let opnd : BitVec 26 := 897; let lit : Word := 0;
      let s : State := runCore blank 0x2000; let md : Nat := opField opnd 0 10;
      let a : Nat := (s.core core).ea (opField opnd 0 10) lit;
      coreReady s core (instrWord cond 10 opnd) (checksM opnd lit true (opField opnd 16 4 == 0)) = true ∧
        md = opField opnd 0 10 ∧ a = (s.core core).ea md lit ∧ mdImmediate md = true) ∧
    (let core : Fin 8 := 3; let cond : Fin 16 := 0; let opnd : BitVec 26 := 896; let lit : Word := 5;
      let s : State := (let z : State := (runCore blank 0x2000).raise (R.SPN_RSEL_EN 3); { z with spine := { z.spine with answers := (List.range 6).map fun i => (3, 0x800005 + i, some (BitVec.ofNat 36 (77 + i))) } });
      let md : Nat := opField opnd 0 10; let a : Nat := (s.core core).ea (opField opnd 0 10) lit;
      let w : Word := (loadGives s core a).getD 0;
      coreReady s core (instrWord cond 10 opnd) (checksM opnd lit true (opField opnd 16 4 == 0)) = true ∧
        md = opField opnd 0 10 ∧ a = (s.core core).ea md lit ∧ mdImmediate md = false ∧ loadGives s core a = some w) ∧
    (let core : Fin 8 := 3; let cond : Fin 16 := 0; let opnd : BitVec 26 := 896; let lit : Word := 6;
      let s : State := (let z : State := (runCore blank 0x2000).raise (R.SPN_RSEL_EN 3); { z with spine := { z.spine with answers := (List.range 6).map fun i => (3, 0x800005 + i, some (BitVec.ofNat 36 (77 + i))) } });
      let md : Nat := opField opnd 0 10; let a : Nat := (s.core core).ea (opField opnd 0 10) lit;
      let w : Word × Word := (loadsGive s core a (a + 1)).getD (0, 0);
      coreReady s core (instrWord cond 12 opnd) (checksM opnd lit false (opField opnd 16 6 == 0 && opField opnd 22 4 %
          2 == 0)) = true ∧ md = opField opnd 0 10 ∧ a = (s.core core).ea md lit ∧ a % 2 = 0 ∧
        loadsGive s core a (a + 1) = some w) :=
  ⟨by decide +kernel, by decide +kernel, by decide +kernel, by decide +kernel, by decide +kernel⟩

/-- States and operands that meet the hypotheses of CoreLoads, clauses from the 6th on. -/
theorem witness_CoreLoads_2 :
    (let core : Fin 8 := 3; let cond : Fin 16 := 0; let opnd : BitVec 26 := 896; let lit : Word := 5;
      let s : State := runCore blank 0x2000; let md : Nat := opField opnd 0 10;
      let a : Nat := (s.core core).ea (opField opnd 0 10) lit;
      coreReady s core (instrWord cond 12 opnd) (checksM opnd lit false (opField opnd 16 6 == 0 && opField opnd 22 4 %
          2 == 0)) = true ∧ md = opField opnd 0 10 ∧ a = (s.core core).ea md lit ∧ a % 2 = 1 ∧
        handlerFree (s.core core) = true) ∧
    (let core : Fin 8 := 3; let cond : Fin 16 := 0; let opnd : BitVec 26 := 896; let lit : Word := 5;
      let s : State := (let z : State := (runCore blank 0x2000).raise (R.SPN_RSEL_EN 3); { z with spine := { z.spine with answers := (List.range 6).map fun i => (3, 0x800005 + i, some (BitVec.ofNat 36 (77 + i))) } });
      let md : Nat := opField opnd 0 10; let a : Nat := (s.core core).ea (opField opnd 0 10) lit;
      let w : Word := (loadGives s core a).getD 0;
      coreReady s core (instrWord cond 27 opnd) (checksM opnd lit (decide (opField opnd 16 4 < 7)) (decide (opField
          opnd 20 6 ≤ 35) && decide (opField opnd 16 4 ≤ 11))) = true ∧ md = opField opnd 0 10 ∧
        a = (s.core core).ea md lit ∧ opField opnd 16 4 < 7 ∧ mdImmediate md = false ∧ loadGives s core a = some w) ∧
    (let core : Fin 8 := 3; let cond : Fin 16 := 0; let opnd : BitVec 26 := 897; let lit : Word := 0;
      let s : State := runCore blank 0x2000; let md : Nat := opField opnd 0 10;
      let a : Nat := (s.core core).ea (opField opnd 0 10) lit;
      coreReady s core (instrWord cond 27 opnd) (checksM opnd lit (decide (opField opnd 16 4 < 7)) (decide (opField
          opnd 20 6 ≤ 35) && decide (opField opnd 16 4 ≤ 11))) = true ∧ md = opField opnd 0 10 ∧
        a = (s.core core).ea md lit ∧ opField opnd 16 4 < 7 ∧ mdImmediate md = true) ∧
    (let core : Fin 8 := 3; let cond : Fin 16 := 0; let opnd : BitVec 26 := 896; let lit : Word := 0x450000;
      let s : State := (let z : State := (runCore blank 0x2000).raise (R.SPN_RSEL_EN 3); { z with spine := { z.spine with answers := [(3, 0x800020, none), (3, 0x800021, none), (3, 0x800022, none), (3, 0x800023, none)], requests := [⟨3, 0x800031, false, 2, 5, 0, 0⟩] } });
      let md : Nat := opField opnd 0 10; let a : Nat := (s.core core).ea (opField opnd 0 10) lit;
      coreReady s core (instrWord cond 8 opnd) (checksM opnd lit true (opField opnd 16 6 == 0)) = true ∧
        md = opField opnd 0 10 ∧ a = (s.core core).ea md lit ∧ mdImmediate md = false ∧ loadBus s core a = true ∧
        handlerFree (s.core core) = true) ∧
    (let core : Fin 8 := 3; let cond : Fin 16 := 0; let opnd : BitVec 26 := 896; let lit : Word := 0x800030;
      let s : State := (let z : State := (runCore blank 0x2000).raise (R.SPN_RSEL_EN 3); { z with spine := { z.spine with answers := [(3, 0x800020, none), (3, 0x800021, none), (3, 0x800022, none), (3, 0x800023, none)], requests := [⟨3, 0x800031, false, 2, 5, 0, 0⟩] } });
      let md : Nat := opField opnd 0 10; let a : Nat := (s.core core).ea (opField opnd 0 10) lit;
      coreReady s core (instrWord cond 8 opnd) (checksM opnd lit true (opField opnd 16 6 == 0)) = true ∧
        md = opField opnd 0 10 ∧ a = (s.core core).ea md lit ∧ mdImmediate md = false ∧ loadWaits s core a = true) :=
  ⟨by decide +kernel, by decide +kernel, by decide +kernel, by decide +kernel, by decide +kernel⟩

/-- States and operands that meet the hypotheses of CoreLoads, clauses from the 11th on. -/
theorem witness_CoreLoads_3 :
    (let core : Fin 8 := 3; let cond : Fin 16 := 0; let opnd : BitVec 26 := 896; let lit : Word := 0x450000;
      let s : State := (let z : State := (runCore blank 0x2000).raise (R.SPN_RSEL_EN 3); { z with spine := { z.spine with answers := [(3, 0x800020, none), (3, 0x800021, none), (3, 0x800022, none), (3, 0x800023, none)], requests := [⟨3, 0x800031, false, 2, 5, 0, 0⟩] } });
      let md : Nat := opField opnd 0 10; let a : Nat := (s.core core).ea (opField opnd 0 10) lit;
      coreReady s core (instrWord cond 10 opnd) (checksM opnd lit true (opField opnd 16 4 == 0)) = true ∧
        md = opField opnd 0 10 ∧ a = (s.core core).ea md lit ∧ mdImmediate md = false ∧ loadBus s core a = true ∧
        handlerFree (s.core core) = true) ∧
    (let core : Fin 8 := 3; let cond : Fin 16 := 0; let opnd : BitVec 26 := 896; let lit : Word := 0x800030;
      let s : State := (let z : State := (runCore blank 0x2000).raise (R.SPN_RSEL_EN 3); { z with spine := { z.spine with answers := [(3, 0x800020, none), (3, 0x800021, none), (3, 0x800022, none), (3, 0x800023, none)], requests := [⟨3, 0x800031, false, 2, 5, 0, 0⟩] } });
      let md : Nat := opField opnd 0 10; let a : Nat := (s.core core).ea (opField opnd 0 10) lit;
      coreReady s core (instrWord cond 10 opnd) (checksM opnd lit true (opField opnd 16 4 == 0)) = true ∧
        md = opField opnd 0 10 ∧ a = (s.core core).ea md lit ∧ mdImmediate md = false ∧ loadWaits s core a = true) ∧
    (let core : Fin 8 := 3; let cond : Fin 16 := 0; let opnd : BitVec 26 := 896; let lit : Word := 0x450000;
      let s : State := (let z : State := (runCore blank 0x2000).raise (R.SPN_RSEL_EN 3); { z with spine := { z.spine with answers := [(3, 0x800020, none), (3, 0x800021, none), (3, 0x800022, none), (3, 0x800023, none)], requests := [⟨3, 0x800031, false, 2, 5, 0, 0⟩] } });
      let md : Nat := opField opnd 0 10; let a : Nat := (s.core core).ea (opField opnd 0 10) lit;
      coreReady s core (instrWord cond 18 opnd) (checksRM opnd lit (decide (opField opnd 12 6 ≤ 26) && (!aluFlagsOnly
          (opField opnd 12 6) || opField opnd 22 4 == 0))) = true ∧ md = opField opnd 0 10 ∧
        a = (s.core core).ea md lit ∧ mdImmediate md = false ∧ loadBus s core a = true ∧
        handlerFree (s.core core) = true) ∧
    (let core : Fin 8 := 3; let cond : Fin 16 := 0; let opnd : BitVec 26 := 896; let lit : Word := 0x800030;
      let s : State := (let z : State := (runCore blank 0x2000).raise (R.SPN_RSEL_EN 3); { z with spine := { z.spine with answers := [(3, 0x800020, none), (3, 0x800021, none), (3, 0x800022, none), (3, 0x800023, none)], requests := [⟨3, 0x800031, false, 2, 5, 0, 0⟩] } });
      let md : Nat := opField opnd 0 10; let a : Nat := (s.core core).ea (opField opnd 0 10) lit;
      coreReady s core (instrWord cond 18 opnd) (checksRM opnd lit (decide (opField opnd 12 6 ≤ 26) && (!aluFlagsOnly
          (opField opnd 12 6) || opField opnd 22 4 == 0))) = true ∧ md = opField opnd 0 10 ∧
        a = (s.core core).ea md lit ∧ mdImmediate md = false ∧ loadWaits s core a = true) ∧
    (let core : Fin 8 := 3; let cond : Fin 16 := 0; let opnd : BitVec 26 := 896; let lit : Word := 0x450000;
      let s : State := (let z : State := (runCore blank 0x2000).raise (R.SPN_RSEL_EN 3); { z with spine := { z.spine with answers := [(3, 0x800020, none), (3, 0x800021, none), (3, 0x800022, none), (3, 0x800023, none)], requests := [⟨3, 0x800031, false, 2, 5, 0, 0⟩] } });
      let md : Nat := opField opnd 0 10; let a : Nat := (s.core core).ea (opField opnd 0 10) lit;
      coreReady s core (instrWord cond 21 opnd) (checksRM opnd lit (decide (opField opnd 12 6 ≤ 13) && !faluUnary
          (opField opnd 12 6) && (opField opnd 12 6 != 5 || opField opnd 22 4 == 0))) = true ∧
        md = opField opnd 0 10 ∧ a = (s.core core).ea md lit ∧ mdImmediate md = false ∧ loadBus s core a = true ∧
        handlerFree (s.core core) = true) :=
  ⟨by decide +kernel, by decide +kernel, by decide +kernel, by decide +kernel, by decide +kernel⟩

/-- States and operands that meet the hypotheses of CoreLoads, clauses from the 16th on. -/
theorem witness_CoreLoads_4 :
    (let core : Fin 8 := 3; let cond : Fin 16 := 0; let opnd : BitVec 26 := 896; let lit : Word := 0x800030;
      let s : State := (let z : State := (runCore blank 0x2000).raise (R.SPN_RSEL_EN 3); { z with spine := { z.spine with answers := [(3, 0x800020, none), (3, 0x800021, none), (3, 0x800022, none), (3, 0x800023, none)], requests := [⟨3, 0x800031, false, 2, 5, 0, 0⟩] } });
      let md : Nat := opField opnd 0 10; let a : Nat := (s.core core).ea (opField opnd 0 10) lit;
      coreReady s core (instrWord cond 21 opnd) (checksRM opnd lit (decide (opField opnd 12 6 ≤ 13) && !faluUnary
          (opField opnd 12 6) && (opField opnd 12 6 != 5 || opField opnd 22 4 == 0))) = true ∧
        md = opField opnd 0 10 ∧ a = (s.core core).ea md lit ∧ mdImmediate md = false ∧ loadWaits s core a = true) ∧
    (let core : Fin 8 := 3; let cond : Fin 16 := 0; let opnd : BitVec 26 := 896; let lit : Word := 0x450000;
      let s : State := (let z : State := (runCore blank 0x2000).raise (R.SPN_RSEL_EN 3); { z with spine := { z.spine with answers := [(3, 0x800020, none), (3, 0x800021, none), (3, 0x800022, none), (3, 0x800023, none)], requests := [⟨3, 0x800031, false, 2, 5, 0, 0⟩] } });
      let md : Nat := opField opnd 0 10; let a : Nat := (s.core core).ea (opField opnd 0 10) lit;
      coreReady s core (instrWord cond 27 opnd) (checksM opnd lit (decide (opField opnd 16 4 < 7)) (decide (opField
          opnd 20 6 ≤ 35) && decide (opField opnd 16 4 ≤ 11))) = true ∧ md = opField opnd 0 10 ∧
        a = (s.core core).ea md lit ∧ opField opnd 16 4 < 7 ∧ mdImmediate md = false ∧ loadBus s core a = true ∧
        handlerFree (s.core core) = true) ∧
    (let core : Fin 8 := 3; let cond : Fin 16 := 0; let opnd : BitVec 26 := 896; let lit : Word := 0x800030;
      let s : State := (let z : State := (runCore blank 0x2000).raise (R.SPN_RSEL_EN 3); { z with spine := { z.spine with answers := [(3, 0x800020, none), (3, 0x800021, none), (3, 0x800022, none), (3, 0x800023, none)], requests := [⟨3, 0x800031, false, 2, 5, 0, 0⟩] } });
      let md : Nat := opField opnd 0 10; let a : Nat := (s.core core).ea (opField opnd 0 10) lit;
      coreReady s core (instrWord cond 27 opnd) (checksM opnd lit (decide (opField opnd 16 4 < 7)) (decide (opField
          opnd 20 6 ≤ 35) && decide (opField opnd 16 4 ≤ 11))) = true ∧ md = opField opnd 0 10 ∧
        a = (s.core core).ea md lit ∧ opField opnd 16 4 < 7 ∧ mdImmediate md = false ∧ loadWaits s core a = true) :=
  ⟨by decide +kernel, by decide +kernel, by decide +kernel⟩

/-- States and operands that meet the hypotheses of CoreStores. -/
theorem witness_CoreStores :
    (let core : Fin 8 := 3; let cond : Fin 16 := 0; let opnd : BitVec 26 := 896; let lit : Word := 5;
      let s : State := runCore blank 0x2000; let md : Nat := opField opnd 0 10;
      let a : Nat := (s.core core).ea (opField opnd 0 10) lit;
      coreReady s core (instrWord cond 9 opnd) (checksM opnd lit false (opField opnd 16 6 == 0)) = true ∧
        md = opField opnd 0 10 ∧ a = (s.core core).ea md lit ∧ wordWritable s a = true) ∧
    (let core : Fin 8 := 3; let cond : Fin 16 := 0; let opnd : BitVec 26 := 896; let lit : Word := 0x450000;
      let s : State := runCore blank 0x2000; let md : Nat := opField opnd 0 10;
      let a : Nat := (s.core core).ea (opField opnd 0 10) lit;
      coreReady s core (instrWord cond 9 opnd) (checksM opnd lit false (opField opnd 16 6 == 0)) = true ∧
        md = opField opnd 0 10 ∧ a = (s.core core).ea md lit ∧ storeRefused s core a = true) ∧
    (let core : Fin 8 := 3; let cond : Fin 16 := 0; let opnd : BitVec 26 := 896; let lit : Word := 0x608005;
      let n : Nat := 5;
      let s : State := (let z : State := runCore blank 0x2000; { z with folio := { z.folio with content := some { smallContent with points := [⟨true, false, 5, 1, true, .unbound⟩, ⟨true, true, 5, 1, true, .unbound⟩] } } });
      let md : Nat := opField opnd 0 10; let a : Nat := (s.core core).ea (opField opnd 0 10) lit;
      let g : Bool := (imagePart a).2;
      coreReady s core (instrWord cond 9 opnd) (checksM opnd lit false (opField opnd 16 6 == 0)) = true ∧
        md = opField opnd 0 10 ∧ a = (s.core core).ea md lit ∧ regionOf a = .image ∧ imagePart a = (.value, g) ∧
        globalHidden s a (coreForeign s core) = false ∧ a = pointAddr true g n ∧ n < 32768 ∧
        ((pointOwner s true g n).any (fun p => p.cls == coreClass s core && p.out) = true) ∧
        coreWriter s core = .work ∧ coreClass s core < 8) ∧
    (let core : Fin 8 := 3; let cond : Fin 16 := 0; let opnd : BitVec 26 := 896; let lit : Word := 0x608005;
      let s : State := runCore blank 0x2000; let md : Nat := opField opnd 0 10;
      let a : Nat := (s.core core).ea (opField opnd 0 10) lit;
      coreReady s core (instrWord cond 9 opnd) (checksM opnd lit false (opField opnd 16 6 == 0)) = true ∧
        md = opField opnd 0 10 ∧ a = (s.core core).ea md lit ∧ regionOf a = .image ∧ (imagePart a).1 ≠ .reserved) ∧
    (let core : Fin 8 := 3; let cond : Fin 16 := 0; let opnd : BitVec 26 := 896; let lit : Word := 0x800030;
      let s : State := (runCore blank 0x2000).raise (R.SPN_RSEL_EN 3); let md : Nat := opField opnd 0 10;
      let a : Nat := (s.core core).ea (opField opnd 0 10) lit;
      coreReady s core (instrWord cond 9 opnd) (checksM opnd lit false (opField opnd 16 6 == 0)) = true ∧
        md = opField opnd 0 10 ∧ a = (s.core core).ea md lit ∧ regionOf a = .remote ∧
        s.flag (R.SPN_RSEL_EN core) = true) :=
  ⟨by decide +kernel, by decide +kernel, by decide +kernel, by decide +kernel, by decide +kernel⟩

/-- States and operands that meet the hypotheses of CoreStores, clauses from the 6th on. -/
theorem witness_CoreStores_2 :
    (let core : Fin 8 := 3; let cond : Fin 16 := 0; let opnd : BitVec 26 := 896; let lit : Word := 0xC01010;
      let s : State := runCore blank 0x2000; let md : Nat := opField opnd 0 10;
      let a : Nat := (s.core core).ea (opField opnd 0 10) lit;
      coreReady s core (instrWord cond 9 opnd) (checksM opnd lit false (opField opnd 16 6 == 0)) = true ∧
        md = opField opnd 0 10 ∧ a = (s.core core).ea md lit ∧ regionOf a = .regs) ∧
    (let core : Fin 8 := 3; let cond : Fin 16 := 0; let opnd : BitVec 26 := 896; let lit : Word := 5;
      let s : State := runCore blank 0x2000; let md : Nat := opField opnd 0 10;
      let a : Nat := (s.core core).ea (opField opnd 0 10) lit;
      coreReady s core (instrWord cond 11 opnd) (checksM opnd lit false (opField opnd 16 5 == 0)) = true ∧
        md = opField opnd 0 10 ∧ a = (s.core core).ea md lit ∧ wordWritable s a = true ∧ s.poisoned a = false) ∧
    (let core : Fin 8 := 3; let cond : Fin 16 := 0; let opnd : BitVec 26 := 896; let lit : Word := 0x800030;
      let s : State := (runCore blank 0x2000).raise (R.SPN_RSEL_EN 3); let md : Nat := opField opnd 0 10;
      let a : Nat := (s.core core).ea (opField opnd 0 10) lit;
      coreReady s core (instrWord cond 11 opnd) (checksM opnd lit false (opField opnd 16 5 == 0)) = true ∧
        md = opField opnd 0 10 ∧ a = (s.core core).ea md lit ∧ regionOf a = .remote ∧
        s.flag (R.SPN_RSEL_EN core) = true) ∧
    (let core : Fin 8 := 3; let cond : Fin 16 := 0; let opnd : BitVec 26 := 896; let lit : Word := 0x450000;
      let s : State := runCore blank 0x2000; let md : Nat := opField opnd 0 10;
      let a : Nat := (s.core core).ea (opField opnd 0 10) lit;
      coreReady s core (instrWord cond 11 opnd) (checksM opnd lit false (opField opnd 16 5 == 0)) = true ∧
        md = opField opnd 0 10 ∧ a = (s.core core).ea md lit ∧ storeRefused s core a = true ∧
        loadWaits s core a = false ∧ handlerFree (s.core core) = true) ∧
    (let core : Fin 8 := 3; let cond : Fin 16 := 0; let opnd : BitVec 26 := 896; let lit : Word := 6;
      let s : State := runCore blank 0x2000; let md : Nat := opField opnd 0 10;
      let a : Nat := (s.core core).ea (opField opnd 0 10) lit;
      coreReady s core (instrWord cond 13 opnd) (checksM opnd lit false (opField opnd 16 6 == 0 && opField opnd 22 4 %
          2 == 0)) = true ∧ md = opField opnd 0 10 ∧ a = (s.core core).ea md lit ∧ a % 2 = 0 ∧
        wordWritable s a = true ∧ wordWritable s (a + 1) = true) :=
  ⟨by decide +kernel, by decide +kernel, by decide +kernel, by decide +kernel, by decide +kernel⟩

/-- States and operands that meet the hypotheses of CoreStores, clauses from the 11th on. -/
theorem witness_CoreStores_3 :
    (let core : Fin 8 := 3; let cond : Fin 16 := 0; let opnd : BitVec 26 := 896; let lit : Word := 5;
      let s : State := runCore blank 0x2000; let md : Nat := opField opnd 0 10;
      let a : Nat := (s.core core).ea (opField opnd 0 10) lit;
      coreReady s core (instrWord cond 13 opnd) (checksM opnd lit false (opField opnd 16 6 == 0 && opField opnd 22 4 %
          2 == 0)) = true ∧ md = opField opnd 0 10 ∧ a = (s.core core).ea md lit ∧ a % 2 = 1 ∧
        handlerFree (s.core core) = true) ∧
    (let core : Fin 8 := 3; let cond : Fin 16 := 0; let opnd : BitVec 26 := 896; let lit : Word := 0x450000;
      let s : State := runCore blank 0x2000; let md : Nat := opField opnd 0 10;
      let a : Nat := (s.core core).ea (opField opnd 0 10) lit;
      coreReady s core (instrWord cond 13 opnd) (checksM opnd lit false (opField opnd 16 6 == 0 && opField opnd 22 4 %
          2 == 0)) = true ∧ md = opField opnd 0 10 ∧ a = (s.core core).ea md lit ∧ a % 2 = 0 ∧
        storeRefused s core a = true) ∧
    (let core : Fin 8 := 3; let cond : Fin 16 := 0; let opnd : BitVec 26 := 896; let lit : Word := 5;
      let s : State := runCore blank 0x2000; let md : Nat := opField opnd 0 10;
      let a : Nat := (s.core core).ea (opField opnd 0 10) lit; let f : Nat := opField opnd 16 2;
      coreReady s core (instrWord cond 14 opnd) (checksM opnd lit false true) = true ∧ md = opField opnd 0 10 ∧
        a = (s.core core).ea md lit ∧ atomRegion a = true ∧ f = opField opnd 16 2 ∧ f ≠ 1 ∧ wordWritable s a = true ∧
        s.poisoned a = false) ∧
    (let core : Fin 8 := 3; let cond : Fin 16 := 0; let opnd : BitVec 26 := 66432; let lit : Word := 5;
      let s : State := runCore blank 0x2000; let md : Nat := opField opnd 0 10;
      let a : Nat := (s.core core).ea (opField opnd 0 10) lit; let b : Word := (s.core core).gr (opField opnd 18 4);
      let r : AluRes := aluAdd (s.word a) b 0;
      coreReady s core (instrWord cond 14 opnd) (checksM opnd lit false true) = true ∧ md = opField opnd 0 10 ∧
        a = (s.core core).ea md lit ∧ atomRegion a = true ∧ opField opnd 16 2 = 1 ∧
        b = (s.core core).gr (opField opnd 18 4) ∧ r = aluAdd (s.word a) b 0 ∧
        (swBit (s.core core).sw swOVE && r.v == some true) = false ∧ wordWritable s a = true ∧ s.poisoned a = false) ∧
    (let core : Fin 8 := 3; let cond : Fin 16 := 0; let opnd : BitVec 26 := 896; let lit : Word := 0xC00000;
      let s : State := runCore blank 0x2000; let md : Nat := opField opnd 0 10;
      let a : Nat := (s.core core).ea (opField opnd 0 10) lit;
      coreReady s core (instrWord cond 14 opnd) (checksM opnd lit false true) = true ∧ md = opField opnd 0 10 ∧
        a = (s.core core).ea md lit ∧ (atomRegion a = false ∨ storeRefused s core a = true ∨
        loadBus s core a = true) ∧ handlerFree (s.core core) = true) :=
  ⟨by decide +kernel, by decide +kernel, by decide +kernel, by decide +kernel, by decide +kernel⟩

/-- States and operands that meet the hypotheses of CoreStores, clauses from the 16th on. -/
theorem witness_CoreStores_4 :
    (let core : Fin 8 := 3; let cond : Fin 16 := 0; let opnd : BitVec 26 := 459648; let lit : Word := 5;
      let s : State := runCore blank 0x2000; let md : Nat := opField opnd 0 10;
      let a : Nat := (s.core core).ea (opField opnd 0 10) lit;
      coreReady s core (instrWord cond 27 opnd) (checksM opnd lit (decide (opField opnd 16 4 < 7)) (decide (opField
          opnd 20 6 ≤ 35) && decide (opField opnd 16 4 ≤ 11))) = true ∧ md = opField opnd 0 10 ∧
        a = (s.core core).ea md lit ∧ 7 ≤ opField opnd 16 4 ∧ wordWritable s a = true ∧ s.poisoned a = false) ∧
    (let core : Fin 8 := 3; let cond : Fin 16 := 0; let opnd : BitVec 26 := 459648; let lit : Word := 0x800030;
      let s : State := (runCore blank 0x2000).raise (R.SPN_RSEL_EN 3); let md : Nat := opField opnd 0 10;
      let a : Nat := (s.core core).ea (opField opnd 0 10) lit;
      coreReady s core (instrWord cond 27 opnd) (checksM opnd lit (decide (opField opnd 16 4 < 7)) (decide (opField
          opnd 20 6 ≤ 35) && decide (opField opnd 16 4 ≤ 11))) = true ∧ md = opField opnd 0 10 ∧
        a = (s.core core).ea md lit ∧ 7 ≤ opField opnd 16 4 ∧ regionOf a = .remote ∧
        s.flag (R.SPN_RSEL_EN core) = true) ∧
    (let core : Fin 8 := 3; let cond : Fin 16 := 0; let opnd : BitVec 26 := 459648; let lit : Word := 0xC01010;
      let s : State := runCore blank 0x2000; let md : Nat := opField opnd 0 10;
      let a : Nat := (s.core core).ea (opField opnd 0 10) lit;
      coreReady s core (instrWord cond 27 opnd) (checksM opnd lit (decide (opField opnd 16 4 < 7)) (decide (opField
          opnd 20 6 ≤ 35) && decide (opField opnd 16 4 ≤ 11))) = true ∧ md = opField opnd 0 10 ∧
        a = (s.core core).ea md lit ∧ 7 ≤ opField opnd 16 4 ∧ regionOf a = .regs ∧ handlerFree (s.core core) = true) ∧
    (let core : Fin 8 := 3; let cond : Fin 16 := 0; let opnd : BitVec 26 := 5702528; let lit : Word := 0x600001;
      let s : State := (let z : State := runCore blank 0x2000; { z with folio := { z.folio with content := some { smallContent with points := [⟨false, false, 37, 1, true, .unbound⟩, ⟨false, true, 37, 1, true, .unbound⟩] } } });
      let md : Nat := opField opnd 0 10; let a : Nat := (s.core core).ea (opField opnd 0 10) lit;
      let g : Bool := (imagePart a).2;
      let n : Nat := 32 * (a - (if (imagePart a).2 then 0x620000 else 0x600000)) + opField opnd 20 6;
      coreReady s core (instrWord cond 27 opnd) (checksM opnd lit (decide (opField opnd 16 4 < 7)) (decide (opField
          opnd 20 6 ≤ 35) && decide (opField opnd 16 4 ≤ 11))) = true ∧ md = opField opnd 0 10 ∧
        a = (s.core core).ea md lit ∧ 7 ≤ opField opnd 16 4 ∧ bitPointWord a = true ∧ s.poisoned a = false ∧
        globalHidden s a (coreForeign s core) = false ∧ opField opnd 20 6 < 32 ∧
        (n = 32 * (a - (if g then 0x620000 else 0x600000)) + opField opnd 20 6) ∧ g = (imagePart a).2 ∧
        ((pointOwner s false g n).any (fun p => p.cls == coreClass s core && p.out) = true) ∧
        coreWriter s core = .work ∧ coreClass s core < 8) :=
  ⟨by decide +kernel, by decide +kernel, by decide +kernel, by decide +kernel⟩

/-- States and operands that meet the hypotheses of CoreStrings. -/
theorem witness_CoreStrings :
    (let core : Fin 8 := 3; let cond : Fin 16 := 0; let rest : BitVec 22 := 0;
      let s : State := (let z : State := (runCore blank 0x2000).raise (R.SPN_RSEL_EN 3); { z.setCore 3 ((z.core 3).setG 12 (BitVec.ofNat 36 0)) with spine := { z.spine with answers := [(3, 0x800006, some 77), (3, 0x800007, some 77)] } });
      coreReady s core (instrWord cond 36 (BitVec.ofNat 4 0 ++ rest)) { legal := rest == 0 } = true ∧
        (s.core core).gr 12 = 0) ∧
    (let core : Fin 8 := 3; let cond : Fin 16 := 0; let rest : BitVec 22 := 0;
      let s : State := (let z : State := (runCore blank 0x2000).raise (R.SPN_RSEL_EN 3); { z.setCore 3 ((z.core 3).setG 12 (BitVec.ofNat 36 0)) with spine := { z.spine with answers := [(3, 0x800006, some 77), (3, 0x800007, some 77)] } });
      coreReady s core (instrWord cond 36 (BitVec.ofNat 4 1 ++ rest)) { legal := rest == 0 } = true ∧
        (s.core core).gr 12 = 0) ∧
    (let core : Fin 8 := 3; let cond : Fin 16 := 0; let rest : BitVec 22 := 0;
      let s : State := (let z : State := (runCore blank 0x2000).raise (R.SPN_RSEL_EN 3); { z.setCore 3 ((z.core 3).setG 12 (BitVec.ofNat 36 0)) with spine := { z.spine with answers := [(3, 0x800006, some 77), (3, 0x800007, some 77)] } });
      coreReady s core (instrWord cond 36 (BitVec.ofNat 4 2 ++ rest)) { legal := rest == 0 } = true ∧
        (s.core core).gr 12 = 0) ∧
    (let core : Fin 8 := 3; let cond : Fin 16 := 0; let rest : BitVec 22 := 0;
      let s : State := (let z : State := (runCore blank 0x2000).raise (R.SPN_RSEL_EN 3); { z.setCore 3 ((z.core 3).setG 12 (BitVec.ofNat 36 0)) with spine := { z.spine with answers := [(3, 0x800006, some 77), (3, 0x800007, some 77)] } });
      coreReady s core (instrWord cond 36 (BitVec.ofNat 4 3 ++ rest)) { legal := rest == 0 } = true ∧
        (s.core core).gr 12 = 0) ∧
    (let core : Fin 8 := 3; let cond : Fin 16 := 0; let rest : BitVec 22 := 0;
      let s : State := (let z : State := (let z : State := (runCore blank 0x2000).raise (R.SPN_RSEL_EN 3); { z.setCore 3 ((z.core 3).setG 12 (BitVec.ofNat 36 5)) with spine := { z.spine with answers := [(3, 0x800006, some 77), (3, 0x800007, some 77)] } }); let k := z.core 3; z.setCore 3 ((k.setX 6 (BitVec.ofNat 24 (#[0x100, 0x500010, 0x44F010, 0x608001, 0x800006, 0xC01010].getD ((k.xn 6).toNat % 6) 0))).setX 7 (BitVec.ofNat 24 (#[0x105, 0x500012, 0x44F015, 0x419011].getD ((k.xn 7).toNat % 4) 0))));
      let a : Nat := ((s.core core).xn 6).toNat; let b : Nat := ((s.core core).xn 7).toNat;
      let w : Word := (loadGives s core a).getD 0;
      coreReady s core (instrWord cond 36 (BitVec.ofNat 4 0 ++ rest)) { legal := rest == 0 } = true ∧
        (s.core core).gr 12 ≠ 0 ∧ a = ((s.core core).xn 6).toNat ∧ b = ((s.core core).xn 7).toNat ∧
        loadGives s core a = some w ∧ wordWritable s b = true) :=
  ⟨by decide +kernel, by decide +kernel, by decide +kernel, by decide +kernel, by decide +kernel⟩

/-- States and operands that meet the hypotheses of CoreStrings, clauses from the 6th on. -/
theorem witness_CoreStrings_2 :
    (let core : Fin 8 := 3; let cond : Fin 16 := 0; let rest : BitVec 22 := 0;
      let s : State := (let z : State := (let z : State := (runCore blank 0x2000).raise (R.SPN_RSEL_EN 3); { z.setCore 3 ((z.core 3).setG 12 (BitVec.ofNat 36 1)) with spine := { z.spine with answers := [(3, 0x800006, some 77), (3, 0x800007, some 77)] } }); let k := z.core 3; z.setCore 3 ((k.setX 6 (BitVec.ofNat 24 (#[0x100, 0x500010, 0x44F010, 0x608001, 0x800006, 0xC01010].getD ((k.xn 6).toNat % 6) 0))).setX 7 (BitVec.ofNat 24 (#[0x105, 0x500012, 0x44F015, 0x419011].getD ((k.xn 7).toNat % 4) 0))));
      let a : Nat := ((s.core core).xn 6).toNat; let b : Nat := ((s.core core).xn 7).toNat;
      let w : Word := (loadGives s core a).getD 0;
      coreReady s core (instrWord cond 36 (BitVec.ofNat 4 0 ++ rest)) { legal := rest == 0 } = true ∧
        (s.core core).gr 12 = 1 ∧ a = ((s.core core).xn 6).toNat ∧ b = ((s.core core).xn 7).toNat ∧
        loadGives s core a = some w ∧ wordWritable s b = true) ∧
    (let core : Fin 8 := 3; let cond : Fin 16 := 0; let rest : BitVec 22 := 0;
      let s : State := (let z : State := (let z : State := (runCore blank 0x2000).raise (R.SPN_RSEL_EN 3); { z.setCore 3 ((z.core 3).setG 12 (BitVec.ofNat 36 5)) with spine := { z.spine with answers := [(3, 0x800006, some 77), (3, 0x800007, some 77)] } }); z.setCore 3 (((z.core 3).setX 6 (BitVec.ofNat 24 (0x3F0000))).setX 7 (BitVec.ofNat 24 (5))));
      let a : Nat := ((s.core core).xn 6).toNat;
      coreReady s core (instrWord cond 36 (BitVec.ofNat 4 0 ++ rest)) { legal := rest == 0 } = true ∧
        (s.core core).gr 12 ≠ 0 ∧ a = ((s.core core).xn 6).toNat ∧ loadBus s core a = true ∧
        handlerFree (s.core core) = true) ∧
    (let core : Fin 8 := 3; let cond : Fin 16 := 0; let rest : BitVec 22 := 0;
      let s : State := (let z : State := (let z : State := (runCore blank 0x2000).raise (R.SPN_RSEL_EN 3); { z.setCore 3 ((z.core 3).setG 12 (BitVec.ofNat 36 5)) with spine := { z.spine with answers := [(3, 0x800006, some 77), (3, 0x800007, some 77)] } }); z.setCore 3 (((z.core 3).setX 6 (BitVec.ofNat 24 (0x800055))).setX 7 (BitVec.ofNat 24 (5))));
      let a : Nat := ((s.core core).xn 6).toNat;
      coreReady s core (instrWord cond 36 (BitVec.ofNat 4 0 ++ rest)) { legal := rest == 0 } = true ∧
        (s.core core).gr 12 ≠ 0 ∧ a = ((s.core core).xn 6).toNat ∧ loadWaits s core a = true) ∧
    (let core : Fin 8 := 3; let cond : Fin 16 := 0; let rest : BitVec 22 := 0;
      let s : State := (let z : State := (let z : State := (runCore blank 0x2000).raise (R.SPN_RSEL_EN 3); { z.setCore 3 ((z.core 3).setG 12 (BitVec.ofNat 36 5)) with spine := { z.spine with answers := [(3, 0x800006, some 77), (3, 0x800007, some 77)] } }); let k := z.core 3; z.setCore 3 ((k.setX 6 (BitVec.ofNat 24 (#[0x100, 0x500010, 0x44F010, 0x608001, 0x800006, 0xC01010].getD ((k.xn 6).toNat % 6) 0))).setX 7 (BitVec.ofNat 24 (#[0x105, 0x500012, 0x44F015, 0x419011].getD ((k.xn 7).toNat % 4) 0))));
      let b : Nat := ((s.core core).xn 7).toNat;
      coreReady s core (instrWord cond 36 (BitVec.ofNat 4 1 ++ rest)) { legal := rest == 0 } = true ∧
        (s.core core).gr 12 ≠ 0 ∧ b = ((s.core core).xn 7).toNat ∧ wordWritable s b = true) ∧
    (let core : Fin 8 := 3; let cond : Fin 16 := 0; let rest : BitVec 22 := 0;
      let s : State := (let z : State := (let z : State := (runCore blank 0x2000).raise (R.SPN_RSEL_EN 3); { z.setCore 3 ((z.core 3).setG 12 (BitVec.ofNat 36 1)) with spine := { z.spine with answers := [(3, 0x800006, some 77), (3, 0x800007, some 77)] } }); let k := z.core 3; z.setCore 3 ((k.setX 6 (BitVec.ofNat 24 (#[0x100, 0x500010, 0x44F010, 0x608001, 0x800006, 0xC01010].getD ((k.xn 6).toNat % 6) 0))).setX 7 (BitVec.ofNat 24 (#[0x105, 0x500012, 0x44F015, 0x419011].getD ((k.xn 7).toNat % 4) 0))));
      let b : Nat := ((s.core core).xn 7).toNat;
      coreReady s core (instrWord cond 36 (BitVec.ofNat 4 1 ++ rest)) { legal := rest == 0 } = true ∧
        (s.core core).gr 12 = 1 ∧ b = ((s.core core).xn 7).toNat ∧ wordWritable s b = true) :=
  ⟨by decide +kernel, by decide +kernel, by decide +kernel, by decide +kernel, by decide +kernel⟩

/-- States and operands that meet the hypotheses of CoreStrings, clauses from the 11th on. -/
theorem witness_CoreStrings_3 :
    (let core : Fin 8 := 3; let cond : Fin 16 := 0; let rest : BitVec 22 := 0;
      let s : State := (let z : State := (let z : State := (runCore blank 0x2000).raise (R.SPN_RSEL_EN 3); { z.setCore 3 ((z.core 3).setG 12 (BitVec.ofNat 36 5)) with spine := { z.spine with answers := [(3, 0x800006, some 77), (3, 0x800007, some 77)] } }); z.setCore 3 (((z.core 3).setX 6 (BitVec.ofNat 24 (5))).setX 7 (BitVec.ofNat 24 (0x3F0000))));
      let b : Nat := ((s.core core).xn 7).toNat;
      coreReady s core (instrWord cond 36 (BitVec.ofNat 4 1 ++ rest)) { legal := rest == 0 } = true ∧
        (s.core core).gr 12 ≠ 0 ∧ b = ((s.core core).xn 7).toNat ∧ storeRefused s core b = true ∧
        handlerFree (s.core core) = true) ∧
    (let core : Fin 8 := 3; let cond : Fin 16 := 0; let rest : BitVec 22 := 0;
      let s : State := (let z : State := (let z : State := (runCore blank 0x2000).raise (R.SPN_RSEL_EN 3); { z.setCore 3 ((z.core 3).setG 12 (BitVec.ofNat 36 5)) with spine := { z.spine with answers := [(3, 0x800006, some 77), (3, 0x800007, some 77)] } }); z.setCore 3 (((z.core 3).setX 6 (BitVec.ofNat 24 (5))).setX 7 (BitVec.ofNat 24 (0x800055))));
      let b : Nat := ((s.core core).xn 7).toNat;
      coreReady s core (instrWord cond 36 (BitVec.ofNat 4 1 ++ rest)) { legal := rest == 0 } = true ∧
        (s.core core).gr 12 ≠ 0 ∧ b = ((s.core core).xn 7).toNat ∧ regionOf b = .remote ∧
        s.flag (R.SPN_RSEL_EN core) = true) ∧
    (let core : Fin 8 := 3; let cond : Fin 16 := 0; let rest : BitVec 22 := 0;
      let s : State := (let z : State := (let z : State := (runCore blank 0x2000).raise (R.SPN_RSEL_EN 3); { z.setCore 3 ((z.core 3).setG 12 (BitVec.ofNat 36 5)) with spine := { z.spine with answers := [(3, 0x800006, some 77), (3, 0x800007, some 77)] } }); z.setCore 3 (((z.core 3).setX 6 (BitVec.ofNat 24 (5))).setX 7 (BitVec.ofNat 24 (0x608001))));
      let b : Nat := ((s.core core).xn 7).toNat;
      coreReady s core (instrWord cond 36 (BitVec.ofNat 4 1 ++ rest)) { legal := rest == 0 } = true ∧
        (s.core core).gr 12 ≠ 0 ∧ b = ((s.core core).xn 7).toNat ∧ regionOf b = .image ∧ (imagePart b).1 ≠ .reserved) ∧
    (let core : Fin 8 := 3; let cond : Fin 16 := 0; let rest : BitVec 22 := 0;
      let s : State := (let z : State := (let z : State := (runCore blank 0x2000).raise (R.SPN_RSEL_EN 3); { z.setCore 3 ((z.core 3).setG 12 (BitVec.ofNat 36 5)) with spine := { z.spine with answers := [(3, 0x800006, some 77), (3, 0x800007, some 77)] } }); z.setCore 3 (((z.core 3).setX 6 (BitVec.ofNat 24 (5))).setX 7 (BitVec.ofNat 24 (0xC01010))));
      let b : Nat := ((s.core core).xn 7).toNat;
      coreReady s core (instrWord cond 36 (BitVec.ofNat 4 1 ++ rest)) { legal := rest == 0 } = true ∧
        (s.core core).gr 12 ≠ 0 ∧ b = ((s.core core).xn 7).toNat ∧ regionOf b = .regs) ∧
    (let core : Fin 8 := 3; let cond : Fin 16 := 0; let rest : BitVec 22 := 0;
      let s : State := (let z : State := (let z : State := (runCore blank 0x2000).raise (R.SPN_RSEL_EN 3); { z.setCore 3 ((z.core 3).setG 12 (BitVec.ofNat 36 (1 + (z.core 3).pc.toNat % 2))) with spine := { z.spine with answers := [(3, 0x800006, some 77), (3, 0x800007, some 77)] } }); let k := z.core 3; z.setCore 3 ((k.setX 6 (BitVec.ofNat 24 (#[0x100, 0x500010, 0x44F010, 0x608001, 0x800006, 0xC01010].getD ((k.xn 6).toNat % 6) 0))).setX 7 (BitVec.ofNat 24 (#[0x105, 0x500012, 0x44F015, 0x419011].getD ((k.xn 7).toNat % 4) 0))));
      let a : Nat := ((s.core core).xn 6).toNat; let b : Nat := ((s.core core).xn 7).toNat;
      let w : Word × Word := (loadsGive s core a b).getD (0, 0);
      coreReady s core (instrWord cond 36 (BitVec.ofNat 4 2 ++ rest)) { legal := rest == 0 } = true ∧
        (s.core core).gr 12 ≠ 0 ∧ a = ((s.core core).xn 6).toNat ∧ b = ((s.core core).xn 7).toNat ∧
        loadsGive s core a b = some w ∧ w.1 = w.2) :=
  ⟨by decide +kernel, by decide +kernel, by decide +kernel, by decide +kernel, by decide +kernel⟩

/-- States and operands that meet the hypotheses of CoreStrings, clauses from the 16th on. -/
theorem witness_CoreStrings_4 :
    (let core : Fin 8 := 3; let cond : Fin 16 := 0; let rest : BitVec 22 := 0;
      let s : State := (let z : State := (let z : State := (runCore blank 0x2000).raise (R.SPN_RSEL_EN 3); { z.setCore 3 ((z.core 3).setG 12 (BitVec.ofNat 36 5)) with spine := { z.spine with answers := [(3, 0x800006, some 77), (3, 0x800007, some 77)] } }); ({ z with mem := [(9, 7), (10, 3)] }).setCore 3 (((z.core 3).setX 6 9).setX 7 (BitVec.ofNat 24 10)));
      let a : Nat := ((s.core core).xn 6).toNat; let b : Nat := ((s.core core).xn 7).toNat;
      let w : Word × Word := (loadsGive s core a b).getD (0, 0);
      coreReady s core (instrWord cond 36 (BitVec.ofNat 4 2 ++ rest)) { legal := rest == 0 } = true ∧
        (s.core core).gr 12 ≠ 0 ∧ a = ((s.core core).xn 6).toNat ∧ b = ((s.core core).xn 7).toNat ∧
        loadsGive s core a b = some w ∧ w.1 ≠ w.2) ∧
    (let core : Fin 8 := 3; let cond : Fin 16 := 0; let rest : BitVec 22 := 0;
      let s : State := (let z : State := (let z : State := (runCore blank 0x2000).raise (R.SPN_RSEL_EN 3); { z.setCore 3 ((z.core 3).setG 12 (BitVec.ofNat 36 5)) with spine := { z.spine with answers := [(3, 0x800006, some 77), (3, 0x800007, some 77)] } }); z.setCore 3 (((z.core 3).setX 6 (BitVec.ofNat 24 (0x3F0000))).setX 7 (BitVec.ofNat 24 (5))));
      let a : Nat := ((s.core core).xn 6).toNat;
      coreReady s core (instrWord cond 36 (BitVec.ofNat 4 2 ++ rest)) { legal := rest == 0 } = true ∧
        (s.core core).gr 12 ≠ 0 ∧ a = ((s.core core).xn 6).toNat ∧ loadBus s core a = true ∧
        loadWaits s core ((s.core core).xn 7).toNat = false ∧ handlerFree (s.core core) = true) ∧
    (let core : Fin 8 := 3; let cond : Fin 16 := 0; let rest : BitVec 22 := 0;
      let s : State := (let z : State := (let z : State := (runCore blank 0x2000).raise (R.SPN_RSEL_EN 3); { z.setCore 3 ((z.core 3).setG 12 (BitVec.ofNat 36 5)) with spine := { z.spine with answers := [(3, 0x800006, some 77), (3, 0x800007, some 77)] } }); z.setCore 3 ((z.core 3).setG 13 (z.word ((z.core 3).xn 6).toNat)));
      let a : Nat := ((s.core core).xn 6).toNat; let w : Word := (loadGives s core a).getD 0;
      coreReady s core (instrWord cond 36 (BitVec.ofNat 4 3 ++ rest)) { legal := rest == 0 } = true ∧
        (s.core core).gr 12 ≠ 0 ∧ a = ((s.core core).xn 6).toNat ∧ loadGives s core a = some w ∧
        w = (s.core core).gr 13) ∧
    (let core : Fin 8 := 3; let cond : Fin 16 := 0; let rest : BitVec 22 := 0;
      let s : State := (let z : State := (let z : State := (let z : State := (runCore blank 0x2000).raise (R.SPN_RSEL_EN 3); { z.setCore 3 ((z.core 3).setG 12 (BitVec.ofNat 36 (1 + (z.core 3).pc.toNat % 2))) with spine := { z.spine with answers := [(3, 0x800006, some 77), (3, 0x800007, some 77)] } }); let k := z.core 3; z.setCore 3 ((k.setX 6 (BitVec.ofNat 24 (#[0x100, 0x500010, 0x44F010, 0x608001, 0x800006, 0xC01010].getD ((k.xn 6).toNat % 6) 0))).setX 7 (BitVec.ofNat 24 (#[0x105, 0x500012, 0x44F015, 0x419011].getD ((k.xn 7).toNat % 4) 0)))); z.setCore 3 ((z.core 3).setG 13 76));
      let a : Nat := ((s.core core).xn 6).toNat; let w : Word := (loadGives s core a).getD 0;
      coreReady s core (instrWord cond 36 (BitVec.ofNat 4 3 ++ rest)) { legal := rest == 0 } = true ∧
        (s.core core).gr 12 ≠ 0 ∧ a = ((s.core core).xn 6).toNat ∧ loadGives s core a = some w ∧
        w ≠ (s.core core).gr 13) ∧
    (let core : Fin 8 := 3; let cond : Fin 16 := 0; let rest : BitVec 22 := 0;
      let s : State := (let z : State := (let z : State := (runCore blank 0x2000).raise (R.SPN_RSEL_EN 3); { z.setCore 3 ((z.core 3).setG 12 (BitVec.ofNat 36 5)) with spine := { z.spine with answers := [(3, 0x800006, some 77), (3, 0x800007, some 77)] } }); z.setCore 3 (((z.core 3).setX 6 (BitVec.ofNat 24 (0x3F0000))).setX 7 (BitVec.ofNat 24 (5))));
      let a : Nat := ((s.core core).xn 6).toNat;
      coreReady s core (instrWord cond 36 (BitVec.ofNat 4 3 ++ rest)) { legal := rest == 0 } = true ∧
        (s.core core).gr 12 ≠ 0 ∧ a = ((s.core core).xn 6).toNat ∧ loadBus s core a = true ∧
        handlerFree (s.core core) = true) :=
  ⟨by decide +kernel, by decide +kernel, by decide +kernel, by decide +kernel, by decide +kernel⟩

/-- States and operands that meet the hypotheses of CoreStrings, clauses from the 21th on. -/
theorem witness_CoreStrings_5 :
    (let core : Fin 8 := 3; let cond : Fin 16 := 0; let rest : BitVec 22 := 0;
      let s : State := (let z : State := (let z : State := (runCore blank 0x2000).raise (R.SPN_RSEL_EN 3); { z.setCore 3 ((z.core 3).setG 12 (BitVec.ofNat 36 5)) with spine := { z.spine with answers := [(3, 0x800006, some 77), (3, 0x800007, some 77)] } }); z.setCore 3 (((z.core 3).setX 6 (BitVec.ofNat 24 (0x800055))).setX 7 (BitVec.ofNat 24 (5))));
      let a : Nat := ((s.core core).xn 6).toNat;
      coreReady s core (instrWord cond 36 (BitVec.ofNat 4 3 ++ rest)) { legal := rest == 0 } = true ∧
        (s.core core).gr 12 ≠ 0 ∧ a = ((s.core core).xn 6).toNat ∧ loadWaits s core a = true) := by
  decide +kernel

/-- States and operands that meet the hypotheses of PlacementChanges. -/
theorem witness_PlacementChanges :
    (let c : FolioContent := smallContent;
      let s : State := (let z : State := ((((olcState' blank .run 0).set R.IMP_XCFG_FREEZE 1).set R.SYS_STATE_DEFER 0).setReg (R.IMP_XPIN_STATE 0).addr 0).set R.OLC_LAST_AT 5; { z with regs := z.regs.filter (fun p => !(decide ((R.IMP_XPIN_STATE 0).addr ≤ p.1) && decide (p.1 < (R.IMP_XPIN_STATE 0).addr + 2048))), cycle := { z.cycle with stopping := false }, power := { z.power with pfStep := 0 }, olc := State.reset.olc, imposer := { ImposerSt.fresh with sheet := [⟨3, 3, 0, false, false, false, 0, 0, 0, 0x200, 1, 0, 0, []⟩], lossNew := true } });
      s.dev = .run ∧ s.content = some c ∧ s.primary = true ∧ inGap s = true ∧ s.flag R.SYS_STATE_DEFER = false ∧
        s.power.pfStep = 0 ∧ s.cycle.stopping = false ∧ s.flag R.IMP_XCFG_FREEZE = true) ∧
    (let tr : Fin 16 := 2; let mv : List (Nat × Nat × Nat) := [(1, 0, 3)];
      let c : FolioContent := { smallContent with cores := [{ evUnit with event := none }, { evUnit with event := none, id := 10 }] };
      let s : State := (let z : State := ((let z : State := ((((olcState' blank .run 0).set R.IMP_XCFG_FREEZE 0).set R.SYS_STATE_DEFER 0).setReg (R.IMP_XPIN_STATE 0).addr 0).set R.OLC_LAST_AT 5; { z with regs := z.regs.filter (fun p => !(decide ((R.IMP_XPIN_STATE 0).addr ≤ p.1) && decide (p.1 < (R.IMP_XPIN_STATE 0).addr + 2048))), cycle := { z.cycle with stopping := false }, power := { z.power with pfStep := 0 }, olc := State.reset.olc, imposer := { ImposerSt.fresh with sheet := [⟨1, 9, 1, false, false, false, 0, 0, 3, 0x100, 0, 0, 0, []⟩, ⟨1, 10, 1, false, false, false, 0, 0, 5, 0x180, 0, 0, 0, []⟩], boundary := 1000000 } })).raise R.CLK_NAP_PGATE |>.set R.IMP_XCFG_HOLD 1 |>.set R.IMP_XCFG_NOREMOTE 0; { z with folio := { z.folio with content := some { smallContent with cores := [{ evUnit with event := none }, { evUnit with event := none, id := 10 }] } } });
      let u : State := searchState s c; let new : List SheetEntry := (moveAll u c tr mv u.imposer.sheet).getD [];
      s.dev = .run ∧ s.content = some c ∧ s.primary = true ∧ inGap s = true ∧ s.flag R.SYS_STATE_DEFER = false ∧
        s.power.pfStep = 0 ∧ s.cycle.stopping = false ∧ s.flag R.IMP_XCFG_FREEZE = false ∧ u = searchState s c ∧
        u.imposer.lossDue = false ∧ pendingPins u = [] ∧ (tr = 2 ∨ tr = 3 ∨ tr = 4) ∧ u.imposer.prepared = none ∧
        u.olc.staged = none ∧ mv ≠ [] ∧ moveAll u c tr mv u.imposer.sheet = some new ∧ mv.all (holdMet u ·) = true ∧
        gainEnough (u.draw.2.draw.2.set R.IMP_STAT_TRIG tr) c new tr (u.draw.1, u.draw.2.draw.1) = true ∧
        timingFits u c new (u.get R.IMP_XCFG_MARGIN) = true) ∧
    (let tr : Fin 16 := 2; let mv : List (Nat × Nat × Nat) := [(1, 0, 9)];
      let c : FolioContent := { smallContent with cores := [{ evUnit with event := none }, { evUnit with event := none, id := 10 }] };
      let s : State := (let z : State := ((let z : State := ((((olcState' blank .run 0).set R.IMP_XCFG_FREEZE 0).set R.SYS_STATE_DEFER 0).setReg (R.IMP_XPIN_STATE 0).addr 0).set R.OLC_LAST_AT 5; { z with regs := z.regs.filter (fun p => !(decide ((R.IMP_XPIN_STATE 0).addr ≤ p.1) && decide (p.1 < (R.IMP_XPIN_STATE 0).addr + 2048))), cycle := { z.cycle with stopping := false }, power := { z.power with pfStep := 0 }, olc := State.reset.olc, imposer := { ImposerSt.fresh with sheet := [⟨1, 9, 1, false, false, false, 0, 0, 3, 0x100, 0, 0, 0, []⟩, ⟨1, 10, 1, false, false, false, 0, 0, 5, 0x180, 0, 0, 0, []⟩], boundary := 1000000 } })).raise R.CLK_NAP_PGATE |>.set R.IMP_XCFG_HOLD 1 |>.set R.IMP_XCFG_NOREMOTE 0; { z with folio := { z.folio with content := some { smallContent with cores := [{ evUnit with event := none }, { evUnit with event := none, id := 10 }] } } });
      let u : State := searchState s c;
      s.dev = .run ∧ s.content = some c ∧ s.primary = true ∧ inGap s = true ∧ s.flag R.SYS_STATE_DEFER = false ∧
        s.power.pfStep = 0 ∧ s.cycle.stopping = false ∧ s.flag R.IMP_XCFG_FREEZE = false ∧ u = searchState s c ∧
        u.imposer.lossDue = false ∧ pendingPins u = [] ∧ (tr = 2 ∨ tr = 3 ∨ tr = 4) ∧ u.imposer.prepared = none ∧
        u.olc.staged = none ∧ moveAll u c tr mv u.imposer.sheet = none) ∧
    (let c : FolioContent := { smallContent with fabrics := [fabUnit] };
      let s : State := (let z : State := ((let z : State := ((((olcState' blank .run 0).set R.IMP_XCFG_FREEZE 0).set R.SYS_STATE_DEFER 0).setReg (R.IMP_XPIN_STATE 0).addr 0).set R.OLC_LAST_AT 5; { z with regs := z.regs.filter (fun p => !(decide ((R.IMP_XPIN_STATE 0).addr ≤ p.1) && decide (p.1 < (R.IMP_XPIN_STATE 0).addr + 2048))), cycle := { z.cycle with stopping := false }, power := { z.power with pfStep := 0 }, olc := State.reset.olc, imposer := { ImposerSt.fresh with sheet := [⟨2, 4, 1, false, false, false, 0, 0, 2, 0, 0, 0, 0, []⟩], lossDue := true, lossNew := true } })).set R.FAB_STAT_DIS 255; { z with folio := { z.folio with content := some { smallContent with fabrics := [fabUnit] } } });
      let u : State := searchState s c;
      s.dev = .run ∧ s.content = some c ∧ s.primary = true ∧ inGap s = true ∧ s.flag R.SYS_STATE_DEFER = false ∧
        s.power.pfStep = 0 ∧ s.cycle.stopping = false ∧ s.flag R.IMP_XCFG_FREEZE = false ∧ u = searchState s c ∧
        u.imposer.lossDue = true ∧ (lossFound u c).2.1 = [] ∧ (lossFound u c).2.2 = true) ∧
    (let c : FolioContent := smallContent; let i : Nat := 0;
      let s : State := ((let z : State := ((((olcState' blank .run 0).set R.IMP_XCFG_FREEZE 0).set R.SYS_STATE_DEFER 0).setReg (R.IMP_XPIN_STATE 0).addr 0).set R.OLC_LAST_AT 5; { z with regs := z.regs.filter (fun p => !(decide ((R.IMP_XPIN_STATE 0).addr ≤ p.1) && decide (p.1 < (R.IMP_XPIN_STATE 0).addr + 2048))), cycle := { z.cycle with stopping := false }, power := { z.power with pfStep := 0 }, olc := State.reset.olc, imposer := { ImposerSt.fresh with sheet := [⟨3, 3, 0, false, false, false, 0, 0, 0, 0x200, 1, 0, 0, []⟩] } })).setReg (R.IMP_XPIN_STATE 0).addr (BitVec.ofNat 36 (2 ^ 34 + 2 ^ 33));
      let u : State := searchState s c;
      let e : SheetEntry := (u.imposer.sheet[i]?).getD ⟨3, 3, 0, false, false, false, 0, 0, 0, 0x200, 1, 0, 0, []⟩;
      s.dev = .run ∧ s.content = some c ∧ s.primary = true ∧ inGap s = true ∧ s.flag R.SYS_STATE_DEFER = false ∧
        s.power.pfStep = 0 ∧ s.cycle.stopping = false ∧ s.flag R.IMP_XCFG_FREEZE = false ∧ u = searchState s c ∧
        u.imposer.lossDue = false ∧ pendingPins u = [i] ∧ u.imposer.sheet[i]? = some e ∧
        e.key = devCode (u.get (R.IMP_XPIN_DEV i)) * 16 + u.get (R.IMP_XPIN_PLACE i) ∧ i < 2048) :=
  ⟨by decide +kernel, by decide +kernel, by decide +kernel, by decide +kernel, by decide +kernel⟩

/-- States and operands that meet the hypotheses of PlacementChanges, clauses from the 6th on. -/
theorem witness_PlacementChanges_2 :
    (let c : FolioContent := smallContent; let i : Nat := 7;
      let s : State := ((let z : State := ((((olcState' blank .run 0).set R.IMP_XCFG_FREEZE 0).set R.SYS_STATE_DEFER 0).setReg (R.IMP_XPIN_STATE 0).addr 0).set R.OLC_LAST_AT 5; { z with regs := z.regs.filter (fun p => !(decide ((R.IMP_XPIN_STATE 0).addr ≤ p.1) && decide (p.1 < (R.IMP_XPIN_STATE 0).addr + 2048))), cycle := { z.cycle with stopping := false }, power := { z.power with pfStep := 0 }, olc := State.reset.olc, imposer := { ImposerSt.fresh with sheet := [⟨3, 3, 0, false, false, false, 0, 0, 0, 0x200, 1, 0, 0, []⟩] } })).setReg (R.IMP_XPIN_STATE 7).addr (BitVec.ofNat 36 (2 ^ 34 + 2 ^ 33));
      let u : State := searchState s c;
      s.dev = .run ∧ s.content = some c ∧ s.primary = true ∧ inGap s = true ∧ s.flag R.SYS_STATE_DEFER = false ∧
        s.power.pfStep = 0 ∧ s.cycle.stopping = false ∧ s.flag R.IMP_XCFG_FREEZE = false ∧ u = searchState s c ∧
        u.imposer.lossDue = false ∧ pendingPins u = [i] ∧ u.imposer.sheet[i]? = none ∧ i < 2048) ∧
    (let c : FolioContent := smallContent; let pr : Prepared := ⟨[(0, 0, 3)], 2, 1⟩;
      let s : State := (let z : State := ((((olcState' blank .run 0).set R.IMP_XCFG_FREEZE 0).set R.SYS_STATE_DEFER 0).setReg (R.IMP_XPIN_STATE 0).addr 0).set R.OLC_LAST_AT 5; { z with regs := z.regs.filter (fun p => !(decide ((R.IMP_XPIN_STATE 0).addr ≤ p.1) && decide (p.1 < (R.IMP_XPIN_STATE 0).addr + 2048))), cycle := { z.cycle with stopping := false }, power := { z.power with pfStep := 0 }, olc := State.reset.olc, imposer := { ImposerSt.fresh with sheet := [⟨3, 3, 0, false, false, false, 0, 0, 0, 0x200, 1, 0, 0, []⟩], prepared := some ⟨[(0, 0, 3)], 2, 1⟩ } });
      let new : List SheetEntry := (moveAll s c pr.trig pr.moves s.imposer.sheet).getD [];
      s.dev = .run ∧ s.content = some c ∧ s.primary = true ∧ inGap s = true ∧ s.flag R.SYS_STATE_DEFER = false ∧
        s.power.pfStep = 0 ∧ s.cycle.stopping = false ∧ s.imposer.prepared = some pr ∧
        s.flag R.IMP_XCFG_FREEZE = false ∧ olcHere s = false ∧
        moveAll s c pr.trig pr.moves s.imposer.sheet = some new ∧ pr.trig ≠ 6 ∧
        (pr.moves.any (fun x => (s.imposer.sheet[x.1]?).any (entryBusy s c)) = false) ∧ moveQuires s c new = [] ∧
        (timingFits s c new (if pr.trig = 1 ∨ pr.trig = 6 then 0 else s.get R.IMP_XCFG_MARGIN) = true)) ∧
    (let c : FolioContent := smallContent; let pr : Prepared := ⟨[(0, 0, 3)], 2, 1⟩;
      let s : State := (let z : State := ((((olcState' blank .run 0).set R.IMP_XCFG_FREEZE 0).set R.SYS_STATE_DEFER 0).setReg (R.IMP_XPIN_STATE 0).addr 0).set R.OLC_LAST_AT 5; { z with regs := z.regs.filter (fun p => !(decide ((R.IMP_XPIN_STATE 0).addr ≤ p.1) && decide (p.1 < (R.IMP_XPIN_STATE 0).addr + 2048))), cycle := { z.cycle with stopping := false }, power := { z.power with pfStep := 0 }, olc := State.reset.olc, imposer := { ImposerSt.fresh with sheet := [⟨3, 3, 0, false, false, false, 0, 0, 0, 0x200, 1, 0, 0, []⟩], prepared := some ⟨[(0, 0, 3)], 2, 1⟩ } });
      let new : List SheetEntry := (moveAll s c pr.trig pr.moves s.imposer.sheet).getD [];
      s.dev = .run ∧ s.content = some c ∧ s.primary = true ∧ inGap s = true ∧ s.flag R.SYS_STATE_DEFER = false ∧
        s.power.pfStep = 0 ∧ s.cycle.stopping = false ∧ s.imposer.prepared = some pr ∧
        s.flag R.IMP_XCFG_FREEZE = false ∧ olcHere s = false ∧
        moveAll s c pr.trig pr.moves s.imposer.sheet = some new ∧ (timingFits s c new (if pr.trig = 1 ∨
        pr.trig = 6 then 0 else s.get R.IMP_XCFG_MARGIN) = true) ∧ (¬(2 ≤ pr.trig ∧ pr.trig ≤ 4 ∧ 7 ≤ pr.failed))) ∧
    (let c : FolioContent := smallContent; let pr : Prepared := ⟨[(0, 0, 3)], 2, 7⟩;
      let s : State := (let z : State := ((((olcState' blank .run 0).set R.IMP_XCFG_FREEZE 0).set R.SYS_STATE_DEFER 0).setReg (R.IMP_XPIN_STATE 0).addr 0).set R.OLC_LAST_AT 5; { z with regs := z.regs.filter (fun p => !(decide ((R.IMP_XPIN_STATE 0).addr ≤ p.1) && decide (p.1 < (R.IMP_XPIN_STATE 0).addr + 2048))), cycle := { z.cycle with stopping := false }, power := { z.power with pfStep := 0 }, olc := State.reset.olc, imposer := { ImposerSt.fresh with sheet := [⟨3, 3, 0, false, false, false, 0, 0, 0, 0x200, 1, 0, 0, []⟩], prepared := some ⟨[(0, 0, 3)], 2, 7⟩ } });
      let new : List SheetEntry := (moveAll s c pr.trig pr.moves s.imposer.sheet).getD [];
      s.dev = .run ∧ s.content = some c ∧ s.primary = true ∧ inGap s = true ∧ s.flag R.SYS_STATE_DEFER = false ∧
        s.power.pfStep = 0 ∧ s.cycle.stopping = false ∧ s.imposer.prepared = some pr ∧
        s.flag R.IMP_XCFG_FREEZE = false ∧ olcHere s = false ∧
        moveAll s c pr.trig pr.moves s.imposer.sheet = some new ∧ (timingFits s c new (if pr.trig = 1 ∨
        pr.trig = 6 then 0 else s.get R.IMP_XCFG_MARGIN) = true) ∧ 2 ≤ pr.trig ∧ pr.trig ≤ 4 ∧ 7 ≤ pr.failed) ∧
    (let c : FolioContent := smallContent; let pr : Prepared := ⟨[(0, 0, 3)], 2, 1⟩;
      let s : State := ((let z : State := ((((olcState' blank .run 0).set R.IMP_XCFG_FREEZE 0).set R.SYS_STATE_DEFER 0).setReg (R.IMP_XPIN_STATE 0).addr 0).set R.OLC_LAST_AT 5; { z with regs := z.regs.filter (fun p => !(decide ((R.IMP_XPIN_STATE 0).addr ≤ p.1) && decide (p.1 < (R.IMP_XPIN_STATE 0).addr + 2048))), cycle := { z.cycle with stopping := false }, power := { z.power with pfStep := 0 }, olc := State.reset.olc, imposer := { ImposerSt.fresh with sheet := [⟨3, 3, 0, false, false, false, 0, 0, 0, 0x200, 1, 0, 0, []⟩], prepared := some ⟨[(0, 0, 3)], 2, 1⟩ } })).set R.CYC_STAT_CONF 2 |>.set (R.CYC_OFS_OFS 1) 0 |>.set (R.CYC_PER_TICKS 1) 32 |>.set R.CYC_MAJOR_M 32;
      let new : List SheetEntry := (moveAll s c pr.trig pr.moves s.imposer.sheet).getD [];
      s.dev = .run ∧ s.content = some c ∧ s.primary = true ∧ inGap s = true ∧ s.flag R.SYS_STATE_DEFER = false ∧
        s.power.pfStep = 0 ∧ s.cycle.stopping = false ∧ s.imposer.prepared = some pr ∧
        s.flag R.IMP_XCFG_FREEZE = false ∧ olcHere s = false ∧
        moveAll s c pr.trig pr.moves s.imposer.sheet = some new ∧ (timingFits s c new (if pr.trig = 1 ∨
        pr.trig = 6 then 0 else s.get R.IMP_XCFG_MARGIN) = false)) :=
  ⟨by decide +kernel, by decide +kernel, by decide +kernel, by decide +kernel, by decide +kernel⟩

/-- States and operands that meet the hypotheses of PlacementChanges, clauses from the 11th on. -/
theorem witness_PlacementChanges_3 :
    (let s : State := { blank.putBit R.SYS_XOPEN_OPEN 9 true with dev := .run };
      s.powered = true ∧ expertOpen s 9 = true) ∧
    (let s : State := { blank.putBit R.SYS_XOPEN_OPEN 9 false with dev := .run };
      s.powered = true ∧ expertOpen s 9 = false) :=
  ⟨by decide +kernel, by decide +kernel⟩

/-- States and operands that meet the hypotheses of ForceCommands. -/
theorem witness_ForceCommands :
    (let p : Port := 3;
      let fc : FolioContent := { smallContent with symbols := [⟨5, .scalar, [⟨0, .bit, 0, 0⟩], .point false 3, 0, false⟩] };
      let ty : Scalar := .bit; let pt : Point := ⟨false, false, 3, 1, true, .unbound⟩; let e : Nat := 0;
      let s : State := forceState blank .run [];
      s.powered = true ∧ s.get (R.FRC_PCMD_STATUS p) ≠ 1 ∧ s.getBit R.FRC_PERM_PERM p = true ∧
        s.folio.content = some fc ∧ forceRefusal s false = none ∧ forceAtOnce s = false ∧
        (forceTarget s fc (s.get (R.FRC_PSYM_SYM p)) (s.get (R.FRC_PSYM_ELEM p))).toOption = some (ty, pt) ∧
        forceInRange ty (s.reg (R.FRC_PVAL_VALUE p).addr) = true ∧
        (s.forces.find? (fun f => f.word == pt.word && f.num == pt.num) = none) ∧ forceFree s = some e) ∧
    (let p : Port := 3;
      let fc : FolioContent := { smallContent with symbols := [⟨5, .scalar, [⟨0, .bit, 0, 0⟩], .point false 3, 0, false⟩] };
      let ty : Scalar := .bit; let pt : Point := ⟨false, false, 3, 1, true, .unbound⟩;
      let s : State := forceState blank .stop [];
      s.powered = true ∧ s.get (R.FRC_PCMD_STATUS p) ≠ 1 ∧ s.getBit R.FRC_PERM_PERM p = true ∧
        s.folio.content = some fc ∧ forceRefusal s false = none ∧ s.dev = .stop ∧
        (forceTarget s fc (s.get (R.FRC_PSYM_SYM p)) (s.get (R.FRC_PSYM_ELEM p))).toOption = some (ty, pt) ∧
        forceInRange ty (s.reg (R.FRC_PVAL_VALUE p).addr) = true ∧ s.forces = [] ∧ s.forceCmds = []) ∧
    (let p : Port := 3;
      let fc : FolioContent := { smallContent with symbols := [⟨5, .scalar, [⟨0, .bit, 0, 0⟩], .point false 3, 0, false⟩] };
      let ty : Scalar := .bit; let pt : Point := ⟨false, false, 3, 1, true, .unbound⟩;
      let s : State := (forceState blank .run []).setReg (R.FRC_PVAL_VALUE 3).addr 2;
      s.powered = true ∧ s.get (R.FRC_PCMD_STATUS p) ≠ 1 ∧ s.getBit R.FRC_PERM_PERM p = true ∧
        s.folio.content = some fc ∧ forceRefusal s false = none ∧
        (forceTarget s fc (s.get (R.FRC_PSYM_SYM p)) (s.get (R.FRC_PSYM_ELEM p))).toOption = some (ty, pt) ∧
        forceInRange ty (s.reg (R.FRC_PVAL_VALUE p).addr) = false) ∧
    (let p : Port := 3;
      let fc : FolioContent := { smallContent with symbols := [⟨5, .scalar, [⟨0, .bit, 0, 0⟩], .point false 3, 0, false⟩] };
      let ty : Scalar := .bit; let pt : Point := ⟨false, false, 3, 1, true, .unbound⟩; let f : Force := force0;
      let s : State := forceState blank .run [force0];
      s.powered = true ∧ s.get (R.FRC_PCMD_STATUS p) ≠ 1 ∧ s.getBit R.FRC_PERM_PERM p = true ∧
        s.folio.content = some fc ∧ forceRefusal s false = none ∧ forceAtOnce s = false ∧
        (forceTarget s fc (s.get (R.FRC_PSYM_SYM p)) (s.get (R.FRC_PSYM_ELEM p))).toOption = some (ty, pt) ∧
        forceInRange ty (s.reg (R.FRC_PVAL_VALUE p).addr) = true ∧ s.forces = [f] ∧ f.word = pt.word ∧ f.num = pt.num) ∧
    (let p : Port := 3;
      let fc : FolioContent := { smallContent with symbols := [⟨5, .scalar, [⟨0, .bit, 0, 0⟩], .point false 3, 0, false⟩] };
      let s : State := (forceState blank .run []).set (R.FRC_PSYM_SYM 3) 9;
      s.powered = true ∧ s.get (R.FRC_PCMD_STATUS p) ≠ 1 ∧ s.getBit R.FRC_PERM_PERM p = true ∧
        s.folio.content = some fc ∧ forceRefusal s false = none ∧
        (forceTarget s fc (s.get (R.FRC_PSYM_SYM p)) (s.get (R.FRC_PSYM_ELEM p))).toOption = none) :=
  ⟨by decide +kernel, by decide +kernel, by decide +kernel, by decide +kernel, by decide +kernel⟩

/-- States and operands that meet the hypotheses of ForceCommands, clauses from the 6th on. -/
theorem witness_ForceCommands_2 :
    (let p : Port := 3;
      let fc : FolioContent := { smallContent with symbols := [⟨5, .scalar, [⟨0, .bit, 0, 0⟩], .point false 3, 0, false⟩] };
      let ty : Scalar := .bit; let pt : Point := ⟨false, false, 3, 1, true, .unbound⟩;
      let s : State := forceState blank .run [force0];
      s.powered = true ∧ s.get (R.FRC_PCMD_STATUS p) ≠ 1 ∧ s.getBit R.FRC_PERM_PERM p = true ∧
        s.folio.content = some fc ∧ forceRefusal s false = none ∧ forceAtOnce s = false ∧
        (forceTarget s fc (s.get (R.FRC_PSYM_SYM p)) (s.get (R.FRC_PSYM_ELEM p))).toOption = some (ty, pt) ∧
        (s.forces.any (fun f => f.word == pt.word && f.num == pt.num) = true)) ∧
    (let p : Port := 3;
      let fc : FolioContent := { smallContent with symbols := [⟨5, .scalar, [⟨0, .bit, 0, 0⟩], .point false 3, 0, false⟩] };
      let s : State := forceState blank .stop [force0];
      s.powered = true ∧ s.get (R.FRC_PCMD_STATUS p) ≠ 1 ∧ s.getBit R.FRC_PERM_PERM p = true ∧
        s.folio.content = some fc ∧ forceRefusal s false = none ∧ s.dev = .stop ∧ s.forceCmds = []) ∧
    (let p : Port := 3;
      let fc : FolioContent := { smallContent with symbols := [⟨5, .scalar, [⟨0, .bit, 0, 0⟩], .point false 3, 0, false⟩] };
      let s : State := forceState blank .run [force0];
      s.powered = true ∧ s.get (R.FRC_PCMD_STATUS p) ≠ 1 ∧ s.getBit R.FRC_PERM_PERM p = true ∧
        s.folio.content = some fc ∧ forceRefusal s false = none ∧ forceAtOnce s = false ∧ s.forces.isEmpty = false) ∧
    (let p : Port := 3;
      let fc : FolioContent := { smallContent with symbols := [⟨5, .scalar, [⟨0, .bit, 0, 0⟩], .point false 3, 0, false⟩] };
      let f : Force := force0; let s : State := forceState blank .run [force0];
      s.powered = true ∧ s.get (R.FRC_PCMD_STATUS p) ≠ 1 ∧ s.getBit R.FRC_PERM_PERM p = true ∧
        s.folio.content = some fc ∧ forceRefusal s true = none ∧
        (s.forces.find? (fun f => f.applied && f.entry == s.get (R.FRC_PENT_ENTRY p)) = some f)) ∧
    (let p : Port := 3;
      let fc : FolioContent := { smallContent with symbols := [⟨5, .scalar, [⟨0, .bit, 0, 0⟩], .point false 3, 0, false⟩] };
      let s : State := forceState blank .run [];
      s.powered = true ∧ s.get (R.FRC_PCMD_STATUS p) ≠ 1 ∧ s.getBit R.FRC_PERM_PERM p = true ∧
        s.folio.content = some fc ∧ forceRefusal s true = none ∧
        (s.forces.find? (fun f => f.applied && f.entry == s.get (R.FRC_PENT_ENTRY p)) = none)) :=
  ⟨by decide +kernel, by decide +kernel, by decide +kernel, by decide +kernel, by decide +kernel⟩

/-- States and operands that meet the hypotheses of ForceCommands, clauses from the 11th on. -/
theorem witness_ForceCommands_3 :
    (let p : Port := 0; let s : State := (forceState blank .run [force0]).set R.FRC_PERM_PERM 0;
      s.powered = true ∧ s.get (R.FRC_PCMD_STATUS p) ≠ 1 ∧ forceRefusal s false = none ∧
        s.getBit R.FRC_PERM_PERM p = false) := by
  decide +kernel

/-- States and operands that meet the hypotheses of OnlineChangeStages. -/
theorem witness_OnlineChangeStages :
    (let a : FolioContent := smallContent;
      let sh : List SheetEntry := [⟨3, 3, 0, false, false, false, 0, 0, 0, 0x200, 1, 0, 0, []⟩];
      let s : State := { olcState' blank .run 0 with olc := State.reset.olc };
      let img : FolioImage := smallImage s 2 [5, 10] { smallContent with map := [(1, 0)] };
      (s.dev = .run ∨ s.dev = .stop ∨ s.dev = .halt) ∧ s.get R.OLC_CMD_STATUS ≠ 1 ∧ s.power.pfStep = 0 ∧
        olcState s = 0 ∧ s.flag R.PCI_STAT_BME = true ∧ s.content = some a ∧
        verify ((((s.set R.OLC_CMD_CODE 1).set R.OLC_STAT_TWCAUSE 0).set R.OLC_STAT_TWINRDY 0).set R.OLC_STAT_CAUSE 0)
          img [2] fitsStaged = none ∧
        placeStaged ((((s.set R.OLC_CMD_CODE 1).set R.OLC_STAT_TWCAUSE 0).set R.OLC_STAT_TWINRDY 0).set
          R.OLC_STAT_CAUSE 0) a (combine a (img.program ((((s.set R.OLC_CMD_CODE 1).set R.OLC_STAT_TWCAUSE 0).set
          R.OLC_STAT_TWINRDY 0).set R.OLC_STAT_CAUSE 0)) (gatherings img.words)) = some sh) ∧
    (let a : FolioContent := smallContent; let cause : Nat := 4; let pos : Nat := 2;
      let s : State := { olcState' blank .run 0 with olc := State.reset.olc };
      let img : FolioImage := smallImage s 1 [5, 10] { smallContent with map := [(1, 0)] };
      (s.dev = .run ∨ s.dev = .stop ∨ s.dev = .halt) ∧ s.get R.OLC_CMD_STATUS ≠ 1 ∧ s.power.pfStep = 0 ∧
        olcState s = 0 ∧ s.flag R.PCI_STAT_BME = true ∧ s.content = some a ∧
        verify ((((s.set R.OLC_CMD_CODE 1).set R.OLC_STAT_TWCAUSE 0).set R.OLC_STAT_TWINRDY 0).set R.OLC_STAT_CAUSE 0)
          img [2] fitsStaged = some (cause, pos) ∧ cause < 32) ∧
    (let s : State := ((((((olcState' blank .run 0).raise R.SPN_STAT_ACTING).set R.OLC_SRC_NODE 3).set R.OLC_SRC_LOOP 0).set R.OLC_SRC_MEMBER 0).raise (R.SPN_NODE_PRESENT 6)).set (R.SPN_NODE_STATE 6) 4;
      (s.dev = .run ∨ s.dev = .stop ∨ s.dev = .halt) ∧ s.get R.OLC_CMD_STATUS ≠ 1 ∧ s.power.pfStep = 0 ∧
        s.acting = true ∧ s.get R.OLC_SRC_NODE ≠ 0 ∧ s.flag (R.SPN_NODE_PRESENT (olcTarget s)) = true ∧
        s.get (R.SPN_NODE_STATE (olcTarget s)) = 4 ∧ s.flag R.PCI_STAT_BME = true) ∧
    (let a : FolioContent := smallContent; let b : FolioContent := { smallContent with map := [(1, 0)] };
      let s : State := (olcState' blank .run 1).set R.OLC_CMD_STATUS 1;
      s.powered = true ∧ olcState s = 1 ∧ s.content = some a ∧ s.olc.next = some b) ∧
    (let a : FolioContent := smallContent; let b : FolioContent := { smallContent with map := [(1, 0)] };
      let i : Nat := 0; let j : Nat := 0; let u : Nat := 3; let v : Nat := 3; let o : Nat := 0; let q : Nat := 0;
      let x : Symbol := ⟨5, .scalar, [⟨0, .w36 false, 0, 0⟩], .seg 3 0, 0, false⟩;
      let y : Symbol := ⟨5, .scalar, [⟨0, .w36 false, 0, 0⟩], .seg 3 0, 0, false⟩;
      let s : State := (let z : State := olcState' blank .run 2; { z with olc := { z.olc with sheet := [⟨3, 3, 0, false, false, false, 0, 0, 0, 0x300, 1, 0, 0, []⟩] } });
      s.powered = true ∧ (olcState s = 2 ∨ olcState s = 3) ∧ s.content = some a ∧ s.olc.next = some b ∧
        mapPairs b = [(i, 1, j)] ∧ b.symbols[i]? = some y ∧ a.symbols[j]? = some x ∧ y.home = .seg u o ∧
        x.home = .seg v q ∧ (segBase b s.olc.sheet u + o + symbolWords y ≤ segBase a s.imposer.sheet v + q ∨
        segBase a s.imposer.sheet v + q + symbolWords y ≤ segBase b s.olc.sheet u + o)) :=
  ⟨by decide +kernel, by decide +kernel, by decide +kernel, by decide +kernel, by decide +kernel⟩

/-- States and operands that meet the hypotheses of OnlineChangeStages, clauses from the 6th on. -/
theorem witness_OnlineChangeStages_2 :
    (let s : State := olcState' blank .run 2;
      s.powered = true ∧ s.dev ≠ .standby ∧ s.get R.OLC_CMD_STATUS ≠ 1 ∧ s.power.pfStep = 0 ∧ (olcState s = 2 ∨
        olcState s = 3)) ∧
    (let s : State := olcState' blank .run 2;
      s.powered = true ∧ s.dev ≠ .standby ∧ s.get R.OLC_CMD_STATUS ≠ 1 ∧ s.power.pfStep = 0 ∧ (olcState s ≠ 0 ∨
        (s.dev ≠ .run ∧ s.dev ≠ .stop ∧ s.dev ≠ .halt))) :=
  ⟨by decide +kernel, by decide +kernel⟩

/-- States and operands that meet the hypotheses of OnlineChangeSwitches. -/
theorem witness_OnlineChangeSwitches :
    (let b : Bool := false; let s : State := olcState' blank .run 2;
      (s.dev = .run ∨ s.dev = .halt) ∧ s.get R.OLC_CMD_STATUS ≠ 1 ∧ s.power.pfStep = 0 ∧ olcState s = 2 ∧
        hasStandby s = false ∧ (b = false ∨
        ((s.now / 31250 + (s.get R.OLC_SWAT_AT + 2 ^ 36 - s.now / 31250 % 2 ^ 36) % 2 ^ 36) % max 1 (s.get
          R.CYC_MAJOR_M) = 0 ∧
        s.now + s.get R.OLC_XCFG_LEAD * 10000 ≤ (s.now / 31250 + (s.get R.OLC_SWAT_AT + 2 ^ 36 - s.now / 31250 % 2 ^
          36) % 2 ^ 36) * 31250))) ∧
    (let a : FolioContent := smallContent; let n : FolioContent := { smallContent with map := [(1, 0)] };
      let s : State := olcState' blank .stop 2;
      s.dev = .stop ∧ s.get R.OLC_CMD_STATUS ≠ 1 ∧ s.power.pfStep = 0 ∧ olcState s = 2 ∧ hasStandby s = false ∧
        s.content = some a ∧ s.olc.next = some n ∧ switchPlanes s a n (sheetFor s a n s.olc.sheet) = true) ∧
    (let a : FolioContent := smallContent; let b : FolioContent := { smallContent with map := [(1, 0)] };
      let s : State := olcState' blank .run 3;
      s.content = some a ∧ s.olc.next = some b ∧ olcState s = 3 ∧ s.dev = .run ∧ inGap s = true ∧ s.power.pfStep < 3 ∧
        s.flag R.SYS_STATE_DEFER = false ∧ (s.olc.armAt.all (fun x => x == nextMajor s % 2 ^ 36) = true) ∧
        switchAllowed s a b (sheetFor s a b s.olc.sheet) .switch (switchTime s b (stagedClasses s) (dirtyCarried s a
          b)) = true) ∧
    (let a : FolioContent := smallContent; let b : FolioContent := { smallContent with map := [(1, 0)] };
      let s : State := (let z : State := ((olcState' blank .run 3).set R.OLC_XCFG_TRIES 63).set R.OLC_STAT_TRIES 2; { z with time := { z.time with loc := 31200, active := none } });
      s.content = some a ∧ s.olc.next = some b ∧ olcState s = 3 ∧ s.dev = .run ∧ inGap s = true ∧ s.power.pfStep < 3 ∧
        s.flag R.SYS_STATE_DEFER = false ∧ s.olc.armAt = none ∧
        switchAllowed s a b (sheetFor s a b s.olc.sheet) .switch (switchTime s b (stagedClasses s) (dirtyCarried s a
          b)) = false ∧ s.get R.OLC_STAT_TRIES + 1 < s.get R.OLC_XCFG_TRIES) ∧
    (let s : State := olcState' blank .run 5;
      (s.dev = .run ∨ s.dev = .halt) ∧ s.get R.OLC_CMD_STATUS ≠ 1 ∧ s.power.pfStep = 0 ∧ olcState s = 5) :=
  ⟨by decide +kernel, by decide +kernel, by decide +kernel, by decide +kernel, by decide +kernel⟩

/-- States and operands that meet the hypotheses of OnlineChangeSwitches, clauses from the 6th on. -/
theorem witness_OnlineChangeSwitches_2 :
    (let b : FolioContent := smallContent; let s : State := olcState' blank .stop 5;
      (s.dev = .stop ∨ s.dev = .safe) ∧ s.get R.OLC_CMD_STATUS ≠ 1 ∧ s.power.pfStep = 0 ∧ olcState s = 5 ∧
        s.content = some b) ∧
    (let b : FolioContent := smallContent;
      let s : State := (let z : State := olcState' blank .run 5; { z with olc := { z.olc with confirmDue := true } });
      olcState s = 5 ∧ s.olc.confirmDue = true ∧ s.dev = .run ∧ inGap s = true ∧ (hasStandby s = false ∨
        s.olc.acked = some (nextMajor s, .confirm)) ∧ s.content = some b) ∧
    (let s : State := olcState' blank .run 5;
      (s.dev = .run ∨ s.dev = .halt) ∧ s.get R.OLC_CMD_STATUS ≠ 1 ∧ s.power.pfStep = 0 ∧ olcState s = 5 ∧
        s.flag R.OLC_STAT_NOUNDO = false) ∧
    (let b : FolioContent := smallContent;
      let o : OldProgram := ⟨smallContent, [⟨3, 3, 0, false, false, false, 0, 0, 0, 0x200, 1, 0, 0, []⟩], [], []⟩;
      let s : State := (let z : State := olcState' blank .run 5; { z with olc := { z.olc with undoDue := 2 } });
      s.powered = true ∧ s.content = some b ∧ s.olc.old = some o ∧ olcState s = 5 ∧ s.olc.undoDue ≠ 0 ∧
        inGap s = true ∧ s.flag R.OLC_STAT_NOUNDO = false ∧
        switchAllowed s b o.content (sheetFor s b o.content o.sheet) .undo (switchTime s b (stagedClasses s)
          (dirtyCarried s o.content b)) = true) ∧
    (let s : State := (olcState' blank .run 5).set R.OLC_CFG_UNDOT 7;
      s.powered = true ∧ 0 < s.get R.OLC_CFG_UNDOT ∧ olcState s = 5 ∧ s.olc.undoDue = 0 ∧
        s.flag R.OLC_STAT_NOUNDO = false) :=
  ⟨by decide +kernel, by decide +kernel, by decide +kernel, by decide +kernel, by decide +kernel⟩

/-- States and operands that meet the hypotheses of OnlineChangeSwitches, clauses from the 11th on. -/
theorem witness_OnlineChangeSwitches_3 :
    (let s : State := pairState blank 3;
      s.powered = true ∧ hasStandby s = true ∧ (olcState s = 3 ∨ s.olc.confirmDue = true ∨ s.olc.undoDue ≠ 0)) ∧
    (let h : FrameHead := ⟨3, true, 0, true, 0, 7, 0, 8, true, 1⟩; let s : State := olcState' blank .standby 2;
      s.dev = .standby ∧ (twinAccept s 36 h).2 = true) ∧
    (let h : FrameHead := ⟨3, true, 0, true, 0, 7, 0, 8, true, 1⟩; let b : Nat := 2^70;
      let s : State := (pairState blank 3).set R.OLC_XCFG_LEAD 10;
      s.powered = true ∧ (twinAccept s 36 h).2 = true ∧ hasStandby s = true ∧ (olcState s = 3 ∨
        s.olc.confirmDue = true ∨ s.olc.undoDue ≠ 0) ∧ s.now + s.get R.OLC_XCFG_LEAD * 10000 ≤ b * 31250) ∧
    (let h : FrameHead := ⟨3, true, 0, true, 0, 7, 0, 8, true, 1⟩; let b : Nat := 0;
      let s : State := (pairState blank 3).set R.OLC_XCFG_LEAD 10;
      s.powered = true ∧ (twinAccept s 36 h).2 = true ∧ b * 31250 < s.now + s.get R.OLC_XCFG_LEAD * 10000) ∧
    (let h : FrameHead := ⟨3, true, 0, true, 0, 7, 0, 8, true, 1⟩; let b : Nat := 5;
      let s : State := (let z : State := (olcState' blank .standby 2).set R.SYS_STATE_DEFER 0; { z with olc := { z.olc with acked := some (5, .discard) } });
      s.dev = .standby ∧ (twinAccept s 36 h).2 = true ∧ s.flag R.SYS_STATE_DEFER = false ∧ s.olc.acked = some (b,
        .discard)) :=
  ⟨by decide +kernel, by decide +kernel, by decide +kernel, by decide +kernel, by decide +kernel⟩

/-- States and operands that meet the hypotheses of OnlineChangeSwitches, clauses from the 16th on. -/
theorem witness_OnlineChangeSwitches_4 :
    (let h : FrameHead := ⟨3, true, 0, true, 0, 7, 0, 8, true, 1⟩; let n : Nat := 5;
      let a : FolioContent := smallContent; let b : FolioContent := { smallContent with map := [(1, 0)] };
      let s : State := (let z : State := (olcState' blank .standby 2).set R.SYS_STATE_DEFER 0; { z with olc := { z.olc with acked := some (5, .switch) } });
      s.dev = .standby ∧ (twinAccept s 36 h).2 = true ∧ s.flag R.SYS_STATE_DEFER = false ∧ s.olc.acked = some (n,
        .switch) ∧ (olcState s = 2 ∨ olcState s = 3) ∧ s.content = some a ∧ s.olc.next = some b ∧
        switchPlanes s a b (sheetFor s a b s.olc.sheet) = true) ∧
    (let h : FrameHead := ⟨3, true, 0, true, 0, 7, 0, 8, true, 1⟩; let n : Nat := 5;
      let b : FolioContent := smallContent;
      let s : State := (let z : State := (olcState' blank .standby 5).set R.SYS_STATE_DEFER 0; { z with olc := { z.olc with acked := some (5, .confirm) } });
      s.dev = .standby ∧ (twinAccept s 36 h).2 = true ∧ s.flag R.SYS_STATE_DEFER = false ∧ s.olc.acked = some (n,
        .confirm) ∧ olcState s = 5 ∧ s.content = some b) ∧
    (let h : FrameHead := ⟨3, true, 0, true, 0, 7, 0, 8, true, 1⟩; let n : Nat := 5;
      let b : FolioContent := smallContent;
      let o : OldProgram := ⟨smallContent, [⟨3, 3, 0, false, false, false, 0, 0, 0, 0x200, 1, 0, 0, []⟩], [], []⟩;
      let s : State := (let z : State := (olcState' blank .standby 5).set R.SYS_STATE_DEFER 0; { z with olc := { z.olc with acked := some (5, .undo) } });
      s.dev = .standby ∧ (twinAccept s 36 h).2 = true ∧ s.flag R.SYS_STATE_DEFER = false ∧ s.olc.acked = some (n,
        .undo) ∧ olcState s = 5 ∧ s.content = some b ∧ s.olc.old = some o ∧ undoPlanes s = true) :=
  ⟨by decide +kernel, by decide +kernel, by decide +kernel⟩

/-- States and operands that meet the hypotheses of SpineFrames. -/
theorem witness_SpineFrames :
    (let h : FrameHead := { head0 with crcOk := false }; let s : State := nodeState blank .run true;
      s.powered = true ∧ h.crcOk = false) ∧
    (let h : FrameHead := head0; let m : TickMsg := ⟨5, 6, 0, [], 12, 3⟩;
      let s : State := nodeState blank .run false;
      s.powered = true ∧ (spineAccept s 1 h).2 = true ∧ s.acting = false ∧ s.spine.stepDue = 0 ∧
        m.offset.natAbs ≤ 4000) ∧
    (let h : FrameHead := head0; let m : TickMsg := ⟨5, 6, 0, [], 8000, 3⟩;
      let s : State := (let z : State := nodeState blank .run false; { z with cycle := { z.cycle with classes := z.cycle.classes.setIfInBounds 1 { ClassSt.fresh with phase := .solve } } }.set (R.CYC_PER_TICKS 1) 32);
      s.powered = true ∧ (spineAccept s 1 h).2 = true ∧ s.acting = false ∧ s.spine.stepDue = 0 ∧
        4000 < m.offset.natAbs ∧ s.cycling = true ∧ inGap s = false) ∧
    (let h : FrameHead := head0; let m : TickMsg := ⟨5, 6, 0, [], 8000, 3⟩;
      let s : State := nodeState blank .stop false;
      s.powered = true ∧ (spineAccept s 1 h).2 = true ∧ s.acting = false ∧ s.spine.stepDue = 0 ∧
        4000 < m.offset.natAbs ∧ s.cycling = false) ∧
    (let h : FrameHead := head0;
      let s : State := (let z : State := nodeState blank .run true; { z with folio := { z.folio with shelfA := none, shelfB := none } });
      s.powered = true ∧ (spineAccept s 2 h).2 = true ∧ s.acting = true) :=
  ⟨by decide +kernel, by decide +kernel, by decide +kernel, by decide +kernel, by decide +kernel⟩

/-- States and operands that meet the hypotheses of SpineFrames, clauses from the 6th on. -/
theorem witness_SpineFrames_2 :
    (let h : FrameHead := head0; let s : State := nodeState blank .run false;
      s.powered = true ∧ (spineAccept s 2 h).2 = true ∧ s.acting = false) ∧
    (let h : FrameHead := head0; let s : State := nodeState blank .stop false;
      s.powered = true ∧ (spineAccept s 3 h).2 = true ∧ s.acting = false) ∧
    (let h : FrameHead := head0;
      let s : State := (let z : State := nodeState blank .load true; { z with spine := { z.spine with discovering := true } });
      s.powered = true ∧ (spineAccept s 3 h).2 = true ∧ s.acting = true ∧ s.spine.discovering = true) ∧
    (let h : FrameHead := head0;
      let s : State := ((nodeState blank .stop false).set (R.SPN_LANE_WRAP 2) 0).raise (R.SPN_LANE_LINK 2);
      s.powered = true ∧ (s.dev ≠ .boot ∨ s.power.refOk = true) ∧ h.src ≠ s.spine.addr ∧ h.lane < 4 ∧
        (laneUp s (if h.lane % 2 = 0 then h.lane + 1 else h.lane - 1) = true)) ∧
    (let h : FrameHead := head0; let s : State := (nodeState blank .stop false).set (R.SPN_LANE_LINK 2) 0;
      s.powered = true ∧ (s.dev ≠ .boot ∨ s.power.refOk = true) ∧ h.src ≠ s.spine.addr ∧ h.lane < 4 ∧
        (laneUp s (if h.lane % 2 = 0 then h.lane + 1 else h.lane - 1) = false)) :=
  ⟨by decide +kernel, by decide +kernel, by decide +kernel, by decide +kernel, by decide +kernel⟩

/-- States and operands that meet the hypotheses of SpineFrames, clauses from the 11th on. -/
theorem witness_SpineFrames_3 :
    (let s : State := nodeState blank .stop false;
      s.powered = true) ∧
    (let lane : Fin 6 := 1; let s : State := nodeState blank .run true;
      s.powered = true ∧ lane.val < 4) ∧
    (let lane : Fin 6 := 5; let s : State := nodeState blank .run true;
      s.powered = true ∧ 4 ≤ lane.val) ∧
    (let lane : Fin 6 := 1; let s : State := nodeState blank .run true;
      s.powered = true ∧ lane.val < 4) ∧
    (let lane : Fin 6 := 5; let s : State := nodeState blank .run true;
      s.powered = true ∧ 4 ≤ lane.val) :=
  ⟨by decide +kernel, by decide +kernel, by decide +kernel, by decide +kernel, by decide +kernel⟩

/-- States and operands that meet the hypotheses of SpineNodes. -/
theorem witness_SpineNodes :
    (let c : FolioContent := { smallContent with role := 0, standalone := false, nodes := [⟨6, true, false, true, none, []⟩] };
      let s : State := (let z : State := nodeState blank .load true; { z with spine := { z.spine with discovering := true, records := [⟨6, 1, 1, [3, 4], 3, 0, false, [], false, 0⟩] } });
      s.powered = true ∧ s.content = some c ∧ s.acting = true ∧ s.spine.discovering = true ∧
        (s.spine.records.all (fun x => decide (x.addr < 128)) = true) ∧
        (s.spine.records.Pairwise (fun x y => x.addr ≠ y.addr))) ∧
    (let s : State := nodeState blank .stop true;
      s.powered = true ∧ s.acting = true) ∧
    (let node : Fin 128 := 6;
      let s : State := ((let z : State := nodeState blank .run true; { z with spine := { z.spine with nodes := [node6 false] } })).raise (R.SPN_NODE_PRESENT 6);
      s.powered = true ∧ s.acting = true ∧ nodeLost s node = false ∧ s.flag (R.SPN_NODE_PRESENT node) = true) ∧
    (let node : Fin 128 := 6;
      let s : State := ((let z : State := nodeState blank .stop true; { z with spine := { z.spine with nodes := [node6 false] } })).set (R.SPN_NODE_ADMITTED 6) 0;
      s.powered = true ∧ s.acting = true ∧ (s.cycling = false ∨ inGap s = true) ∧ nodeReady s node = true ∧
        s.flag (R.SPN_NODE_ADMITTED node) = false) ∧
    (let h : FrameHead := head0; let s : State := nodeState blank .run false;
      s.powered = true ∧ (spineAccept s 8 h).2 = true ∧ s.acting = false ∧ s.content.isSome = true ∧ s.dev = .run) :=
  ⟨by decide +kernel, by decide +kernel, by decide +kernel, by decide +kernel, by decide +kernel⟩

/-- States and operands that meet the hypotheses of SpineNodes, clauses from the 6th on. -/
theorem witness_SpineNodes_2 :
    (let h : FrameHead := head0; let s : State := (nodeState blank .stop false).raise R.SPN_CFG_JOIN;
      s.powered = true ∧ (spineAccept s 8 h).2 = true ∧ s.acting = false ∧ s.content.isSome = true ∧ (s.dev = .stop ∧
        s.flag R.SPN_CFG_JOIN = true ∨ s.dev = .load ∧ s.folio.loading = none) ∧ s.primary = true ∧
        s.power.pfStep = 0) ∧
    (let mode : Nat := 2;
      let s : State := (let z : State := nodeState blank .stop true; { z with folio := { z.folio with waiting := some 2, content := some smallContent } });
      s.powered = true ∧ s.folio.waiting = some mode ∧ s.acting = true ∧ s.spine.startAt = none ∧
        requiredReady s = true) ∧
    (let h : FrameHead := head0; let s : State := nodeState blank .stop false;
      s.powered = true ∧ (spineAccept s 8 h).2 = true ∧ s.acting = false ∧ s.isWorker = true) ∧
    (let at0 : Nat := 5000000; let mode : Nat := 1;
      let s : State := (let z : State := nodeState blank .stop false; { z with spine := { z.spine with startAt := some (5000000, 1) } });
      s.powered = true ∧ s.spine.startAt = some (at0, mode) ∧ s.content.isSome = true ∧ s.primary = true ∧
        s.power.pfStep = 0 ∧ s.acting = false ∧ (s.dev = .stop ∨ s.dev = .load ∧ s.folio.loading = none)) ∧
    (let at0 : Nat := 5000000; let mode : Nat := 1;
      let s : State := (let z : State := let z : State := nodeState blank .stop true; { z with folio := { z.folio with waiting := some 1 } }; { z with spine := { z.spine with startAt := some (5000000, 1) } });
      s.powered = true ∧ s.spine.startAt = some (at0, mode) ∧ s.content.isSome = true ∧ s.primary = true ∧
        s.power.pfStep = 0 ∧ s.acting = true ∧ s.folio.waiting.isSome = true) :=
  ⟨by decide +kernel, by decide +kernel, by decide +kernel, by decide +kernel, by decide +kernel⟩

/-- States and operands that meet the hypotheses of SpineNodes, clauses from the 11th on. -/
theorem witness_SpineNodes_3 :
    (let s : State := (let z : State := nodeState blank .load true; { z with folio := { z.folio with waiting := some 2, content := some { smallContent with nodes := [⟨9, true, false, true, none, []⟩] } } });
      s.powered = true ∧ s.acting = true ∧ s.folio.waiting.isSome = true ∧ s.spine.startAt = none ∧
        requiredReady s = false) ∧
    (let s : State := State.forEach (List.range 128) (fun a z => (z.set (R.SPN_NODE_ADMITTED a) 0).set (R.SPN_NODE_REQUIRED a) 0) (nodeState blank .run true);
      s.powered = true ∧ s.acting = true ∧ s.dev = .run ∧ s.spine.releaseAt = none ∧ allReady s = true ∧
        (List.range 128).all (releaseReady s) = true) ∧
    (let h : FrameHead := head0; let s : State := nodeState blank .run false;
      s.powered = true ∧ (spineAccept s 8 h).2 = true ∧ s.acting = false) ∧
    (let s : State := ((nodeState blank .run false).raise R.SPN_CFG_ISOPOL).set R.SPN_STAT_ISOL 0;
      s.powered = true ∧ s.isWorker = true ∧ s.flag R.SPN_STAT_ISOL = false ∧
        s.folio.loading.any (·.src == 3) = false ∧ (s.dev ≠ .run ∨ s.flag R.SPN_CFG_ISOPOL = true)) ∧
    (let l : FolioLoad := ⟨3, false, none, false⟩;
      let s : State := (let z : State := (nodeState blank .load false).set R.SPN_STAT_ISOL 0; { z with folio := { z.folio with loading := some ⟨3, false, none, false⟩ } });
      s.powered = true ∧ s.isWorker = true ∧ s.flag R.SPN_STAT_ISOL = false ∧ s.folio.loading = some l ∧ l.src = 3 ∧
        l.otherSlot = false ∧ s.dev = .load) :=
  ⟨by decide +kernel, by decide +kernel, by decide +kernel, by decide +kernel, by decide +kernel⟩

/-- States and operands that meet the hypotheses of SpineNodes, clauses from the 16th on. -/
theorem witness_SpineNodes_4 :
    (let s : State := (((let z : State := nodeState blank .run false; { z with cycle := { z.cycle with classes := z.cycle.classes.setIfInBounds 1 { ClassSt.fresh with phase := .solve } } }).set (R.CYC_PER_TICKS 1) 32).set R.SPN_STAT_ISOL 0).set R.SPN_CFG_ISOPOL 0;
      s.powered = true ∧ s.isWorker = true ∧ s.flag R.SPN_STAT_ISOL = false ∧
        s.folio.loading.any (·.src == 3) = false ∧ s.dev = .run ∧ s.flag R.SPN_CFG_ISOPOL = false ∧ inGap s = false) ∧
    (let s : State := (((let z : State := nodeState blank .run false; { z with cycle := { z.cycle with classes := State.reset.cycle.classes } }).set (R.CYC_PER_TICKS 1) 0).set R.SPN_STAT_ISOL 0).set R.SPN_CFG_ISOPOL 0;
      s.powered = true ∧ s.isWorker = true ∧ s.flag R.SPN_STAT_ISOL = false ∧
        s.folio.loading.any (·.src == 3) = false ∧ s.dev = .run ∧ s.flag R.SPN_CFG_ISOPOL = false ∧ inGap s = true ∧
        cyclesDone s = true) ∧
    (let s : State := (((((let z : State := nodeState blank .run false; { z with cycle := { z.cycle with classes := z.cycle.classes.setIfInBounds 1 { ClassSt.fresh with phase := .solve } } }).set (R.CYC_PER_TICKS 1) 32).set R.SPN_STAT_ISOL 0).set R.SPN_CFG_ISOPOL 0).raise R.SPN_STAT_ISOL).raise R.SPN_CFG_ISOPOL |>.set R.SPN_CFG_ISOLIM 5;
      s.powered = true ∧ s.flag R.SPN_STAT_ISOL = true ∧ s.flag R.SPN_CFG_ISOPOL = true ∧ s.get R.SPN_CFG_ISOLIM ≠ 0 ∧
        s.dev = .run ∧ inGap s = false) ∧
    (let s : State := (((((let z : State := nodeState blank .run false; { z with cycle := { z.cycle with classes := State.reset.cycle.classes } }).set (R.CYC_PER_TICKS 1) 0).set R.SPN_STAT_ISOL 0).set R.SPN_CFG_ISOPOL 0).raise R.SPN_STAT_ISOL).raise R.SPN_CFG_ISOPOL |>.set R.SPN_CFG_ISOLIM 5;
      s.powered = true ∧ s.flag R.SPN_STAT_ISOL = true ∧ s.flag R.SPN_CFG_ISOPOL = true ∧ s.get R.SPN_CFG_ISOLIM ≠ 0 ∧
        s.dev = .run ∧ inGap s = true ∧ cyclesDone s = true) ∧
    (let s : State := nodeState blank .stop false;
      s.powered = true ∧ (s.flag R.SPN_STAT_ISOL = false ∨ s.flag R.SPN_CFG_ISOPOL = false ∨
        s.get R.SPN_CFG_ISOLIM = 0 ∨ s.dev ≠ .run)) :=
  ⟨by decide +kernel, by decide +kernel, by decide +kernel, by decide +kernel, by decide +kernel⟩

/-- States and operands that meet the hypotheses of SpineData. -/
theorem witness_SpineData :
    (let h : FrameHead := ({ head0 with cls := 1, tref := 3000000 }); let n : Nat := 2; let k : Nat := 1;
      let l : Nat := 0; let g : Nat := 3; let s : State := dataState blank .gather false false;
      s.powered = true ∧ (spineAccept s 4 h).2 = true ∧ s.dev = .run ∧ s.isWorker = false ∧ hasStandby s = false ∧
        (s.cls (h.cls % 8)).phase = .gather ∧ h.tref % 2 ^ 36 = (s.cls (h.cls % 8)).latchAt % 2 ^ 36 ∧
        ((classRuns s (h.cls % 8) false).filter (fun x => x.node / 2 == h.src / 2) = [⟨n, k, false, true, l, g, 1⟩]) ∧
        g < 0x20000) ∧
    (let h : FrameHead := ({ head0 with cls := 1, tref := 3000000 });
      let s : State := dataState blank .gather false false;
      s.powered = true ∧ (spineAccept s 4 h).2 = true ∧ s.dev = .run ∧ s.isWorker = false ∧
        (s.cls (h.cls % 8)).phase = .gather ∧ h.tref % 2 ^ 36 = (s.cls (h.cls % 8)).latchAt % 2 ^ 36) ∧
    (let h : FrameHead := head0; let s : State := dataState blank .solve false false;
      s.powered = true ∧ (spineAccept s 4 h).2 = true ∧ ((s.cls (h.cls % 8)).phase ≠ .gather ∨
        h.tref % 2 ^ 36 ≠ (s.cls (h.cls % 8)).latchAt % 2 ^ 36 ∨ s.isWorker = true ∨ s.dev = .standby ∨
        s.cycling = false)) ∧
    (let h : FrameHead := head0; let s : State := nodeState blank .run false;
      s.powered = true ∧ (spineAccept s 5 h).2 = true ∧ s.acting = false) ∧
    (let h : FrameHead := head0; let unit : Nat := 9; let s : State := dataState blank .solve false false;
      s.powered = true ∧ (spineAccept s 6 h).2 = true ∧ s.cycling = true ∧
        s.imposer.foreignUnits.find? (·.id == unit) = none) :=
  ⟨by decide +kernel, by decide +kernel, by decide +kernel, by decide +kernel, by decide +kernel⟩

/-- States and operands that meet the hypotheses of SpineData, clauses from the 6th on. -/
theorem witness_SpineData_2 :
    (let h : FrameHead := head0; let unit : Nat := 9; let points : List PointValue := [⟨true, true, 3, 77, 0⟩];
      let u : CoreUnit := unit1; let s : State := dataState blank .solve false true;
      s.powered = true ∧ (spineAccept s 6 h).2 = true ∧ s.cycling = true ∧
        s.imposer.foreignUnits.find? (·.id == unit) = some u ∧ u.cls < 8 ∧
        (points.Pairwise (fun x y => x.word = y.word → x.num ≠ y.num)) ∧
        (points.all (fun p => decide (p.num < 0x20000)) = true)) ∧
    (let h : FrameHead := ({ head0 with cls := 1, tref := 3000000 }); let unit : Nat := 9;
      let points : List PointValue := [⟨true, true, 3, 77, 0⟩]; let u : CoreUnit := unit1;
      let s : State := dataState blank .solve true false; let c : FolioContent := s.content.getD smallContent;
      s.powered = true ∧ (spineAccept s 7 h).2 = true ∧ s.dev = .run ∧ s.isWorker = false ∧ s.content = some c ∧
        (remoteUnits s (h.cls % 8)).find? (·.id == unit) = some u ∧ u.cls < 8 ∧ ((s.cls u.cls).phase = .gather ∨
        (s.cls u.cls).phase = .solve) ∧
        (points.all (fun p => (pointOwner s p.word true p.num).any (fun x => x.cls == u.cls && x.out)) = true) ∧
        (points.Pairwise (fun x y => x.word = y.word → x.num ≠ y.num)) ∧
        (points.all (fun p => decide (p.num < 0x20000)) = true)) ∧
    (let h : FrameHead := ({ head0 with cls := 1, tref := 3000000 }); let unit : Nat := 9; let u : CoreUnit := unit1;
      let s : State := dataState blank .late true false;
      s.powered = true ∧ (spineAccept s 7 h).2 = true ∧ s.dev = .run ∧ s.content.isSome = true ∧
        (remoteUnits s (h.cls % 8)).find? (·.id == unit) = some u ∧ (s.cls u.cls).phase ≠ .gather ∧
        (s.cls u.cls).phase ≠ .solve) ∧
    (let s : State := nodeState blank .run true;
      s.powered = true ∧ s.acting = true) ∧
    (let h : FrameHead := head0; let s : State := nodeState blank .run false;
      s.powered = true ∧ (spineAccept s 8 h).2 = true) :=
  ⟨by decide +kernel, by decide +kernel, by decide +kernel, by decide +kernel, by decide +kernel⟩

/-- States and operands that meet the hypotheses of SpineData, clauses from the 11th on. -/
theorem witness_SpineData_3 :
    (let h : FrameHead := head0; let s : State := nodeState blank .run false;
      s.powered = true ∧ (spineAccept s 9 h).2 = true ∧ s.dev ≠ .standby ∧ s.isWorker = true ∧
        s.content.isSome = true) ∧
    (let h : FrameHead := head0; let s : State := nodeState blank .stop false;
      s.powered = true ∧ (spineAccept s 9 h).2 = true ∧ s.dev = .stop ∧ s.folio.loading = none ∧ s.power.pfStep = 0 ∧
        s.acting = false) ∧
    (let h : FrameHead := head0; let s : State := nodeState blank .stop false;
      s.powered = true ∧ (spineAccept s 9 h).2 = true ∧ s.dev ≠ .standby) :=
  ⟨by decide +kernel, by decide +kernel, by decide +kernel⟩

/-- States and operands that meet the hypotheses of SpineAccesses. -/
theorem witness_SpineAccesses :
    (let h : FrameHead := head0; let a : Nat := 0x100; let s : State := nodeState blank .run false;
      s.powered = true ∧ (spineAccept s 10 h).2 = true ∧ remoteAdmits s a false = true ∧ s.poisoned a = false) ∧
    (let h : FrameHead := head0; let a : Nat := 0x100; let keep : Word := 0;
      let s : State := nodeState blank .run false;
      s.powered = true ∧ (spineAccept s 10 h).2 = true ∧ remoteAdmits s a true = true ∧ (keep = 0 ∨
        s.poisoned a = false)) ∧
    (let h : FrameHead := head0; let a : Nat := 0x3F0100; let keep : Word := 0;
      let s : State := nodeState blank .run false;
      s.powered = true ∧ (spineAccept s 10 h).2 = true ∧ remoteAdmits s a true = false ∧ (keep = 0 ∨
        s.poisoned a = false)) ∧
    (let h : FrameHead := head0; let p : Nat := 3; let ea : Nat := 0x800005;
      let q : RemoteReq := ⟨3, 0x800005, false, 2, 5, 0, 0⟩;
      let s : State := (let z : State := nodeState blank .run false; { z.setCore 3 { z.core 3 with wait := .remote 0x800005 } with spine := { z.spine with requests := [⟨3, 0x800005, false, 2, 5, 0, 0⟩] } });
      s.powered = true ∧ (spineAccept s 10 h).2 = true ∧
        (s.spine.requests.find? (fun q => q.master == p && q.ea == ea && q.store == false) = some q) ∧ p < 8 ∧
        (s.core p).wait = .remote ea) ∧
    (let h : FrameHead := head0; let p : Nat := 3; let ea : Nat := 0x800005;
      let q : RemoteReq := ⟨3, 0x800005, true, 2, 5, 0, 0⟩;
      let s : State := (let z : State := (nodeState blank .run false).set (R.SPN_RSTAT_PEND 3) 1; { z with spine := { z.spine with requests := [⟨3, 0x800005, true, 2, 5, 0, 0⟩] } });
      s.powered = true ∧ (spineAccept s 10 h).2 = true ∧
        (s.spine.requests.find? (fun q => q.master == p && q.ea == ea && q.store == true) = some q) ∧
        s.get (R.SPN_RSTAT_PEND p) ≠ 0) :=
  ⟨by decide +kernel, by decide +kernel, by decide +kernel, by decide +kernel, by decide +kernel⟩

/-- States and operands that meet the hypotheses of SpineAccesses, clauses from the 6th on. -/
theorem witness_SpineAccesses_2 :
    (let m : Fin 9 := 3; let q : RemoteReq := ⟨3, 0x800005, false, 2, 5, 0, 0⟩;
      let s : State := (let z : State := nodeState blank .run false; { z with spine := { z.spine with requests := [⟨3, 0x800005, false, 2, 5, 0, 0⟩] } });
      s.powered = true ∧ (s.spine.requests.find? (fun q => q.master == m.val) = some q) ∧ q.store = false) ∧
    (let m : Fin 9 := 3; let q : RemoteReq := ⟨3, 0x800005, true, 2, 5, 0, 0⟩;
      let s : State := (let z : State := (nodeState blank .run false).setCore 3 Core.fresh; { z with spine := { z.spine with requests := [⟨3, 0x800005, true, 2, 5, 0, 0⟩] } });
      s.powered = true ∧ (s.spine.requests.find? (fun q => q.master == m.val) = some q) ∧ q.store = true ∧ m.val < 8 ∧
        (s.core m).imprecise = none) ∧
    (let s : State := (dataState blank .solve false false).set R.SPN_SNAPCTL_PERIOD 4;
      s.powered = true ∧ s.get R.SPN_SNAPCTL_PERIOD ≠ 0 ∧ s.content.all (·.snapshot.isNone) = false ∧
        s.spine.snapshot = none) ∧
    (let s : State := (dataState blank .solve false false).raise R.SPN_SNAPCTL_ARM;
      s.powered = true ∧ s.flag R.SPN_SNAPCTL_ARM = true ∧ s.content.all (·.snapshot.isNone) = false ∧
        s.spine.snapshot = none) ∧
    (let s : State := (let z : State := (dataState blank .solve false false).set R.SPN_SNAPCTL_PERIOD 4; { z with spine := { z.spine with snapshot := some [] } });
      s.powered = true ∧ s.get R.SPN_SNAPCTL_PERIOD ≠ 0 ∧ s.content.all (·.snapshot.isNone) = false ∧
        s.spine.snapshot.isSome = true) :=
  ⟨by decide +kernel, by decide +kernel, by decide +kernel, by decide +kernel, by decide +kernel⟩

/-- States and operands that meet the hypotheses of SpineAccesses, clauses from the 11th on. -/
theorem witness_SpineAccesses_3 :
    (let m : List (Nat × Word) := [(9, 3), (11, 4)];
      let s : State := (let z : State := (dataState blank .solve false false).set R.SPN_SNAPBASE_ADDR 4096; { z with spine := { z.spine with snapshot := some [(9, 3), (11, 4)] } });
      s.powered = true ∧ s.spine.snapshot = some m ∧ (m.all (fun p => decide (p.1 < 40960)) = true) ∧
        (m.Pairwise (fun x y => x.1 ≠ y.1))) ∧
    (let m : Fin 18 := 9; let s : State := ((nodeState blank .stop true).set R.SPN_GOP_STATUS 0);
      s.powered = true ∧ (m = 8 ∨ m = 9) ∧ s.get R.SPN_GOP_STATUS ≠ 1 ∧ s.acting = true) ∧
    (let m : Fin 18 := 0; let s : State := ((nodeState blank .stop true).set R.SPN_GOP_STATUS 0);
      s.powered = true ∧ m ≠ 8 ∧ m ≠ 9) ∧
    (let h : FrameHead := head0; let s : State := (nodeState blank .run false).raise R.SPN_STAT_ADMITTED;
      s.powered = true ∧ (spineAccept s 8 h).2 = true ∧ s.flag R.SPN_STAT_ADMITTED = true) ∧
    (let m : Fin 18 := 8; let s : State := ((nodeState blank .stop true).set R.SPN_GOP_STATUS 0);
      s.powered = true ∧ (m = 8 ∨ m = 9) ∧ s.get R.SPN_GOP_STATUS ≠ 1 ∧ s.acting = true) :=
  ⟨by decide +kernel, by decide +kernel, by decide +kernel, by decide +kernel, by decide +kernel⟩

/-- States and operands that meet the hypotheses of SpineAccesses, clauses from the 16th on. -/
theorem witness_SpineAccesses_4 :
    (let m : Fin 18 := 8; let s : State := ((nodeState blank .stop false).set R.SPN_GOP_STATUS 0);
      s.powered = true ∧ (m = 8 ∨ m = 9) ∧ s.get R.SPN_GOP_STATUS ≠ 1 ∧ s.acting = false) ∧
    (let h : FrameHead := head0; let s : State := nodeState blank .run false;
      s.powered = true ∧ (spineAccept s 8 h).2 = true ∧ s.acting = false) ∧
    (let m : Fin 18 := 8; let s : State := ((nodeState blank .stop true).set R.SPN_GOP_STATUS 0);
      s.powered = true ∧ (m = 8 ∨ m = 9) ∧ s.get R.SPN_GOP_STATUS ≠ 1 ∧ s.acting = true) ∧
    (let m : Fin 18 := 8; let s : State := ((nodeState blank .stop false).set R.SPN_GOP_STATUS 0);
      s.powered = true ∧ (m = 8 ∨ m = 9) ∧ s.get R.SPN_GOP_STATUS ≠ 1 ∧ s.acting = false) ∧
    (let h : FrameHead := head0; let s : State := nodeState blank .run false;
      s.powered = true ∧ (spineAccept s 8 h).2 = true ∧ s.acting = false) :=
  ⟨by decide +kernel, by decide +kernel, by decide +kernel, by decide +kernel, by decide +kernel⟩

/-- States and operands that meet the hypotheses of SpineAccesses, clauses from the 21th on. -/
theorem witness_SpineAccesses_5 :
    (let at0 : Nat := 5; let cold : Bool := false;
      let s : State := (let z : State := ((nodeState blank .run true).set R.SPN_GOP_STATUS 1).set R.SPN_GOP_SELF 0; { z with spine := { z.spine with resetAt := some (5, false) } });
      s.powered = true ∧ s.spine.resetAt = some (at0, cold) ∧ s.acting = true ∧ s.flag R.SPN_GOP_SELF = false ∧
        s.get R.SPN_GOP_STATUS = 1) ∧
    (let at0 : Nat := 5;
      let s : State := (let z : State := nodeState blank .run false; { z with spine := { z.spine with resetAt := some (5, true) } });
      s.powered = true ∧ s.spine.resetAt = some (at0, true) ∧ (s.acting = false ∨ s.flag R.SPN_GOP_SELF = true)) ∧
    (let at0 : Nat := 5;
      let s : State := (let z : State := (nodeState State.reset .run false).set R.SYS_STATE_DEFER 0; { z with spine := { z.spine with resetAt := some (5, false) } });
      s.powered = true ∧ s.spine.resetAt = some (at0, false) ∧ (s.acting = false ∨ s.flag R.SPN_GOP_SELF = true) ∧
        s.power.pfStep = 0 ∧ s.flag R.SYS_STATE_DEFER = false ∧ deferring s = false) :=
  ⟨by decide +kernel, by decide +kernel, by decide +kernel⟩

/-- States and operands that meet the hypotheses of PairHeartbeats. -/
theorem witness_PairHeartbeats :
    (let s : State := pairState blank 0;
      s.powered = true) ∧
    (let h : FrameHead := { head0 with crcOk := false }; let s : State := pairState blank 0;
      s.powered = true ∧ h.crcOk = false) ∧
    (let h : FrameHead := head0; let m : HeartMsg := ⟨4, true, 4, none, true⟩; let s : State := standbyState blank 4;
      s.powered = true ∧ (twinAccept s 33 h).2 = true ∧ m.departure = none ∧ s.dev = .standby ∧
        s.twin.waiting = false) ∧
    (let h : FrameHead := head0; let m : HeartMsg := ⟨5, false, 3, none, true⟩;
      let s : State := (let z : State := pairState blank 0; { z with twin := State.reset.twin });
      s.powered = true ∧ (twinAccept s 33 h).2 = true ∧ m.departure = none ∧ (s.dev = .run ∨ s.dev = .halt) ∧
        s.partner.isSome = true ∧ s.flag R.TWN_STAT_PRIMARY = true ∧ s.twin.waiting = false ∧ m.state = 5 ∧
        s.twin.heart.any (·.state == 5) = false) ∧
    (let h : FrameHead := head0; let m : HeartMsg := ⟨3, false, 0, none, true⟩;
      let s : State := (let z : State := (pairState blank 0).set R.TWN_STAT_PSTATE 4; { z with twin := { State.reset.twin with heart := some ⟨5, false, 4, none, true⟩ } });
      s.powered = true ∧ (twinAccept s 33 h).2 = true ∧ m.departure = none ∧ (s.dev = .run ∨ s.dev = .halt) ∧
        s.partner.isSome = true ∧ s.flag R.TWN_STAT_PRIMARY = true ∧ s.twin.waiting = false ∧ m.state ≠ 5 ∧
        s.twin.heart.any (·.state == 5) = true ∧ 3 ≤ s.get R.TWN_STAT_PSTATE) :=
  ⟨by decide +kernel, by decide +kernel, by decide +kernel, by decide +kernel, by decide +kernel⟩

/-- States and operands that meet the hypotheses of PairHeartbeats, clauses from the 6th on. -/
theorem witness_PairHeartbeats_2 :
    (let h : FrameHead := head0; let m : HeartMsg := ⟨4, true, 4, none, true⟩;
      let s : State := (let z : State := (let z : State := (olcState' blank .load 0).set R.TWN_STAT_PSTATE 2; { z with folio := { z.folio with content := some { smallContent with partner := some ⟨1, none⟩ } } }); { z with twin := { State.reset.twin with waiting := true } });
      s.powered = true ∧ (twinAccept s 33 h).2 = true ∧ s.twin.waiting = true ∧ m.departure = none ∧ s.dev = .load ∧
        m.state = 4) ∧
    (let h : FrameHead := head0; let m : HeartMsg := ⟨4, true, 4, some 77, true⟩; let d : Nat := 77;
      let s : State := (let z : State := standbyState blank 4; { z with twin := State.reset.twin });
      s.powered = true ∧ (twinAccept s 33 h).2 = true ∧ m.departure = some d ∧
        s.twin.heart.any (·.departure == some d) = false ∧ s.dev = .standby ∧ s.get R.TWN_STAT_PSTATE ≠ 3 ∧
        s.twin.waiting = false) ∧
    (let s : State := (pairState blank 0).set R.TWN_XHB_HBLIM 3;
      s.powered = true ∧ s.partner.isSome = true ∧ (s.twin.missed + 1 < s.get R.TWN_XHB_HBLIM ∨ s.twin.lost = true ∨
        s.twin.heart = none)) ∧
    (let s : State := (standbyState blank 4).set R.TWN_XHB_HBLIM 1;
      s.powered = true ∧ s.partner.isSome = true ∧ s.get R.TWN_XHB_HBLIM ≤ s.twin.missed + 1 ∧ s.twin.lost = false ∧
        s.twin.heart.isSome = true ∧ s.dev = .standby ∧ s.get R.TWN_STAT_PSTATE ≠ 3 ∧ seesPartner s = false ∧
        reachesSpine s = true) ∧
    (let s : State := (let z : State := ({ standbyState blank 4 with cycle := State.reset.cycle }).set R.TWN_XHB_HBLIM 1; { z with spine := { z.spine with heardPartner := some z.time.loc } });
      s.powered = true ∧ cyclesDone s = true ∧ s.partner.isSome = true ∧ s.get R.TWN_XHB_HBLIM ≤ s.twin.missed + 1 ∧
        s.twin.lost = false ∧ s.twin.heart.isSome = true ∧ s.dev = .standby ∧ (s.get R.TWN_STAT_PSTATE = 3 ∨
        seesPartner s = true ∨ reachesSpine s = false)) :=
  ⟨by decide +kernel, by decide +kernel, by decide +kernel, by decide +kernel, by decide +kernel⟩

/-- States and operands that meet the hypotheses of PairHeartbeats, clauses from the 11th on. -/
theorem witness_PairHeartbeats_3 :
    (let s : State := (pairState blank 0).set R.TWN_XHB_HBLIM 1;
      s.powered = true ∧ s.partner.isSome = true ∧ s.get R.TWN_XHB_HBLIM ≤ s.twin.missed + 1 ∧ s.twin.lost = false ∧
        s.twin.heart.isSome = true ∧ (s.dev = .run ∨ s.dev = .halt) ∧ s.flag R.TWN_STAT_PRIMARY = true ∧
        reachesSpine s = true) ∧
    (let s : State := (let z : State := (pairState blank 0).set R.TWN_XHB_HBLIM 1; { z with folio := { z.folio with content := some { smallContent with partner := some ⟨1, none⟩, nodes := [⟨6, true, false, true, none, []⟩] } } });
      s.powered = true ∧ s.partner.isSome = true ∧ s.get R.TWN_XHB_HBLIM ≤ s.twin.missed + 1 ∧ s.twin.lost = false ∧
        s.twin.heart.isSome = true ∧ (s.dev = .run ∨ s.dev = .halt) ∧ s.flag R.TWN_STAT_PRIMARY = true ∧
        reachesSpine s = false) ∧
    (let s : State := (let z : State := ((let z : State := (olcState' blank .load 0).set R.TWN_STAT_PSTATE 2; { z with folio := { z.folio with content := some { smallContent with partner := some ⟨1, none⟩ } } })).set R.SPN_STAT_ACTING 0; { z with folio := { z.folio with content := some { smallContent with standalone := false, partner := some ⟨1, none⟩ } }, twin := { z.twin with waiting := true } });
      s.powered = true ∧ s.dev = .load ∧ s.twin.waiting = true ∧ s.twin.heart = none ∧ s.partner.isSome = true ∧
        s.standalone = false) ∧
    (let s : State := (let z : State := (olcState' blank .load 0).set R.TWN_STAT_PSTATE 2; { z with folio := { z.folio with content := some { smallContent with partner := some ⟨1, none⟩ } } });
      let peer : PairId := ⟨[1, 2], bitsOf (s.reg R.COL_TYPE_TYPE.addr) 24 12, 3, (List.range 8).map fun i => s.reg (R.FOL_PDIGEST_DIGEST i).addr⟩;
      s.powered = true ∧ s.partner.isSome = true ∧ s.dev = .load ∧ s.get R.TWN_STAT_PSTATE = 2 ∧
        pairingCause s peer ≠ 0) ∧
    (let s : State := (let z : State := (olcState' blank .load 0).set R.TWN_STAT_PSTATE 2; { z with folio := { z.folio with content := some { smallContent with partner := some ⟨1, none⟩ } } });
      let peer : PairId := ⟨[1, 2], bitsOf (s.reg R.COL_TYPE_TYPE.addr) 24 12, (s.get R.RST_STRAP_ROLE + 2) % 4, (List.range 8).map fun i => s.reg (R.FOL_PDIGEST_DIGEST i).addr⟩;
      s.powered = true ∧ s.partner.isSome = true ∧ s.dev = .load ∧ s.get R.TWN_STAT_PSTATE = 2 ∧
        pairingCause s peer = 0) :=
  ⟨by decide +kernel, by decide +kernel, by decide +kernel, by decide +kernel, by decide +kernel⟩

/-- States and operands that meet the hypotheses of PairHeartbeats, clauses from the 16th on. -/
theorem witness_PairHeartbeats_4 :
    (let s : State := (let z : State := (olcState' blank .stop 0).set R.SYS_STATE_DEFER 0; { z with twin := { z.twin with rejoinDue := true }, retain := { z.retain with running := none }, keeper := { z.keeper with commits := [] } });
      s.powered = true ∧ s.twin.rejoinDue = true ∧ s.dev = .stop ∧ s.power.pfStep = 0 ∧
        s.flag R.SYS_STATE_DEFER = false ∧ deferring s = false) ∧
    (let s : State := pairState blank 0;
      s.powered = true ∧ (s.twin.rejoinDue = false ∨ s.dev ≠ .stop)) :=
  ⟨by decide +kernel, by decide +kernel⟩

/-- States and operands that meet the hypotheses of TwinTracking. -/
theorem witness_TwinTracking :
    (let h : FrameHead := ({ head0 with cls := 1, tref := 3000000 });
      let points : List PointValue := [⟨true, false, 5, 7, 2⟩]; let s : State := standbyState blank 4;
      s.powered = true ∧ (twinAccept s 34 h).2 = true ∧ s.dev = .standby ∧
        h.tref % 2 ^ 36 = (s.cls (h.cls % 8)).latchAt % 2 ^ 36 ∧ (s.cls (h.cls % 8)).phase = .gather ∧
        (points.all (fun p => decide (p.num < 32768) && decide (p.qual < 4)) = true) ∧
        (points.Pairwise (fun x y => x.word = y.word → x.global = y.global → x.num ≠ y.num))) ∧
    (let h : FrameHead := ({ head0 with cls := 1, tref := 3000000 });
      let s : State := (let z : State := standbyState blank 4; { z with cycle := { z.cycle with classes := z.cycle.classes.setIfInBounds 1 { z.cls 1 with phase := .solve } }, twin := { z.twin with trkLate := 2 } });
      s.powered = true ∧ (twinAccept s 34 h).2 = true ∧ s.dev = .standby ∧
        h.tref % 2 ^ 36 = (s.cls (h.cls % 8)).latchAt % 2 ^ 36 ∧ (s.cls (h.cls % 8)).phase ≠ .gather ∧
        s.twin.trkLate.testBit (h.cls % 8) = true) ∧
    (let h : FrameHead := head0; let s : State := standbyState blank 4;
      s.powered = true ∧ (twinAccept s 35 h).2 = true ∧ s.dev = .standby ∧ s.get R.TWN_STAT_PSTATE ≠ 3) ∧
    (let h : FrameHead := head0;
      let runs : List (Nat × List Word) := [(0x100, [1, 2]), (0x500000, [9]), (0x600000, [BitVec.ofNat 36 (2 ^ 36 - 1)]), (0x440007, [5])];
      let s : State := standbyState blank 4;
      let ws : List (Nat × Word) := (runs.flatMap fun x => x.2.zipIdx.map fun w => (x.1 + w.2, w.1));
      s.powered = true ∧ (twinAccept s 35 h).2 = true ∧ s.dev = .standby ∧ s.get R.TWN_STAT_PSTATE ≠ 3 ∧
        (ws = (runs.flatMap fun x => x.2.zipIdx.map fun w => (x.1 + w.2, w.1))) ∧ (ws.map (·.1)).Nodup) ∧
    (let h : FrameHead := head0; let s : State := standbyState blank 4;
      s.powered = true ∧ (twinAccept s 36 h).2 = true ∧ s.dev = .standby) :=
  ⟨by decide +kernel, by decide +kernel, by decide +kernel, by decide +kernel, by decide +kernel⟩

/-- States and operands that meet the hypotheses of TwinTracking, clauses from the 6th on. -/
theorem witness_TwinTracking_2 :
    (let h : FrameHead := head0; let s : State := standbyState blank 4;
      s.powered = true ∧ (twinAccept s 36 h).2 = true ∧ s.dev = .standby) ∧
    (let h : FrameHead := head0;
      let s : State := (let z : State := standbyState blank 4; { (z.set (R.CYC_PER_TICKS 1) 32) with cycle := { z.cycle with classes := z.cycle.classes.setIfInBounds 1 { ClassSt.fresh with phase := .solve } } });
      s.powered = true ∧ (twinAccept s 36 h).2 = true ∧ s.dev = .standby ∧ inGap s = false) ∧
    (let h : FrameHead := head0;
      let s : State := (let z : State := standbyState blank 4; { (z.set (R.CYC_PER_TICKS 1) 32) with cycle := { z.cycle with classes := z.cycle.classes.setIfInBounds 1 { ClassSt.fresh with phase := .solve } } });
      s.powered = true ∧ (twinAccept s 36 h).2 = true ∧ s.dev = .standby ∧ s.content.isSome = true ∧ inGap s = false) ∧
    (let h : FrameHead := head0; let c : Nat := 1; let d : Nat := 1;
      let s : State := (let z : State := standbyState blank 4; { z with cycle := { z.cycle with classes := z.cycle.classes.setIfInBounds 1 { ClassSt.fresh with phase := .done } } });
      s.powered = true ∧ (twinAccept s 36 h).2 = true ∧ s.dev = .standby ∧ (s.cls (c % 8)).phase = .done ∧ d = 1) ∧
    (let h : FrameHead := head0; let s : State := pairState blank 0;
      s.powered = true ∧ (twinAccept s 36 h).2 = true ∧ hasStandby s = true) :=
  ⟨by decide +kernel, by decide +kernel, by decide +kernel, by decide +kernel, by decide +kernel⟩

/-- States and operands that meet the hypotheses of TwinTracking, clauses from the 11th on. -/
theorem witness_TwinTracking_3 :
    (let h : FrameHead := head0; let d : BitVec 32 := 77; let own : Nat := 77;
      let s : State := (let z : State := standbyState blank 4; { z with twin := { z.twin with ownDigest := Vector.replicate 8 (some 77) } });
      s.powered = true ∧ (twinAccept s 37 h).2 = true ∧ s.dev = .standby ∧ s.get R.TWN_STAT_PSTATE = 4 ∧
        s.twin.ownDigest.toList.getD (h.cls % 8) none = some own ∧ own = d.toNat) ∧
    (let h : FrameHead := head0; let d : BitVec 32 := 77; let own : Nat := 76;
      let s : State := (let z : State := (standbyState blank 4).set R.TWN_CFG_MMLIM 0; { z with twin := { z.twin with ownDigest := Vector.replicate 8 (some 76) } });
      s.powered = true ∧ (twinAccept s 37 h).2 = true ∧ s.dev = .standby ∧ s.get R.TWN_STAT_PSTATE = 4 ∧
        s.twin.ownDigest.toList.getD (h.cls % 8) none = some own ∧ own ≠ d.toNat ∧ s.get R.TWN_CFG_MMLIM = 0) ∧
    (let d : Nat := 3000000;
      let s : State := (let z : State := standbyState blank 4; { z with twin := { z.twin with takeFrom := some 3000000 } });
      s.powered = true ∧ s.twin.takeFrom = some d ∧ s.dev = .standby) ∧
    (let s : State := standbyState blank 4;
      s.powered = true ∧ (s.twin.takeFrom = none ∨ s.dev ≠ .standby)) ∧
    (let s : State := (let z : State := pairState blank 0; { z with twin := { z.twin with yieldFrom := some 9 } });
      s.powered = true ∧ cyclesDone s = true ∧ s.twin.yieldFrom.isSome = true ∧ s.twin.departAt = none ∧
        s.dev = .run ∧ s.flag R.TWN_STAT_PRIMARY = true) :=
  ⟨by decide +kernel, by decide +kernel, by decide +kernel, by decide +kernel, by decide +kernel⟩

/-- States and operands that meet the hypotheses of TwinTracking, clauses from the 16th on. -/
theorem witness_TwinTracking_4 :
    (let s : State := ((pairState blank 0).set R.TWN_CMD_STATUS 0).set R.TWN_STAT_PSTATE 4;
      s.powered = true ∧ s.get R.TWN_CMD_STATUS ≠ 1 ∧ s.dev = .run ∧ s.get R.TWN_STAT_PSTATE = 4 ∧
        hasStandby s = true ∧ s.power.pfStep = 0) ∧
    (let s : State := standbyState blank 4;
      s.powered = true ∧ s.get R.TWN_CMD_STATUS ≠ 1 ∧ s.dev = .standby) ∧
    (let s : State := (let z : State := standbyState blank 4; { z with twin := { z.twin with switchAt := some 3000000 } });
      s.powered = true ∧ s.twin.switchAt.isSome = true ∧ s.dev = .standby) ∧
    (let s : State := (let z : State := pairState blank 0; { z with twin := { z.twin with switchAt := some 3000000 }, upd := { z.upd with activateDue := false } });
      s.powered = true ∧ s.twin.switchAt.isSome = true ∧ s.dev = .run ∧ s.flag R.TWN_STAT_PRIMARY = true ∧
        s.upd.activateDue = false) ∧
    (let s : State := (let z : State := (pairState blank 0).set R.SYS_STATE_DEFER 0; { z with twin := { z.twin with switchAt := some 3000000 }, upd := { z.upd with activateDue := true }, retain := { z.retain with running := none }, keeper := { z.keeper with commits := [] } });
      s.powered = true ∧ s.twin.switchAt.isSome = true ∧ s.dev = .run ∧ s.flag R.TWN_STAT_PRIMARY = true ∧
        s.upd.activateDue = true ∧ s.power.pfStep = 0 ∧ s.flag R.SYS_STATE_DEFER = false ∧ deferring s = false) :=
  ⟨by decide +kernel, by decide +kernel, by decide +kernel, by decide +kernel, by decide +kernel⟩

/-- States and operands that meet the hypotheses of TwinTracking, clauses from the 21th on. -/
theorem witness_TwinTracking_5 :
    (let s : State := ((pairState blank 0).set R.TWN_CMD_STATUS 0).set R.TWN_STAT_PRIMARY 0;
      s.powered = true ∧ s.get R.TWN_CMD_STATUS ≠ 1 ∧ s.dev ≠ .standby ∧ s.flag R.TWN_STAT_PRIMARY = false) ∧
    (let s : State := { standbyState blank 4 with cycle := State.reset.cycle };
      s.powered = true ∧ cyclesDone s = true ∧ s.get R.TWN_CMD_STATUS ≠ 1 ∧ s.dev = .standby) ∧
    (let s : State := (pairState blank 0).set R.TWN_CMD_STATUS 0;
      s.powered = true ∧ s.get R.TWN_CMD_STATUS ≠ 1 ∧ s.dev ≠ .standby ∧ s.flag R.TWN_STAT_PRIMARY = true) ∧
    (let s : State := (pairState blank 0).set R.TWN_STAT_PSTATE 3;
      let addrs : List Nat := copySlice (copyRanges s) s.twin.copyDone 256;
      s.powered = true ∧ s.get R.TWN_STAT_PSTATE = 3 ∧ hasStandby s = true ∧ s.twin.fabricDue = false ∧
        addrs = copySlice (copyRanges s) s.twin.copyDone 256) ∧
    (let h : FrameHead := head0; let ws : List Word := [5, 6, 7]; let s : State := standbyState blank 3;
      let addrs : List Nat := copySlice (copyRanges s) s.twin.copyDone (min 256 ws.length);
      s.powered = true ∧ (twinAccept s 38 h).2 = true ∧ s.get R.TWN_STAT_PSTATE = 3 ∧ s.dev = .standby ∧
        addrs = copySlice (copyRanges s) s.twin.copyDone (min 256 ws.length) ∧ addrs.Nodup) :=
  ⟨by decide +kernel, by decide +kernel, by decide +kernel, by decide +kernel, by decide +kernel⟩

/-- States and operands that meet the hypotheses of TwinTracking, clauses from the 26th on. -/
theorem witness_TwinTracking_6 :
    (let h : FrameHead := head0;
      let s : State := (let z : State := standbyState blank 3; { z with twin := { z.twin with fabricDue := true } });
      s.powered = true ∧ (twinAccept s 38 h).2 = true ∧ s.get R.TWN_STAT_PSTATE = 3 ∧ s.twin.fabricDue = true ∧
        s.dev = .standby) ∧
    (let s : State := (let z : State := (pairState blank 0).set R.TWN_STAT_PSTATE 3; { z with twin := { z.twin with fabricDue := true }, time := { z.time with loc := 31250 * 64, locFrac := 0, active := none } });
      s.powered = true ∧ s.get R.TWN_STAT_PSTATE = 3 ∧ s.twin.fabricDue = true ∧ hasStandby s = true ∧
        s.cycling = true ∧ inGap s = true ∧ s.fabric.quires.toList.all (·.running.isNone) = true ∧
        s.now + fabricCopyTime s + 1000 ≤ nextMajor s * 31250) ∧
    (let s : State := (let z : State := { standbyState blank 3 with cycle := State.reset.cycle }; { z with twin := { z.twin with fabricDue := true, skipped := 6 } });
      s.powered = true ∧ s.get R.TWN_STAT_PSTATE = 3 ∧ s.twin.fabricDue = true ∧ (s.dev = .standby ∨
        hasStandby s = true) ∧ (hasStandby s = false ∨ s.cycling = false ∨ inGap s = false ∨
        s.fabric.quires.toList.all (·.running.isNone) = false ∨
        nextMajor s * 31250 < s.now + fabricCopyTime s + 1000) ∧ s.twin.skipped < 63) ∧
    (let s : State := (let z : State := { standbyState blank 3 with cycle := State.reset.cycle }; { z with twin := { z.twin with fabricDue := true, skipped := 63 } });
      s.powered = true ∧ cyclesDone s = true ∧ s.get R.TWN_STAT_PSTATE = 3 ∧ s.twin.fabricDue = true ∧
        s.dev = .standby ∧ hasStandby s = false ∧ 63 ≤ s.twin.skipped) ∧
    (let x : Nat × OlcAct := (5, .switch);
      let s : State := (let z : State := { standbyState blank 4 with cycle := State.reset.cycle }; { z with olc := { z.olc with acked := some (5, .switch) } });
      s.powered = true ∧ cyclesDone s = true ∧ s.dev = .standby ∧ s.olc.acked = some x ∧ x.2 = .switch) :=
  ⟨by decide +kernel, by decide +kernel, by decide +kernel, by decide +kernel, by decide +kernel⟩

/-- States and operands that meet the hypotheses of FieldLinkFrames. -/
theorem witness_FieldLinkFrames :
    (let arr : Bool := true; let s : State := { dieState blank 5 with dev := .run };
      s.powered = true ∧ arr = true) ∧
    (let s : State := { dieState blank 5 with dev := .run };
      s.powered = true) ∧
    (let s : State := { dieState blank 5 with dev := .run };
      s.powered = true) ∧
    (let s : State := { blank with dev := .run, field := { blank.field with missed := 33, linkLost := false } };
      s.powered = true ∧ 32 ≤ s.field.missed ∧ s.field.linkLost = false) ∧
    (let s : State := { blank with dev := .boot, meter := State.reset.meter };
      s.powered = true) :=
  ⟨by decide +kernel, by decide +kernel, by decide +kernel, by decide +kernel, by decide +kernel⟩

/-- States and operands that meet the hypotheses of FieldLinkFrames, clauses from the 6th on. -/
theorem witness_FieldLinkFrames_2 :
    (let s : State := { dieState blank 5 with dev := .run };
      s.powered = true) ∧
    (let s : State := { dieState blank 5 with dev := .run };
      s.powered = true) :=
  ⟨by decide +kernel, by decide +kernel⟩

/-- States and operands that meet the hypotheses of FieldInputs. -/
theorem witness_FieldInputs :
    (let ch : Fin 32 := 2; let lv : Bool := true; let seen : Nat := 200000;
      let s : State := { dieState blank 3 with dev := .run };
      chInput (s.die ch).cfg = true ∧ (s.die ch).level ≠ lv ∧ filterPassed (s.die ch) seen = true) ∧
    (let ch : Fin 32 := 2; let s : State := { dieState blank 3 with dev := .run };
      chType (s.die ch).cfg = 3 ∧ lplusPresent s ch = true ∧ (s.die ch).broken = false) ∧
    (let ch : Fin 32 := 0; let s : State := { dieState blank 3 with dev := .run };
      lplusPresent s ch = true) ∧
    (let ch : Fin 32 := 2; let r : Bool := true; let s : State := { dieState blank 4 with dev := .run };
      let w : Word := (s.die 2).ctr.getD 0 0; let rest : List Word := (s.die 2).ctr.drop 1;
      let down : Bool := (bitsOf w 34 2 == 1 || (decide (2 ≤ bitsOf w 34 2) && (s.die (bitsOf w 0 5)).level));
      chType (s.die ch).cfg = 4 ∧ groupPresent s ch = true ∧ (s.die ch).ctr = w :: rest ∧
        (bitsOf w 32 2 &&& (if r then 1 else 2) ≠ 0) ∧
        down = (bitsOf w 34 2 == 1 || (decide (2 ≤ bitsOf w 34 2) && (s.die (bitsOf w 0 5)).level))) ∧
    (let m : BitVec 32 := 4; let ch : Fin 32 := 2; let s : State := { dieState blank 3 with dev := .run };
      s.powered = true ∧ m.getLsbD ch = true ∧ s.field.configured = true ∧ chInput (s.die ch).cfg = true ∧
        chType (s.die ch).cfg ≠ 4 ∧ groupPresent s ch = true) :=
  ⟨by decide +kernel, by decide +kernel, by decide +kernel, by decide +kernel, by decide +kernel⟩

/-- States and operands that meet the hypotheses of FieldInputs, clauses from the 6th on. -/
theorem witness_FieldInputs_2 :
    (let ch : Fin 32 := 2;
      let s : State := { blank with dev := .run, field := { blank.field with chans := blank.field.chans.setIfInBounds 2 { DieCh.fresh with testing := true } } };
      s.powered = true ∧ (s.die ch).testing = true) := by
  decide +kernel

/-- States and operands that meet the hypotheses of FieldOutputs. -/
theorem witness_FieldOutputs :
    (let ch : Fin 32 := 2;
      let s : State := { blank with dev := .run, field := { (dieState blank 5).field with chans := blank.field.chans.setIfInBounds 2 { DieCh.fresh with cfg := 0x500006000 + 0x1000, stage := true } } };
      detecting s ch = true ∧ (s.die ch).stage = true ∧ (s.die ch).latched = false ∧
        min ((s.die ch).tcnt + 1) 15 < chTcyc (s.die ch).cfg) ∧
    (let ch : Fin 32 := 2;
      let s : State := { blank with dev := .run, field := { (dieState blank 5).field with chans := blank.field.chans.setIfInBounds 2 { DieCh.fresh with tcnt := 14, cfg := 0x500006000 + 0x1000, stage := true } } };
      detecting s ch = true ∧ (s.die ch).stage = true ∧ (s.die ch).latched = false ∧
        chTcyc (s.die ch).cfg ≤ min ((s.die ch).tcnt + 1) 15) ∧
    (let ch : Fin 32 := 2;
      let s : State := { blank with dev := .run, field := { (dieState blank 5).field with chans := blank.field.chans.setIfInBounds 2 { DieCh.fresh with cfg := 0x500006000 + 0x1000, stage := true } } };
      detecting s ch = true ∧ (s.die ch).stage = true ∧ (s.die ch).latched = false) ∧
    (let ch : Fin 32 := 2;
      let s : State := { blank with dev := .run, field := { (dieState blank 5).field with chans := blank.field.chans.setIfInBounds 2 { DieCh.fresh with cfg := 0x500006000 + 0x1000, stage := false } } };
      detecting s ch = true ∧ (s.die ch).stage = false ∧ pairMates s ch = [] ∧ (chWire (s.die ch).cfg = 1 →
        s.field.frDrive = true ∧ 48 < s.field.driveAge) ∧ (s.die ch).feed = false) ∧
    (let ch : Fin 32 := 2;
      let s : State := { blank with dev := .run, field := { (dieState blank 5).field with chans := blank.field.chans.setIfInBounds 2 { DieCh.fresh with cfg := 0x500006000 + 0x1000, stage := true } } };
      detecting s ch = true ∧ (s.die ch).stage = true ∧ bitsOf (s.die ch).cfg 12 1 = 1) :=
  ⟨by decide +kernel, by decide +kernel, by decide +kernel, by decide +kernel, by decide +kernel⟩

/-- States and operands that meet the hypotheses of FieldOutputs, clauses from the 6th on. -/
theorem witness_FieldOutputs_2 :
    (let g : Fin 4 := 0; let s : State := { dieState blank 5 with dev := .run };
      (s.group g).low = false) ∧
    (let g : Fin 4 := 0; let i : Nat := 0; let s : State := { dieState blank 5 with dev := .run };
      (s.group g).phase ≠ .missing ∧ i < 8) ∧
    (let g : Fin 4 := 0;
      let s : State := { blank with field := { blank.field with groups := Vector.replicate 4 ⟨.missing, true, 0, 0, 0⟩ } };
      (s.group g).phase = .missing) ∧
    (let g : Fin 4 := 0;
      let s : State := { blank with field := { blank.field with groups := Vector.replicate 4 ⟨.recovery, true, 0, 0, 0⟩ } };
      (s.group g).phase = .recovery) :=
  ⟨by decide +kernel, by decide +kernel, by decide +kernel, by decide +kernel⟩

/-- States and operands that meet the hypotheses of MeterInputs. -/
theorem witness_MeterInputs :
    (let i : Fin 24 := 0;
      let s : State := (((meterState blank).set (R.MTR_INCFG_HPF i) 0).set (R.MTR_INCFG_PHC i) 0).set (R.MTR_INCFG_KIND i) 1;
      inputClocked s i = true ∧ s.flag (R.MTR_INCFG_HPF i) = false ∧ s.get (R.MTR_INCFG_KIND i) ≠ 4 ∧
        s.flag (R.MTR_INCFG_PHC i) = false) ∧
    (let i : Fin 24 := 0; let s : State := (meterState blank).raise (R.MTR_INCFG_HPF i);
      inputClocked s i = true ∧ (s.flag (R.MTR_INCFG_HPF i) = true ∨ s.get (R.MTR_INCFG_KIND i) = 4 ∨
        s.flag (R.MTR_INCFG_PHC i) = true)) ∧
    (let i : Fin 24 := 0; let s : State := (meterState blank).set (R.MTR_INST_FAULT i) 0;
      inputClocked s i = true ∧ s.flag (R.MTR_INST_FAULT i) = false) ∧
    (let s : State := meterState blank;
      s.metering = true) ∧
    (let m : Fin 24 := 0;
      let means : CycleMeans := ⟨20000000, [52900000000000000], [1000000000000], [230000000000], [-7], 0, [], false, 0⟩;
      let s : State := meterState blank; let c : MeterCh := (s.meterCh 0).getD (MeterCh.begin 0 []);
      let w : List Word := mtrWords s 0; let p : Int := ((mtrPhases w).map fun i => means.vi.getD i 0).sum;
      let q : Int := ((mtrPhases w).map fun i => means.vq.getD i 0).sum;
      let noref : Bool := (belowPct (means.vv.getD 0 0) (mtrUdin w) 10 || decide (3 ≤ if 14290000 ≤ means.period ∧ means.period ≤ 25000000 then 0 else c.badPeriods + 1));
      let ns : Nat := (if noref then mtrNominal w else means.period);
      s.metering = true ∧ s.meterCh m = some c ∧ mtrWords s m = w ∧
        (p = ((mtrPhases w).map fun i => means.vi.getD i 0).sum) ∧
        (q = ((mtrPhases w).map fun i => means.vq.getD i 0).sum) ∧
        (noref = (belowPct (means.vv.getD 0 0) (mtrUdin w) 10 || decide (3 ≤ if 14290000 ≤ means.period ∧
        means.period ≤ 25000000 then 0 else c.badPeriods + 1))) ∧
        (ns = (if noref then mtrNominal w else means.period)) ∧
        (((mtrPhases w).all (fun i => decide (means.ii.getD i 0 * 2 ^ 560 < fMag (w.getD 3 0) * fMag (w.getD 3 0) * 10
          ^ 12)) || decide (p.natAbs * 2 ^ 280 < fMag (w.getD 4 0) * 10 ^ 12)) = false)) :=
  ⟨by decide +kernel, by decide +kernel, by decide +kernel, by decide +kernel, by decide +kernel⟩

/-- States and operands that meet the hypotheses of MeterInputs, clauses from the 6th on. -/
theorem witness_MeterInputs_2 :
    (let m : Fin 24 := 0;
      let means : CycleMeans := ⟨20000000, [52900000000000000], [1000000000000], [230000000000], [-7], 0, [], false, 0⟩;
      let s : State := { meterState blank with handles := ⟨[], [⟨4, 0, mtrWords0.set 3 (fRatio 5 1), false, false⟩], [], []⟩ };
      let c : MeterCh := (s.meterCh 0).getD (MeterCh.begin 0 []); let w : List Word := mtrWords s 0;
      let p : Int := ((mtrPhases w).map fun i => means.vi.getD i 0).sum;
      let q : Int := ((mtrPhases w).map fun i => means.vq.getD i 0).sum;
      let noref : Bool := (belowPct (means.vv.getD 0 0) (mtrUdin w) 10 || decide (3 ≤ if 14290000 ≤ means.period ∧ means.period ≤ 25000000 then 0 else c.badPeriods + 1));
      let ns : Nat := (if noref then mtrNominal w else means.period);
      s.metering = true ∧ s.meterCh m = some c ∧ mtrWords s m = w ∧
        (p = ((mtrPhases w).map fun i => means.vi.getD i 0).sum) ∧
        (q = ((mtrPhases w).map fun i => means.vq.getD i 0).sum) ∧
        (noref = (belowPct (means.vv.getD 0 0) (mtrUdin w) 10 || decide (3 ≤ if 14290000 ≤ means.period ∧
        means.period ≤ 25000000 then 0 else c.badPeriods + 1))) ∧
        (ns = (if noref then mtrNominal w else means.period)) ∧
        (((mtrPhases w).all (fun i => decide (means.ii.getD i 0 * 2 ^ 560 < fMag (w.getD 3 0) * fMag (w.getD 3 0) * 10
          ^ 12)) || decide (p.natAbs * 2 ^ 280 < fMag (w.getD 4 0) * 10 ^ 12)) = true)) := by
  decide +kernel

/-- States and operands that meet the hypotheses of MeterRecords. -/
theorem witness_MeterRecords :
    (let s : State := meterState blank;
      s.metering = true) ∧
    (let m : Fin 64 := 0; let c : MeterCh := MeterCh.begin 0 (List.replicate 8 5); let s : State := meterState blank;
      s.metering = true ∧ s.meterCh m = some c ∧ dintMinutes (bitsOf ((mtrWords s m).getD 1 0) 24 4) ≠ 0) ∧
    (let q : Fin 64 := 2; let c : PqcCh := PqcCh.begin 2 77 0; let s : State := meterState blank;
      s.metering = true ∧ s.meter.pqcs.find? (·.idx == q.val) = some c ∧
        dintMinutes (bitsOf ((pqcWords s q).getD 0 0) 24 4) ≠ 0) ∧
    (let s : State := meterState blank;
      s.metering = true ∧ (s.meter.pqcs.map (·.idx)).Nodup ∧ (s.meter.pqcs.all (fun c => decide (c.idx < 64)) = true)) ∧
    (let s : State := { (withSmall blank .run).raise R.SYS_STATE_FOLIO with meter := { blank.meter with lastCommit := none }, handles := ⟨[], [], [], []⟩ };
      s.powered = true ∧ s.dev ≠ .boot ∧ s.dev ≠ .load ∧ s.flag R.SYS_STATE_FOLIO = true ∧ s.metering = false ∧
        s.folio.content.isSome = true) :=
  ⟨by decide +kernel, by decide +kernel, by decide +kernel, by decide +kernel, by decide +kernel⟩

/-- States and operands that meet the hypotheses of MeterRecords, clauses from the 6th on. -/
theorem witness_MeterRecords_2 :
    (let s : State := meterState blank;
      s.powered = true) ∧
    (let s : State := meterState blank;
      s.powered = true) :=
  ⟨by decide +kernel, by decide +kernel⟩

/-- States and operands that meet the hypotheses of CanReceive. -/
theorem witness_CanReceive :
    (let n : Fin 4 := 1; let f : CanFrame := { canFrame0 with id := 0x46 * 2 ^ 18 };
      let s : State := canState blank false false;
      s.powered = true ∧ canOnBus s n = true ∧ ((f.fmt = 1 → s.flag (R.CAN_CTL_FDEN n) = true) ∧ (f.fmt = 2 →
        s.flag (R.CAN_CTL_XLEN n) = true)) ∧ ((canChannels s n).find? (fun i => canMatches (canWords s i) f) = none)) ∧
    (let n : Fin 4 := 1; let f : CanFrame := canFrame0; let i : Nat := 5; let w : List Word := canRxWords;
      let s : State := canState blank false false;
      s.powered = true ∧ canOnBus s n = true ∧ ((f.fmt = 1 → s.flag (R.CAN_CTL_FDEN n) = true) ∧ (f.fmt = 2 →
        s.flag (R.CAN_CTL_XLEN n) = true)) ∧
        ((canChannels s n).find? (fun i => canMatches (canWords s i) f) = some i) ∧ canWords s i = w ∧ canKind w = 0) ∧
    (let n : Fin 4 := 1; let f : CanFrame := canFrame0; let i : Nat := 5;
      let w : List Word := canRxWords.set 0 (BitVec.ofNat 36 (1 * 2 ^ 34 + 1 * 2 ^ 32 + 3 * 2 ^ 30 + 0x45 * 2 ^ 18));
      let s : State := { canState blank false false with handles := ⟨[], [{ canRxCh with words := canRxWords.set 0 (BitVec.ofNat 36 (1 * 2 ^ 34 + 1 * 2 ^ 32 + 3 * 2 ^ 30 + 0x45 * 2 ^ 18)) }], [], []⟩ };
      s.powered = true ∧ canOnBus s n = true ∧ ((f.fmt = 1 → s.flag (R.CAN_CTL_FDEN n) = true) ∧ (f.fmt = 2 →
        s.flag (R.CAN_CTL_XLEN n) = true)) ∧
        ((canChannels s n).find? (fun i => canMatches (canWords s i) f) = some i) ∧ canWords s i = w ∧ canKind w = 1 ∧
        (bitsOf (s.word (canAddr w)) 18 18 + 2 ^ 18 - bitsOf (s.word (canAddr w)) 0 18) % 2 ^ 18 ≠ canDepth w) ∧
    (let n : Fin 4 := 1; let f : CanFrame := canFrame0; let i : Nat := 5;
      let w : List Word := canRxWords.set 0 (BitVec.ofNat 36 (1 * 2 ^ 34 + 1 * 2 ^ 32 + 3 * 2 ^ 30 + 0x45 * 2 ^ 18));
      let s : State := { canState blank false false with mem := [(0x100010, BitVec.ofNat 36 (7 * 2 ^ 18 + 3))], handles := ⟨[], [{ canRxCh with words := canRxWords.set 0 (BitVec.ofNat 36 (1 * 2 ^ 34 + 1 * 2 ^ 32 + 3 * 2 ^ 30 + 0x45 * 2 ^ 18)) }], [], []⟩ };
      s.powered = true ∧ canOnBus s n = true ∧ ((f.fmt = 1 → s.flag (R.CAN_CTL_FDEN n) = true) ∧ (f.fmt = 2 →
        s.flag (R.CAN_CTL_XLEN n) = true)) ∧
        ((canChannels s n).find? (fun i => canMatches (canWords s i) f) = some i) ∧ canWords s i = w ∧ canKind w = 1 ∧
        (bitsOf (s.word (canAddr w)) 18 18 + 2 ^ 18 - bitsOf (s.word (canAddr w)) 0 18) % 2 ^ 18 = canDepth w) ∧
    (let n : Fin 4 := 1; let f : CanFrame := { canFrame0 with fmt := 1 };
      let s : State := (canState blank false false).set (R.CAN_CTL_FDEN 1) 0;
      s.powered = true ∧ canOnBus s n = true ∧ ((f.fmt = 1 ∧ s.flag (R.CAN_CTL_FDEN n) = false) ∨ (f.fmt = 2 ∧
        s.flag (R.CAN_CTL_XLEN n) = false))) :=
  ⟨by decide +kernel, by decide +kernel, by decide +kernel, by decide +kernel, by decide +kernel⟩

/-- States and operands that meet the hypotheses of CanReceive, clauses from the 6th on. -/
theorem witness_CanReceive_2 :
    (let p : Port := 3; let ch : Channel := canTxCh; let b : CanBuf := ⟨7, false, false, false, none⟩;
      let s : State := canState blank false false;
      (s.dev = .stop ∨ s.dev = .run ∨ s.dev = .halt) ∧
        (handleChannel s (s.reg (R.CAN_PHND_HANDLE p).addr)).toOption = some ch ∧ ch.cls = 3 ∧ canKind ch.words = 2 ∧
        ch.bound = false ∧ s.canBuf ch.idx = some b ∧ b.pend = false) ∧
    (let p : Port := 3; let ch : Channel := canTxCh; let b : CanBuf := ⟨7, true, false, false, none⟩;
      let s : State := canState blank true false;
      (s.dev = .stop ∨ s.dev = .run ∨ s.dev = .halt) ∧
        (handleChannel s (s.reg (R.CAN_PHND_HANDLE p).addr)).toOption = some ch ∧ ch.cls = 3 ∧ canKind ch.words = 2 ∧
        ch.bound = false ∧ s.canBuf ch.idx = some b ∧ b.pend = true) ∧
    (let p : Port := 3; let ch : Channel := canTxCh; let b : CanBuf := ⟨7, true, false, false, none⟩;
      let s : State := canState blank true false;
      (s.dev = .stop ∨ s.dev = .run ∨ s.dev = .halt) ∧
        (handleChannel s (s.reg (R.CAN_PHND_HANDLE p).addr)).toOption = some ch ∧ ch.cls = 3 ∧ canKind ch.words = 2 ∧
        ch.bound = false ∧ s.canBuf ch.idx = some b ∧ b.pend = true) ∧
    (let p : Port := 3; let ch : Channel := canTxCh; let b : CanBuf := ⟨7, true, false, false, none⟩;
      let s : State := canState blank true false;
      (s.dev = .stop ∨ s.dev = .run ∨ s.dev = .halt) ∧
        (handleChannel s (s.reg (R.CAN_PHND_HANDLE p).addr)).toOption = some ch ∧ ch.cls = 3 ∧ canKind ch.words = 2 ∧
        ch.bound = false ∧ s.canBuf ch.idx = some b ∧ b.pend = true) ∧
    (let p : Port := 3; let ch : Channel := canTxCh; let b : CanBuf := ⟨7, false, false, false, none⟩;
      let s : State := canState blank false false;
      (s.dev = .stop ∨ s.dev = .run ∨ s.dev = .halt) ∧
        (handleChannel s (s.reg (R.CAN_PHND_HANDLE p).addr)).toOption = some ch ∧ ch.cls = 3 ∧ canKind ch.words = 2 ∧
        ch.bound = false ∧ s.canBuf ch.idx = some b ∧ b.pend = false) :=
  ⟨by decide +kernel, by decide +kernel, by decide +kernel, by decide +kernel, by decide +kernel⟩

/-- States and operands that meet the hypotheses of CanReceive, clauses from the 11th on. -/
theorem witness_CanReceive_3 :
    (let s : State := { blank with dev := .standby };
      s.powered = true ∧ (¬(s.dev = .stop ∨ s.dev = .run ∨ s.dev = .halt))) ∧
    (let s : State := { blank with dev := .safe };
      s.powered = true ∧ (¬(s.dev = .stop ∨ s.dev = .run ∨ s.dev = .halt))) ∧
    (let n : Fin 4 := 1; let i : Nat := 7; let w : List Word := canTxWords;
      let b : CanBuf := ⟨7, true, false, false, none⟩; let s : State := canState blank true false;
      s.powered = true ∧ canSends s n = true ∧ canSending s n = some i ∧ canWords s i = w ∧ s.canBuf i = some b) ∧
    (let n : Fin 4 := 1; let cause : CanTxError := .form; let i : Nat := 7; let w : List Word := canTxWords;
      let b : CanBuf := ⟨7, true, false, false, none⟩; let s : State := canState blank true false;
      s.powered = true ∧ canSends s n = true ∧ canSending s n = some i ∧ canWords s i = w ∧ s.canBuf i = some b ∧
        cause ≠ .lostArbitration ∧ b.marked = false ∧ (w.getD 1 0).getLsbD 35 = false) ∧
    (let n : Fin 4 := 1; let i : Nat := 7; let w : List Word := canTxWords;
      let b : CanBuf := ⟨7, true, false, false, none⟩; let s : State := canState blank true false;
      s.powered = true ∧ canSends s n = true ∧ canSending s n = some i ∧ canWords s i = w ∧ s.canBuf i = some b ∧
        b.marked = false ∧ (w.getD 1 0).getLsbD 35 = false) :=
  ⟨by decide +kernel, by decide +kernel, by decide +kernel, by decide +kernel, by decide +kernel⟩

/-- States and operands that meet the hypotheses of CanReceive, clauses from the 16th on. -/
theorem witness_CanReceive_4 :
    (let n : Fin 4 := 1; let i : Nat := 7; let w : List Word := canTxWords;
      let b : CanBuf := ⟨7, true, true, false, none⟩; let s : State := canState blank true true;
      s.powered = true ∧ canSends s n = true ∧ canSending s n = some i ∧ canWords s i = w ∧ s.canBuf i = some b ∧
        b.marked = true) ∧
    (let n : Fin 4 := 1; let i : Nat := 7; let w : List Word := canTxWords.set 1 (BitVec.ofNat 36 (2 ^ 35));
      let b : CanBuf := ⟨7, true, false, false, none⟩;
      let s : State := (let z := canState blank true false; { z with handles := ⟨[], [canRxCh, { canTxCh with words := canTxWords.set 1 (BitVec.ofNat 36 (2 ^ 35)) }], [], []⟩ });
      s.powered = true ∧ canSends s n = true ∧ canSending s n = some i ∧ canWords s i = w ∧ s.canBuf i = some b ∧
        b.marked = false ∧ (w.getD 1 0).getLsbD 35 = true) :=
  ⟨by decide +kernel, by decide +kernel⟩

/-- States and operands that meet the hypotheses of CanControllers. -/
theorem witness_CanControllers :
    (let n : Fin 4 := 1; let s : State := canState blank false false;
      s.powered = true ∧ canOnBus s n = true) ∧
    (let n : Fin 4 := 0;
      let s : State := ((canState blank false false).set (R.CAN_ST_ERRST n) 2).raise (R.CAN_CTL_AUTOREC n);
      s.powered = true ∧ s.get (R.CAN_ST_ERRST n) = 2 ∧ (s.flag (R.CAN_CTL_AUTOREC n) = true ∨
        (s.canCtl n).recovering = true)) ∧
    (let n : Fin 4 := 0; let s : State := (canState blank false false).set (R.CAN_ST_ERRST n) 2;
      s.powered = true ∧ s.get (R.CAN_ST_ERRST n) = 2) ∧
    (let n : Fin 4 := 0; let s : State := (canState blank false false).set (R.CAN_CTL_MODE n) 4;
      s.powered = true ∧ s.get (R.CAN_CTL_MODE n) = 4) ∧
    (let n : Fin 4 := 0;
      let s : State := (((canState blank false false).set (R.CAN_CTL_MODE n) 4).set (R.CAN_CTL_WAKE n) 1).putBit R.CAN_STAT_SLEEP n true;
      s.powered = true ∧ canServes s = true ∧ s.getBit R.CAN_STAT_SLEEP n = true ∧ s.get (R.CAN_CTL_MODE n) = 4 ∧
        s.get (R.CAN_CTL_WAKE n) = 1) :=
  ⟨by decide +kernel, by decide +kernel, by decide +kernel, by decide +kernel, by decide +kernel⟩

/-- States and operands that meet the hypotheses of CanControllers, clauses from the 6th on. -/
theorem witness_CanControllers_2 :
    (let n : Fin 4 := 0; let f : CanFrame := canFrame0;
      let s : State := (((((canState blank false false).set (R.CAN_CTL_MODE n) 4).set (R.CAN_CTL_WAKE n) 2).set (R.CAN_WMSK_MASK n) 0).set (R.CAN_WID_ID n) 0).putBit R.CAN_STAT_SLEEP n true;
      s.powered = true ∧ canServes s = true ∧ s.getBit R.CAN_STAT_SLEEP n = true ∧ s.get (R.CAN_CTL_MODE n) = 4 ∧
        s.get (R.CAN_CTL_WAKE n) = 2 ∧ f.ide = (s.get (R.CAN_WID_ID n)).testBit 29 ∧
        f.id &&& s.get (R.CAN_WMSK_MASK n) = s.get (R.CAN_WID_ID n) % 2 ^ 29 &&& s.get (R.CAN_WMSK_MASK n)) ∧
    (let v : Word := BitVec.ofNat 36 (500 * 2 ^ 25 + 80 * 2 ^ 18 + 20 * 2 ^ 10 + 80 * 2 ^ 3); let b : Nat := 2;
      let t1 : Nat := 127; let t2 : Nat := 32; let db : Nat := 2; let d1 : Nat := 31; let d2 : Nat := 8;
      let s : State := canState blank false false;
      s.powered = true ∧ canRates v = some ((b, t1, t2), (db, d1, d2)) ∧ canRateLegal v = true) ∧
    (let v : Word := 0; let s : State := canState blank false false;
      s.powered = true ∧ canRateLegal v = false) ∧
    (let s : State := canState blank false false;
      s.powered = true) ∧
    (let n : Fin 4 := 0;
      let s : State := ((canState blank false false).set (R.CAN_CTL_MODE n) 1).set (R.CAN_ST_ERRST n) 0;
      s.powered = true ∧ 1 ≤ s.get (R.CAN_CTL_MODE n) ∧ s.get (R.CAN_CTL_MODE n) ≤ 3 ∧ s.get (R.CAN_ST_ERRST n) ≠ 2) :=
  ⟨by decide +kernel, by decide +kernel, by decide +kernel, by decide +kernel, by decide +kernel⟩

/-- States and operands that meet the hypotheses of NetworkTimeCommands. -/
theorem witness_NetworkTimeCommands :
    (let d : Fin 2 := 0; let ofs : Int := 0;
      let s : State := (((withSmall blank .run).set (R.NTM_DCFG_MODE d) 2).set R.NTM_XSTEP_STEPTH 100);
      s.powered = true ∧ timeMaster s = true ∧ ptpMode s d = true ∧ ofs.natAbs ≤ 4 * stepThreshold s) ∧
    (let d : Fin 2 := 0; let ofs : Int := 5;
      let s : State := { (((withSmall blank .run).set (R.NTM_DCFG_MODE d) 2).set R.NTM_XSTEP_STEPTH 0) with time := { blank.time with notices := [] } };
      s.powered = true ∧ timeMaster s = true ∧ ptpMode s d = true ∧ 4 * stepThreshold s < ofs.natAbs ∧
        stepDue s d = false) ∧
    (let d : Fin 2 := 0; let ofs : Int := 5;
      let s : State := { (((withSmall blank .run).set (R.NTM_DCFG_MODE d) 2).set R.NTM_XSTEP_STEPTH 0) with time := { blank.time with notices := [⟨7, .step d 30, false⟩] } };
      s.powered = true ∧ timeMaster s = true ∧ ptpMode s d = true ∧ 4 * stepThreshold s < ofs.natAbs ∧
        stepDue s d = true) ∧
    (let d : Fin 2 := 0;
      let s : State := (((withSmall blank .run).set (R.NTM_DCFG_MODE d) 2).set (R.NTM_DSTAT_STATE d) 2);
      s.powered = true ∧ timeMaster s = true ∧ ptpMode s d = true ∧ (s.get (R.NTM_DSTAT_STATE d) = 1 ∨
        s.get (R.NTM_DSTAT_STATE d) = 2)) ∧
    (let d : Fin 2 := 0; let s : State := { (blank.set (R.NTM_DSTAT_STATE d) 3) with dev := .run };
      s.powered = true ∧ s.get (R.NTM_DSTAT_STATE d) = 3) :=
  ⟨by decide +kernel, by decide +kernel, by decide +kernel, by decide +kernel, by decide +kernel⟩

/-- States and operands that meet the hypotheses of NetworkTimeCommands, clauses from the 6th on. -/
theorem witness_NetworkTimeCommands_2 :
    (let d : Fin 2 := 0;
      let s : State := { ((withSmall blank .run).set R.NTM_CMD_STATUS 0) with time := { blank.time with active := none } };
      (s.dev = .stop ∨ s.dev = .run ∨ s.dev = .halt) ∧ timeMaster s = true ∧ s.get R.NTM_CMD_STATUS ≠ 1 ∧
        s.time.active ≠ some d.val) ∧
    (let d : Fin 2 := 0;
      let s : State := { ((withSmall blank .run).set R.NTM_CMD_STATUS 0) with time := { blank.time with active := some d.val } };
      (s.dev = .stop ∨ s.dev = .run ∨ s.dev = .halt) ∧ timeMaster s = true ∧ s.get R.NTM_CMD_STATUS ≠ 1 ∧
        s.time.active = some d.val) ∧
    (let s : State := { ((withSmall blank .run).set R.NTM_CMD_STATUS 0) with dev := .safe };
      s.powered = true ∧ (¬(timeMaster s = true ∧ (s.dev = .stop ∨ s.dev = .run ∨ s.dev = .halt))) ∧
        s.get R.NTM_CMD_STATUS ≠ 1) ∧
    (let d : Fin 2 := 0; let s : State := ((withSmall blank .run).set R.NTM_CMD_STATUS 0).set (R.NTM_DCFG_MODE d) 5;
      (s.dev = .stop ∨ s.dev = .run ∨ s.dev = .halt) ∧ timeMaster s = true ∧ s.get R.NTM_CMD_STATUS ≠ 1 ∧
        (s.get (R.NTM_DCFG_MODE d) = 5 ∨ s.get (R.NTM_DCFG_MODE d) = 1)) ∧
    (let s : State := { blank with dev := .run };
      s.powered = true) :=
  ⟨by decide +kernel, by decide +kernel, by decide +kernel, by decide +kernel, by decide +kernel⟩

/-- States and operands that meet the hypotheses of NetworkTimeCommands, clauses from the 11th on. -/
theorem witness_NetworkTimeCommands_3 :
    (let s : State := { blank with dev := .run };
      s.powered = true) ∧
    (let at' : Nat := 7; let d : Nat := 1; let given : Option Int := none; let cmd : Bool := true;
      let rest : List TimeNotice := [⟨9, .switch 0 none, false⟩];
      let s : State := { blank with dev := .run, time := { blank.time with notices := [⟨7, .switch 1 none, true⟩, ⟨9, .switch 0 none, false⟩] } };
      s.powered = true ∧ s.time.notices = ⟨at', .switch d given, cmd⟩ :: rest ∧
        (rest.all (fun n => decide (at' < n.at')) = true)) ∧
    (let at' : Nat := 7; let d : Nat := 1; let by' : Int := -30;
      let rest : List TimeNotice := [⟨9, .switch 0 none, false⟩];
      let s : State := { blank with dev := .run, time := { blank.time with notices := [⟨7, .step 1 (-30), false⟩, ⟨9, .switch 0 none, false⟩] } };
      s.powered = true ∧ d < 2 ∧ s.time.notices = ⟨at', .step d by', false⟩ :: rest ∧
        (rest.all (fun n => decide (at' < n.at')) = true)) ∧
    (let at' : Nat := 7; let d : Nat := 1; let by' : Int := -30;
      let rest : List TimeNotice := [⟨9, .switch 0 none, false⟩];
      let s : State := { blank with dev := .run, time := { blank.time with notices := [⟨7, .step 1 (-30), true⟩, ⟨9, .switch 0 none, false⟩] } };
      s.powered = true ∧ d < 2 ∧ s.time.notices = ⟨at', .step d by', true⟩ :: rest ∧
        (rest.all (fun n => decide (at' < n.at')) = true)) ∧
    (let i : Fin 256 := 1; let ch : Channel := tmrCh 1 0; let e : TmrSt := tmrEntry;
      let s : State := { withChannel blank (tmrCh 1 0) with dev := .run, time := { blank.time with tmrs := [tmrEntry] } };
      s.powered = true ∧ s.channel 6 i = some ch ∧ s.tmr i = some e ∧ e.armed = true ∧
        bitsOf (ch.words.getD 0 0) 34 2 ≠ 2) :=
  ⟨by decide +kernel, by decide +kernel, by decide +kernel, by decide +kernel, by decide +kernel⟩

/-- States and operands that meet the hypotheses of NetworkTimeCommands, clauses from the 16th on. -/
theorem witness_NetworkTimeCommands_4 :
    (let i : Fin 256 := 1; let ch : Channel := tmrCh 2 1; let e : TmrSt := tmrEntry; let r : Bool := true;
      let s : State := { withChannel blank (tmrCh 2 1) with dev := .run, time := { blank.time with tmrs := [tmrEntry] } };
      s.powered = true ∧ s.channel 6 i = some ch ∧ s.tmr i = some e ∧ bitsOf (ch.words.getD 0 0) 34 2 = 2 ∧
        (bitsOf (ch.words.getD 0 0) 32 2 &&& (if r then 1 else 2) ≠ 0)) := by
  decide +kernel

/-- States and operands that meet the hypotheses of CalendarCounts. -/
theorem witness_CalendarCounts :
    (let s : State := { blank with calendar := { blank.calendar with applyDue := false, shiftDue := none, grain := 5 } };
      s.calendar.applyDue = false ∧ s.calendar.shiftDue = none ∧ s.calendar.grain + 1 < 32768) ∧
    (let s : State := { blank with calendar := { blank.calendar with applyDue := false, shiftDue := none, grain := 32767 } };
      s.calendar.applyDue = false ∧ s.calendar.shiftDue = none ∧ 32768 ≤ s.calendar.grain + 1) ∧
    (let n : Int := -3;
      let s : State := { blank with calendar := { blank.calendar with applyDue := false, shiftDue := some (-3), grain := 5 } };
      s.calendar.applyDue = false ∧ s.calendar.shiftDue = some n ∧ s.calendar.grain + 1 < 32768 ∧
        0 ≤ (s.calendar.grain : Int) + 1 + n ∧ (s.calendar.grain : Int) + 1 + n < 32768) ∧
    (let s : State := { blank with calendar := { blank.calendar with applyDue := true, shiftDue := none } };
      s.calendar.applyDue = true ∧ s.calendar.shiftDue = none) ∧
    (let s : State := { blank with dev := .run };
      s.powered = true) :=
  ⟨by decide +kernel, by decide +kernel, by decide +kernel, by decide +kernel, by decide +kernel⟩

/-- States and operands that meet the hypotheses of CalendarCounts, clauses from the 6th on. -/
theorem witness_CalendarCounts_2 :
    (let s : State := { blank with dev := .run };
      s.powered = true) ∧
    (let s : State := { blank with dev := .run };
      s.powered = true) ∧
    (let d : Nat := 0; let v : Nat := 500000000;
      let s : State := { (((blank.set R.RTC_CFG_SYNC 1).set (R.NTM_DSTAT_STATE 0) 2).set (R.NTM_DCFG_TS 0) 0) with dev := .run, time := { blank.time with dom := #v[500000000, 0] }, calendar := { blank.calendar with date := 0x101, time := 0, grain := 0 } };
      s.powered = true ∧ syncSource s = some (d, v) ∧ s.get (R.NTM_DSTAT_STATE d) = 2 ∧
        (utcOf s d v - calNanos s).natAbs < 1000000000 ∧
        (2 * (utcOf s d v - calNanos s) * 32768 + 1000000000).fdiv 2000000000 ≠ 0) ∧
    (let d : Nat := 0; let v : Nat := 75500000000;
      let s : State := { (((blank.set R.RTC_CFG_SYNC 1).set (R.NTM_DSTAT_STATE 0) 2).set (R.NTM_DCFG_TS 0) 0) with dev := .run, time := { blank.time with dom := #v[75500000000, 0] }, calendar := { blank.calendar with date := 0x101, time := 0, grain := 0 } };
      s.powered = true ∧ syncSource s = some (d, v) ∧ s.get (R.NTM_DSTAT_STATE d) = 2 ∧
        1000000000 ≤ (utcOf s d v - calNanos s).natAbs) ∧
    (let d : Nat := 0; let v : Nat := 500000000;
      let s : State := { (((blank.set R.RTC_CFG_SYNC 1).set (R.NTM_DSTAT_STATE 0) 3).set (R.NTM_DCFG_TS 0) 0) with dev := .run, time := { blank.time with dom := #v[500000000, 0] }, calendar := { blank.calendar with date := 0x101, time := 0, grain := 0 } };
      s.powered = true ∧ syncSource s = some (d, v) ∧ s.get (R.NTM_DSTAT_STATE d) ≠ 2) :=
  ⟨by decide +kernel, by decide +kernel, by decide +kernel, by decide +kernel, by decide +kernel⟩

/-- States and operands that meet the hypotheses of CalendarCounts, clauses from the 11th on. -/
theorem witness_CalendarCounts_3 :
    (let s : State := { blank with dev := .run };
      s.powered = true) ∧
    (let s : State := { blank with dev := .run };
      s.powered = true) ∧
    (let s : State := { ((blank.raise R.RTC_STAT_ARMED).setReg R.RTC_ALDATE_DAY.addr 0).setReg R.RTC_ALTIME_SEC.addr 0 with power := { blank.power with vaonLost := false } };
      s.power.vaonLost = false ∧ s.flag R.RTC_STAT_ARMED = true ∧ alarmKey s ≤ calNow s) ∧
    (let s : State := { (blank.set R.RTC_WAKE_PERIOD 7) with power := { blank.power with vaonLost := false }, calendar := { blank.calendar with wakeCount := 9 } };
      s.power.vaonLost = false ∧ s.flag R.RTC_WAKE_PERIOD = true ∧ s.get R.RTC_WAKE_PERIOD ≤ s.calendar.wakeCount) ∧
    (let m : Fin 18 := 0; let tok : BitVec 12 := 9;
      let s : State := { (State.forEach (List.range 16) (fun k s => s.set (R.WDG_SLOT_EN k) 0) (((((((blank.raise R.WDG_STAT_ARMED).set R.WDG_STAT_FIRST 0).set R.WDG_WSTART_GRAIN 100).set R.WDG_WIN_OPEN 5).set R.WDG_WIN_CLOSE 50).set R.WDG_LCLK_GRAIN 120).set R.WDG_STAT_HELD 0)) with dev := .run, power := { blank.power with pfStep := 0 }, watchdog := { blank.watchdog with haltAt := none, goodWindows := 3, failedAt := none, token := 9, slotTokens := #v[1,2,3,4,5,6,7,8,9,10,11,12,13,14,15,16] } };
      s.powered = true ∧ m.val ≤ 8 ∧ watchdogLive s = true ∧ windowAge s < windowClose s ∧
        windowOpen s ≤ windowAge s ∧ tok.toNat = s.watchdog.token ∧ slotsDone s = true) :=
  ⟨by decide +kernel, by decide +kernel, by decide +kernel, by decide +kernel, by decide +kernel⟩

/-- States and operands that meet the hypotheses of CalendarCounts, clauses from the 16th on. -/
theorem witness_CalendarCounts_4 :
    (let m : Fin 18 := 0; let tok : BitVec 12 := 9;
      let s : State := { (State.forEach (List.range 16) (fun k s => (s.set (R.WDG_SLOT_EN k) 1).set R.WDG_STAT_CHECKED 0) (((((((blank.raise R.WDG_STAT_ARMED).set R.WDG_STAT_FIRST 0).set R.WDG_WSTART_GRAIN 100).set R.WDG_WIN_OPEN 5).set R.WDG_WIN_CLOSE 50).set R.WDG_LCLK_GRAIN 120).set R.WDG_STAT_HELD 0)) with dev := .run, power := { blank.power with pfStep := 0 }, watchdog := { blank.watchdog with haltAt := none, failedAt := none, token := 9, slotTokens := #v[1,2,3,4,5,6,7,8,9,10,11,12,13,14,15,16] } };
      s.powered = true ∧ m.val ≤ 8 ∧ watchdogLive s = true ∧ windowAge s < windowClose s ∧
        windowOpen s ≤ windowAge s ∧ tok.toNat = s.watchdog.token ∧ slotsDone s = false) ∧
    (let m : Fin 18 := 9;
      let s : State := { (State.forEach (List.range 16) (fun k s => s.set (R.WDG_SLOT_EN k) 0) (((((((blank.raise R.WDG_STAT_ARMED).set R.WDG_STAT_FIRST 0).set R.WDG_WSTART_GRAIN 100).set R.WDG_WIN_OPEN 5).set R.WDG_WIN_CLOSE 50).set R.WDG_LCLK_GRAIN 120).set R.WDG_STAT_HELD 0)) with dev := .run, power := { blank.power with pfStep := 0 }, watchdog := { blank.watchdog with haltAt := none, failedAt := none, token := 9, slotTokens := #v[1,2,3,4,5,6,7,8,9,10,11,12,13,14,15,16] } };
      s.powered = true ∧ 8 < m.val ∧ windowAge s < windowClose s) ∧
    (let m : Fin 18 := 1; let k : Fin 16 := 2; let tok : BitVec 12 := 3;
      let s : State := { ((((({ (((((((blank.raise R.WDG_STAT_ARMED).set R.WDG_STAT_FIRST 0).set R.WDG_WSTART_GRAIN 100).set R.WDG_WIN_OPEN 5).set R.WDG_WIN_CLOSE 50).set R.WDG_LCLK_GRAIN 120).set R.WDG_STAT_HELD 0) with dev := .run, power := { blank.power with pfStep := 0 }, watchdog := { blank.watchdog with haltAt := none, failedAt := none, token := 9, slotTokens := #v[1,2,3,4,5,6,7,8,9,10,11,12,13,14,15,16] } }).raise (R.WDG_SLOT_EN 2)).set (R.WDG_SLOT_TASK 2) 7).set (R.WDG_SLOT_EVT 2) 0).set R.WDG_STAT_CHECKED 0) with cores := blank.cores.setIfInBounds 1 { Core.fresh with task := some ⟨7, 0, none, false⟩ } };
      s.powered = true ∧ watchdogLive s = true ∧ windowAge s < windowClose s ∧ s.flag (R.WDG_SLOT_EN k) = true ∧
        tok.toNat = s.watchdog.slotTokens.toList.getD k 0 ∧ slotRuns s k m = true ∧
        s.getBit R.WDG_STAT_CHECKED k = false ∧
        (s.flag R.WDG_STAT_HELD && slotsDone (s.putBit R.WDG_STAT_CHECKED k true)) = false) ∧
    (let m : Fin 18 := 1; let k : Fin 16 := 2; let tok : BitVec 12 := 3;
      let s : State := { ((((({ (State.forEach (List.range 16) (fun k s => s.set (R.WDG_SLOT_EN k) 0) (((((((blank.raise R.WDG_STAT_ARMED).set R.WDG_STAT_FIRST 0).set R.WDG_WSTART_GRAIN 100).set R.WDG_WIN_OPEN 5).set R.WDG_WIN_CLOSE 50).set R.WDG_LCLK_GRAIN 120).set R.WDG_STAT_HELD 0)) with dev := .run, power := { blank.power with pfStep := 0 }, watchdog := { blank.watchdog with haltAt := none, failedAt := none, token := 9, slotTokens := #v[1,2,3,4,5,6,7,8,9,10,11,12,13,14,15,16] } }).raise (R.WDG_SLOT_EN 2)).set (R.WDG_SLOT_TASK 2) 7).set (R.WDG_SLOT_EVT 2) 0).set R.WDG_STAT_CHECKED 0).raise R.WDG_STAT_HELD with cores := blank.cores.setIfInBounds 1 { Core.fresh with task := some ⟨7, 0, none, false⟩ } };
      s.powered = true ∧ watchdogLive s = true ∧ windowAge s < windowClose s ∧ s.flag (R.WDG_SLOT_EN k) = true ∧
        tok.toNat = s.watchdog.slotTokens.toList.getD k 0 ∧ slotRuns s k m = true ∧
        s.getBit R.WDG_STAT_CHECKED k = false ∧ s.flag R.WDG_STAT_HELD = true ∧
        slotsDone (s.putBit R.WDG_STAT_CHECKED k true) = true) ∧
    (let s : State := { (({ (((((((blank.raise R.WDG_STAT_ARMED).set R.WDG_STAT_FIRST 0).set R.WDG_WSTART_GRAIN 100).set R.WDG_WIN_OPEN 5).set R.WDG_WIN_CLOSE 50).set R.WDG_LCLK_GRAIN 120).set R.WDG_STAT_HELD 0) with dev := .run, power := { blank.power with pfStep := 0 }, watchdog := { blank.watchdog with haltAt := none, failedAt := none, token := 9, slotTokens := #v[1,2,3,4,5,6,7,8,9,10,11,12,13,14,15,16] } }).set R.SYS_STATE_DEFER 0) with retain := { blank.retain with running := none }, keeper := { blank.keeper with commits := [] } };
      s.cycling = true ∧ watchdogLive s = true ∧ s.flag R.SYS_STATE_DEFER = false ∧ s.flag R.WDG_STAT_HELD = false ∧
        s.watchdog.failedAt ≠ some (s.get R.WDG_LCLK_GRAIN) ∧ deferring s = false) :=
  ⟨by decide +kernel, by decide +kernel, by decide +kernel, by decide +kernel, by decide +kernel⟩

/-- States and operands that meet the hypotheses of FirmwareUpdates. -/
theorem witness_FirmwareUpdates :
    (let s : State := (updState blank .boot 0);
      s.dev = .boot ∧ s.power.porstLow = false ∧ s.power.rstLow = false ∧ s.power.refOk = true) ∧
    (let s : State := (updState blank .boot 0);
      s.dev = .boot ∧ s.power.porstLow = false ∧ s.power.rstLow = false ∧ s.power.refOk = true) ∧
    (let c : Fin 3 := 0; let img : FlashImage := updImage true;
      let s : State := (let z : State := ((updState blank .boot 0).set R.WDG_LADDER_SAFE 0).set R.RST_STRAP_BOOTSRC 0; { z with folio := { z.folio with prevSrc := none } });
      s.dev = .boot ∧ s.power.porstLow = false ∧ s.power.rstLow = false ∧ s.power.refOk = true ∧
        s.flag R.WDG_LADDER_SAFE = false ∧ s.folio.prevSrc = none ∧ c.val < 2 ∧ s.get R.UPD_STAT_S0 = 4 ∧
        s.get R.UPD_STAT_S1 ≠ 3 ∧ imageCause s (some img) = 0 ∧ (s.get R.RST_STRAP_BOOTSRC = 0 ∨
        s.get R.RST_STRAP_BOOTSRC = 3)) ∧
    (let c : Fin 3 := 1; let other : FlashImage := updImage true;
      let s : State := (let z : State := ((updState blank .boot 3).set R.WDG_LADDER_SAFE 0).set R.RST_STRAP_BOOTSRC 1; { z with folio := { z.folio with prevSrc := none } });
      s.dev = .boot ∧ s.power.porstLow = false ∧ s.power.rstLow = false ∧ s.power.refOk = true ∧
        s.flag R.WDG_LADDER_SAFE = false ∧ s.folio.prevSrc = none ∧ c.val < 2 ∧ s.get R.UPD_STAT_S0 = 4 ∧
        s.get R.UPD_STAT_S1 = 3 ∧ s.upd.attempt = 0 ∧ imageCause s (some other) = 0 ∧ (s.get R.RST_STRAP_BOOTSRC = 1 ∨
        s.get R.RST_STRAP_BOOTSRC = 2)) ∧
    (let k : Nat := 1; let s : State := (updState blank .stop 0);
      s.powered = true ∧ s.get R.UPD_CMD_STATUS ≠ 1 ∧ updStates s = true ∧ s.folio.loading = none ∧ s.upd.run = none ∧
        s.flag R.PCI_STAT_BME = true ∧ targetSlot s = some k) :=
  ⟨by decide +kernel, by decide +kernel, by decide +kernel, by decide +kernel, by decide +kernel⟩

/-- States and operands that meet the hypotheses of FirmwareUpdates, clauses from the 6th on. -/
theorem witness_FirmwareUpdates_2 :
    (let s : State := (let z : State := (updState blank .load 0); { z with folio := { z.folio with loading := some ⟨0, true, none, false⟩ } });
      s.powered = true ∧ s.get R.UPD_CMD_STATUS ≠ 1 ∧ (s.folio.loading.any (fun l => decide (l.src < 2)) = true)) ∧
    (let s : State := (updState blank .standby 0);
      s.powered = true ∧ s.get R.UPD_CMD_STATUS ≠ 1 ∧ s.folio.loading = none ∧ (updStates s = false ∨
        s.upd.run.isSome = true)) ∧
    (let s : State := (updState blank .stop 0).set R.UPD_CMD_STATUS 1;
      s.powered = true ∧ s.get R.UPD_CMD_STATUS = 1) ∧
    (let img : FlashImage := updImage true; let k : Nat := 1;
      let s : State := (let z : State := (updState blank .stop 1); { z with upd := { z.upd with run := some ⟨1, 1⟩ } }.set R.UPD_CMD_STATUS 1);
      s.powered = true ∧ s.upd.run = some ⟨1, k⟩ ∧ k < 2 ∧ s.get R.UPD_CMD_STATUS = 1 ∧ imageCause s (some img) = 0) ∧
    (let img : FlashImage := updImage false; let k : Nat := 1; let c : Nat := 8;
      let s : State := (let z : State := (updState blank .stop 1); { z with upd := { z.upd with run := some ⟨1, 1⟩ } }.set R.UPD_CMD_STATUS 1);
      s.powered = true ∧ s.upd.run = some ⟨1, k⟩ ∧ k < 2 ∧ s.get R.UPD_CMD_STATUS = 1 ∧ imageCause s (some img) = c ∧
        c ≠ 0) :=
  ⟨by decide +kernel, by decide +kernel, by decide +kernel, by decide +kernel, by decide +kernel⟩

/-- States and operands that meet the hypotheses of FirmwareUpdates, clauses from the 11th on. -/
theorem witness_FirmwareUpdates_3 :
    (let fault : Fin 3 := 2; let k : Nat := 1;
      let s : State := (let z : State := (updState blank .stop 1); { z with upd := { z.upd with run := some ⟨1, 1⟩ } }.set R.UPD_CMD_STATUS 1);
      s.powered = true ∧ s.upd.run = some ⟨1, k⟩ ∧ k < 2 ∧ s.get R.UPD_CMD_STATUS = 1 ∧ fault.val ≠ 0) ∧
    (let n : Nat := 2; let k : Nat := 1;
      let s : State := (let z : State := (updState blank .stop 4); { z with upd := { z.upd with run := some ⟨2, 1⟩ } }.set R.UPD_CMD_STATUS 1);
      s.powered = true ∧ s.upd.run = some ⟨n, k⟩ ∧ (n = 2 ∨ n = 4)) ∧
    (let s : State := (updState blank .stop 0);
      s.powered = true ∧ s.get R.UPD_CMD_STATUS ≠ 1 ∧ updStates s = true ∧ s.folio.loading = none ∧ s.upd.run = none ∧
        s.flag R.PCI_STAT_BME = true) ∧
    (let m : Fin 18 := 0; let slot : Fin 2 := 0; let s : State := folWriteState blank;
      let img : FolioImage := smallImage s 2 [5, 10] { smallContent with map := [(1, 0)] };
      s.powered = true ∧ s.get R.UPD_CMD_STATUS ≠ 1 ∧ updStates s = true ∧ s.folio.loading = none ∧ s.upd.run = none ∧
        s.flag R.PCI_STAT_BME = true ∧
        folioCheck ((((s.usedBy m).set R.UPD_CMD_CODE 2).set R.UPD_CMD_SLOT slot).set R.UPD_CMD_SHELF 0) img = true) ∧
    (let m : Fin 18 := 0; let slot : Fin 2 := 0; let img : FolioImage := smallImage State.reset 1 [] smallContent;
      let s : State := (updState blank .stop 0);
      s.powered = true ∧ s.get R.UPD_CMD_STATUS ≠ 1 ∧ updStates s = true ∧ s.folio.loading = none ∧ s.upd.run = none ∧
        s.flag R.PCI_STAT_BME = true ∧
        folioCheck ((((s.usedBy m).set R.UPD_CMD_CODE 2).set R.UPD_CMD_SLOT slot).set R.UPD_CMD_SHELF 0) img = false) :=
  ⟨by decide +kernel, by decide +kernel, by decide +kernel, by decide +kernel, by decide +kernel⟩

/-- States and operands that meet the hypotheses of FirmwareUpdates, clauses from the 16th on. -/
theorem witness_FirmwareUpdates_4 :
    (let ws : List Word := [BitVec.ofNat 36 0o163150154146, 0]; let s : State := (updState blank .stop 0);
      s.powered = true ∧ s.get R.UPD_CMD_STATUS ≠ 1 ∧ updStates s = true ∧ s.folio.loading = none ∧ s.upd.run = none ∧
        s.flag R.PCI_STAT_BME = true ∧ shelfSound s ws = true) ∧
    (let ws : List Word := [7]; let s : State := (updState blank .stop 0);
      s.powered = true ∧ s.get R.UPD_CMD_STATUS ≠ 1 ∧ updStates s = true ∧ s.folio.loading = none ∧ s.upd.run = none ∧
        s.flag R.PCI_STAT_BME = true ∧ shelfSound s ws = false) ∧
    (let s : State := (updState blank .stop 0).set R.SPN_STAT_ACTING 0;
      s.powered = true ∧ s.get R.UPD_CMD_STATUS ≠ 1 ∧ updStates s = true ∧ s.folio.loading = none ∧ s.upd.run = none ∧
        s.flag R.PCI_STAT_BME = true ∧ s.acting = false) ∧
    (let s : State := (updState blank .stop 0).raise R.SPN_STAT_ACTING;
      s.powered = true ∧ s.get R.UPD_CMD_STATUS ≠ 1 ∧ updStates s = true ∧ s.folio.loading = none ∧ s.upd.run = none ∧
        s.flag R.PCI_STAT_BME = true ∧ s.acting = true) ∧
    (let img : FlashImage := updImage true; let s : State := (updState blank .stop 0).raise R.SPN_STAT_ACTING;
      s.powered = true ∧ s.get R.UPD_CMD_STATUS ≠ 1 ∧ updStates s = true ∧ s.folio.loading = none ∧ s.upd.run = none ∧
        s.flag R.PCI_STAT_BME = true ∧ s.acting = true ∧ (headerCause s img = 0 ∨ headerCause s img = 3 ∨
        headerCause s img = 4)) :=
  ⟨by decide +kernel, by decide +kernel, by decide +kernel, by decide +kernel, by decide +kernel⟩

/-- States and operands that meet the hypotheses of FirmwareUpdates, clauses from the 21th on. -/
theorem witness_FirmwareUpdates_5 :
    (let img : FlashImage := ⟨[], [], [], []⟩; let c : Nat := 1;
      let s : State := (updState blank .stop 0).raise R.SPN_STAT_ACTING;
      s.powered = true ∧ s.get R.UPD_CMD_STATUS ≠ 1 ∧ updStates s = true ∧ s.folio.loading = none ∧ s.upd.run = none ∧
        s.flag R.PCI_STAT_BME = true ∧ s.acting = true ∧ headerCause s img = c ∧ (c ≠ 0 ∧ c ≠ 3 ∧ c ≠ 4)) ∧
    (let h : FrameHead := head0; let img : FlashImage := updImage true; let bytes : Nat := 0; let k : Nat := 1;
      let s : State := (updState blank .stop 0).set R.SPN_STAT_ACTING 0;
      s.powered = true ∧ (spineAccept s 9 h).2 = true ∧ s.acting = false ∧ s.upd.run = none ∧ headerCause s img = 0 ∧
        targetSlot s = some k ∧ img.chunkOk 0 bytes = true) ∧
    (let h : FrameHead := head0; let img : FlashImage := ⟨[], [], [], []⟩; let c : Nat := 1;
      let s : State := (updState blank .stop 0).set R.SPN_STAT_ACTING 0;
      s.powered = true ∧ (spineAccept s 9 h).2 = true ∧ s.acting = false ∧ s.upd.run = none ∧ headerCause s img = c ∧
        c ≠ 0) ∧
    (let h : FrameHead := head0;
      let s : State := ((updState blank .stop 0).raise R.SPN_STAT_ACTING).set (R.UPD_NODE_STATE 2) 1;
      s.powered = true ∧ (spineAccept s 9 h).2 = true ∧ s.acting = true ∧ s.get (R.UPD_NODE_STATE (h.src % 128)) ≠ 0) ∧
    (let a : Fin 128 := 2;
      let s : State := ((updState blank .stop 0).raise R.SPN_STAT_ACTING).set (R.UPD_NODE_STATE 2) 1;
      s.powered = true ∧ s.acting = true ∧ s.get (R.UPD_NODE_STATE a) = 1) :=
  ⟨by decide +kernel, by decide +kernel, by decide +kernel, by decide +kernel, by decide +kernel⟩

/-- States and operands that meet the hypotheses of FirmwareUpdates, clauses from the 26th on. -/
theorem witness_FirmwareUpdates_6 :
    (let k : Nat := 1;
      let s : State := (let z : State := (updState blank .stop 2).set R.SYS_STATE_DEFER 0; { z with retain := { z.retain with running := none }, keeper := { z.keeper with commits := [] } });
      s.powered = true ∧ s.get R.UPD_CMD_STATUS ≠ 1 ∧ (updStates s = true ∨ s.dev = .standby) ∧ (slotState s k = 2 ∧
        k < 2 ∧ (k = 1 → slotState s 0 ≠ 2)) ∧ s.power.pfStep = 0 ∧ s.partner = none ∧
        s.flag R.SYS_STATE_DEFER = false ∧ deferring s = false) ∧
    (let s : State := (updState blank .stop 0);
      s.powered = true ∧ s.get R.UPD_CMD_STATUS ≠ 1 ∧ s.get R.UPD_STAT_S0 ≠ 2 ∧ s.get R.UPD_STAT_S1 ≠ 2) ∧
    (let s : State := (let z : State := ((updState blank .stop 3).raise R.UPD_STAT_TRIAL).set R.SYS_STATE_DEFER 0; { z with retain := { z.retain with running := none }, keeper := { z.keeper with commits := [] } });
      s.powered = true ∧ s.get R.UPD_CMD_STATUS ≠ 1 ∧ (updStates s = true ∨ s.dev = .standby) ∧
        s.flag R.UPD_STAT_TRIAL = true ∧ s.power.pfStep = 0 ∧ s.partner = none ∧ s.flag R.SYS_STATE_DEFER = false ∧
        deferring s = false) ∧
    (let s : State := (updState blank .stop 0);
      s.powered = true ∧ s.get R.UPD_CMD_STATUS ≠ 1 ∧ s.flag R.UPD_STAT_TRIAL = false) ∧
    (let s : State := (let z : State := (updState blank .stop 1); { z with upd := { z.upd with run := some ⟨1, 1⟩ } }.set R.UPD_CMD_STATUS 1).raise R.UPD_STAT_BUSY;
      s.powered = true ∧ s.flag R.UPD_STAT_BUSY = true) :=
  ⟨by decide +kernel, by decide +kernel, by decide +kernel, by decide +kernel, by decide +kernel⟩

/-- States and operands that meet the hypotheses of FirmwareUpdates, clauses from the 31th on. -/
theorem witness_FirmwareUpdates_7 :
    (let s : State := (updState blank .stop 0);
      s.powered = true ∧ s.flag R.UPD_STAT_BUSY = false ∧ s.get R.UPD_CMD_STATUS ≠ 1) ∧
    (let c : FolioContent := smallContent; let k : Nat := 1;
      let s : State := ((updState blank .run 3).raise R.UPD_STAT_TRIAL).set R.UPD_STAT_RUNSLOT 1;
      s.powered = true ∧ s.flag R.UPD_STAT_TRIAL = true ∧ s.content = some c ∧ (s.dev = .run ∨ s.dev = .standby ∨
        (s.dev = .stop ∧ c.autostart = false)) ∧ s.upd.spoiled = false ∧ (s.partner = none ∨
        s.get R.TWN_STAT_PSTATE = 4) ∧ (s.standalone = true ∨ (s.acting = false ∧
        s.flag R.SPN_STAT_ADMITTED = true)) ∧ s.get R.UPD_STAT_RUNSLOT = k ∧ k < 2) ∧
    (let s : State := (updState blank .run 3);
      s.powered = true) ∧
    (let s : State := (let z : State := ((updState blank .stop 3).raise R.UPD_STAT_TRIAL).set R.SYS_STATE_DEFER 0; { z with retain := { z.retain with running := none }, keeper := { z.keeper with commits := [] } });
      s.powered = true ∧ s.flag R.UPD_STAT_TRIAL = true ∧ s.power.pfStep = 0 ∧ s.partner = none ∧
        s.flag R.SYS_STATE_DEFER = false ∧ deferring s = false) :=
  ⟨by decide +kernel, by decide +kernel, by decide +kernel, by decide +kernel⟩

/-- States and operands that meet the hypotheses of RetainStoreCycle. -/
theorem witness_RetainStoreCycle :
    (let s : State := { (blank.set R.RET_CMD_STATUS 0) with dev := .run, retain := { blank.retain with running := none } };
      s.dev = .run ∧ s.get R.RET_CMD_STATUS ≠ 1 ∧ (s.retain.running = none ∨ s.flag R.RET_STAT_DIRTY = true)) ∧
    (let s : State := { (blank.set R.RET_CMD_STATUS 0) with dev := .standby };
      s.powered = true ∧ (s.dev = .standby ∨ s.dev = .boot ∨ s.dev = .load) ∧ s.get R.RET_CMD_STATUS ≠ 1) ∧
    (let s : State := { (blank.set R.SYS_STATE_DEFER 0) with dev := .run, power := { blank.power with pfStep := 0 }, retain := { blank.retain with running := none, waiting := true, storedSinceRun := false } };
      s.powered = true ∧ s.retain.waiting = true ∧ storePostponed s = false ∧ s.retain.running = none ∧
        s.flag R.SYS_STATE_DEFER = false ∧ s.power.pfStep = 0) ∧
    (let s : State := { ((blank.set R.RET_CFG_PERIOD 5).raise R.RET_STAT_DIRTY) with dev := .run };
      (s.dev ≠ .off ∧ s.dev ≠ .boot ∧ s.dev ≠ .load) ∧ 0 < s.get R.RET_CFG_PERIOD ∧ s.flag R.RET_STAT_DIRTY = true) ∧
    (let s : State := { (blank.set R.RET_STAT_POSTP 0) with dev := .run };
      s.powered = true ∧ s.flag R.RET_STAT_POSTP = false) :=
  ⟨by decide +kernel, by decide +kernel, by decide +kernel, by decide +kernel, by decide +kernel⟩

/-- States and operands that meet the hypotheses of RetainStoreCycle, clauses from the 6th on. -/
theorem witness_RetainStoreCycle_2 :
    (let s : State := { ((blank.raise R.RET_STAT_POSTP).set R.SYS_STATE_DEFER 0) with dev := .run, power := { blank.power with pfStep := 0 }, retain := { blank.retain with running := none, waiting := true } };
      s.powered = true ∧ s.flag R.RET_STAT_POSTP = true ∧ s.retain.waiting = true ∧ s.retain.running = none ∧
        s.flag R.SYS_STATE_DEFER = false ∧ s.power.pfStep = 0) ∧
    (let s : State := { blank with dev := .run, retain := { blank.retain with running := some (blank.retain.running.getD ⟨true, 7, [(3, 9)], false⟩) } };
      let run : StoreRun := (s.retain.running.getD ⟨true, 0, [], false⟩);
      s.powered = true ∧ s.retain.running = some run ∧ (s.cycling = true ∨ s.retain.waiting = false)) ∧
    (let s : State := { blank with dev := .run, retain := { blank.retain with running := some ⟨true, 7, [(3, 9)], false⟩ } };
      let run : StoreRun := (s.retain.running.getD ⟨true, 0, [], false⟩);
      s.powered = true ∧ s.retain.running = some run ∧ (s.cycling = true ∨ s.retain.waiting = false)) :=
  ⟨by decide +kernel, by decide +kernel, by decide +kernel⟩

/-- States and operands that meet the hypotheses of KeeperGroups. -/
theorem witness_KeeperGroups :
    (let s : State := { blank with dev := .run, keeper := { blank.keeper with buffer := [(0x400000, 5), (0x400001, 6)] } };
      s.powered = true ∧ s.keeper.buffer ≠ []) ∧
    (let p : Port := 3; let a : Nat := 0x400100; let n : Nat := 3;
      let s : State := { (((((blank.set (R.KPR_PCMD_STATUS p) 0).set (R.KPR_PSEL_KIND p) 0).set (R.KPR_PSEL_GROUP p) 2).set (R.KPR_PSEL_INDEX p) 1).set R.SYS_STATE_DEFER 0) with dev := .run, power := { blank.power with pfStep := 0 }, keeper := { blank.keeper with groups := [⟨2, 3, 0x400100⟩], staged := [(3, 1, 5)], commits := [], buffer := [] } };
      s.powered = true ∧ s.get (R.KPR_PCMD_STATUS p) ≠ 1 ∧ portGroup s p = some (a, n) ∧
        s.get (R.KPR_PSEL_KIND p) = 0 ∧ s.get (R.KPR_PSEL_INDEX p) < n) ∧
    (let p : Port := 3; let a : Nat := 0x400100; let n : Nat := 3;
      let s : State := ({ (((((blank.set (R.KPR_PCMD_STATUS p) 0).set (R.KPR_PSEL_KIND p) 0).set (R.KPR_PSEL_GROUP p) 2).set (R.KPR_PSEL_INDEX p) 1).set R.SYS_STATE_DEFER 0) with dev := .run, power := { blank.power with pfStep := 0 }, keeper := { blank.keeper with groups := [⟨2, 3, 0x400100⟩], staged := [(3, 1, 5)], commits := [], buffer := [] } }).set (R.KPR_PSEL_INDEX p) 5;
      s.powered = true ∧ s.get (R.KPR_PCMD_STATUS p) ≠ 1 ∧ portGroup s p = some (a, n) ∧
        (s.get (R.KPR_PSEL_KIND p) ≠ 0 ∨ n ≤ s.get (R.KPR_PSEL_INDEX p))) ∧
    (let p : Port := 3; let a : Nat := 0x400100; let n : Nat := 3;
      let s : State := { (((((blank.set (R.KPR_PCMD_STATUS p) 0).set (R.KPR_PSEL_KIND p) 0).set (R.KPR_PSEL_GROUP p) 2).set (R.KPR_PSEL_INDEX p) 1).set R.SYS_STATE_DEFER 0) with dev := .run, power := { blank.power with pfStep := 0 }, keeper := { blank.keeper with groups := [⟨2, 3, 0x400100⟩], staged := [(3, 1, 5)], commits := [], buffer := [] } };
      keeperRefusal s = none ∧ (s.flag R.SYS_STATE_DEFER = false ∨ s.power.pfStep ≠ 0) ∧
        s.get (R.KPR_PCMD_STATUS p) ≠ 1 ∧ portGroup s p = some (a, n) ∧ s.get (R.KPR_PSEL_KIND p) = 0 ∧
        s.get (R.KPR_PSEL_INDEX p) < n) ∧
    (let p : Port := 3; let a : Nat := 0x400100; let n : Nat := 3;
      let s : State := { (((((blank.set (R.KPR_PCMD_STATUS p) 0).set (R.KPR_PSEL_KIND p) 0).set (R.KPR_PSEL_GROUP p) 2).set (R.KPR_PSEL_INDEX p) 1).set R.SYS_STATE_DEFER 0) with dev := .run, power := { blank.power with pfStep := 0 }, keeper := { blank.keeper with groups := [⟨2, 3, 0x400100⟩], staged := [(3, 1, 5)], commits := [], buffer := [] } };
      keeperRefusal s = none ∧ (s.flag R.SYS_STATE_DEFER = false ∨ s.power.pfStep ≠ 0) ∧
        s.get (R.KPR_PCMD_STATUS p) ≠ 1 ∧ portGroup s p = some (a, n) ∧ s.get (R.KPR_PSEL_KIND p) = 0 ∧
        s.get (R.KPR_PSEL_INDEX p) < n) :=
  ⟨by decide +kernel, by decide +kernel, by decide +kernel, by decide +kernel, by decide +kernel⟩

/-- States and operands that meet the hypotheses of KeeperGroups, clauses from the 6th on. -/
theorem witness_KeeperGroups_2 :
    (let p : Port := 0; let st : Nat := 6;
      let s : State := { { (((((blank.set (R.KPR_PCMD_STATUS p) 0).set (R.KPR_PSEL_KIND p) 0).set (R.KPR_PSEL_GROUP p) 2).set (R.KPR_PSEL_INDEX p) 1).set R.SYS_STATE_DEFER 0) with dev := .run, power := { blank.power with pfStep := 0 }, keeper := { blank.keeper with groups := [⟨2, 3, 0x400100⟩], staged := [(3, 1, 5)], commits := [], buffer := [] } } with dev := .standby };
      s.powered = true ∧ keeperRefusal s = some st ∧ s.get (R.KPR_PCMD_STATUS p) ≠ 1) ∧
    (let p : Port := 0; let st : Nat := 3;
      let s : State := { { (((((blank.set (R.KPR_PCMD_STATUS p) 0).set (R.KPR_PSEL_KIND p) 0).set (R.KPR_PSEL_GROUP p) 2).set (R.KPR_PSEL_INDEX p) 1).set R.SYS_STATE_DEFER 0) with dev := .run, power := { blank.power with pfStep := 0 }, keeper := { blank.keeper with groups := [⟨2, 3, 0x400100⟩], staged := [(3, 1, 5)], commits := [], buffer := [] } } with dev := .load };
      s.powered = true ∧ keeperRefusal s = some st ∧ s.get (R.KPR_PCMD_STATUS p) ≠ 1) ∧
    (let s : State := { blank with dev := .run, keeper := { blank.keeper with commits := [⟨0x400100, 2, [(1, true, 9)], none⟩] } };
      let c : GroupCommit := (s.keeper.commits.headD ⟨0x400100, 2, [], none⟩);
      let rest : List GroupCommit := s.keeper.commits.tail;
      s.powered = true ∧ s.keeper.commits = c :: rest ∧ 0 < c.count) ∧
    (let p : Port := 3; let a : Nat := 0x400100; let n : Nat := 3;
      let s : State := { (((((blank.set (R.KPR_PCMD_STATUS p) 0).set (R.KPR_PSEL_KIND p) 0).set (R.KPR_PSEL_GROUP p) 2).set (R.KPR_PSEL_INDEX p) 1).set R.SYS_STATE_DEFER 0) with dev := .run, mem := [(0x40010c, BitVec.ofNat 36 (crc32c (packWords (List.replicate 6 0))))], power := { blank.power with pfStep := 0 }, keeper := { blank.keeper with groups := [⟨2, 3, 0x400100⟩], staged := [(3, 1, 5)], commits := [], buffer := [] } };
      s.powered = true ∧ portGroup s p = some (a, n) ∧ s.get (R.KPR_PSEL_INDEX p) < n ∧ groupGood s a n = true) ∧
    (let p : Port := 3; let a : Nat := 0x400100; let n : Nat := 3;
      let s : State := { (((((blank.set (R.KPR_PCMD_STATUS p) 0).set (R.KPR_PSEL_KIND p) 0).set (R.KPR_PSEL_GROUP p) 2).set (R.KPR_PSEL_INDEX p) 1).set R.SYS_STATE_DEFER 0) with dev := .run, power := { blank.power with pfStep := 0 }, keeper := { blank.keeper with groups := [⟨2, 3, 0x400100⟩], staged := [(3, 1, 5)], commits := [], buffer := [] } };
      s.powered = true ∧ portGroup s p = some (a, n) ∧ s.get (R.KPR_PSEL_INDEX p) < n ∧ groupGood s a n = false) :=
  ⟨by decide +kernel, by decide +kernel, by decide +kernel, by decide +kernel, by decide +kernel⟩

/-- States and operands that meet the hypotheses of ReportsAndRecords. -/
theorem witness_ReportsAndRecords :
    (let code : BitVec 8 := 0; let src : BitVec 8 := 0; let d0 : Word := 0; let d1 : Word := 0;
      let s : State := { blank with dev := .run, power := { blank.power with pfStep := 0 }, records := { blank.records with journal := { blank.records.journal with queue := [⟨5, 1, 4, 1, 0, 0, 0, 0, 0⟩], held := false, next := 7 }, recorder := { blank.records.recorder with queue := [⟨60, 1, 4, 1, 0, 0, 0, 0, 0⟩], held := false } } };
      s.powered = true ∧
        ((s.records.journal.held && s.records.journal.queue.getLast?.any (fun e => sameReport e ⟨true, code.toNat,
        src.toNat, d0, d1⟩)) = false) ∧ s.records.journal.queue.length < 16) ∧
    (let code : BitVec 8 := 0; let src : BitVec 8 := 0; let d0 : Word := 0; let d1 : Word := 0;
      let s : State := { blank with dev := .run, records := { blank.records with journal := { blank.records.journal with queue := List.replicate 16 ⟨5, 1, 4, 1, 0, 0, 0, 0, 0⟩, held := false } } };
      s.powered = true ∧
        ((s.records.journal.held && s.records.journal.queue.getLast?.any (fun e => sameReport e ⟨true, code.toNat,
        src.toNat, d0, d1⟩)) = false) ∧ 16 ≤ s.records.journal.queue.length) ∧
    (let code : BitVec 8 := 0; let src : BitVec 8 := 0; let d0 : Word := 0; let d1 : Word := 0;
      let s : State := { blank with dev := .run, power := { blank.power with pfStep := 0 }, records := { blank.records with journal := { blank.records.journal with queue := [⟨5, 1, 4, 1, 0, 0, 0, 0, 0⟩], held := false, next := 7 }, recorder := { blank.records.recorder with queue := [⟨60, 1, 4, 1, 0, 0, 0, 0, 0⟩], held := false } } };
      s.powered = true ∧ (s.power.pfStep = 0 ∨ pfReporter src.toNat = true) ∧
        ((s.records.recorder.held && s.records.recorder.queue.getLast?.any (fun e => sameReport e ⟨false, code.toNat,
        src.toNat, d0, d1⟩)) = false) ∧ s.records.recorder.queue.length < 16) ∧
    (let src : BitVec 8 := 0; let s : State := { blank with dev := .run, power := { blank.power with pfStep := 2 } };
      s.powered = true ∧ 0 < s.power.pfStep ∧ pfReporter src.toNat = false) ∧
    (let code : BitVec 8 := 60; let src : BitVec 8 := 4; let d0 : Word := 0; let d1 : Word := 0;
      let s : State := { blank with dev := .run, power := { blank.power with pfStep := 0 }, records := { blank.records with recorder := { blank.records.recorder with queue := [⟨60, 1, 4, 1, 0, 0, 0, 0, 0⟩], held := true } } };
      let e : RecEntry := ⟨60, 1, 4, 1, 0, 0, 0, 0, 0⟩;
      s.powered = true ∧ (s.power.pfStep = 0 ∨ pfReporter src.toNat = true) ∧ s.records.recorder.held = true ∧
        s.records.recorder.queue.getLast? = some e ∧ sameReport e ⟨false, code.toNat, src.toNat, d0, d1⟩ = true) :=
  ⟨by decide +kernel, by decide +kernel, by decide +kernel, by decide +kernel, by decide +kernel⟩

/-- States and operands that meet the hypotheses of ReportsAndRecords, clauses from the 6th on. -/
theorem witness_ReportsAndRecords_2 :
    (let s : State := { blank with dev := .run, power := { blank.power with pfStep := 0 }, records := { blank.records with journal := { blank.records.journal with queue := [⟨5, 1, 4, 1, 0, 0, 0, 0, 0⟩], held := false, next := 7 }, recorder := { blank.records.recorder with queue := [⟨60, 1, 4, 1, 0, 0, 0, 0, 0⟩], held := false } } };
      let e : RecEntry := ⟨5, 1, 4, 1, 0, 0, 0, 0, 0⟩;
      s.powered = true ∧ s.records.journal.ready = some e ∧ s.records.journal.next ≤ 4096 ∧
        1 ≤ s.records.journal.next) ∧
    (let s : State := (let z : State := { blank with dev := .run, power := { blank.power with pfStep := 0 }, records := { blank.records with journal := { blank.records.journal with queue := [⟨5, 1, 4, 1, 0, 0, 0, 0, 0⟩], held := false, next := 7 }, recorder := { blank.records.recorder with queue := [⟨60, 1, 4, 1, 0, 0, 0, 0, 0⟩], held := false } } }; { z with records := { z.records with epUsed := 3, journal := { z.records.journal with queue := [] } } });
      let e : RecEntry := ⟨60, 1, 4, 1, 0, 0, 0, 0, 0⟩;
      s.powered = true ∧ s.records.journal.ready = none ∧ s.records.recorder.ready = some e ∧ s.records.epUsed < 1024) ∧
    (let s : State := { blank with dev := .run };
      s.powered = true) ∧
    (let p : Port := 3; let ch : Channel := viewCh; let v : RecView := ⟨0, 0, none, 0⟩; let seq : Nat := 1;
      let a : Nat := 0x411000; let gone : Nat := 1;
      let s : State := { viewState blank with mem := (WMap.wrList [] 0x411000 (recWords ⟨5, 1, 4, 1, 0, 0, 0, 0, 0⟩ 1)) };
      s.powered = true ∧ s.get (R.EVR_PCMD_STATUS p) ≠ 1 ∧ (s.dev ≠ .boot ∧ s.dev ≠ .load) ∧
        (handleChannel s (s.reg (R.EVR_PHND_HANDLE p).addr)).toOption = some ch ∧ ch.cls = 8 ∧
        s.recView ch.idx = some v ∧ viewAtEnd v v.ribbon = false ∧ viewFind s v ch.words = some (seq, a, gone) ∧
        viewAtEnd v seq = false) ∧
    (let p : Port := 3; let ch : Channel := viewCh; let v : RecView := ⟨0, 0, none, 0⟩;
      let s : State := viewState blank;
      s.powered = true ∧ s.get (R.EVR_PCMD_STATUS p) ≠ 1 ∧ (s.dev ≠ .boot ∧ s.dev ≠ .load) ∧
        (handleChannel s (s.reg (R.EVR_PHND_HANDLE p).addr)).toOption = some ch ∧ ch.cls = 8 ∧
        s.recView ch.idx = some v ∧ viewAtEnd v v.ribbon = false ∧ viewFind s v ch.words = none) :=
  ⟨by decide +kernel, by decide +kernel, by decide +kernel, by decide +kernel, by decide +kernel⟩

/-- States and operands that meet the hypotheses of ReportsAndRecords, clauses from the 11th on. -/
theorem witness_ReportsAndRecords_3 :
    (let p : Port := 3; let ch : Channel := viewCh; let v : RecView := ⟨0, 0, some 0, 0⟩;
      let s : State := (let z := viewState blank; { z with records := { z.records with views := [⟨0, 0, some 0, 0⟩] } });
      s.powered = true ∧ s.get (R.EVR_PCMD_STATUS p) ≠ 1 ∧ (s.dev ≠ .boot ∧ s.dev ≠ .load) ∧
        (handleChannel s (s.reg (R.EVR_PHND_HANDLE p).addr)).toOption = some ch ∧ ch.cls = 8 ∧
        s.recView ch.idx = some v ∧ viewAtEnd v v.ribbon = true) ∧
    (let p : Port := 3; let ch : Channel := viewCh; let v : RecView := ⟨0, 0, none, 0⟩;
      let s : State := viewState blank;
      s.powered = true ∧ s.get (R.EVR_PCMD_STATUS p) ≠ 1 ∧ (s.dev ≠ .boot ∧ s.dev ≠ .load) ∧
        (handleChannel s (s.reg (R.EVR_PHND_HANDLE p).addr)).toOption = some ch ∧ ch.cls = 8 ∧
        s.recView ch.idx = some v) ∧
    (let p : Port := 0;
      let s : State := { ((blank.set (R.EVR_PCMD_STATUS p) 0).setReg (R.EVR_PREC_WORD p 1).addr 0x9C0000000) with dev := .stop, power := { blank.power with pfStep := 0 }, records := { blank.records with recorder := { blank.records.recorder with queue := [] } } };
      s.powered = true ∧ s.get (R.EVR_PCMD_STATUS p) ≠ 1 ∧ (s.dev = .stop ∨ s.dev = .run ∨ s.dev = .halt) ∧
        128 ≤ bitsOf (s.reg (R.EVR_PREC_WORD p 1).addr) 28 8 ∧ s.power.pfStep = 0 ∧
        ((s.records.recorder.held && s.records.recorder.queue.getLast?.any (fun e => sameReport e ⟨false,
        bitsOf (s.reg (R.EVR_PREC_WORD p 1).addr) 28 8, 32 + p.val, s.reg (R.EVR_PREC_WORD p 5).addr,
        s.reg (R.EVR_PREC_WORD p 6).addr⟩)) = false) ∧ s.records.recorder.queue.length < 16) ∧
    (let p : Port := 0;
      let s : State := ({ ((blank.set (R.EVR_PCMD_STATUS p) 0).setReg (R.EVR_PREC_WORD p 1).addr 0x9C0000000) with dev := .stop, power := { blank.power with pfStep := 0 }, records := { blank.records with recorder := { blank.records.recorder with queue := [] } } }).setReg (R.EVR_PREC_WORD p 1).addr 0;
      s.powered = true ∧ s.get (R.EVR_PCMD_STATUS p) ≠ 1 ∧ (s.dev = .stop ∨ s.dev = .run ∨ s.dev = .halt) ∧
        bitsOf (s.reg (R.EVR_PREC_WORD p 1).addr) 28 8 < 128) ∧
    (let p : Port := 0;
      let s : State := { { ((blank.set (R.EVR_PCMD_STATUS p) 0).setReg (R.EVR_PREC_WORD p 1).addr 0x9C0000000) with dev := .stop, power := { blank.power with pfStep := 0 }, records := { blank.records with recorder := { blank.records.recorder with queue := [] } } } with dev := .safe };
      s.powered = true ∧ s.get (R.EVR_PCMD_STATUS p) ≠ 1 ∧ (s.dev = .standby ∨ s.dev = .boot ∨ s.dev = .load ∨
        s.dev = .safe)) :=
  ⟨by decide +kernel, by decide +kernel, by decide +kernel, by decide +kernel, by decide +kernel⟩

/-- States and operands that meet the hypotheses of ReportsAndRecords, clauses from the 16th on. -/
theorem witness_ReportsAndRecords_4 :
    (let o : Option (BitVec 16) := none;
      let s : State := { sealedState (blank.set R.EVR_CMD_STATUS 0) 2 0 with dev := .stop };
      s.powered = true ∧ (s.dev ≠ .boot ∧ s.dev ≠ .load) ∧ s.get R.EVR_CMD_STATUS ≠ 1 ∧
        sealCause (sealAt s o) [2] = 0) ∧
    (let o : Option (BitVec 16) := some 0; let c : Nat := 2;
      let s : State := { sealedState (blank.set R.EVR_CMD_STATUS 0) 3 0 with dev := .stop };
      s.powered = true ∧ (s.dev ≠ .boot ∧ s.dev ≠ .load) ∧ s.get R.EVR_CMD_STATUS ≠ 1 ∧
        sealCause (sealAt s o) [2] = c ∧ c ≠ 0) :=
  ⟨by decide +kernel, by decide +kernel⟩

/-- States and operands that meet the hypotheses of OwnerKeys. -/
theorem witness_OwnerKeys :
    (let s : State := { (((blank.set R.COL_CMD_STATUS 0).set R.COL_KSTAT_STATE 0).set R.COL_SBADR_OFS 0) with dev := .stop };
      s.dev = .stop ∧ s.get R.COL_CMD_STATUS ≠ 1 ∧ s.get R.COL_KSTAT_STATE = 0 ∧ (sealBlock s 48).isSome = true) ∧
    (let m : Fin 18 := 0; let s : State := { (blank.set R.COL_CMD_STATUS 0) with dev := .run };
      s.powered = true ∧ s.get R.COL_CMD_STATUS ≠ 1 ∧ (m ≠ 8 ∨ s.dev ≠ .stop ∨ s.get R.COL_KSTAT_STATE ≠ 0)) ∧
    (let o : Option (BitVec 16) := none;
      let s : State := { sealedState (blank.set R.COL_CMD_STATUS 0) 3 1 with dev := .stop };
      s.powered = true ∧ s.get R.COL_CMD_STATUS ≠ 1 ∧ sealCause (sealAt s o) [3, 4, 5] = 0 ∧
        bitsOf (sealWord (sealAt s o) 1) 28 8 = 3) ∧
    (let o : Option (BitVec 16) := some 0; let c : Nat := 2;
      let s : State := { sealedState (blank.set R.COL_CMD_STATUS 0) 2 1 with dev := .stop };
      s.powered = true ∧ s.get R.COL_CMD_STATUS ≠ 1 ∧ sealCause (sealAt s o) [3, 4, 5] = c ∧ c ≠ 0) ∧
    (let o : Option (BitVec 16) := none;
      let s : State := { ((sealedState (blank.set R.COL_CMD_STATUS 0) 4 1).set R.COL_KSTAT_STATE 5) with dev := .stop };
      s.powered = true ∧ s.get R.COL_CMD_STATUS ≠ 1 ∧ sealCause (sealAt s o) [3, 4, 5] = 0 ∧
        bitsOf (sealWord (sealAt s o) 1) 28 8 = 4) :=
  ⟨by decide +kernel, by decide +kernel, by decide +kernel, by decide +kernel, by decide +kernel⟩

/-- States and operands that meet the hypotheses of OwnerKeys, clauses from the 6th on. -/
theorem witness_OwnerKeys_2 :
    (let o : Option (BitVec 16) := none;
      let s : State := { sealedState (blank.set R.COL_CMD_STATUS 0) 5 0 with dev := .stop };
      s.powered = true ∧ s.get R.COL_CMD_STATUS ≠ 1 ∧ sealCause (sealAt s o) [3, 4, 5] = 0 ∧
        bitsOf (sealWord (sealAt s o) 1) 28 8 = 5) ∧
    (let s : State := { (blank.set R.COL_CMD_STATUS 0) with dev := .run };
      s.powered = true ∧ s.get R.COL_CMD_STATUS ≠ 1) :=
  ⟨by decide +kernel, by decide +kernel⟩

/-- States and operands that meet the hypotheses of RegisterWrites. -/
theorem witness_RegisterWrites :
    (let a : BitVec 17 := 0x00BFF; let s : State := blank;
      s.powered = true ∧ regRow (0xC00000 + a.toNat) = none) ∧
    (let s : State := blank;
      s.powered = true) ∧
    (let s : State := blank;
      s.powered = true) ∧
    (let s : State := blank;
      s.powered = true) ∧
    (let s : State := blank.raise R.PWR_PFCFG_LOCK;
      s.powered = true ∧ (0 < s.power.pfStep ∨ heldInReset s = true ∨ (s.power.pfPin = false ∧
        s.power.pfMon = false)) ∧ s.flag R.PWR_PFCFG_LOCK = true) :=
  ⟨by decide +kernel, by decide +kernel, by decide +kernel, by decide +kernel, by decide +kernel⟩

/-- States and operands that meet the hypotheses of RegisterWrites, clauses from the 6th on. -/
theorem witness_RegisterWrites_2 :
    (let v : Word := 3; let s : State := blank.set R.PWR_PFCFG_LOCK 0;
      s.powered = true ∧ (0 < s.power.pfStep ∨ heldInReset s = true ∨ (s.power.pfPin = false ∧
        s.power.pfMon = false)) ∧ s.flag R.PWR_PFCFG_LOCK = false ∧ 1 ≤ v.toNat % 4) ∧
    (let v : Word := 16; let s : State := blank.set R.PWR_PFCFG_LOCK 0;
      s.powered = true ∧ (0 < s.power.pfStep ∨ heldInReset s = true ∨ (s.power.pfPin = false ∧
        s.power.pfMon = false)) ∧ s.flag R.PWR_PFCFG_LOCK = false ∧ v.toNat % 4 = 0) ∧
    (let v : Word := 1;
      let s : State := { (blank.set R.PWR_PFCFG_LOCK 0) with dev := .run, power := { blank.power with pfStep := 0, pfPin := true, porstLow := false, rstLow := false } };
      s.dev = .run ∧ s.power.pfStep = 0 ∧ heldInReset s = false ∧ s.flag R.PWR_PFCFG_LOCK = false ∧
        ((s.power.pfPin && v.getLsbD 0) || (s.power.pfMon && v.getLsbD 1)) = true) ∧
    (let s : State := blank.putBit R.SYS_XOPEN_OPEN 9 false;
      s.powered = true ∧ expertOpen s 9 = false) ∧
    (let s : State := blank.putBit R.SYS_XOPEN_OPEN 9 true;
      s.powered = true ∧ expertOpen s 9 = true) :=
  ⟨by decide +kernel, by decide +kernel, by decide +kernel, by decide +kernel, by decide +kernel⟩

/-- States and operands that meet the hypotheses of RegisterWrites, clauses from the 11th on. -/
theorem witness_RegisterWrites_3 :
    (let m : Fin 18 := 17; let p : Port := 8; let s : State := blank;
      s.powered = true ∧ masterPort m = p.val) ∧
    (let m : Fin 18 := 3; let p : Port := 4; let s : State := blank;
      s.powered = true ∧ masterPort m ≠ p.val) ∧
    (let v : Word := 1; let s : State := blank.set R.FOL_CMD_STATUS 1;
      s.powered = true ∧ s.get R.FOL_CMD_STATUS = 1 ∧ v.toNat % 16 ≠ 2) ∧
    (let s : State := blank;
      s.powered = true) :=
  ⟨by decide +kernel, by decide +kernel, by decide +kernel, by decide +kernel⟩

/-- States and operands that meet the hypotheses of HostAndMirrorPorts. -/
theorem witness_HostAndMirrorPorts :
    (let a : BitVec 24 := 0;
      let s : State := (let z : State := ((withSmall blank .run).set R.PCI_STAT_PERST 0).set R.CLK_STAT_STOPPED 0; { z with poison := [], power := { z.power with porstLow := false, rstLow := false } });
      s.powered = true ∧ s.flag R.PCI_STAT_PERST = false ∧ hostServed s = true ∧ s.flag R.CLK_STAT_STOPPED = false ∧
        a.toNat < 0x3F0000 ∧ s.poisoned a.toNat = false) ∧
    (let a : BitVec 24 := 0;
      let s : State := (let z : State := ((withSmall blank .run).set R.PCI_STAT_PERST 0).set R.CLK_STAT_STOPPED 0; { z with poison := [], power := { z.power with porstLow := false, rstLow := false } });
      s.powered = true ∧ s.flag R.PCI_STAT_PERST = false ∧ hostServed s = true ∧ s.flag R.CLK_STAT_STOPPED = false ∧
        a.toNat < 0x3F0000 ∧ hasStandby s = false) ∧
    (let first : Fin 8 := 4; let count : Fin 9 := 4;
      let s : State := (let z : State := ((withSmall blank .run).set R.PCI_STAT_PERST 0).set R.CLK_STAT_STOPPED 0; { z with poison := [], power := { z.power with porstLow := false, rstLow := false } });
      s.powered = true ∧ s.flag R.PCI_STAT_PERST = false ∧ hostServed s = true ∧ s.flag R.CLK_STAT_STOPPED = false ∧
        (first ≠ 0 ∨ count.val < 8)) ∧
    (let a : BitVec 24 := 0x450000;
      let s : State := (let z : State := ((withSmall blank .run).set R.PCI_STAT_PERST 0).set R.CLK_STAT_STOPPED 0; { z with poison := [], power := { z.power with porstLow := false, rstLow := false } });
      s.powered = true ∧ s.flag R.PCI_STAT_PERST = false ∧ hostServed s = true ∧ s.flag R.CLK_STAT_STOPPED = false ∧
        0x450000 ≤ a.toNat ∧ a.toNat < 0x500000) ∧
    (let s : State := (let z : State := (let z : State := ((withSmall blank .run).set R.PCI_STAT_PERST 0).set R.CLK_STAT_STOPPED 0; { z with poison := [], power := { z.power with porstLow := false, rstLow := false } }); { z with power := { z.power with rstLow := true } });
      s.flag R.PCI_STAT_PERST = false ∧ hostServed s = false) :=
  ⟨by decide +kernel, by decide +kernel, by decide +kernel, by decide +kernel, by decide +kernel⟩

/-- States and operands that meet the hypotheses of HostAndMirrorPorts, clauses from the 6th on. -/
theorem witness_HostAndMirrorPorts_2 :
    (let s : State := blank.raise R.PCI_STAT_PERST;
      s.flag R.PCI_STAT_PERST = true) ∧
    (let s : State := blank.set R.PCI_STAT_PERST 0;
      s.flag R.PCI_STAT_PERST = false) ∧
    (let mask : BitVec 8 := 8;
      let s : State := (let z : State := blank.raise ⟨R.PCI_VMASK_MASK.addr, 27, 1⟩; { z with host := { z.host with driven := 0, table := List.replicate 128 0 } });
      s.powered = true ∧ mask.getLsbD 3 = true ∧ s.host.driven = 0 ∧ s.flag (⟨R.PCI_VMASK_MASK.addr, 27,
        1⟩ : Fld) = true ∧ (s.host.table.getD 111 0).testBit 0 = false) ∧
    (let a : BitVec 22 := 0; let s : State := ((withSmall blank .run).raise R.MIR_CFG_EN);
      mirrorOn s = true ∧ a.toNat < 0x10000 ∧ s.poisoned (0x440000 + a.toNat) = false) ∧
    (let s : State := blank;
      mirrorOn s = false) :=
  ⟨by decide +kernel, by decide +kernel, by decide +kernel, by decide +kernel, by decide +kernel⟩

/-- States and operands that meet the hypotheses of HostAndMirrorPorts, clauses from the 11th on. -/
theorem witness_HostAndMirrorPorts_3 :
    (let a : BitVec 22 := 0; let s : State := ((withSmall blank .run).raise R.MIR_CFG_EN);
      mirrorOn s = true ∧ a.toNat < 0xF000) ∧
    (let a : BitVec 22 := 0xF000; let s : State := ((withSmall blank .run).raise R.MIR_CFG_EN);
      mirrorOn s = true ∧ 0xF000 ≤ a.toNat ∧ a.toNat < 0xF7FE) ∧
    (let s : State := ((withSmall blank .run).raise R.MIR_CFG_EN);
      mirrorOn s = true) ∧
    (let s : State := ((withSmall blank .run).raise R.MIR_CFG_EN);
      mirrorOn s = true) ∧
    (let s : State := { blank.raise R.MIR_CFG_EN with dev := .run, mirror := { blank.mirror with hold := true } };
      s.powered = true ∧ s.mirror.hold = true) :=
  ⟨by decide +kernel, by decide +kernel, by decide +kernel, by decide +kernel, by decide +kernel⟩

/-- States and operands that meet the hypotheses of HostAndMirrorPorts, clauses from the 16th on. -/
theorem witness_HostAndMirrorPorts_4 :
    (let s : State := blank;
      s.powered = true ∧ s.mirror.hold = false) ∧
    (let w : Word := 77;
      let s : State := (let z : State := dataState blank .solve false false; { z with mirror := { z.mirror with copy := some [(9, 77)] } });
      s.powered = true ∧ s.mirror.copy = some [(9, w)] ∧ s.cycling = true) ∧
    (let c : CoreId := 3;
      let s : State := (let z : State := dataState blank .solve false false; z.setCore 3 { Core.fresh with task := some ⟨9, 1, none, false⟩ });
      coreRuns s c = true) ∧
    (let s : State := { blank with dev := .run, power := { blank.power with porstLow := false } };
      s.powered = true ∧ s.power.porstLow = false) ∧
    (let s : State := blank.raise R.DBG_CFG_ENABLE;
      s.flag R.DBG_CFG_ENABLE = true) :=
  ⟨by decide +kernel, by decide +kernel, by decide +kernel, by decide +kernel, by decide +kernel⟩

/-- States and operands that meet the hypotheses of HostAndMirrorPorts, clauses from the 21th on. -/
theorem witness_HostAndMirrorPorts_5 :
    (let a : BitVec 24 := 0;
      let s : State := ((let z : State := ((withSmall blank .run).set R.PCI_STAT_PERST 0).set R.CLK_STAT_STOPPED 0; { z with poison := [], power := { z.power with porstLow := false, rstLow := false } })).raise R.DBG_CFG_ENABLE;
      s.flag R.DBG_CFG_ENABLE = true ∧ hostServed s = true ∧ a.toNat < 0x3F0000 ∧ s.poisoned a.toNat = false) ∧
    (let a : BitVec 24 := 0;
      let s : State := ((let z : State := ((withSmall blank .run).set R.PCI_STAT_PERST 0).set R.CLK_STAT_STOPPED 0; { z with poison := [], power := { z.power with porstLow := false, rstLow := false } })).raise R.DBG_CFG_ENABLE;
      s.flag R.DBG_CFG_ENABLE = true ∧ hostServed s = true ∧ a.toNat < 0x3F0000 ∧ hasStandby s = false) ∧
    (let s : State := blank.set R.DBG_CFG_ENABLE 0;
      s.flag R.DBG_CFG_ENABLE = false) ∧
    (let s : State := { blank.raise R.DBG_CFG_ENABLE with dev := .run };
      s.powered = true ∧ s.flag R.DBG_CFG_ENABLE = true) :=
  ⟨by decide +kernel, by decide +kernel, by decide +kernel, by decide +kernel⟩

/-- States and operands that meet the hypotheses of StationFrames. -/
theorem witness_StationFrames :
    (let port : Fin 2 := 0; let bytes : List (BitVec 8) := inFrame;
      let f : StnIn := ⟨7, 9, 5, 0, 1, 0, [1, 0, 0, 0] ++ beBytes 4 (crc32c ((inFrame.map (·.toNat)).take 40))⟩;
      let st : StationCh := stnSt 3; let s : State := ((stnState blank .run 3).set R.ETH_STAT_LINK 3);
      s.powered = true ∧ s.getBit R.ETH_STAT_LINK port = true ∧ stnParse (bytes.map (·.toNat)) = some f ∧
        (s.net.stations.find? (fun x => stnNumber (stnWords s x.idx) == f.number && (stnPort (stnWords s x.idx) ==
          port.val || stnPort (stnWords s x.idx) == 2) && stnNbi (stnWords s x.idx) == f.nb && stnNwi (stnWords s
          x.idx) == f.nw && s.get R.STN_SYS_SYSID == f.sysid) = some st)) ∧
    (let port : Fin 2 := 0; let bytes : List (BitVec 8) := [1, 2, 3];
      let s : State := ((stnState blank .run 2).set R.ETH_STAT_LINK 3);
      s.powered = true ∧ s.getBit R.ETH_STAT_LINK port = true ∧ stnParse (bytes.map (·.toNat)) = none) ∧
    (let port : Fin 2 := 0; let src : BitVec 48 := 5; let seq : BitVec 16 := 6;
      let s : State := (let z := ((stnState blank .run 3).set R.ETH_STAT_LINK 3).set R.ETH_CFG_RED 1; { z with net := { z.net with dups := [(5, 6, z.time.loc)] } });
      s.powered = true ∧ s.getBit R.ETH_STAT_LINK port = true ∧ s.get R.ETH_CFG_RED ≠ 0 ∧
        ((s.net.dups.any fun d => d.1 == src.toNat && d.2.1 == seq.toNat && decide (s.time.loc - d.2.2 ≤ 400000000)) =
          true)) ∧
    (let port : Fin 2 := 0; let s : State := stnState blank .run 3;
      s.powered = true ∧ s.getBit R.ETH_STAT_LINK port = false) ∧
    (let i : Fin 256 := 4; let st : StationCh := stnSt 1; let s : State := stnState blank .run 1;
      s.powered = true ∧ s.station i = some st ∧ st.state ≠ 3 ∧
        ((st.lastIn.any fun u => decide (s.time.loc < u + stnTmo s i * 100000)) = false)) :=
  ⟨by decide +kernel, by decide +kernel, by decide +kernel, by decide +kernel, by decide +kernel⟩

/-- States and operands that meet the hypotheses of StationFrames, clauses from the 6th on. -/
theorem witness_StationFrames_2 :
    (let i : Fin 256 := 4; let st : StationCh := stnSt 3; let s : State := stnState blank .run 3;
      s.powered = true ∧ s.station i = some st ∧ (st.state = 3 ∨
        (st.lastIn.any fun u => decide (s.time.loc < u + stnTmo s i * 100000)) = true)) ∧
    (let c : Cls := 0; let i : Nat := 4; let st : StationCh := stnSt 1;
      let s : State := ((stnState blank .halt 1).set R.ETH_STAT_LINK 3);
      (s.dev = .stop ∨ s.dev = .safe ∨ s.dev = .halt) ∧ s.power.pfStep = 0 ∧ classStations s c = [i] ∧
        s.station i = some st ∧ stnLink s (stnWords s i) = true) ∧
    (let c : Cls := 0; let i : Nat := 4; let s : State := stnState blank .halt 1;
      (s.dev = .stop ∨ s.dev = .safe ∨ s.dev = .halt) ∧ classStations s c = [i] ∧ (0 < s.power.pfStep ∨
        stnLink s (stnWords s i) = false)) ∧
    (let n : Fin 2 := 0;
      let s : State := (let z := { stnState blank .run 1 with net := { blank.net with ports := #v[⟨[1, 2, 3], 1, 5, 6⟩, ⟨[], 0, 7, 8⟩], dups := [] } }; ((z.set R.ETH_CFG_RED 2).set R.ETH_STAT_LINK 3).set (R.ETH_PCFG_MODE 1) 1);
      s.powered = true ∧ s.get (R.ETH_PCFG_MODE n) ≠ 0) ∧
    (let n : Fin 2 := 0; let ip : BitVec 32 := 0xC0A80001;
      let s : State := ((let z := { stnState blank .run 1 with net := { blank.net with ports := #v[⟨[1, 2, 3], 1, 5, 6⟩, ⟨[], 0, 7, 8⟩], dups := [] } }; ((z.set R.ETH_CFG_RED 2).set R.ETH_STAT_LINK 3).set (R.ETH_PCFG_MODE 1) 1)).set (R.ETH_IP_IP n) 0xC0A80001;
      s.powered = true ∧ s.getBit R.ETH_STAT_LINK n = true ∧ s.get (R.ETH_IP_IP n) = ip.toNat) :=
  ⟨by decide +kernel, by decide +kernel, by decide +kernel, by decide +kernel, by decide +kernel⟩

/-- States and operands that meet the hypotheses of StationFrames, clauses from the 11th on. -/
theorem witness_StationFrames_3 :
    (let n : Fin 2 := 0; let ip : BitVec 32 := 0;
      let s : State := ((let z := { stnState blank .run 1 with net := { blank.net with ports := #v[⟨[1, 2, 3], 1, 5, 6⟩, ⟨[], 0, 7, 8⟩], dups := [] } }; ((z.set R.ETH_CFG_RED 2).set R.ETH_STAT_LINK 3).set (R.ETH_PCFG_MODE 1) 1)).set (R.ETH_IP_IP n) 0xC0A80001;
      s.powered = true ∧ s.getBit R.ETH_STAT_LINK n = true ∧ s.get (R.ETH_IP_IP n) ≠ ip.toNat) ∧
    (let n : Fin 2 := 0;
      let s : State := (let z := { stnState blank .run 1 with net := { blank.net with ports := #v[⟨[1, 2, 3], 1, 5, 6⟩, ⟨[], 0, 7, 8⟩], dups := [] } }; ((z.set R.ETH_CFG_RED 2).set R.ETH_STAT_LINK 3).set (R.ETH_PCFG_MODE 1) 1);
      s.powered = true ∧ s.getBit R.ETH_STAT_LINK n = true) ∧
    (let s : State := (let z := { stnState blank .run 1 with net := { blank.net with ports := #v[⟨[1, 2, 3], 1, 5, 6⟩, ⟨[], 0, 7, 8⟩], dups := [] } }; ((z.set R.ETH_CFG_RED 2).set R.ETH_STAT_LINK 3).set (R.ETH_PCFG_MODE 1) 1);
      s.powered = true ∧ s.get R.ETH_CFG_RED = 2 ∧ s.get R.ETH_STAT_LINK = 3 ∧ s.net.dups = []) ∧
    (let src : BitVec 48 := 5; let seq : BitVec 16 := 6;
      let s : State := (let z := (let z := { stnState blank .run 1 with net := { blank.net with ports := #v[⟨[1, 2, 3], 1, 5, 6⟩, ⟨[], 0, 7, 8⟩], dups := [] } }; ((z.set R.ETH_CFG_RED 2).set R.ETH_STAT_LINK 3).set (R.ETH_PCFG_MODE 1) 1); { z with net := { z.net with dups := [(5, 6, z.time.loc)] } });
      let at' : Nat := s.time.loc;
      s.powered = true ∧ s.get R.ETH_CFG_RED = 2 ∧ s.get R.ETH_STAT_LINK = 3 ∧ s.net.dups = [(src.toNat, seq.toNat,
        at')] ∧ s.time.loc ≤ at' + 400000000) ∧
    (let n : Fin 2 := 0;
      let s : State := (let z := { stnState blank .run 1 with net := { blank.net with ports := #v[⟨[1, 2, 3], 1, 5, 6⟩, ⟨[], 0, 7, 8⟩], dups := [] } }; ((z.set R.ETH_CFG_RED 2).set R.ETH_STAT_LINK 3).set (R.ETH_PCFG_MODE 1) 1);
      s.powered = true ∧ (s.ethPort n).entry + 1 < (s.ethPort n).gates.length) :=
  ⟨by decide +kernel, by decide +kernel, by decide +kernel, by decide +kernel, by decide +kernel⟩

/-- States and operands that meet the hypotheses of StationFrames, clauses from the 16th on. -/
theorem witness_StationFrames_4 :
    (let n : Fin 2 := 1;
      let s : State := (((let z := { stnState blank .run 1 with net := { blank.net with ports := #v[⟨[1, 2, 3], 1, 5, 6⟩, ⟨[], 0, 7, 8⟩], dups := [] } }; ((z.set R.ETH_CFG_RED 2).set R.ETH_STAT_LINK 3).set (R.ETH_PCFG_MODE 1) 1)).raise (R.ETH_XGCFG_EN 1)).set (R.ETH_XGCFG_LEN 1) 3;
      s.powered = true ∧ (s.ethPort n).gates.length ≤ (s.ethPort n).entry + 1 ∧ s.flag (R.ETH_XGCFG_EN n) = true) := by
  decide +kernel

/-- States and operands that meet the hypotheses of ColdResetDuringDeferral. -/
theorem witness_ColdResetDuringDeferral :
    (let s : State := { (blank.raise R.SYS_STATE_DEFER).set R.SYS_CMD_STATUS 0 with dev := .run };
      s.powered = true ∧ s.flag R.SYS_STATE_DEFER = true) ∧
    (let s : State := { (blank.raise R.SYS_STATE_DEFER).set R.SYS_CMD_STATUS 0 with dev := .run };
      s.powered = true ∧ s.flag R.SYS_STATE_DEFER = true) ∧
    (let s : State := { (blank.raise R.SYS_STATE_DEFER).set R.SYS_CMD_STATUS 0 with dev := .run };
      s.powered = true ∧ s.flag R.SYS_STATE_DEFER = true ∧ s.get R.SYS_CMD_STATUS ≠ 1) ∧
    (let at0 : Nat := 5;
      let s : State := (let z : State := nodeState blank .run false; { z.raise R.SYS_STATE_DEFER with spine := { z.spine with resetAt := some (5, true) } });
      s.powered = true ∧ s.flag R.SYS_STATE_DEFER = true ∧ s.spine.resetAt = some (at0, true) ∧ (s.acting = false ∨
        s.flag R.SPN_GOP_SELF = true)) ∧
    (let s : State := { (blank.raise R.SYS_STATE_DEFER).set R.SYS_CMD_STATUS 0 with dev := .run };
      s.powered = true ∧ s.flag R.SYS_STATE_DEFER = true) :=
  ⟨by decide +kernel, by decide +kernel, by decide +kernel, by decide +kernel, by decide +kernel⟩

/-- States and operands that meet the hypotheses of PendingSysCommand. -/
theorem witness_PendingSysCommand :
    (let s : State := blank.set R.SYS_CMD_STATUS 1;
      s.powered = true ∧ s.get R.SYS_CMD_STATUS = 1) ∧
    (let v : Word := 9; let s : State := blank.set R.SYS_CMD_STATUS 0;
      s.powered = true ∧ s.get R.SYS_CMD_STATUS ≠ 1 ∧ 7 ≤ v.toNat % 16) ∧
    (let s : State := blank.set R.SYS_CMD_STATUS 1;
      s.powered = true ∧ s.get R.SYS_CMD_STATUS = 1) ∧
    (let s : State := blank.set R.SYS_CMD_STATUS 1;
      s.powered = true ∧ s.get R.SYS_CMD_STATUS = 1) ∧
    (let s : State := blank.set R.SYS_CMD_STATUS 1;
      s.powered = true ∧ s.get R.SYS_CMD_STATUS = 1) :=
  ⟨by decide +kernel, by decide +kernel, by decide +kernel, by decide +kernel, by decide +kernel⟩

/-- States and operands that meet the hypotheses of PendingSysCommand, clauses from the 6th on. -/
theorem witness_PendingSysCommand_2 :
    (let s : State := blank.set R.SYS_CMD_STATUS 1;
      s.powered = true ∧ s.get R.SYS_CMD_STATUS = 1) ∧
    (let s : State := blank.set R.SYS_CMD_STATUS 1;
      s.powered = true ∧ s.get R.SYS_CMD_STATUS = 1) ∧
    (let s : State := blank.set R.SYS_CMD_STATUS 1;
      s.powered = true ∧ s.get R.SYS_CMD_STATUS = 1) :=
  ⟨by decide +kernel, by decide +kernel, by decide +kernel⟩

/-- States and operands that meet the hypotheses of HostLoadNeedsBusMastering. -/
theorem witness_HostLoadNeedsBusMastering :
    (let s : State := ((((olcState' blank .stop 0).set R.FOL_CMD_STATUS 0).set R.FOL_SRC_SRC 2).set R.PCI_STAT_BME 0);
      s.get R.FOL_CMD_STATUS ≠ 1 ∧ s.dev = .stop ∧ s.power.pfStep = 0 ∧ s.get R.FOL_SRC_SRC = 2 ∧
        s.flag R.PCI_STAT_BME = false) ∧
    (let s : State := ((((olcState' blank .stop 0).set R.FOL_CMD_STATUS 0).set R.FOL_SRC_SRC 2).raise R.PCI_STAT_BME);
      s.get R.FOL_CMD_STATUS ≠ 1 ∧ s.dev = .stop ∧ s.power.pfStep = 0 ∧ s.get R.FOL_SRC_SRC = 2 ∧
        s.flag R.PCI_STAT_BME = true) :=
  ⟨by decide +kernel, by decide +kernel⟩

/-- States and operands that meet the hypotheses of ExpertLimitWords. -/
theorem witness_ExpertLimitWords :
    (let v : Word := 4; let s : State := blank.putBit R.SYS_XOPEN_OPEN 13 true;
      s.powered = true ∧ expertOpen s 13 = true ∧ 4 ≤ v.toNat % 2 ^ 4) ∧
    (let v : Word := 3; let s : State := blank.putBit R.SYS_XOPEN_OPEN 13 true;
      s.powered = true ∧ expertOpen s 13 = true ∧ v.toNat % 2 ^ 4 < 4) ∧
    (let s : State := blank.putBit R.SYS_XOPEN_OPEN 13 false;
      s.powered = true ∧ expertOpen s 13 = false) ∧
    (let v : Word := 5; let s : State := blank.putBit R.SYS_XOPEN_OPEN 12 true;
      s.powered = true ∧ expertOpen s 12 = true ∧ 5 ≤ v.toNat % 2 ^ 8) ∧
    (let v : Word := 4; let s : State := blank.putBit R.SYS_XOPEN_OPEN 12 true;
      s.powered = true ∧ expertOpen s 12 = true ∧ v.toNat % 2 ^ 8 < 5) :=
  ⟨by decide +kernel, by decide +kernel, by decide +kernel, by decide +kernel, by decide +kernel⟩

/-- States and operands that meet the hypotheses of ExpertLimitWords, clauses from the 6th on. -/
theorem witness_ExpertLimitWords_2 :
    (let s : State := blank.putBit R.SYS_XOPEN_OPEN 12 false;
      s.powered = true ∧ expertOpen s 12 = false) := by
  decide +kernel

/-- States and operands that meet the hypotheses of MacdBusTrap. -/
theorem witness_MacdBusTrap :
    (let core : Fin 8 := 3; let cond : Fin 16 := 0; let opnd : BitVec 26 := 2 * 16 + 1 * 16384;
      let s : State := (let z : State := runCore blank 0x2000; z.setCore 3 ((({ z.core 3 with sw := BitVec.ofNat 36 1 }).setX 1 0x450000).setX 2 0x100));
      let a1 : Nat := (s.core core).ea (opField opnd 10 10) 0;
      let a2 : Nat := (s.core core).ea (opField opnd 0 10) 0;
      coreReady s core (instrWord cond 25 opnd) { legal := opField opnd 20 3 == 0 && mdLegal (opField opnd 10 10) && mdLegal (opField opnd 0 10) && !mdLiteral (opField opnd 10 10) && !mdLiteral (opField opnd 0 10) } = true ∧
        handlerFree (s.core core) = true ∧ a1 = (s.core core).ea (opField opnd 10 10) 0 ∧
        a2 = (s.core core).ea (opField opnd 0 10) 0 ∧ missingAnswer s core [a1, a2] s.spine.answers = none ∧
        (loadWord s core a1).1 = .bus) ∧
    (let core : Fin 8 := 3; let cond : Fin 16 := 0; let opnd : BitVec 26 := 2 * 16 + 1 * 16384;
      let s : State := (let z : State := runCore blank 0x2000; z.setCore 3 ((({ z.core 3 with sw := BitVec.ofNat 36 1 }).setX 1 0x100).setX 2 0x450000));
      let a1 : Nat := (s.core core).ea (opField opnd 10 10) 0;
      let a2 : Nat := (s.core core).ea (opField opnd 0 10) 0;
      coreReady s core (instrWord cond 25 opnd) { legal := opField opnd 20 3 == 0 && mdLegal (opField opnd 10 10) && mdLegal (opField opnd 0 10) && !mdLiteral (opField opnd 10 10) && !mdLiteral (opField opnd 0 10) } = true ∧
        handlerFree (s.core core) = true ∧ a1 = (s.core core).ea (opField opnd 10 10) 0 ∧
        a2 = (s.core core).ea (opField opnd 0 10) 0 ∧ missingAnswer s core [a1, a2] s.spine.answers = none ∧
        (loadWord s core a1).1 ≠ .bus ∧ (loadWord (loadWord s core a1).2 core a2).1 = .bus) :=
  ⟨by decide +kernel, by decide +kernel⟩

end Sys2Proof.Tests
end

/-!
What reads of registers give after writes, bit by bit, and what a use by a master, a refusal and a vector update leave
alone.
-/
namespace Sys2Proof.Machine

/-! ### Bits of register words and of fields -/

section Fields
variable (s : State)

theorem State.getBit_eq_reg (f : Fld) (i : Nat) :
    s.getBit f i = (decide (i < f.width) && (s.reg f.addr).getLsbD (f.lo + i)) := by
  simp only [State.getBit, State.get, State.reg, bitsOf, BitVec.testBit_toNat, BitVec.getLsbD_extractLsb']

theorem State.get_lt (f : Fld) : s.get f < 2 ^ f.width := BitVec.isLt _

/-- A one-bit field as a truth value is its only bit. -/
theorem State.flag_eq_getBit {f : Fld} (h : f.width = 1) : s.flag f = s.getBit f 0 := by
  have hlt := s.get_lt f
  rw [h] at hlt
  obtain h0 | h0 : s.get f = 0 ∨ s.get f = 1 := by omega
  all_goals simp [State.flag, State.getBit, h0]

theorem State.reg_set_other (f : Fld) (v : Nat) {a : Nat} (h : a ≠ f.addr) : (s.set f v).reg a = s.reg a := by
  rw [State.reg_set, if_neg h]

/-- A bit of a register word after a field was set. -/
theorem State.reg_set_getLsbD (f : Fld) (v a j : Nat) (h : f.lo + f.width ≤ 36) :
    ((s.set f v).reg a).getLsbD j =
      if a = f.addr ∧ f.lo ≤ j ∧ j < f.lo + f.width then v.testBit (j - f.lo) else (s.reg a).getLsbD j := by
  rw [State.reg_set]
  by_cases ha : a = f.addr
  · subst ha
    simp only [if_true, true_and, withBits_getLsbD _ _ _ _ _ h]
  · simp [ha]

/-- States that agree in a register word agree in its fields. -/
theorem State.get_congr {s t : State} {f : Fld} (h : t.reg f.addr = s.reg f.addr) : t.get f = s.get f :=
  congrArg (bitsOf · f.lo f.width) h

theorem State.flag_congr {s t : State} {f : Fld} (h : t.reg f.addr = s.reg f.addr) : t.flag f = s.flag f :=
  congrArg (· != 0) (State.get_congr h)

/-- A one-bit field set, read as a truth value. -/
theorem State.flag_set_same {f : Fld} (v : Nat) (hw : f.width = 1) (hl : f.lo < 36) :
    (s.set f v).flag f = v.testBit 0 := by
  rw [State.flag_eq_getBit _ hw, State.getBit, State.get_set_same _ _ _ (by omega), hw]
  simp

/-- Fields that agree bit by bit are equal. -/
theorem State.get_ext {s t : State} {f : Fld} (h : ∀ i, i < f.width → t.getBit f i = s.getBit f i) :
    t.get f = s.get f := by
  apply Nat.eq_of_testBit_eq
  intro i
  by_cases hi : i < f.width
  · exact h i hi
  · have hlt {u : State} : u.get f < 2 ^ i := (u.get_lt f).trans_le (Nat.pow_le_pow_right (by omega) (by omega))
    rw [Nat.testBit_lt_two_pow hlt, Nat.testBit_lt_two_pow hlt]

theorem State.get_eq_zero_of_flag {s : State} {f : Fld} (h : s.flag f = false) : s.get f = 0 := by
  simpa [State.flag] using h

theorem State.get_eq_one_of_flag {s : State} {f : Fld} (hw : f.width = 1) (h : s.flag f = true) : s.get f = 1 := by
  have hlt := s.get_lt f
  have : s.get f ≠ 0 := by simpa [State.flag] using h
  rw [hw] at hlt; omega

/-- The bits that one number has beyond another. -/
theorem bitsBeyond_testBit (a b i : Nat) :
    (bitsBeyond a b).testBit i = (decide (i < 32) && a.testBit i && !b.testBit i) := by
  have key : ∀ n, let m := (List.range n).foldl (fun n i => if a.testBit i && !b.testBit i then n + 2 ^ i else n) 0
      m < 2 ^ n ∧ ∀ i, m.testBit i = (decide (i < n) && a.testBit i && !b.testBit i) := by
    intro n
    induction n with
    | zero => simp
    | succ n ih =>
      obtain ⟨hlt, hbit⟩ := ih
      simp only [List.range_succ, List.foldl_append, List.foldl_cons, List.foldl_nil]
      generalize (List.range n).foldl _ 0 = m at hlt hbit ⊢
      have hor : m + 2 ^ n = 2 ^ n ||| m := by
        rw [Nat.add_comm]; simpa using Nat.two_pow_add_eq_or_of_lt hlt 1
      constructor
      · split <;> omega
      · intro i
        by_cases hi : i = n
        · subst hi
          cases ha : a.testBit i <;> cases hb : b.testBit i <;> simp [hor, hbit, ha, hb]
        · have hni : ¬ n = i := fun e => hi e.symm
          have hlt' : i < n + 1 ↔ i < n := by omega
          split <;> simp [hor, hbit, hni, hlt']
  exact (key 32).2 i

end Fields

/-! ### What a use by a master and a vector update leave unchanged -/

section Frames
variable (s : State)

/-- A use by a master changes at most whether the core PLL is waking. -/
theorem State.usedBy_eq (m : Nat) : ∃ w, s.usedBy m = { s with power := { s.power with pllWaking := w } } := by
  unfold State.usedBy
  split
  · exact ⟨true, rfl⟩
  · exact ⟨s.power.pllWaking, rfl⟩

@[simp] theorem State.regs_usedBy (m : Nat) : (s.usedBy m).regs = s.regs := by
  obtain ⟨w, h⟩ := s.usedBy_eq m; rw [h]
@[simp] theorem State.dev_usedBy (m : Nat) : (s.usedBy m).dev = s.dev := by
  obtain ⟨w, h⟩ := s.usedBy_eq m; rw [h]
@[simp] theorem State.pending_usedBy (m : Nat) : (s.usedBy m).pending = s.pending := by
  obtain ⟨w, h⟩ := s.usedBy_eq m; rw [h]
@[simp] theorem State.overridden_usedBy (m : Nat) : (s.usedBy m).overridden = s.overridden := by
  obtain ⟨w, h⟩ := s.usedBy_eq m; rw [h]
@[simp] theorem State.reg_usedBy (m a : Nat) : (s.usedBy m).reg a = s.reg a := by simp [State.reg]
@[simp] theorem State.get_usedBy (m : Nat) (f : Fld) : (s.usedBy m).get f = s.get f := by simp [State.get]
@[simp] theorem State.flag_usedBy (m : Nat) (f : Fld) : (s.usedBy m).flag f = s.flag f := by simp [State.flag]
@[simp] theorem State.getBit_usedBy (m : Nat) (f : Fld) (i : Nat) : (s.usedBy m).getBit f i = s.getBit f i := by
  simp [State.getBit]
@[simp] theorem expertOpen_usedBy (m n : Nat) : expertOpen (s.usedBy m) n = expertOpen s n := by simp [expertOpen]
@[simp] theorem State.pfStep_usedBy (m : Nat) : (s.usedBy m).power.pfStep = s.power.pfStep := by
  obtain ⟨w, h⟩ := s.usedBy_eq m; rw [h]
@[simp] theorem State.pfPin_usedBy (m : Nat) : (s.usedBy m).power.pfPin = s.power.pfPin := by
  obtain ⟨w, h⟩ := s.usedBy_eq m; rw [h]
@[simp] theorem State.pfMon_usedBy (m : Nat) : (s.usedBy m).power.pfMon = s.power.pfMon := by
  obtain ⟨w, h⟩ := s.usedBy_eq m; rw [h]
@[simp] theorem heldInReset_usedBy (m : Nat) : heldInReset (s.usedBy m) = heldInReset s := by
  obtain ⟨w, h⟩ := s.usedBy_eq m; rw [h]; rfl

/-- A refused write changes no register but SYS_ERR and SYS_ERRADR (R607). -/
theorem State.reg_rsvd (m a : Nat) {b : Nat} (h : b ≠ R.SYS_ERR_RSVD.addr) (k : b ≠ R.SYS_ERRADR_ADDR.addr) :
    (s.rsvd m a).reg b = s.reg b := by
  unfold State.rsvd
  rw [State.reg_set_other _ _ _ k, State.reg_set_other _ R.SYS_ERRADR_MASTER _ k, State.raise_eq,
    State.reg_set_other _ _ _ h]

theorem State.rsvd_flag (m a : Nat) : (s.rsvd m a).flag R.SYS_ERR_RSVD = true := by
  unfold State.rsvd
  rw [State.flag_congr (State.reg_set_other _ _ _ (by decide)),
    State.flag_congr (State.reg_set_other _ _ _ (by decide)), State.raise_eq, State.flag_set_same _ _ rfl (by decide)]
  rfl

theorem State.rsvd_master (m a : Nat) : (s.rsvd m a).get R.SYS_ERRADR_MASTER = m % 32 := by
  unfold State.rsvd
  rw [State.get_set_bits _ _ _ _ (by decide) (by decide), State.get_set_same _ _ _ (by decide)]
  rfl

theorem State.rsvd_addr (m a : Nat) : (s.rsvd m a).get R.SYS_ERRADR_ADDR = a % 2 ^ 24 :=
  State.get_set_same _ _ _ (by decide)

/-- Of a write that changes registers only, the registers and the power state are all that changes. -/
theorem State.usedBy_frame (m : Nat) {t : State} (h : RegsOnly (s.usedBy m) t) :
    t = { s with regs := t.regs, power := t.power } := by
  obtain ⟨ρ, rfl⟩ : ∃ ρ, t = { s.usedBy m with regs := ρ } := ⟨t.regs, h⟩
  obtain ⟨w, hu⟩ := s.usedBy_eq m
  rw [hu]

/-- The messages of vectors change the host's side only. -/
theorem forEach_msixRaise_eq (vs : List Nat) :
    ∃ h, State.forEach vs (fun v s => msixRaise s v) s = { s with host := h } := by
  induction vs generalizing s with
  | nil => exact ⟨s.host, rfl⟩
  | cons v vs ih =>
    have hv : ∃ h, msixRaise s v = { s with host := h } := by
      unfold msixRaise; split <;> exact ⟨_, rfl⟩
    obtain ⟨h, hv⟩ := hv
    obtain ⟨k, hk⟩ := ih (msixRaise s v)
    exact ⟨k, hk.trans (by rw [hv])⟩

/-- A vector update changes PCI_VPEND and the host's side only (R549). -/
theorem vectorSync_eq : ∃ n h, vectorSync s = { s.set R.PCI_VPEND_PEND n with host := h } := by
  obtain ⟨h, e⟩ := forEach_msixRaise_eq _ _
  exact ⟨_, h, e⟩

theorem reg_vectorSync {a : Nat} (h : a ≠ R.PCI_VPEND_PEND.addr) : (vectorSync s).reg a = s.reg a := by
  obtain ⟨n, k, e⟩ := vectorSync_eq s
  rw [e]
  exact State.reg_set_other s _ _ h

end Frames

section OnlyReg
variable (a : Nat)

/-- A state of which only one register differs. -/
def OnlyReg (s t : State) (a : Nat) : Prop := RegsOnly s t ∧ ∀ b, b ≠ a → t.reg b = s.reg b

theorem OnlyReg.refl (s : State) : OnlyReg s s a := ⟨rfl, fun _ _ => rfl⟩

theorem OnlyReg.trans {s t u : State} (h : OnlyReg s t a) (k : OnlyReg t u a) : OnlyReg s u a :=
  ⟨h.1.trans k.1, fun b hb => (k.2 b hb).trans (h.2 b hb)⟩

theorem OnlyReg.set {s t : State} {f : Fld} (h : OnlyReg s t f.addr) (n : Nat) : OnlyReg s (t.set f n) f.addr :=
  h.trans _ ⟨rfl, fun _ hb => State.reg_set_other t f n hb⟩

end OnlyReg

end Sys2Proof.Machine

/-!
Register writes (R6, R7, R610): each access type says once what it does to its field; status registers, RWX registers
and whole writes follow.
-/
namespace Sys2Proof.Machine

/-! ### One field of a register write, by its access type (R6, R7, R116, R610) -/

section WriteField
variable (s : State) (m a v : Nat)

/-- A field of an expert page takes a value, and is marked as overridden (R116). -/
def State.override (s : State) (a : Nat) (f : FieldRow) (n : Nat) : State :=
  { s.set ⟨a, f.lo, f.width⟩ n with
    overridden := if s.overridden.contains (a, f.lo) then s.overridden else (a, f.lo) :: s.overridden }

theorem writeField_ro {f : FieldRow} (h : f.acc = .ro) : writeField s m a v f = s := by
  unfold writeField; rw [h]

theorem writeField_w1c {f : FieldRow} (h : f.acc = .w1c) : writeField s m a v f =
    s.set ⟨a, f.lo, f.width⟩ (bitsBeyond (s.get ⟨a, f.lo, f.width⟩) (v / 2 ^ f.lo % 2 ^ f.width)) := by
  unfold writeField; rw [h]

/-- A RW field that admits every code takes the bits written. -/
theorem writeField_rw {f : FieldRow} (h : f.acc = .rw) (hl : f.lo ≠ 35) (ha : f.legal = []) :
    writeField s m a v f = s.set ⟨a, f.lo, f.width⟩ (v / 2 ^ f.lo % 2 ^ f.width) := by
  unfold writeField; rw [h]; simp [hl, FieldRow.admits, ha]

/-- A LOCK keeps its 1. -/
theorem writeField_lock {f : FieldRow} (h : f.acc = .rw) (hl : f.lo = 35)
    (ha : a = R.PWR_PFCFG_LOCK.addr ∨ a = R.RET_CFG_LOCK.addr) : writeField s m a v f =
      s.set ⟨a, f.lo, f.width⟩ (max (v / 2 ^ f.lo % 2 ^ f.width) (s.get ⟨a, f.lo, f.width⟩)) := by
  unfold writeField; rw [h]; simp only [if_pos (And.intro ha hl)]

theorem writeField_rwl_locked {f : FieldRow} (h : f.acc = .rwl) (hb : blockLocked s a = true) :
    writeField s m a v f = s := by
  unfold writeField; rw [h]; simp only [hb, if_true]

theorem writeField_rwl_unlocked {f : FieldRow} (h : f.acc = .rwl) (hb : blockLocked s a = false) :
    writeField s m a v f = if f.admits (v / 2 ^ f.lo % 2 ^ f.width) then
      s.set ⟨a, f.lo, f.width⟩ (v / 2 ^ f.lo % 2 ^ f.width) else s.rsvd m a := by
  unfold writeField; rw [h]; simp only [hb, Bool.false_eq_true, if_false]

theorem writeField_rwx_closed {f : FieldRow} (h : f.acc = .rwx)
    (hx : expertOpen s ((a - 0xC00000) / 0x1000) = false) : writeField s m a v f = s.raise R.SYS_XOPEN_XIGN := by
  unfold writeField; rw [h]; simp only [hx, Bool.false_eq_true, if_false]

theorem writeField_rwx_open {f : FieldRow} (h : f.acc = .rwx)
    (hx : expertOpen s ((a - 0xC00000) / 0x1000) = true) : writeField s m a v f =
      if f.admits (v / 2 ^ f.lo % 2 ^ f.width) then s.override a f (v / 2 ^ f.lo % 2 ^ f.width) else s.rsvd m a := by
  unfold writeField State.override; rw [h]; simp only [hx, if_true]

end WriteField

/-! ### The order of the fields of a write -/

section LockLast

/-- The fields of a register in the order of a write: the lock last. -/
def lockLast (fs : List FieldRow) : List FieldRow :=
  (fs.filter fun f => !decide (f.lo = 35)) ++ fs.filter fun f => decide (f.lo = 35)

theorem mem_lockLast {fs : List FieldRow} {f : FieldRow} : f ∈ lockLast fs ↔ f ∈ fs := by
  by_cases h : f.lo = 35 <;> simp [lockLast, h]

theorem all_lockLast (fs : List FieldRow) (p : FieldRow → Bool) : (lockLast fs).all p = fs.all p := by
  rw [Bool.eq_iff_iff]
  simp only [List.all_eq_true, mem_lockLast]

theorem any_lockLast (fs : List FieldRow) (p : FieldRow → Bool) : (lockLast fs).any p = fs.any p := by
  rw [Bool.eq_iff_iff]
  simp only [List.any_eq_true, mem_lockLast]

end LockLast

/-! ### Status registers: RO and W1C fields -/

section Status

/-- A field of a status register: RO or W1C, within its word. -/
def FieldRow.isStatus (f : FieldRow) : Bool :=
  (f.acc == .ro || f.acc == .w1c) && decide (f.lo + f.width ≤ 36) && decide (f.width ≤ 32)

/-- A W1C field holds the bit of its register. -/
def FieldRow.clears (f : FieldRow) (j : Nat) : Bool :=
  f.acc == .w1c && decide (f.lo ≤ j) && decide (j < f.lo + f.width)

variable (m a v : Nat)

/-- A field of a status register loses exactly the W1C bits written 1, and nothing else changes. -/
theorem writeField_status (s : State) {f : FieldRow} (hf : f.isStatus = true) :
    (∃ n, writeField s m a v f = s ∨ writeField s m a v f = s.set ⟨a, f.lo, f.width⟩ n) ∧
    ∀ j, ((writeField s m a v f).reg a).getLsbD j = ((s.reg a).getLsbD j && !(v.testBit j && f.clears j)) := by
  simp only [FieldRow.isStatus, Bool.and_eq_true, Bool.or_eq_true, beq_iff_eq, decide_eq_true_eq] at hf
  obtain ⟨⟨hro | hw, hfit⟩, hwidth⟩ := hf
  · rw [writeField_ro s m a v hro]
    exact ⟨⟨0, .inl rfl⟩, fun j => by simp [FieldRow.clears, hro]⟩
  · rw [writeField_w1c s m a v hw]
    refine ⟨⟨_, .inr rfl⟩, fun j => ?_⟩
    rw [State.reg_set_getLsbD _ _ _ _ _ hfit]
    by_cases hj : f.lo ≤ j ∧ j < f.lo + f.width
    · obtain ⟨k, rfl⟩ : ∃ k, j = f.lo + k := ⟨j - f.lo, by omega⟩
      have hk : k < f.width := by omega
      have hk32 : k < 32 := by omega
      have hlt : k + f.lo < f.lo + f.width := by omega
      have hget := s.getBit_eq_reg ⟨a, f.lo, f.width⟩ k
      simp only [State.getBit, hk, decide_true, Bool.true_and] at hget
      simp [FieldRow.clears, hw, hk, hk32, hlt, bitsBeyond_testBit, hget, Nat.testBit_mod_two_pow,
        Nat.testBit_div_two_pow, Nat.add_comm]
    · have : ¬ (a = a ∧ f.lo ≤ j ∧ j < f.lo + f.width) := fun h => hj h.2
      rw [if_neg this]
      have : f.clears j = false := by
        simp only [FieldRow.clears, Bool.and_eq_false_iff, decide_eq_false_iff_not]; omega
      simp [this]

/-- A write to a list of status fields: each bit that a W1C field holds is lost where 1 is written. -/
theorem forEach_writeField_status {fs : List FieldRow} (hfs : fs.all FieldRow.isStatus = true) (s : State) :
    OnlyReg s (State.forEach fs (fun f s => writeField s m a v f) s) a ∧
    ∀ j, ((State.forEach fs (fun f s => writeField s m a v f) s).reg a).getLsbD j =
      ((s.reg a).getLsbD j && !(v.testBit j && fs.any (·.clears j))) := by
  induction fs generalizing s with
  | nil => exact ⟨.refl a s, fun j => by simp [State.forEach]⟩
  | cons f fs ih =>
    simp only [List.all_cons, Bool.and_eq_true] at hfs
    obtain ⟨⟨n, hn⟩, hbit⟩ := writeField_status m a v s hfs.1
    obtain ⟨hfr, hrest⟩ := ih hfs.2 (writeField s m a v f)
    have h1 : OnlyReg s (writeField s m a v f) a := by
      rcases hn with e | e <;> rw [e]
      · exact .refl a s
      · exact (OnlyReg.refl a s).set (f := ⟨a, f.lo, f.width⟩) n
    refine ⟨h1.trans a hfr, fun j => (hrest j).trans ?_⟩
    rw [hbit j, List.any_cons, Bool.and_or_distrib_left, Bool.not_or, Bool.and_assoc]

/-- A write to a status register. -/
theorem writeFields_status {fs : List FieldRow} (hfs : fs.all FieldRow.isStatus = true) (s : State) :
    OnlyReg s (writeFields s m a v fs) a ∧
    ∀ j, ((writeFields s m a v fs).reg a).getLsbD j =
      ((s.reg a).getLsbD j && !(v.testBit j && fs.any (·.clears j))) := by
  obtain ⟨hfr, hbit⟩ := forEach_writeField_status m a v ((all_lockLast fs _).trans hfs) s
  exact ⟨hfr, fun j => (hbit j).trans (by rw [any_lockLast])⟩

end Status

/-! ### What a write of fields can change -/

section FieldsOnly
variable (m a v : Nat)

/-- A change of registers and of the marks of overridden fields. -/
def FieldsOnly (s t : State) : Prop := t = { s with regs := t.regs, overridden := t.overridden }

theorem FieldsOnly.trans {s t u : State} (h : FieldsOnly s t) (k : FieldsOnly t u) : FieldsOnly s u := by
  unfold FieldsOnly at *
  rw [k, h]

theorem writeField_fieldsOnly (s : State) (f : FieldRow) : FieldsOnly s (writeField s m a v f) := by
  have plain (n : Nat) : FieldsOnly s (if f.admits n then s.set ⟨a, f.lo, f.width⟩ n else s.rsvd m a) := by
    split <;> rfl
  unfold writeField
  cases f.acc with
  | ro | wo | w1c => rfl
  | rw =>
    dsimp only
    split
    · rfl
    · exact plain _
  | rwl =>
    dsimp only
    split
    · rfl
    · exact plain _
  | rwx =>
    dsimp only
    split
    · split <;> rfl
    · rfl

theorem forEach_writeField_fieldsOnly (fs : List FieldRow) (s : State) :
    FieldsOnly s (State.forEach fs (fun f s => writeField s m a v f) s) := by
  induction fs generalizing s with
  | nil => rfl
  | cons f fs ih => exact (writeField_fieldsOnly m a v s f).trans (ih (writeField s m a v f))

/-- A write of fields changes the registers and the marks of overridden fields only. -/
theorem writeFields_fieldsOnly (fs : List FieldRow) (s : State) : FieldsOnly s (writeFields s m a v fs) :=
  forEach_writeField_fieldsOnly m a v _ s

theorem State.usedBy_fields_frame (s : State) {t : State} (h : FieldsOnly (s.usedBy m) t) :
    t = { s with regs := t.regs, overridden := t.overridden, power := t.power } := by
  obtain ⟨ρ, o, rfl⟩ : ∃ ρ o, t = { s.usedBy m with regs := ρ, overridden := o } := ⟨_, _, h⟩
  obtain ⟨w, hu⟩ := s.usedBy_eq m
  rw [hu]

theorem State.override_overridden (s : State) (f : FieldRow) (n : Nat) :
    (s.override a f n).overridden.contains (a, f.lo) = true := by
  unfold State.override
  split
  · assumption
  · simp

theorem State.get_override_other (s : State) (a : Nat) (f : FieldRow) (n : Nat) (g : Fld)
    (hf : f.lo + f.width ≤ 36) (h : g.addr ≠ a ∨ f.lo + f.width ≤ g.lo ∨ g.lo + g.width ≤ f.lo) :
    (s.override a f n).get g = s.get g := by
  rcases h with h | h
  · exact s.get_set_addr ⟨a, f.lo, f.width⟩ g n h
  · exact s.get_set_bits ⟨a, f.lo, f.width⟩ g n hf h

theorem State.get_override_same (s : State) (a : Nat) (f : FieldRow) (n : Nat) (hf : f.lo + f.width ≤ 36) :
    (s.override a f n).get ⟨a, f.lo, f.width⟩ = n % 2 ^ f.width :=
  s.get_set_same ⟨a, f.lo, f.width⟩ n hf

end FieldsOnly

/-! ### RWX fields of a locked page (R116) -/

section ExpertFields
variable (m a v : Nat)

theorem expertOpen_congr {s t : State} (h : t.get R.SYS_XOPEN_OPEN = s.get R.SYS_XOPEN_OPEN) (n : Nat) :
    expertOpen t n = expertOpen s n := by
  simp only [expertOpen, State.getBit, h]

/-- Writes to RWX fields of a locked page set XIGN and nothing else (R116). -/
theorem forEach_writeField_closed {fs : List FieldRow} (hfs : fs.all (·.acc == .rwx) = true) (s : State)
    (hx : expertOpen s ((a - 0xC00000) / 0x1000) = false) :
    OnlyReg s (State.forEach fs (fun f s => writeField s m a v f) s) R.SYS_XOPEN_XIGN.addr ∧
    (fs ≠ [] ∨ s.flag R.SYS_XOPEN_XIGN = true →
      (State.forEach fs (fun f s => writeField s m a v f) s).flag R.SYS_XOPEN_XIGN = true) := by
  induction fs generalizing s with
  | nil => exact ⟨.refl _ s, fun h => h.elim (absurd rfl) id⟩
  | cons f fs ih =>
    simp only [List.all_cons, Bool.and_eq_true, beq_iff_eq] at hfs
    have hset : (s.raise R.SYS_XOPEN_XIGN).flag R.SYS_XOPEN_XIGN = true := State.flag_set_same s 1 rfl (by decide)
    have hopen : (s.raise R.SYS_XOPEN_XIGN).get R.SYS_XOPEN_OPEN = s.get R.SYS_XOPEN_OPEN :=
      State.get_set_bits s _ _ _ (by decide) (by decide)
    obtain ⟨hfr, hfl⟩ := ih hfs.2 (s.raise R.SYS_XOPEN_XIGN) ((expertOpen_congr hopen _).trans hx)
    have hhead : State.forEach (f :: fs) (fun f s => writeField s m a v f) s =
        State.forEach fs (fun f s => writeField s m a v f) (s.raise R.SYS_XOPEN_XIGN) :=
      congrArg (State.forEach fs _) (writeField_rwx_closed s m a v hfs.1 hx)
    rw [hhead]
    exact ⟨((OnlyReg.refl _ s).set 1).trans _ hfr, fun _ => hfl (.inr hset)⟩

/-- A write to a register of RWX fields on a locked page. -/
theorem writeFields_closed {fs : List FieldRow} (hfs : fs.all (·.acc == .rwx) = true) (hne : lockLast fs ≠ [])
    (s : State) (hx : expertOpen s ((a - 0xC00000) / 0x1000) = false) :
    OnlyReg s (writeFields s m a v fs) R.SYS_XOPEN_XIGN.addr ∧
    (writeFields s m a v fs).flag R.SYS_XOPEN_XIGN = true := by
  obtain ⟨hfr, hfl⟩ := forEach_writeField_closed m a v ((all_lockLast fs _).trans hfs) s hx
  exact ⟨hfr, hfl (.inl hne)⟩

end ExpertFields

/-! ### A register write as a whole -/

section WriteReg
variable (s : State) (m a v : Nat)

/-- The first words of the registers whose write does more than write its fields. -/
def effectBases : List Nat :=
  [R.SYS_EXPERT_OP.addr, R.CYC_ETSW_TRIG.addr, (R.FAB_CSEL_KIND 0).addr, (R.FAB_CVAL_VALUE 0).addr,
   (R.FAB_PSEL_WHAT 0).addr, (R.IMP_XPIN_PIN 0).addr, (R.CYC_PEAK_PEAK 0).addr, R.RTC_WAKE_PERIOD.addr,
   R.PWR_PFCFG_LOCK.addr, R.FRC_CTL_ENABLE.addr, R.FIO_ACK_ACK.addr, R.FIO_LACK_ACK.addr, R.FIO_TEST_START.addr,
   R.MTR_TSEL_EN.addr, R.MTR_CLK_EN0.addr, (R.ETH_PCFG_MODE 0).addr, (R.CAN_CTL_MODE 0).addr, (R.CAN_BR_NRATE 0).addr,
   (R.CAN_XNBT_NBRP 0).addr, (R.CAN_XDBT_DBRP 0).addr, (R.NTM_PSNAP_TAKE 0).addr, R.RTC_CMD_APPLY.addr,
   R.WDG_SVC_TOKEN.addr, R.WDG_CHK_TOKEN.addr, R.PCI_SWINT_RAISE.addr]

theorem writePlain_eq_writeFields (i : Nat) {r : RegRow} (h : r.base ∉ effectBases) :
    writePlain s m a i v r = writeFields s m a v r.fields := by
  simp only [effectBases, List.mem_cons, List.not_mem_nil, or_false, not_or] at h
  simp only [writePlain, h, or_self, if_false]

/-- A register whose write is a write of its fields and no more. -/
def RegRow.writesFields (r : RegRow) (a : Nat) : Bool :=
  !r.isCommand && !(r.fields.any fun f => f.acc == .w1c) && (a - 0xC00000) / 0x1000 != 28 &&
    !effectBases.contains r.base

theorem writeReg_eq_writeFields {r : RegRow} {i j : Nat} (hr : regRow a = some (r, i, j)) (hw : r.writesFields a = true)
    (ht : tileWake s a i r = s) (hp : r.port = true → masterPort m = i) :
    writeReg s m a v = writeFields s m a v r.fields := by
  simp only [RegRow.writesFields, Bool.and_eq_true, Bool.not_eq_true', bne_iff_ne, List.contains_eq_mem,
    decide_eq_false_iff_not] at hw
  obtain ⟨⟨⟨hc, hev⟩, hpci⟩, hb⟩ := hw
  have hport : ¬ (r.port = true ∧ masterPort m ≠ i) := fun h => h.2 (hp h.1)
  simp only [writeReg, hr, ht, if_neg hport, hc, hev, hpci, Bool.false_eq_true, or_self, if_false]
  exact writePlain_eq_writeFields s m a v i hb

/-- A write that the host's vectors follow (R549): of a register with W1C fields, or of the block PCI_. -/
theorem writeReg_eq_vectorSync {r : RegRow} {i j : Nat} (hr : regRow a = some (r, i, j)) (hc : r.isCommand = false)
    (hp : r.port = false) (hb : r.base ∉ effectBases)
    (hv : (r.fields.any fun f => f.acc == .w1c) = true ∨ (a - 0xC00000) / 0x1000 = 28) (ht : tileWake s a i r = s) :
    writeReg s m a v = vectorSync (writeFields (vectorSync s) m a v r.fields) := by
  simp only [writeReg, hr, ht, hp, hc, Bool.false_eq_true, false_and, if_false, if_pos hv,
    writePlain_eq_writeFields _ m a v i hb]

/-- The command completes in the state that the write leaves, with the queue as it was. -/
theorem runs_registerWrite_answer {s : State} {m : Fin 18} {a : BitVec 17} {v : Word} {P : State → Prop}
    (hpow : s.powered = true)
    (hP : P { writeReg (s.usedBy m) m (0xC00000 + a.toNat) v.toNat with pending := s.pending }) :
    Runs (.registerWrite m a v) s P := by
  refine ⟨_, ?_, hP⟩
  change State.serve s m (fun s => writeReg s m (0xC00000 + a.toNat) v.toNat) = _
  rw [State.serve, if_pos hpow, State.answer]

/-- The operand of a register's word address. -/
theorem regAddr_ofNat {a : Nat} (ha : 0xC00000 ≤ a ∧ a < 0xC20000) :
    0xC00000 + (BitVec.ofNat 17 (a - 0xC00000)).toNat = a := by
  rw [BitVec.toNat_ofNat, Nat.mod_eq_of_lt (by omega)]
  omega

/-- The command completes in the state that the write leaves, where that keeps the queue. -/
theorem runs_registerWrite {s : State} {m : Fin 18} {a : Nat} {v : Word} {P : State → Prop} (t : State)
    (hpow : s.powered = true) (ha : 0xC00000 ≤ a ∧ a < 0xC20000)
    (ht : writeReg (s.usedBy m) m a v.toNat = t) (hq : t.pending = s.pending) (hP : P t) :
    Runs (.registerWrite m (BitVec.ofNat 17 (a - 0xC00000)) v) s P := by
  apply runs_registerWrite_answer hpow
  rw [regAddr_ofNat ha, ht, ← hq]
  exact hP

end WriteReg

end Sys2Proof.Machine

/-!
What leaves the device state, the power state and the block PWR_ alone, up to the steps of a power-fail sequence that
begins in RUN (R65).
-/
namespace Sys2Proof.Machine

/-- The device state, the power state and the registers of block 1, PWR_, are as they were. -/
structure KeepsPwr (s t : State) : Prop where
  dev : t.dev = s.dev
  power : t.power = s.power
  reg : ∀ a, a / 0x1000 = 0xC01 → t.reg a = s.reg a

section KeepsPwr
variable {s t u : State}

theorem KeepsPwr.refl (s : State) : KeepsPwr s s := ⟨rfl, rfl, fun _ _ => rfl⟩

theorem KeepsPwr.trans (h : KeepsPwr s t) (k : KeepsPwr t u) : KeepsPwr s u :=
  ⟨k.dev.trans h.dev, k.power.trans h.power, fun a ha => (k.reg a ha).trans (h.reg a ha)⟩

theorem KeepsPwr.olc (h : KeepsPwr s t) (o : OlcSt) : KeepsPwr s { t with olc := o } := ⟨h.dev, h.power, h.reg⟩

theorem KeepsPwr.pending (h : KeepsPwr s t) (q : List Instr) : KeepsPwr s { t with pending := q } :=
  ⟨h.dev, h.power, h.reg⟩

theorem KeepsPwr.set (h : KeepsPwr s t) (f : Fld) (v : Nat) (hf : f.addr / 0x1000 ≠ 0xC01) : KeepsPwr s (t.set f v) :=
  h.trans ⟨rfl, rfl, fun _ ha => State.reg_set_other t f v fun e => hf (e ▸ ha)⟩

theorem KeepsPwr.when (h : KeepsPwr s t) (b : Bool) {f : State → State} (hf : KeepsPwr t (f t)) :
    KeepsPwr s (t.when b f) := by
  cases b
  · exact h
  · exact h.trans hf

theorem KeepsPwr.forEach {α : Type} {f : α → State → State} (hf : ∀ x s, KeepsPwr s (f x s)) (xs : List α)
    (s : State) : KeepsPwr s (State.forEach xs f s) := by
  induction xs generalizing s with
  | nil => exact .refl s
  | cons x xs ih => exact (hf x s).trans (ih (f x s))

variable (s)

theorem recordSync_keepsPwr : KeepsPwr s (recordSync s) := by
  unfold recordSync
  simp only [State.setFlag_eq]
  split
  · exact .refl s
  · repeat refine KeepsPwr.set ?_ _ _ (by decide)
    exact .refl s

theorem report_keepsPwr (r : Report) : KeepsPwr s (s.report r) := by
  have store (q : RecordSt) (b : Bool) (f : Fld) (hf : f.addr / 0x1000 ≠ 0xC01) :
      KeepsPwr s (recordSync (State.when { s with records := q } b (·.raise f))) := by
    have h := (KeepsPwr.refl { s with records := q }).when b (f := (·.raise f)) ((KeepsPwr.refl _).set f 1 hf)
    have k := h.trans (recordSync_keepsPwr _)
    exact ⟨k.dev, k.power, k.reg⟩
  unfold State.report
  split
  · exact store _ _ _ (by decide)
  · split
    · exact store _ true _ (by decide)
    · exact store _ _ _ (by decide)

theorem releaseHeld_keepsPwr : KeepsPwr s (releaseHeld s) := by
  have h := recordSync_keepsPwr { s with records := { s.records with
    journal := { s.records.journal with held := false }, recorder := { s.records.recorder with held := false } } }
  exact ⟨h.dev, h.power, h.reg⟩

theorem departNotice_keepsPwr : KeepsPwr s (departNotice s) := by
  refine (KeepsPwr.refl s).when _ ?_
  have h (b : Bool) :
      KeepsPwr s (s.when b fun s => { s with twin := { s.twin with yieldFrom := some (s.now + 3000) } }) :=
    (KeepsPwr.refl s).when b ⟨rfl, rfl, fun _ _ => rfl⟩
  have hb := h (s.flag R.TWN_STAT_PRIMARY && (s.dev == .run || s.dev == .halt) && hasStandby s)
  exact ⟨hb.dev, hb.power, hb.reg⟩

theorem portDone_keepsPwr (p : Nat) : KeepsPwr s (s.portDone p) := by
  unfold State.portDone
  split
  · exact (KeepsPwr.refl s).set R.PCI_VPEND_PEND _ (by decide)
  · exact .refl s

theorem handleEnd_keepsPwr (p status err : Nat) : KeepsPwr s (handleEnd s p status err) := by
  have hstatus (u : State) : KeepsPwr u ((u.set (R.HND_PCMD_STATUS p) status).portDone p) :=
    ((KeepsPwr.refl u).set _ _ (show (0xC05040 + 32 * p) / 0x1000 ≠ 0xC01 by omega)).trans (portDone_keepsPwr _ p)
  have hend := hstatus { s with
    handles := { s.handles with cmds := s.handles.cmds.filter fun c : HandleCmd => c.port != p } }
  have herr := hend.set (R.HND_PERR_CODE p) err (show (0xC05042 + 32 * p) / 0x1000 ≠ 0xC01 by omega)
  unfold handleEnd
  split
  · exact ⟨hend.dev, hend.power, hend.reg⟩
  · exact ⟨herr.dev, herr.power, herr.reg⟩

theorem handleAbandon_keepsPwr (status : Nat) : KeepsPwr s (handleAbandon s status) :=
  KeepsPwr.forEach (f := fun (c : HandleCmd) s => handleEnd s c.port status 0)
    (fun c s => handleEnd_keepsPwr s c.port status 0) s.handles.cmds s

theorem canHold_keepsPwr : KeepsPwr s (canHold s) := by
  unfold canHold
  refine KeepsPwr.forEach (fun n s => ?_) _ s
  split
  · split
    · exact ⟨rfl, rfl, fun _ _ => rfl⟩
    · exact .refl s
  · exact .refl s

theorem stagedValid_keepsPwr (qs : List Nat) (ok : Nat → Bool) : KeepsPwr s (stagedValid s qs ok) := by
  unfold stagedValid
  refine KeepsPwr.forEach (fun q s => ?_) qs s
  exact ((KeepsPwr.refl s).set (R.FAB_QSTAT_STAGED q) _ (show (0xC07100 + 8 * q) / 0x1000 ≠ 0xC01 by omega)).set
    R.FAB_STAT_STAGED _ (by decide)

theorem clearStaged_keepsPwr : KeepsPwr s (clearStaged s) := by
  unfold clearStaged
  refine KeepsPwr.trans (KeepsPwr.forEach (fun q s => ?_) (List.range 8) s) (stagedValid_keepsPwr _ _ _)
  exact ⟨rfl, rfl, fun _ _ => rfl⟩

theorem olcRelease_keepsPwr : KeepsPwr s (olcRelease s) :=
  ((((clearStaged_keepsPwr s).olc _).set R.OLC_STAT_STATE 0 (by decide)).set R.OLC_STAT_TWINRDY 0 (by decide)).set
    R.OLC_STAT_TRIES 0 (by decide)

theorem olcAbandon_keepsPwr : KeepsPwr s (olcAbandon s) := by
  unfold olcAbandon
  split
  · exact .refl s
  · refine KeepsPwr.trans (KeepsPwr.when ?_ _ ?_) (report_keepsPwr _ _)
    · exact ((olcRelease_keepsPwr s).set R.OLC_STAT_CAUSE 20 (by decide)).olc _
    · exact ((KeepsPwr.refl _).set R.OLC_CMD_STATUS 6 (by decide)).set R.PCI_VPEND_PEND _ (by decide)

theorem retainSync_keepsPwr : KeepsPwr s (retainSync s) := by
  unfold retainSync
  simp only [State.setFlag_eq]
  repeat refine KeepsPwr.set ?_ _ _ (by decide)
  exact .refl s

theorem storeAbort_keepsPwr : KeepsPwr s (storeAbort s) := by
  unfold storeAbort
  split
  · exact .refl s
  · refine KeepsPwr.trans ?_ (retainSync_keepsPwr _)
    simp only [State.raise_eq]
    repeat refine KeepsPwr.set ?_ _ _ (by decide)
    exact ⟨rfl, rfl, fun _ _ => rfl⟩

end KeepsPwr

/-- In RUN the power-fail sequence begins with its steps 1 and 2, PFACT set (R65). -/
theorem pfailBegin_run {s : State} (h : s.dev = .run) :
    ∃ w, KeepsPwr w (pfailBegin s) ∧ w.power.pfStep = 3 ∧ w.flag R.PWR_STAT_PFACT = true ∧ w.dev = .run := by
  have hdev : (canHold (handleAbandon (releaseHeld (departNotice s)) 3)).dev = .run :=
    ((departNotice_keepsPwr s).trans ((releaseHeld_keepsPwr _).trans
      ((handleAbandon_keepsPwr _ 3).trans (canHold_keepsPwr _)))).dev.trans h
  unfold pfailBegin
  generalize canHold (handleAbandon (releaseHeld (departNotice s)) 3) = u at hdev
  have hact : (((u.raise R.PWR_STAT_PFACT).vector 0).flag R.PWR_STAT_PFACT) = true := by
    have hvec := State.reg_set_other (u.raise R.PWR_STAT_PFACT) R.PCI_VPEND_PEND
      (withBit ((u.raise R.PWR_STAT_PFACT).get R.PCI_VPEND_PEND) 0 true) (a := R.PWR_STAT_PFACT.addr) (by decide)
    exact (State.flag_congr hvec).trans (State.flag_set_same u 1 rfl (by decide))
  refine ⟨{ (u.raise R.PWR_STAT_PFACT).vector 0 with power := { u.power with pfStep := 3 } }, ?_, rfl, hact, hdev⟩
  show KeepsPwr _ (match u.dev with | .boot | .load => _ | .stop => _ | _ => _)
  rw [hdev]
  exact ((KeepsPwr.refl _).when _ (olcAbandon_keepsPwr _)).trans (storeAbort_keepsPwr _)

end Sys2Proof.Machine

/-!
The clauses of RegisterWrites, register by register.
-/
namespace Sys2Proof.Machine

/-! ### Clauses on status registers -/
section StatusWrites

/-- A register of status fields that raises vectors and whose write does no more. -/
def RegRow.isEvents (r : RegRow) : Bool :=
  !r.isCommand && !r.port && !effectBases.contains r.base && (r.fields.any fun f => f.acc == .w1c) &&
    r.fields.all FieldRow.isStatus

/-- Of a write between two vector updates, the registers, the host's side and the power state are all that changes. -/
theorem vectorSync_frame (s : State) (m : Nat) {t : State} (h : RegsOnly (vectorSync (s.usedBy m)) t) :
    vectorSync t = { s with
      regs := (vectorSync t).regs, host := (vectorSync t).host, power := (vectorSync t).power } := by
  obtain ⟨ρ, rfl⟩ : ∃ ρ, t = { vectorSync (s.usedBy m) with regs := ρ } := ⟨t.regs, h⟩
  obtain ⟨n, k, e⟩ := vectorSync_eq { vectorSync (s.usedBy m) with regs := ρ }
  obtain ⟨n', k', e'⟩ := vectorSync_eq (s.usedBy m)
  obtain ⟨w, hu⟩ := s.usedBy_eq m
  rw [e, e', hu]
  rfl

/-- A write to a register of W1C and RO fields (R6, R549): every W1C bit written 1 is lost, every other bit is kept. -/
theorem runs_registerWrite_events {s : State} {m : Fin 18} {v : Word} {P : State → Prop} (a : Nat) (r : RegRow)
    {i j : Nat} (hpow : s.powered = true) (ha : 0xC00000 ≤ a ∧ a < 0xC20000) (hr : regRow a = some (r, i, j))
    (hrow : r.isEvents = true) (hne : a ≠ R.PCI_VPEND_PEND.addr) (ht : ∀ u, tileWake u a i r = u)
    (hP : ∀ t : State, t = { s with regs := t.regs, host := t.host, power := t.power } →
      (∀ k, (t.reg a).getLsbD k = ((s.reg a).getLsbD k && !(v.getLsbD k && r.fields.any (·.clears k)))) → P t) :
    Runs (.registerWrite m (BitVec.ofNat 17 (a - 0xC00000)) v) s P := by
  simp only [RegRow.isEvents, Bool.and_eq_true, Bool.not_eq_true', List.contains_eq_mem,
    decide_eq_false_iff_not] at hrow
  obtain ⟨⟨⟨⟨hc, hp⟩, hb⟩, hw⟩, hst⟩ := hrow
  obtain ⟨⟨hregs, -⟩, hbits⟩ := writeFields_status m a v.toNat hst (vectorSync (s.usedBy m))
  have hframe := vectorSync_frame s m hregs
  refine runs_registerWrite _ hpow ha (writeReg_eq_vectorSync _ _ _ _ hr hc hp hb (.inl hw) (ht _))
    (by rw [hframe]) (hP _ hframe fun k => ?_)
  rw [reg_vectorSync _ hne, hbits k, reg_vectorSync _ hne, State.reg_usedBy, BitVec.testBit_toNat]

end StatusWrites

/-! ### CLK_STAT, SPN_EVT and PCI_VMASK -/

/-- The row of CLK_STAT. -/
def rowClkStat : RegRow := rowsClk[0]'(by decide)

/-- The row of SPN_EVT. -/
def rowSpnEvt : RegRow := rowsSpn[1]'(by decide)

/-- The row of PCI_VMASK. -/
def rowPciVmask : RegRow := rowsPci[4]'(by decide)

theorem registerWrite_clkStat (s : State) (m : Fin 18) (v : Word) (hpow : s.powered = true) :
    Runs (.registerWrite m (BitVec.ofNat 17 (R.CLK_STAT_RELOCKLATE.addr - 0xC00000)) v) s fun t => t.flag
      R.CLK_STAT_RELOCKLATE = (s.flag R.CLK_STAT_RELOCKLATE && !v.getLsbD 9) ∧
    t.get R.CLK_STAT_X32OK = s.get R.CLK_STAT_X32OK ∧ t.flag R.CLK_STAT_STOPPED = s.flag R.CLK_STAT_STOPPED ∧
    t.dev = s.dev ∧ t.mem = s.mem ∧ t = { s with regs := t.regs, host := t.host, power := t.power } := by
  refine runs_registerWrite_events R.CLK_STAT_RELOCKLATE.addr rowClkStat (i := 0) (j := 0) hpow (by decide) (by decide)
    (by decide) (by decide) (fun _ => rfl) fun t ht hbit => ?_
  have h9 := hbit 9
  have hkept (f : Fld) (hf : f.addr = 0xC02000) (hw : f.width = 1)
      (hc : rowClkStat.fields.any (·.clears f.lo) = false) : t.getBit f 0 = s.getBit f 0 := by
    have hlo := hbit f.lo
    rw [hc, Bool.and_false, Bool.not_false, Bool.and_true] at hlo
    rw [State.getBit_eq_reg, State.getBit_eq_reg, hf, hw]
    exact congrArg _ hlo
  have hlate : rowClkStat.fields.any (·.clears 9) = true := by decide
  rw [hlate, Bool.and_true] at h9
  refine ⟨?_, ?_, ?_, by rw [ht], by rw [ht], ht⟩
  · rw [State.flag_eq_getBit t rfl, State.flag_eq_getBit s rfl, State.getBit_eq_reg, State.getBit_eq_reg]
    exact h9
  · refine State.get_ext fun i hi => ?_
    obtain rfl : i = 0 := Nat.lt_one_iff.mp hi
    exact hkept _ rfl rfl (by decide)
  · rw [State.flag_eq_getBit t rfl, State.flag_eq_getBit s rfl]
    exact hkept _ rfl rfl (by decide)

theorem registerWrite_spnEvt (s : State) (m : Fin 18) (v : Word) (hpow : s.powered = true) :
    Runs (.registerWrite m (BitVec.ofNat 17 (R.SPN_EVT_BREAK.addr - 0xC00000)) v) s fun t => ((List.range 11).all (fun
      i => t.getBit ⟨R.SPN_EVT_BREAK.addr, 0, 11⟩ i == (s.getBit ⟨R.SPN_EVT_BREAK.addr, 0,
    11⟩ i && !v.getLsbD i)) = true) ∧ t.mem = s.mem ∧ t.dev = s.dev ∧
    t = { s with regs := t.regs, host := t.host, power := t.power } := by
  refine runs_registerWrite_events R.SPN_EVT_BREAK.addr rowSpnEvt (i := 0) (j := 0) hpow (by decide) (by decide)
    (by decide) (by decide) (fun _ => rfl) fun t ht hbit => ?_
  refine ⟨?_, by rw [ht], by rw [ht], ht⟩
  have hclears : ∀ i < 11, rowSpnEvt.fields.any (·.clears i) = true := by decide
  simp only [List.all_eq_true, List.mem_range, beq_iff_eq]
  intro i hi
  rw [State.getBit_eq_reg, State.getBit_eq_reg]
  simp only [hi, decide_true, Bool.true_and, Nat.zero_add]
  rw [hbit i, hclears i hi, Bool.and_true]

theorem registerWrite_pciVmask (s : State) (m : Fin 18) (v : Word) (hpow : s.powered = true) :
    Runs (.registerWrite m (BitVec.ofNat 17 (R.PCI_VMASK_MASK.addr - 0xC00000)) v) s fun t => t.get R.PCI_VMASK_MASK =
      v.toNat % 2 ^ 32 ∧ t.mem = s.mem ∧ t.dev = s.dev ∧
    t = { s with regs := t.regs, host := t.host, power := t.power } := by
  have hset (u : State) : writeFields u m R.PCI_VMASK_MASK.addr v.toNat rowPciVmask.fields =
      u.set R.PCI_VMASK_MASK (v.toNat / 2 ^ 0 % 2 ^ 32) :=
    writeField_rw u m R.PCI_VMASK_MASK.addr v.toNat (f := ⟨0, 32, .rw, 0, []⟩) rfl (by decide) rfl
  have hframe := vectorSync_frame s m (t := writeFields _ m R.PCI_VMASK_MASK.addr v.toNat rowPciVmask.fields)
    (by rw [hset]; rfl)
  refine runs_registerWrite _ hpow (by decide) (writeReg_eq_vectorSync _ _ _ _ (r := rowPciVmask) (i := 0) (j := 0)
    (by decide) (by decide) (by decide) (by decide) (.inr (by decide)) rfl) (by rw [hframe])
    ⟨?_, by rw [hframe], by rw [hframe], hframe⟩
  rw [State.get_congr (reg_vectorSync _ (by decide)), hset, State.get_set_same _ _ _ (by decide)]
  show v.toNat / 2 ^ 0 % 2 ^ 32 % 2 ^ 32 = v.toNat % 2 ^ 32
  omega
/-! ### PWR_PFCFG and the power-fail condition (R613) -/

section Pfcfg

/-- No power-fail sequence can begin at once: one runs, a reset is held, or no source stands. -/
def PfailIdle (s : State) : Prop :=
  0 < s.power.pfStep ∨ heldInReset s = true ∨ (s.power.pfPin = false ∧ s.power.pfMon = false)

theorem pfailIfDue_idle {s : State} (h : PfailIdle s) : pfailIfDue s = s := by
  unfold pfailIfDue pfailPresent
  rcases h with h | h | ⟨hp, hm⟩
  · simp [Nat.ne_of_gt h]
  · simp [h]
  · simp [hp, hm]

theorem blockLocked_pfcfg (s : State) : blockLocked s R.PWR_PFCFG_LOCK.addr = s.flag R.PWR_PFCFG_LOCK := by
  simp [blockLocked, R.PWR_PFCFG_LOCK]

/-- The row of PWR_PFCFG. -/
def rowPfcfg : RegRow := rowsPwr[2]'(by decide)

/-- A write of PWR_PFCFG writes PFSTORE, PFSRC and, last, LOCK; then the power-fail condition is looked at (R613). -/
theorem writeReg_pfcfg (s : State) (m v : Nat) : writeReg s m R.PWR_PFCFG_LOCK.addr v = pfailIfDue
    (writeField (writeField (writeField s m R.PWR_PFCFG_LOCK.addr v ⟨4, 1, .rwl, 1, []⟩)
      m R.PWR_PFCFG_LOCK.addr v ⟨0, 2, .rwl, 3, [(1, 3)]⟩) m R.PWR_PFCFG_LOCK.addr v ⟨35, 1, .rw, 0, []⟩) := by
  have hr : regRow R.PWR_PFCFG_LOCK.addr = some (rowPfcfg, 0, 0) := by decide
  have hc : rowPfcfg.isCommand = false := by decide
  have hw : ¬ ((rowPfcfg.fields.any fun f => f.acc == .w1c) = true ∨
      (R.PWR_PFCFG_LOCK.addr - 0xC00000) / 0x1000 = 28) := by decide
  have ht : tileWake s R.PWR_PFCFG_LOCK.addr 0 rowPfcfg = s := rfl
  have hp : ¬ (rowPfcfg.port = true ∧ masterPort m ≠ 0) := fun h => absurd h.1 (by decide)
  have hplain : writePlain s m R.PWR_PFCFG_LOCK.addr 0 v rowPfcfg =
      pfailIfDue (writeFields s m R.PWR_PFCFG_LOCK.addr v rowPfcfg.fields) := by
    have hb : rowPfcfg.base = R.PWR_PFCFG_LOCK.addr := rfl
    have hne : ∀ b ∈ effectBases.take 8, R.PWR_PFCFG_LOCK.addr ≠ b := by decide
    simp only [effectBases, List.take, List.forall_mem_cons] at hne
    simp only [writePlain, hb, hne, if_false, if_true]
  simp only [writeReg, hr, ht, if_neg hp, hc, if_neg hw, Bool.false_eq_true, if_false, hplain]
  rfl

/-- PWR_PFCFG written while LOCK is 0: PFSTORE, PFSRC where its code is no reserved one, and LOCK. -/
def pfcfgWritten (s : State) (m v : Nat) : State :=
  let u := s.set R.PWR_PFCFG_PFSTORE (v / 2 ^ 4 % 2 ^ 1)
  let u := if v % 4 = 0 then u.rsvd m R.PWR_PFCFG_LOCK.addr else u.set R.PWR_PFCFG_PFSRC (v % 4)
  u.set R.PWR_PFCFG_LOCK (v / 2 ^ 35 % 2 ^ 1)

theorem writeReg_pfcfg_locked {s : State} (m v : Nat) (h : s.flag R.PWR_PFCFG_LOCK = true) :
    writeReg s m R.PWR_PFCFG_LOCK.addr v = pfailIfDue (s.set R.PWR_PFCFG_LOCK 1) := by
  have hb := (blockLocked_pfcfg s).trans h
  have h1 := State.get_eq_one_of_flag rfl h
  have hlock : writeField s m R.PWR_PFCFG_LOCK.addr v ⟨35, 1, .rw, 0, []⟩ = s.set R.PWR_PFCFG_LOCK 1 := by
    refine (writeField_lock s m _ v rfl rfl (.inl rfl)).trans (congrArg (s.set R.PWR_PFCFG_LOCK) ?_)
    show max (v / 2 ^ 35 % 2 ^ 1) (s.get R.PWR_PFCFG_LOCK) = 1
    omega
  rw [writeReg_pfcfg, writeField_rwl_locked s m _ v rfl hb, writeField_rwl_locked s m _ v rfl hb, hlock]

theorem writeReg_pfcfg_unlocked {s : State} (m v : Nat) (h : s.flag R.PWR_PFCFG_LOCK = false) :
    writeReg s m R.PWR_PFCFG_LOCK.addr v = pfailIfDue (pfcfgWritten s m v) := by
  have hstore : writeField s m R.PWR_PFCFG_LOCK.addr v ⟨4, 1, .rwl, 1, []⟩ =
      s.set R.PWR_PFCFG_PFSTORE (v / 2 ^ 4 % 2 ^ 1) :=
    writeField_rwl_unlocked s m _ v rfl ((blockLocked_pfcfg s).trans h)
  have hsrc (u : State) (hu : u.get R.PWR_PFCFG_LOCK = 0) :
      writeField u m R.PWR_PFCFG_LOCK.addr v ⟨0, 2, .rwl, 3, [(1, 3)]⟩ =
        if v % 4 = 0 then u.rsvd m R.PWR_PFCFG_LOCK.addr else u.set R.PWR_PFCFG_PFSRC (v % 4) := by
    have hb : blockLocked u R.PWR_PFCFG_LOCK.addr = false := by rw [blockLocked_pfcfg, State.flag, hu]; rfl
    rw [writeField_rwl_unlocked u m _ v rfl hb]
    by_cases hv : v % 4 = 0
    · simp [FieldRow.admits, hv]
    · have h1 : 1 ≤ v % 4 := by omega
      have h3 : v % 4 ≤ 3 := by omega
      simp [FieldRow.admits, hv, h1, h3, R.PWR_PFCFG_PFSRC, R.PWR_PFCFG_LOCK]
  have hlock (u : State) (hu : u.get R.PWR_PFCFG_LOCK = 0) :
      writeField u m R.PWR_PFCFG_LOCK.addr v ⟨35, 1, .rw, 0, []⟩ =
        u.set R.PWR_PFCFG_LOCK (v / 2 ^ 35 % 2 ^ 1) := by
    refine (writeField_lock u m _ v rfl rfl (.inl rfl)).trans (congrArg (u.set R.PWR_PFCFG_LOCK) ?_)
    show max (v / 2 ^ 35 % 2 ^ 1) (u.get R.PWR_PFCFG_LOCK) = v / 2 ^ 35 % 2 ^ 1
    omega
  have h0 : (s.set R.PWR_PFCFG_PFSTORE (v / 2 ^ 4 % 2 ^ 1)).get R.PWR_PFCFG_LOCK = 0 := by
    rw [State.get_set_bits _ _ _ _ (by decide) (by decide), State.get_eq_zero_of_flag h]
  rw [writeReg_pfcfg, hstore, hsrc _ h0, hlock, pfcfgWritten]
  split
  · rw [State.get_congr (State.reg_rsvd _ _ _ (by decide) (by decide)), h0]
  · rw [State.get_set_bits _ _ _ _ (by decide) (by decide), h0]

theorem pfcfgWritten_regsOnly (s : State) (m v : Nat) : RegsOnly s (pfcfgWritten s m v) := by
  unfold pfcfgWritten
  split <;> rfl

theorem pfcfgWritten_lock (s : State) (m v : Nat) : (pfcfgWritten s m v).flag R.PWR_PFCFG_LOCK = v.testBit 35 := by
  unfold pfcfgWritten
  rw [State.flag_set_same _ _ rfl (by decide), Nat.testBit_mod_two_pow, Nat.testBit_div_two_pow]
  rfl

theorem pfcfgWritten_pfstore (s : State) (m v : Nat) (h : v % 4 ≠ 0) :
    (pfcfgWritten s m v).flag R.PWR_PFCFG_PFSTORE = v.testBit 4 := by
  simp only [pfcfgWritten, if_neg h, State.flag]
  rw [State.get_set_bits _ _ _ _ (by decide) (by decide), State.get_set_bits _ _ _ _ (by decide) (by decide)]
  refine (State.flag_set_same (f := R.PWR_PFCFG_PFSTORE) _ _ rfl (by decide)).trans ?_
  rw [Nat.testBit_mod_two_pow, Nat.testBit_div_two_pow]
  rfl

theorem pfcfgWritten_pfsrc (s : State) (m v : Nat) : (pfcfgWritten s m v).get R.PWR_PFCFG_PFSRC =
    if v % 4 = 0 then s.get R.PWR_PFCFG_PFSRC else v % 4 := by
  unfold pfcfgWritten
  rw [State.get_set_bits _ _ _ _ (by decide) (by decide)]
  split
  · rw [State.get_congr (State.reg_rsvd _ _ _ (by decide) (by decide)),
      State.get_set_bits _ _ _ _ (by decide) (by decide)]
  · rw [State.get_set_same _ _ _ (by decide)]
    exact Nat.mod_mod _ _

/-- A reserved code of PFSRC is refused with RSVD (R7, R607). -/
theorem pfcfgWritten_reserved (s : State) (m : Fin 18) (v : Nat) (h : v % 4 = 0) :
    (pfcfgWritten s m v).flag R.SYS_ERR_RSVD = true ∧
    (pfcfgWritten s m v).get R.SYS_ERRADR_ADDR = R.PWR_PFCFG_LOCK.addr ∧
    (pfcfgWritten s m v).get R.SYS_ERRADR_MASTER = m.val := by
  simp only [pfcfgWritten, if_pos h]
  generalize s.set R.PWR_PFCFG_PFSTORE _ = u
  refine ⟨?_, ?_, ?_⟩
  · rw [State.flag_congr (State.reg_set_other _ _ _ (by decide)), State.rsvd_flag]
  · rw [State.get_set_addr _ _ _ _ (by decide), State.rsvd_addr]
    rfl
  · rw [State.get_set_addr _ _ _ _ (by decide), State.rsvd_master, Nat.mod_eq_of_lt (by omega)]

theorem reg_pfcfgWritten (s : State) (m v : Nat) {a : Nat} (h : a ≠ R.PWR_PFCFG_LOCK.addr)
    (hr : v % 4 = 0 → a ≠ R.SYS_ERR_RSVD.addr ∧ a ≠ R.SYS_ERRADR_ADDR.addr) :
    (pfcfgWritten s m v).reg a = s.reg a := by
  have hset (u : State) (f : Fld) (n : Nat) (hf : f.addr = R.PWR_PFCFG_LOCK.addr) : (u.set f n).reg a = u.reg a :=
    State.reg_set_other u f n (hf ▸ h)
  unfold pfcfgWritten
  rw [hset _ R.PWR_PFCFG_LOCK _ rfl]
  split
  · next hv => rw [State.reg_rsvd _ _ _ (hr hv).1 (hr hv).2, hset _ R.PWR_PFCFG_PFSTORE _ rfl]
  · rw [hset _ R.PWR_PFCFG_PFSRC _ rfl, hset _ R.PWR_PFCFG_PFSTORE _ rfl]

end Pfcfg

section PfcfgClauses
variable {s : State} {m : Fin 18} {v : Word}

/-- Where no sequence can begin, a write that changes registers only begins none. -/
theorem pfailIfDue_of_regsOnly {t : State} (hi : PfailIdle s) (h : RegsOnly (s.usedBy m) t) : pfailIfDue t = t := by
  apply pfailIfDue_idle
  obtain ⟨w, hu⟩ := s.usedBy_eq m
  rw [h, hu]
  exact hi

theorem registerWrite_pfcfg_locked (hpow : s.powered = true) (hi : PfailIdle s) (hl : s.flag R.PWR_PFCFG_LOCK = true) :
    Runs (.registerWrite m (BitVec.ofNat 17 (R.PWR_PFCFG_LOCK.addr - 0xC00000)) v) s fun t => t.flag R.PWR_PFCFG_LOCK
      = true ∧ t.get R.PWR_PFCFG_PFSTORE = s.get R.PWR_PFCFG_PFSTORE ∧
    t.get R.PWR_PFCFG_PFSRC = s.get R.PWR_PFCFG_PFSRC ∧ t = { s with regs := t.regs, power := t.power } := by
  have hregs : RegsOnly (s.usedBy m) ((s.usedBy m).set R.PWR_PFCFG_LOCK 1) := rfl
  refine runs_registerWrite ((s.usedBy m).set R.PWR_PFCFG_LOCK 1) hpow (by decide) ?_ (State.pending_usedBy s m)
    ⟨State.flag_set_same _ 1 rfl (by decide), ?_, ?_, s.usedBy_frame m hregs⟩
  · rw [writeReg_pfcfg_locked m v.toNat (by rw [State.flag_usedBy, hl]), pfailIfDue_of_regsOnly hi hregs]
  · rw [State.get_set_bits _ _ _ _ (by decide) (by decide), State.get_usedBy]
  · rw [State.get_set_bits _ _ _ _ (by decide) (by decide), State.get_usedBy]

/-- A write of PWR_PFCFG while LOCK is 0 and no sequence can begin. -/
theorem runs_registerWrite_pfcfg {P : State → Prop} (hpow : s.powered = true) (hi : PfailIdle s)
    (hl : s.flag R.PWR_PFCFG_LOCK = false) (hP : P (pfcfgWritten (s.usedBy m) m v.toNat)) :
    Runs (.registerWrite m (BitVec.ofNat 17 (R.PWR_PFCFG_LOCK.addr - 0xC00000)) v) s P := by
  have hregs := pfcfgWritten_regsOnly (s.usedBy m) m v.toNat
  refine runs_registerWrite _ hpow (by decide) ?_ (by rw [hregs, State.pending_usedBy]) hP
  rw [writeReg_pfcfg_unlocked m v.toNat (by rw [State.flag_usedBy, hl]), pfailIfDue_of_regsOnly hi hregs]

theorem registerWrite_pfcfg_unlocked (hpow : s.powered = true) (hi : PfailIdle s)
    (hl : s.flag R.PWR_PFCFG_LOCK = false) (hv : 1 ≤ v.toNat % 4) :
    Runs (.registerWrite m (BitVec.ofNat 17 (R.PWR_PFCFG_LOCK.addr - 0xC00000)) v) s fun t => t.flag R.PWR_PFCFG_LOCK
      = v.getLsbD 35 ∧ t.flag R.PWR_PFCFG_PFSTORE = v.getLsbD 4 ∧ t.get R.PWR_PFCFG_PFSRC = v.toNat % 4 ∧
    t = { s with regs := t.regs, power := t.power } ∧ (∀ a, a ≠ R.PWR_PFCFG_LOCK.addr → t.reg a = s.reg a) := by
  have h0 : v.toNat % 4 ≠ 0 := by omega
  refine runs_registerWrite_pfcfg hpow hi hl
    ⟨?_, ?_, ?_, s.usedBy_frame m (pfcfgWritten_regsOnly _ _ _), fun a ha => ?_⟩
  · rw [pfcfgWritten_lock, BitVec.testBit_toNat]
  · rw [pfcfgWritten_pfstore _ _ _ h0, BitVec.testBit_toNat]
  · rw [pfcfgWritten_pfsrc, if_neg h0]
  · rw [reg_pfcfgWritten _ _ _ ha fun e => absurd e h0, State.reg_usedBy]

theorem registerWrite_pfcfg_reserved (hpow : s.powered = true) (hi : PfailIdle s)
    (hl : s.flag R.PWR_PFCFG_LOCK = false) (hv : v.toNat % 4 = 0) :
    Runs (.registerWrite m (BitVec.ofNat 17 (R.PWR_PFCFG_LOCK.addr - 0xC00000)) v) s fun t => t.get R.PWR_PFCFG_PFSRC
      = s.get R.PWR_PFCFG_PFSRC ∧ t.flag R.SYS_ERR_RSVD = true ∧ t.get R.SYS_ERRADR_ADDR = R.PWR_PFCFG_LOCK.addr ∧
    t.get R.SYS_ERRADR_MASTER = m.val ∧ t = { s with regs := t.regs, power := t.power } ∧ (∀ a,
    a ≠ R.PWR_PFCFG_LOCK.addr → a ≠ R.SYS_ERR_RSVD.addr → a ≠ R.SYS_ERRADR_ADDR.addr → t.reg a = s.reg a) := by
  obtain ⟨hrsvd, haddr, hmaster⟩ := pfcfgWritten_reserved (s.usedBy m) m v.toNat hv
  refine runs_registerWrite_pfcfg hpow hi hl
    ⟨?_, hrsvd, haddr, hmaster, s.usedBy_frame m (pfcfgWritten_regsOnly _ _ _), fun a ha he hadr => ?_⟩
  · rw [pfcfgWritten_pfsrc, if_pos hv, State.get_usedBy]
  · rw [reg_pfcfgWritten _ _ _ ha fun _ => ⟨he, hadr⟩, State.reg_usedBy]

/-- A source that stands and that the write admits begins the sequence at once (R613). -/
theorem pfailIfDue_pfcfgWritten (hpow : s.powered = true) (hstep : s.power.pfStep = 0) (hres : heldInReset s = false)
    (hsrc : ((s.power.pfPin && v.getLsbD 0) || (s.power.pfMon && v.getLsbD 1)) = true) :
    pfailIfDue (pfcfgWritten (s.usedBy m) m v.toNat) = pfailBegin (pfcfgWritten (s.usedBy m) m v.toNat) := by
  have hbit (i : Nat) (hi : i < 2) : (v.toNat % 4).testBit i = v.getLsbD i := by
    rw [show 4 = 2 ^ 2 from rfl, Nat.testBit_mod_two_pow, BitVec.testBit_toNat]
    simp [hi]
  have hne : v.toNat % 4 ≠ 0 := by
    intro h0
    have h1 := hbit 0 (by omega)
    have h2 := hbit 1 (by omega)
    rw [h0, Nat.zero_testBit] at h1 h2
    simp only [← h1, ← h2, Bool.and_false, Bool.or_self, Bool.false_eq_true] at hsrc
  have hget : (pfcfgWritten (s.usedBy m) m v.toNat).get R.PWR_PFCFG_PFSRC = v.toNat % 4 := by
    rw [pfcfgWritten_pfsrc, if_neg hne]
  have hregs := pfcfgWritten_regsOnly (s.usedBy m) m v.toNat
  generalize pfcfgWritten (s.usedBy m) m v.toNat = t at hget hregs ⊢
  have hpower : t.power = (s.usedBy m).power := by rw [hregs]
  have hheld : heldInReset t = false := by
    rw [← hres, ← heldInReset_usedBy s m, heldInReset, heldInReset, hpower]
  have hpw : t.powered = true := by
    rw [State.powered, hregs, State.dev_usedBy]
    exact hpow
  have hpresent : pfailPresent t = true := by
    simp only [pfailPresent, hget, hbit 0 (by omega), hbit 1 (by omega), hpower, State.pfPin_usedBy, State.pfMon_usedBy,
      hsrc]
  simp [pfailIfDue, hpw, hpower, hstep, hpresent, hheld]

theorem registerWrite_pfcfg_begins (hrun : s.dev = .run) (hstep : s.power.pfStep = 0) (hres : heldInReset s = false)
    (hl : s.flag R.PWR_PFCFG_LOCK = false)
    (hsrc : ((s.power.pfPin && v.getLsbD 0) || (s.power.pfMon && v.getLsbD 1)) = true) :
    Runs (.registerWrite m (BitVec.ofNat 17 (R.PWR_PFCFG_LOCK.addr - 0xC00000)) v) s fun t => t.power.pfStep = 3 ∧
    t.flag R.PWR_STAT_PFACT = true ∧ t.dev = .run := by
  have hpow : s.powered = true := by simp [State.powered, hrun]
  have hregs := pfcfgWritten_regsOnly (s.usedBy m) m v.toNat
  have hdue : writeReg (s.usedBy m) m R.PWR_PFCFG_LOCK.addr v.toNat =
      pfailBegin (pfcfgWritten (s.usedBy m) m v.toNat) := by
    rw [writeReg_pfcfg_unlocked m v.toNat (by rw [State.flag_usedBy, hl])]
    exact pfailIfDue_pfcfgWritten hpow hstep hres hsrc
  obtain ⟨w, hkeep, hthree, hact, hdev⟩ := pfailBegin_run (s := pfcfgWritten (s.usedBy m) m v.toNat)
    (by rw [hregs, State.dev_usedBy, hrun])
  apply runs_registerWrite_answer hpow
  rw [regAddr_ofNat (by decide), hdue]
  have h := hkeep.pending s.pending
  exact ⟨by rw [h.power, hthree], by rw [State.flag_congr (h.reg _ (by decide)), hact], h.dev.trans hdev⟩

end PfcfgClauses

/-! ### IMP_XCFG, a register of an expert page (R116) -/

section ImpXcfg

/-- The row of IMP_XCFG. -/
def rowImpXcfg : RegRow := rowsImp[18]'(by decide)

theorem writeReg_impXcfg (s : State) (m v : Nat) : writeReg s m R.IMP_XCFG_FREEZE.addr v =
    writeFields s m R.IMP_XCFG_FREEZE.addr v rowImpXcfg.fields :=
  writeReg_eq_writeFields s m _ v (i := 0) (j := 0) (by decide) (by decide) rfl fun h => absurd h (by decide)

/-- HOLD of IMP_XCFG written while its page is open: it keeps its value where 0, a reserved code, is written (R7). -/
def holdWritten (s : State) (m v : Nat) : State :=
  if v / 256 % 256 = 0 then s.rsvd m R.IMP_XCFG_FREEZE.addr
  else s.override R.IMP_XCFG_FREEZE.addr ⟨8, 8, .rwx, 64, [(1, 255)]⟩ (v / 256 % 256)

/-- IMP_XCFG written while its page is open: NOREMOTE, HOLD, HYST, MARGIN, and FREEZE last. -/
def impXcfgWritten (s : State) (m v : Nat) : State :=
  let a := R.IMP_XCFG_FREEZE.addr
  let u := holdWritten (s.override a ⟨34, 1, .rwx, 0, []⟩ (v / 2 ^ 34 % 2 ^ 1)) m v
  ((u.override a ⟨4, 4, .rwx, 2, []⟩ (v / 2 ^ 4 % 2 ^ 4)).override a ⟨0, 4, .rwx, 2, []⟩ (v / 2 ^ 0 % 2 ^ 4)).override
    a ⟨35, 1, .rwx, 0, []⟩ (v / 2 ^ 35 % 2 ^ 1)

theorem expertOpen_override (s : State) (f : FieldRow) (n b : Nat) :
    expertOpen (s.override R.IMP_XCFG_FREEZE.addr f n) b = expertOpen s b :=
  expertOpen_congr (State.get_set_addr s ⟨_, f.lo, f.width⟩ _ n (show 0xC0000A ≠ 0xC09200 by decide)) b

theorem get_holdWritten_other (s : State) (m v : Nat) (g : Fld) (h : g.addr = R.SYS_XOPEN_OPEN.addr ∨
    g.addr = R.IMP_XCFG_FREEZE.addr ∧ (16 ≤ g.lo ∨ g.lo + g.width ≤ 8)) : (holdWritten s m v).get g = s.get g := by
  have hne : g.addr ≠ R.SYS_ERR_RSVD.addr ∧ g.addr ≠ R.SYS_ERRADR_ADDR.addr := by
    obtain h | ⟨h, -⟩ := h <;> rw [h] <;> decide
  unfold holdWritten
  split
  · exact State.get_congr (State.reg_rsvd _ _ _ hne.1 hne.2)
  · refine State.get_override_other _ _ _ _ _ (by decide) ?_
    rcases h with h | h
    · exact .inl (by rw [h]; decide)
    · exact .inr h.2

theorem writeFields_impXcfg_open {s : State} (m v : Nat) (hx : expertOpen s 9 = true) :
    writeFields s m R.IMP_XCFG_FREEZE.addr v rowImpXcfg.fields = impXcfgWritten s m v := by
  have hfield (u : State) (f : FieldRow) (hu : expertOpen u 9 = true) (hf : f.acc = .rwx) :=
    writeField_rwx_open u m R.IMP_XCFG_FREEZE.addr v hf hu
  have hall (u : State) (f : FieldRow) (hu : expertOpen u 9 = true) (hf : f.acc = .rwx) (hl : f.legal = []) :
      writeField u m R.IMP_XCFG_FREEZE.addr v f = u.override R.IMP_XCFG_FREEZE.addr f (v / 2 ^ f.lo % 2 ^ f.width) := by
    rw [hfield u f hu hf]
    simp [FieldRow.admits, hl]
  have hhold (u : State) (hu : expertOpen u 9 = true) :
      writeField u m R.IMP_XCFG_FREEZE.addr v ⟨8, 8, .rwx, 64, [(1, 255)]⟩ = holdWritten u m v := by
    rw [hfield u _ hu rfl, holdWritten]
    by_cases hv : v / 256 % 256 = 0
    · simp [FieldRow.admits, hv]
    · have h1 : 1 ≤ v / 256 % 256 := by omega
      have h255 : v / 256 % 256 ≤ 255 := by omega
      simp [FieldRow.admits, hv, h1, h255]
  have hkeep (u : State) : expertOpen (holdWritten u m v) 9 = expertOpen u 9 :=
    expertOpen_congr (get_holdWritten_other u m v _ (.inl rfl)) 9
  have hlist : writeFields s m R.IMP_XCFG_FREEZE.addr v rowImpXcfg.fields =
      State.forEach [⟨34, 1, .rwx, 0, []⟩, ⟨8, 8, .rwx, 64, [(1, 255)]⟩, ⟨4, 4, .rwx, 2, []⟩, ⟨0, 4, .rwx, 2, []⟩,
        ⟨35, 1, .rwx, 0, []⟩] (fun f u => writeField u m R.IMP_XCFG_FREEZE.addr v f) s := rfl
  simp only [hlist, State.forEach, List.foldl_cons, List.foldl_nil]
  simp only [hall, hhold, expertOpen_override, hkeep, hx]
  rfl

section Written
variable (s : State) (m v : Nat)

theorem impXcfgWritten_freeze : (impXcfgWritten s m v).flag R.IMP_XCFG_FREEZE = v.testBit 35 := by
  refine (State.flag_set_same (f := R.IMP_XCFG_FREEZE) _ _ rfl (by decide)).trans ?_
  rw [Nat.testBit_mod_two_pow, Nat.testBit_div_two_pow]
  rfl

theorem impXcfgWritten_margin : (impXcfgWritten s m v).get R.IMP_XCFG_MARGIN = v % 16 := by
  unfold impXcfgWritten
  rw [State.get_override_other _ _ _ _ _ (by decide) (by decide)]
  refine (State.get_override_same _ _ _ _ (by decide)).trans ?_
  show v / 2 ^ 0 % 2 ^ 4 % 2 ^ 4 = v % 16
  omega

/-- The fields written after HOLD leave it, and every other register, alone. -/
theorem get_impXcfgWritten (g : Fld) (h : g.addr ≠ R.IMP_XCFG_FREEZE.addr ∨ g = R.IMP_XCFG_HOLD) :
    (impXcfgWritten s m v).get g =
      (holdWritten (s.override R.IMP_XCFG_FREEZE.addr ⟨34, 1, .rwx, 0, []⟩ (v / 2 ^ 34 % 2 ^ 1)) m v).get g := by
  unfold impXcfgWritten
  have hoff (u : State) (f : FieldRow) (n : Nat) (hf : f.lo + f.width ≤ 36)
      (hd : f.lo + f.width ≤ 8 ∨ 16 ≤ f.lo) : (u.override R.IMP_XCFG_FREEZE.addr f n).get g = u.get g := by
    refine State.get_override_other u _ f n g hf (h.imp_right fun e => ?_)
    rw [e]
    exact hd
  rw [hoff _ _ _ (by decide) (by decide), hoff _ _ _ (by decide) (by decide), hoff _ _ _ (by decide) (by decide)]

theorem impXcfgWritten_hold : (impXcfgWritten s m v).get R.IMP_XCFG_HOLD =
    if v / 256 % 256 = 0 then s.get R.IMP_XCFG_HOLD else v / 256 % 256 := by
  rw [get_impXcfgWritten _ _ _ _ (.inr rfl), holdWritten]
  split
  · rw [State.get_congr (State.reg_rsvd _ _ _ (by decide) (by decide)),
      State.get_override_other _ _ _ _ _ (by decide) (by decide)]
  · exact (State.get_override_same _ _ _ _ (by decide)).trans (Nat.mod_mod _ _)

theorem impXcfgWritten_rsvd (h : v / 256 % 256 = 0) : (impXcfgWritten s m v).flag R.SYS_ERR_RSVD = true := by
  rw [State.flag, get_impXcfgWritten _ _ _ _ (.inl (by decide)), holdWritten, if_pos h]
  exact State.rsvd_flag _ _ _

end Written

theorem registerWrite_impXcfg_closed {s : State} {m : Fin 18} {v : Word} (hpow : s.powered = true)
    (hx : expertOpen s 9 = false) :
    Runs (.registerWrite m (BitVec.ofNat 17 (R.IMP_XCFG_FREEZE.addr - 0xC00000)) v) s fun t => t.reg
      R.IMP_XCFG_FREEZE.addr = s.reg R.IMP_XCFG_FREEZE.addr ∧ t.flag R.SYS_XOPEN_XIGN = true ∧
    t.overridden = s.overridden ∧ t = { s with regs := t.regs, power := t.power } ∧ (∀ a, a ≠ R.SYS_XOPEN_XIGN.addr →
    t.reg a = s.reg a) := by
  obtain ⟨⟨hregs, hother⟩, hign⟩ := writeFields_closed m R.IMP_XCFG_FREEZE.addr v.toNat (fs := rowImpXcfg.fields)
    (by decide) (by decide) (s.usedBy m) ((expertOpen_usedBy s m 9).trans hx)
  have hframe := s.usedBy_frame m hregs
  have hkept (a : Nat) (ha : a ≠ R.SYS_XOPEN_XIGN.addr) := (hother a ha).trans (State.reg_usedBy s m a)
  exact runs_registerWrite _ hpow (by decide) (writeReg_impXcfg _ _ _) (by rw [hregs, State.pending_usedBy])
    ⟨hkept _ (by decide), hign, by rw [hregs, State.overridden_usedBy], hframe, hkept⟩

theorem registerWrite_impXcfg_open {s : State} {m : Fin 18} {v : Word} (hpow : s.powered = true)
    (hx : expertOpen s 9 = true) :
    Runs (.registerWrite m (BitVec.ofNat 17 (R.IMP_XCFG_FREEZE.addr - 0xC00000)) v) s fun t => t.flag
      R.IMP_XCFG_FREEZE = v.getLsbD 35 ∧ t.get R.IMP_XCFG_MARGIN = v.toNat % 16 ∧
    (t.get R.IMP_XCFG_HOLD = (if v.toNat / 256 % 256 = 0 then s.get R.IMP_XCFG_HOLD else v.toNat / 256 % 256)) ∧
    t.overridden.contains (R.IMP_XCFG_FREEZE.addr, 35) = true ∧ (v.toNat / 256 % 256 = 0 →
    t.flag R.SYS_ERR_RSVD = true) ∧ t = { s with regs := t.regs, overridden := t.overridden, power := t.power } := by
  have hwrite := writeFields_impXcfg_open m v.toNat ((expertOpen_usedBy s m 9).trans hx)
  have hfields := writeFields_fieldsOnly m R.IMP_XCFG_FREEZE.addr v.toNat rowImpXcfg.fields (s.usedBy m)
  rw [hwrite] at hfields
  refine runs_registerWrite _ hpow (by decide) ((writeReg_impXcfg _ _ _).trans hwrite)
    (by rw [hfields, State.pending_usedBy]) ⟨?_, impXcfgWritten_margin _ _ _, ?_,
      State.override_overridden R.IMP_XCFG_FREEZE.addr _ ⟨35, 1, .rwx, 0, []⟩ _, impXcfgWritten_rsvd _ _ _,
      State.usedBy_fields_frame m s hfields⟩
  · rw [impXcfgWritten_freeze, BitVec.testBit_toNat]
  · rw [impXcfgWritten_hold, State.get_usedBy]

end ImpXcfg

/-! ### FRC_PSYM, a register of a port (R104) -/

section Ports

/-- The row of FRC_PSYM. -/
def rowFrcPsym : RegRow := rowsFrc[7]'(by decide)

theorem regRow_frcPsym : ∀ p : Port, regRow (R.FRC_PSYM_SYM p).addr = some (rowFrcPsym, p.val, 0) := by decide

/-- A port's register is written by its own master only (R104). -/
theorem writeReg_foreign_port (s : State) (m a v : Nat) {r : RegRow} {i j : Nat} (hr : regRow a = some (r, i, j))
    (hport : r.port = true) (hm : masterPort m ≠ i) : writeReg s m a v = s.rsvd m a := by
  have ht : tileWake s a i r = s := if_pos hport
  simp only [writeReg, hr, ht, if_pos (And.intro hport hm)]

theorem writeReg_frcPsym (s : State) (m v : Nat) (p : Port) (hm : masterPort m = p.val) :
    writeReg s m (R.FRC_PSYM_SYM p).addr v =
      (s.set (R.FRC_PSYM_ELEM p) (v / 2 ^ 18 % 2 ^ 18)).set (R.FRC_PSYM_SYM p) (v / 2 ^ 0 % 2 ^ 18) := by
  have hw : ∀ p : Port, rowFrcPsym.writesFields (R.FRC_PSYM_SYM p).addr = true := by decide
  rw [writeReg_eq_writeFields s m _ v (regRow_frcPsym p) (hw p) (if_pos (by decide)) fun _ => hm]
  have hlist : writeFields s m (R.FRC_PSYM_SYM p).addr v rowFrcPsym.fields =
      State.forEach [⟨18, 18, .rw, 0, []⟩, ⟨0, 18, .rw, 0, []⟩]
        (fun f u => writeField u m (R.FRC_PSYM_SYM p).addr v f) s := rfl
  simp only [hlist, State.forEach, List.foldl_cons, List.foldl_nil]
  rw [writeField_rw s m _ v rfl (by decide) rfl, writeField_rw _ m _ v rfl (by decide) rfl]
  rfl

theorem frcPsym_range : ∀ p : Port, 0xC00000 ≤ (R.FRC_PSYM_SYM p).addr ∧ (R.FRC_PSYM_SYM p).addr < 0xC20000 := by
  decide

theorem registerWrite_frcPsym_own {s : State} {m : Fin 18} {p : Port} {v : Word} (hpow : s.powered = true)
    (hm : masterPort m = p.val) :
    Runs (.registerWrite m (BitVec.ofNat 17 ((R.FRC_PSYM_SYM p).addr - 0xC00000)) v) s fun t => t.get (R.FRC_PSYM_SYM
      p) = v.toNat % 2 ^ 18 ∧ t.get (R.FRC_PSYM_ELEM p) = v.toNat / 2 ^ 18 ∧
    t = { s with regs := t.regs, power := t.power } ∧ (∀ a, a ≠ (R.FRC_PSYM_SYM p).addr → t.reg a = s.reg a) := by
  refine runs_registerWrite _ hpow (frcPsym_range p) (writeReg_frcPsym _ _ _ p hm) (State.pending_usedBy s m)
    ⟨?_, ?_, s.usedBy_frame m rfl, fun a ha => ?_⟩
  · rw [State.get_set_same _ _ _ (by decide : 0 + 18 ≤ 36)]
    show v.toNat / 2 ^ 0 % 2 ^ 18 % 2 ^ 18 = _
    omega
  · rw [State.get_set_bits _ _ _ _ (by decide : 0 + 18 ≤ 36) (.inl (by decide : 0 + 18 ≤ 18)),
      State.get_set_same _ _ _ (by decide : 18 + 18 ≤ 36)]
    have hlt := v.isLt
    show v.toNat / 2 ^ 18 % 2 ^ 18 % 2 ^ 18 = _
    omega
  · rw [State.reg_set_other _ _ _ ha, State.reg_set_other _ (R.FRC_PSYM_ELEM p) _ ha, State.reg_usedBy]

theorem registerWrite_frcPsym_foreign {s : State} {m : Fin 18} {p : Port} {v : Word} (hpow : s.powered = true)
    (hm : masterPort m ≠ p.val) :
    Runs (.registerWrite m (BitVec.ofNat 17 ((R.FRC_PSYM_SYM p).addr - 0xC00000)) v) s fun t =>
      t = (s.usedBy m).rsvd m (R.FRC_PSYM_SYM p).addr :=
  runs_registerWrite _ hpow (frcPsym_range p) (writeReg_foreign_port _ _ _ _ (regRow_frcPsym p) (by decide) hm)
    (State.pending_usedBy s m) rfl

end Ports

/-! ### A pending command, an unnamed word, and SYS_STATE -/

section Others

/-- A write to a command register while its command is pending is refused, but for a CANCEL (R612). -/
theorem writeCommand_pending (s : State) (m a p v : Nat) (r : RegRow) (hp : bitsOf (s.reg a) 8 4 = 1)
    (hc : ((a == R.FOL_CMD_CODE.addr && v % 16 == 2) || (a == R.UPD_CMD_CODE.addr && v % 16 == 6)) = false) :
    writeCommand s m a p v r = s.rsvd m a := by
  unfold writeCommand
  simp only [hp, hc, Bool.false_eq_true, if_true, if_false, ite_self]

theorem registerWrite_folCmd_pending {s : State} {m : Fin 18} {v : Word} (hpow : s.powered = true)
    (hp : s.get R.FOL_CMD_STATUS = 1) (hv : v.toNat % 16 ≠ 2) :
    Runs (.registerWrite m (BitVec.ofNat 17 (R.FOL_CMD_CODE.addr - 0xC00000)) v) s fun t =>
      t = (s.usedBy m).rsvd m R.FOL_CMD_CODE.addr := by
  have hr : regRow R.FOL_CMD_CODE.addr = some (rowsFol[1]'(by decide), 0, 0) := by decide
  have hwrite : writeReg (s.usedBy m) m R.FOL_CMD_CODE.addr v.toNat =
      writeCommand (s.usedBy m) m R.FOL_CMD_CODE.addr 0 v.toNat (rowsFol[1]'(by decide)) := by
    simp only [writeReg, hr]
    rfl
  refine runs_registerWrite _ hpow (by decide) (hwrite.trans (writeCommand_pending _ _ _ _ _ _ ?_ ?_))
    (State.pending_usedBy s m) rfl
  · exact (State.get_usedBy s m R.FOL_CMD_STATUS).trans hp
  · have hne : (R.FOL_CMD_CODE.addr == R.UPD_CMD_CODE.addr) = false := by decide
    simp [hv, hne]

theorem registerWrite_unnamed {s : State} {m : Fin 18} {a : BitVec 17} {v : Word} (hpow : s.powered = true)
    (hr : regRow (0xC00000 + a.toNat) = none) : Runs (.registerWrite m a v) s fun t => t = s.usedBy m := by
  apply runs_registerWrite_answer hpow
  simp only [writeReg, hr]
  rw [← State.pending_usedBy s m]

theorem registerWrite_sysState {s : State} {m : Fin 18} {v : Word} (hpow : s.powered = true) :
    Runs (.registerWrite m (BitVec.ofNat 17 (R.SYS_STATE_STATE.addr - 0xC00000)) v) s fun t => t = s.usedBy m := by
  have hr : regRow R.SYS_STATE_STATE.addr = some (rowsSys[0]'(by decide), 0, 0) := by decide
  refine runs_registerWrite _ hpow (by decide) ((writeReg_eq_writeFields _ _ _ _ hr (by decide) rfl ?_).trans ?_)
    (State.pending_usedBy s m) rfl
  · exact fun h => absurd h (by decide)
  · rfl

end Others

/-- Settles O53, clause by clause: what the written register's row makes of each field (`writeField_ro`, `writeField_w1c`
and the like), between the use by the master and the effects of the register. -/
theorem registerWrites : Obligations.RegisterWrites :=
  ⟨fun _ _ _ _ hpow hr => registerWrite_unnamed hpow hr,
   fun s m v hpow => registerWrite_clkStat s m v hpow,
   fun s m v hpow => registerWrite_spnEvt s m v hpow,
   fun s m v hpow => registerWrite_pciVmask s m v hpow,
   fun _ _ _ hpow hi hl => registerWrite_pfcfg_locked hpow hi hl,
   fun _ _ _ hpow hi hl hv => registerWrite_pfcfg_unlocked hpow hi hl hv,
   fun _ _ _ hpow hi hl hv => registerWrite_pfcfg_reserved hpow hi hl hv,
   fun _ _ _ hrun hstep hres hl hsrc => registerWrite_pfcfg_begins hrun hstep hres hl hsrc,
   fun _ _ _ hpow hx => registerWrite_impXcfg_closed hpow hx,
   fun _ _ _ hpow hx => registerWrite_impXcfg_open hpow hx,
   fun _ _ _ _ hpow hm => registerWrite_frcPsym_own hpow hm,
   fun _ _ _ _ hpow hm => registerWrite_frcPsym_foreign hpow hm,
   fun _ _ _ hpow hp hv => registerWrite_folCmd_pending hpow hp hv,
   fun _ _ _ hpow => registerWrite_sysState hpow⟩

end Sys2Proof.Machine

/-!
How a command completes, and SYS_CMD while a command of it is pending (R30, R612).
-/
namespace Sys2Proof.Machine

/-! ### How a command completes -/

section Answers
variable {s : State} {c : Instr} {P : State → Prop}

/-- A command that answers a state completes in it, with the queue as it was. -/
theorem runs_of_answer {t : State} (h : exec c s = s.answer t) (hP : P { t with pending := s.pending }) : Runs c s P :=
  ⟨_, h, hP⟩

/-- A command that answers a state whose queue is as it was completes in it. -/
theorem runs_of_answer_eq {t : State} (h : exec c s = s.answer t) (hq : t.pending = s.pending) (hP : P t) :
    Runs c s P := by
  refine runs_of_answer h ?_
  rw [← hq]
  exact hP

/-- A command that a master gives completes, under power, in what it makes of the state that the master uses. -/
theorem runs_of_serve {m : Nat} {f : State → State} (h : exec c s = s.serve m f) (hpow : s.powered = true)
    (hP : P { f (s.usedBy m) with pending := s.pending }) : Runs c s P :=
  runs_of_answer (t := f (s.usedBy m)) (by rw [h, State.serve, if_pos hpow]) hP

theorem runs_of_serve_eq {m : Nat} {f : State → State} (h : exec c s = s.serve m f) (hpow : s.powered = true)
    (hq : (f (s.usedBy m)).pending = s.pending) (hP : P (f (s.usedBy m))) : Runs c s P :=
  runs_of_answer_eq (t := f (s.usedBy m)) (by rw [h, State.serve, if_pos hpow]) hq hP

end Answers

/-! ### SYS_CMD (R30) -/

section SysCmd
variable {s : State} {m : Fin 18}

/-- A code written to SYS_CMD while STATUS reads pending is refused (R30, R612). -/
theorem sysCommand_pending (s : State) (m code : Nat) (run : State → State) (h : s.get R.SYS_CMD_STATUS = 1) :
    sysCommand s m code run = s.rsvd m R.SYS_CMD_CODE.addr := if_pos h

/-- Any other code starts its operation, with CODE and STATUS set. -/
theorem sysCommand_starts (s : State) (m code : Nat) (run : State → State) (h : s.get R.SYS_CMD_STATUS ≠ 1) :
    sysCommand s m code run = run ((s.set R.SYS_CMD_CODE code).set R.SYS_CMD_STATUS 1) := if_neg h

/-- A command of SYS_CMD that is given while one is pending only sets SYS_ERR.RSVD and SYS_ERRADR. -/
theorem runs_sysCommand_pending {c : Instr} {code : Nat} {run : State → State}
    (h : exec c s = s.serve m fun u => sysCommand u m code run) (hpow : s.powered = true)
    (hst : s.get R.SYS_CMD_STATUS = 1) : Runs c s fun t => t = (s.usedBy m).rsvd m R.SYS_CMD_CODE.addr := by
  have hrun := sysCommand_pending (s.usedBy m) m code run (by rw [State.get_usedBy, hst])
  refine runs_of_serve_eq h hpow ?_ hrun
  rw [hrun]
  exact State.pending_usedBy s m

/-- Setting the operand's address of a sealed command leaves what does not show it. -/
theorem sealAt_eq (s : State) (o : Option (BitVec 16)) : ∃ ρ, sealAt s o = { s with regs := ρ } ∧
    ∀ a, a ≠ R.COL_SBADR_OFS.addr → ρ.rd a = s.reg a := by
  cases o with
  | none => exact ⟨s.regs, rfl, fun _ _ => rfl⟩
  | some n => exact ⟨_, rfl, fun _ ha => State.reg_set_other s R.COL_SBADR_OFS n.toNat ha⟩

theorem get_sealAt (s : State) (o : Option (BitVec 16)) (f : Fld) (h : f.addr ≠ R.COL_SBADR_OFS.addr) :
    (sealAt s o).get f = s.get f := by
  obtain ⟨ρ, e, hρ⟩ := sealAt_eq s o
  rw [e]
  exact State.get_congr (hρ f.addr h)

theorem pending_sealAt (s : State) (o : Option (BitVec 16)) : (sealAt s o).pending = s.pending := by
  obtain ⟨ρ, e, -⟩ := sealAt_eq s o
  rw [e]

theorem runs_leaveSafe_pending (o : Option (BitVec 16)) (hpow : s.powered = true) (hst : s.get R.SYS_CMD_STATUS = 1) :
    Runs (.leaveSafe m o) s fun t => t = (sealAt (s.usedBy m) o).rsvd m R.SYS_CMD_CODE.addr := by
  have hrun : leaveSafe (sealAt (s.usedBy m) o) m = (sealAt (s.usedBy m) o).rsvd m R.SYS_CMD_CODE.addr :=
    sysCommand_pending _ _ _ _ (by rw [get_sealAt _ _ _ (by decide), State.get_usedBy, hst])
  refine runs_of_serve_eq (f := fun u => leaveSafe (sealAt u o) m) rfl hpow ?_ hrun
  rw [hrun]
  exact (pending_sealAt _ o).trans (State.pending_usedBy s m)

/-- The row of SYS_CMD. -/
def rowSysCmd : RegRow := rowsSys[1]'(by decide)

theorem writeReg_sysCmd (s : State) (m v : Nat) :
    writeReg s m R.SYS_CMD_CODE.addr v = writeCommand s m R.SYS_CMD_CODE.addr 0 v rowSysCmd := by
  have hr : regRow R.SYS_CMD_CODE.addr = some (rowSysCmd, 0, 0) := by decide
  simp only [writeReg, hr]
  rfl

theorem registerWrite_sysCmd_pending {v : Word} (hpow : s.powered = true) (hst : s.get R.SYS_CMD_STATUS = 1) :
    Runs (.registerWrite m (BitVec.ofNat 17 (R.SYS_CMD_CODE.addr - 0xC00000)) v) s fun t =>
      t = (s.usedBy m).rsvd m R.SYS_CMD_CODE.addr := by
  have hne : (R.SYS_CMD_CODE.addr == R.FOL_CMD_CODE.addr) = false ∧
      (R.SYS_CMD_CODE.addr == R.UPD_CMD_CODE.addr) = false := by decide
  refine runs_registerWrite _ hpow (by decide) ((writeReg_sysCmd _ _ _).trans (writeCommand_pending _ _ _ _ _ _ ?_ ?_))
    (State.pending_usedBy s m) rfl
  · exact (State.get_usedBy s m R.SYS_CMD_STATUS).trans hst
  · rw [hne.1, hne.2]
    rfl

/-- A reserved code written to SYS_CMD is kept from CODE (R7). -/
theorem writeReg_sysCmd_reserved (s : State) (m v : Nat) (hst : s.get R.SYS_CMD_STATUS ≠ 1) (hv : 7 ≤ v % 16) :
    writeReg s m R.SYS_CMD_CODE.addr v = s.rsvd m R.SYS_CMD_CODE.addr := by
  have hadm : (⟨0, 4, .rw, 0, [(0, 6)]⟩ : FieldRow).admits (v % 16) = false := by
    simp only [FieldRow.admits, List.isEmpty_cons, List.any_cons, List.any_nil, Bool.false_or, Bool.or_false]
    simp only [Bool.and_eq_false_iff, decide_eq_false_iff_not]
    omega
  have hall : (rowSysCmd.fields.all fun f => f.lo != 0 || f.admits (v % 16)) = false := by
    show ((true && ((false || (⟨0, 4, .rw, 0, [(0, 6)]⟩ : FieldRow).admits (v % 16)) && true))) = false
    rw [hadm]
    rfl
  have hfields : writeFields s m R.SYS_CMD_CODE.addr v rowSysCmd.fields = s.rsvd m R.SYS_CMD_CODE.addr := by
    show writeField (writeField s m R.SYS_CMD_CODE.addr v ⟨8, 4, .ro, 0, []⟩) m R.SYS_CMD_CODE.addr v
      ⟨0, 4, .rw, 0, [(0, 6)]⟩ = _
    rw [writeField_ro s m _ v rfl]
    have hval : v / 2 ^ 0 % 2 ^ 4 = v % 16 := by omega
    simp only [writeField, hval, hadm]
    simp [R.SYS_CMD_CODE, R.PWR_PFCFG_LOCK, R.RET_CFG_LOCK]
  have hbits : bitsOf (s.reg R.SYS_CMD_CODE.addr) 8 4 ≠ 1 := hst
  have hgop : ¬ (R.SYS_CMD_CODE.addr = R.SPN_GOP_CODE.addr ∧ masterPort m ≠ 8 ∧ m ≠ 9) :=
    fun h => absurd h.1 (by decide)
  rw [writeReg_sysCmd]
  simp only [writeCommand, if_neg hgop, if_neg hbits, hall, Bool.not_false, or_true, if_true, hfields]

theorem registerWrite_sysCmd_reserved {v : Word} (hpow : s.powered = true) (hst : s.get R.SYS_CMD_STATUS ≠ 1)
    (hv : 7 ≤ v.toNat % 16) :
    Runs (.registerWrite m (BitVec.ofNat 17 (R.SYS_CMD_CODE.addr - 0xC00000)) v) s fun t => t.get R.SYS_CMD_CODE =
      s.get R.SYS_CMD_CODE ∧ t.get R.SYS_CMD_STATUS = s.get R.SYS_CMD_STATUS ∧ t.flag R.SYS_ERR_RSVD = true ∧
    t.dev = s.dev ∧ t = { s with regs := t.regs, power := t.power } := by
  have hwrite := writeReg_sysCmd_reserved (s.usedBy m) m v.toNat (by rwa [State.get_usedBy]) hv
  have hreg : ((s.usedBy m).rsvd m R.SYS_CMD_CODE.addr).reg R.SYS_CMD_CODE.addr = s.reg R.SYS_CMD_CODE.addr :=
    (State.reg_rsvd _ _ _ (by decide) (by decide)).trans (State.reg_usedBy s m _)
  exact runs_registerWrite _ hpow (by decide) hwrite (State.pending_usedBy s m)
    ⟨State.get_congr (f := R.SYS_CMD_CODE) hreg, State.get_congr (f := R.SYS_CMD_STATUS) hreg,
      State.rsvd_flag _ _ _, State.dev_usedBy s m, s.usedBy_frame m rfl⟩

end SysCmd

/-- Settles O57: a code written while one is pending comes to `State.rsvd` before its operation is looked at, and a
reserved code is kept from the field. -/
theorem pendingSysCommand : Obligations.PendingSysCommand :=
  ⟨fun _ _ _ hpow hst => registerWrite_sysCmd_pending hpow hst,
   fun _ _ _ hpow hst hv => registerWrite_sysCmd_reserved hpow hst hv,
   fun _ _ hpow hst => runs_sysCommand_pending rfl hpow hst,
   fun _ _ hpow hst => runs_sysCommand_pending rfl hpow hst,
   fun _ _ hpow hst => runs_sysCommand_pending rfl hpow hst,
   fun _ _ hpow hst => runs_sysCommand_pending rfl hpow hst,
   fun _ _ hpow hst => runs_sysCommand_pending rfl hpow hst,
   fun _ _ o hpow hst => runs_leaveSafe_pending o hpow hst⟩

end Sys2Proof.Machine

/-!
What an operation of the model may change: a `Touch` names parts of the state and bits of registers, and `Within T s t`
says that `t` differs from `s` in nothing else. One lemma per operation gives its touch; frames, and reads of what lies
outside, follow from it.
-/
namespace Sys2Proof.Machine

/-! ### Parts of the state, and bits of registers -/

/-- The parts of the state beside the registers; `startAt` is a part of `cycle`. -/
inductive Part where
  | pending | dev | mem | poison | overridden | unlock | free | power | folio | handles
  | cycle | startAt | fabric | cores | imposer | forces | forceCmds | olc | time | calendar | watchdog | retain | keeper
  | records | field | meter | can | net | mirror | host | dbg | upd | spine | twin | house | ids
  deriving DecidableEq

/-- A part is as it was. -/
def Part.Kept (s t : State) : Part → Prop
  | .pending => t.pending = s.pending
  | .dev => t.dev = s.dev
  | .mem => t.mem = s.mem
  | .poison => t.poison = s.poison
  | .overridden => t.overridden = s.overridden
  | .unlock => t.unlock = s.unlock
  | .free => t.free = s.free
  | .power => t.power = s.power
  | .folio => t.folio = s.folio
  | .handles => t.handles = s.handles
  | .cycle => t.cycle = s.cycle
  | .startAt => t.cycle.startAt = s.cycle.startAt
  | .fabric => t.fabric = s.fabric
  | .cores => t.cores = s.cores
  | .imposer => t.imposer = s.imposer
  | .forces => t.forces = s.forces
  | .forceCmds => t.forceCmds = s.forceCmds
  | .olc => t.olc = s.olc
  | .time => t.time = s.time
  | .calendar => t.calendar = s.calendar
  | .watchdog => t.watchdog = s.watchdog
  | .retain => t.retain = s.retain
  | .keeper => t.keeper = s.keeper
  | .records => t.records = s.records
  | .field => t.field = s.field
  | .meter => t.meter = s.meter
  | .can => t.can = s.can
  | .net => t.net = s.net
  | .mirror => t.mirror = s.mirror
  | .host => t.host = s.host
  | .dbg => t.dbg = s.dbg
  | .upd => t.upd = s.upd
  | .spine => t.spine = s.spine
  | .twin => t.twin = s.twin
  | .house => t.house = s.house
  | .ids => t.ids = s.ids

theorem Part.Kept.refl (s : State) (c : Part) : c.Kept s s := by cases c <;> rfl

theorem Part.Kept.symm {s t : State} {c : Part} (h : c.Kept s t) : c.Kept t s := by cases c <;> exact Eq.symm h

theorem Part.Kept.trans {s t u : State} {c : Part} (h : c.Kept s t) (k : c.Kept t u) : c.Kept s u := by
  cases c <;> exact Eq.trans k h

theorem State.eq_of_kept {s t : State} (hr : t.regs = s.regs) (h : ∀ c : Part, c.Kept s t) : t = s := by
  obtain ⟨⟩ := s
  obtain ⟨⟩ := t
  exact (State.mk.injEq ..).mpr ⟨h .pending, h .dev, hr, h .mem, h .poison, h .overridden, h .unlock, h .free, h .power,
    h .folio, h .handles, h .cycle, h .fabric, h .cores, h .imposer, h .forces, h .forceCmds, h .olc, h .time,
    h .calendar, h .watchdog, h .retain, h .keeper, h .records, h .field, h .meter, h .can, h .net, h .mirror, h .host,
    h .dbg, h .upd, h .spine, h .twin, h .house, h .ids⟩

/-- Bits of the registers `base`, `base + stride`, … : so many of them, or all. -/
structure Span where
  base : Nat
  stride : Nat
  count : Option Nat
  lo : Nat
  width : Nat

/-- A span holds the bit `j` of a register. -/
def Span.hits (p : Span) (a j : Nat) : Bool :=
  decide (p.base ≤ a) && (a - p.base) % p.stride == 0 && p.count.all (fun n => decide (a < p.base + p.stride * n)) &&
    decide (p.lo ≤ j) && decide (j < p.lo + p.width)

/-- A span holds every bit of another. -/
def Span.covers (p q : Span) : Bool :=
  decide (p.base ≤ q.base) && (q.base - p.base) % p.stride == 0 && q.stride % p.stride == 0 &&
    p.count.all (fun n => q.count.any fun m => decide (q.base + q.stride * m ≤ p.base + p.stride * n)) &&
    decide (p.lo ≤ q.lo) && decide (q.lo + q.width ≤ p.lo + p.width)

theorem Span.hits_of_covers {p q : Span} (h : p.covers q = true) {a j : Nat} (hq : q.hits a j = true) :
    p.hits a j = true := by
  simp only [Span.covers, Span.hits, Bool.and_eq_true, decide_eq_true_eq, beq_iff_eq] at h hq ⊢
  obtain ⟨⟨⟨⟨⟨hb, hm⟩, hs⟩, hn⟩, hlo⟩, hhi⟩ := h
  obtain ⟨⟨⟨⟨qb, qm⟩, qn⟩, qlo⟩, qhi⟩ := hq
  refine ⟨⟨⟨⟨by omega, ?_⟩, ?_⟩, by omega⟩, by omega⟩
  · have e : a - p.base = (a - q.base) + (q.base - p.base) := by omega
    have d1 : p.stride ∣ a - q.base := (Nat.dvd_of_mod_eq_zero hs).trans (Nat.dvd_of_mod_eq_zero qm)
    rw [e]
    exact Nat.mod_eq_zero_of_dvd (d1.add (Nat.dvd_of_mod_eq_zero hm))
  · cases hp : p.count with
    | none => rfl
    | some n =>
      rw [hp, Option.all_some] at hn
      cases hc : q.count with
      | none => simp [hc] at hn
      | some m =>
        simp only [hc, Option.any_some, decide_eq_true_eq] at hn
        simp only [hc, Option.all_some, decide_eq_true_eq] at qn ⊢
        omega

/-- The bits of a field. -/
def Span.field (f : Fld) : Span := ⟨f.addr, 1, some 1, f.lo, f.width⟩

/-- A whole register. -/
def Span.word (a : Nat) : Span := ⟨a, 1, some 1, 0, 36⟩

/-- The bits of a field that an array of registers has, for the first `n` of them. -/
def Span.upTo (f : Nat → Fld) (n : Nat) : Span := ⟨(f 0).addr, (f 1).addr - (f 0).addr, some n, (f 0).lo, (f 0).width⟩

/-- The bits of a field that an array of registers has, for every index that an operand or a state could name. -/
def Span.all (f : Nat → Fld) : Span := ⟨(f 0).addr, (f 1).addr - (f 0).addr, none, (f 0).lo, (f 0).width⟩

/-- The fields of an array lie at equal distances. -/
def Even (f : Nat → Fld) : Prop := (f 0).addr < (f 1).addr ∧
  ∀ i, (f i).addr = (f 0).addr + ((f 1).addr - (f 0).addr) * i ∧ (f i).lo = (f 0).lo ∧ (f i).width = (f 0).width

/-! ### Loops -/

/-- What holds before a loop and is kept by its body holds after it. -/
theorem forEach_induction {α : Type} {P : State → Prop} {f : α → State → State} {xs : List α} {s : State} (h : P s)
    (hf : ∀ x ∈ xs, ∀ u, P u → P (f x u)) : P (State.forEach xs f s) := by
  induction xs generalizing s with
  | nil => exact h
  | cons x xs ih => exact ih (hf x List.mem_cons_self s h) fun y hy => hf y (List.mem_cons_of_mem _ hy)

/-! ### Touches -/

/-- Parts of the state and bits of registers. -/
structure Touch where
  parts : List Part
  bits : List Span

/-- The one touch or the other. -/
def Touch.or (T U : Touch) : Touch := ⟨T.parts ++ U.parts, T.bits ++ U.bits⟩

/-- A touch holds a part. -/
def Touch.has (T : Touch) (c : Part) : Bool := T.parts.any fun d => d.ctorIdx == c.ctorIdx

/-- A touch holds a bit of a register. -/
def Touch.hits (T : Touch) (a j : Nat) : Bool := T.bits.any (·.hits a j)

/-- A touch holds all that another does. -/
def Touch.covers (T U : Touch) : Bool :=
  U.parts.all T.has && U.bits.all fun q => T.bits.any (·.covers q)

/-- A field lies outside a touch. -/
def Touch.spares (T : Touch) (f : Fld) : Bool := (List.range f.width).all fun i => !T.hits f.addr (f.lo + i)

/-- A register lies outside a touch. -/
def Touch.sparesReg (T : Touch) (a : Nat) : Bool := (List.range 36).all fun j => !T.hits a j

theorem Touch.hits_mono {T U : Touch} (h : T.covers U = true) {a j : Nat} (k : T.hits a j = false) :
    U.hits a j = false := by
  simp only [Touch.covers, Bool.and_eq_true, List.all_eq_true, List.any_eq_true] at h
  simp only [Touch.hits, List.any_eq_false] at k ⊢
  intro q hq hhit
  obtain ⟨p, hp, hc⟩ := h.2 q hq
  exact k p hp (Span.hits_of_covers hc hhit)

theorem Touch.has_mono {T U : Touch} (h : T.covers U = true) {c : Part} (k : T.has c = false) : U.has c = false := by
  simp only [Touch.covers, Bool.and_eq_true, List.all_eq_true] at h
  simp only [Touch.has, List.any_eq_false, beq_iff_eq] at k ⊢
  intro d hd e
  obtain ⟨d', hd', e'⟩ := List.any_eq_true.mp (h.1 d hd)
  exact k d' hd' ((beq_iff_eq.mp e').trans e)

theorem Span.covers_trans {p q r : Span} (h : p.covers q = true) (k : q.covers r = true) : p.covers r = true := by
  simp only [Span.covers, Bool.and_eq_true, decide_eq_true_eq, beq_iff_eq] at h k ⊢
  obtain ⟨⟨⟨⟨⟨hb, hm⟩, hs⟩, hn⟩, hlo⟩, hhi⟩ := h
  obtain ⟨⟨⟨⟨⟨kb, km⟩, ks⟩, kn⟩, klo⟩, khi⟩ := k
  have hs' := Nat.dvd_of_mod_eq_zero hs
  have e : r.base - p.base = (r.base - q.base) + (q.base - p.base) := by omega
  refine ⟨⟨⟨⟨⟨by omega, ?_⟩, ?_⟩, ?_⟩, by omega⟩, by omega⟩
  · rw [e]
    exact Nat.mod_eq_zero_of_dvd ((hs'.trans (Nat.dvd_of_mod_eq_zero km)).add (Nat.dvd_of_mod_eq_zero hm))
  · exact Nat.mod_eq_zero_of_dvd (hs'.trans (Nat.dvd_of_mod_eq_zero ks))
  · cases hp : p.count with
    | none => rfl
    | some n =>
      cases hq : q.count with
      | none => simp [hp, hq] at hn
      | some m =>
        cases hr : r.count with
        | none => simp [hq, hr] at kn
        | some l =>
          simp only [hp, hq, hr, Option.all_some, Option.any_some, decide_eq_true_eq] at hn kn ⊢
          omega

theorem Touch.covers_trans {T U V : Touch} (h : T.covers U = true) (k : U.covers V = true) : T.covers V = true := by
  simp only [Touch.covers, Bool.and_eq_true, List.all_eq_true, List.any_eq_true] at h k ⊢
  refine ⟨fun c hc => ?_, fun r hr => ?_⟩
  · obtain ⟨d, hd, e⟩ := List.any_eq_true.mp (k.1 c hc)
    obtain ⟨d', hd', e'⟩ := List.any_eq_true.mp (h.1 d hd)
    exact List.any_eq_true.mpr ⟨d', hd', by rw [beq_iff_eq] at e e' ⊢; exact e'.trans e⟩
  · obtain ⟨q, hq, e⟩ := k.2 r hr
    obtain ⟨p, hp, e'⟩ := h.2 q hq
    exact ⟨p, hp, Span.covers_trans e' e⟩

/-- `t` differs from `s` within a touch only. -/
def Within (T : Touch) (s t : State) : Prop :=
  (∀ c, T.has c = false → c.Kept s t) ∧ ∀ a j, T.hits a j = false → (t.reg a).getLsbD j = (s.reg a).getLsbD j

/-- The state `s` with the parts of a touch as `t` has them. -/
def Touch.patch (T : Touch) (s t : State) : State where
  regs := s.regs
  pending := bif T.has .pending then t.pending else s.pending
  dev := bif T.has .dev then t.dev else s.dev
  mem := bif T.has .mem then t.mem else s.mem
  poison := bif T.has .poison then t.poison else s.poison
  overridden := bif T.has .overridden then t.overridden else s.overridden
  unlock := bif T.has .unlock then t.unlock else s.unlock
  free := bif T.has .free then t.free else s.free
  power := bif T.has .power then t.power else s.power
  handles := bif T.has .handles then t.handles else s.handles
  fabric := bif T.has .fabric then t.fabric else s.fabric
  cores := bif T.has .cores then t.cores else s.cores
  imposer := bif T.has .imposer then t.imposer else s.imposer
  forces := bif T.has .forces then t.forces else s.forces
  forceCmds := bif T.has .forceCmds then t.forceCmds else s.forceCmds
  olc := bif T.has .olc then t.olc else s.olc
  time := bif T.has .time then t.time else s.time
  calendar := bif T.has .calendar then t.calendar else s.calendar
  watchdog := bif T.has .watchdog then t.watchdog else s.watchdog
  retain := bif T.has .retain then t.retain else s.retain
  keeper := bif T.has .keeper then t.keeper else s.keeper
  records := bif T.has .records then t.records else s.records
  field := bif T.has .field then t.field else s.field
  meter := bif T.has .meter then t.meter else s.meter
  can := bif T.has .can then t.can else s.can
  net := bif T.has .net then t.net else s.net
  mirror := bif T.has .mirror then t.mirror else s.mirror
  host := bif T.has .host then t.host else s.host
  dbg := bif T.has .dbg then t.dbg else s.dbg
  upd := bif T.has .upd then t.upd else s.upd
  spine := bif T.has .spine then t.spine else s.spine
  twin := bif T.has .twin then t.twin else s.twin
  house := bif T.has .house then t.house else s.house
  ids := bif T.has .ids then t.ids else s.ids
  folio := bif T.has .folio then t.folio else s.folio
  cycle :=
    { (bif T.has .cycle then t.cycle else s.cycle) with
      startAt := bif T.has .cycle && T.has .startAt then t.cycle.startAt else s.cycle.startAt }

section Within
variable {T U : Touch} {s t u : State}

@[simp] theorem Within.refl (T : Touch) (s : State) : Within T s s := ⟨fun c _ => .refl s c, fun _ _ _ => rfl⟩

theorem Within.symm (h : Within T s t) : Within T t s :=
  ⟨fun c hc => (h.1 c hc).symm, fun a j hj => (h.2 a j hj).symm⟩

theorem Within.trans (h : Within T s t) (k : Within T t u) : Within T s u :=
  ⟨fun c hc => (h.1 c hc).trans (k.1 c hc), fun a j hj => (k.2 a j hj).trans (h.2 a j hj)⟩

theorem Within.mono (h : Within U s t) (hT : T.covers U = true) : Within T s t :=
  ⟨fun c hc => h.1 c (Touch.has_mono hT hc), fun a j hj => h.2 a j (Touch.hits_mono hT hj)⟩

/-- A step within the touch does not matter to what came before it. -/
theorem within_step (k : Within T t u) : Within T s u ↔ Within T s t := ⟨fun h => h.trans k.symm, fun h => h.trans k⟩

/-- An operation whose touch lies within another's does not matter there: the form of the lemmas on operations. -/
theorem within_op (hT : T.covers U = true) (k : Within U t u) : Within T s u ↔ Within T s t := within_step (k.mono hT)

/-! ### Changes of parts -/

/-- A change of parts and of no register. -/
theorem Within.parts (e : u = T.patch t u) : Within T t u := by
  refine ⟨fun c hc => ?_, fun a j _ => by rw [State.reg, e]; rfl⟩
  rw [e]
  cases c <;> simp [Part.Kept, Touch.patch, hc]

theorem Touch.covers_part {c : Part} (hT : T.has c = true) : T.covers ⟨[c], []⟩ = true := by simp [Touch.covers, hT]

@[simp ↓] theorem within_dev {q : Dev} (hT : T.has .dev = true) :
    Within T s { t with dev := q } ↔ Within T s t := within_op (U := ⟨[.dev], []⟩) (Touch.covers_part hT) (.parts rfl)
@[simp ↓] theorem within_mem {q : WMap} (hT : T.has .mem = true) :
    Within T s { t with mem := q } ↔ Within T s t := within_op (U := ⟨[.mem], []⟩) (Touch.covers_part hT) (.parts rfl)
@[simp ↓] theorem within_free {q : Nat} (hT : T.has .free = true) :
    Within T s { t with free := q } ↔ Within T s t := within_op (U := ⟨[.free], []⟩) (Touch.covers_part hT) (.parts rfl)
@[simp ↓] theorem within_power {q : PowerSt} (hT : T.has .power = true) :
    Within T s { t with power := q } ↔ Within T s t := within_op (U := ⟨[.power], []⟩) (Touch.covers_part hT) (.parts rfl)
@[simp ↓] theorem within_folio {q : FolioSt} (hT : T.has .folio = true) :
    Within T s { t with folio := q } ↔ Within T s t := within_op (U := ⟨[.folio], []⟩) (Touch.covers_part hT) (.parts rfl)
@[simp ↓] theorem within_handles {q : HandleSt} (hT : T.has .handles = true) :
    Within T s { t with handles := q } ↔ Within T s t := within_op (U := ⟨[.handles], []⟩) (Touch.covers_part hT) (.parts rfl)
@[simp ↓] theorem within_cycle {q : CycleSt} (hT : (T.has .cycle && T.has .startAt) = true) :
    Within T s { t with cycle := q } ↔ Within T s t :=
  within_op (U := ⟨[.cycle, .startAt], []⟩) (by simpa [Touch.covers] using hT) (.parts rfl)
@[simp ↓] theorem within_fabric {q : FabricSt} (hT : T.has .fabric = true) :
    Within T s { t with fabric := q } ↔ Within T s t := within_op (U := ⟨[.fabric], []⟩) (Touch.covers_part hT) (.parts rfl)
@[simp ↓] theorem within_cores {q : Vector Core 8} (hT : T.has .cores = true) :
    Within T s { t with cores := q } ↔ Within T s t := within_op (U := ⟨[.cores], []⟩) (Touch.covers_part hT) (.parts rfl)
@[simp ↓] theorem within_imposer {q : ImposerSt} (hT : T.has .imposer = true) :
    Within T s { t with imposer := q } ↔ Within T s t := within_op (U := ⟨[.imposer], []⟩) (Touch.covers_part hT) (.parts rfl)
@[simp ↓] theorem within_forces {q : List Force} (hT : T.has .forces = true) :
    Within T s { t with forces := q } ↔ Within T s t := within_op (U := ⟨[.forces], []⟩) (Touch.covers_part hT) (.parts rfl)
@[simp ↓] theorem within_forceCmds {q : List ForceCmd} (hT : T.has .forceCmds = true) :
    Within T s { t with forceCmds := q } ↔ Within T s t := within_op (U := ⟨[.forceCmds], []⟩) (Touch.covers_part hT) (.parts rfl)
@[simp ↓] theorem within_olc {q : OlcSt} (hT : T.has .olc = true) :
    Within T s { t with olc := q } ↔ Within T s t := within_op (U := ⟨[.olc], []⟩) (Touch.covers_part hT) (.parts rfl)
@[simp ↓] theorem within_time {q : TimeSt} (hT : T.has .time = true) :
    Within T s { t with time := q } ↔ Within T s t := within_op (U := ⟨[.time], []⟩) (Touch.covers_part hT) (.parts rfl)
@[simp ↓] theorem within_watchdog {q : WatchdogSt} (hT : T.has .watchdog = true) :
    Within T s { t with watchdog := q } ↔ Within T s t := within_op (U := ⟨[.watchdog], []⟩) (Touch.covers_part hT) (.parts rfl)
@[simp ↓] theorem within_retain {q : RetainSt} (hT : T.has .retain = true) :
    Within T s { t with retain := q } ↔ Within T s t := within_op (U := ⟨[.retain], []⟩) (Touch.covers_part hT) (.parts rfl)
@[simp ↓] theorem within_keeper {q : KeeperSt} (hT : T.has .keeper = true) :
    Within T s { t with keeper := q } ↔ Within T s t := within_op (U := ⟨[.keeper], []⟩) (Touch.covers_part hT) (.parts rfl)
@[simp ↓] theorem within_records {q : RecordSt} (hT : T.has .records = true) :
    Within T s { t with records := q } ↔ Within T s t := within_op (U := ⟨[.records], []⟩) (Touch.covers_part hT) (.parts rfl)
@[simp ↓] theorem within_field {q : FieldSt} (hT : T.has .field = true) :
    Within T s { t with field := q } ↔ Within T s t := within_op (U := ⟨[.field], []⟩) (Touch.covers_part hT) (.parts rfl)
@[simp ↓] theorem within_meter {q : MeterSt} (hT : T.has .meter = true) :
    Within T s { t with meter := q } ↔ Within T s t := within_op (U := ⟨[.meter], []⟩) (Touch.covers_part hT) (.parts rfl)
@[simp ↓] theorem within_can {q : CanSt} (hT : T.has .can = true) :
    Within T s { t with can := q } ↔ Within T s t := within_op (U := ⟨[.can], []⟩) (Touch.covers_part hT) (.parts rfl)
@[simp ↓] theorem within_net {q : NetSt} (hT : T.has .net = true) :
    Within T s { t with net := q } ↔ Within T s t := within_op (U := ⟨[.net], []⟩) (Touch.covers_part hT) (.parts rfl)
@[simp ↓] theorem within_mirror {q : MirrorSt} (hT : T.has .mirror = true) :
    Within T s { t with mirror := q } ↔ Within T s t := within_op (U := ⟨[.mirror], []⟩) (Touch.covers_part hT) (.parts rfl)
@[simp ↓] theorem within_dbg {q : DebugSt} (hT : T.has .dbg = true) :
    Within T s { t with dbg := q } ↔ Within T s t := within_op (U := ⟨[.dbg], []⟩) (Touch.covers_part hT) (.parts rfl)
@[simp ↓] theorem within_spine {q : SpineSt} (hT : T.has .spine = true) :
    Within T s { t with spine := q } ↔ Within T s t := within_op (U := ⟨[.spine], []⟩) (Touch.covers_part hT) (.parts rfl)
@[simp ↓] theorem within_twin {q : TwinSt} (hT : T.has .twin = true) :
    Within T s { t with twin := q } ↔ Within T s t := within_op (U := ⟨[.twin], []⟩) (Touch.covers_part hT) (.parts rfl)
@[simp ↓] theorem within_mem_poison {q : WMap} {p : List Nat} (hT : (T.has .mem && T.has .poison) = true) :
    Within T s { t with mem := q, poison := p } ↔ Within T s t :=
  within_op (U := ⟨[.mem, .poison], []⟩) (by simpa [Touch.covers] using hT) (.parts rfl)
@[simp ↓] theorem within_forces_forceCmds {q : List Force} {p : List ForceCmd}
    (hT : (T.has .forces && T.has .forceCmds) = true) :
    Within T s { t with forces := q, forceCmds := p } ↔ Within T s t :=
  within_op (U := ⟨[.forces, .forceCmds], []⟩) (by simpa [Touch.covers] using hT) (.parts rfl)
@[simp ↓] theorem within_fabric_imposer {q : FabricSt} {p : ImposerSt}
    (hT : (T.has .fabric && T.has .imposer) = true) :
    Within T s { t with fabric := q, imposer := p } ↔ Within T s t :=
  within_op (U := ⟨[.fabric, .imposer], []⟩) (by simpa [Touch.covers] using hT) (.parts rfl)

/-! ### Conditions and loops -/

@[simp ↓] theorem within_ite {c : Prop} [Decidable c] {a b : State} :
    Within T s (if c then a else b) ↔ (c → Within T s a) ∧ (¬ c → Within T s b) := by
  split <;> simp [*]

@[simp ↓] theorem within_when {b : Bool} {f : State → State} :
    Within T s (t.when b f) ↔ (b = true → Within T s (f t)) ∧ (b = false → Within T s t) := by
  cases b <;> simp [State.when]

theorem Within.ite {c : Prop} [Decidable c] {a b : State} (ha : c → Within T s a) (hb : ¬ c → Within T s b) :
    Within T s (if c then a else b) := within_ite.mpr ⟨ha, hb⟩

theorem Within.when {b : Bool} {f : State → State} (h : Within T s t) (hf : Within T t (f t)) :
    Within T s (t.when b f) := by
  cases b
  · exact h
  · exact h.trans hf

theorem Within.forEach {α : Type} {f : α → State → State} (h : Within T s t) (xs : List α)
    (hf : ∀ x ∈ xs, ∀ u, Within T s u → Within T s (f x u)) : Within T s (State.forEach xs f t) := by
  induction xs generalizing t with
  | nil => exact h
  | cons x xs ih => exact ih (hf x List.mem_cons_self t h) fun y hy => hf y (List.mem_cons_of_mem _ hy)

/-- A loop whose body stays within the touch. -/
theorem within_forEach {α : Type} {f : α → State → State} {xs : List α} (hf : ∀ x ∈ xs, ∀ u, Within T u (f x u)) :
    Within T s (State.forEach xs f t) ↔ Within T s t :=
  within_step (.forEach (.refl T t) xs fun x hx u h => h.trans (hf x hx u))

/-! ### Changes of registers -/

theorem within_set_span {f : Fld} {v : Nat} (hf : f.lo + f.width ≤ 36)
    (hT : ∀ j, f.lo ≤ j → j < f.lo + f.width → T.hits f.addr j = true) : Within T s (t.set f v) ↔ Within T s t := by
  refine within_step ⟨fun c _ => by cases c <;> rfl, fun a j hj => ?_⟩
  rw [State.reg_set_getLsbD _ _ _ _ _ hf, if_neg]
  rintro ⟨rfl, hlo, hhi⟩
  rw [hT j hlo hhi] at hj
  exact absurd hj (by decide)

/-- A touch holds a field. -/
def Touch.sets (T : Touch) (f : Fld) : Bool := T.covers ⟨[], [.field f]⟩ && decide (f.lo + f.width ≤ 36)

/-- A touch holds the first `n` fields of an array. -/
def Touch.setsUpTo (T : Touch) (f : Nat → Fld) (n : Nat) : Bool :=
  T.covers ⟨[], [.upTo f n]⟩ && decide ((f 0).lo + (f 0).width ≤ 36)

/-- A touch holds all fields of an array. -/
def Touch.setsAll (T : Touch) (f : Nat → Fld) : Bool :=
  T.covers ⟨[], [.all f]⟩ && decide ((f 0).lo + (f 0).width ≤ 36)

section Field
variable {f : Fld}

@[simp ↓] theorem within_set {v : Nat} (hT : T.sets f = true) : Within T s (t.set f v) ↔ Within T s t := by
  rw [Touch.sets, Bool.and_eq_true, decide_eq_true_eq] at hT
  refine within_set_span hT.2 fun j hlo hhi => Bool.eq_true_of_not_eq_false fun hj => ?_
  have hno := Touch.hits_mono hT.1 hj
  simp [Touch.hits, Span.hits, Span.field, hlo, hhi] at hno

@[simp ↓] theorem within_setFlag {b : Bool} (hT : T.sets f = true) : Within T s (t.setFlag f b) ↔ Within T s t :=
  within_set hT
@[simp ↓] theorem within_raise (hT : T.sets f = true) : Within T s (t.raise f) ↔ Within T s t := within_set hT
@[simp ↓] theorem within_add {n : Nat} (hT : T.sets f = true) : Within T s (t.add f n) ↔ Within T s t := within_set hT
@[simp ↓] theorem within_addSat {n : Nat} (hT : T.sets f = true) : Within T s (t.addSat f n) ↔ Within T s t :=
  within_set hT
@[simp ↓] theorem within_putBit {i : Nat} {b : Bool} (hT : T.sets f = true) :
    Within T s (t.putBit f i b) ↔ Within T s t := within_set hT

end Field

section UpTo
variable (f : Nat → Fld) {i n : Nat} (hi : i < n)
include hi

theorem within_setUpTo {v : Nat} (he : Even f := by exact ⟨by decide, fun _ => ⟨rfl, rfl, rfl⟩⟩)
    (hT : T.setsUpTo f n = true) : Within T s (t.set (f i) v) ↔ Within T s t := by
  rw [Touch.setsUpTo, Bool.and_eq_true, decide_eq_true_eq] at hT
  obtain ⟨hpos, heven⟩ := he
  obtain ⟨ha, hl, hw⟩ := heven i
  refine within_set_span (by omega) fun j hlo hhi => Bool.eq_true_of_not_eq_false fun hj => ?_
  have hno := Touch.hits_mono hT.1 hj
  rw [hl, hw] at hhi
  rw [hl] at hlo
  have hlt : ((f 1).addr - (f 0).addr) * i < ((f 1).addr - (f 0).addr) * n :=
    Nat.mul_lt_mul_of_pos_left hi (by omega)
  simp [Touch.hits, Span.hits, Span.upTo, ha, hlo, hhi] at hno
  omega

theorem within_setFlagUpTo {b : Bool} (he : Even f := by exact ⟨by decide, fun _ => ⟨rfl, rfl, rfl⟩⟩)
    (hT : T.setsUpTo f n = true) : Within T s (t.setFlag (f i) b) ↔ Within T s t := within_setUpTo f hi he hT

theorem within_addUpTo {k : Nat} (he : Even f := by exact ⟨by decide, fun _ => ⟨rfl, rfl, rfl⟩⟩)
    (hT : T.setsUpTo f n = true) : Within T s (t.add (f i) k) ↔ Within T s t := within_setUpTo f hi he hT

end UpTo

section All
variable (f : Nat → Fld)

theorem within_setAll (he : Even f := by exact ⟨by decide, fun _ => ⟨rfl, rfl, rfl⟩⟩) {i v : Nat}
    (hT : T.setsAll f = true) : Within T s (t.set (f i) v) ↔ Within T s t := by
  rw [Touch.setsAll, Bool.and_eq_true, decide_eq_true_eq] at hT
  obtain ⟨ha, hl, hw⟩ := he.2 i
  refine within_set_span (by omega) fun j hlo hhi => Bool.eq_true_of_not_eq_false fun hj => ?_
  have hno := Touch.hits_mono hT.1 hj
  rw [hl, hw] at hhi
  rw [hl] at hlo
  simp [Touch.hits, Span.hits, Span.all, ha, hlo] at hno
  omega

theorem within_setFlagAll (he : Even f := by exact ⟨by decide, fun _ => ⟨rfl, rfl, rfl⟩⟩) {i : Nat} {b : Bool}
    (hT : T.setsAll f = true) : Within T s (t.setFlag (f i) b) ↔ Within T s t := within_setAll f he hT
theorem within_raiseAll (he : Even f := by exact ⟨by decide, fun _ => ⟨rfl, rfl, rfl⟩⟩) {i : Nat}
    (hT : T.setsAll f = true) : Within T s (t.raise (f i)) ↔ Within T s t := within_setAll f he hT
theorem within_addAll (he : Even f := by exact ⟨by decide, fun _ => ⟨rfl, rfl, rfl⟩⟩) {i n : Nat}
    (hT : T.setsAll f = true) : Within T s (t.add (f i) n) ↔ Within T s t := within_setAll f he hT

end All

/-! ### What is set is read -/

theorem State.flag_setFlag_same (s : State) (f : Fld) (b : Bool) (hf : f.width = 1 ∧ f.lo < 36 := by decide) :
    (s.setFlag f b).flag f = b := by
  rw [State.setFlag_eq, State.flag_set_same s _ hf.1 hf.2]
  cases b <;> rfl

theorem State.flag_raise_same (s : State) (f : Fld) (hf : f.width = 1 ∧ f.lo < 36 := by decide) :
    (s.raise f).flag f = true := State.flag_set_same s 1 hf.1 hf.2

/-! ### What a touch leaves -/

/-- A field outside the touch reads as it did. -/
theorem Within.get (h : Within T s t) (f : Fld) (hT : T.spares f = true := by decide) : t.get f = s.get f := by
  refine State.get_ext fun i hi => ?_
  rw [State.getBit_eq_reg, State.getBit_eq_reg, h.2]
  simpa using List.all_eq_true.mp hT i (List.mem_range.mpr hi)

theorem Within.flag (h : Within T s t) (f : Fld) (hT : T.spares f = true := by decide) : t.flag f = s.flag f :=
  congrArg (· != 0) (h.get f hT)

/-- A register outside the touch reads as it did. -/
theorem Within.reg (h : Within T s t) (a : Nat) (hT : T.sparesReg a = true := by decide) : t.reg a = s.reg a := by
  refine BitVec.eq_of_getLsbD_eq fun j hj => h.2 a j ?_
  simpa using List.all_eq_true.mp hT j (List.mem_range.mpr hj)

/-- Every register outside a list is as it was, where the touch holds none. -/
theorem Within.reg_of_notMem (h : Within T s t) {a : Nat} (l : List Nat) (ha : a ∉ l)
    (hT : (T.bits.all fun p => p.count == some 1 && decide (p.base ∈ l) && p.stride == 1) = true := by decide) :
    t.reg a = s.reg a := by
  refine BitVec.eq_of_getLsbD_eq fun j _ => h.2 a j ?_
  simp only [Touch.hits, List.any_eq_false]
  intro p hp hhit
  have hT' := List.all_eq_true.mp hT p hp
  simp only [Bool.and_eq_true, decide_eq_true_eq, beq_iff_eq] at hT'
  obtain ⟨⟨hc, hl⟩, hs⟩ := hT'
  simp only [Span.hits, hc, hs, Option.all_some, Bool.and_eq_true, decide_eq_true_eq] at hhit
  have : a = p.base := by omega
  exact ha (this ▸ hl)

/-- A part outside the touch is as it was. -/
theorem Within.part (h : Within T s t) (c : Part) (hT : T.has c = false := by decide) : c.Kept s t := h.1 c hT

/-- The state is the former one but for the registers and the parts of the touch. -/
theorem Within.eq_patch (h : Within T s t) : t = { T.patch s t with regs := t.regs } := by
  have keep {α : Type} (c : Part) {x y : α} (k : T.has c = false → x = y) : x = bif T.has c then x else y := by
    cases hc : T.has c
    · exact k hc
    · rfl
  have keep₂ {α : Type} (c d : Part) {x y : α} (kc : T.has c = false → x = y) (kd : T.has d = false → x = y) :
      x = bif T.has c && T.has d then x else y := by
    cases hc : T.has c
    · exact kc hc
    · exact keep d kd
  have hcycle : t.cycle = (T.patch s t).cycle := by
    have k := keep .cycle (h.1 .cycle)
    have ks := keep₂ .cycle .startAt (fun hc => congrArg CycleSt.startAt (h.1 .cycle hc)) (h.1 .startAt)
    simp only [Touch.patch, ← k, ← ks]
  refine State.eq_of_kept rfl fun c => ?_
  cases c
  case cycle | startAt => simp only [Part.Kept, ← hcycle]
  all_goals exact keep _ (h.1 _)

end Within

end Sys2Proof.Machine

/-!
The touches of the operations over memory, records, the keeper, the retain store and the frames that are sent.
-/
namespace Sys2Proof.Machine
variable {T : Touch} {s t : State}

/-! ### Memory, records and vectors -/

/-- What a word stored touches. -/
def Touch.store : Touch := ⟨[.mem, .poison, .keeper, .olc], [.field R.RET_STAT_DIRTY, .field R.KPR_STAT_BUF]⟩

@[simp ↓] theorem within_keeperAbsorbOne (hT : T.covers .store = true) :
    Within T s (keeperAbsorbOne t) ↔ Within T s t :=
  within_op hT (by simp (disch := decide) [keeperAbsorbOne])

@[simp ↓] theorem within_keeperAccept {a : Nat} {w : Word} (hT : T.covers .store = true) :
    Within T s (keeperAccept t a w) ↔ Within T s t :=
  within_op hT (by simp (disch := decide) [keeperAccept])

@[simp ↓] theorem within_store {a : Nat} {w : Word} (hT : T.covers .store = true) :
    Within T s (t.store a w) ↔ Within T s t :=
  within_op hT (by simp (disch := decide) [State.store])

@[simp ↓] theorem within_storeList {a : Nat} {ws : List Word} (hT : T.covers .store = true) :
    Within T s (t.storeList a ws) ↔ Within T s t := by
  induction ws generalizing t a with
  | nil => rfl
  | cons w ws ih => exact ih.trans (within_store hT)

/-- What the device's own writes to memory touch. -/
def Touch.memory : Touch := ⟨[.mem, .poison], []⟩

@[simp ↓] theorem within_fill {a : Nat} {ws : List Word} (hT : T.covers .memory = true) :
    Within T s (t.fill a ws) ↔ Within T s t := within_op hT (.parts rfl)
@[simp ↓] theorem within_clearRange {a b : Nat} (hT : T.covers .memory = true) :
    Within T s (t.clearRange a b) ↔ Within T s t := within_op hT (.parts rfl)
@[simp ↓] theorem within_putPoint {w g : Bool} {n : Nat} {v : Word} (hT : T.covers .memory = true) :
    Within T s (t.putPoint w g n v) ↔ Within T s t := within_op hT (.parts rfl)
@[simp ↓] theorem within_putQual {w g : Bool} {n q : Nat} (hT : T.covers .memory = true) :
    Within T s (t.putQual w g n q) ↔ Within T s t := within_op hT (.parts rfl)

/-- What a report to the journal or the recorder touches. -/
def Touch.report : Touch := ⟨[.records], [.field R.JNL_EVT_LOST, .field R.EVR_EVT_LOST,
  .field R.JNL_STAT_COUNT, .field R.JNL_STAT_STAGED, .field R.JNL_STAT_HOLD, .field R.JNL_STAT_FULL,
  .field R.JNL_FULLSINCE_COUNT, .field R.JNL_LOST_COUNT, .field R.EVR_STAT_EP, .field R.EVR_STAT_QUEUE,
  .field R.EVR_STAT_HOLD, .field R.EVR_STAT_WRAPPED, .field R.EVR_NEXT_SEQ, .field R.EVR_EPBASE_SEQ,
  .field R.EVR_TWR_SLOT, .field R.EVR_LOST_COUNT]⟩

@[simp ↓] theorem within_recordSync (hT : T.covers .report = true) : Within T s (recordSync t) ↔ Within T s t :=
  within_op hT (by simp (disch := decide) [recordSync])

@[simp ↓] theorem within_report {r : Report} (hT : T.covers .report = true) :
    Within T s (t.report r) ↔ Within T s t :=
  within_op hT (by simp (disch := decide) [State.report])

@[simp ↓] theorem within_journal {a b c d : Nat} (hT : T.covers .report = true) :
    Within T s (t.journal a b c d) ↔ Within T s t := within_report hT
@[simp ↓] theorem within_record {a b c d : Nat} (hT : T.covers .report = true) :
    Within T s (t.record a b c d) ↔ Within T s t := within_report hT

@[simp ↓] theorem within_releaseHeld (hT : T.covers .report = true) : Within T s (releaseHeld t) ↔ Within T s t :=
  within_op hT (by simp (disch := decide) [releaseHeld])

@[simp ↓] theorem within_loseRecorder (hT : T.has .records = true) : Within T s (loseRecorder t) ↔ Within T s t :=
  within_records hT
@[simp ↓] theorem within_loseJournal (hT : T.has .records = true) : Within T s (loseJournal t) ↔ Within T s t :=
  within_records hT

@[simp ↓] theorem within_vector {v : Nat} (hT : T.sets R.PCI_VPEND_PEND = true) :
    Within T s (t.vector v) ↔ Within T s t := within_putBit hT

@[simp ↓] theorem within_portDone {p : Nat} (hT : T.sets R.PCI_VPEND_PEND = true) :
    Within T s (t.portDone p) ↔ Within T s t := by
  unfold State.portDone
  split
  · exact within_vector hT
  · rfl

/-- What journal entries written to the keeper touch. -/
def Touch.journalWrite : Touch :=
  ⟨[.records, .mem, .poison], [.field R.JNL_EVT_NEW, .field R.JNL_EVT_FULL]⟩

@[simp ↓] theorem within_writeJournal {e : RecEntry} (hT : T.covers .journalWrite = true) :
    Within T s (writeJournal t e) ↔ Within T s t :=
  within_op hT (by simp (disch := decide) [writeJournal, putRecord])

@[simp ↓] theorem within_flushJournal {n : Nat} (hT : T.covers .journalWrite = true) :
    Within T s (flushJournal n t) ↔ Within T s t := by
  induction n generalizing t with
  | zero => rfl
  | succ n ih =>
    unfold flushJournal
    split
    · rfl
    · exact ih.trans (within_writeJournal hT)

/-! ### Keeper and retain store -/

/-- What the commits of the wide counters touch. -/
def Touch.groups : Touch := ⟨[.mem, .poison, .keeper, .olc], [.field R.RET_STAT_DIRTY, .field R.KPR_STAT_BUF,
  .field R.KPR_STAT_BUSY, .all R.KPR_PCMD_STATUS, .field R.PCI_VPEND_PEND]⟩

@[simp ↓] theorem within_groupBegin {c : GroupCommit} (hT : T.covers .groups = true) :
    Within T s (groupBegin t c) ↔ Within T s t :=
  within_op hT (by simp (disch := decide) [groupBegin])

@[simp ↓] theorem within_groupWrite {c : GroupCommit} (hT : T.covers .store = true) :
    Within T s (groupWrite t c) ↔ Within T s t := (within_store hT).trans (within_storeList hT)

@[simp ↓] theorem within_groupFinish (hT : T.covers .groups = true) : Within T s (groupFinish t) ↔ Within T s t := by
  refine within_op hT ?_
  unfold groupFinish
  split
  · exact .refl _ t
  · dsimp only
    split <;> simp (disch := decide) [within_setAll R.KPR_PCMD_STATUS]

@[simp ↓] theorem within_groupFinishAll {n : Nat} (hT : T.covers .groups = true) :
    Within T s (groupFinishAll n t) ↔ Within T s t := by
  induction n generalizing t with
  | zero => rfl
  | succ n ih =>
    unfold groupFinishAll
    split
    · rfl
    · exact ih.trans (within_groupFinish hT)

@[simp ↓] theorem within_keeperLose (hT : T.covers ⟨[.mem, .keeper], []⟩ = true) :
    Within T s (keeperLose t) ↔ Within T s t := by
  refine within_op hT ?_
  simp (disch := decide) only [keeperLose, within_keeper]
  exact .forEach (.refl _ t) _ fun _ _ u hu => by simpa (disch := decide) using hu

@[simp ↓] theorem within_keeperFlush (hT : T.covers ⟨[.keeper], [.field R.KPR_STAT_BUF]⟩ = true) :
    Within T s (keeperFlush t) ↔ Within T s t :=
  within_op hT (by simp (disch := decide) [keeperFlush])

/-- What the retain store touches beside the cells that it takes in. -/
def Touch.retain : Touch := ⟨[.retain], [.field R.RET_STAT_VALID, .field R.RET_STAT_NEXT, .field R.RET_STAT_WEAR,
  .field R.RET_SEQR_SEQ, .field R.RET_SEQV_SEQ, .field R.RET_CNTR_COUNT, .field R.RET_CNTV_COUNT,
  .field R.RET_STAT_BUSY, .field R.RET_STAT_LAST, .field R.RET_EVT_ABORT, .field R.RET_STAT_DIRTY,
  .field R.RET_STAT_POSTP]⟩

@[simp ↓] theorem within_retainSync (hT : T.covers .retain = true) : Within T s (retainSync t) ↔ Within T s t :=
  within_op hT (by simp (disch := decide) [retainSync])

@[simp ↓] theorem within_storeAbort (hT : T.covers .retain = true) : Within T s (storeAbort t) ↔ Within T s t := by
  refine within_op hT ?_
  unfold storeAbort
  split <;> simp (disch := decide)

@[simp ↓] theorem within_storeTrigger {a b : Bool} (hT : T.covers .retain = true) :
    Within T s (storeTrigger t a b) ↔ Within T s t :=
  within_op hT (by simp (disch := decide) [storeTrigger])

/-- What a store that begins touches. -/
def Touch.storeBegin : Touch := .or .store .retain

@[simp ↓] theorem within_writeRetainedCells (hT : T.covers .store = true) :
    Within T s (writeRetainedCells t) ↔ Within T s t := by
  refine within_op hT ?_
  unfold writeRetainedCells
  split
  · exact .refl _ t
  · refine .forEach (.refl _ t) _ fun u _ v h => ?_
    split
    · exact h
    · exact .forEach h _ fun p _ w hw => (within_storeList (by decide)).mpr hw

@[simp ↓] theorem within_storeBegin (hT : T.covers .storeBegin = true) : Within T s (storeBegin t) ↔ Within T s t := by
  refine within_op hT ?_
  unfold storeBegin
  split <;> simp (disch := decide)

@[simp ↓] theorem within_storeIfDue (hT : T.covers .storeBegin = true) : Within T s (storeIfDue t) ↔ Within T s t :=
  within_op hT (by simp (disch := decide) [storeIfDue])

/-! ### Frames that are sent, values that are drawn -/

@[simp ↓] theorem within_twinSend {a b c : Nat} {ws : List Word} (hT : T.has .twin = true) :
    Within T s (twinSend t a b c ws) ↔ Within T s t := within_twin hT

@[simp ↓] theorem within_trackFrame {l : List TrkItem} (hT : T.has .twin = true) :
    Within T s (trackFrame t l) ↔ Within T s t := (within_twinSend hT).trans (within_twin hT)

@[simp ↓] theorem within_trackSend {l : List TrkItem} (hT : T.has .twin = true) :
    Within T s (trackSend t l) ↔ Within T s t :=
  within_op (Touch.covers_part hT) (by simp (disch := decide) [trackSend])

@[simp ↓] theorem within_olcTell (hT : T.has .twin = true) : Within T s (olcTell t) ↔ Within T s t :=
  within_op (Touch.covers_part hT) (by simp (disch := decide) [olcTell])

@[simp ↓] theorem within_departNotice (hT : T.has .twin = true) : Within T s (departNotice t) ↔ Within T s t :=
  within_op (Touch.covers_part hT) (by simp (disch := decide) [departNotice])

@[simp ↓] theorem within_spineSend {a b c : Nat} {ws : List Word} (hT : T.has .spine = true) :
    Within T s (spineSend t a b c ws) ↔ Within T s t := within_spine hT

@[simp ↓] theorem within_stopWorkers (hT : T.has .spine = true) : Within T s (stopWorkers t) ↔ Within T s t :=
  within_op (Touch.covers_part hT) (by simp (disch := decide) [stopWorkers])

@[simp ↓] theorem within_draw (hT : T.has .free = true) : Within T s t.draw.2 ↔ Within T s t := within_free hT

@[simp ↓] theorem within_setCanBuf {b : CanBuf} (hT : T.has .can = true) :
    Within T s (t.setCanBuf b) ↔ Within T s t := within_can hT

@[simp ↓] theorem within_canHold (hT : T.covers ⟨[.free, .can], []⟩ = true) :
    Within T s (canHold t) ↔ Within T s t := by
  refine within_op hT (.forEach (.refl _ t) _ fun n _ u h => ?_)
  dsimp only
  split <;> simp (disch := decide) [h]

end Sys2Proof.Machine

/-!
The frames of the field link (R14, R15, R373, R374, R386, R390, R391).
-/
namespace Sys2Proof.Machine

/-- A command that a device without power does not take completes, under power, in what it makes of the state. -/
theorem runs_of_powered {s t : State} {c : Instr} {P : State → Prop}
    (h : exec c s = s.answer (if s.powered then t else s)) (hpow : s.powered = true) (hq : t.pending = s.pending)
    (hP : P t) : Runs c s P := runs_of_answer_eq (by rw [h, if_pos hpow]) hq hP

/-! ### What the die's own state keeps -/

/-- The field interface but for the channels, the groups and the start-up of the die. -/
inductive DieOnly (f : FieldSt) (t : State) : Prop
  | intro (c : Vector DieCh 32) (g : Vector DieGroup 4) (b : Bool)
      (h : t.field = { f with chans := c, groups := g, startup := b })

section DieOnly
variable {f : FieldSt} {t u : State}

theorem DieOnly.of_field (h : t.field = f) : DieOnly f t := ⟨f.chans, f.groups, f.startup, h⟩

theorem DieOnly.congr (h : DieOnly f t) (e : u.field = t.field) : DieOnly f u := by
  obtain ⟨c, g, b, h⟩ := h
  exact ⟨c, g, b, e.trans h⟩

theorem DieOnly.chans (h : DieOnly f t) (c : Vector DieCh 32) : DieOnly f { t with field := { t.field with chans := c } } := by
  obtain ⟨_, g, b, h⟩ := h
  exact ⟨c, g, b, by rw [h]⟩

theorem DieOnly.setDie (h : DieOnly f t) (n : Nat) (d : DieCh) : DieOnly f (t.setDie n d) := h.chans _

theorem DieOnly.setGroup (h : DieOnly f t) (n : Nat) (d : DieGroup) : DieOnly f (t.setGroup n d) := by
  obtain ⟨c, g, b, h⟩ := h
  exact ⟨c, _, b, by rw [State.setGroup, h]⟩

theorem DieOnly.started (h : DieOnly f t) (b : Bool) :
    DieOnly f { t with field := { t.field with startup := b } } := by
  obtain ⟨c, g, _, h⟩ := h
  exact ⟨c, g, b, by rw [h]⟩

theorem DieOnly.when (h : DieOnly f t) (b : Bool) {g : State → State} (hg : DieOnly f t → DieOnly f (g t)) :
    DieOnly f (t.when b g) := by
  cases b
  · exact h
  · exact hg h

end DieOnly

/-! ### Frames -/

section Within
variable {T : Touch} {s t : State}

@[simp ↓] theorem within_setDie {n : Nat} {d : DieCh} (hT : T.has .field = true) :
    Within T s (t.setDie n d) ↔ Within T s t := within_field hT
@[simp ↓] theorem within_setGroup {n : Nat} {d : DieGroup} (hT : T.has .field = true) :
    Within T s (t.setGroup n d) ↔ Within T s t := within_field hT
@[simp ↓] theorem within_setStages (hT : T.has .field = true) : Within T s (setStages t) ↔ Within T s t :=
  within_field hT
@[simp ↓] theorem within_setSampling (hT : T.has .field = true) : Within T s (setSampling t) ↔ Within T s t :=
  within_field hT
@[simp ↓] theorem within_configureDie (hT : T.has .field = true) : Within T s (configureDie t) ↔ Within T s t :=
  within_field hT

@[simp ↓] theorem within_configDue (hT : T.has .field = true) : Within T s (configDue t) ↔ Within T s t :=
  within_field hT

/-- What the die makes of a frame is its own affair. -/
theorem within_dieFrame (s : State) (fr : Frame) : Within ⟨[.field], []⟩ s (dieFrame s fr) := by
  refine (within_setSampling rfl).mpr <| (within_setStages rfl).mpr <| .when (.forEach (.forEach (.when
    ((within_field rfl).mpr (.refl _ s)) ((within_configureDie rfl).mpr (.refl _ _))) _ fun g _ u hu => ?_) _
    fun n _ u hu => ?_) ((within_field rfl).mpr (.refl _ _))
  · dsimp only
    split
    · exact .forEach ((within_setGroup rfl).mpr hu) _ fun _ _ _ hv => (within_setDie rfl).mpr hv
    · exact hu
  · dsimp only
    split
    · exact (within_setDie rfl).mpr hu
    · exact hu
end Within

/-- The field interface with a frame taken (R390, R391). -/
def frameTaken (f : FieldSt) (fr : Frame) : FieldSt :=
  { f with
    frCmd := fr.cmd, frFb := fr.fb, frRelease := fr.release, frDrive := fr.drive, ackDue := 0, lackDue := 0
    driveAge := if fr.drive then f.driveAge + 1 else 0, reportLost := f.reportLost || f.silent, silent := false
    fallback := f.fallback && !fr.release, configured := f.configured || f.cfgDue, cfgDue := false }

theorem dieFrame_field (s : State) (fr : Frame) : DieOnly (frameTaken s.field fr) (dieFrame s fr) := by
  have hconf : ∀ t : State, t.field = { frameTaken s.field fr with configured := s.field.configured, cfgDue := s.field.cfgDue } →
      DieOnly (frameTaken s.field fr) (t.when s.field.cfgDue configureDie) := by
    intro t ht
    unfold State.when
    split
    · next hc => exact ⟨(configureDie t).field.chans, (configureDie t).field.groups, true, by
        simp only [configureDie, ht, frameTaken, hc, Bool.or_true]⟩
    · next hc => exact .of_field (by simp only [ht, frameTaken, Bool.not_eq_true _ ▸ hc, Bool.or_false])
  unfold dieFrame
  refine DieOnly.chans (DieOnly.chans (DieOnly.when (forEach_induction (P := DieOnly (frameTaken s.field fr))
    (forEach_induction (P := DieOnly (frameTaken s.field fr)) (hconf _ rfl) fun g _ u hu => ?_) fun n _ u hu => ?_) _ fun h => h.started _) _) _
  · dsimp only
    split
    · exact forEach_induction (P := DieOnly (frameTaken s.field fr)) (hu.setGroup _ _) fun _ _ _ hv => hv.setDie _ _
    · exact hu
  · dsimp only
    split
    · exact hu.setDie _ _
    · exact hu

/-- The frame that goes out (R390). -/
def frameSent (s : State) : Frame :=
  ⟨s.field.cmd, s.field.fbReq, s.flag R.SYS_STATE_RELEASED || s.cycle.heldRelease, driveBit s⟩

/-- What a frame that goes out shows (R390). -/
def frameShown (s : State) : State :=
  State.forEach (List.range 32) (fun n u =>
    if (u.channel 1 n).isSome then u.setFlag (R.FIO_CST_CMD n) ((frameSent s).cmd.testBit n) else u)
    ((s.setFlag R.FIO_STAT_RELEASE (frameSent s).release).setFlag R.FIO_STAT_DRIVE (frameSent s).drive)

theorem fieldCommandFrame_eq (s : State) (arr : Bool) :
    fieldCommandFrame s arr = (frameShown s).when arr (dieFrame · (frameSent s)) := rfl

theorem frameShown_within (s : State) : Within ⟨[], [.upTo R.FIO_CST_CMD 32]⟩
    ((s.setFlag R.FIO_STAT_RELEASE (frameSent s).release).setFlag R.FIO_STAT_DRIVE (frameSent s).drive)
    (frameShown s) := by
  refine .forEach (.refl _ _) _ fun n hn u hu => ?_
  have hn := List.mem_range.mp hn
  split
  · exact (within_setFlagUpTo R.FIO_CST_CMD hn (hT := by decide)).mpr hu
  · exact hu

/-- A command frame shows what it carries and changes the field interface alone. -/
theorem fieldCommandFrame_shows (s : State) (arr : Bool) :
    (fieldCommandFrame s arr).flag R.FIO_STAT_RELEASE = (frameSent s).release ∧
    (fieldCommandFrame s arr).flag R.FIO_STAT_DRIVE = (frameSent s).drive ∧
    Within ⟨[.field], [.field R.FIO_STAT_RELEASE, .field R.FIO_STAT_DRIVE, .upTo R.FIO_CST_CMD 32]⟩ s
      (fieldCommandFrame s arr) := by
  have hdie : Within ⟨[.field], []⟩ (frameShown s) (fieldCommandFrame s arr) := by
    rw [fieldCommandFrame_eq]
    exact .when (.refl _ _) (within_dieFrame _ _)
  have hcmd := frameShown_within s
  refine ⟨?_, ?_, ?_⟩
  · rw [hdie.flag R.FIO_STAT_RELEASE, hcmd.flag R.FIO_STAT_RELEASE,
      State.flag, State.setFlag_eq, State.get_set_bits _ _ _ _ (by decide) (by decide)]
    exact State.flag_setFlag_same _ _ _
  · rw [hdie.flag R.FIO_STAT_DRIVE, hcmd.flag R.FIO_STAT_DRIVE]
    exact State.flag_setFlag_same _ _ _
  · exact ((by simp (disch := decide) : Within _ s _).trans (hcmd.mono (by decide))).trans
      (hdie.mono (by decide))

/-! ### Missing frames -/

/-- What each turn of a loop brings about, and the other turns keep, holds after it of every element. -/
theorem forEach_each {α : Type} {P : State → Prop} {Q : α → State → Prop} {f : α → State → State} {xs : List α} {s : State}
    (h : P s) (hP : ∀ x ∈ xs, ∀ u, P u → P (f x u)) (hQ : ∀ x ∈ xs, ∀ u, P u → Q x (f x u))
    (keep : ∀ x ∈ xs, ∀ y u, P u → Q y u → Q y (f x u)) : ∀ y ∈ xs, Q y (State.forEach xs f s) := by
  have later : ∀ (ys : List α) (t : State), (∀ y ∈ ys, y ∈ xs) → P t → ∀ y, Q y t → Q y (State.forEach ys f t) := by
    intro ys
    induction ys with
    | nil => exact fun _ _ _ _ hy => hy
    | cons z ys ih =>
      intro t hys ht y hy
      have hz := hys z List.mem_cons_self
      exact ih _ (fun w hw => hys w (List.mem_cons_of_mem _ hw)) (hP z hz t ht) y (keep z hz y t ht hy)
  have all : ∀ (ys : List α) (t : State), (∀ y ∈ ys, y ∈ xs) → P t → ∀ y ∈ ys, Q y (State.forEach ys f t) := by
    intro ys
    induction ys with
    | nil => exact fun _ _ _ _ hy => absurd hy List.not_mem_nil
    | cons z ys ih =>
      intro t hys ht y hy
      have hz := hys z List.mem_cons_self
      have htail : ∀ w ∈ ys, w ∈ xs := fun w hw => hys w (List.mem_cons_of_mem _ hw)
      rcases List.mem_cons.mp hy with rfl | hy
      · exact later ys _ htail (hP y hz t ht) y (hQ y hz t ht)
      · exact ih _ htail (hP z hz t ht) y hy
  exact all xs s (fun _ h => h) h

/-- The registers of the field interface. -/
def Touch.fio : Touch := ⟨[], [⟨0xC0E001, 1, some 0x1FF, 0, 36⟩]⟩

section Diag
variable {T : Touch} {s t : State} {n : Nat}

/-- Diagnoses raised in CDIAG of a channel stay beside those that stood there. -/
theorem chDiag_reg (s : State) (n mask : Nat) {a : Nat} (ha : a ≠ R.FIO_EVT_CHDIAG.addr) : (chDiag s n mask).reg a =
    if a = (R.FIO_CDIAG_STALE n).addr then s.reg a ||| BitVec.ofNat 36 mask else s.reg a := by
  unfold chDiag
  split
  · next h => simp [h]
  · rw [State.raise_eq, State.reg_set_other _ _ _ ha, State.reg_setReg]
    split
    · next h => rw [h]
    · rfl

theorem within_chDiag {mask : Nat} (hn : n < 32) (hT : T.covers .fio = true) :
    Within T s (chDiag t n mask) ↔ Within T s t := by
  refine within_op hT ⟨fun c _ => ?_, fun a j hj => ?_⟩
  · unfold chDiag
    split
    · exact .refl t c
    · cases c <;> rfl
  · have hout : a ≠ R.FIO_EVT_CHDIAG.addr ∧ a ≠ (R.FIO_CDIAG_STALE n).addr ∨ 36 ≤ j := by
      simp [Touch.hits, Touch.fio, Span.hits, Nat.mod_one] at hj
      simp only [R.FIO_EVT_CHDIAG, R.FIO_CDIAG_STALE]
      omega
    rcases hout with ⟨hev, hdiag⟩ | hj
    · rw [chDiag_reg _ _ _ hev, if_neg hdiag]
    · rw [BitVec.getLsbD_of_ge _ _ hj, BitVec.getLsbD_of_ge _ _ hj]

theorem chDiag_stale (s : State) (n mask : Nat) {m : Nat} (hm : m < 32) :
    (chDiag s n mask).flag (R.FIO_CDIAG_STALE m) =
      (s.flag (R.FIO_CDIAG_STALE m) || decide (m = n) && mask.testBit 0) := by
  have hev : (R.FIO_CDIAG_STALE m).addr ≠ R.FIO_EVT_CHDIAG.addr := by
    simp only [R.FIO_EVT_CHDIAG, R.FIO_CDIAG_STALE]; omega
  have hadr : (R.FIO_CDIAG_STALE m).addr = (R.FIO_CDIAG_STALE n).addr ↔ m = n := by
    simp only [R.FIO_CDIAG_STALE]; omega
  rw [State.flag_eq_getBit _ rfl, State.flag_eq_getBit _ rfl, State.getBit_eq_reg, State.getBit_eq_reg,
    chDiag_reg _ _ _ hev, apply_ite (BitVec.getLsbD · _)]
  by_cases h : m = n
  · rw [if_pos (hadr.mpr h), BitVec.getLsbD_or, BitVec.getLsbD_ofNat]
    simp [h, R.FIO_CDIAG_STALE]
  · simp [if_neg (mt hadr.mp h), h]

end Diag

/-- A frame that is missing marks the inputs STALE (R374, R386). -/
theorem statusFrameMissing_stale (s : State) (n : Fin 32) (hn : chInput (fchWord s n) = true) :
    (statusFrameMissing s).flag (R.FIO_CDIAG_STALE n) = true := by
  have hbody (m : Nat) (u : State) : (if chInput (fchWord u m) then chDiag u m 1 else u) = u ∨
      (if chInput (fchWord u m) then chDiag u m 1 else u) = chDiag u m 1 := by split <;> simp
  have hchan {u : State} {m : Nat} (hm : m ∈ List.range 32) (hu : u.handles = s.handles) :
      (if chInput (fchWord u m) then chDiag u m 1 else u).handles = s.handles := by
    rcases hbody m u with e | e <;> rw [e]
    · exact hu
    · have k : Within .fio u (chDiag u m 1) :=
        (within_chDiag (List.mem_range.mp hm) (by decide)).mpr (.refl _ u)
      exact Eq.trans (k.part .handles) hu
  have hword {u : State} {m : Nat} (hu : u.handles = s.handles) : fchWord u m = fchWord s m := by
    simp only [fchWord, State.channel, hu]
  unfold statusFrameMissing
  refine (forEach_each (s := { s with field := { s.field with missed := s.field.missed + 1 } })
    (P := fun u => u.handles = s.handles)
    (Q := fun m u => m < 32 ∧ (chInput (fchWord s m) = true → u.flag (R.FIO_CDIAG_STALE m) = true)) rfl
    (fun m hm u hu => hchan hm hu) (fun m hm u hu => ⟨List.mem_range.mp hm, fun h => ?_⟩)
    (fun m hm k u hu hk => ⟨hk.1, fun h => ?_⟩) n (List.mem_range.mpr n.isLt)).2 hn
  · rw [hword hu, if_pos h, chDiag_stale _ _ _ (List.mem_range.mp hm)]
    simp
  · rcases hbody m u with e | e <;> rw [e]
    · exact hk.2 h
    · rw [chDiag_stale _ _ _ hk.1, hk.2 h, Bool.true_or]

theorem statusFrameMissing_within (s : State) : Within (.or ⟨[.field], []⟩ .fio) s (statusFrameMissing s) ∧
    Within .fio { s with field := { s.field with missed := s.field.missed + 1 } } (statusFrameMissing s) := by
  have hloop : Within .fio { s with field := { s.field with missed := s.field.missed + 1 } } (statusFrameMissing s) := by
    refine .forEach (.refl _ _) _ fun n hn u hu => ?_
    split
    · exact (within_chDiag (List.mem_range.mp hn) (by decide)).mpr hu
    · exact hu
  exact ⟨(within_field (by decide)).mpr (.refl _ s) |>.trans (hloop.mono (by decide)), hloop⟩

/-! ### Status frames -/

/-- The registers and the records that the report of a channel or a group touches. -/
def Touch.status : Touch := .or ⟨[], [.field R.FIO_STAT_AWAIT, .field R.FIO_STAT_MISSING, .field R.FIO_STAT_LOW]⟩
  (.or .fio .report)

/-- A channel reported: its entry of the die, and what it shows. -/
theorem statusChannel_within {n : Nat} (hn : n < 32) (amps : Nat) (pin : Bool) (s : State) :
    ∃ d, Within .status (s.setDie n d) (statusChannel n amps pin s) := by
  refine ⟨{ s.die n with ilim := (s.die n).stage && decide (1200 ≤ amps), diag := 0 }, ?_⟩
  unfold statusChannel
  simp (disch := decide) [↓within_chDiag hn, ↓within_setUpTo R.FIO_CST_IOUT hn,
    ↓within_setUpTo R.FIO_CST_TCNT hn, ↓within_setFlagUpTo R.FIO_CST_LATCHED hn, ↓within_setFlagUpTo R.FIO_CST_ILIM hn,
    ↓within_setFlagUpTo R.FIO_CST_FEED hn, ↓within_setFlagUpTo R.FIO_CST_BREAK hn, ↓within_setFlagUpTo R.FIO_CST_STAGE hn,
    ↓within_setFlagUpTo R.FIO_CST_PIN hn, ↓within_setFlagUpTo R.FIO_CST_LEVEL hn, ↓within_setUpTo R.FIO_CCNT_COUNT hn]

/-- A group reported: its entry of the die, and what it shows. -/
theorem statusGroup_within {g : Nat} (hg : g < 4) (volts amps : Nat) (s : State) :
    ∃ d, Within .status (s.setGroup g d) (statusGroup g volts amps s) := by
  refine ⟨{ s.group g with newLow := 0, newMissing := 0, newRecovered := 0 }, ?_⟩
  unfold statusGroup
  simp (disch := decide) [↓within_setUpTo R.FIO_GLP_VOLT hg, ↓within_setUpTo R.FIO_GLP_CURR hg,
    ↓within_addUpTo R.FIO_GCNT_LOW hg, ↓within_addUpTo R.FIO_GCNT_MISS hg]

/-- A status frame read into the registers of the channels and groups (R373, R386). -/
def statusRead (s : State) (amps volts : List Nat) (pins : BitVec 32) : State :=
  State.forEach (List.range 4) (fun g =>
    statusGroup g (volts.getD g 0) (((List.range 8).map fun i => amps.getD (8 * g + i) 0).sum))
    (State.forEach (List.range 32) (fun n => statusChannel n (amps.getD n 0) (pins.getLsbD n)) s)

theorem statusRead_keeps (s : State) (amps volts : List Nat) (pins : BitVec 32) :
    Within (.or ⟨[.field], []⟩ .status) s (statusRead s amps volts pins) ∧
      DieOnly s.field (statusRead s amps volts pins) := by
  let P (t : State) : Prop := Within (.or ⟨[.field], []⟩ .status) s t ∧ DieOnly s.field t
  refine forEach_induction (P := P) (forEach_induction (P := P) ⟨.refl _ s, .of_field rfl⟩ fun n hn u hu => ?_)
    fun g hg u hu => ?_
  · obtain ⟨d, h⟩ := statusChannel_within (List.mem_range.mp hn) (amps.getD n 0) (pins.getLsbD n) u
    exact ⟨((within_setDie rfl).mpr hu.1).trans (h.mono (by decide)), (hu.2.setDie n d).congr (h.part .field)⟩
  · obtain ⟨d, h⟩ := statusGroup_within (List.mem_range.mp hg) (volts.getD g 0)
      (((List.range 8).map fun i => amps.getD (8 * g + i) 0).sum) u
    exact ⟨((within_setGroup rfl).mpr hu.1).trans (h.mono (by decide)), (hu.2.setGroup g d).congr (h.part .field)⟩

/-- What follows once a status frame is read (R386, R391). -/
def statusTaken (s : State) : State :=
  let f := s.field
  let s := s.when f.restart fun s => configDue ((s.raise R.FIO_EVT_DIERST).journal 11 14 0 0)
  let s := State.forEach f.latchOffs (fun p s => s.record 68 14 p.1 p.2) s
  let s := s.when (f.reportLost || f.linkLost) (·.journal 10 14 2 0)
  let s := { s with field := { s.field with restart := false, latchOffs := [], reportLost := false, linkLost := false,
                                            missed := 0, inputsBad := f.silent } }
  (s.raise R.FIO_STAT_LINK).setFlag R.FIO_STAT_DIEUP f.configured

theorem fieldStatusFrame_eq (s : State) (amps volts : List Nat) (pins : BitVec 32) :
    fieldStatusFrame s amps volts pins = statusTaken (statusRead s amps volts pins) := by
  simp only [fieldStatusFrame, statusTaken, statusRead]

/-- What a status frame touches. -/
def Touch.statusFrame : Touch := .or ⟨[.field], [.field R.FIO_STAT_LINK, .field R.FIO_STAT_DIEUP]⟩ .status

theorem statusTaken_within (s : State) : Within .statusFrame s (statusTaken s) := by
  refine (within_setFlag (by decide)).mpr <| (within_raise (by decide)).mpr <|
    (within_field (by decide)).mpr <| .when (.forEach (.when (.refl _ s) ?_) _ fun p _ u hu => ?_) ?_
  · simp (disch := decide)
  · simpa (disch := decide) using hu
  · simp (disch := decide)

theorem statusTaken_dieUp (s : State) : (statusTaken s).flag R.FIO_STAT_DIEUP = s.field.configured :=
  State.flag_setFlag_same _ _ _

theorem statusTaken_link (s : State) : (statusTaken s).flag R.FIO_STAT_LINK = true := by
  unfold statusTaken
  dsimp only
  rw [State.flag, State.setFlag_eq, State.get_set_bits _ _ _ _ (by decide) (by decide)]
  exact State.flag_raise_same _ _

/-- A status frame brings the link up with what the die reports. -/
theorem fieldStatusFrame_brings (s : State) (amps volts : List Nat) (pins : BitVec 32) :
    (fieldStatusFrame s amps volts pins).flag R.FIO_STAT_LINK = true ∧
    (fieldStatusFrame s amps volts pins).flag R.FIO_STAT_DIEUP = s.field.configured ∧
    Within .statusFrame s (fieldStatusFrame s amps volts pins) := by
  obtain ⟨hwithin, c, g, b, hdie⟩ := statusRead_keeps s amps volts pins
  rw [fieldStatusFrame_eq]
  generalize statusRead s amps volts pins = u at *
  exact ⟨statusTaken_link u, (statusTaken_dieUp u).trans (by rw [hdie]),
    (hwithin.mono (by decide)).trans (statusTaken_within u)⟩

/-! ### Counters at a tick -/

/-- What the counters of the fundamental touch at a status frame. -/
def Touch.pqc : Touch := ⟨[.meter], [.all R.MTR_QST_NOSRC, .all R.MTR_QST_GAP, .all R.MTR_QST_WRAP,
  .field R.MTR_EVT_WRAP, .all R.MTR_QCNT_COUNT]⟩

section Pqc
variable {T : Touch} {s t : State}

@[simp ↓] theorem within_setPqc {c : PqcCh} (hT : T.has .meter = true) :
    Within T s (t.setPqc c) ↔ Within T s t := within_meter hT

@[simp ↓] theorem within_pqcAdd {c : PqcCh} {n : Nat} (hT : T.covers .pqc = true) :
    Within T s (pqcAdd t c n) ↔ Within T s t :=
  within_op hT (by simp (disch := decide) [pqcAdd, ↓within_setAll R.MTR_QST_WRAP,
    ↓within_setAll R.MTR_QCNT_COUNT])

@[simp ↓] theorem within_pqcTick {c : PqcCh} (hT : T.covers .pqc = true) : Within T s (pqcTick t c) ↔ Within T s t := by
  refine within_op hT ?_
  unfold pqcTick
  dsimp only
  split <;> simp (disch := decide) [↓within_raiseAll R.MTR_QST_NOSRC, ↓within_raiseAll R.MTR_QST_GAP]

end Pqc

/-! ### The obligation -/

/-- The configuration of the die is gone where its supply returns (R391). -/
theorem fieldDiePowerUp_fresh (s : State) (g : BitVec 4) :
    ((fieldDiePowerUp s g).field.chans.toList.all fun d => !d.stage && d.cfg == 0) = true := by
  simp only [List.all_eq_true, fieldDiePowerUp, Vector.toList_ofFn, List.mem_ofFn]
  rintro d ⟨i, rfl⟩
  rfl

theorem fieldDiePowerUp_group (s : State) (g : BitVec 4) (i : Fin 4) :
    ((fieldDiePowerUp s g).group i).phase = if g.getLsbD i then .recovery else .missing := by
  fin_cases i <;> rfl

theorem fieldAck_within (s : State) (m : Nat) : Within .report
    { s with field := { s.field with ackDue := s.field.ackDue ||| (m &&& s.get R.FIO_STAT_AWAIT) } } (fieldAck s m) := by
  refine .forEach (.refl _ _) _ fun g _ u hu => ?_
  split
  · simpa (disch := decide) using hu
  · exact hu

theorem dieLinkLost_eq (s : State) (hm : 32 ≤ s.field.missed) (hl : s.field.linkLost = false) : dieLinkLost s =
    ((({ s with field := { s.field with linkLost := true } }.set R.FIO_STAT_LINK 0).raise R.FIO_EVT_LINKLOST).journal
      10 14 1 0) := if_pos ⟨hm, by simp [hl]⟩

theorem fieldCommandFrame_runs (s : State) (hpow : s.powered = true) : Runs (.fieldCommandFrame true) s fun t =>
    t.flag R.FIO_STAT_RELEASE = t.field.frRelease ∧
    t.flag R.FIO_STAT_DRIVE = t.field.frDrive ∧ t.field.frCmd = s.field.cmd ∧ t.field.frFb = s.field.fbReq ∧
    t.field.frRelease = (s.flag R.SYS_STATE_RELEASED || s.cycle.heldRelease) ∧ t.field.frDrive = driveBit s ∧
    t.field.silent = false ∧ t.field.ackDue = 0 ∧ t.field.cfgDue = false ∧
    t.field.configured = (s.field.configured || s.field.cfgDue) ∧
    t.field.fallback = (s.field.fallback && !t.field.frRelease) ∧ t = { s with regs := t.regs, field := t.field } := by
  obtain ⟨hrel, hdrive, hwithin⟩ := fieldCommandFrame_shows s true
  obtain ⟨c, g, b, hfield⟩ := dieFrame_field (frameShown s) (frameSent s)
  have hshown : (frameShown s).field = s.field := (frameShown_within s).part .field
  rw [hshown] at hfield
  have hf := (congrArg State.field (fieldCommandFrame_eq s true)).trans hfield
  refine runs_of_powered rfl hpow (hwithin.part .pending) ?_
  generalize fieldCommandFrame s true = t at *
  rw [hrel, hdrive]
  refine ⟨?_, ?_, ?_, ?_, ?_, ?_, ?_, ?_, ?_, ?_, ?_, hwithin.eq_patch⟩
  all_goals rw [hf]; rfl

/-- A frame that the die does not take changes what is shown alone. -/
theorem fieldCommandFrame_lost (s : State) (hpow : s.powered = true) : Runs (.fieldCommandFrame false) s fun t =>
    t.flag R.FIO_STAT_RELEASE = (s.flag R.SYS_STATE_RELEASED || s.cycle.heldRelease) ∧ t.field = s.field ∧
    t = { s with regs := t.regs } := by
  obtain ⟨hrel, _, _⟩ := fieldCommandFrame_shows s false
  have hwithin : Within ⟨[], [.field R.FIO_STAT_RELEASE, .field R.FIO_STAT_DRIVE, .upTo R.FIO_CST_CMD 32]⟩ s
      (fieldCommandFrame s false) := by
    refine .trans ?_ ((frameShown_within s).mono (by decide))
    simp (disch := decide)
  exact runs_of_powered rfl hpow (hwithin.part .pending) ⟨hrel, hwithin.part .field, hwithin.eq_patch⟩

theorem statusFrameMissing_runs (s : State) (hpow : s.powered = true) : Runs .statusFrameMissing s fun t =>
    t.field.missed = s.field.missed + 1 ∧ t.field.chans = s.field.chans ∧
    (∀ n : Fin 32, chInput (fchWord s n) = true → t.flag (R.FIO_CDIAG_STALE n) = true) ∧
    t = { s with regs := t.regs, field := t.field } := by
  obtain ⟨hwithin, hloop⟩ := statusFrameMissing_within s
  have hfield : (statusFrameMissing s).field = { s.field with missed := s.field.missed + 1 } := hloop.part .field
  exact runs_of_powered rfl hpow (hwithin.part .pending) ⟨by rw [hfield], by rw [hfield],
    statusFrameMissing_stale s, hwithin.eq_patch⟩

theorem dieLinkLost_runs (s : State) (hpow : s.powered = true) (hm : 32 ≤ s.field.missed)
    (hl : s.field.linkLost = false) : Runs .dieLinkLost s fun t =>
    t.flag R.FIO_STAT_LINK = false ∧ t.flag R.FIO_EVT_LINKLOST = true ∧ t.field = { s.field with linkLost := true } ∧
    t = { s with regs := t.regs, field := t.field, records := t.records } := by
  have hrep : Within .report _ (dieLinkLost s) := dieLinkLost_eq s hm hl ▸ (within_journal (by decide)).mpr (.refl _ _)
  have hfield : (dieLinkLost s).field = { s.field with linkLost := true } := hrep.part .field
  have hwithin : Within (.or ⟨[.field], [.field R.FIO_STAT_LINK, .field R.FIO_EVT_LINKLOST]⟩ .report) s
      (dieLinkLost s) := by
    rw [dieLinkLost_eq s hm hl]
    simp (disch := decide)
  refine runs_of_powered rfl hpow (hwithin.part .pending) ⟨?_, ?_, hfield, hwithin.eq_patch⟩
  · rw [hrep.flag R.FIO_STAT_LINK, State.raise_eq, State.flag,
      State.get_set_addr _ _ _ _ (by decide), State.get_set_same _ _ _ (by decide)]
    rfl
  · rw [hrep.flag R.FIO_EVT_LINKLOST]
    exact State.flag_raise_same _ _

theorem fieldStatusFrame_runs (s : State) (amps volts : List Nat) (pins : BitVec 32) (hpow : s.powered = true) :
    Runs (.fieldStatusFrame amps volts pins) s fun t => t.flag R.FIO_STAT_LINK = true ∧ t.field.missed = 0 ∧
    t.field.latchOffs = [] ∧ t.field.restart = false ∧ t.flag R.FIO_STAT_DIEUP = s.field.configured ∧
    (s.metering = false → t.meter = s.meter) ∧
    t = { s with regs := t.regs, field := t.field, records := t.records, meter := t.meter } := by
  obtain ⟨hlink, hup, hwithin⟩ := fieldStatusFrame_brings s amps volts pins
  have hnew : (fieldStatusFrame s amps volts pins).field.missed = 0 ∧
      (fieldStatusFrame s amps volts pins).field.latchOffs = [] ∧
      (fieldStatusFrame s amps volts pins).field.restart = false := ⟨rfl, rfl, rfl⟩
  generalize hu : fieldStatusFrame s amps volts pins = u at *
  have hdev : u.dev = s.dev := hwithin.part .dev
  have hmet : u.metering = s.metering := by
    rw [State.metering, State.metering, hwithin.flag R.MTR_STAT_RUN, State.powered, hdev, State.powered]
  let t : State := if u.metering then State.forEach u.meter.pqcs (fun c s => pqcTick s c) u else u
  have hexec : exec (.fieldStatusFrame amps volts pins) s = s.answer (if s.powered then t else s) := by
    simp only [t, ← hu]
    rfl
  have htick : Within .pqc u t := .ite (fun _ => .forEach (.refl _ u) _ fun c _ v hv => (within_pqcTick (by decide)).mpr hv)
    fun _ => .refl _ u
  have hall : Within (.or .statusFrame .pqc) s t := (hwithin.mono (by decide)).trans (htick.mono (by decide))
  have hfield : t.field = u.field := htick.part .field
  refine runs_of_powered hexec hpow (hall.part .pending) ⟨(htick.flag _).trans hlink, ?_, ?_, ?_, (htick.flag _).trans hup,
    fun hoff => ?_, hall.eq_patch⟩
  · rw [hfield, hnew.1]
  · rw [hfield, hnew.2.1]
  · rw [hfield, hnew.2.2]
  · have ht : t = u := if_neg (by simp [hmet, hoff])
    rw [ht]
    exact hwithin.part .meter

/-- The field interface alone differs. -/
theorem eq_with_field {s t : State} {f : FieldSt} (h : t = { s with field := f }) :
    t.pending = s.pending ∧ t = { s with field := t.field } := by
  subst h
  exact ⟨rfl, rfl⟩

theorem fieldLinkFallback_field (s : State) : ∃ f, fieldLinkFallback s = { s with field := f } := ⟨_, rfl⟩

theorem fieldDiePowerUp_field (s : State) (g : BitVec 4) : ∃ f, fieldDiePowerUp s g = { s with field := f } := ⟨_, rfl⟩

/-- Settles O39: each frame of the field link, by what it touches and what the die keeps. -/
theorem fieldLinkFrames : Obligations.FieldLinkFrames := by
  unfold Obligations.FieldLinkFrames
  refine ⟨fun s arr hpow harr => harr ▸ fieldCommandFrame_runs s hpow, fieldCommandFrame_lost, statusFrameMissing_runs,
    dieLinkLost_runs, fieldStatusFrame_runs, fun s => ?_, fun s g => ?_, fun s m hpow => ?_, fun s m hpow => ?_⟩
  · obtain ⟨f, hf⟩ := fieldLinkFallback_field s
    obtain ⟨hq, heq⟩ := eq_with_field hf
    exact runs_of_answer_eq (t := fieldLinkFallback s) rfl hq ⟨rfl, rfl, heq⟩
  · obtain ⟨f, hf⟩ := fieldDiePowerUp_field s g
    obtain ⟨hq, heq⟩ := eq_with_field hf
    exact runs_of_answer_eq (t := fieldDiePowerUp s g) rfl hq
      ⟨rfl, rfl, rfl, rfl, fieldDiePowerUp_fresh s g, fieldDiePowerUp_group s g, heq⟩
  · have hwithin := fieldAck_within s m.toNat
    have hfield : (fieldAck s m.toNat).field =
        { s.field with ackDue := s.field.ackDue ||| (m.toNat &&& s.get R.FIO_STAT_AWAIT) } := hwithin.part .field
    have hall : Within (.or ⟨[.field], []⟩ .report) s (fieldAck s m.toNat) :=
      ((within_field (by decide)).mpr (.refl _ s)).trans (hwithin.mono (by decide))
    exact runs_of_powered (t := fieldAck s m.toNat) rfl hpow (hwithin.part .pending)
      ⟨by rw [hfield], by rw [hfield], hall.eq_patch⟩
  · exact runs_of_powered (t := latchRestart s m.toNat) rfl hpow rfl ⟨rfl, rfl⟩

end Sys2Proof.Machine

/-!
The touches of tasks and event triggers, of the pins and trips of reflex, and of a change of the device state.
-/
namespace Sys2Proof.Machine
section
variable {T : Touch} {s t : State}

/-! ### Tasks and event triggers -/

@[simp ↓] theorem within_setCore {c : Nat} {k : Core} (hT : T.has .cores = true) :
    Within T s (t.setCore c k) ↔ Within T s t := within_cores hT
@[simp ↓] theorem within_setCls {c : Nat} {k : ClassSt} (hT : T.has .cycle = true) :
    Within T s (t.setCls c k) ↔ Within T s t := within_op (Touch.covers_part hT) (.parts rfl)
@[simp ↓] theorem within_setEvent {e : Nat} {k : EventSt} (hT : T.has .cycle = true) :
    Within T s (t.setEvent e k) ↔ Within T s t := within_op (Touch.covers_part hT) (.parts rfl)

/-- What a core shows of itself. -/
def Touch.coreShow : Touch := ⟨[], [.all R.ZC_STAT_TASK, .all R.ZC_STAT_EVT, .all R.ZC_STAT_CLASS, .all R.ZC_STAT_BUSY,
  .all R.ZC_STAT_PL, .all R.ZC_STAT_TH]⟩

@[simp ↓] theorem within_coreShow {c : Nat} (hT : T.covers .coreShow = true) :
    Within T s (coreShow t c) ↔ Within T s t := by
  refine within_op hT ?_
  unfold coreShow
  dsimp only
  split <;> simp (disch := decide) [↓within_setAll R.ZC_STAT_TASK, ↓within_setFlagAll R.ZC_STAT_EVT,
    ↓within_setAll R.ZC_STAT_EVT, ↓within_setAll R.ZC_STAT_CLASS, ↓within_setAll R.ZC_STAT_BUSY,
    ↓within_setAll R.ZC_STAT_PL, ↓within_setFlagAll R.ZC_STAT_TH]

/-- What tasks that start, stop for another or resume on their cores touch. -/
def Touch.tasks : Touch := .or ⟨[.cores, .cycle, .free], [.all R.CYC_ETCNT_RUNS]⟩ (.or .coreShow .store)

@[simp ↓] theorem within_taskStart {c : Nat} {r : TaskRef} (hT : T.covers .tasks = true) :
    Within T s (taskStart t c r) ↔ Within T s t := by
  refine within_op hT ?_
  unfold taskStart
  dsimp only
  split <;> simp (disch := decide) [↓within_addAll R.CYC_ETCNT_RUNS]

@[simp ↓] theorem within_taskPreempt {c : Nat} (hT : T.covers .tasks = true) :
    Within T s (taskPreempt t c) ↔ Within T s t := by
  refine within_op hT ?_
  unfold taskPreempt
  dsimp only [State.draw]
  split <;> simp (disch := decide)

@[simp ↓] theorem within_taskResume {c : Nat} (hT : T.covers .tasks = true) :
    Within T s (taskResume t c) ↔ Within T s t := by
  refine within_op hT ?_
  unfold taskResume
  dsimp only
  split <;> simp (disch := decide)

@[simp ↓] theorem within_coreNext {c : Nat} (hT : T.covers .tasks = true) :
    Within T s (coreNext t c) ↔ Within T s t := by
  refine within_op hT ?_
  unfold coreNext
  dsimp only
  split <;> simp (disch := decide)

@[simp ↓] theorem within_preemptSettle {c : Nat} (hT : T.covers .tasks = true) :
    Within T s (preemptSettle t c) ↔ Within T s t := by
  refine within_op hT ?_
  unfold preemptSettle
  refine .ite (fun _ => ?_) fun _ => .refl _ t
  split <;> simp (disch := decide)

@[simp ↓] theorem within_taskReady {r : TaskRef} (hT : T.covers .tasks = true) :
    Within T s (taskReady t r) ↔ Within T s t := by
  refine within_op hT ?_
  unfold taskReady
  split <;> simp (disch := decide)

/-- What an event trigger touches. -/
def Touch.trigger : Touch := .or ⟨[.power], [.all R.CYC_ETCNT_MERGED, .field R.CYC_EVT_EVMISS, .all R.CYC_ETTIM_TIME]⟩ .tasks

@[simp ↓] theorem within_triggerEvent {e n : Nat} (hT : T.covers .trigger = true) :
    Within T s (triggerEvent t e n) ↔ Within T s t := by
  refine within_op hT ?_
  have hwake : Within .trigger t (t.when (t.flag R.CLK_STAT_STOPPED) fun s =>
      { s with power := { s.power with pllWaking := true } }) := by simp (disch := decide)
  unfold triggerEvent
  refine .ite (fun _ => .refl _ t) fun _ => hwake.trans ?_
  generalize State.when t _ _ = u
  dsimp only
  refine .ite (fun _ => ?_) fun _ => ?_
  · simp (disch := decide) [↓within_addAll R.CYC_ETCNT_MERGED]
  · split <;> simp (disch := decide) [↓within_setAll R.CYC_ETTIM_TIME]

@[simp ↓] theorem within_triggerSource {r : TriggerSource} (hT : T.covers .trigger = true) :
    Within T s (triggerSource t r) ↔ Within T s t := by
  refine within_op hT (.forEach (.refl _ t) _ fun e _ u hu => .ite (fun _ => ?_) fun _ => hu)
  exact (within_triggerEvent (by decide)).mpr hu

/-- Outside RUN an event trigger starts nothing (R152). -/
theorem triggerSource_of_not_run {r : TriggerSource} (h : s.dev ≠ .run) : triggerSource s r = s := by
  have hone (e n : Nat) : triggerEvent s e n = s := if_pos (by simpa using h)
  refine forEach_induction (P := (· = s)) rfl fun e _ u hu => ?_
  subst hu
  simp only [hone, ite_self]

/-! ### Pins and trips -/

@[simp ↓] theorem within_setUnit {u : UnitSt} (hT : T.has .fabric = true) : Within T s (t.setUnit u) ↔ Within T s t :=
  within_fabric hT
@[simp ↓] theorem within_setQuire {q : Nat} {k : QuireSt} (hT : T.has .fabric = true) :
    Within T s (t.setQuire q k) ↔ Within T s t := within_fabric hT
@[simp ↓] theorem within_setArms {c : Nat} {f : ArmBit → Bool} (hT : T.has .fabric = true) :
    Within T s (setArms t c f) ↔ Within T s t := within_fabric hT
@[simp ↓] theorem within_armsFallback {c : Nat} (hT : T.has .fabric = true) :
    Within T s (armsFallback t c) ↔ Within T s t := within_fabric hT
@[simp ↓] theorem within_pinRelease {i : Nat} (hT : T.has .fabric = true) :
    Within T s (pinRelease t i) ↔ Within T s t := within_fabric hT

/-- What the reflex units touch beside the events that their pins trigger. -/
def Touch.reflex : Touch := ⟨[.fabric], [.field R.FAB_TRIP_T, .field R.FAB_TRIPEVT_EVT, .field R.FAB_EVT_TRIP,
  .field R.FAB_PINLVL_LEVEL, .upTo R.FAB_QSTAT_REFLEX 8, .field R.FAB_STAT_REFLEX]⟩

@[simp ↓] theorem within_tripUpdate {r : ReflexUnit} {i : Nat} (hT : T.covers .reflex = true) :
    Within T s (tripUpdate t r i) ↔ Within T s t :=
  within_op hT (by simp (disch := decide) [tripUpdate, tripSet])

@[simp ↓] theorem within_reflexStop {q : Nat} (hT : T.has .fabric = true) :
    Within T s (reflexStop t q) ↔ Within T s t :=
  within_op (Touch.covers_part hT) (.forEach (.refl _ t) _ fun _ _ _ hu => .forEach hu _ fun _ _ _ hv =>
    (within_pinRelease (by decide)).mpr hv)

end

/-- Event triggers stay within a touch of a state. -/
structure Triggers (T : Touch) (s : State) : Prop where
  source : ∀ u r, Within T s u → Within T s (triggerSource u r)

theorem Triggers.of_covers {T : Touch} (hT : T.covers .trigger = true) (s : State) : Triggers T s :=
  ⟨fun _ _ h => (within_triggerSource hT).mpr h⟩

/-- Outside RUN event triggers touch nothing. -/
theorem Triggers.of_not_run {T : Touch} (hT : T.has .dev = false) {s : State} (h : s.dev ≠ .run) : Triggers T s where
  source u _ hu := by
    have hdev : u.dev = s.dev := hu.part .dev hT
    rwa [triggerSource_of_not_run (by rwa [hdev])]

section
variable {T : Touch} {s t : State} (hT : T.covers .reflex = true) (htrig : Triggers T s)
include hT htrig

theorem Within.pinLevel (h : Within T s t) (i : Nat) (l : Bool) : Within T s (pinLevel t i l) := by
  have hput : Within .reflex t (t.putBit R.FAB_PINLVL_LEVEL i l) := by simp (disch := decide)
  exact .ite (fun _ => h) fun _ => htrig.source _ _ (h.trans (hput.mono hT))

theorem Within.pinDrive (h : Within T s t) (i : Nat) (l : Bool) : Within T s (pinDrive t i l) := by
  have hdrive : Within .reflex t { t with fabric := { t.fabric with
      drive := withBit t.fabric.drive i true, level := withBit t.fabric.level i l } } := .parts rfl
  have hput := h.trans (hdrive.mono hT)
  exact .ite (fun _ => hput) fun _ => hput.pinLevel hT htrig i l

omit htrig in
theorem Within.pinRelease (h : Within T s t) (i : Nat) : Within T s (Machine.pinRelease t i) :=
  h.trans (.mono (U := .reflex) (.parts rfl) hT)

theorem Within.reflexPins (h : Within T s t) (r : ReflexUnit) : Within T s (reflexPins t r) := by
  refine .forEach h _ fun i _ u hu => ?_
  split
  · exact hu
  · exact .ite (fun _ => hu) fun _ => .ite (fun _ => hu.pinRelease hT _) fun _ => hu.pinDrive hT htrig _ _

theorem Within.reflexOnce (h : Within T s t) {q : Nat} (hq : q < 8) : Within T s (reflexOnce t q) := by
  have hshow : Within .reflex t ((t.setFlag (R.FAB_QSTAT_REFLEX q) (reflexRuns t q)).putBit R.FAB_STAT_REFLEX q
      (reflexRuns t q)) := by
    simp (disch := decide) [↓within_setFlagUpTo R.FAB_QSTAT_REFLEX hq]
  have hput := h.trans (hshow.mono hT)
  refine .ite (fun _ => .forEach hput _ fun r _ u hu => ?_) fun _ => hput.trans (.mono (U := .reflex) ?_ hT)
  · refine .reflexPins hT htrig (.forEach hu _ fun i _ v hv => hv.trans (.mono (U := .reflex) ?_ hT)) r
    exact (within_tripUpdate (by decide)).mpr (.refl _ v)
  · exact (within_reflexStop (by decide)).mpr (.refl _ _)

theorem Within.reflexSettle (h : Within T s t) : Within T s (reflexSettle t) := by
  have rounds (n : Nat) : Within T s
      (Nat.repeat (fun s => State.forEach (List.range 8) (fun q s => Machine.reflexOnce s q) s) n t) := by
    induction n with
    | zero => exact h
    | succ n ih => exact .forEach ih _ fun q hq v hv => hv.reflexOnce hT htrig (List.mem_range.mp hq)
  exact rounds 4

theorem Within.pinsFallback (h : Within T s t) (c : Nat) : Within T s (pinsFallback t c) :=
  .forEach h _ fun _ _ _ hu => .ite (fun _ => hu.pinRelease hT _) fun _ => hu.pinDrive hT htrig _ _

/-- All classes with their pins and arms at fallback, and reflex settled. -/
theorem Within.fallback (h : Within T s t) : Within T s
    (Machine.reflexSettle (State.forEach (List.range 8) (fun c s => armsFallback (Machine.pinsFallback s c) c) t)) := by
  refine .reflexSettle hT htrig (.forEach h _ fun c _ u hu => ?_)
  exact (hu.pinsFallback hT htrig c).trans (.mono (U := .reflex) (.parts rfl) hT)

theorem Within.reflexStart (h : Within T s t) : Within T s (reflexStart t) := by
  have hclear : Within .reflex t (t.set R.FAB_TRIP_T 0) := by simp (disch := decide)
  exact (h.trans (hclear.mono hT)).fallback hT htrig

end

/-! ### The device state -/

/-- What a change of the device state touches beside it and the events that pins trigger. -/
def Touch.enter : Touch := .or ⟨[.meter], [.field R.PCI_VPEND_PEND, .field R.MTR_STAT_RUN, .field R.MTR_STAT_CLKON,
  .field R.FRC_STAT_LED]⟩ .reflex

section
variable {T : Touch} {s t : State}

theorem reflexEnd_within (s : State) : Within .reflex s (reflexEnd s) := by
  refine (within_fabric (by decide)).mpr (.forEach (.refl _ s) _ fun q hq u hu => ?_)
  have hq := List.mem_range.mp hq
  simpa (disch := decide) [↓within_setUpTo R.FAB_QSTAT_REFLEX hq] using hu

@[simp ↓] theorem within_meterStop (hT : T.covers ⟨[.meter], [.field R.MTR_STAT_RUN, .field R.MTR_STAT_CLKON]⟩ = true) :
    Within T s (meterStop t) ↔ Within T s t := within_op hT (by simp (disch := decide) [meterStop])

/-- A device state entered, before reflex starts or ends for it (R19). -/
def enterShown (s : State) (d : Dev) : State :=
  let s := { s with dev := d }.vector 1
  let s := if d = .load then meterStop s else s
  match d with
  | .off | .boot | .load => s.set R.FRC_STAT_LED 0
  | _ => s.setFlag R.FRC_STAT_LED (s.flag R.FRC_CTL_ENABLE && s.get R.FRC_STAT_COUNT != 0)

theorem enter_eq (s : State) (d : Dev) : s.enter d = if reflexState s == reflexState (enterShown s d) then enterShown s d
    else if reflexState s then reflexEnd (enterShown s d) else reflexStart (enterShown s d) := rfl

theorem enterShown_within (s : State) (d : Dev) : Within .enter { s with dev := d } (enterShown s d) := by
  cases d <;> simp (disch := decide) [enterShown]

/-- A device state entered: the state with it, and what follows from it. -/
theorem enter_within (s : State) (d : Dev) (hT : T.covers .enter = true) (htrig : Triggers T { s with dev := d }) :
    Within T { s with dev := d } (s.enter d) := by
  have href : T.covers .reflex = true := Touch.covers_trans hT (by decide)
  have hshown := (enterShown_within s d).mono hT
  rw [enter_eq]
  exact .ite (fun _ => hshown) fun _ => .ite (fun _ => hshown.trans ((reflexEnd_within _).mono href)) fun _ =>
    hshown.reflexStart href htrig

/-- What a change of the device state touches, where it may trigger events. -/
def Touch.enterAny : Touch := .or .enter .trigger

@[simp] theorem dev_enter (s : State) (d : Dev) : (s.enter d).dev = d :=
  (enter_within (T := .enterAny) s d (by decide) (.of_covers (by decide) _)).part .dev

@[simp ↓] theorem within_enter {d : Dev} (hT : T.covers (.or ⟨[.dev], []⟩ .enterAny) = true) :
    Within T s (t.enter d) ↔ Within T s t :=
  within_op hT <| .trans (t := { t with dev := d }) (.parts rfl) <| .mono
    (enter_within (T := .enterAny) t d (by decide) (.of_covers (by decide) _)) (by decide)

end

end Sys2Proof.Machine

/-!
What reset leaves (R17, R21, R29, R349, R371).
-/
namespace Sys2Proof.Machine

/-- The loss of a rail leads a device under power to OFF. -/
theorem dev_railLost (s : State) (rail : Nat) (h : s.powered = true) : (railLost s rail).dev = .off := by
  have hpow : ∀ p, State.powered { s with power := p } = true := fun _ => h
  unfold railLost
  dsimp only
  rw [if_neg (by simp [hpow])]
  exact dev_enter _ _

theorem runs_railLost (s : State) (rail : Fin 8) (h : s.powered = true) :
    Runs (.railLost rail) s fun t => t.dev = .off :=
  runs_of_answer (t := railLost s rail) rfl (dev_railLost s rail h)

/-- Settles O2: the words of reset, and OFF after the loss of a rail. -/
theorem resetValues : Obligations.ResetValues := by
  unfold Obligations.ResetValues
  refine ⟨⟨rfl, rfl, rfl, rfl, ?_, ?_, ?_, ?_, rfl, ?_, rfl, rfl, rfl⟩, fun rail => ?_⟩
  iterate 5 decide
  exact runs_railLost State.reset rail rfl

end Sys2Proof.Machine

/-!
Why a software trigger may change an event that its mask does not name (R135, R152).
-/
namespace Sys2Proof.Machine

/-- What a command that answers a state completes in has the registers and the cycle of that state. -/
theorem of_runs {s t : State} {c : Instr} {P : State → Prop} (h : exec c s = s.answer t) (hruns : Runs c s P) :
    ∃ u, P u ∧ u.regs = t.regs ∧ u.cycle = t.cycle := by
  obtain ⟨u, hu, hP⟩ := hruns
  rw [h] at hu
  injection hu with hu
  exact ⟨u, hP, by rw [← hu], by rw [← hu]⟩

/-- A folio with one core unit, of event 1. -/
def oneEventContent : FolioContent where
  role := 0
  standalone := true
  autostart := false
  startWarm := false
  settings := []
  pools := []
  points := []
  pointInit := []
  mirror := []
  wdgToken := 0
  wdgSlots := []
  fabrics := []
  cores := [⟨0, 0, 0, some 1, 0, none, false, [], 0, [], [], 0, 0, none, none, [], []⟩]
  segments := []
  areas := []
  unitIds := []
  lz7 := []
  vbases := []
  pinModes := []
  pinFallback := 0
  symbols := []
  channels := []
  runs := []
  nodes := []
  ownAddr := 0
  runDigest := []
  partner := none
  groups := []
  retainDigest := []
  keeperDigest := []
  snapshot := none
  map := []
  mapDigests := none

/-- In RUN: core 0 has no task but the task of event 0 ready, and the task of event 1, whose source is software, is placed
there. -/
def readyState : State :=
  { State.reset with
    dev := .run
    folio := { State.reset.folio with content := some oneEventContent }
    cores := State.reset.cores.set 0 { Core.fresh with ready := [⟨0, 0, some 0, false⟩] }
    imposer := { ImposerSt.fresh with sheet := [⟨1, 0, 0, false, false, false, 0, 0, 0, 0, 0, 0, 0, []⟩] } }.set
    (R.CYC_ETCFG_SRC 1) 6

/-- The trigger of event 1 puts its task behind that of event 0 on the core without a task, which then starts it. -/
theorem softwareTrigger_starts_other : (readyState.event 0).running = false ∧
    ((softwareTrigger readyState 2).event 0).running = true := by
  constructor <;> decide +kernel

/-- Refutes O16: a software trigger of event 1 alone starts the task of event 0 that is ready on the core (R133, R152), so
an event that CYC_ETSW does not name changes. -/
theorem not_eventTasks : ¬ Obligations.EventTasks := by
  unfold Obligations.EventTasks
  rintro ⟨_, _, _, hsoft, _⟩
  obtain ⟨u, ⟨hnamed, _⟩, _, hcycle⟩ := of_runs (t := softwareTrigger readyState 2) rfl (hsoft readyState 2#32 rfl)
  have hevent : u.event 0 = (softwareTrigger readyState 2).event 0 := by rw [State.event, hcycle, State.event]
  have hother : u.event 0 = readyState.event 0 := hnamed 0 (.inl rfl)
  obtain ⟨hbefore, hafter⟩ := softwareTrigger_starts_other
  rw [← hevent, hother, hbefore] at hafter
  exact Bool.false_ne_true hafter

end Sys2Proof.Machine

/-!
Why a takeover may leave TWN_STAT.PSTATE other than 1 (R327, R362).
-/
namespace Sys2Proof.Machine

/-- A standby of a pair whose takeover is due, and whose folio expects a node at address 1920, the word of whose table
entry would lie at TWN_STAT. -/
def farNodeState : State :=
  { State.reset with
    dev := .standby
    folio := { State.reset.folio with
      content := some { oneEventContent with standalone := false, cores := [], nodes := [⟨1920, false, false, false, none, []⟩] } }
    spine := { State.reset.spine with nodes := [⟨1920, some ⟨1, false, false, 0, false, 0, 0, 0, false, 0, 0, 0, []⟩, none, false, false⟩] }
    twin := { State.reset.twin with takeFrom := some 0 } }

/-- The state that the node reports lies over PSTATE. -/
theorem takeover_pstate : (takeover farNodeState).get R.TWN_STAT_PSTATE ≠ 1 := by decide +kernel

theorem exec_takeover (s : State) (h : s.powered = true) : exec .takeover s = s.answer (takeover s) := by
  change s.answer (if s.powered then takeover s else s) = _
  rw [if_pos h]

/-- Refutes O38: a takeover reads the node table in (R327), and the entry of a node at address 1920 lies at TWN_STAT, so
that PSTATE reads what the node's state leaves there. -/
theorem not_twinTracking : ¬ Obligations.TwinTracking := by
  unfold Obligations.TwinTracking
  rintro ⟨_, _, _, _, _, _, _, _, _, _, _, _, htake, _⟩
  obtain ⟨u, ⟨_, _, hone, _⟩, hregs, _⟩ := of_runs (exec_takeover farNodeState rfl) (htake farNodeState 0 rfl rfl rfl)
  exact takeover_pstate (by rw [State.get, ← hregs]; exact hone)

end Sys2Proof.Machine

/-!
Why a reset may lose its cause bit where the registers are not in canonical form (R49, R613).
-/
namespace Sys2Proof.Machine

/-- A state whose registers list RST_CAUSE twice: the statements ask no canonical form of them. A read sees the first
pair; a reset writes the kept words again in their order, so that the last pair stays. -/
def twiceListed : State := { State.reset with regs := [(R.RST_CAUSE_PORST.addr, 1), (R.RST_CAUSE_PORST.addr, 0)] }

/-! ### The resets -/

theorem warmReset_twiceListed : (warmReset twiceListed R.RST_CAUSE_HOUSE).flag R.RST_CAUSE_HOUSE = false := by
  decide +kernel

/-- Refutes O7: HOUSE_FATAL_FAULT sets its cause bit in the first pair of RST_CAUSE, and the warm reset brings back the
second. -/
theorem not_resetsEnterBoot : ¬ Obligations.ResetsEnterBoot := by
  unfold Obligations.ResetsEnterBoot
  rintro ⟨_, _, _, _, hhouse, _⟩
  obtain ⟨u, ⟨_, _, hcause, _⟩, hregs, _⟩ :=
    of_runs (t := warmReset twiceListed R.RST_CAUSE_HOUSE) rfl (hhouse twiceListed rfl rfl (by decide) rfl)
  have hflag : u.flag R.RST_CAUSE_HOUSE = (warmReset twiceListed R.RST_CAUSE_HOUSE).flag R.RST_CAUSE_HOUSE := by
    simp only [State.flag, State.get, hregs]
  rw [warmReset_twiceListed, hcause] at hflag
  exact Bool.false_ne_true hflag.symm

/-! ### The commands -/

/-- What RESET_WARM makes of a state (R32). -/
def warmCommand (s : State) (m : Fin 18) : State :=
  sysCommand (s.usedBy m) m 4 (warmReset · R.RST_CAUSE_CMDWARM)

theorem exec_resetWarm (s : State) (m : Fin 18) (h : s.powered = true) :
    exec (.resetWarm m) s = s.answer (warmCommand s m) := by
  change s.answer (if s.powered then warmCommand s m else s) = _
  rw [if_pos h]

theorem warmCommand_twiceListed : (warmCommand twiceListed 0).flag R.RST_CAUSE_CMDWARM = false := by decide +kernel

/-- Refutes O10: RESET_WARM sets CMDWARM in the first pair of RST_CAUSE, and the reset brings back the second. -/
theorem not_systemCommandsRun : ¬ Obligations.SystemCommandsRun := by
  unfold Obligations.SystemCommandsRun
  rintro ⟨_, _, _, _, _, hwarm, _⟩
  obtain ⟨u, ⟨_, _, hcause⟩, hregs, _⟩ := of_runs (exec_resetWarm twiceListed 0 rfl)
    (hwarm twiceListed 0 rfl (by decide) rfl (by decide) rfl)
  have hflag : u.flag R.RST_CAUSE_CMDWARM = (warmCommand twiceListed 0).flag R.RST_CAUSE_CMDWARM := by
    simp only [State.flag, State.get, hregs]
  rw [warmCommand_twiceListed, hcause] at hflag
  exact Bool.false_ne_true hflag.symm

end Sys2Proof.Machine

/-!
What the operations of a start, of an activation and of a stop touch: nothing of the device state, of the folio, of
SYS_CMD, of the cause of FOL_STAT, of the instant of the start nor of the spine, and of SPN_STAT only its cause.
-/
namespace Sys2Proof.Machine

/-- All that the operations of a program's life touch, the device state, the folio and the spine apart. -/
def Touch.work : Touch where
  parts := [.mem, .poison, .free, .power, .handles, .cycle, .fabric, .cores, .imposer, .forces, .forceCmds, .olc,
    .time, .watchdog, .retain, .keeper, .records, .field, .meter, .can, .net, .mirror, .twin]
  bits := [⟨0xC00000, 1, some 1, 0, 36⟩, ⟨0xC00002, 1, some 0x3FFE, 0, 36⟩, ⟨0xC04000, 1, some 1, 5, 31⟩,
    ⟨0xC04001, 1, some 0x7FFF, 0, 36⟩, .field R.SPN_STAT_CAUSE, ⟨0xC0C001, 1, none, 0, 36⟩,
    .all R.ZC_STAT_TASK, .all R.ZC_STAT_EVT, .all R.ZC_STAT_CLASS, .all R.ZC_STAT_BUSY, .all R.ZC_STAT_PL,
    .all R.ZC_STAT_TH, .all R.CYC_ETCNT_RUNS, .all R.CYC_ETCNT_MERGED, .all R.CYC_ETTIM_TIME,
    .all R.FAB_QSTAT_STAGED, .all R.FAB_QSTAT_PLANE, .all R.FRC_PCMD_STATUS, .all R.FRC_PERR_CODE]

/-- Of the folio only what is not its content differs, and beside the folio only what a program's life touches. -/
structure Works (s t : State) : Prop where
  within : Within (.or ⟨[.folio], []⟩ .work) s t
  content : t.folio.content = s.folio.content

section
variable {s t : State}

/-! ### Channels -/

@[simp ↓] theorem within_mtrCommit {c : MeterCh} : Within .work s (mtrCommit t c) ↔ Within .work s t :=
  within_groupBegin (by decide)
@[simp ↓] theorem within_pqcCommit {c : PqcCh} : Within .work s (pqcCommit t c) ↔ Within .work s t :=
  within_groupBegin (by decide)

@[simp ↓] theorem within_setStation {c : StationCh} : Within .work s (t.setStation c) ↔ Within .work s t :=
  within_step (by simp (disch := decide) [State.setStation, ↓within_setAll R.STN_ST_STATE])

theorem within_setReg {a : Nat} {w : Word} (ha : 0xC0C001 ≤ a) : Within .work s (t.setReg a w) ↔ Within .work s t := by
  refine within_step ⟨fun c _ => by cases c <;> rfl, fun b j hj => ?_⟩
  rw [State.reg_setReg]
  split
  · next h =>
    subst h
    have hwide : 36 ≤ j := by
      have hspan := List.any_eq_false.mp hj ⟨0xC0C001, 1, none, 0, 36⟩ (by simp [Touch.work])
      simp [Span.hits, ha, Nat.mod_one] at hspan
      exact hspan
    rw [BitVec.getLsbD_of_ge _ _ hwide, BitVec.getLsbD_of_ge _ _ hwide]
  · rfl

@[simp ↓] theorem within_channelAttach {cls idx : Nat} {w : List Word} :
    Within .work s (channelAttach t cls idx w) ↔ Within .work s t := by
  refine within_step ?_
  unfold channelAttach
  split <;> simp (disch := decide) [↓within_setAll R.FIO_CCFG_CFG, stnAttach, canAttach, mtrAttach, pqcAttach, viewAttach]

@[simp ↓] theorem within_mtrDetach {i : Nat} : Within .work s (mtrDetach t i) ↔ Within .work s t := by
  refine within_step ?_
  unfold mtrDetach
  dsimp only
  split <;> simp (disch := decide)

@[simp ↓] theorem within_pqcDetach {i : Nat} : Within .work s (pqcDetach t i) ↔ Within .work s t := by
  refine within_step ?_
  unfold pqcDetach
  dsimp only
  split <;> simp (disch := decide)

@[simp ↓] theorem within_stnDetach {i : Nat} : Within .work s (stnDetach t i) ↔ Within .work s t := by
  have ha : 0xC0C001 ≤ (R.STN_ST_STATE i).addr := by simp only [R.STN_ST_STATE]; omega
  exact within_step (by simp (disch := decide) [stnDetach, ↓within_setReg ha])

@[simp ↓] theorem within_channelDetach {cls idx : Nat} :
    Within .work s (channelDetach t cls idx) ↔ Within .work s t := by
  refine within_step ?_
  unfold channelDetach
  split <;> simp (disch := decide) [↓within_setAll R.FIO_CCFG_CFG, canDetach, viewDetach]

@[simp ↓] theorem within_poolShow : Within .work s (poolShow t) ↔ Within .work s t :=
  within_forEach fun i hi u => by
    simp (disch := decide) [↓within_setUpTo R.HND_POOL_USED (List.mem_range.mp hi)]

@[simp ↓] theorem within_channelPut {c : Channel} : Within .work s (channelPut t c) ↔ Within .work s t :=
  within_step (by simp (disch := decide) [channelPut])

@[simp ↓] theorem within_channelDrop {cls idx : Nat} : Within .work s (channelDrop t cls idx) ↔ Within .work s t :=
  within_step (by simp (disch := decide) [channelDrop, genAdvance])

@[simp ↓] theorem within_channelsInit {c : FolioContent} : Within .work s (channelsInit t c) ↔ Within .work s t := by
  have hdetach : Within .work t (State.forEach t.handles.channels (fun ch s => channelDetach s ch.cls ch.idx) t) :=
    .forEach (.refl _ t) _ fun _ _ _ hu => within_channelDetach.mpr hu
  refine within_step (within_poolShow.mpr (.forEach ?_ _ fun _ _ _ hu => within_channelPut.mpr hu))
  exact (within_handles (by decide)).mpr hdetach

/-! ### Quires, staged planes and digests -/

theorem within_stagedValid {qs : List Nat} {ok : Nat → Bool} :
    Within .work s (stagedValid t qs ok) ↔ Within .work s t :=
  within_forEach fun q _ u => by simp (disch := decide) [↓within_setFlagAll R.FAB_QSTAT_STAGED]

@[simp ↓] theorem within_clearStaged : Within .work s (clearStaged t) ↔ Within .work s t :=
  within_stagedValid.trans (within_forEach fun _ _ _ => by simp (disch := decide))

@[simp ↓] theorem within_quireShow : Within .work s (quireShow t) ↔ Within .work s t :=
  within_forEach fun q hq u => by
    have hq := List.mem_range.mp hq
    simp (disch := decide) [↓within_setUpTo R.FAB_QSTAT_UNITS hq, ↓within_setUpTo R.FAB_QSTAT_LEAVES hq,
      ↓within_setUpTo R.FAB_QCELL_TIMERS hq, ↓within_setUpTo R.FAB_QCELL_COUNTERS hq, ↓within_setUpTo R.FAB_QMAX_LEVELS hq]

@[simp ↓] theorem within_planeExchange {qs : List Nat} : Within .work s (planeExchange t qs) ↔ Within .work s t :=
  within_quireShow.trans (within_forEach fun _ _ _ => by simp (disch := decide) [↓within_setAll R.FAB_QSTAT_PLANE])

theorem within_putDigest (f : Nat → Fld) {ws : List Word}
    (he : Even f := by exact ⟨by decide, fun _ => ⟨rfl, rfl, rfl⟩⟩) (hT : Touch.work.setsUpTo f 8 = true := by decide) :
    Within .work s (putDigest t f ws) ↔ Within .work s t :=
  within_forEach fun _ hi _ => (within_setUpTo f (List.mem_range.mp hi) he hT).mpr (.refl _ _)

@[simp ↓] theorem within_olcEnd {n : Nat} : Within .work s (t.olcEnd n) ↔ Within .work s t :=
  within_step (by simp (disch := decide) [State.olcEnd])

@[simp ↓] theorem within_olcRelease : Within .work s (olcRelease t) ↔ Within .work s t :=
  within_step (by simp (disch := decide) [olcRelease])

/-! ### Forces -/

@[simp ↓] theorem within_forceShow : Within .work s (forceShow t) ↔ Within .work s t :=
  within_step ((within_keeper (by decide)).mpr (by simp (disch := decide)))

@[simp ↓] theorem within_forceDrop {f : Force} : Within .work s (forceDrop t f) ↔ Within .work s t :=
  within_step (by simp (disch := decide) [forceDrop])

@[simp ↓] theorem within_forcesClear : Within .work s (forcesClear t) ↔ Within .work s t :=
  within_forceShow.trans (within_forces_forceCmds (by decide))

@[simp ↓] theorem within_forcesRecall : Within .work s (forcesRecall t) ↔ Within .work s t := by
  refine within_step (.ite (fun _ => ?_) fun _ => within_forcesClear.mpr (.forEach (.refl _ t) _ fun _ _ _ hu => ?_))
  · exact within_forceShow.mpr ((within_forces_forceCmds (by decide)).mpr (.refl _ t))
  · exact within_forceDrop.mpr hu

@[simp ↓] theorem within_forcesStart {a b : Bool} : Within .work s (forcesStart t a b) ↔ Within .work s t :=
  within_step (by simp (disch := decide) [forcesStart])

@[simp ↓] theorem within_forceEnd {p a b : Nat} : Within .work s (forceEnd t p a b) ↔ Within .work s t :=
  within_step (by simp (disch := decide) [forceEnd, ↓within_setAll R.FRC_PCMD_STATUS, ↓within_setAll R.FRC_PERR_CODE])

@[simp ↓] theorem within_forceSettle : Within .work s (forceSettle t) ↔ Within .work s t := by
  have htake (f : Force → Bool) (b : Bool) : Within .work t (forceTake t f b) := by
    simp (disch := decide) [forceTake, forceChanged]
  refine within_step ((htake (fun _ => true) false).trans (.forEach ?_ _ fun _ _ _ hu => within_forceEnd.mpr hu))
  exact (within_forceCmds (by decide)).mpr (.refl _ _)

@[simp ↓] theorem within_forcesFollow {c : FolioContent} {ps : List (Nat × Nat)} {l : List Force} :
    Within .work s (forcesFollow t c ps l) ↔ Within .work s t := by
  refine within_step (within_forceShow.mpr (.forEach ?_ _ fun _ _ _ hu => within_forceDrop.mpr hu))
  exact (within_forces (by decide)).mpr (.refl _ t)

/-! ### Contents of memory at a start and at an activation -/

@[simp ↓] theorem within_writeMember {c : FolioContent} {l : List SheetEntry} {h : SymHome} {m : Member} {v : Nat} :
    Within .work s (writeMember t c l h m v) ↔ Within .work s t := by
  refine within_step ?_
  unfold writeMember
  split
  · dsimp only
    split <;> simp (disch := decide)
  · simp (disch := decide)
  · exact .refl _ t

@[simp ↓] theorem within_putSymbol {c : FolioContent} {l : List SheetEntry} {o n : Symbol} {vs : List Nat} :
    Within .work s (putSymbol t c l o n vs) ↔ Within .work s t := by
  refine within_step (.forEach (.refl _ t) _ fun p _ u hu => ?_)
  split
  · exact hu
  · dsimp only
    refine .ite (fun _ => within_writeMember.mpr hu) fun _ => ?_
    split <;> simp (disch := decide) [hu]

@[simp ↓] theorem within_dataInit {c : FolioContent} {b : Bool} : Within .work s (dataInit t c b) ↔ Within .work s t := by
  refine within_step (.forEach (.refl _ t) _ fun g _ u hu => ?_)
  split <;> simp (disch := decide) [hu]

@[simp ↓] theorem within_imageInit {c : FolioContent} : Within .work s (imageInit t c) ↔ Within .work s t := by
  have hmem : Within .work t (State.forEach c.pointInit (fun p s => s.putPoint p.1 p.2.1 p.2.2.1 p.2.2.2)
      (State.forEach c.points (fun p s => s.putQual p.word p.global p.num 3) (t.clearRange 0x600000 0x800000))) := by
    refine .forEach (.forEach ?_ _ fun _ _ _ hu => ?_) _ fun _ _ _ hu => ?_
    · simp (disch := decide)
    · simpa (disch := decide) using hu
    · simpa (disch := decide) using hu
  exact within_step (hmem.trans (.parts rfl))

@[simp ↓] theorem within_recallCopy {r : Bool} {b : Bank} : Within .work s (recallCopy t r b) ↔ Within .work s t :=
  within_step (by simp (disch := decide) [recallCopy])

/-- The choice of a bank raises events of the retain store alone (R435). -/
theorem recallBank_within (s : State) (tag : Nat) : Within .work s (recallBank s tag).1 := by
  unfold recallBank
  simp only [apply_ite Prod.fst, ite_self]
  simp (disch := decide)

@[simp ↓] theorem within_carryInstance {a b : FolioContent} {l : List UnitSt} {x y : SymHome} :
    Within .work s (carryInstance t a b l x y) ↔ Within .work s t := by
  refine within_step ?_
  unfold carryInstance
  dsimp only
  split
  · split <;> simp (disch := decide)
  · split <;> simp (disch := decide)
  · split <;> simp (disch := decide)
  · exact .refl _ t

/-! ### Tasks, passes and counters at a start -/

@[simp ↓] theorem within_coresClear : Within .work s (coresClear t) ↔ Within .work s t :=
  within_forEach fun _ _ _ => by simp (disch := decide)
@[simp ↓] theorem within_passesClear : Within .work s (passesClear t) ↔ Within .work s t := within_fabric (by decide)
@[simp ↓] theorem within_classesClear : Within .work s (classesClear t) ↔ Within .work s t := within_step (.parts rfl)
@[simp ↓] theorem within_fabricInit {c : FolioContent} : Within .work s (fabricInit t c) ↔ Within .work s t :=
  within_fabric (by decide)

@[simp ↓] theorem within_countersStart {b : Bool} : Within .work s (countersStart t b) ↔ Within .work s t := by
  refine within_step (.forEach (.refl _ t) _ fun n _ u hu => ?_)
  split <;> simp (disch := decide) [hu]

@[simp ↓] theorem within_startRegs {a b : Bool} : Within .work s (startRegs t a b) ↔ Within .work s t := by
  refine within_step ((within_set (by decide)).mpr <| (within_keeper (by decide)).mpr <| (within_set (by decide)).mpr <|
    (within_set (by decide)).mpr <| .forEach (.forEach ?_ _ fun c hc u hu => ?_) _ fun e _ u hu => ?_)
  · simp (disch := decide)
  · have hc := List.mem_range.mp hc
    simpa (disch := decide) [↓within_setUpTo R.CYC_CNT_COUNT hc, ↓within_setUpTo R.CYC_PEAK_PEAK hc,
      ↓within_setUpTo R.CYC_CONS_CONS hc] using hu
  · simpa (disch := decide) [↓within_setAll R.CYC_ETCNT_RUNS, ↓within_setAll R.CYC_ETCNT_MERGED] using hu

/-! ### The folio -/

theorem Works.of_within (h : Within .work s t) : Works s t :=
  ⟨h.mono (by decide), congrArg FolioSt.content (h.part .folio)⟩

theorem Works.trans {u : State} (h : Works s t) (k : Works t u) : Works s u :=
  ⟨h.within.trans k.within, k.content.trans h.content⟩

theorem Works.ite {c : Prop} [Decidable c] {a b : State} (ha : c → Works s a) (hb : ¬ c → Works s b) :
    Works s (if c then a else b) := by
  split
  · next h => exact ha h
  · next h => exact hb h

theorem Works.when (h : Works s t) {b : Bool} {f : State → State} (hf : Works t (f t)) : Works s (t.when b f) := by
  cases b
  · exact h
  · exact h.trans hf

theorem Works.and {u : State} (h : Works s t) (k : Within .work t u) : Works s u := h.trans (.of_within k)

theorem Works.folio (h : Works s t) (f : FolioSt) (hf : f.content = t.folio.content) :
    Works s { t with folio := f } := h.trans ⟨(within_folio (by decide)).mpr (.refl _ t), hf⟩

theorem works_carryIn (s : State) (c : FolioContent) : Works s (carryIn s c) := by
  refine .ite (fun _ => .of_within (.refl _ s)) fun _ => .folio (.of_within (.forEach (.refl _ s) _
    fun v _ u hu => ?_)) _ rfl
  split
  · exact .ite (fun _ => within_carryInstance.mpr hu) fun _ => within_putSymbol.mpr hu
  · exact hu

/-- The bodies of the folio in force once an activation is confirmed (R455). -/
def confirmedBodies (s : State) (b : FolioContent) : List (Nat × Nat × List Word) :=
  s.olc.staged.elim s.folio.bodies fun i =>
    mergeBodies s.folio.bodies (folioBodies s i.words) (if hasGath (gatherings i.words) 1 then some b.unitIds else none)

theorem works_confirmNow (s : State) : Works s (confirmNow s) := by
  unfold confirmNow
  split
  · exact .of_within (.refl _ s)
  · next b _ =>
    have hdigest (u : State) (h : Works s u) : Works s { u with folio := { u.folio with bodies := confirmedBodies u b } } :=
      h.folio _ rfl
    dsimp only
    split
    all_goals
      refine .and (hdigest _ (.of_within ?_)) <| (within_olcTell (by decide)).mpr <| within_forceShow.mpr <|
        .when (within_olcRelease.mpr <| (within_set (by decide)).mpr <| (within_olc (by decide)).mpr <|
        (within_record (by decide)).mpr <| .when ((within_raise (by decide)).mpr <|
        (within_putDigest R.FOL_PDIGEST_DIGEST).mpr (.refl _ _)) ((within_storeTrigger (by decide)).mpr (.refl _ _)))
        (within_olcEnd.mpr (.refl _ _))
    · exact (within_putDigest R.FOL_DIGEST_DIGEST).mpr (.refl _ s)
    · exact .refl _ s

end
end Sys2Proof.Machine

/-!
What a start makes of a state (R486): the device state, the instant, the spine and the folio, and what else it touches.
-/
namespace Sys2Proof.Machine

/-- What a start touches. -/
def Touch.start : Touch := .or ⟨[.dev, .spine, .folio, .startAt], []⟩ .work

/-- A start under way: the device state is entered, and the spine has dropped the release and what was missed. -/
structure Starting (s : State) (d : Dev) (t : State) : Prop where
  dev : t.dev = d
  spine : t.spine = { s.spine with releaseAt := none, missed := [] }
  content : t.folio.content = s.folio.content
  within : Within .start s t

/-- A start under way whose instant is noted. -/
structure StartingAt (s : State) (d : Dev) (at' : Nat) (t : State) : Prop extends Starting s d t where
  startAt : t.cycle.startAt = at'

/-- A start carried out. -/
structure Started (s : State) (d : Dev) (at' : Nat) (t : State) : Prop extends StartingAt s d at' t where
  waiting : t.folio.waiting = none

section
variable {s t u : State} {d : Dev} {n : Nat}

theorem Starting.works (h : Starting s d t) (k : Works t u) : Starting s d u where
  dev := Eq.trans (k.within.part .dev) h.dev
  spine := Eq.trans (k.within.part .spine) h.spine
  content := k.content.trans h.content
  within := h.within.trans (k.within.mono (by decide))

theorem Starting.and (h : Starting s d t) (k : Within .work t u) : Starting s d u := h.works (.of_within k)

theorem StartingAt.works (h : StartingAt s d n t) (k : Works t u) : StartingAt s d n u where
  toStarting := h.toStarting.works k
  startAt := Eq.trans (k.within.part .startAt) h.startAt

theorem StartingAt.and (h : StartingAt s d n t) (k : Within .work t u) : StartingAt s d n u := h.works (.of_within k)

theorem Started.and (h : Started s d n t) (k : Within .work t u) : Started s d n u where
  toStartingAt := h.toStartingAt.and k
  waiting := Eq.trans (congrArg FolioSt.waiting (k.part .folio)) h.waiting

theorem Starting.at (h : Starting s d t) (n : Nat) :
    StartingAt s d n { t with cycle := { t.cycle with startAt := n } } where
  dev := h.dev
  spine := h.spine
  content := h.content
  within := (within_cycle (by decide)).mpr h.within
  startAt := rfl

theorem StartingAt.started (h : StartingAt s d n t) :
    Started s d n { t with folio := { t.folio with waiting := none } } where
  dev := h.dev
  spine := h.spine
  content := h.content
  within := (within_folio (by decide)).mpr h.within
  startAt := h.startAt
  waiting := rfl

/-- All outputs at fallback, and reflex settled. -/
theorem fallback_within (s : State) : Within .work s
    (reflexSettle (State.forEach (List.range 8) (fun c s => armsFallback (pinsFallback s c) c) s)) :=
  .fallback (by decide) (.of_covers (by decide) s) (.refl _ s)

/-- The device state entered in a start. -/
theorem starting_enter (h : Works s t) (d : Dev) (p : PowerSt) (m : MirrorSt) : Starting s d { t.enter d with
    power := p, mirror := m, spine := { (t.enter d).spine with releaseAt := none, missed := [] } } := by
  have henter := enter_within (T := .work) t d (by decide) (.of_covers (by decide) _)
  have hspine : (t.enter d).spine = s.spine := Eq.trans (henter.part .spine) (h.within.part .spine)
  have hdev : Within .start t { t with dev := d } := .parts rfl
  have hrest (u : State) (q : SpineSt) : Within .start u { u with power := p, mirror := m, spine := q } := .parts rfl
  exact ⟨henter.part .dev, by rw [hspine], Eq.trans (congrArg FolioSt.content (henter.part .folio)) h.content,
    (h.within.mono (by decide)).trans (hdev.trans ((henter.mono (by decide)).trans (hrest _ _)))⟩

/-- A start of a device with a folio (R486). -/
theorem startRun_started {c : FolioContent} (hc : s.content = some c) (mode : Nat) (d : Dev) (n : Nat) :
    Started s d n (startRun s mode d n) := by
  have bank (u : State) (c : FolioContent) : Within .work u
      (if mode = 2 then recallBank u (layoutTag c.retainDigest) else (u, Sum.inl 0)).1 := by
    split
    · exact recallBank_within _ _
    · exact .refl _ u
  unfold startRun
  extract_lets +lift s₁
  have h₁ : Works s s₁ := .when (.of_within (.refl _ s)) (works_confirmNow s)
  have hc₁ : s₁.content = some c := h₁.content.trans hc
  clear_value s₁
  split
  · next hnone => rw [hnone] at hc₁; exact nomatch hc₁
  next c' hsome =>
  extract_lets +lift r s₂ cold demoted s₃ s₄ power mirror spine s₅ s₆ s₇ cycle s₈ s₉ s₁₀ s₁₁ s₁₂ s₁₃ carried s₁₄ folio
    s₁₅ field s₁₆ retain s₁₇ watchdog s₁₈ twin s₁₉ s₂₀
  have h₂ : Works s s₂ := h₁.and (bank s₁ c')
  clear_value r s₂
  have h₃ : Works s s₃ := h₂.and (by
    unfold s₃
    split <;> simp (disch := decide))
  have h₅ : Starting s d s₅ := starting_enter h₃ d _ _
  have h₈ : StartingAt s d n s₈ := Starting.at (h₅.and (by simp (disch := decide) [s₇, s₆])) n
  have h₁₀ : Within .work s₈ s₁₀ := by
    unfold s₁₀ s₉
    split <;> simp (disch := decide)
  have h₁₃ : StartingAt s d n s₁₃ := h₈.and (h₁₀.trans (by simp (disch := decide) [s₁₃, s₁₂, s₁₁]))
  have h₁₄ : StartingAt s d n s₁₄ := (h₁₃.works (works_carryIn s₁₃ c')).and (within_forcesStart.mpr (.refl _ _))
  have h₁₅ : Started s d n s₁₅ := h₁₄.started
  have h₂₀ : Within .work s₁₅ s₂₀ := by simp (disch := decide) [s₂₀, s₁₉, s₁₈, s₁₇, s₁₆]
  exact (h₁₅.and h₂₀).and (fallback_within s₂₀)

end
end Sys2Proof.Machine

/-!
The node table of the spine (R325 to R327, R348): fields of it read after a write, its rows, and what the end of discovery
makes of it.
-/
namespace Sys2Proof.Machine

/-! ### Fields that lie apart -/

/-- Fields of two registers, or of one without a common bit. -/
def Apart (f g : Fld) : Prop :=
  f.lo + f.width ≤ 36 ∧ (g.addr = f.addr → f.lo + f.width ≤ g.lo ∨ g.lo + g.width ≤ f.lo)

theorem State.get_set_apart {s : State} {f g : Fld} {v : Nat} (h : Apart f g) : (s.set f v).get g = s.get g := by
  by_cases e : g.addr = f.addr
  · exact s.get_set_bits f g v h.1 (h.2 e)
  · exact s.get_set_addr f g v e

theorem State.flag_set_apart {s : State} {f g : Fld} {v : Nat} (h : Apart f g) : (s.set f v).flag g = s.flag g :=
  congrArg (· != 0) (State.get_set_apart h)

theorem State.flag_set_bitNat {s : State} {f : Fld} {b : Bool} (h : f.width = 1 ∧ f.lo < 36) :
    (s.set f (bitNat b)).flag f = b := s.flag_setFlag_same f b h

theorem State.flag_set_one {s : State} {f : Fld} (h : f.width = 1 ∧ f.lo < 36) : (s.set f 1).flag f = true :=
  s.flag_raise_same f h

theorem State.get_set_whole {s : State} {f : Fld} {v : Nat} (h : f.lo + f.width ≤ 36) :
    (s.set f v).get f = v % 2 ^ f.width := s.get_set_same f v h

/-- An event that stands is kept by raising any. -/
theorem State.flag_raise_of_flag {s : State} {f g : Fld} (hf : f.width = 1 ∧ f.lo < 36) (hg : g.width = 1)
    (h : s.flag g = true) : (s.raise f).flag g = true := by
  obtain ⟨hw, hlo⟩ := hf
  by_cases e : g.addr = f.addr ∧ g.lo = f.lo
  · have hfg : f = g := by
      cases f
      cases g
      simp_all
    exact hfg ▸ State.flag_set_one ⟨hw, hlo⟩
  · exact (State.flag_set_apart ⟨by omega, fun ha => by omega⟩).trans h

/-! ### The node table -/

/-- The registers of the spine, and its state. -/
def Touch.spn : Touch := ⟨[.spine], [⟨0xC0C000, 1, some 0x300, 0, 36⟩]⟩

section
variable {T : Touch} {s t : State}

@[simp ↓] theorem within_setNode {n : NodeSt} (hT : T.has .spine = true) : Within T s (t.setNode n) ↔ Within T s t :=
  within_spine hT

theorem State.node_addr {s : State} {a : Nat} {n : NodeSt} (h : s.node a = some n) : n.addr = a := by
  simpa using List.find?_some h

/-- The row of a node, or a row without a report where there is none. -/
def State.nodeRow (s : State) (a : Nat) : NodeSt := (s.node a).getD ⟨a, none, none, false, false⟩

@[simp] theorem State.nodeRow_addr (s : State) (a : Nat) : (s.nodeRow a).addr = a := by
  unfold State.nodeRow
  cases h : s.node a with
  | none => rfl
  | some n => exact State.node_addr h

/-- A row put into the node table is read there, and no other row changes. -/
theorem State.node_setNode (s : State) (n : NodeSt) (a : Nat) :
    (s.setNode n).node a = if a = n.addr then some n else s.node a := by
  unfold State.node State.setNode
  split
  · next h => exact List.find?_cons_of_pos (by simp [h])
  · next h =>
    rw [List.find?_cons_of_neg (by simpa using Ne.symm h), List.find?_filter]
    congr 1
    funext m
    by_cases e : m.addr = a
    · simp [e, h]
    · simp [e]

theorem State.node_congr {a : Nat} (h : t.spine = s.spine) : t.node a = s.node a := by
  rw [State.node, State.node, h]

/-! ### The end of discovery (R325, R326) -/

/-- What the end of discovery shows of an address: whether the folio names it and requires it, and whether it answered. -/
def nodeListed (c : FolioContent) (recs : List NodeRecord) (a : Nat) (s : State) : State :=
  ((s.setFlag (R.SPN_NODE_EXPECTED a) (c.nodes.find? (·.addr == a)).isSome).setFlag (R.SPN_NODE_REQUIRED a)
    ((c.nodes.find? (·.addr == a)).any (·.required))).setFlag (R.SPN_NODE_PRESENT a) (recs.any (·.addr == a))

/-- What the end of discovery shows of a record. -/
def nodeShown (c : FolioContent) (x : NodeRecord) (s : State) : State :=
  let t := (((s.set (R.SPN_NODE_STATE x.addr) x.state).set (R.SPN_NODE_INDEX x.addr) x.index).set
    (R.SPN_NODE_HOPS x.addr) x.hops).set (R.SPN_NODE1_CAUSE x.addr) (recordCause s c x)
  (t.when (recordCause s c x != 0) (·.raise R.SPN_EVT_UNKNOWN)).when x.reversed (·.raise R.SPN_EVT_CABLE)

/-- A record that discovery brought, checked and noted. -/
def nodeRecorded (c : FolioContent) (x : NodeRecord) (s : State) : State :=
  (nodeShown c x s).setNode { (nodeShown c x s).nodeRow x.addr with
    record := some x, passed := recordCause s c x == 0 && x.folio }

/-- The nodes of a loop that discovery found. -/
def loopCount (recs : List NodeRecord) (b : Bool) : Nat :=
  recs.countP fun x => decide (x.addr < 2) || decide (64 ≤ x.addr) == b

/-- The numbers of nodes shown, of each loop that is there. -/
def loopsCounted (recs : List NodeRecord) (s : State) : State :=
  let s := if s.get R.SPN_STAT_LOOPA = 0 then s else s.set R.SPN_STAT_NA (loopCount recs false)
  if s.get R.SPN_STAT_LOOPB = 0 then s else s.set R.SPN_STAT_NB (loopCount recs true)

theorem discoveryEnd_eq {c : FolioContent} (hc : s.content = some c) (hact : s.acting = true)
    (hdisc : s.spine.discovering = true) : discoveryEnd s = loopsCounted s.spine.records
      (State.forEach s.spine.records (nodeRecorded c) (State.forEach (List.range 128) (nodeListed c s.spine.records)
        { s with spine := { s.spine with discovering := false } })) := by
  unfold discoveryEnd
  simp only [hc, hact, hdisc]
  rfl
/-- What the end of discovery shows of an address stands there. -/
def Listed (c : FolioContent) (recs : List NodeRecord) (a : Nat) (t : State) : Prop :=
  t.flag (R.SPN_NODE_PRESENT a) = recs.any (·.addr == a) ∧
  t.flag (R.SPN_NODE_EXPECTED a) = (c.nodes.find? (·.addr == a)).isSome ∧
  t.flag (R.SPN_NODE_REQUIRED a) = (c.nodes.find? (·.addr == a)).any (·.required)

theorem Listed.set {c : FolioContent} {recs : List NodeRecord} {a : Nat} (h : Listed c recs a t) {f : Fld} {v : Nat}
    (hp : Apart f (R.SPN_NODE_PRESENT a)) (he : Apart f (R.SPN_NODE_EXPECTED a)) (hr : Apart f (R.SPN_NODE_REQUIRED a)) :
    Listed c recs a (t.set f v) :=
  ⟨(State.flag_set_apart hp).trans h.1, (State.flag_set_apart he).trans h.2.1, (State.flag_set_apart hr).trans h.2.2⟩

theorem nodeListed_listed (c : FolioContent) (recs : List NodeRecord) (a : Nat) (s : State) :
    Listed c recs a (nodeListed c recs a s) := by
  refine ⟨State.flag_set_bitNat ⟨rfl, by simp [R.SPN_NODE_PRESENT]⟩, ?_, ?_⟩
  · simp only [nodeListed, State.setFlag_eq]
    rw [State.flag_set_apart (by simp [Apart, R.SPN_NODE_PRESENT, R.SPN_NODE_EXPECTED]),
      State.flag_set_apart (by simp [Apart, R.SPN_NODE_REQUIRED, R.SPN_NODE_EXPECTED])]
    exact State.flag_set_bitNat ⟨rfl, by simp [R.SPN_NODE_EXPECTED]⟩
  · simp only [nodeListed, State.setFlag_eq]
    rw [State.flag_set_apart (by simp [Apart, R.SPN_NODE_PRESENT, R.SPN_NODE_REQUIRED])]
    exact State.flag_set_bitNat ⟨rfl, by simp [R.SPN_NODE_REQUIRED]⟩

/-- The words of the node table lie two apart, the second with the losses. -/
theorem apart_node {f g : Nat → Fld} {a b : Nat} (hab : a ≠ b)
    (hf : (f a).lo + (f a).width ≤ 36 ∧ ((f a).addr = 0xC0C100 + 2 * a ∨ (f a).addr = 0xC0C101 + 2 * a))
    (hg : (g b).addr = 0xC0C100 + 2 * b ∨ (g b).addr = 0xC0C101 + 2 * b) : Apart (f a) (g b) :=
  ⟨hf.1, fun e => by omega⟩

theorem Listed.nodeListed {c : FolioContent} {recs : List NodeRecord} {a : Nat} (h : Listed c recs a t) (b : Nat) :
    Listed c recs a (nodeListed c recs b t) := by
  by_cases e : b = a
  · exact e ▸ nodeListed_listed c recs b t
  · have hset {u : State} (hu : Listed c recs a u) (f : Nat → Fld) (v : Nat)
        (hf : (f b).lo + (f b).width ≤ 36 ∧ ((f b).addr = 0xC0C100 + 2 * b ∨ (f b).addr = 0xC0C101 + 2 * b)) :
        Listed c recs a (u.set (f b) v) :=
      hu.set (apart_node e hf (.inl rfl)) (apart_node e hf (.inl rfl)) (apart_node e hf (.inl rfl))
    exact hset (hset (hset h R.SPN_NODE_EXPECTED _ ⟨by simp [R.SPN_NODE_EXPECTED], .inl rfl⟩) R.SPN_NODE_REQUIRED _
      ⟨by simp [R.SPN_NODE_REQUIRED], .inl rfl⟩) R.SPN_NODE_PRESENT _ ⟨by simp [R.SPN_NODE_PRESENT], .inl rfl⟩

/-! ### The records of discovery -/

/-- The fields of a row that the end of discovery writes. -/
def rowFields (a : Nat) : List Fld := [R.SPN_NODE_STATE a, R.SPN_NODE_INDEX a, R.SPN_NODE_HOPS a, R.SPN_NODE1_CAUSE a]

theorem rowFields_addr {f : Fld} {a : Nat} (hf : f ∈ rowFields a) : f.lo + f.width ≤ 36 ∧
    (f.addr = 0xC0C100 + 2 * a ∧ f.lo + f.width ≤ 32 ∨ f.addr = 0xC0C101 + 2 * a) := by
  simp only [rowFields, List.mem_cons, List.not_mem_nil, or_false] at hf
  rcases hf with rfl | rfl | rfl | rfl <;>
    simp [R.SPN_NODE_STATE, R.SPN_NODE_INDEX, R.SPN_NODE_HOPS, R.SPN_NODE1_CAUSE]

/-- What the end of discovery writes of a record: fields of its rows, events, and its row of the table. -/
theorem nodeShown_induction {P : State → Prop} {c : FolioContent} {x : NodeRecord}
    (hset : ∀ f ∈ rowFields x.addr, ∀ u v, P u → P (u.set f v))
    (hraise : ∀ f ∈ [R.SPN_EVT_UNKNOWN, R.SPN_EVT_CABLE], ∀ u, P u → P (u.raise f)) (h : P s) :
    P (nodeShown c x s) := by
  have hwhen (b : Bool) (f : Fld) (hf : f ∈ [R.SPN_EVT_UNKNOWN, R.SPN_EVT_CABLE]) (u : State) (hu : P u) :
      P (u.when b (·.raise f)) := by
    cases b
    · exact hu
    · exact hraise f hf u hu
  exact hwhen _ _ (by simp) _ <| hwhen _ _ (by simp) _ <| hset _ (by simp [rowFields]) _ _ <|
    hset _ (by simp [rowFields]) _ _ <| hset _ (by simp [rowFields]) _ _ <| hset _ (by simp [rowFields]) _ _ h

theorem nodeRecorded_within {c : FolioContent} {x : NodeRecord} (hx : x.addr < 128) :
    Within .spn s (nodeRecorded c x t) ↔ Within .spn s t := by
  refine (within_setNode (by decide)).trans (within_step (nodeShown_induction (fun f hf u v hu => ?_)
    (fun f hf u hu => ?_) (.refl _ t)))
  · simp only [rowFields, List.mem_cons, List.not_mem_nil, or_false] at hf
    rcases hf with rfl | rfl | rfl | rfl
    · exact (within_setUpTo R.SPN_NODE_STATE hx (hT := by decide)).mpr hu
    · exact (within_setUpTo R.SPN_NODE_INDEX hx (hT := by decide)).mpr hu
    · exact (within_setUpTo R.SPN_NODE_HOPS hx (hT := by decide)).mpr hu
    · exact (within_setUpTo R.SPN_NODE1_CAUSE hx (hT := by decide)).mpr hu
  · simp only [List.mem_cons, List.not_mem_nil, or_false] at hf
    rcases hf with rfl | rfl <;> exact (within_raise (by decide)).mpr hu

theorem Listed.nodeRecorded {c : FolioContent} {recs : List NodeRecord} {a : Nat} (h : Listed c recs a t)
    (x : NodeRecord) : Listed c recs a (nodeRecorded c x t) := by
  refine nodeShown_induction (P := Listed c recs a) (fun f hf u v hu => ?_) (fun f hf u hu => ?_) h
  · obtain ⟨hw, haddr⟩ := rowFields_addr hf
    have hlow {g : Fld} (hg : g.addr = 0xC0C100 + 2 * a ∧ 32 ≤ g.lo) : Apart f g := ⟨hw, fun e => by omega⟩
    exact hu.set (hlow ⟨rfl, by simp [R.SPN_NODE_PRESENT]⟩) (hlow ⟨rfl, by simp [R.SPN_NODE_EXPECTED]⟩)
      (hlow ⟨rfl, by simp [R.SPN_NODE_REQUIRED]⟩)
  · have hevt : f.addr = 0xC0C001 ∧ f.lo + f.width ≤ 36 := by
      simp only [List.mem_cons, List.not_mem_nil, or_false] at hf
      rcases hf with rfl | rfl <;> decide
    have hlow {g : Fld} (hg : g.addr = 0xC0C100 + 2 * a) : Apart f g := ⟨hevt.2, fun e => by omega⟩
    exact hu.set (hlow rfl) (hlow rfl) (hlow rfl)

/-- What the end of discovery makes of a record whose check gives `k` stands there. -/
structure Recorded (k : Nat) (x : NodeRecord) (t : State) : Prop where
  state : t.get (R.SPN_NODE_STATE x.addr) = x.state % 16
  index : t.get (R.SPN_NODE_INDEX x.addr) = x.index % 64
  hops : t.get (R.SPN_NODE_HOPS x.addr) = x.hops % 64
  cause : t.get (R.SPN_NODE1_CAUSE x.addr) = k
  passed : (t.node x.addr).map (·.passed) = some (k == 0 && x.folio)
  unknown : k ≠ 0 → t.flag R.SPN_EVT_UNKNOWN = true
  cable : x.reversed = true → t.flag R.SPN_EVT_CABLE = true

section
variable {k : Nat} {x : NodeRecord}

theorem Recorded.set (h : Recorded k x t) {f : Fld} {v : Nat} (hw : f.lo + f.width ≤ 36)
    (hrow : f.addr ≠ 0xC0C100 + 2 * x.addr ∧ f.addr ≠ 0xC0C101 + 2 * x.addr)
    (hevt : ∀ g ∈ [R.SPN_EVT_UNKNOWN, R.SPN_EVT_CABLE], Apart f g) : Recorded k x (t.set f v) where
  state := (State.get_set_apart ⟨hw, fun e => absurd e.symm hrow.1⟩).trans h.state
  index := (State.get_set_apart ⟨hw, fun e => absurd e.symm hrow.1⟩).trans h.index
  hops := (State.get_set_apart ⟨hw, fun e => absurd e.symm hrow.1⟩).trans h.hops
  cause := (State.get_set_apart ⟨hw, fun e => absurd e.symm hrow.2⟩).trans h.cause
  passed := h.passed
  unknown hk := (State.flag_set_apart (hevt _ (by simp))).trans (h.unknown hk)
  cable hk := (State.flag_set_apart (hevt _ (by simp))).trans (h.cable hk)

theorem Recorded.raise (h : Recorded k x t) {f : Fld} (hf : f ∈ [R.SPN_EVT_UNKNOWN, R.SPN_EVT_CABLE]) :
    Recorded k x (t.raise f) := by
  have hbit : f.addr = 0xC0C001 ∧ f.width = 1 ∧ f.lo < 36 := by
    simp only [List.mem_cons, List.not_mem_nil, or_false] at hf
    rcases hf with rfl | rfl <;> decide
  obtain ⟨haddr, hwidth, hlo⟩ := hbit
  have hrow {g : Fld} (hg : 0xC0C100 ≤ g.addr) : Apart f g := ⟨by omega, fun e => by omega⟩
  exact {
    state := (State.get_set_apart (hrow (Nat.le_add_right _ _))).trans h.state
    index := (State.get_set_apart (hrow (Nat.le_add_right _ _))).trans h.index
    hops := (State.get_set_apart (hrow (Nat.le_add_right _ _))).trans h.hops
    cause := (State.get_set_apart (hrow (by simp only [R.SPN_NODE1_CAUSE]; omega))).trans h.cause
    passed := h.passed
    unknown := fun hk => State.flag_raise_of_flag ⟨hwidth, hlo⟩ rfl (h.unknown hk)
    cable := fun hk => State.flag_raise_of_flag ⟨hwidth, hlo⟩ rfl (h.cable hk) }

/-- A record noted at another address leaves what stands of this one. -/
theorem Recorded.nodeRecorded (h : Recorded k x t) {y : NodeRecord} (hy : y.addr ≠ x.addr) (c : FolioContent) :
    Recorded k x (nodeRecorded c y t) := by
  have hshown : Recorded k x (nodeShown c y t) := by
    refine nodeShown_induction (fun f hf u v hu => ?_) (fun f hf u hu => hu.raise hf) h
    obtain ⟨hw, haddr⟩ := rowFields_addr hf
    refine hu.set hw (by omega) fun g hg => ⟨hw, fun e => ?_⟩
    simp only [List.mem_cons, List.not_mem_nil, or_false] at hg
    have : g.addr = 0xC0C001 := by rcases hg with rfl | rfl <;> rfl
    omega
  obtain ⟨hstate, hindex, hhops, hcause, hpassed, hunknown, hcable⟩ := hshown
  refine ⟨hstate, hindex, hhops, hcause, ?_, hunknown, hcable⟩
  rw [Machine.nodeRecorded, State.node_setNode, if_neg (by simpa using Ne.symm hy)]
  exact hpassed

theorem recordCause_lt (s : State) (c : FolioContent) (x : NodeRecord) : recordCause s c x < 32 := by
  unfold recordCause
  split
  · decide
  · repeat' split
    all_goals decide

theorem State.get_when_raise {b : Bool} {f g : Fld} (h : Apart f g) : (s.when b (·.raise f)).get g = s.get g := by
  cases b
  · rfl
  · exact State.get_set_apart h

theorem State.flag_when_raise {b : Bool} {f : Fld} (hf : f.width = 1 ∧ f.lo < 36) (h : b = true) :
    (s.when b (·.raise f)).flag f = true := by
  subst h
  exact State.flag_set_one hf

/-- A record noted stands in its rows. -/
theorem nodeRecorded_recorded (c : FolioContent) (x : NodeRecord) (s : State) :
    Recorded (recordCause s c x) x (nodeRecorded c x s) := by
  have hevt {u : State} {g : Fld} (hg : 0xC0C100 ≤ g.addr) {b b' : Bool} :
      ((u.when b (·.raise R.SPN_EVT_UNKNOWN)).when b' (·.raise R.SPN_EVT_CABLE)).get g = u.get g := by
    have hapart {f : Fld} (hf : f.addr = 0xC0C001 ∧ f.lo + f.width ≤ 36) : Apart f g := ⟨hf.2, fun e => by omega⟩
    rw [State.get_when_raise (hapart ⟨rfl, by decide⟩), State.get_when_raise (hapart ⟨rfl, by decide⟩)]
  have hrow {u : State} {f g : Fld} {v : Nat} (h : Apart f g) : (u.set f v).get g = u.get g := State.get_set_apart h
  refine ⟨?_, ?_, ?_, ?_, ?_, fun hk => ?_, fun hk => ?_⟩
  · refine (hevt (Nat.le_add_right _ _)).trans ?_
    rw [hrow (by simp [Apart, R.SPN_NODE_STATE, R.SPN_NODE1_CAUSE]),
      hrow (by simp [Apart, R.SPN_NODE_STATE, R.SPN_NODE_HOPS]), hrow (by simp [Apart, R.SPN_NODE_STATE, R.SPN_NODE_INDEX])]
    exact State.get_set_whole (by simp [R.SPN_NODE_STATE])
  · refine (hevt (Nat.le_add_right _ _)).trans ?_
    rw [hrow (by simp [Apart, R.SPN_NODE_INDEX, R.SPN_NODE1_CAUSE]),
      hrow (by simp [Apart, R.SPN_NODE_INDEX, R.SPN_NODE_HOPS])]
    exact State.get_set_whole (by simp [R.SPN_NODE_INDEX])
  · refine (hevt (Nat.le_add_right _ _)).trans ?_
    rw [hrow (by simp [Apart, R.SPN_NODE_HOPS, R.SPN_NODE1_CAUSE])]
    exact State.get_set_whole (by simp [R.SPN_NODE_HOPS])
  · refine (hevt (by simp only [R.SPN_NODE1_CAUSE]; omega)).trans ?_
    rw [State.get_set_whole (by simp [R.SPN_NODE1_CAUSE])]
    exact Nat.mod_eq_of_lt (recordCause_lt s c x)
  · rw [nodeRecorded, State.node_setNode, if_pos (by simp)]
    rfl
  · refine Eq.trans (congrArg (· != 0) (State.get_when_raise (f := R.SPN_EVT_CABLE) ⟨by decide, fun _ => by decide⟩)) ?_
    exact State.flag_when_raise ⟨rfl, by decide⟩ (by simpa using hk)
  · exact State.flag_when_raise ⟨rfl, by decide⟩ hk

/-- The counts of the nodes that are found write SPN_STAT alone. -/
theorem loopsCounted_induction {P : State → Prop} (recs : List NodeRecord)
    (hset : ∀ f ∈ [R.SPN_STAT_NA, R.SPN_STAT_NB], ∀ u v, P u → P (u.set f v)) (h : P s) : P (loopsCounted recs s) := by
  have hna : P (if s.get R.SPN_STAT_LOOPA = 0 then s else s.set R.SPN_STAT_NA (loopCount recs false)) := by
    split
    · exact h
    · exact hset _ (by simp) _ _ h
  have hnb {u : State} (hu : P u) : P (if u.get R.SPN_STAT_LOOPB = 0 then u else u.set R.SPN_STAT_NB (loopCount recs true)) := by
    split
    · exact hu
    · exact hset _ (by simp) _ _ hu
  exact hnb hna

theorem stat_fields {f : Fld} (hf : f ∈ [R.SPN_STAT_NA, R.SPN_STAT_NB]) : f.addr = 0xC0C000 ∧ f.lo + f.width ≤ 36 := by
  simp only [List.mem_cons, List.not_mem_nil, or_false] at hf
  rcases hf with rfl | rfl <;> decide

end

theorem loopsCounted_within (recs : List NodeRecord) (h : Within .spn s t) : Within .spn s (loopsCounted recs t) := by
  refine loopsCounted_induction recs (fun f hf u v hu => ?_) h
  simp only [List.mem_cons, List.not_mem_nil, or_false] at hf
  rcases hf with rfl | rfl <;> exact (within_set (by decide)).mpr hu

theorem nodeListed_within {c : FolioContent} {recs : List NodeRecord} {a : Nat} (ha : a < 128) :
    Within .spn s (nodeListed c recs a t) ↔ Within .spn s t :=
  within_step <| (within_setFlagUpTo R.SPN_NODE_PRESENT ha (hT := by decide)).mpr <|
    (within_setFlagUpTo R.SPN_NODE_REQUIRED ha (hT := by decide)).mpr <|
    (within_setFlagUpTo R.SPN_NODE_EXPECTED ha (hT := by decide)).mpr (.refl _ t)

/-- The end of discovery (R325, R326): what stands of every address and of every record. -/
theorem discoveryEnd_stands {c : FolioContent} (hc : s.content = some c) (hact : s.acting = true)
    (hdisc : s.spine.discovering = true) (hlt : ∀ x ∈ s.spine.records, x.addr < 128)
    (hpair : s.spine.records.Pairwise fun x y => x.addr ≠ y.addr) :
    (∀ a : Fin 128, Listed c s.spine.records a (discoveryEnd s)) ∧
    (∀ x ∈ s.spine.records, Recorded (recordCause s c x) x (discoveryEnd s)) ∧
    (discoveryEnd s).spine.discovering = false ∧ Within .spn s (discoveryEnd s) := by
  rw [discoveryEnd_eq hc hact hdisc]
  generalize s.spine.records = recs at *
  let s₁ : State := { s with spine := { s.spine with discovering := false } }
  have h₁ : Within .spn s s₁ ∧ s₁.spine.discovering = false := ⟨(within_spine (by decide)).mpr (.refl _ s), rfl⟩
  have hlisted : ∀ a ∈ List.range 128, Listed c recs a (State.forEach (List.range 128) (nodeListed c recs) s₁) :=
    forEach_each (P := fun _ => True) trivial (fun _ _ _ _ => trivial) (fun a _ u _ => nodeListed_listed c recs a u)
      fun a _ b u _ hu => hu.nodeListed a
  have h₂ : Within .spn s (State.forEach (List.range 128) (nodeListed c recs) s₁) ∧
      (State.forEach (List.range 128) (nodeListed c recs) s₁).spine.discovering = false :=
    forEach_induction (P := fun u => Within .spn s u ∧ u.spine.discovering = false) h₁ fun a ha u hu =>
      ⟨(nodeListed_within (List.mem_range.mp ha)).mpr hu.1, hu.2⟩
  generalize State.forEach (List.range 128) (nodeListed c recs) s₁ = s₂ at *
  have h₃ : Within .spn s (State.forEach recs (nodeRecorded c) s₂) ∧
      (State.forEach recs (nodeRecorded c) s₂).spine.discovering = false := by
    refine forEach_induction (P := fun u => Within .spn s u ∧ u.spine.discovering = false) h₂ fun x hx u hu =>
      ⟨(nodeRecorded_within (hlt x hx)).mpr hu.1, ?_⟩
    exact nodeShown_induction (P := fun v => v.spine.discovering = false) (fun _ _ _ _ hv => hv) (fun _ _ _ hv => hv) hu.2
  have hrecorded : ∀ x ∈ recs, x ∈ recs ∧ Recorded (recordCause s c x) x (State.forEach recs (nodeRecorded c) s₂) := by
    have hcause {u : State} (hu : Within .spn s u) (x : NodeRecord) : recordCause u c x = recordCause s c x := by
      unfold recordCause
      rw [hu.get R.STN_SYS_SYSID]
    have hown {u : State} (hu : Within .spn s u) (x : NodeRecord) :
        Recorded (recordCause s c x) x (nodeRecorded c x u) := hcause hu x ▸ nodeRecorded_recorded c x u
    refine forEach_each (P := Within .spn s)
      (Q := fun x u => x ∈ recs ∧ Recorded (recordCause s c x) x u) h₂.1 (fun x hx u hu => (nodeRecorded_within (hlt x hx)).mpr hu)
      (fun x hx u hu => ⟨hx, hown hu x⟩) fun x hx y u hu ⟨hy, hrec⟩ => ⟨hy, ?_⟩
    by_cases e : x.addr = y.addr
    · exact List.inj_on_of_nodup_map (List.pairwise_map.mpr hpair) hx hy e ▸ hown hu x
    · exact hrec.nodeRecorded e c
  have hlisted₃ (a : Fin 128) : Listed c recs a (State.forEach recs (nodeRecorded c) s₂) :=
    forEach_induction (P := Listed c recs a) (hlisted a (List.mem_range.mpr a.isLt)) fun x _ u hu => hu.nodeRecorded x
  generalize State.forEach recs (nodeRecorded c) s₂ = s₃ at *
  refine ⟨fun a => ?_, fun x hx => ?_, ?_, loopsCounted_within recs h₃.1⟩
  · refine loopsCounted_induction recs (fun f hf u v hu => ?_) (hlisted₃ a)
    obtain ⟨haddr, hw⟩ := stat_fields hf
    have hrow {g : Fld} (hg : g.addr = 0xC0C100 + 2 * a.val) : Apart f g := ⟨hw, fun e => by omega⟩
    exact hu.set (hrow rfl) (hrow rfl) (hrow rfl)
  · refine loopsCounted_induction recs (fun f hf u v hu => ?_) (hrecorded x hx).2
    obtain ⟨haddr, hw⟩ := stat_fields hf
    refine hu.set hw (by omega) fun g hg => ⟨hw, fun e => ?_⟩
    simp only [List.mem_cons, List.not_mem_nil, or_false] at hg
    have : g.addr = 0xC0C001 := by rcases hg with rfl | rfl <;> rfl
    omega
  · exact loopsCounted_induction recs (P := fun v => v.spine.discovering = false) (fun _ _ _ _ hv => hv) h₃.2

end
end Sys2Proof.Machine

/-!
The nodes of the spine: discovery, and a node that is lost (R26, R88, R325 to R327, R342).
-/
namespace Sys2Proof.Machine
section
variable {s t : State}

/-- The rows of the node table lie behind the registers of a touch. -/
theorem Touch.spares_row {T : Touch} {f : Fld} (hf : 0xC0C100 ≤ f.addr)
    (hT : (T.bits.all fun p => p.count == some 1 && p.stride == 1 && decide (p.base < 0xC0C100)) = true := by decide) :
    T.spares f = true := by
  simp only [Touch.spares, Touch.hits, List.all_eq_true, Bool.not_eq_true', List.any_eq_false]
  intro i _ p hp hhit
  have hsmall := List.all_eq_true.mp hT p hp
  simp only [Bool.and_eq_true, beq_iff_eq, decide_eq_true_eq] at hsmall
  obtain ⟨⟨hcount, hstride⟩, hbase⟩ := hsmall
  simp only [Span.hits, hcount, hstride, Option.all_some, Bool.and_eq_true, decide_eq_true_eq] at hhit
  omega

theorem discoveryEnd_runs (s : State) (c : FolioContent) (hpow : s.powered = true) (hc : s.content = some c)
    (hact : s.acting = true) (hdisc : s.spine.discovering = true)
    (hlt : (s.spine.records.all (fun x => decide (x.addr < 128)) = true))
    (hpair : s.spine.records.Pairwise (fun x y => x.addr ≠ y.addr)) :
    Runs (.discoveryEnd) s fun t => t.spine.discovering = false ∧ (∀ a : Fin 128,
    t.flag (R.SPN_NODE_PRESENT a) = s.spine.records.any (·.addr == a.val)) ∧ (∀ a : Fin 128,
    t.flag (R.SPN_NODE_EXPECTED a) = (c.nodes.find? (·.addr == a.val)).isSome) ∧ (∀ a : Fin 128,
    t.flag (R.SPN_NODE_REQUIRED a) = (c.nodes.find? (·.addr == a.val)).any (·.required)) ∧ (∀ x ∈ s.spine.records,
    t.get (R.SPN_NODE_STATE x.addr) = x.state % 16) ∧ (∀ x ∈ s.spine.records,
    t.get (R.SPN_NODE_INDEX x.addr) = x.index % 64) ∧ (∀ x ∈ s.spine.records,
    t.get (R.SPN_NODE_HOPS x.addr) = x.hops % 64) ∧ (∀ x ∈ s.spine.records,
    t.get (R.SPN_NODE1_CAUSE x.addr) = recordCause s c x) ∧ (∀ x ∈ s.spine.records,
    (t.node x.addr).map (·.passed) = some (recordCause s c x == 0 && x.folio)) ∧ (∀ x ∈ s.spine.records,
    recordCause s c x ≠ 0 → t.flag R.SPN_EVT_UNKNOWN = true) ∧ (∀ x ∈ s.spine.records, x.reversed = true →
    t.flag R.SPN_EVT_CABLE = true) ∧ t = { s with regs := t.regs, spine := t.spine } := by
  obtain ⟨hlisted, hrec, hdone, hwithin⟩ := discoveryEnd_stands hc hact hdisc
    (fun x hx => of_decide_eq_true (List.all_eq_true.mp hlt x hx)) hpair
  exact runs_of_powered rfl hpow (hwithin.part .pending) ⟨hdone, fun a => (hlisted a).1, fun a => (hlisted a).2.1,
    fun a => (hlisted a).2.2, fun x hx => (hrec x hx).state, fun x hx => (hrec x hx).index, fun x hx => (hrec x hx).hops,
    fun x hx => (hrec x hx).cause, fun x hx => (hrec x hx).passed, fun x hx => (hrec x hx).unknown,
    fun x hx => (hrec x hx).cable, hwithin.eq_patch⟩

theorem discoveryRepeat_runs (s : State) (hpow : s.powered = true) (hact : s.acting = true) :
    Runs (.discoveryRepeat) s fun t => t.spine.discovering = true ∧
    t.spine.records = [] ∧ t.spine.sent.head? = some (⟨3, 8, s.now % 2 ^ 36, []⟩ : SentFrame) ∧
    t = { s with spine := t.spine } := by
  have h : discoveryRepeat s = discoverBegin s := if_pos hact
  refine runs_of_powered (t := discoverBegin s) ?_ hpow rfl ⟨rfl, rfl, rfl, rfl⟩
  exact h ▸ rfl

/-! ### A node that is lost (R342) -/

/-- What the states of the loops touch. -/
def Touch.loops : Touch := ⟨[], [.field R.SPN_STAT_LOOPA, .field R.SPN_STAT_LOOPB, .field R.SPN_EVT_BREAK]⟩

theorem loopStates_within (s : State) : Within .loops s (loopStates s) := by
  refine .ite (fun _ => .refl _ s) fun _ => .forEach (.refl _ s) _ fun b _ u hu => ?_
  cases b <;> simp (disch := decide) [hu]

/-- What the end of a delivery touches: the folio's forwards and shelves, and FOL_STAT.CAUSE and FOL_CMD.STATUS. -/
def Touch.delivery : Touch := ⟨[.folio], [.field R.FOL_STAT_CAUSE, .field R.FOL_CMD_STATUS]⟩

theorem folCommandEnd_within (s : State) (b : Bool) (n : Nat) :
    Within ⟨[], [.field R.FOL_CMD_STATUS]⟩ s (folCommandEnd s b n) := by
  simp (disch := decide) [folCommandEnd]

theorem shelfPut_within (s : State) (b : Bool) (x : Option (Nat × Bool)) : Within ⟨[.folio], []⟩ s (shelfPut s b x) := by
  cases b <;> exact (within_folio (by decide)).mpr (.refl _ s)

theorem forwardEnd_ended (s : State) (n : Nat) {k : Nat} (hk : k ≠ 0 ∧ k < 32) :
    (forwardEnd s n k).folio = { s.folio with forward := none } ∧ (forwardEnd s n k).get R.FOL_STAT_CAUSE = k ∧
      Within .delivery s (forwardEnd s n k) := by
  obtain ⟨hne, hlt⟩ := hk
  have hcause : forwardEnd s n k =
      folCommandEnd ({ s with folio := { s.folio with forward := none } }.set R.FOL_STAT_CAUSE k) true n := by
    simp [forwardEnd, State.when, hne]
  have hend := folCommandEnd_within ({ s with folio := { s.folio with forward := none } }.set R.FOL_STAT_CAUSE k) true n
  rw [hcause]
  refine ⟨hend.part .folio, ?_, .trans ?_ (hend.mono (by decide))⟩
  · rw [hend.get R.FOL_STAT_CAUSE, State.get_set_same _ _ _ (by decide)]
    exact Nat.mod_eq_of_lt hlt
  · simp (disch := decide)

/-- What the loss of a node makes of the deliveries to it. -/
structure DeliveryLost (s : State) (a : Nat) (t : State) : Prop where
  forward : s.folio.forward.any (·.1 == a) = true → t.folio.forward = none ∧ t.get R.FOL_STAT_CAUSE = 24
  shelf : (shelfBusy t (decide (64 ≤ a))).any (·.1 == a) = false
  within : Within .delivery s t

theorem deliveryLost_lost (s : State) (a : Nat) : DeliveryLost s a (deliveryLost s a) := by
  obtain ⟨hfolio, hcause, hwithin⟩ := forwardEnd_ended s 6 (k := 24) (by decide)
  let u := if s.folio.forward.any (·.1 == a) then forwardEnd s 6 24 else s
  have hu : Within .delivery s u := .ite (fun _ => hwithin) fun _ => .refl _ s
  have hput := shelfPut_within u (decide (64 ≤ a)) none
  have hforward (h : s.folio.forward.any (·.1 == a) = true) : u.folio.forward = none ∧ u.get R.FOL_STAT_CAUSE = 24 := by
    simp only [u, if_pos h, hfolio, hcause, and_self]
  have hshelf : (shelfPut u (decide (64 ≤ a)) none).folio.forward = u.folio.forward ∧
      shelfBusy (shelfPut u (decide (64 ≤ a)) none) (decide (64 ≤ a)) = none := by
    cases decide (64 ≤ a) <;> exact ⟨rfl, rfl⟩
  show DeliveryLost s a (if (shelfBusy u (decide (64 ≤ a))).any (·.1 == a) then shelfPut u (decide (64 ≤ a)) none else u)
  split
  · exact ⟨fun h => ⟨hshelf.1.trans (hforward h).1, (hput.get _).trans (hforward h).2⟩, by rw [hshelf.2]; rfl,
      hu.trans (hput.mono (by decide))⟩
  · next hno => exact ⟨hforward, by simpa using hno, hu⟩

theorem lossTrigger_within (s : State) (on : SheetEntry → Bool) : Within ⟨[.imposer], []⟩ s (lossTrigger s on) :=
  .ite (fun _ => .parts rfl) fun _ => .refl _ s

theorem hostLoss_within (s : State) (a : Nat) : Within ⟨[.imposer], []⟩ s (hostLoss s a) := by
  unfold hostLoss
  split
  · exact .refl _ s
  · exact lossTrigger_within _ _

/-- Which hosts work depends on the node table alone. -/
theorem hostMembers_congr {c : FolioContent} (h : t.spine = s.spine) (n : Nat) : hostMembers t c n = hostMembers s c n := by
  unfold hostMembers
  congr 1
  funext m
  rw [hostsNow, hostsNow, State.node_congr h]

/-- A host whose last member is gone is a loss (R342). -/
theorem hostLoss_due {c : FolioContent} {a : Nat} (hc : s.content = some c)
    (h : s.imposer.sheet.any (fun e => e.kind == 1 && e.remote && e.addr == a / 2 * 2 &&
      (hostMembers s c e.addr).isEmpty) = true) : (hostLoss s a).imposer.lossDue = true := by
  unfold hostLoss
  rw [hc]
  exact congrArg (fun t : State => t.imposer.lossDue) (if_pos h)

/-- The node lost, as its rows show it (R342). -/
def nodeGone (s : State) (a : Nat) : State :=
  ((((s.setNode { s.nodeRow a with lost := true }).set (R.SPN_NODE_PRESENT a) 0).set (R.SPN_NODE_ADMITTED a) 0).add
    (R.SPN_NODE1_LOSSES a) 1).raise R.SPN_EVT_LOST

theorem nodeLoss_eq {a : Nat} (hact : s.acting = true) (hlost : nodeLost s a = false)
    (hpres : s.flag (R.SPN_NODE_PRESENT a) = true) :
    nodeLoss s a = loopStates (deliveryLost (hostLoss (nodeGone s a) a) a) :=
  if_neg (by simp [hact, hlost, hpres])

theorem nodeGone_within {a : Nat} (ha : a < 128) : Within .spn s (nodeGone s a) :=
  (within_raise (by decide)).mpr <| (within_addUpTo R.SPN_NODE1_LOSSES ha (hT := by decide)).mpr <|
    (within_setUpTo R.SPN_NODE_ADMITTED ha (hT := by decide)).mpr <|
    (within_setUpTo R.SPN_NODE_PRESENT ha (hT := by decide)).mpr <| (within_setNode (by decide)).mpr (.refl _ s)

theorem nodeGone_shows (s : State) (a : Nat) : (nodeGone s a).flag (R.SPN_NODE_PRESENT a) = false ∧
    (nodeGone s a).flag (R.SPN_NODE_ADMITTED a) = false ∧
    (nodeGone s a).get (R.SPN_NODE1_LOSSES a) = (s.get (R.SPN_NODE1_LOSSES a) + 1) % 2 ^ 18 ∧
    (nodeGone s a).flag R.SPN_EVT_LOST = true ∧ ((nodeGone s a).node a).map (·.lost) = some true := by
  have hevt {u : State} {g : Fld} (hg : 0xC0C100 ≤ g.addr) : (u.raise R.SPN_EVT_LOST).get g = u.get g :=
    State.get_set_apart ⟨by decide, fun e => absurd (e ▸ hg) (by decide)⟩
  have hrow {g : Fld} (hg : g.addr = 0xC0C100 + 2 * a) : (nodeGone s a).flag g =
      (((s.setNode { s.nodeRow a with lost := true }).set (R.SPN_NODE_PRESENT a) 0).set (R.SPN_NODE_ADMITTED a) 0).flag g := by
    refine congrArg (· != 0) ((hevt (by omega)).trans (State.get_set_apart ⟨by simp [R.SPN_NODE1_LOSSES], fun e => ?_⟩))
    simp only [R.SPN_NODE1_LOSSES] at e
    omega
  refine ⟨?_, ?_, ?_, State.flag_set_one (by decide), ?_⟩
  · rw [hrow rfl, State.flag_set_apart (by simp [Apart, R.SPN_NODE_PRESENT, R.SPN_NODE_ADMITTED])]
    exact State.flag_set_same _ _ rfl (by simp [R.SPN_NODE_PRESENT])
  · rw [hrow rfl]
    exact State.flag_set_same _ _ rfl (by simp [R.SPN_NODE_ADMITTED])
  · refine (hevt (by simp only [R.SPN_NODE1_LOSSES]; omega)).trans ((State.get_set_whole (by simp [R.SPN_NODE1_LOSSES])).trans ?_)
    rw [State.get_set_apart (by simp [Apart, R.SPN_NODE1_LOSSES, R.SPN_NODE_ADMITTED]),
      State.get_set_apart (by simp [Apart, R.SPN_NODE1_LOSSES, R.SPN_NODE_PRESENT])]
    rfl
  · exact congrArg (Option.map _) ((State.node_setNode s _ a).trans (if_pos (by simp)))

theorem nodeLost_runs (s : State) (node : Fin 128) (hpow : s.powered = true) (hact : s.acting = true)
    (hlost : nodeLost s node = false) (hpres : s.flag (R.SPN_NODE_PRESENT node) = true) :
    Runs (.nodeLost node) s fun t => (t.node node).map (·.lost) = some true ∧
    t.flag (R.SPN_NODE_PRESENT node) = false ∧ t.flag (R.SPN_NODE_ADMITTED node) = false ∧
    t.get (R.SPN_NODE1_LOSSES node) = (s.get (R.SPN_NODE1_LOSSES node) + 1) % 2 ^ 18 ∧ t.flag R.SPN_EVT_LOST = true ∧
    (∀ c, s.content = some c →
    s.imposer.sheet.any (fun e => e.kind == 1 && e.remote && e.addr == node.val / 2 * 2 && (hostMembers t c
      e.addr).isEmpty) = true → t.imposer.lossDue = true) ∧ (s.folio.forward.any (·.1 == node.val) = true →
    t.folio.forward = none ∧ t.get R.FOL_STAT_CAUSE = 24) ∧
    (shelfBusy t (decide (64 ≤ node.val))).any (·.1 == node.val) = false ∧
    t = { s with regs := t.regs, spine := t.spine, imposer := t.imposer, folio := t.folio } := by
  obtain ⟨hpresent, hadmitted, hlosses, hevt, hrow⟩ := nodeGone_shows s node
  have hgone := nodeGone_within (s := s) node.isLt
  have hhost := hostLoss_within (nodeGone s node) node
  obtain ⟨hforward, hshelf, hdel⟩ := deliveryLost_lost (hostLoss (nodeGone s node) node) node
  have hloops := loopStates_within (deliveryLost (hostLoss (nodeGone s node) node) node)
  have hafter : Within (.or ⟨[.imposer], []⟩ (.or .delivery .loops)) (nodeGone s node) (nodeLoss s node) := by
    rw [nodeLoss_eq hact hlost hpres]
    exact (hhost.mono (by decide)).trans ((hdel.mono (by decide)).trans (hloops.mono (by decide)))
  have hall : Within (.or .spn (.or ⟨[.imposer], []⟩ (.or .delivery .loops))) s (nodeLoss s node) :=
    (hgone.mono (by decide)).trans (hafter.mono (by decide))
  have hfolio : (nodeLoss s node).folio = (deliveryLost (hostLoss (nodeGone s node) node) node).folio := by
    rw [nodeLoss_eq hact hlost hpres]
    exact hloops.part .folio
  have hold : (hostLoss (nodeGone s node) node).folio = s.folio :=
    Eq.trans (hhost.part .folio) (hgone.part .folio)
  refine runs_of_powered (t := nodeLoss s node) rfl hpow (hall.part .pending) ⟨?_, ?_, ?_, ?_, ?_, fun c hc h => ?_, fun h => ⟨?_, ?_⟩, ?_,
    hall.eq_patch⟩
  · rw [State.node_congr (hafter.part .spine)]
    exact hrow
  · rw [hafter.flag _ (Touch.spares_row (Nat.le_add_right _ _))]
    exact hpresent
  · rw [hafter.flag _ (Touch.spares_row (Nat.le_add_right _ _))]
    exact hadmitted
  · rw [hafter.get _ (Touch.spares_row (by simp only [R.SPN_NODE1_LOSSES]; omega))]
    exact hlosses
  · rw [hafter.flag R.SPN_EVT_LOST]
    exact hevt
  · have himp : (nodeLoss s node).imposer = (hostLoss (nodeGone s node) node).imposer := by
      rw [nodeLoss_eq hact hlost hpres]
      exact Eq.trans (hloops.part .imposer) (hdel.part .imposer)
    rw [himp]
    exact hostLoss_due (by rw [State.content, hgone.part .folio]; exact hc)
      (by simpa only [hostMembers_congr (hafter.part .spine), show (nodeGone s node).imposer = s.imposer from hgone.part .imposer] using h)
  · rw [hfolio]
    exact (hforward (hold ▸ h)).1
  · rw [nodeLoss_eq hact hlost hpres, hloops.get R.FOL_STAT_CAUSE]
    exact (hforward (hold ▸ h)).2
  · rw [shelfBusy, hfolio]
    exact hshelf

end
end Sys2Proof.Machine

/-!
Admission, start and release by broadcast (R327, R343, R344).
-/
namespace Sys2Proof.Machine
section
variable {s t : State}

/-- A command completes, under power, in the state that it is found to make. -/
theorem runs_of_powered_eq {u : State} {c : Instr} {P : State → Prop}
    (h : exec c s = s.answer (if s.powered then u else s)) (hpow : s.powered = true) (e : u = t)
    (hq : t.pending = s.pending) (hP : P t) : Runs c s P := runs_of_powered (e ▸ h) hpow hq hP

/-- A frame that is accepted notes its number alone (R318). -/
theorem spineAccept_accepted {n : Nat} {h : FrameHead} (hacc : (spineAccept s n h).2 = true) :
    ∃ l, (spineAccept s n h).1 = { s with spine := { s.spine with lastSeq := l } } := by
  unfold spineAccept at hacc ⊢
  dsimp only at hacc ⊢
  split at hacc
  · exact absurd hacc Bool.false_ne_true
  split at hacc
  · exact absurd hacc Bool.false_ne_true
  split at hacc
  · exact absurd hacc Bool.false_ne_true
  · next h1 h2 h3 => exact ⟨_, by rw [if_neg h1, if_neg h2, if_neg h3]⟩

theorem startBroadcast_sends (s : State) (mode : Nat) (hpow : s.powered = true) (hwait : s.folio.waiting = some mode)
    (hact : s.acting = true) (hno : s.spine.startAt = none) (hready : requiredReady s = true) :
    Runs (.startBroadcast none) s fun t => t.spine.startAt = some (ceilDiv (s.now + 1000000) 31250 * 31250, mode) ∧
    t.spine.sent.head? = some (⟨8, 8, ceilDiv (s.now + 1000000) 31250 * 31250 % 2 ^ 36,
    [BitVec.ofNat 36 mode]⟩ : SentFrame) ∧ t = { s with spine := t.spine } := by
  have h : startBroadcast s none = spineSend { s with spine := { s.spine with
      startAt := some (ceilDiv (s.now + 1000000) 31250 * 31250, mode) } } 8 8 (ceilDiv (s.now + 1000000) 31250 * 31250)
      [BitVec.ofNat 36 mode] := by
    unfold startBroadcast
    simp only [hwait, hact, hno, hready, Option.isNone_none, Bool.and_self, if_true]
  exact runs_of_powered_eq rfl hpow h rfl ⟨rfl, rfl, rfl⟩

theorem startBroadcast_hears (s : State) (h : FrameHead) (at0 : Nat) (cold : Bool) (hpow : s.powered = true)
    (hacc : (spineAccept s 8 h).2 = true) (hact : s.acting = false) (hworker : s.isWorker = true) :
    Runs (.startBroadcast (some (h, at0, cold))) s fun t =>
    (t.spine.startAt = some (at0, if cold then 1 else 2)) ∧ t = { s with spine := t.spine } := by
  obtain ⟨l, hl⟩ := spineAccept_accepted hacc
  have hstart : startBroadcast s (some (h, at0, cold)) = { s with spine := { s.spine with
      lastSeq := l, startAt := some (at0, if cold then 1 else 2) } } := by
    unfold startBroadcast
    simp only [hl, hacc]
    exact if_neg (by simpa using ⟨hact, hworker⟩)
  exact runs_of_powered_eq rfl hpow hstart rfl ⟨rfl, rfl⟩

theorem releaseBroadcast_sends (s : State) (hpow : s.powered = true) (hact : s.acting = true) (hdev : s.dev = .run)
    (hno : s.spine.releaseAt = none) (hall : allReady s = true) (hready : (List.range 128).all (releaseReady s) = true) :
    Runs (.releaseBroadcast none) s fun t => t.spine.releaseAt = some (slowestCommit s (s.now + broadcastTime s)) ∧
    t.spine.sent.head? = some (⟨8, 8, slowestCommit s (s.now + broadcastTime s) % 2 ^ 36, []⟩ : SentFrame) ∧
    t = { s with spine := t.spine } := by
  have h : releaseBroadcast s none = spineSend { s with spine := { s.spine with
      releaseAt := some (slowestCommit s (s.now + broadcastTime s)) } } 8 8 (slowestCommit s (s.now + broadcastTime s)) [] :=
    if_pos (by simp [hact, hdev, hno, hall, hready])
  exact runs_of_powered_eq rfl hpow h rfl ⟨rfl, rfl, rfl⟩

theorem releaseBroadcast_hears (s : State) (h : FrameHead) (at0 : Nat) (hpow : s.powered = true)
    (hacc : (spineAccept s 8 h).2 = true) (hact : s.acting = false) :
    Runs (.releaseBroadcast (some (h, at0))) s fun t => t.spine.releaseAt = some at0 ∧
    t = { s with spine := t.spine } := by
  obtain ⟨l, hl⟩ := spineAccept_accepted hacc
  have hrel : releaseBroadcast s (some (h, at0)) = { s with spine := { s.spine with lastSeq := l, releaseAt := some at0 } } := by
    unfold releaseBroadcast
    simp only [hl, hacc]
    exact if_pos (by simpa using hact)
  exact runs_of_powered_eq rfl hpow hrel rfl ⟨rfl, rfl⟩

/-! ### The limit of a start (R327) -/

/-- What entering STOP touches beside the device state. -/
def Touch.enterStopped : Touch := .or ⟨[], [.field R.PCI_VPEND_PEND, .field R.FRC_STAT_LED]⟩ .reflex

/-- Entering STOP, where reflex triggers nothing. -/
theorem enter_stop_within (s : State) : Within .enterStopped { s with dev := .stop } (s.enter .stop) := by
  have hshown : Within .enterStopped { s with dev := .stop } (enterShown s .stop) := by
    simp (disch := decide) [enterShown]
  rw [enter_eq]
  refine .ite (fun _ => hshown) fun _ => .ite (fun _ => hshown.trans ((reflexEnd_within _).mono (by decide))) fun _ => ?_
  exact hshown.reflexStart (by decide) (.of_not_run (by decide) Dev.noConfusion)

/-- What the limit of a start may touch. -/
def Touch.startOver : Touch := .or ⟨[.dev, .folio, .host, .free], [.field R.SPN_STAT_CAUSE, .field R.SYS_CMD_STATUS]⟩
  (.or .report .enterStopped)

/-- The limit of a start, up to the change of the device state. -/
def startOver (s : State) : State :=
  ({ s with folio := { s.folio with waiting := none } }.set R.SPN_STAT_CAUSE 5).journal 15 12 0 0

theorem startOver_within (s : State) :
    Within (.or ⟨[], [.field R.SPN_STAT_CAUSE]⟩ .report) { s with folio := { s.folio with waiting := none } } (startOver s) := by
  simp (disch := decide) [startOver]

theorem startOver_cause (s : State) : (startOver s).get R.SPN_STAT_CAUSE = 5 := by
  have h : Within .report _ (startOver s) := (within_journal (by decide)).mpr (.refl _ _)
  rw [h.get R.SPN_STAT_CAUSE]
  exact State.get_set_same _ _ _ (by decide)

theorem startTimeout_runs (s : State) (hpow : s.powered = true) (hact : s.acting = true)
    (hwait : s.folio.waiting.isSome = true) (hno : s.spine.startAt = none) (hready : requiredReady s = false) :
    Runs (.startTimeout) s fun t => t.folio = { s.folio with waiting := none } ∧
    t.get R.SPN_STAT_CAUSE = 5 ∧ (s.dev = .load → t.dev = .stop) ∧ (s.dev ≠ .load → t.dev = s.dev) ∧ (s.dev ≠ .load →
    s.get R.SYS_CMD_STATUS = 1 → t.get R.SYS_CMD_STATUS = 3) ∧
    t = { s with dev := t.dev, regs := t.regs, folio := t.folio, records := t.records, fabric := t.fabric, host := t.host, free := t.free } := by
  have h : startTimeout s = if s.dev = .load then (startOver s).enter .stop
      else (startOver s).when (s.get R.SYS_CMD_STATUS == 1) (sysEnd · 3) := by
    have hover := startOver_within s
    have hdev : (startOver s).dev = s.dev := hover.part .dev
    have hstatus : (startOver s).get R.SYS_CMD_STATUS = s.get R.SYS_CMD_STATUS := hover.get _
    have hmain : startTimeout s = if (startOver s).dev == .load then (startOver s).enter .stop
        else (startOver s).when ((startOver s).get R.SYS_CMD_STATUS == 1) (sysEnd · 3) :=
      if_neg (by simp [hact, hno, hready, Option.isSome_iff_ne_none.mp hwait])
    rw [hmain, hdev, hstatus]
    simp
  have hover := startOver_within s
  have hall : Within (.or ⟨[.folio], []⟩ (.or ⟨[], [.field R.SPN_STAT_CAUSE]⟩ .report)) s (startOver s) :=
    ((within_folio (by decide)).mpr (.refl _ s)).trans (hover.mono (by decide))
  by_cases hload : s.dev = .load
  · have hstop := enter_stop_within (startOver s)
    have hdevice : Within (.or ⟨[.dev], []⟩ .enterStopped) (startOver s) ((startOver s).enter .stop) :=
      ((within_dev (by decide)).mpr (.refl _ _)).trans (hstop.mono (by decide))
    have hend : Within .startOver s ((startOver s).enter .stop) := (hall.mono (by decide)).trans (hdevice.mono (by decide))
    refine runs_of_powered_eq rfl hpow (h.trans (if_pos hload)) (hend.part .pending)
      ⟨Eq.trans (hdevice.part .folio) (hover.part .folio), ?_, fun _ => dev_enter _ _, fun hne => absurd hload hne,
        fun hne => absurd hload hne, ?_⟩
    · rw [hdevice.get R.SPN_STAT_CAUSE]
      exact startOver_cause s
    · exact hend.eq_patch
  · have hsys : Within ⟨[], [.field R.SYS_CMD_STATUS]⟩ (startOver s)
        ((startOver s).when (s.get R.SYS_CMD_STATUS == 1) (sysEnd · 3)) := by
      simp (disch := decide) [sysEnd]
    have hend : Within .startOver s ((startOver s).when (s.get R.SYS_CMD_STATUS == 1) (sysEnd · 3)) := (hall.mono (by decide)).trans (hsys.mono (by decide))
    refine runs_of_powered_eq rfl hpow (h.trans (if_neg hload)) (hend.part .pending)
      ⟨Eq.trans (hsys.part .folio) (hover.part .folio), ?_, fun hl => absurd hl hload,
        fun _ => Eq.trans (hsys.part .dev) (hover.part .dev), fun _ hst => ?_, hend.eq_patch⟩
    · rw [hsys.get R.SPN_STAT_CAUSE]
      exact startOver_cause s
    · simp only [hst]
      exact State.get_set_same _ _ _ (by decide)

/-! ### Admission of a node that runs or waits (R344) -/

theorem nodeAdmission_admits (s : State) (node : Fin 128) (hpow : s.powered = true) (hact : s.acting = true)
    (hgap : s.cycling = false ∨ inGap s = true) (hready : nodeReady s node = true)
    (hnew : s.flag (R.SPN_NODE_ADMITTED node) = false) :
    Runs (.nodeAdmission node none) s fun t => t.flag (R.SPN_NODE_ADMITTED node) = true ∧
    t.flag R.SPN_EVT_JOIN = true ∧ t.spine.sent.head? = some (⟨8, 8, s.now % 2 ^ 36,
    [BitVec.ofNat 36 node]⟩ : SentFrame) ∧ t = { s with regs := t.regs, spine := t.spine } ∧ (∀ a,
    a ≠ (R.SPN_NODE_ADMITTED node).addr → a ≠ R.SPN_EVT_JOIN.addr → t.reg a = s.reg a) := by
  have h : nodeAdmission s node none = spineSend (admitNode s node) 8 8 s.now [BitVec.ofNat 36 node] :=
    if_pos (by rcases hgap with hg | hg <;> simp [hact, hg, hready, hnew])
  have hevt : Apart R.SPN_EVT_JOIN (R.SPN_NODE_ADMITTED node) :=
    ⟨by decide, fun e => by simp only [R.SPN_NODE_ADMITTED, R.SPN_EVT_JOIN] at e; omega⟩
  have hreg (a : Nat) : (spineSend (admitNode s node) 8 8 s.now [BitVec.ofNat 36 node]).reg a = (admitNode s node).reg a := rfl
  have hflag (f : Fld) : (spineSend (admitNode s node) 8 8 s.now [BitVec.ofNat 36 node]).flag f = (admitNode s node).flag f :=
    rfl
  have hwithin : Within .spn s (spineSend (admitNode s node) 8 8 s.now [BitVec.ofNat 36 node]) :=
    (within_spineSend (by decide)).mpr <| (within_raise (by decide)).mpr <|
      (within_setUpTo R.SPN_NODE_ADMITTED node.isLt (hT := by decide)).mpr (.refl _ s)
  refine runs_of_powered_eq rfl hpow h (hwithin.part .pending) ⟨?_, ?_, rfl, hwithin.eq_patch, fun a hrow hjoin => ?_⟩
  · rw [hflag, admitNode, State.raise_eq, State.flag_set_apart hevt]
    exact State.flag_set_one ⟨rfl, by simp [R.SPN_NODE_ADMITTED]⟩
  · rw [hflag]
    exact State.flag_set_one (by decide)
  · rw [hreg, admitNode, State.raise_eq, State.reg_set_other _ _ _ hjoin]
    exact State.reg_set_other _ _ _ hrow

/-- A worker that is told that it is admitted, up to its start. -/
def admittedOwn (s : State) (l : List (Nat × Nat × Nat)) : State :=
  ({ s with spine := { s.spine with lastSeq := l } } : State).raise R.SPN_STAT_ADMITTED

/-- A device waits for its admission, to join in WARM mode (R344). -/
def awaitsJoin (s : State) : Bool :=
  (s.dev == .load && s.folio.loading.isNone || s.dev == .stop && s.flag R.SPN_CFG_JOIN) && s.primary && s.power.pfStep == 0

theorem nodeAdmission_told {a : Nat} {h : FrameHead} {l : List (Nat × Nat × Nat)}
    (hacc : (spineAccept s 8 h).2 = true)
    (hl : (spineAccept s 8 h).1 = { s with spine := { s.spine with lastSeq := l } })
    (hact : s.acting = false) (hc : s.content.isSome = true) :
    nodeAdmission s a (some h) = if awaitsJoin s then
      startRun { admittedOwn s l with spine := { s.spine with lastSeq := l, releaseOwn := true, releaseAt := none } } 2 .run
        s.now
    else admittedOwn s l := by
  have hjoin : (admittedOwn s l).flag R.SPN_CFG_JOIN = s.flag R.SPN_CFG_JOIN := State.flag_set_apart ⟨by decide, by decide⟩
  have hprimary : (admittedOwn s l).primary = s.primary :=
    congrArg (s.partner.isNone || ·) (State.flag_set_apart (g := R.TWN_STAT_PRIMARY) ⟨by decide, by decide⟩)
  have hwaits : ((((admittedOwn s l).dev == .load && (admittedOwn s l).folio.loading.isNone ||
      (admittedOwn s l).dev == .stop && (admittedOwn s l).flag R.SPN_CFG_JOIN) && (admittedOwn s l).primary &&
      (admittedOwn s l).power.pfStep == 0)) = awaitsJoin s := by
    rw [hjoin, hprimary]
    rfl
  unfold nodeAdmission
  simp only [hl, hacc]
  refine (if_neg (c := (!true || s.acting || s.content.isNone) = true) ?_).trans ?_
  · simp [hact, Option.isSome_iff_ne_none.mp hc]
  · rw [← hwaits]
    rfl

theorem nodeAdmission_running (s : State) (node : Fin 128) (h : FrameHead) (hpow : s.powered = true)
    (hacc : (spineAccept s 8 h).2 = true) (hact : s.acting = false) (hc : s.content.isSome = true) (hdev : s.dev = .run) :
    Runs (.nodeAdmission node (some h)) s fun t => t.flag R.SPN_STAT_ADMITTED = true ∧ t.dev = .run ∧
    t.cycle = s.cycle ∧ t = { s with regs := t.regs, spine := t.spine } ∧ (∀ a, a ≠ R.SPN_STAT_ADMITTED.addr →
    t.reg a = s.reg a) := by
  obtain ⟨l, hl⟩ := spineAccept_accepted hacc
  have hadm : nodeAdmission s node (some h) = admittedOwn s l :=
    (nodeAdmission_told hacc hl hact hc).trans (if_neg (by simp [awaitsJoin, hdev]))
  exact runs_of_powered_eq rfl hpow hadm rfl ⟨State.flag_set_one (by decide), hdev, rfl, rfl, fun a ha =>
    State.reg_set_other _ _ _ ha⟩

theorem nodeAdmission_joins (s : State) (node : Fin 128) (h : FrameHead) (hpow : s.powered = true)
    (hacc : (spineAccept s 8 h).2 = true) (hact : s.acting = false) (hc : s.content.isSome = true)
    (hdev : s.dev = .stop ∧ s.flag R.SPN_CFG_JOIN = true ∨ s.dev = .load ∧ s.folio.loading = none)
    (hprimary : s.primary = true) (hpf : s.power.pfStep = 0) :
    Runs (.nodeAdmission node (some h)) s fun t => t.flag R.SPN_STAT_ADMITTED = true ∧ t.dev = .run ∧
    t.spine.releaseOwn = true ∧ t.spine.releaseAt = none ∧ t.cycle.startAt = s.now := by
  obtain ⟨l, hl⟩ := spineAccept_accepted hacc
  obtain ⟨c, hc'⟩ := Option.isSome_iff_exists.mp hc
  have hawaits : awaitsJoin s = true := by
    rcases hdev with ⟨hd, hj⟩ | ⟨hd, hload⟩
    · simp [awaitsJoin, hd, hj, hprimary, hpf]
    · simp [awaitsJoin, hd, hload, hprimary, hpf]
  have hadm := (nodeAdmission_told (a := node) hacc hl hact hc).trans (if_pos hawaits)
  have hstart := startRun_started (s := { admittedOwn s l with
    spine := { s.spine with lastSeq := l, releaseOwn := true, releaseAt := none } }) (c := c) hc' 2 .run s.now
  refine runs_of_powered_eq rfl hpow hadm (hstart.within.part .pending) ⟨?_, hstart.dev, ?_, ?_, hstart.startAt⟩
  · rw [hstart.within.flag R.SPN_STAT_ADMITTED]
    exact State.flag_set_one (f := R.SPN_STAT_ADMITTED) (by decide)
  · rw [hstart.spine]
  · rw [hstart.spine]

/-! ### The instant of a start (R343) -/

theorem startInstant_worker (s : State) (at0 mode : Nat) (hpow : s.powered = true)
    (hat : s.spine.startAt = some (at0, mode)) (hc : s.content.isSome = true) (hprimary : s.primary = true)
    (hpf : s.power.pfStep = 0) (hact : s.acting = false) (hdev : s.dev = .stop ∨ s.dev = .load ∧ s.folio.loading = none) :
    Runs (.startInstant) s fun t => t.dev = .run ∧ t.spine.startAt = none ∧
    t.spine.releaseOwn = false ∧ t.spine.releaseAt = none ∧ t.flag R.SPN_STAT_ADMITTED = true ∧ t.cycle.startAt = at0 := by
  obtain ⟨c, hc'⟩ := Option.isSome_iff_exists.mp hc
  have hwaits : (s.dev == .stop || s.dev == .load && s.folio.loading.isNone) = true := by
    rcases hdev with hd | ⟨hd, hload⟩
    · simp [hd]
    · simp [hd, hload]
  have hinst : startInstant s = (startRun { s with spine := { s.spine with
      startAt := none, releaseOwn := false, releaseAt := none } } mode .run at0).raise R.SPN_STAT_ADMITTED := by
    unfold startInstant
    simp only [hat]
    refine (if_neg (c := (s.content.isNone || !s.primary || decide (0 < s.power.pfStep)) = true) ?_).trans <|
      (if_neg (c := s.acting = true) (by simp [hact])).trans (if_pos hwaits)
    simp [hprimary, hpf, Option.isSome_iff_ne_none.mp hc]
  have hstart := startRun_started (s := { s with spine := { s.spine with
      startAt := none, releaseOwn := false, releaseAt := none } }) (c := c) hc' mode .run at0
  refine runs_of_powered_eq rfl hpow hinst (hstart.within.part .pending) ⟨hstart.dev, ?_, ?_, ?_,
    State.flag_set_one (by decide), hstart.startAt⟩
  all_goals rw [State.raise_eq, State.spine_set, hstart.spine]

theorem admitNode_within {a : Nat} (ha : a < 128) : Within ⟨[], [.upTo R.SPN_NODE_ADMITTED 128, .field R.SPN_EVT_JOIN]⟩ s
    (admitNode t a) ↔ Within ⟨[], [.upTo R.SPN_NODE_ADMITTED 128, .field R.SPN_EVT_JOIN]⟩ s t :=
  within_step <| (within_raise (by decide)).mpr <| (within_setUpTo R.SPN_NODE_ADMITTED ha (hT := by decide)).mpr (.refl _ t)

theorem admitNode_admits (s : State) (a b : Nat) (h : b = a ∨ s.flag (R.SPN_NODE_ADMITTED b) = true) :
    (admitNode s a).flag (R.SPN_NODE_ADMITTED b) = true := by
  have hevt : Apart R.SPN_EVT_JOIN (R.SPN_NODE_ADMITTED b) :=
    ⟨by decide, fun e => by simp only [R.SPN_NODE_ADMITTED, R.SPN_EVT_JOIN] at e; omega⟩
  have hbit (c : Nat) : (R.SPN_NODE_ADMITTED c).width = 1 ∧ (R.SPN_NODE_ADMITTED c).lo < 36 :=
    ⟨rfl, by simp [R.SPN_NODE_ADMITTED]⟩
  refine (State.flag_set_apart hevt).trans ?_
  rcases h with rfl | h
  · exact State.flag_set_one (hbit b)
  · exact State.flag_raise_of_flag (hbit a) rfl h

/-- The nodes that are ready, admitted at the instant of a start. -/
def readyAdmitted (s : State) : State := State.forEach ((List.range 128).filter (nodeReady s)) (fun a s => admitNode s a) s

theorem readyAdmitted_within (s : State) :
    Within ⟨[], [.upTo R.SPN_NODE_ADMITTED 128, .field R.SPN_EVT_JOIN]⟩ s (readyAdmitted s) :=
  .forEach (.refl _ s) _ fun _ ha _ hu => (admitNode_within (List.mem_range.mp (List.mem_filter.mp ha).1)).mpr hu

theorem readyAdmitted_admits (s : State) (a : Fin 128) (h : nodeReady s a = true) :
    (readyAdmitted s).flag (R.SPN_NODE_ADMITTED a) = true :=
  forEach_each (P := fun _ => True) (Q := fun b u => u.flag (R.SPN_NODE_ADMITTED b) = true) trivial
    (fun _ _ _ _ => trivial) (fun b _ u _ => admitNode_admits u b b (.inl rfl))
    (fun b _ c u _ hu => admitNode_admits u b c (.inr hu)) a (List.mem_filter.mpr ⟨List.mem_range.mpr a.isLt, h⟩)

theorem nodeReady_congr {a : Nat} (h : t.spine.nodes = s.spine.nodes) : nodeReady t a = nodeReady s a := by
  rw [nodeReady, nodeReady, State.node, State.node, h]

theorem startInstant_manager (s : State) (at0 mode : Nat) (hpow : s.powered = true)
    (hat : s.spine.startAt = some (at0, mode)) (hc : s.content.isSome = true) (hprimary : s.primary = true)
    (hpf : s.power.pfStep = 0) (hact : s.acting = true) (hwait : s.folio.waiting.isSome = true) :
    Runs (.startInstant) s fun t => t.dev = .run ∧ t.spine.startAt = none ∧ t.spine.releaseAt = none ∧
    t.folio.waiting = none ∧ t.cycle.startAt = at0 ∧ (s.dev = .stop → s.get R.SYS_CMD_STATUS = 1 →
    t.get R.SYS_CMD_STATUS = 2) ∧ (∀ a : Fin 128, nodeReady s a = true → t.flag (R.SPN_NODE_ADMITTED a) = true) := by
  obtain ⟨c, hc'⟩ := Option.isSome_iff_exists.mp hc
  let u : State := startRun { s with spine := { s.spine with startAt := none } } mode .run at0
  have hstart : Started { s with spine := { s.spine with startAt := none } } .run at0 u :=
    startRun_started (s := { s with spine := { s.spine with startAt := none } }) (c := c) hc' mode .run at0
  let v : State := u.when (s.dev == .stop && u.get R.SYS_CMD_STATUS == 1) (sysEnd · 2)
  have hv : Within ⟨[], [.field R.SYS_CMD_STATUS]⟩ u v := by simp (disch := decide) [v, sysEnd]
  have hinst : startInstant s = readyAdmitted v := by
    unfold startInstant
    simp only [hat]
    refine (if_neg (c := (s.content.isNone || !s.primary || decide (0 < s.power.pfStep)) = true) ?_).trans <|
      (if_pos (c := s.acting = true) hact).trans (if_neg (c := s.folio.waiting.isNone = true) ?_)
    · simp [hprimary, hpf, Option.isSome_iff_ne_none.mp hc]
    · simp [Option.isSome_iff_ne_none.mp hwait]
  have hadm := readyAdmitted_within v
  have hend : Within ⟨[], [.field R.SYS_CMD_STATUS, .upTo R.SPN_NODE_ADMITTED 128, .field R.SPN_EVT_JOIN]⟩ u (readyAdmitted v) :=
    (hv.mono (by decide)).trans (hadm.mono (by decide))
  have hspine : (readyAdmitted v).spine = u.spine := hend.part .spine
  refine runs_of_powered_eq rfl hpow hinst (Eq.trans (hend.part .pending) (hstart.within.part .pending))
    ⟨Eq.trans (hend.part .dev) hstart.dev, ?_, ?_, Eq.trans (congrArg FolioSt.waiting (hend.part .folio)) hstart.waiting,
      Eq.trans (hend.part .startAt) hstart.startAt, fun hd hst => ?_, fun a ha => readyAdmitted_admits v a ?_⟩
  · rw [hspine, hstart.spine]
  · rw [hspine, hstart.spine]
  · have hstatus : u.get R.SYS_CMD_STATUS = 1 := (hstart.within.get R.SYS_CMD_STATUS).trans hst
    rw [hadm.get R.SYS_CMD_STATUS]
    simp only [v, hd, hstatus]
    exact State.get_set_same _ _ _ (by decide)
  · have hnodes : v.spine.nodes = s.spine.nodes := by
      rw [show v.spine = u.spine from hv.part .spine, hstart.spine]
    rw [nodeReady_congr hnodes]
    exact ha

end
end Sys2Proof.Machine

/-!
What a stop of the device touches (R33, R446 to R455): not the device state that it enters, and of SPN_STAT its cause alone.
-/
namespace Sys2Proof.Machine

/-- All but the device state, the queue and SPN_STAT, whose cause alone it holds. -/
def Touch.stop : Touch := .or ⟨[.folio, .spine, .startAt, .overridden, .unlock, .calendar, .host, .dbg, .upd, .house, .ids],
  [⟨0xC00000, 1, some 0xC000, 0, 36⟩]⟩ .work

section
variable {s t : State}

theorem Within.work {u : State} (h : Within .stop s t) (k : Within .work t u) : Within .stop s u :=
  h.trans (k.mono (by decide))

@[simp ↓] theorem within_carryPoints {a b : FolioContent} {ps : List (Nat × Nat)} :
    Within .stop s (carryPoints t a b ps) ↔ Within .stop s t := by
  refine within_step ((within_cycle (by decide)).mpr (.forEach (.refl _ t) _ fun x _ u hu => ?_))
  exact (within_putQual (by decide)).mpr hu

@[simp ↓] theorem within_poolSizes {c : FolioContent} : Within .stop s (poolSizes t c) ↔ Within .stop s t :=
  within_forEach fun _ hi _ => (within_setUpTo R.HND_POOL_SIZE (List.mem_range.mp hi) (hT := by decide)).mpr (.refl _ _)

theorem configuredClasses_lt {k : Nat} (h : k ∈ configuredClasses s) : k < 8 := List.mem_range.mp (List.mem_filter.mp h).1

@[simp ↓] theorem within_sheetPut {c : FolioContent} {l : List SheetEntry} :
    Within .stop s (sheetPut t c l) ↔ Within .stop s t := by
  refine within_step ?_
  unfold sheetPut
  extract_lets +lift imposer s₁ s₂ s₃
  have h₁ : Within .stop t s₁ := (within_imposer (by decide)).mpr (.refl _ t)
  have h₂ : Within .stop t s₂ := by
    unfold s₂
    split
    · simp (disch := decide) [h₁]
    · exact h₁
  have h₃ : Within .stop t s₃ := by simp (disch := decide) [s₃, h₂]
  refine .forEach h₃ _ fun k hk u hu => ?_
  have hk := configuredClasses_lt hk
  split
  · exact (within_setUpTo R.IMP_PMARG_MARG hk (hT := by decide)).mpr
      ((within_setUpTo R.IMP_PS_S hk (hT := by decide)).mpr hu)
  · exact hu

@[simp ↓] theorem within_armsFollow {b : FolioContent} {f : FabricUnit → Bool} :
    Within .stop s (armsFollow t b f) ↔ Within .stop s t := within_fabric (by decide)

@[simp ↓] theorem within_windowBegin {b : Bool} : Within .stop s (windowBegin t b) ↔ Within .stop s t :=
  within_step (by simp (disch := decide) [windowBegin])

@[simp ↓] theorem within_slotsSwitch {b : FolioContent} : Within .stop s (slotsSwitch t b) ↔ Within .stop s t := by
  refine within_step (.when (.forEach (.refl _ t) _ fun x _ u hu => ?_) (within_windowBegin.mpr (.refl _ _)))
  split
  · simp (disch := decide) [hu, ↓within_setAll R.WDG_SLOT_CLASS, ↓within_setFlagAll R.WDG_SLOT_EVT, ↓within_setAll R.WDG_SLOT_TASK]
  · simp (disch := decide) [hu, ↓within_setAll R.WDG_SLOT_EN]

@[simp ↓] theorem within_setMeterCh {T : Touch} {c : MeterCh} (hT : T.has .meter = true) :
    Within T s (t.setMeterCh c) ↔ Within T s t := within_meter hT

@[simp ↓] theorem within_channelsSwitch {l : List Nat} {d : List ChannelDef} :
    Within .stop s (channelsSwitch t l d) ↔ Within .stop s t := by
  have hput (u : State) (c : Channel) : Within .stop u (channelPut u c) :=
    (Within.refl _ u).work (within_channelPut.mpr (.refl _ u))
  have hdrop (u : State) (a b : Nat) : Within .stop u (channelDrop u a b) :=
    (Within.refl _ u).work (within_channelDrop.mpr (.refl _ u))
  have hdetach (u : State) (a b : Nat) : Within .stop u (channelDetach u a b) :=
    (Within.refl _ u).work (within_channelDetach.mpr (.refl _ u))
  refine within_step ((within_configDue (by decide)).mpr <| (within_handles (by decide)).mpr <|
    .forEach (.forEach (.refl _ t) _ fun c _ u hu => ?_) _ fun d _ u hu => ?_)
  · split
    · exact .ite (fun _ => hu.trans (hdrop _ _ _)) fun _ => hu
    · next d _ =>
      have hnew : Within .stop t (channelPut (channelDetach u c.cls c.idx) { c with words := d.words }) :=
        (hu.trans (hdetach _ _ _)).trans (hput _ _)
      refine .ite (fun _ => (hu.trans (hdrop _ _ _)).trans (hput _ _)) fun _ => .ite (fun _ => hu) fun _ =>
        .ite (fun _ => ?_) fun _ => hnew
      split
      · exact (within_record (by decide)).mpr ((within_setMeterCh (by decide)).mpr hnew)
      · exact hnew
  · exact .ite (fun _ => hu) fun _ => hu.trans (hput _ _)

@[simp ↓] theorem within_reflexSwitch {o : State} : Within .stop s (reflexSwitch o t) ↔ Within .stop s t := by
  refine within_step (.reflexSettle (by decide) (.of_covers (by decide) t) (.forEach (.forEach (.refl _ t) _
    fun x _ u hu => ?_) _ fun i _ u hu => ?_))
  · exact .ite (fun _ => hu) fun _ => (within_putBit (by decide)).mpr hu
  · exact (within_pinRelease (by decide)).mpr hu

@[simp ↓] theorem within_lockShow {T : Touch} (hT : T.covers ⟨[], [.field R.CLK_STAT_PERLOCK, .field R.CLK_STAT_LANELOCK]⟩ = true) :
    Within T s t.lockShow ↔ Within T s t := within_op hT (by simp (disch := decide) [State.lockShow])

@[simp ↓] theorem within_gateTiles : Within .stop s (gateTiles t) ↔ Within .stop s t := by
  refine within_step ?_
  unfold gateTiles
  simp (disch := decide)

@[simp ↓] theorem within_initSymbol {b : FolioContent} {l : List SheetEntry} {y : Symbol} :
    Within .stop s (initSymbol t b l y) ↔ Within .stop s t := by
  refine within_step ?_
  unfold initSymbol
  split
  · split
    · exact .forEach (.refl _ t) _ fun _ _ _ hu => (within_store (by decide)).mpr hu
    · exact .refl _ t
  · exact .forEach (.refl _ t) _ fun _ _ _ hu => (within_putPoint (by decide)).mpr hu
  · exact .refl _ t

/-! ### The switch, the undo and the confirmation of an activation -/

@[simp ↓] theorem within_programSwitch {a b : FolioContent} {l : List SheetEntry} {ps : List (Nat × Nat)} {cs : List Nat}
    {f : FabricUnit → UnitSt} : Within .stop s (programSwitch t a b l ps cs f) ↔ Within .stop s t := by
  refine within_step ?_
  unfold programSwitch
  extract_lets +lift old oldForces vals s₁ oldUnits folio s₂ units fabric s₃ s₄ s₅ s₆ s₇ s₈ s₉ s₁₀
  have h₃ : Within .stop t s₃ := by simp (disch := decide) [s₃, s₂, s₁]
  have h₄ : Within .stop t s₄ := by
    refine .forEach h₃ _ fun v _ u hu => ?_
    split
    · exact .ite (fun _ => hu) fun _ => hu.work (within_carryInstance.mpr (.refl _ u))
    · exact hu
  have h₆ : Within .stop t s₆ := by simp (disch := decide) [s₆, s₅, h₄]
  have h₇ : Within .stop t s₇ := .forEach h₆ _ fun v _ u hu => hu.work (within_putSymbol.mpr (.refl _ u))
  have h₈ : Within .stop t s₈ := .forEach h₇ _ fun p _ u hu => (within_cycle (by decide)).mpr hu
  have h₁₀ : Within .stop t s₁₀ := by
    have hswitch : Within .stop t (channelsSwitch s₉ cs b.channels) := by simp [s₉, h₈]
    exact hswitch.work (within_poolShow.mpr (.refl _ _))
  exact within_slotsSwitch.mpr (h₁₀.work (within_forcesFollow.mpr (.refl _ _)))

@[simp ↓] theorem within_armFailed : Within .stop s (armFailed t) ↔ Within .stop s t := by
  have hend (u : State) (n : Nat) : Within .stop u (u.olcEnd n) := (Within.refl _ u).work (within_olcEnd.mpr (.refl _ u))
  refine within_step ?_
  unfold armFailed
  extract_lets +lift s₁ olc s₂ olc' s₃
  have h₂ : Within .stop t s₂ := by simp (disch := decide) [s₂, s₁]
  refine .ite (fun _ => .trans ?_ (hend _ _)) fun _ => .ite (fun _ => .trans ?_ (hend _ _)) fun _ => h₂
  · simp (disch := decide) [s₃, h₂]
  · simp (disch := decide) [h₂]

/-- The planes exchanged, with reflex switched where any are. -/
theorem planes_within (o u : State) (qs : List Nat) (b : Bool) :
    Within .stop u ((planeExchange u qs).when b (reflexSwitch o)) :=
  .when ((Within.refl _ u).work (within_planeExchange.mpr (.refl _ u))) (within_reflexSwitch.mpr (.refl _ _))

/-- A command of the activation that ends, where one is pending. -/
theorem olcEnd_within (u : State) (b : Bool) (n : Nat) : Within .stop u (u.when b (·.olcEnd n)) :=
  .when (.refl _ u) ((Within.refl _ u).work (within_olcEnd.mpr (.refl _ u)))

theorem olcTell_gateTiles_within (h : Within .stop s t) : Within .stop s (olcTell (gateTiles t)) :=
  (within_olcTell (by decide)).mpr (within_gateTiles.mpr h)

@[simp ↓] theorem within_olcSwitchNow : Within .stop s (olcSwitchNow t) ↔ Within .stop s t := by
  refine within_step ?_
  unfold olcSwitchNow
  split
  · extract_lets +lift was sheet old pairs gone kept at' qs s₁ fresh s₂ s₃ s₄ olc s₅ s₆ s₇
    have h₂ : Within .stop t s₂ := by simp (disch := decide) [s₂, s₁]
    have h₃ : Within .stop t s₃ := .forEach h₂ _ fun y _ u hu => within_initSymbol.mpr hu
    have h₄ : Within .stop t s₄ := h₃.trans (planes_within _ _ _ _)
    have h₆ : Within .stop t s₆ := by simp (disch := decide) [s₆, s₅, h₄]
    exact olcTell_gateTiles_within (.trans (by simp (disch := decide) [h₆]) (olcEnd_within _ _ 2))
  · exact .refl _ t

@[simp ↓] theorem within_undoNow : Within .stop s (undoNow t) ↔ Within .stop s t := by
  refine within_step ?_
  unfold undoNow
  split
  · extract_lets +lift a pairs classes cause was before sheet qs s₁ s₂ s₃ s₄ olc s₅ s₆
    have h₁ : Within .stop t s₁ := within_programSwitch.mpr (.refl _ t)
    have h₂ : Within .stop t s₂ := by
      refine .forEach h₁ _ fun v _ u hu => ?_
      split
      · exact hu.work (within_putSymbol.mpr (.refl _ u))
      · exact hu
    have h₃ : Within .stop t s₃ := h₂.trans (planes_within _ _ _ _)
    have h₅ : Within .stop t s₅ := by simp (disch := decide) [s₅, s₄, h₃]
    have h₆ : Within .stop t s₆ := .work (by simp (disch := decide) [h₅]) (within_olcRelease.mpr (.refl _ _))
    exact olcTell_gateTiles_within (h₆.trans (olcEnd_within _ _ 2))
  · exact .refl _ t

@[simp ↓] theorem within_undoAtOnce : Within .stop s (undoAtOnce t) ↔ Within .stop s t :=
  within_step (.ite (fun _ => within_undoNow.mpr (.refl _ t)) fun _ =>
    (within_olc (by decide)).mpr (olcEnd_within t _ 6))

@[simp ↓] theorem within_olcSwitch : Within .stop s (olcSwitch t) ↔ Within .stop s t := by
  refine within_step ?_
  unfold olcSwitch
  split
  · refine .ite (fun _ => .refl _ t) fun _ => ?_
    dsimp only
    exact .ite (fun _ => .refl _ t) fun _ => .ite (fun _ => within_olcSwitchNow.mpr (.refl _ t)) fun _ =>
      within_armFailed.mpr (.refl _ t)
  · exact .refl _ t

@[simp ↓] theorem within_confirmNow : Within .stop s (confirmNow t) ↔ Within .stop s t :=
  within_op (by decide) (works_confirmNow t).within

/-! ### The stop (R33) -/

@[simp ↓] theorem within_outputsFallback : Within .stop s (outputsFallback t) ↔ Within .stop s t := by
  refine within_step (.fallback (by decide) (.of_covers (by decide) t) ((within_field (by decide)).mpr
    (.forEach (.refl _ t) _ fun p _ u hu => (within_cycle (by decide)).mpr hu)))

@[simp ↓] theorem within_watchdogDisarm : Within .stop s (watchdogDisarm t) ↔ Within .stop s t :=
  within_step <| (within_watchdog (by decide)).mpr <| (within_set (by decide)).mpr <| (within_set (by decide)).mpr <|
    (within_set (by decide)).mpr (.refl _ t)

/-- RUN left: the device state that is entered, and what a stop touches. -/
theorem leaveRun_within (s : State) (d : Dev) : (leaveRun s d).dev = d ∧
    Within (.or ⟨[.dev], []⟩ .stop) s (leaveRun s d) := by
  let u : State := (canHold (s.when (!s.cycle.stopping && (d == .stop || !hasStandby s)) stopWorkers)).enter d
  have hu : Within (.or ⟨[.dev], []⟩ .stop) s u := by simp (disch := decide) [u]
  have hclear : Within .stop u (passesClear (coresClear (classesClear u))) :=
    (Within.refl _ u).work (within_passesClear.mpr (within_coresClear.mpr (within_classesClear.mpr (.refl _ u))))
  have hleave : Within .stop u (leaveRun s d) := by
    unfold leaveRun
    extract_lets +lift s₁ s₂ s₃ s₄ s₅
    have h₄ : Within .stop u s₄ := by simp (disch := decide) [s₄, show Within .stop u s₃ from hclear]
    have h₅ : Within .stop u s₅ := by simp (disch := decide) [s₅, h₄]
    exact Within.work (within_watchdogDisarm.mpr (within_outputsFallback.mpr h₅)) (within_forceSettle.mpr (.refl _ _))
  exact ⟨Eq.trans (hleave.part .dev) (dev_enter _ d), hu.trans (hleave.mono (by decide))⟩

/-- The device stopped: STOP entered, and what a stop touches. -/
theorem enterStop_within (s : State) : (enterStop s).dev = .stop ∧ Within (.or ⟨[.dev], []⟩ .stop) s (enterStop s) := by
  have hswitch : Within .stop s (olcSwitch s) := within_olcSwitch.mpr (.refl _ s)
  obtain ⟨hdev, hleave⟩ := leaveRun_within (olcSwitch s) .stop
  have hend : Within .stop (leaveRun (olcSwitch s) .stop) (enterStop s) := by
    unfold enterStop
    simp (disch := decide)
  exact ⟨Eq.trans (hend.part .dev) hdev, (hswitch.mono (by decide)).trans (hleave.trans (hend.mono (by decide)))⟩

/-- A stop that begins leaves the classes as they are (R33). -/
theorem stopBegin_within (s : State) :
    Within ⟨[.spine, .twin, .cycle, .startAt], []⟩ s (stopBegin s) ∧ (stopBegin s).cycle.classes = s.cycle.classes := by
  have hworkers : Within ⟨[.spine], []⟩ s (stopWorkers s) := (within_stopWorkers (by decide)).mpr (.refl _ s)
  have htrack : Within ⟨[.twin], []⟩ { stopWorkers s with cycle := { (stopWorkers s).cycle with stopping := true } }
      (stopBegin s) := (within_trackSend (by decide)).mpr (.refl _ _)
  refine ⟨(hworkers.mono (by decide)).trans (.trans ((within_cycle (by decide)).mpr (.refl _ _)) (htrack.mono (by decide))), ?_⟩
  have hcycle : (stopBegin s).cycle = { (stopWorkers s).cycle with stopping := true } := htrack.part .cycle
  have hkept : (stopWorkers s).cycle = s.cycle := hworkers.part .cycle
  rw [hcycle, hkept]

/-- A device whose cycles are done stops at once. -/
theorem stopDevice_within (h : cyclesDone s = true) :
    (stopDevice s).dev = .stop ∧ Within (.or ⟨[.dev], []⟩ .stop) s (stopDevice s) := by
  obtain ⟨hbegin, hclasses⟩ := stopBegin_within s
  have hdone : cyclesDone (stopBegin s) = true := by rwa [cyclesDone, hclasses]
  obtain ⟨hdev, hstop⟩ := enterStop_within (stopBegin s)
  have hnow : stopDevice s = enterStop (stopBegin s) := if_pos hdone
  rw [hnow]
  exact ⟨hdev, (hbegin.mono (by decide)).trans hstop⟩

/-- A stop that is due at the boundary waits for the gap. -/
theorem boundaryStop_waits (h : inGap s = false) : boundaryStop (stopAtBoundary s) = stopAtBoundary s := by
  have hgap : inGap (stopAtBoundary s) = false := h
  exact if_neg (by simp [hgap])

/-- A stop that is due in the gap comes at once. -/
theorem boundaryStop_stops (hdev : s.dev = .run) (hgap : inGap s = true) (hdone : cyclesDone s = true) :
    (boundaryStop (stopAtBoundary s)).dev = .stop ∧
      Within (.or ⟨[.dev], []⟩ .stop) s (boundaryStop (stopAtBoundary s)) := by
  have hgap' : inGap (stopAtBoundary s) = true := hgap
  have hcycling : (stopAtBoundary s).cycling = true := by
    show (s.dev == .run || s.dev == .standby) = true
    rw [hdev]
    rfl
  have hnow : boundaryStop (stopAtBoundary s) = stopDevice (stopAtBoundary s) :=
    if_pos (by rw [hgap', hcycling]; rfl)
  obtain ⟨hstop, hwithin⟩ := stopDevice_within (s := stopAtBoundary s) hdone
  rw [hnow]
  exact ⟨hstop, .trans ((within_cycle (by decide)).mpr (.refl _ s)) hwithin⟩

theorem isolimExpiry_of_due (hisol : s.flag R.SPN_STAT_ISOL = true) (hpol : s.flag R.SPN_CFG_ISOPOL = true)
    (hlim : s.get R.SPN_CFG_ISOLIM ≠ 0) (hdev : s.dev = .run) : isolimExpiry s = boundaryStop (stopAtBoundary s) :=
  if_pos (by simp [hisol, hpol, hlim, hdev])

theorem isolimExpiry_waits (s : State) (hpow : s.powered = true) (hisol : s.flag R.SPN_STAT_ISOL = true)
    (hpol : s.flag R.SPN_CFG_ISOPOL = true) (hlim : s.get R.SPN_CFG_ISOLIM ≠ 0) (hdev : s.dev = .run)
    (hgap : inGap s = false) :
    Runs (.isolimExpiry) s fun t => t.cycle = { s.cycle with stopDue := true } ∧ t = { s with cycle := t.cycle } :=
  runs_of_powered_eq rfl hpow ((isolimExpiry_of_due hisol hpol hlim hdev).trans (boundaryStop_waits hgap)) rfl ⟨rfl, rfl⟩

theorem isolimExpiry_stops (s : State) (hpow : s.powered = true) (hisol : s.flag R.SPN_STAT_ISOL = true)
    (hpol : s.flag R.SPN_CFG_ISOPOL = true) (hlim : s.get R.SPN_CFG_ISOLIM ≠ 0) (hdev : s.dev = .run)
    (hgap : inGap s = true) (hdone : cyclesDone s = true) : Runs (.isolimExpiry) s fun t => t.dev = .stop := by
  obtain ⟨hstop, hwithin⟩ := boundaryStop_stops hdev hgap hdone
  exact runs_of_powered_eq rfl hpow (isolimExpiry_of_due hisol hpol hlim hdev) (hwithin.part .pending) hstop

theorem isolimExpiry_idle (s : State) (hpow : s.powered = true) (h : s.flag R.SPN_STAT_ISOL = false ∨
    s.flag R.SPN_CFG_ISOPOL = false ∨ s.get R.SPN_CFG_ISOLIM = 0 ∨ s.dev ≠ .run) :
    Runs (.isolimExpiry) s fun t => t = s := by
  have hidle : isolimExpiry s = s := if_neg (by
    simp only [Bool.and_eq_true, bne_iff_ne, beq_iff_eq]
    rintro ⟨⟨⟨hisol, hpol⟩, hlim⟩, hdev⟩
    rcases h with h | h | h | h
    · exact Bool.false_ne_true (h.symm.trans hisol)
    · exact Bool.false_ne_true (h.symm.trans hpol)
    · exact hlim h
    · exact h hdev)
  exact runs_of_powered_eq rfl hpow hidle rfl rfl

end
end Sys2Proof.Machine

/-!
A worker that is isolated (R88, R342): its status, the time domains that hold over, and a stop that is due.
-/
namespace Sys2Proof.Machine
section
variable {s t u : State} {d : Nat}

/-! ### Time domains that lose their source -/

/-- What a domain that loses its source touches. -/
def Touch.domain : Touch := .or ⟨[.time], [.field R.NTM_EVT_SRCLOSS, .upTo R.NTM_DSTAT_STATE 2, .field R.NTM_STAT_Q0,
  .field R.NTM_STAT_Q1, .field R.NTM_EVT_LOCK, .field R.NTM_EVT_HOLD, .field R.NTM_EVT_FREE]⟩ .report

/-- The state of a domain whose source is lost (R353). -/
def heldOver (v : Nat) : Nat := if v = 1 ∨ v = 2 then 3 else v

theorem heldOver_heldOver (v : Nat) : heldOver (heldOver v) = heldOver v := by
  unfold heldOver
  split <;> simp_all

/-- Beside a domain's touch, of the time only the counts of good messages differ. -/
structure DomainLoss (s t : State) : Prop where
  within : Within .domain s t
  time : ∃ g, t.time = { s.time with good := g }

theorem DomainLoss.refl (s : State) : DomainLoss s s := ⟨.refl _ s, s.time.good, rfl⟩

theorem DomainLoss.trans (h : DomainLoss s t) (k : DomainLoss t u) : DomainLoss s u := by
  obtain ⟨hwithin, g, htime⟩ := h
  obtain ⟨kwithin, g', ktime⟩ := k
  exact ⟨hwithin.trans kwithin, g', by rw [ktime, htime]⟩

theorem setDomainState_hold (h : s.get (R.NTM_DSTAT_STATE d) ≠ 3) : setDomainState s d 3 =
    ((((if d = 0 then (s.set (R.NTM_DSTAT_STATE d) 3).set R.NTM_STAT_Q0 3
      else (s.set (R.NTM_DSTAT_STATE d) 3).set R.NTM_STAT_Q1 3).raise R.NTM_EVT_HOLD).record 75 19 d 0)) := if_neg h

theorem sourceLoss_of_locked (h : s.get (R.NTM_DSTAT_STATE d) = 1 ∨ s.get (R.NTM_DSTAT_STATE d) = 2) :
    sourceLoss s d = setDomainState ({ s with time := { s.time with good := s.time.good.setIfInBounds d 0 } }.raise
      R.NTM_EVT_SRCLOSS) d 3 := if_pos (by simpa using h)

theorem sourceLoss_of_other (h : ¬ (s.get (R.NTM_DSTAT_STATE d) = 1 ∨ s.get (R.NTM_DSTAT_STATE d) = 2)) :
    sourceLoss s d = s := if_neg (by simpa using h)

/-- Holdover entered: what it touches, and the states of the domains. -/
theorem setDomainState_holds (hd : d < 2) (h : s.get (R.NTM_DSTAT_STATE d) ≠ 3) :
    Within (.or ⟨[], [.upTo R.NTM_DSTAT_STATE 2, .field R.NTM_STAT_Q0, .field R.NTM_STAT_Q1, .field R.NTM_EVT_HOLD]⟩ .report) s
      (setDomainState s d 3) ∧
    ∀ e < 2, (setDomainState s d 3).get (R.NTM_DSTAT_STATE e) = if e = d then 3 else s.get (R.NTM_DSTAT_STATE e) := by
  let t : State := s.set (R.NTM_DSTAT_STATE d) 3
  have ht : Within ⟨[], [.upTo R.NTM_DSTAT_STATE 2]⟩ s t := (within_setUpTo R.NTM_DSTAT_STATE hd (hT := by decide)).mpr (.refl _ s)
  have hafter : Within (.or ⟨[], [.field R.NTM_STAT_Q0, .field R.NTM_STAT_Q1, .field R.NTM_EVT_HOLD]⟩ .report) t
      (setDomainState s d 3) := by
    rw [setDomainState_hold h]
    simp (disch := decide) [t]
  refine ⟨(ht.mono (by decide)).trans (hafter.mono (by decide)), fun e he => ?_⟩
  have hread : (setDomainState s d 3).get (R.NTM_DSTAT_STATE e) = t.get (R.NTM_DSTAT_STATE e) := by
    have hcases : e = 0 ∨ e = 1 := by omega
    rcases hcases with rfl | rfl <;> exact hafter.get _
  rw [hread]
  split
  · next hed =>
    subst hed
    exact State.get_set_whole (by simp [R.NTM_DSTAT_STATE])
  · next hed =>
    refine State.get_set_addr _ _ _ _ ?_
    simp only [R.NTM_DSTAT_STATE]
    omega

/-- A source lost: the domain holds over, and no other changes. -/
theorem sourceLoss_loses (s : State) (hd : d < 2) : DomainLoss s (sourceLoss s d) ∧
    ∀ e < 2, (sourceLoss s d).get (R.NTM_DSTAT_STATE e) =
      if e = d then heldOver (s.get (R.NTM_DSTAT_STATE e)) else s.get (R.NTM_DSTAT_STATE e) := by
  by_cases h : s.get (R.NTM_DSTAT_STATE d) = 1 ∨ s.get (R.NTM_DSTAT_STATE d) = 2
  · let u : State := { s with time := { s.time with good := s.time.good.setIfInBounds d 0 } }.raise R.NTM_EVT_SRCLOSS
    have hu : Within ⟨[.time], [.field R.NTM_EVT_SRCLOSS]⟩ s u :=
      (within_raise (by decide)).mpr ((within_time (by decide)).mpr (.refl _ s))
    have hread (e : Nat) : u.get (R.NTM_DSTAT_STATE e) = s.get (R.NTM_DSTAT_STATE e) := by
      refine State.get_set_addr { s with time := _ } _ _ _ ?_
      simp only [R.NTM_DSTAT_STATE, R.NTM_EVT_SRCLOSS]
      omega
    obtain ⟨hhold, hstates⟩ := setDomainState_holds (s := u) hd (by rw [hread]; omega)
    have htime : (setDomainState u d 3).time = u.time := hhold.part .time
    rw [sourceLoss_of_locked h]
    refine ⟨⟨(hu.mono (by decide)).trans (hhold.mono (by decide)), _, htime⟩, fun e he => ?_⟩
    rw [hstates e he, hread]
    split
    · next hed => rw [hed, heldOver, if_pos h]
    · rfl
  · rw [sourceLoss_of_other h]
    refine ⟨.refl s, fun e _ => ?_⟩
    split
    · next hed => rw [hed, heldOver, if_neg h]
    · rfl

/-- All configured domains without their source. -/
def domainsLost (s : State) : State := State.forEach (configuredDomains s) (fun d s => sourceLoss s d) s

theorem configuredDomains_lt (h : d ∈ configuredDomains s) : d < 2 := by
  have := (List.mem_filter.mp h).1
  simp only [List.mem_cons, List.not_mem_nil, or_false] at this
  omega

theorem domainsLost_loses (s : State) : DomainLoss s (domainsLost s) :=
  forEach_induction (P := DomainLoss s) (.refl s) fun _ hd u hu => hu.trans (sourceLoss_loses u (configuredDomains_lt hd)).1

theorem domainsLost_held (s : State) : ∀ d ∈ configuredDomains s,
    (domainsLost s).get (R.NTM_DSTAT_STATE d) = heldOver (s.get (R.NTM_DSTAT_STATE d)) := by
  let v (e : Nat) : Nat := s.get (R.NTM_DSTAT_STATE e)
  have hstep (d : Nat) (hd : d < 2) (u : State) (e : Nat) (he : e < 2) :
      (sourceLoss u d).get (R.NTM_DSTAT_STATE e) = heldOver (u.get (R.NTM_DSTAT_STATE e)) ∧ e = d ∨
      (sourceLoss u d).get (R.NTM_DSTAT_STATE e) = u.get (R.NTM_DSTAT_STATE e) ∧ e ≠ d := by
    rw [(sourceLoss_loses u hd).2 e he]
    by_cases hed : e = d <;> simp [hed]
  have hheld (e : Nat) (w : Nat) (hw : w = v e ∨ w = heldOver (v e)) : heldOver w = heldOver (v e) := by
    rcases hw with rfl | rfl
    · rfl
    · exact heldOver_heldOver _
  intro d hd
  refine (forEach_each (s := s) (P := fun u => ∀ e < 2, u.get (R.NTM_DSTAT_STATE e) = v e ∨ u.get (R.NTM_DSTAT_STATE e) = heldOver (v e))
    (Q := fun e u => e < 2 ∧ u.get (R.NTM_DSTAT_STATE e) = heldOver (v e)) (fun e _ => .inl rfl)
    (fun d hd u hu e he => ?_) (fun d hd u hu => ⟨configuredDomains_lt hd, ?_⟩) (fun d hd e u hu he => ⟨he.1, ?_⟩) d hd).2
  · rcases hstep d (configuredDomains_lt hd) u e he with ⟨h, -⟩ | ⟨h, -⟩ <;> rw [h]
    · exact .inr (hheld e _ (hu e he))
    · exact hu e he
  · rcases hstep d (configuredDomains_lt hd) u d (configuredDomains_lt hd) with ⟨h, -⟩ | ⟨-, h⟩
    · rw [h]
      exact hheld d _ (hu d (configuredDomains_lt hd))
    · exact absurd rfl h
  · rcases hstep d (configuredDomains_lt hd) u e he.1 with ⟨h, -⟩ | ⟨h, -⟩ <;> rw [h, he.2]
    exact heldOver_heldOver _

/-! ### The isolation of a worker (R342) -/

/-- What the isolation of a worker shows in SPN_STAT. -/
def isolatedShown (s : State) : State :=
  (((s.raise R.SPN_STAT_ISOL).raise R.SPN_EVT_ISOL).set R.SPN_STAT_SYNC 0).set R.SPN_STAT_ADMITTED 0

/-- The ticks and the time domains of a worker that is isolated. -/
def isolatedTimes (s : State) : State := domainsLost { s with spine := { s.spine with tickGood := 0 } }

theorem workerIsolated_eq (hworker : s.isWorker = true) (hisol : s.flag R.SPN_STAT_ISOL = false)
    (ht : isolatedTimes (spineLoadLost (isolatedShown s)) = t) : workerIsolated s =
    if t.dev == .run && !t.flag R.SPN_CFG_ISOPOL then boundaryStop (stopAtBoundary t) else t := by
  subst ht
  exact if_neg (by simp [hworker, hisol])

/-- What the isolation of a worker shows. -/
structure ShownIsolated (t : State) : Prop where
  isol : t.flag R.SPN_STAT_ISOL = true
  event : t.flag R.SPN_EVT_ISOL = true
  sync : t.flag R.SPN_STAT_SYNC = false
  admitted : t.flag R.SPN_STAT_ADMITTED = false

/-- What shows the isolation. -/
def Touch.isolated : Touch :=
  ⟨[], [.field R.SPN_STAT_ISOL, .field R.SPN_EVT_ISOL, .field R.SPN_STAT_SYNC, .field R.SPN_STAT_ADMITTED]⟩

theorem isolatedShown_shows (s : State) : ShownIsolated (isolatedShown s) ∧ Within .isolated s (isolatedShown s) := by
  have hadm {u : State} {f : Fld} (h : Apart R.SPN_STAT_ADMITTED f) : (u.set R.SPN_STAT_ADMITTED 0).flag f = u.flag f :=
    State.flag_set_apart h
  have hsync {u : State} {f : Fld} (h : Apart R.SPN_STAT_SYNC f) : (u.set R.SPN_STAT_SYNC 0).flag f = u.flag f :=
    State.flag_set_apart h
  refine ⟨⟨?_, ?_, ?_, ?_⟩, by simp (disch := decide) [isolatedShown]⟩
  · rw [isolatedShown, hadm ⟨by decide, by decide⟩, hsync ⟨by decide, by decide⟩]
    exact (State.flag_set_apart ⟨by decide, by decide⟩).trans (State.flag_set_one (by decide))
  · rw [isolatedShown, hadm ⟨by decide, by decide⟩, hsync ⟨by decide, by decide⟩]
    exact State.flag_set_one (by decide)
  · rw [isolatedShown, hadm ⟨by decide, by decide⟩]
    exact State.flag_set_same _ _ rfl (by decide)
  · exact State.flag_set_same _ _ rfl (by decide)

theorem ShownIsolated.within (h : ShownIsolated s) (k : Within (.or ⟨[.spine], []⟩ .domain) s t) : ShownIsolated t :=
  ⟨(k.flag _).trans h.isol, (k.flag _).trans h.event, (k.flag _).trans h.sync, (k.flag _).trans h.admitted⟩

/-- The cycle boundary does not move with the counts of good messages. -/
theorem inGap_congr (hper : ∀ c < 8, t.get (R.CYC_PER_TICKS c) = s.get (R.CYC_PER_TICKS c))
    (hmajor : t.get R.CYC_MAJOR_M = s.get R.CYC_MAJOR_M) (hcycle : t.cycle = s.cycle) (hnow : t.now = s.now) :
    inGap t = inGap s := by
  have hclasses : configuredClasses t = configuredClasses s :=
    List.filter_congr fun c hc => by rw [hper c (List.mem_range.mp hc)]
  have hnext : nextMajor t = nextMajor s := by rw [nextMajor, nextMajor, hmajor, hnow]
  unfold inGap
  rw [hclasses, hnext, hnow]
  rw [Bool.eq_iff_iff, List.all_eq_true, List.all_eq_true]
  refine forall₂_congr fun c hc => ?_
  rw [classPeriod, classPeriod, hper c (configuredClasses_lt hc), State.cls, State.cls, hcycle]

theorem isolatedTimes_loses (s : State) :
    DomainLoss { s with spine := { s.spine with tickGood := 0 } } (isolatedTimes s) := domainsLost_loses _

theorem isolatedTimes_within (s : State) : Within (.or ⟨[.spine], []⟩ .domain) s (isolatedTimes s) :=
  .trans ((within_spine (by decide)).mpr (.refl _ s)) ((isolatedTimes_loses s).within.mono (by decide))

theorem isolatedTimes_tickGood (s : State) : (isolatedTimes s).spine.tickGood = 0 := by
  have h : (isolatedTimes s).spine = { s.spine with tickGood := 0 } := (isolatedTimes_loses s).within.part .spine
  rw [h]

theorem now_of_good {g : Vector Nat 2} (h : t.time = { s.time with good := g }) : t.now = s.now := by
  rw [State.now, State.now, h]

/-- A worker without a load over the spine, isolated: the state up to the stop that may be due. -/
theorem isolated_without_load (hload : s.folio.loading.any (·.src == 3) = false) :
    spineLoadLost (isolatedShown s) = isolatedShown s := if_neg (by
  have hfolio : (isolatedShown s).folio = s.folio := (isolatedShown_shows s).2.part .folio
  rw [hfolio, hload]
  decide)

/-- The state of a worker that is isolated, up to the stop that may be due. -/
def isolatedWorker (s : State) : State := isolatedTimes (isolatedShown s)

theorem isolatedWorker_within (s : State) : Within (.or ⟨[.spine], []⟩ (.or .domain .isolated)) s (isolatedWorker s) :=
  ((isolatedShown_shows s).2.mono (by decide)).trans ((isolatedTimes_within _).mono (by decide))

theorem isolatedWorker_shows (s : State) : ShownIsolated (isolatedWorker s) :=
  (isolatedShown_shows s).1.within (isolatedTimes_within _)

theorem isolatedWorker_inGap (s : State) : inGap (isolatedWorker s) = inGap s := by
  have hwithin := isolatedWorker_within s
  obtain ⟨g, htime⟩ := (isolatedTimes_loses (isolatedShown s)).time
  have hshown : (isolatedShown s).time = s.time := (isolatedShown_shows s).2.part .time
  refine inGap_congr (fun c hc => ?_) (hwithin.get _) (hwithin.part .cycle) (now_of_good (g := g) ?_)
  · interval_cases c <;> exact hwithin.get _
  · exact htime.trans (by rw [hshown])

theorem isolatedWorker_domains (s : State) : ((configuredDomains s).all (fun d =>
    (isolatedWorker s).get (R.NTM_DSTAT_STATE d) ==
      if s.get (R.NTM_DSTAT_STATE d) = 1 ∨ s.get (R.NTM_DSTAT_STATE d) = 2 then 3
      else s.get (R.NTM_DSTAT_STATE d)) = true) := by
  let u : State := { isolatedShown s with spine := { (isolatedShown s).spine with tickGood := 0 } }
  have hu : Within (.or ⟨[.spine], []⟩ .isolated) s u :=
    (within_spine (by decide)).mpr ((isolatedShown_shows s).2.mono (by decide))
  have hdomains : configuredDomains u = configuredDomains s := by
    refine List.filter_congr fun d hd => ?_
    have hcases : d = 0 ∨ d = 1 := by simpa using hd
    rcases hcases with rfl | rfl <;> rw [hu.get _]
  refine List.all_eq_true.mpr fun d hd => beq_iff_eq.mpr ?_
  have hstate : u.get (R.NTM_DSTAT_STATE d) = s.get (R.NTM_DSTAT_STATE d) := by
    have hlt := configuredDomains_lt hd
    interval_cases d <;> exact hu.get _
  have hheld := domainsLost_held u d (hdomains ▸ hd)
  rw [hstate] at hheld
  exact hheld

/-- A worker that is isolated and does not stop for it (R342). -/
theorem workerIsolated_stays (s : State) (hpow : s.powered = true) (hworker : s.isWorker = true)
    (hisol : s.flag R.SPN_STAT_ISOL = false) (hload : s.folio.loading.any (·.src == 3) = false)
    (hstay : s.dev ≠ .run ∨ s.flag R.SPN_CFG_ISOPOL = true) :
    Runs (.workerIsolated) s fun t => t.flag R.SPN_STAT_ISOL = true ∧ t.flag R.SPN_EVT_ISOL = true ∧
    t.flag R.SPN_STAT_SYNC = false ∧ t.flag R.SPN_STAT_ADMITTED = false ∧ t.spine.tickGood = 0 ∧
    ((configuredDomains s).all (fun d => t.get (R.NTM_DSTAT_STATE d) == if s.get (R.NTM_DSTAT_STATE d) = 1 ∨
    s.get (R.NTM_DSTAT_STATE d) = 2 then 3 else s.get (R.NTM_DSTAT_STATE d)) = true) ∧
    t = { s with regs := t.regs, spine := t.spine, time := t.time, records := t.records, host := t.host, free := t.free } := by
  obtain ⟨hI, hE, hS, hA⟩ := isolatedWorker_shows s
  have hwithin := isolatedWorker_within s
  have hdev : (isolatedWorker s).dev = s.dev := hwithin.part .dev
  have hpol : (isolatedWorker s).flag R.SPN_CFG_ISOPOL = s.flag R.SPN_CFG_ISOPOL := hwithin.flag _
  have hend : workerIsolated s = isolatedWorker s := by
    rw [workerIsolated_eq (t := isolatedWorker s) hworker hisol (congrArg isolatedTimes (isolated_without_load hload))]
    refine if_neg ?_
    rw [hdev, hpol]
    rcases hstay with h | h <;> simp [h]
  exact runs_of_powered_eq rfl hpow hend (hwithin.part .pending) ⟨hI, hE, hS, hA, isolatedTimes_tickGood _,
    isolatedWorker_domains s, (hwithin.mono (T := .or ⟨[.host, .free], []⟩ (.or ⟨[.spine], []⟩ (.or .domain .isolated)))
      (by decide)).eq_patch⟩

theorem workerIsolated_runs (hworker : s.isWorker = true) (hisol : s.flag R.SPN_STAT_ISOL = false)
    (hload : s.folio.loading.any (·.src == 3) = false) (hdev : s.dev = .run) (hpol : s.flag R.SPN_CFG_ISOPOL = false) :
    workerIsolated s = boundaryStop (stopAtBoundary (isolatedWorker s)) := by
  have hwithin := isolatedWorker_within s
  have hdev' : (isolatedWorker s).dev = .run := Eq.trans (hwithin.part .dev) hdev
  have hpol' : (isolatedWorker s).flag R.SPN_CFG_ISOPOL = false := (hwithin.flag _).trans hpol
  rw [workerIsolated_eq (t := isolatedWorker s) hworker hisol (congrArg isolatedTimes (isolated_without_load hload))]
  exact if_pos (by rw [hdev', hpol']; rfl)

/-- A worker that is isolated in RUN and has to stop waits for the cycle boundary (R88). -/
theorem workerIsolated_waits (s : State) (hpow : s.powered = true) (hworker : s.isWorker = true)
    (hisol : s.flag R.SPN_STAT_ISOL = false) (hload : s.folio.loading.any (·.src == 3) = false) (hdev : s.dev = .run)
    (hpol : s.flag R.SPN_CFG_ISOPOL = false) (hgap : inGap s = false) :
    Runs (.workerIsolated) s fun t => t.flag R.SPN_STAT_ISOL = true ∧ t.flag R.SPN_STAT_ADMITTED = false ∧
    t.cycle.stopDue = true ∧ t.dev = s.dev := by
  have hshows := isolatedWorker_shows s
  have hwithin := isolatedWorker_within s
  have hend : workerIsolated s = stopAtBoundary (isolatedWorker s) :=
    (workerIsolated_runs hworker hisol hload hdev hpol).trans (boundaryStop_waits ((isolatedWorker_inGap s).trans hgap))
  exact runs_of_powered_eq rfl hpow hend (hwithin.part .pending) ⟨hshows.isol, hshows.admitted, rfl, hwithin.part .dev⟩

/-- A worker that is isolated in RUN and has to stop does so in the gap (R88). -/
theorem workerIsolated_stops (s : State) (hpow : s.powered = true) (hworker : s.isWorker = true)
    (hisol : s.flag R.SPN_STAT_ISOL = false) (hload : s.folio.loading.any (·.src == 3) = false) (hdev : s.dev = .run)
    (hpol : s.flag R.SPN_CFG_ISOPOL = false) (hgap : inGap s = true) (hdone : cyclesDone s = true) :
    Runs (.workerIsolated) s fun t => t.flag R.SPN_STAT_ISOL = true ∧ t.dev = .stop := by
  have hwithin := isolatedWorker_within s
  have hcycle : (isolatedWorker s).cycle = s.cycle := hwithin.part .cycle
  obtain ⟨hstop, hwithin'⟩ := boundaryStop_stops (s := isolatedWorker s) (Eq.trans (hwithin.part .dev) hdev)
    ((isolatedWorker_inGap s).trans hgap) (by rwa [cyclesDone, hcycle])
  refine runs_of_powered_eq rfl hpow (workerIsolated_runs hworker hisol hload hdev hpol)
    (Eq.trans (hwithin'.part .pending) (hwithin.part .pending)) ⟨?_, hstop⟩
  rw [hwithin'.flag R.SPN_STAT_ISOL]
  exact (isolatedWorker_shows s).isol

end
end Sys2Proof.Machine

/-!
A load over the spine that its worker loses (R88), and the obligation on the nodes of the spine.
-/
namespace Sys2Proof.Machine
section
variable {s t : State}

/-! ### A load that ends -/

/-- What the end of a load touches. -/
def Touch.load : Touch := .or ⟨[.dev, .folio], []⟩ .work

theorem within_load_of_work (h : Within .load s t) {u : State} (k : Within .work t u) : Within .load s u :=
  h.trans (k.mono (by decide))

/-- A load that ends leaves LOAD for STOP (R88). -/
theorem loadEnd_ends (s : State) (l : FolioLoad) : (loadEnd s l).dev = .stop ∧
    (loadEnd s l).folio = { s.folio with loading := none } ∧ Within .load s (loadEnd s l) := by
  let u : State := { (s.set R.FOL_STAT_BUSY 0).set R.FOL_STAT_PASS 0 with folio := { s.folio with loading := none } }
  have hu : Within .load s u := (within_folio (by decide)).mpr <| (within_set (by decide)).mpr <|
    (within_set (by decide)).mpr (.refl _ s)
  have henter : Within .work { u with dev := .stop } (u.enter .stop) := enter_within u .stop (by decide) (.of_covers (by decide) _)
  have hend : Within .work { u with dev := .stop } (loadEnd s l) :=
    henter.trans ((folCommandEnd_within _ _ _).mono (by decide))
  exact ⟨hend.part .dev, hend.part .folio, within_load_of_work ((within_dev (by decide)).mpr hu) hend⟩

/-- A pass that breaks for its source shows the cause (R88). -/
theorem passBroken_shows (s : State) (pos : Nat) : (passBroken s 18 pos).get R.FOL_STAT_CAUSE = 18 ∧
    Within (.or ⟨[], [.field R.FOL_STAT_CAUSE]⟩ .work) s (passBroken s 18 pos) := by
  have hafter : Within .work (s.set R.FOL_STAT_CAUSE 18) (passBroken s 18 pos) :=
    (within_journal (by decide)).mpr ((within_draw (by decide)).mpr ((within_set (by decide)).mpr (.refl _ _)))
  refine ⟨?_, .trans ((within_set (by decide)).mpr (.refl _ s)) (hafter.mono (by decide))⟩
  rw [hafter.get R.FOL_STAT_CAUSE]
  exact State.get_set_same _ _ _ (by decide)

/-- A folio that is refused shows the cause (R88). -/
theorem folioRefused_shows (s : State) (pos : Nat) (i : Option FolioImage) :
    (folioRefused s 18 pos i).get R.FOL_STAT_CAUSE = 18 ∧
    Within (.or ⟨[], [.field R.FOL_STAT_CAUSE]⟩ .work) s (folioRefused s 18 pos i) := by
  have hafter : Within .work (s.set R.FOL_STAT_CAUSE 18) (folioRefused s 18 pos i) :=
    (within_journal (by decide)).mpr ((within_set (by decide)).mpr (.refl _ _))
  refine ⟨?_, .trans ((within_set (by decide)).mpr (.refl _ s)) (hafter.mono (by decide))⟩
  rw [hafter.get R.FOL_STAT_CAUSE]
  exact State.get_set_same _ _ _ (by decide)

/-- A change of the cycle that keeps the instant of the start. -/
theorem within_cycle_started {T : Touch} {q : CycleSt} (hT : T.has .cycle = true) (h : q.startAt = t.cycle.startAt) :
    Within T s { t with cycle := q } ↔ Within T s t := by
  refine within_step ⟨fun c hc => ?_, fun _ _ _ => rfl⟩
  cases c
  case cycle => exact absurd (hT.symm.trans hc) (by decide)
  case startAt => exact h
  all_goals rfl

/-- No folio is in force once it is taken out. -/
theorem folioOut_content (s : State) : (folioOut s).content = none ∧ Within .load s (folioOut s) := by
  unfold folioOut
  extract_lets +lift s₁ handles s₂ s₃ folio s₄ fabric s₅ s₆ cycle s₇ s₈ s₉ s₁₀ s₁₁ s₁₂ s₁₃
  have h₁ : Within .work s s₁ := .forEach (.refl _ s) _ fun _ _ _ hu => within_channelDetach.mpr hu
  have h₃ : Within .work s s₃ := by simp (disch := decide) [s₃, s₂, h₁]
  have h₆ : Within .work s₄ s₆ := by
    refine within_clearStaged.mpr (within_quireShow.mpr ?_)
    exact (within_fabric_imposer (by decide)).mpr (.refl _ s₄)
  have h₇ : Within .work s₄ s₇ := (within_cycle_started (by decide) (by rfl)).mpr h₆
  have h₁₀ : Within .work s₄ s₁₀ := by simp (disch := decide) [s₁₀, s₉, s₈, h₇]
  have h₁₁ : Within .work s₄ s₁₁ :=
    (within_putDigest R.FOL_PDIGEST_DIGEST).mpr ((within_putDigest R.FOL_DIGEST_DIGEST).mpr h₁₀)
  have h₁₂ : Within .work s₄ s₁₂ := .forEach h₁₁ _ fun i hi u hu =>
    (within_setUpTo R.HND_POOL_SIZE (List.mem_range.mp hi) (hT := by decide)).mpr hu
  have hend : Within .work s₄ ((s₁₃.set R.IMP_STAT_WAIT 0).set R.IMP_STAT_REMOTE 0) := by
    simp (disch := decide) [s₁₃, h₁₂]
  exact ⟨congrArg FolioSt.content (hend.part .folio),
    within_load_of_work ((within_folio (by decide)).mpr (h₃.mono (by decide))) hend⟩

/-! ### A load over the spine that is lost (R88) -/

/-- What the loss of a load over the spine leaves. -/
structure LoadLost (s t : State) (accepted : Bool) : Prop where
  dev : t.dev = .stop
  loading : t.folio.loading = none
  cause : t.get R.FOL_STAT_CAUSE = 18
  content : accepted = true → t.content = none
  within : Within (.or ⟨[], [.field R.FOL_STAT_CAUSE]⟩ .load) s t

theorem secondPassFail_lost (s : State) (l : FolioLoad) (pos : Nat) : LoadLost s (secondPassFail s l 18 pos) true := by
  obtain ⟨hcause, hrefused⟩ := folioRefused_shows s pos l.accepted
  obtain ⟨hout, hwithin⟩ := folioOut_content (folioRefused s 18 pos l.accepted)
  let u : State := forcesClear (folioOut (folioRefused s 18 pos l.accepted))
  have hu : Within .work (folioOut (folioRefused s 18 pos l.accepted)) u := within_forcesClear.mpr (.refl _ _)
  have hfolio : u.folio = (folioOut (folioRefused s 18 pos l.accepted)).folio := hu.part .folio
  let v : State := { u with folio := { u.folio with carry := [], carryFrom := none, carryFresh := false } }
  have hv : Within .load (folioRefused s 18 pos l.accepted) v :=
    (within_folio (by decide)).mpr (within_load_of_work hwithin hu)
  obtain ⟨hdev, hload, hend⟩ := loadEnd_ends v l
  have hall : Within .load (folioRefused s 18 pos l.accepted) (secondPassFail s l 18 pos) := hv.trans hend
  refine ⟨hdev, congrArg FolioSt.loading hload, (hall.get _).trans hcause, fun _ => ?_,
    (hrefused.mono (by decide)).trans (hall.mono (by decide))⟩
  have hcontent : (loadEnd v l).folio.content = u.folio.content := by rw [hload]
  exact hcontent.trans ((congrArg FolioSt.content hfolio).trans hout)

theorem firstPassFail_lost (s : State) {l : FolioLoad} (pos : Nat) (hother : l.otherSlot = false) :
    LoadLost s (firstPassFail (passBroken s 18 pos) l) false := by
  obtain ⟨hcause, hbroken⟩ := passBroken_shows s pos
  obtain ⟨hdev, hload, hend⟩ := loadEnd_ends (passBroken s 18 pos) l
  have hfail : firstPassFail (passBroken s 18 pos) l = loadEnd (passBroken s 18 pos) l := if_neg (by simp [hother])
  rw [hfail]
  exact ⟨hdev, congrArg FolioSt.loading hload, (hend.get _).trans hcause, nofun,
    (hbroken.mono (by decide)).trans (hend.mono (by decide))⟩

theorem spineLoadLost_lost {l : FolioLoad} (hl : s.folio.loading = some l) (hsrc : l.src = 3) (hother : l.otherSlot = false) :
    LoadLost s (spineLoadLost s) l.accepted.isSome := by
  let u : State := s.draw.2
  have hu : Within .load s u := (within_draw (by decide)).mpr (.refl _ s)
  have hlost : spineLoadLost s = if l.accepted.isSome then secondPassFail u l 18 (s.draw.1 % 2097153)
      else firstPassFail (passBroken u 18 (s.draw.1 % 2097153)) l := by
    have hload : u.folio.loading = some l := hl
    have hfails : spineLoadLost s = sourceFails u (s.draw.1 % 2097153) := if_pos (by simp [hl, hsrc])
    rw [hfails, sourceFails, hload]
    simp [State.when, hsrc]
  rw [hlost]
  have hback {v : State} {b : Bool} (h : LoadLost u v b) : LoadLost s v b :=
    ⟨h.dev, h.loading, h.cause, h.content, (hu.mono (by decide)).trans h.within⟩
  split
  · next hacc => exact hacc ▸ hback (secondPassFail_lost u l _)
  · next hacc =>
    rw [Bool.not_eq_true] at hacc
    exact hacc ▸ hback (firstPassFail_lost u _ hother)

/-- A worker that is isolated in a load over the spine leaves LOAD without its folio (R88, R342). -/
theorem workerIsolated_loading (s : State) (l : FolioLoad) (hpow : s.powered = true) (hworker : s.isWorker = true)
    (hisol : s.flag R.SPN_STAT_ISOL = false) (hl : s.folio.loading = some l) (hsrc : l.src = 3)
    (hother : l.otherSlot = false) :
    Runs (.workerIsolated) s fun t => t.flag R.SPN_STAT_ISOL = true ∧ t.dev = .stop ∧ t.folio.loading = none ∧
    t.get R.FOL_STAT_CAUSE = 18 ∧ (l.accepted.isSome = true → t.content = none) := by
  obtain ⟨hshows, hshown⟩ := isolatedShown_shows s
  have hfolio : (isolatedShown s).folio = s.folio := hshown.part .folio
  have hlost := spineLoadLost_lost (s := isolatedShown s) (by rw [hfolio, hl]) hsrc hother
  let t : State := isolatedTimes (spineLoadLost (isolatedShown s))
  have htimes : Within (.or ⟨[.spine], []⟩ .domain) (spineLoadLost (isolatedShown s)) t := isolatedTimes_within _
  have hdev : t.dev = .stop := Eq.trans (htimes.part .dev) hlost.dev
  have hend : workerIsolated s = t :=
    (workerIsolated_eq (t := t) hworker hisol rfl).trans (if_neg (by rw [hdev]; simp))
  have hkept : t.folio = (spineLoadLost (isolatedShown s)).folio := htimes.part .folio
  refine runs_of_powered_eq rfl hpow hend
    (Eq.trans (htimes.part .pending) (Eq.trans (hlost.within.part .pending) (hshown.part .pending)))
    ⟨?_, hdev, ?_, ?_, fun hacc => ?_⟩
  · rw [htimes.flag R.SPN_STAT_ISOL, hlost.within.flag R.SPN_STAT_ISOL]
    exact hshows.isol
  · rw [hkept]
    exact hlost.loading
  · rw [htimes.get R.FOL_STAT_CAUSE]
    exact hlost.cause
  · rw [State.content, hkept]
    exact hlost.content hacc

end

/-- Settles O34: each command of the nodes of the spine, by what it touches and what it makes of the state. -/
theorem spineNodes : Obligations.SpineNodes := by
  unfold Obligations.SpineNodes
  exact ⟨discoveryEnd_runs, discoveryRepeat_runs, nodeLost_runs, nodeAdmission_admits, nodeAdmission_running,
    nodeAdmission_joins, startBroadcast_sends, startBroadcast_hears, startInstant_worker, startInstant_manager,
    startTimeout_runs, releaseBroadcast_sends, releaseBroadcast_hears, workerIsolated_stays,
    fun s l hpow hworker hisol hl hsrc hother _ => workerIsolated_loading s l hpow hworker hisol hl hsrc hother,
    workerIsolated_waits, workerIsolated_stops, isolimExpiry_waits, isolimExpiry_stops, isolimExpiry_idle⟩

end Sys2Proof.Machine

/-!
A cold reset or a loss of power during a deferral (R59): what a reset of the fast domains shows, and a power-fail sequence
that begins at once in BOOT (R67, R613).
-/
namespace Sys2Proof.Machine

/-! ### What a reset leaves of the registers -/

theorem WMap.rd_filter_kept {m : WMap} {q : Nat × Word → Bool} {a : Nat} (h : ∀ w, q (a, w) = true) :
    WMap.rd (m.filter q) a = m.rd a := by
  induction m with
  | nil => rfl
  | cons p m ih =>
    obtain ⟨b, w⟩ := p
    by_cases hb : a = b
    · subst hb
      rw [List.filter_cons_of_pos (h w)]
      simp only [WMap.rd, if_true]
    · by_cases hq : q (b, w) = true
      · rw [List.filter_cons_of_pos hq]
        simp only [WMap.rd, if_neg hb, ih]
      · rw [List.filter_cons_of_neg hq, ih]
        simp only [WMap.rd, if_neg hb]

theorem WMap.rd_foldl_wr_other {ps : WMap} {a : Nat} (h : ∀ p ∈ ps, a ≠ p.1) (m : WMap) :
    WMap.rd (ps.foldl (fun (m : WMap) (p : Nat × Word) => m.wr p.1 p.2) m) a = m.rd a := by
  induction ps generalizing m with
  | nil => rfl
  | cons p ps ih =>
    rw [List.foldl_cons, ih fun q hq => h q (List.mem_cons_of_mem _ hq)]
    exact WMap.rd_wr_other m _ (h p List.mem_cons_self)

/-- A register that a reset does not keep takes its reset value (R56, R609). -/
theorem rd_resetRegs (s : State) {kind a : Nat} (h : resetKeeps kind a = false) :
    (resetRegs s kind).rd a = regsReset.rd a := by
  unfold resetRegs
  refine (WMap.rd_foldl_wr_other (fun p hp e => ?_) _).trans (WMap.rd_filter_kept fun _ => by simp [h])
  have hkept := (List.mem_filter.mp hp).2
  rw [← e, h] at hkept
  exact Bool.false_ne_true hkept

/-! ### A device that boots -/

/-- The device boots from a reset of a kind, and no deferral is left. -/
structure Booting (kind : Nat) (s : State) : Prop where
  dev : s.dev = .boot
  bootKind : s.power.bootKind = kind
  noDefer : s.flag R.SYS_STATE_DEFER = false

section Booting
variable {kind : Nat} {T : Touch} {s t : State}

theorem Booting.of_within (h : Booting kind s) (k : Within T s t) (hdev : T.has .dev = false := by decide)
    (hpow : T.has .power = false := by decide) (hT : T.spares R.SYS_STATE_DEFER = true := by decide) : Booting kind t :=
  ⟨Eq.trans (k.part .dev hdev) h.dev, (congrArg PowerSt.bootKind (k.part .power hpow)).trans h.bootKind,
    (k.flag _ hT).trans h.noDefer⟩

theorem Booting.set (h : Booting kind s) (f : Fld) (v : Nat) (hf : R.SYS_STATE_DEFER.addr ≠ f.addr := by decide) :
    Booting kind (s.set f v) :=
  ⟨h.dev, h.bootKind, (State.flag_congr (State.reg_set_other s f v hf)).trans h.noDefer⟩

theorem Booting.when (h : Booting kind s) {b : Bool} {f : State → State} (hf : Booting kind s → Booting kind (f s)) :
    Booting kind (s.when b f) := by
  cases b
  · exact h
  · exact hf h

theorem Booting.power (h : Booting kind s) {p : PowerSt} (hp : p.bootKind = s.power.bootKind) :
    Booting kind { s with power := p } := ⟨h.dev, hp.trans h.bootKind, h.noDefer⟩

/-- What the end of a handle command touches (R110). -/
def Touch.handleEnd : Touch :=
  ⟨[.handles], [.all R.HND_PCMD_STATUS, .all R.HND_PERR_CODE, .field R.PCI_VPEND_PEND]⟩

@[simp ↓] theorem within_handleEnd {p status err : Nat} (hT : T.covers .handleEnd = true) :
    Within T s (handleEnd t p status err) ↔ Within T s t :=
  within_op hT (by simp (disch := decide) [handleEnd, ↓within_setAll R.HND_PCMD_STATUS, ↓within_setAll R.HND_PERR_CODE])

@[simp ↓] theorem within_handleAbandon {status : Nat} (hT : T.covers .handleEnd = true) :
    Within T s (handleAbandon t status) ↔ Within T s t :=
  within_forEach fun _ _ u => (within_handleEnd hT).mpr (.refl T u)

/-- What the end of a folio load for a power fail touches (R60, R67). -/
def Touch.pfailLoad : Touch := ⟨[.folio, .free], [.field R.FOL_STAT_CAUSE, .field R.FOL_POS_POS, .field R.FOL_STAT_BUSY,
  .field R.FOL_STAT_PASS, .field R.FOL_CMD_STATUS]⟩

@[simp ↓] theorem within_pfailLoadEnds (hT : T.covers .pfailLoad = true) : Within T s (pfailLoadEnds t) ↔ Within T s t :=
  within_op hT (by simp (disch := decide) [pfailLoadEnds, passReached, folCommandEnd])

/-- What a power-fail sequence that begins in BOOT touches beside PWR_STAT and the power state (R65, R67). -/
def Touch.bootPfail : Touch :=
  .or ⟨[.twin, .free, .can], []⟩ (.or .handleEnd (.or .pfailLoad (.or .report .journalWrite)))

/-- In BOOT the power-fail sequence begins without a change of the device state or of the kind of reset (R67). -/
theorem Booting.pfailBegin (h : Booting kind s) : Booting kind (pfailBegin s) := by
  have hsteps : Within .bootPfail s (canHold (handleAbandon (releaseHeld (departNotice s)) 3)) := by simp (disch := decide)
  unfold Machine.pfailBegin
  generalize canHold (handleAbandon (releaseHeld (departNotice s)) 3) = u at hsteps
  have hu := h.of_within hsteps
  have hshown : Booting kind ((u.raise R.PWR_STAT_PFACT).vector 0) := (hu.set R.PWR_STAT_PFACT 1).set R.PCI_VPEND_PEND _
  have hload : Booting kind (loseRecorder (flushJournal 17 (pfailLoadEnds
      { (u.raise R.PWR_STAT_PFACT).vector 0 with power := { u.power with pfStep := 3 } }))) :=
    (hshown.power (p := { u.power with pfStep := 3 }) rfl).of_within (T := .bootPfail) (by simp (disch := decide))
  show Booting kind (match u.dev with | .boot | .load => _ | .stop => _ | _ => _)
  rw [hu.dev]
  exact hload.power rfl

theorem Booting.pfailIfDue (h : Booting kind s) : Booting kind (pfailIfDue s) := by
  unfold Machine.pfailIfDue
  split
  · exact h.pfailBegin
  · exact h

theorem Booting.retainSync (h : Booting kind s) : Booting kind (retainSync s) :=
  h.of_within (T := .retain) ((within_retainSync (by decide)).mpr (.refl _ s))

theorem Booting.sourceShow (h : Booting kind s) (xin : Bool) : Booting kind (sourceShow s xin) :=
  (((h.set R.CLK_STAT_XINOK _).set R.CLK_STAT_RC32 _).set R.CLK_STAT_X32OK _).set R.CLK_STAT_PCILOCK _

/-- A reset of the fast domains leaves the device booting, and SYS_STATE with its reset value (R56, R609). -/
theorem fastReset_booting (s : State) (kind : Nat) : Booting kind (fastReset s kind) := by
  have hdefer : bitsOf ((resetRegs s kind).rd R.SYS_STATE_DEFER.addr) R.SYS_STATE_DEFER.lo R.SYS_STATE_DEFER.width = 0 := by
    rw [rd_resetRegs s (show resetKeeps kind R.SYS_STATE_DEFER.addr = false from rfl)]
    decide
  have hbase {t : State} (hdev : t.dev = .boot) (hregs : t.regs = resetRegs s kind) (hkind : t.power.bootKind = kind) :
      Booting kind t := ⟨hdev, hkind, by rw [State.flag, State.get, hregs, hdefer]; rfl⟩
  unfold fastReset
  refine .pfailIfDue (.retainSync (.sourceShow (.set (.when (.when (.when (.set (.set (.set (.set (.set
    (hbase rfl rfl rfl) R.HND_EPOCH_EPOCH _) R.KPR_DSEQ_SEQ _) R.WDG_STAT_ARMED _) R.WDG_STAT_FIRST _) R.WDG_STAT_HELD _)
    fun h => ?_) fun h => ?_) fun h => ?_) R.PWR_STAT_PFPIN _) _))
  · exact ((h.set R.WDG_LADDER_SAFE _).set R.WDG_LADDER_K _).set R.WDG_LT1_GRAIN _
  · exact (h.set R.RST_STRAP_ROLE _).set R.RST_STRAP_BOOTSRC _
  · exact h.set R.PCI_STAT_PERST _

/-- A cold reset acts at once in every state under power (R59). -/
theorem coldReset_booting {s : State} (cause : Fld) (h : s.powered = true) : Booting 1 (coldReset s cause) := by
  unfold coldReset
  rw [if_neg (by simp [h])]
  exact fastReset_booting _ 1

end Booting

/-! ### The obligation -/

theorem runs_of_booting {s t : State} {c : Instr} (h : exec c s = s.answer t) (ht : Booting 1 t) :
    Runs c s fun t => t.dev = .boot ∧ t.power.bootKind = 1 ∧ t.flag R.SYS_STATE_DEFER = false :=
  runs_of_answer h ⟨ht.dev, ht.bootKind, ht.noDefer⟩

theorem porstAssert_boots {s : State} (h : s.powered = true) : Booting 1 (porstAssert s) := by
  unfold porstAssert
  rw [if_pos h]
  exact coldReset_booting _ h

theorem resetCold_runs {s : State} (m : Fin 18) (hpow : s.powered = true) (hst : s.get R.SYS_CMD_STATUS ≠ 1) :
    Runs (.resetCold m) s fun t => t.dev = .boot ∧ t.power.bootKind = 1 ∧ t.flag R.SYS_STATE_DEFER = false := by
  have hboot : Booting 1 (sysCommand (s.usedBy m) m 5 (coldReset · R.RST_CAUSE_CMDCOLD)) := by
    rw [sysCommand_starts _ _ _ _ (by rwa [State.get_usedBy])]
    exact coldReset_booting _ (by simpa [State.powered] using hpow)
  exact runs_of_serve (f := fun u => sysCommand u m 5 (coldReset · R.RST_CAUSE_CMDCOLD)) rfl hpow
    ⟨hboot.dev, hboot.bootKind, hboot.noDefer⟩

/-- A broadcast cold reset takes effect at its instant on a target, and on the acting manager with SELF (R335). -/
theorem resetInstant_boots {s : State} {at0 : Nat} (hpow : s.powered = true) (hat : s.spine.resetAt = some (at0, true))
    (hgo : s.acting = false ∨ s.flag R.SPN_GOP_SELF = true) : Booting 1 (resetInstant s) := by
  have hcold : resetInstant s = coldReset (State.when { s with spine := { s.spine with resetAt := none } }
      (s.acting && s.get R.SPN_GOP_STATUS == 1) (·.set R.SPN_GOP_STATUS 2)) R.RST_CAUSE_SPINE := by
    have hgo' : ¬ (!(!s.acting || s.flag R.SPN_GOP_SELF)) = true := by simpa [imp_iff_not_or] using hgo
    unfold resetInstant
    rw [hat]
    exact (if_neg hgo').trans (if_pos rfl)
  rw [hcold]
  exact coldReset_booting _ ((State.when_keeps State.powered _ rfl).trans hpow)

/-- Settles O56: each source of a cold reset comes to `coldReset`, which looks at no deferral. -/
theorem coldResetDuringDeferral : Obligations.ColdResetDuringDeferral := by
  unfold Obligations.ColdResetDuringDeferral
  refine ⟨fun s hpow _ => runs_of_booting rfl (porstAssert_boots hpow),
    fun s hpow _ => runs_of_booting rfl (coldReset_booting R.RST_CAUSE_DEBUG hpow),
    fun s m hpow _ hst => resetCold_runs m hpow hst,
    fun s at0 hpow _ hat hgo => ?_,
    fun s rail hpow _ => runs_railLost s rail hpow⟩
  have hexec : exec .resetInstant s = s.answer (if s.powered then resetInstant s else s) := rfl
  exact runs_of_booting (hexec.trans (by rw [if_pos hpow])) (resetInstant_boots hpow hat hgo)

end Sys2Proof.Machine

/-!
The clock registers (R48, R49, R52 to R54, R62): what each event of the references and of the core PLL shows, and that
nothing else changes.
-/
namespace Sys2Proof.Machine
section
variable {s : State}

/-! ### A field written, and the fields beside it -/

theorem State.flag_set_zero {f : Fld} (h : f.width = 1 ∧ f.lo < 36) : (s.set f 0).flag f = false :=
  s.flag_set_same 0 h.1 h.2

/-- `State.flag_set_apart`, with a condition that `decide` settles for two named fields. -/
theorem State.flag_set_beside {f g : Fld} {v : Nat}
    (h : f.lo + f.width ≤ 36 ∧ (g.addr = f.addr → f.lo + f.width ≤ g.lo ∨ g.lo + g.width ≤ f.lo)) :
    (s.set f v).flag g = s.flag g := State.flag_set_apart h

/-! ### The references -/

/-- What the events of the references and of the core PLL touch that show in CLK_STAT alone. -/
def Touch.clock : Touch := ⟨[.power], [.word R.CLK_STAT_XINOK.addr]⟩

theorem Within.clock_frame {t : State} (h : Within .clock s t) : t = { s with regs := t.regs, power := t.power } ∧
    ∀ a, a ≠ R.CLK_STAT_XINOK.addr → t.reg a = s.reg a :=
  ⟨h.eq_patch, fun _ ha => h.reg_of_notMem [R.CLK_STAT_XINOK.addr] (by simpa using ha)⟩

theorem State.journal_within (s : State) (c k d e : Nat) : Within .report s (s.journal c k d e) :=
  (within_journal (by decide)).mpr (.refl _ s)

/-- The main reference that has run for 5 ms locks the core PLL and the time PLL (R62, R63). -/
theorem referenceStable_eq (hdev : s.dev = .boot) : referenceStable s =
    (((State.raise { s with power := { s.power with refOk := true } } R.CLK_STAT_XINOK).setFlag R.CLK_STAT_CORELOCK
      true).setFlag R.CLK_STAT_TIMELOCK true).lockShow := if_neg (by simp [hdev])

theorem mainReferenceStable_runs (hdev : s.dev = .boot) : Runs .mainReferenceStable s fun t => t.power.refOk = true ∧
    t.flag R.CLK_STAT_XINOK = true ∧ t.flag R.CLK_STAT_CORELOCK = true ∧ t.flag R.CLK_STAT_TIMELOCK = true ∧
    t = { s with regs := t.regs, power := t.power } ∧ (∀ a, a ≠ R.CLK_STAT_XINOK.addr → t.reg a = s.reg a) := by
  have heq := referenceStable_eq hdev
  have hwithin : Within .clock s (referenceStable s) := by
    rw [heq]
    simp (disch := decide)
  refine runs_of_answer_eq (t := referenceStable s) rfl (hwithin.part .pending) ⟨by rw [heq]; rfl, ?_, ?_, ?_,
    hwithin.clock_frame⟩
  all_goals
    rw [heq]
    simp (disch := decide) [State.lockShow, State.flag_set_one, State.flag_set_bitNat, State.flag_set_beside]

/-- The slow crystal's failure turns the grains over to the slow RC (R48, R470). -/
theorem crystalFail_eq (hpow : s.powered = true) (haon : s.aon = true) (hrc : s.power.slowRc = false) :
    crystalFail s = (((State.raise { s with power := { s.power with slowRc := true } } R.RTC_STAT_RCTIME).raise
      R.CLK_STAT_RC32).set R.CLK_STAT_X32OK 0).journal 3 2 0 0 :=
  (if_neg (by simp [haon, hrc])).trans (if_pos hpow)

theorem slowCrystalFail_runs (hpow : s.powered = true) (haon : s.aon = true) (hrc : s.power.slowRc = false) :
    Runs .slowCrystalFail s fun t => t.power.slowRc = true ∧ t.flag R.CLK_STAT_RC32 = true ∧
    t.flag R.CLK_STAT_X32OK = false ∧ t.flag R.RTC_STAT_RCTIME = true ∧
    t = { s with regs := t.regs, power := t.power, records := t.records } := by
  have heq := crystalFail_eq hpow haon hrc
  generalize hu : ((State.raise { s with power := { s.power with slowRc := true } } R.RTC_STAT_RCTIME).raise
      R.CLK_STAT_RC32).set R.CLK_STAT_X32OK 0 = u at heq
  have hjournal : Within .report u (crystalFail s) := heq ▸ u.journal_within 3 2 0 0
  have hshown : Within (.or ⟨[], [.field R.RTC_STAT_RCTIME]⟩ .clock) s u := by
    rw [← hu]
    simp (disch := decide)
  have hwithin : Within (.or (.or ⟨[], [.field R.RTC_STAT_RCTIME]⟩ .clock) .report) s (crystalFail s) :=
    (hshown.mono (by decide)).trans (hjournal.mono (by decide))
  refine runs_of_answer_eq (t := crystalFail s) rfl (hwithin.part .pending)
    ⟨by rw [hjournal.part .power, ← hu]; rfl, ?_, ?_, ?_, hwithin.eq_patch⟩
  all_goals
    rw [hjournal.flag _, ← hu]
    simp (disch := decide) [State.flag_set_one, State.flag_set_zero, State.flag_set_beside]

/-- The slow crystal's return (R48). -/
theorem crystalReturn_eq (hpow : s.powered = true) (haon : s.aon = true) (hrc : s.power.slowRc = true) :
    crystalReturn s = (State.set { s with power := { s.power with slowRc := false } } R.CLK_STAT_RC32 0).raise
      R.CLK_STAT_X32OK :=
  (if_neg (by simp [haon, hrc])).trans (if_pos hpow)

theorem slowCrystalReturn_runs (hpow : s.powered = true) (haon : s.aon = true) (hrc : s.power.slowRc = true) :
    Runs .slowCrystalReturn s fun t => t.power.slowRc = false ∧ t.flag R.CLK_STAT_RC32 = false ∧
    t.flag R.CLK_STAT_X32OK = true ∧ t = { s with regs := t.regs, power := t.power } ∧ (∀ a,
    a ≠ R.CLK_STAT_RC32.addr → t.reg a = s.reg a) := by
  have heq := crystalReturn_eq hpow haon hrc
  have hwithin : Within .clock s (crystalReturn s) := by
    rw [heq]
    simp (disch := decide)
  refine runs_of_answer_eq (t := crystalReturn s) rfl (hwithin.part .pending) ⟨by rw [heq]; rfl, ?_, ?_,
    hwithin.clock_frame⟩
  all_goals
    rw [heq]
    simp (disch := decide) [State.flag_set_one, State.flag_set_zero, State.flag_set_beside]

/-! ### The core PLL -/

/-- The core PLL's stop under the conditions of R52. -/
theorem pllStop_eq (h : pllMayStop s = true) : pllStop s =
    ((s.raise R.CLK_STAT_STOPPED).set R.CLK_STAT_CORELOCK 0).add R.CLK_STOPS_COUNT 1 := if_pos h

theorem corePllStop_runs (h : pllMayStop s = true) :
    Runs .corePllStop s fun t => t.flag R.CLK_STAT_STOPPED = true ∧ t.flag R.CLK_STAT_CORELOCK = false ∧
    t.get R.CLK_STOPS_COUNT = (s.get R.CLK_STOPS_COUNT + 1) % 2 ^ 36 ∧ t = { s with regs := t.regs } ∧
    (∀ a, a ≠ R.CLK_STAT_STOPPED.addr → a ≠ R.CLK_STOPS_COUNT.addr → t.reg a = s.reg a) := by
  have heq := pllStop_eq h
  have hwithin : Within ⟨[], [.word R.CLK_STAT_STOPPED.addr, .word R.CLK_STOPS_COUNT.addr]⟩ s (pllStop s) := by
    rw [heq]
    simp (disch := decide)
  refine runs_of_answer_eq (t := pllStop s) rfl (hwithin.part .pending) ⟨?_, ?_, ?_, hwithin.eq_patch,
    fun a hstat hcount => hwithin.reg_of_notMem [R.CLK_STAT_STOPPED.addr, R.CLK_STOPS_COUNT.addr]
      (by simpa using ⟨hstat, hcount⟩)⟩
  · rw [heq]
    simp (disch := decide) [State.add, State.flag_set_one, State.flag_set_beside]
  · rw [heq]
    simp (disch := decide) [State.add, State.flag_set_zero, State.flag_set_beside]
  · rw [heq, State.add, State.get_set_whole (by decide), State.get_set_apart (by unfold Apart; decide), State.raise_eq,
      State.get_set_apart (by unfold Apart; decide)]
    rfl

/-- A stopped core PLL restarts, ahead of a LATCH as on demand (R53, R54). -/
theorem pllWake_eq (h : s.flag R.CLK_STAT_STOPPED = true) :
    pllWake s = { s with power := { s.power with pllWaking := true } } := if_pos h

theorem runs_of_pllWake {c : Instr} (hexec : exec c s = s.answer (if s.powered then pllWake s else s))
    (hpow : s.powered = true) (hstop : s.flag R.CLK_STAT_STOPPED = true) :
    Runs c s fun t => t.power.pllWaking = true ∧ t = { s with power := t.power } :=
  runs_of_powered_eq hexec hpow (pllWake_eq hstop) rfl ⟨rfl, rfl⟩

/-- A core PLL that locks late sets RELOCKLATE and keeps running (R53). -/
theorem pllLate_eq (hstop : s.flag R.CLK_STAT_STOPPED = true) (hwake : s.power.pllWaking = true) : pllLate s =
    (State.raise { s with power := { s.power with pllKeep := true } } R.CLK_STAT_RELOCKLATE).journal 4 2 0 0 :=
  if_pos (by simp [hstop, hwake])

theorem pllRelockLate_runs (hpow : s.powered = true) (hstop : s.flag R.CLK_STAT_STOPPED = true)
    (hwake : s.power.pllWaking = true) :
    Runs .pllRelockLate s fun t => t.power.pllKeep = true ∧ t.flag R.CLK_STAT_RELOCKLATE = true ∧
    t = { s with regs := t.regs, power := t.power, records := t.records } := by
  generalize hu : State.raise { s with power := { s.power with pllKeep := true } } R.CLK_STAT_RELOCKLATE = u
  have hjournal : Within .report u (pllLate s) := by
    rw [pllLate_eq hstop hwake, hu]
    exact u.journal_within 4 2 0 0
  have hshown : Within .clock s u := by
    rw [← hu]
    simp (disch := decide)
  have hwithin : Within (.or .clock .report) s (pllLate s) := (hshown.mono (by decide)).trans (hjournal.mono (by decide))
  refine runs_of_powered (t := pllLate s) rfl hpow (hwithin.part .pending)
    ⟨by rw [hjournal.part .power, ← hu]; rfl, ?_, hwithin.eq_patch⟩
  rw [hjournal.flag _, ← hu]
  exact State.flag_raise_same _ _

/-- The core PLL that locks ends its stop (R53). -/
theorem pllLocked_eq (hstop : s.flag R.CLK_STAT_STOPPED = true) (hwake : s.power.pllWaking = true) : pllLocked s =
    (State.set { s with power := { s.power with pllWaking := false } } R.CLK_STAT_STOPPED 0).raise R.CLK_STAT_CORELOCK :=
  if_pos (by simp [hstop, hwake])

theorem corePllLocked_runs (hpow : s.powered = true) (hstop : s.flag R.CLK_STAT_STOPPED = true)
    (hwake : s.power.pllWaking = true) :
    Runs .corePllLocked s fun t => t.power.pllWaking = false ∧ t.flag R.CLK_STAT_STOPPED = false ∧
    t.flag R.CLK_STAT_CORELOCK = true ∧ t = { s with regs := t.regs, power := t.power } ∧ (∀ a,
    a ≠ R.CLK_STAT_STOPPED.addr → t.reg a = s.reg a) := by
  have heq := pllLocked_eq hstop hwake
  have hwithin : Within .clock s (pllLocked s) := by
    rw [heq]
    simp (disch := decide)
  refine runs_of_powered (t := pllLocked s) rfl hpow (hwithin.part .pending) ⟨by rw [heq]; rfl, ?_, ?_,
    hwithin.clock_frame⟩
  all_goals
    rw [heq]
    simp (disch := decide) [State.flag_set_one, State.flag_set_zero, State.flag_set_beside]

end

/-- Settles O8: each event of the references and of the core PLL, by the state that it makes and what it touches. -/
theorem clocksFollowTheirSources : Obligations.ClocksFollowTheirSources := by
  unfold Obligations.ClocksFollowTheirSources
  exact ⟨fun _ => mainReferenceStable_runs, fun _ => slowCrystalFail_runs, fun _ => slowCrystalReturn_runs,
    fun _ => corePllStop_runs, fun _ => runs_of_pllWake rfl, fun _ => runs_of_pllWake rfl, fun _ => pllRelockLate_runs,
    fun _ => corePllLocked_runs⟩

end Sys2Proof.Machine

/-!
Why a load command may change more than its statements list: the metering engine stops for a LOAD (R423, R424).
-/
namespace Sys2Proof.Machine
section
variable {s : State}

/-- Reflex starts with no change of the metering engine where the device is not in RUN. -/
theorem reflexStart_meter (h : s.dev ≠ .run) : (reflexStart s).meter = s.meter :=
  (Within.reflexStart (T := .reflex) (by decide) (.of_not_run (by decide) h) (.refl _ s)).part .meter

/-- No channel is left in the metering engine by the entry into LOAD (R424). -/
theorem enter_load_chs (s : State) : (s.enter .load).meter.chs = [] := by
  have hstart : (reflexStart (enterShown s .load)).meter = (enterShown s .load).meter := reflexStart_meter Dev.noConfusion
  have hend : (reflexEnd (enterShown s .load)).meter = (enterShown s .load).meter := (reflexEnd_within _).part .meter
  rw [enter_eq]
  split
  · rfl
  split
  · rw [hend]; rfl
  · rw [hstart]; rfl

theorem loadBegin_chs (s : State) (l : FolioLoad) : (loadBegin s l).meter.chs = [] := enter_load_chs s

/-- A load that ends brings nothing back to the metering engine. -/
theorem loadEnd_meter (s : State) (l : FolioLoad) : (loadEnd s l).meter = s.meter := by
  let u : State := { (s.set R.FOL_STAT_BUSY 0).set R.FOL_STAT_PASS 0 with folio := { s.folio with loading := none } }
  have hstop : (u.enter .stop).meter = s.meter := (enter_stop_within u).part .meter
  exact Eq.trans ((folCommandEnd_within (u.enter .stop) l.byCommand 6).part .meter) hstop

theorem folioRefused_meter (s : State) (cause pos : Nat) (i : Option FolioImage) :
    (folioRefused s cause pos i).meter = s.meter := State.meter_journal ..

/-- A load that is admitted in STOP leaves no channel in the metering engine, whether it goes on or fails at once for the
bus mastering (R85). -/
theorem folioLoad_chs {m : Nat} (hst : s.get R.FOL_CMD_STATUS ≠ 1) (hdev : s.dev = .stop) (hpf : s.power.pfStep = 0) :
    (folioLoad s m).meter.chs = [] := by
  unfold folioLoad
  rw [if_neg hst, if_neg (by simp [hdev, hpf])]
  dsimp only
  split
  · rw [firstPassFail, if_neg Bool.false_ne_true, loadEnd_meter, folioRefused_meter, loadBegin_chs]
  · exact loadBegin_chs _ _

theorem folioLoad_runs_chs {m : Fin 18} {P : State → Prop} (hst : s.get R.FOL_CMD_STATUS ≠ 1) (hdev : s.dev = .stop)
    (hpf : s.power.pfStep = 0) (hruns : Runs (.folioLoad m) s P) : ∃ t, P t ∧ t.meter.chs = [] := by
  obtain ⟨t, ht, hP⟩ := hruns
  have hexec : exec (.folioLoad m) s = s.answer (folioLoad (s.usedBy m) m) := by
    change s.answer (if s.powered then folioLoad (s.usedBy m) m else s) = _
    rw [if_pos (by simp [State.powered, hdev])]
  rw [hexec] at ht
  injection ht with ht
  refine ⟨t, hP, ?_⟩
  rw [← ht]
  exact folioLoad_chs (by simpa using hst) (by simpa using hdev) (by simpa using hpf)

end

/-- In STOP, the metering engine runs with channel 0, and FOL_SRC names a source. -/
def meteringStop (src : Nat) : State :=
  ((mtrAttach { State.reset with dev := .stop } 0 false).raise R.MTR_STAT_RUN).set R.FOL_SRC_SRC src

theorem meteringStop_chs (src : Nat) : (meteringStop src).meter.chs ≠ [] := List.cons_ne_nil _ _

/-- Refutes O11: LOAD in STOP stops the metering engine (R423), which no longer has the channel that it had, and the
first clause lists no change of it. -/
theorem not_folioLoads : ¬ Obligations.FolioLoads := by
  unfold Obligations.FolioLoads
  rintro ⟨hload, _⟩
  have hst : (meteringStop 0).get R.FOL_CMD_STATUS ≠ 1 := by decide +kernel
  have hsrc : (meteringStop 0).get R.FOL_SRC_SRC = 2 → (meteringStop 0).flag R.PCI_STAT_BME = true := by decide +kernel
  obtain ⟨t, ⟨_, _, _, _, _, hframe⟩, hchs⟩ := folioLoad_runs_chs hst rfl rfl (hload (meteringStop 0) 0 hst rfl rfl hsrc)
  have hmeter : t.meter = (meteringStop 0).meter := (congrArg State.meter hframe).trans rfl
  exact meteringStop_chs 0 (hmeter ▸ hchs)

/-- Refutes O58: a host load that fails at once for the bus mastering has passed through LOAD, and the metering engine no
longer has the channel that it had, which the first clause does not list. -/
theorem not_hostLoadNeedsBusMastering : ¬ Obligations.HostLoadNeedsBusMastering := by
  unfold Obligations.HostLoadNeedsBusMastering
  rintro ⟨hload, _⟩
  have hst : (meteringStop 2).get R.FOL_CMD_STATUS ≠ 1 := by decide +kernel
  have hsrc : (meteringStop 2).get R.FOL_SRC_SRC = 2 := by decide +kernel
  have hbme : (meteringStop 2).flag R.PCI_STAT_BME = false := by decide +kernel
  obtain ⟨t, ⟨_, _, _, _, hframe⟩, hchs⟩ :=
    folioLoad_runs_chs hst rfl rfl (hload (meteringStop 2) 0 hst rfl rfl hsrc hbme)
  have hmeter : t.meter = (meteringStop 2).meter := (congrArg State.meter hframe).trans rfl
  exact meteringStop_chs 2 (hmeter ▸ hchs)

end Sys2Proof.Machine

/-!
Why the first write of an unlock may change more than the attempt (R54, R114): the host's write wakes a stopped core PLL.

Here and below, as in the tests, each proof is elaborated when its turn comes: elaborated at once with those before them,
the proofs take more threads than the memory limit of the check allows.
-/
namespace Sys2Proof.Machine
set_option Elab.async false

/-- A property that a command completes in is one of the state that the command answers. -/
theorem Runs.holds {s t : State} {c : Instr} {P : State → Prop} (hruns : Runs c s P) (h : exec c s = s.answer t) :
    P { t with pending := s.pending } := by
  obtain ⟨u, hu, hP⟩ := hruns
  rw [h] at hu
  injection hu with hu
  exact hu ▸ hP

theorem Runs.holds_powered {s t : State} {c : Instr} {P : State → Prop} (hruns : Runs c s P)
    (h : exec c s = s.answer (if s.powered then t else s)) (hpow : s.powered = true) :
    P { t with pending := s.pending } := hruns.holds (by rw [h, if_pos hpow])

/-- A device whose core PLL has stopped and has no cause to restart. -/
def stoppedPll : State := State.reset.raise R.CLK_STAT_STOPPED

/-- Refutes O13: the write of the first key by the host (master 8) starts the stopped core PLL (R54), and the first clause
has nothing change but the attempt. -/
theorem not_expertPages : ¬ Obligations.ExpertPages := by
  unfold Obligations.ExpertPages
  rintro ⟨hfirst, _⟩
  have hframe := (hfirst stoppedPll 8 0 rfl (by decide) rfl).holds
    (t := expertUnlockStep (stoppedPll.usedBy 8) 8 0xAAA 0) rfl
  have hwakes : (expertUnlockStep (stoppedPll.usedBy 8) 8 0xAAA 0).power.pllWaking = true := by decide +kernel
  have hkept : (expertUnlockStep (stoppedPll.usedBy 8) 8 0xAAA 0).power.pllWaking = stoppedPll.power.pllWaking :=
    congrArg (·.power.pllWaking) hframe
  exact Bool.false_ne_true (hkept.symm.trans hwakes)

end Sys2Proof.Machine

/-!
Why a failed handle command may change channels (R107, R139, R248, R298): the HANDLE trap of the instruction that waits for
it can stop the device, and at the stop an online change that is to be undone is undone.
-/
namespace Sys2Proof.Machine
set_option Elab.async false

/-- The content that an online change has brought: a point bound to the channel of index 0 of class FCH. -/
def boundContent : FolioContent := { oneEventContent with points := [⟨true, false, 0, 0, false, .channel 1 0 0⟩] }

/-- In RUN, with that content, its undo due and the former content, which does not bind the channel, kept for it. Core 0,
without handlers, waits for the CREATE at its port, of a class that has no pool; a fault of its class stops the device. -/
def undoDueState : State :=
  { State.reset with
    dev := .run
    folio := { State.reset.folio with content := some boundContent }
    handles := ⟨[], [⟨1, 0, [], true, true⟩], [⟨0, 1, 0, 0, [], false⟩], []⟩
    olc := { State.reset.olc with undoDue := 1, old := some ⟨oneEventContent, [], [], []⟩ }
    cores := State.reset.cores.set 0 { Core.fresh with task := some ⟨0, 0, none, false⟩, wait := .handle 0 } }.set
    (R.CYC_XPOL_FLTPOL 0) 2

/-- The check of the CREATE fails, and the channel is no longer bound. -/
theorem handleCheck_undoDueState :
    (settleAll (handleCheck undoDueState 0)).handles.channels ≠ undoDueState.handles.channels := by decide +kernel

/-- Refutes O12: the CREATE that fails ends the task that waits for it, the device stops (R139), and the undo that acts then
(R298) changes the mark of a channel, which the clause of a failed check has stay as it is. -/
theorem not_handleCommands : ¬ Obligations.HandleCommands := by
  unfold Obligations.HandleCommands
  rintro ⟨_, _, _, _, _, _, _, _, _, _, _, hfailed, _⟩
  have hpow : undoDueState.powered = true := by decide +kernel
  have hfind : undoDueState.handles.cmds.find? (fun x => x.port == (0 : Port).val && !x.checked) =
      some ⟨0, 1, 0, 0, [], false⟩ := by decide +kernel
  have hcheck : (checkCreate undoDueState ⟨0, 1, 0, 0, [], false⟩).toOption.isSome = false := by decide +kernel
  obtain ⟨_, hchannels, _⟩ := (hfailed undoDueState 0 ⟨0, 1, 0, 0, [], false⟩ hpow hfind rfl hcheck).holds_powered
    (t := settleAll (handleCheck undoDueState 0)) rfl hpow
  dsimp only at hchannels
  exact handleCheck_undoDueState hchannels

end Sys2Proof.Machine

/-!
Why a proposal that meets every condition may not be prepared (R155, R266 to R268): the search shows its trigger in IMP_STAT
before the timing check, which reads the priority of an event task by its number.
-/
namespace Sys2Proof.Machine
set_option Elab.async false

/-- A core unit without code: its number, class, bound and event. -/
def plainUnit (id cls bound : Nat) (event : Option Nat) : CoreUnit :=
  ⟨id, 0, cls, event, bound, none, false, [], 0, [], [], 0, 0, none, none, [], []⟩

/-- A folio with a task of class C2 and an event task without a least interval, whose event has the number 8#5720: its
CYC_ETCFG would lie at IMP_STAT, with PRIO over TRIG. -/
def farEventContent : FolioContent :=
  { oneEventContent with cores := [plainUnit 0 2 125 none, plainUnit 1 2 0 (some 0xBD0)] }

/-- In RUN, in the gap of a boundary, with the two tasks on cores 0 and 1 and power gates in use; TRIG tells of a pin. -/
def farEventState : State :=
  ((({ State.reset with
    dev := .run
    folio := { State.reset.folio with content := some farEventContent }
    imposer := { ImposerSt.fresh with
      boundary := 64
      sheet := [sheetNew 1 0 2 0 0 1 false, sheetNew 1 1 2 1 0 1 false] } }.set
    (R.CYC_PER_TICKS 2) 1).set (R.CYC_OFS_OFS 2) 100).raise R.CLK_NAP_PGATE).set R.IMP_STAT_TRIG 6

/-- The state in which moves are sought there. -/
def farEventSearch : State := searchState farEventState farEventContent

/-- The event task moved to the core of the other. -/
def farEventMove : List (Nat × Nat × Nat) := [(1, 0, 0)]

/-- The sheet with the event task moved. -/
def farEventSheet : List SheetEntry :=
  [sheetNew 1 0 2 0 0 1 false, { sheetNew 1 1 2 0 0 1 false with moves := 1, movedAt := 65, left := [(1, 65)] }]

theorem farEventMove_sheet :
    moveAll farEventSearch farEventContent 2 farEventMove farEventSearch.imposer.sheet = some farEventSheet := by
  decide +kernel

/-- The move meets the hold conditions, frees a core, and passes the timing check while TRIG shows 6, a lower priority than
class C2. -/
theorem farEventMove_admissible : farEventMove.all (holdMet farEventSearch ·) = true ∧
    gainEnough (farEventSearch.draw.2.draw.2.set R.IMP_STAT_TRIG 2) farEventContent farEventSheet 2
      (farEventSearch.draw.1, farEventSearch.draw.2.draw.1) = true ∧
    timingFits farEventSearch farEventContent farEventSheet (farEventSearch.get R.IMP_XCFG_MARGIN) = true := by
  decide +kernel

/-- With TRIG 2 the event task ranks above class C2, and the move is not prepared. -/
theorem imposerSearch_farEventState : (imposerSearch farEventState 2 farEventMove 0).imposer.prepared = none := by
  decide +kernel

/-- Refutes O29: the state bounds no event number, and the timing check of the second clause is made once TRIG shows the
trigger of the search, which is the priority of the event 8#5720. -/
theorem not_placementChanges : ¬ Obligations.PlacementChanges := by
  unfold Obligations.PlacementChanges
  rintro ⟨_, hprepared, _⟩
  obtain ⟨hhold, hgain, htiming⟩ := farEventMove_admissible
  have hpow : farEventState.powered = true := by decide +kernel
  have hgap : inGap farEventState = true := by decide +kernel
  have hdefer : farEventState.flag R.SYS_STATE_DEFER = false := by decide +kernel
  have hfreeze : farEventState.flag R.IMP_XCFG_FREEZE = false := by decide +kernel
  have hpins : pendingPins farEventSearch = [] := by decide +kernel
  have hloss : farEventSearch.imposer.lossDue = false := by decide +kernel
  have hwaits : farEventSearch.imposer.prepared = none := by decide +kernel
  have hstaged : farEventSearch.olc.staged = none := by decide +kernel
  obtain ⟨hsome, _⟩ := (hprepared farEventState 2 farEventMove 0 farEventContent farEventSearch farEventSheet rfl rfl rfl
    hgap hdefer rfl rfl hfreeze rfl hloss hpins (.inl rfl) hwaits hstaged (by decide) farEventMove_sheet hhold hgain
    htiming).holds_powered (t := imposerSearch farEventState 2 farEventMove 0) rfl hpow
  dsimp only at hsome
  rw [imposerSearch_farEventState] at hsome
  cases hsome

end Sys2Proof.Machine

/-!
The CAN controllers (R431, R432, R442 to R445, R449): what an event, a change of the error counters, a wake and a received
frame touch, and which events stand after them.
-/
namespace Sys2Proof.Machine
section
set_option Elab.async false
variable {T : Touch} {s t : State}

/-! ### What a register replaced touches -/

/-- A touch holds a whole register. -/
def Touch.setsReg (T : Touch) (a : Nat) : Bool := (List.range 36).all (T.hits a)

theorem within_setReg_whole {a : Nat} {w : Word} (hT : T.setsReg a = true) :
    Within T s (t.setReg a w) ↔ Within T s t := by
  refine within_step ⟨fun c _ => by cases c <;> rfl, fun b j hj => ?_⟩
  rw [State.reg_setReg]
  split
  · next h =>
    have hwide : 36 ≤ j := by
      by_contra hlt
      have hhit := List.all_eq_true.mp hT j (List.mem_range.mpr (not_le.mp hlt))
      rw [← h, hj] at hhit
      exact Bool.false_ne_true hhit
    rw [BitVec.getLsbD_of_ge _ _ hwide, BitVec.getLsbD_of_ge _ _ hwide]
  · rfl

/-! ### A controller's own state -/

theorem State.canCtl_setCanCtl {n : Nat} (hn : n < 4) (c : CanCtl) : (s.setCanCtl n c).canCtl n = c := by
  simp [State.setCanCtl, State.canCtl, hn]

theorem State.canCtl_congr (h : t.can = s.can) (n : Nat) : t.canCtl n = s.canCtl n := by rw [State.canCtl, State.canCtl, h]

@[simp ↓] theorem within_setCanCtl {n : Nat} {c : CanCtl} (hT : T.has .can = true) :
    Within T s (t.setCanCtl n c) ↔ Within T s t := within_can hT

/-! ### Events (R442) -/

/-- What CAN_STAT and CAN_STn show of the controllers. -/
def Touch.canShow : Touch := ⟨[], [.field R.CAN_STAT_ON, .field R.CAN_STAT_SLEEP, .field R.CAN_STAT_EVT,
  .upTo R.CAN_ST_TEC 4, .upTo R.CAN_ST_REC 4, .upTo R.CAN_ERRC_NOACK 4]⟩

@[simp ↓] theorem within_canShow (hT : T.covers .canShow = true) : Within T s (canShow t) ↔ Within T s t := by
  refine within_op hT (.forEach (.refl _ t) _ fun n hn u hu => ?_)
  have hn := List.mem_range.mp hn
  simp (disch := decide) [hu, ↓within_setUpTo R.CAN_ST_TEC hn, ↓within_setUpTo R.CAN_ST_REC hn,
    ↓within_setUpTo R.CAN_ERRC_NOACK hn]

/-- What an event touches that is not recorded. -/
def Touch.canEvent : Touch := .or ⟨[], [⟨(R.CAN_EVT_ERR 0).addr, 8, some 4, 0, 36⟩]⟩ .canShow

/-- An event set in CAN_EVTn. -/
def canNoted (s : State) (n bit : Nat) : State :=
  s.setReg (R.CAN_EVT_ERR n).addr (s.reg (R.CAN_EVT_ERR n).addr ||| BitVec.ofNat 36 (2 ^ bit))

theorem canEvent_eq (s : State) (n bit : Nat) (r : Bool) :
    canEvent s n bit r = canShow ((canNoted s n bit).when r (·.record 73 16 n bit)) := rfl

theorem canNoted_within (n : Fin 4) (bit : Nat) : Within .canEvent s (canNoted s n bit) :=
  (within_setReg_whole ((by decide : ∀ n : Fin 4, Touch.canEvent.setsReg (R.CAN_EVT_ERR n).addr = true) n)).mpr
    (.refl _ s)

theorem canEvent_after (s : State) (n bit : Nat) (r : Bool) :
    Within (.or .report .canShow) (canNoted s n bit) (canEvent s n bit r) := by
  rw [canEvent_eq]
  simp (disch := decide)

/-- An event that is not recorded touches no record. -/
theorem canEvent_within (n : Fin 4) (bit : Nat) : Within .canEvent s (canEvent s n bit false) :=
  (within_canShow (by decide)).mpr (canNoted_within n bit)

theorem canEvent_within_report (n : Fin 4) (bit : Nat) (r : Bool) :
    Within (.or .report .canEvent) s (canEvent s n bit r) :=
  ((canNoted_within n bit).mono (by decide)).trans ((canEvent_after s n bit r).mono (by decide))

/-- An event stands in CAN_EVTn. -/
def CanSeen (n : Fin 4) (bit : Nat) (s : State) : Prop := (s.reg (R.CAN_EVT_ERR n).addr).getLsbD bit = true

theorem CanSeen.flag {n : Fin 4} {f : Fld} (h : CanSeen n f.lo s) (hw : f.width = 1)
    (ha : f.addr = (R.CAN_EVT_ERR n).addr) : s.flag f = true := by
  rw [State.flag_eq_getBit _ hw, State.getBit_eq_reg, hw, ha]
  exact h

theorem CanSeen.within {n : Fin 4} {bit : Nat} (h : CanSeen n bit s) (k : Within T s t)
    (hT : ∀ n : Fin 4, T.sparesReg (R.CAN_EVT_ERR n).addr = true := by decide) : CanSeen n bit t := by
  rw [CanSeen, k.reg _ (hT n)]
  exact h

theorem canSeen_canEvent (s : State) (n : Fin 4) {bit : Nat} (hb : bit < 36) (r : Bool) :
    CanSeen n bit (canEvent s n bit r) := by
  have hnoted : CanSeen n bit (canNoted s n bit) := by
    rw [CanSeen, canNoted, State.reg_setReg, if_pos rfl, BitVec.getLsbD_or, BitVec.getLsbD_ofNat, Nat.testBit_two_pow_self,
      decide_eq_true hb, Bool.and_true, Bool.or_true]
  exact hnoted.within (canEvent_after s n bit r)

/-- An event that stands is kept by any other. -/
theorem CanSeen.canEvent {n m : Fin 4} {bit : Nat} (h : CanSeen n bit s) (b : Nat) (r : Bool) :
    CanSeen n bit (canEvent s m b r) := by
  have hnoted : CanSeen n bit (canNoted s m b) := by
    rw [CanSeen, canNoted, State.reg_setReg]
    split
    · next e => rw [BitVec.getLsbD_or, ← e, show (s.reg _).getLsbD bit = true from h, Bool.true_or]
    · exact h
  exact hnoted.within (canEvent_after s m b r)

theorem CanSeen.when {n : Fin 4} {bit : Nat} (h : CanSeen n bit s) (b : Bool) {f : State → State}
    (hf : CanSeen n bit (f s)) : CanSeen n bit (s.when b f) := by
  cases b
  · exact h
  · exact hf

theorem CanSeen.whenEvent {n m : Fin 4} {bit : Nat} (h : CanSeen n bit s) (b : Bool) (k : Nat) (r : Bool) :
    CanSeen n bit (s.when b (Machine.canEvent · m k r)) :=
  CanSeen.when (f := (Machine.canEvent · m k r)) h b (h.canEvent k r)

/-! ### Error counters (R442) -/

/-- What a change of the error counters touches beside them. -/
def Touch.canCount : Touch := .or ⟨[], [.upTo R.CAN_ST_ERRST 4, .upTo R.CAN_ST_SYNC 4]⟩ (.or .report .canEvent)

theorem canCount_within (s : State) (n : Fin 4) (c : CanCtl) :
    Within .canCount (s.setCanCtl n c) (canCount s n c) := by
  have hevent {u v : State} {bit : Nat} (h : Within .canCount u v) : Within .canCount u (canEvent v n bit true) :=
    h.trans ((canEvent_within_report n bit true).mono (by decide))
  have hset {u v : State} {x : Nat} (h : Within .canCount u v) : Within .canCount u (v.set (R.CAN_ST_ERRST n) x) :=
    (within_setUpTo R.CAN_ST_ERRST n.isLt (hT := by decide)).mpr h
  have hsync {u v : State} {x : Nat} (h : Within .canCount u v) : Within .canCount u (v.set (R.CAN_ST_SYNC n) x) :=
    (within_setUpTo R.CAN_ST_SYNC n.isLt (hT := by decide)).mpr h
  unfold canCount
  refine (within_canShow (by decide)).mpr (.when (.when (.when (hset (.refl _ _)) ?_) ?_) ?_)
  · exact hevent (.refl _ _)
  · exact hevent (.refl _ _)
  · exact hevent (hsync (.refl _ _))

theorem CanSeen.canCount {n m : Fin 4} {bit : Nat} (h : CanSeen n bit s) (c : CanCtl) :
    CanSeen n bit (canCount s m c) := by
  have hset {u : State} {f : Nat → Fld} {x : Nat} (hu : CanSeen n bit u)
      (hf : ∀ n m : Fin 4, (R.CAN_EVT_ERR n).addr ≠ (f m).addr := by decide) : CanSeen n bit (u.set (f m) x) := by
    rw [CanSeen, State.reg_set_other _ _ _ (hf n m)]
    exact hu
  have hwarned (x : Nat) (b b' : Bool) : CanSeen n bit (State.when (State.when ((s.setCanCtl m c).set (R.CAN_ST_ERRST m) x)
      b (Machine.canEvent · m 4 true)) b' (Machine.canEvent · m 5 true)) := by
    have hctl : CanSeen n bit (s.setCanCtl m c) :=
      h.within (T := ⟨[.can], []⟩) ((within_setCanCtl (by decide)).mpr (.refl _ _))
    have hnew : CanSeen n bit ((s.setCanCtl m c).set (R.CAN_ST_ERRST m) x) := hset (f := R.CAN_ST_ERRST) hctl
    exact (hnew.whenEvent b 4 true).whenEvent b' 5 true
  unfold Machine.canCount
  refine CanSeen.within (T := .canShow) ?_ ((within_canShow (by decide)).mpr (.refl _ _))
  exact (hwarned ..).when _ (CanSeen.canEvent (hset (f := R.CAN_ST_SYNC) (hwarned ..)) 6 true)

end
end Sys2Proof.Machine

/-!
The commands of the controllers: errors, bus-off, sleep and wake, rates and integration.
-/
namespace Sys2Proof.Machine
section
set_option Elab.async false
variable {T : Touch} {s t : State} {n : Fin 4}

/-! ### Receive errors and bus-off (R442, R443) -/

/-- What a receive error touches. -/
def Touch.canRxError : Touch :=
  .or ⟨[.can], [.upTo R.CAN_ST_LEC 4, .upTo R.CAN_ERRC_ERRS 4]⟩ .canCount

/-- The code and the count of an error shown. -/
def canErrorNoted (s : State) (n : Fin 4) (lec : Nat) : State :=
  (s.set (R.CAN_ST_LEC n) lec).add (R.CAN_ERRC_ERRS n) 1

theorem canErrorNoted_within (s : State) (n : Fin 4) (lec : Nat) : Within .canRxError s (canErrorNoted s n lec) :=
  (within_addUpTo R.CAN_ERRC_ERRS n.isLt (hT := by decide)).mpr
    ((within_setUpTo R.CAN_ST_LEC n.isLt (hT := by decide)).mpr (.refl _ s))

theorem lec_addr_ne_errs (n : Fin 4) : (R.CAN_ST_LEC n).addr ≠ (R.CAN_ERRC_ERRS n).addr := by
  revert n
  decide

theorem canErrorNoted_lec (s : State) (n : Fin 4) (lec : Fin 7) :
    (canErrorNoted s n lec).get (R.CAN_ST_LEC n) = lec.val := by
  have hlec : lec.val < 2 ^ 3 := by omega
  rw [canErrorNoted, State.add, State.get_set_addr _ _ _ _ (lec_addr_ne_errs n),
    State.get_set_whole (f := R.CAN_ST_LEC n) (by decide : 0 + 3 ≤ 36)]
  exact Nat.mod_eq_of_lt hlec

theorem canErrorNoted_errs (s : State) (n : Fin 4) (lec : Nat) :
    (canErrorNoted s n lec).get (R.CAN_ERRC_ERRS n) = (s.get (R.CAN_ERRC_ERRS n) + 1) % 2 ^ 18 := by
  rw [canErrorNoted, State.add, State.get_set_whole (f := R.CAN_ERRC_ERRS n) (by decide : 18 + 18 ≤ 36),
    State.get_set_addr _ _ _ _ (lec_addr_ne_errs n).symm]
  rfl

theorem canRxError_runs (hpow : s.powered = true) (hbus : canOnBus s n = true) (lec : Fin 7) (dom : Bool) :
    Runs (.canRxError n lec dom) s fun t => t.get (R.CAN_ST_LEC n) = lec.val ∧ t.flag (R.CAN_EVT_ERR n) = true ∧
    ((t.canCtl n).rec' = (s.canCtl n).rec' + (if dom then 8 else 1)) ∧ (t.canCtl n).tec = (s.canCtl n).tec ∧
    t.get (R.CAN_ERRC_ERRS n) = (s.get (R.CAN_ERRC_ERRS n) + 1) % 2 ^ 18 ∧
    t = { s with regs := t.regs, can := t.can, records := t.records } := by
  have heq : canRxError s n lec dom = canCount (canEvent (canErrorNoted s n lec) n 0 false) n
      { (canEvent (canErrorNoted s n lec) n 0 false).canCtl n with
        rec' := ((canEvent (canErrorNoted s n lec) n 0 false).canCtl n).rec' + (if dom then 8 else 1) } := if_pos hbus
  have hevent : Within .canEvent (canErrorNoted s n lec) (canEvent (canErrorNoted s n lec) n 0 false) :=
    canEvent_within n 0
  have hseen := canSeen_canEvent (canErrorNoted s n lec) n (by decide : 0 < 36) false
  generalize canEvent (canErrorNoted s n lec) n 0 false = u at heq hevent hseen
  have hold : u.canCtl n = s.canCtl n := State.canCtl_congr (hevent.part .can) n
  rw [hold] at heq
  generalize hc : ({ s.canCtl n with rec' := (s.canCtl n).rec' + (if dom then 8 else 1) } : CanCtl) = c at heq
  have hcount : Within .canCount (u.setCanCtl n c) (canCount u n c) := canCount_within u n c
  have hu : Within .canRxError s (u.setCanCtl n c) :=
    (within_setCanCtl (by decide)).mpr ((canErrorNoted_within s n lec).trans (hevent.mono (by decide)))
  have hall : Within .canRxError s (canCount u n c) := hu.trans (hcount.mono (by decide))
  have hseen' : CanSeen n 0 (canCount u n c) := hseen.canCount c
  have hnew : (canCount u n c).canCtl n = c :=
    (State.canCtl_congr (hcount.part .can) n).trans (State.canCtl_setCanCtl n.isLt c)
  have hkept (f : Nat → Fld) (h₁ : ∀ n : Fin 4, Touch.canCount.spares (f n) = true)
      (h₂ : ∀ n : Fin 4, Touch.canEvent.spares (f n) = true) :
      (canCount u n c).get (f n) = (canErrorNoted s n lec).get (f n) :=
    (hcount.get _ (h₁ n)).trans (hevent.get _ (h₂ n))
  refine runs_of_powered_eq rfl hpow heq (hall.part .pending)
    ⟨?_, hseen'.flag (f := R.CAN_EVT_ERR n) rfl rfl, ?_, ?_, ?_, hall.eq_patch⟩
  · rw [hkept R.CAN_ST_LEC (by decide) (by decide), canErrorNoted_lec]
  · rw [hnew, ← hc]
  · rw [hnew, ← hc]
  · rw [hkept R.CAN_ERRC_ERRS (by decide) (by decide), canErrorNoted_errs]

/-- What the recovery from bus-off touches. -/
def Touch.busoffRecovery : Touch := .or ⟨[.can], [.upTo R.CAN_ST_ERRST 4, .upTo R.CAN_ST_SYNC 4]⟩ .canEvent

theorem busoffRecovery_runs (hpow : s.powered = true) (hoff : s.get (R.CAN_ST_ERRST n) = 2)
    (hask : s.flag (R.CAN_CTL_AUTOREC n) = true ∨ (s.canCtl n).recovering = true) :
    Runs (.busoffRecovery n) s fun t => (t.canCtl n).tec = 0 ∧
    (t.canCtl n).rec' = 0 ∧ t.get (R.CAN_ST_ERRST n) = 0 ∧ t.flag (R.CAN_ST_SYNC n) = true ∧
    t.flag (R.CAN_EVT_RECOVERED n) = true ∧ t.can.bufs = s.can.bufs ∧ t = { s with regs := t.regs, can := t.can } := by
  generalize hc : ({ s.canCtl n with tec := 0, rec' := 0, recovering := false } : CanCtl) = c
  generalize hv : ((s.setCanCtl n c).set (R.CAN_ST_ERRST n) 0).raise (R.CAN_ST_SYNC n) = v
  have heq : busoffRecovery s n = canEvent v n 1 false := by
    rw [busoffRecovery, if_pos (by simpa [hoff] using hask), hc, ← hv]
  have hevent : Within .canEvent v (canEvent v n 1 false) := canEvent_within n 1
  have hrejoined : Within .busoffRecovery s v := by
    rw [← hv]
    exact (within_setUpTo R.CAN_ST_SYNC n.isLt (hT := by decide)).mpr
      ((within_setUpTo R.CAN_ST_ERRST n.isLt (hT := by decide)).mpr ((within_setCanCtl (by decide)).mpr (.refl _ s)))
  have hctl : v.can = (s.setCanCtl n c).can := by
    rw [← hv]
    rfl
  have hcan : (canEvent v n 1 false).can = (s.setCanCtl n c).can := Eq.trans (hevent.part .can) hctl
  have hnew : (canEvent v n 1 false).canCtl n = c :=
    (State.canCtl_congr hcan n).trans (State.canCtl_setCanCtl n.isLt c)
  have hall : Within .busoffRecovery s (canEvent v n 1 false) := hrejoined.trans (hevent.mono (by decide))
  have hseen := canSeen_canEvent v n (by decide : 1 < 36) false
  refine runs_of_powered_eq rfl hpow heq (hall.part .pending) ⟨by rw [hnew, ← hc], by rw [hnew, ← hc], ?_, ?_,
    hseen.flag (f := R.CAN_EVT_RECOVERED n) rfl rfl, (congrArg CanSt.bufs hcan :), hall.eq_patch⟩
  · have hspare : ∀ n : Fin 4, Touch.canEvent.spares (R.CAN_ST_ERRST n) = true := by decide
    rw [hevent.get _ (hspare n), ← hv, State.raise, State.get_set_apart ⟨(by decide : 33 + 1 ≤ 36),
      fun _ => .inl (by decide : 33 + 1 ≤ 34)⟩, State.get_set_whole (f := R.CAN_ST_ERRST n) (by decide : 34 + 2 ≤ 36),
      Nat.zero_mod]
  · have hspare : ∀ n : Fin 4, Touch.canEvent.spares (R.CAN_ST_SYNC n) = true := by decide
    rw [hevent.flag _ (hspare n), ← hv]
    exact State.flag_set_one ⟨rfl, (by decide : 33 < 36)⟩

theorem recover_runs (hpow : s.powered = true) (hoff : s.get (R.CAN_ST_ERRST n) = 2) :
    Runs (.recover n) s fun t => (t.canCtl n).recovering = true ∧ (t.canCtl n).tec = (s.canCtl n).tec ∧
    t = { s with can := t.can } := by
  refine runs_of_powered_eq rfl hpow (if_pos hoff) rfl ⟨?_, ?_, rfl⟩
  all_goals rw [State.canCtl_setCanCtl n.isLt]

/-! ### Sleep and wake (R444) -/

theorem State.getBit_putBit_same (s : State) {f : Fld} {i : Nat} (b : Bool)
    (h : i < f.width ∧ f.lo + f.width ≤ 36) : (s.putBit f i b).getBit f i = b := by
  rw [State.getBit, State.putBit, State.get_set_whole h.2, Nat.testBit_mod_two_pow, withBit_testBit, if_pos rfl]
  simp [h.1]

theorem State.getBit_set_addr {f g : Fld} {i v : Nat} (h : g.addr ≠ f.addr) :
    (s.set f v).getBit g i = s.getBit g i := by
  rw [State.getBit, State.get_set_addr _ _ _ _ h, State.getBit]

theorem State.getBit_congr {f : Fld} (h : t.get f = s.get f) (i : Nat) : t.getBit f i = s.getBit f i :=
  congrArg (Nat.testBit · i) h

/-- The lock bits that follow the gates (R46, R49). -/
def Touch.lockShow : Touch := ⟨[], [.field R.CLK_STAT_PERLOCK, .field R.CLK_STAT_LANELOCK]⟩

theorem lockShow_within (s : State) : Within .lockShow s s.lockShow :=
  (within_lockShow (by decide)).mpr (.refl _ s)

/-- A controller's registers lie apart from those that the four share. -/
theorem can_addr_ne (n : Fin 4) : (R.CAN_CTL_WAKE n).addr ≠ (R.CAN_ST_SYNC n).addr ∧
    (R.CAN_CTL_WAKE n).addr ≠ R.CAN_STAT_SLEEP.addr ∧ (R.CAN_CTL_WAKE n).addr ≠ R.CLK_GATE_CAN.addr ∧
    (R.CAN_ST_SYNC n).addr ≠ R.CAN_STAT_SLEEP.addr ∧ (R.CAN_ST_SYNC n).addr ≠ R.CLK_GATE_CAN.addr := by
  revert n
  decide

theorem canSleep_eq (hmode : s.get (R.CAN_CTL_MODE n) = 4) : canSleep s n =
    (((s.putBit R.CAN_STAT_SLEEP n true).set (R.CAN_ST_SYNC n) 0).putBit R.CLK_GATE_CAN n
      (s.get (R.CAN_CTL_WAKE n) == 1)).lockShow := by
  obtain ⟨hsync, hsleep, -⟩ := can_addr_ne n
  have hwake : ((s.putBit R.CAN_STAT_SLEEP n true).set (R.CAN_ST_SYNC n) 0).get (R.CAN_CTL_WAKE n) =
      s.get (R.CAN_CTL_WAKE n) := by
    rw [State.get_set_addr _ _ _ _ hsync, State.putBit, State.get_set_addr _ _ _ _ hsleep]
  rw [canSleep, if_pos hmode, ← hwake]

theorem canSleep_runs (hpow : s.powered = true) (hmode : s.get (R.CAN_CTL_MODE n) = 4) :
    Runs (.canSleep n) s fun t => t.getBit R.CAN_STAT_SLEEP n = true ∧ t.flag (R.CAN_ST_SYNC n) = false ∧
    t.getBit R.CLK_GATE_CAN n = (s.get (R.CAN_CTL_WAKE n) == 1) ∧ t = { s with regs := t.regs } ∧ (∀ a,
    a ≠ R.CAN_STAT_SLEEP.addr → a ≠ (R.CAN_ST_SYNC n).addr → a ≠ R.CLK_GATE_CAN.addr → a ≠ R.CLK_STAT_PERLOCK.addr →
    t.reg a = s.reg a) := by
  obtain ⟨-, -, -, hsleep, hgate⟩ := can_addr_ne n
  generalize hw : (s.get (R.CAN_CTL_WAKE n) == 1) = w
  have heq := canSleep_eq hmode
  rw [hw] at heq
  generalize hu : ((s.putBit R.CAN_STAT_SLEEP n true).set (R.CAN_ST_SYNC n) 0).putBit R.CLK_GATE_CAN n w = u at heq
  have hlock := lockShow_within u
  have hregs : RegsOnly s u.lockShow := by
    refine RegsOnly.trans ?_ hlock.eq_patch
    rw [← hu]
    rfl
  have hpending : u.lockShow.pending = s.pending := Eq.trans (hlock.part .pending) (by rw [← hu]; rfl)
  refine runs_of_powered_eq rfl hpow heq hpending ⟨?_, ?_, ?_, hregs, ?_⟩
  · rw [State.getBit_congr (hlock.get R.CAN_STAT_SLEEP), ← hu, State.putBit, State.getBit_set_addr (by decide),
      State.getBit_set_addr hsleep.symm]
    exact State.getBit_putBit_same s true ⟨n.isLt, by decide⟩
  · have hspare : ∀ n : Fin 4, Touch.lockShow.spares (R.CAN_ST_SYNC n) = true := by decide
    rw [hlock.flag _ (hspare n), ← hu, State.putBit, State.flag, State.get_set_addr _ _ _ _ hgate]
    exact State.flag_set_zero ⟨rfl, (by decide : 33 < 36)⟩
  · rw [State.getBit_congr (hlock.get R.CLK_GATE_CAN), ← hu]
    exact State.getBit_putBit_same _ w ⟨n.isLt, by decide⟩
  · intro a ha hb hc hd
    rw [hlock.reg_of_notMem [R.CLK_STAT_PERLOCK.addr] (by simpa using hd), ← hu, State.putBit,
      State.reg_set_other _ _ _ hc, State.reg_set_other _ _ _ hb, State.putBit, State.reg_set_other _ _ _ ha]

/-- A source that no event task watches triggers none (R155). -/
theorem triggerSource_of_unwatched {r : TriggerSource} (h : sourceUnwatched s r = true) : triggerSource s r = s := by
  refine forEach_induction (P := (· = s)) rfl fun e he u hu => ?_
  subst hu
  refine if_neg fun ⟨hsrc, hsel, _⟩ => ?_
  change _ = r.code.1 at hsrc
  change _ = r.code.2.1 at hsel
  simpa [hsrc, hsel] using List.all_eq_true.mp h e he

theorem sourceUnwatched_congr {r : TriggerSource} (h : ∀ e : Fin 32,
    t.get (R.CYC_ETCFG_SRC e) = s.get (R.CYC_ETCFG_SRC e) ∧
    t.get (R.CYC_ETCFG_SEL e) = s.get (R.CYC_ETCFG_SEL e)) : sourceUnwatched t r = sourceUnwatched s r := by
  rw [Bool.eq_iff_iff, sourceUnwatched, sourceUnwatched, List.all_eq_true, List.all_eq_true]
  refine forall₂_congr fun e he => ?_
  obtain ⟨hsrc, hsel⟩ := h ⟨e, List.mem_range.mp he⟩
  rw [hsrc, hsel]

/-- A controller switched to normal mode, its clock ungated. -/
def canAwake (s : State) (n : Nat) : State := ((s.set (R.CAN_CTL_MODE n) 1).putBit R.CLK_GATE_CAN n false).lockShow

/-- What a controller switched to normal mode touches. -/
def Touch.canAwake : Touch :=
  .or ⟨[], [.upTo R.CAN_CTL_MODE 4, .field R.CLK_GATE_CAN]⟩ .lockShow

/-- What the wake of a controller touches. -/
def Touch.canWakeUp : Touch := .or .canAwake (.or .canEvent .trigger)

theorem canAwake_within (s : State) (n : Fin 4) : Within .canAwake s (canAwake s n) :=
  (within_lockShow (by decide)).mpr ((within_putBit (by decide)).mpr
    ((within_setUpTo R.CAN_CTL_MODE n.isLt (hT := by decide)).mpr (.refl _ s)))

theorem canAwake_mode (s : State) (n : Fin 4) : (canAwake s n).get (R.CAN_CTL_MODE n) = 1 := by
  obtain ⟨-, -, (haddr : (R.CAN_CTL_MODE n).addr ≠ R.CLK_GATE_CAN.addr), -⟩ := can_addr_ne n
  have hspare : ∀ n : Fin 4, Touch.lockShow.spares (R.CAN_CTL_MODE n) = true := by decide
  rw [canAwake, (lockShow_within _).get _ (hspare n), State.putBit, State.get_set_addr _ _ _ _ haddr,
    State.get_set_whole (f := R.CAN_CTL_MODE n) (by decide : 33 + 3 ≤ 36)]
  rfl

theorem canAwake_gate (s : State) (n : Fin 4) : (canAwake s n).getBit R.CLK_GATE_CAN n = false := by
  rw [canAwake, State.getBit_congr ((lockShow_within _).get R.CLK_GATE_CAN)]
  exact State.getBit_putBit_same _ false ⟨n.isLt, by decide⟩

theorem canWakeUp_eq (s : State) (n : Nat) :
    canWakeUp s n = triggerSource (canEvent (canAwake s n) n 9 false) (.can (512 + n)) := rfl

theorem canWakeUp_after (s : State) (n : Fin 4) :
    Within .trigger (canEvent (canAwake s n) n 9 false) (canWakeUp s n) := by
  rw [canWakeUp_eq]
  exact (within_triggerSource (by decide)).mpr (.refl _ _)

theorem canWakeUp_of_awake (s : State) (n : Fin 4) : Within (.or .canEvent .trigger) (canAwake s n) (canWakeUp s n) :=
  ((canEvent_within n 9).mono (by decide)).trans ((canWakeUp_after s n).mono (by decide))

theorem canWakeUp_within (s : State) (n : Fin 4) : Within .canWakeUp s (canWakeUp s n) :=
  ((canAwake_within s n).mono (by decide)).trans ((canWakeUp_of_awake s n).mono (by decide))

theorem canWakeUp_seen (s : State) (n : Fin 4) : CanSeen n 9 (canWakeUp s n) :=
  (canSeen_canEvent _ n (by decide) false).within (canWakeUp_after s n)

theorem canWakeUp_mode (s : State) (n : Fin 4) : (canWakeUp s n).get (R.CAN_CTL_MODE n) = 1 := by
  have hspare : ∀ n : Fin 4, Touch.spares (.or .canEvent .trigger) (R.CAN_CTL_MODE n) = true := by decide
  rw [(canWakeUp_of_awake s n).get _ (hspare n), canAwake_mode]

theorem canWakeUp_gate (s : State) (n : Fin 4) : (canWakeUp s n).getBit R.CLK_GATE_CAN n = false := by
  rw [State.getBit_congr ((canWakeUp_of_awake s n).get R.CLK_GATE_CAN), canAwake_gate]

/-- A wake that no event task watches changes registers alone. -/
theorem canWakeUp_regsOnly (h : sourceUnwatched s (.can (512 + n.val)) = true) : RegsOnly s (canWakeUp s n) := by
  have hwithin : Within (.or .canAwake .canEvent) s (canEvent (canAwake s n) n 9 false) :=
    ((canAwake_within s n).mono (by decide)).trans ((canEvent_within n 9).mono (by decide))
  have hspare : ∀ e : Fin 32, Touch.spares (.or .canAwake .canEvent) (R.CYC_ETCFG_SRC e) = true ∧
      Touch.spares (.or .canAwake .canEvent) (R.CYC_ETCFG_SEL e) = true := by decide
  have hunwatched : sourceUnwatched (canEvent (canAwake s n) n 9 false) (.can (512 + n.val)) = true :=
    (sourceUnwatched_congr fun e => ⟨hwithin.get _ (hspare e).1, hwithin.get _ (hspare e).2⟩).trans h
  rw [canWakeUp_eq, triggerSource_of_unwatched hunwatched]
  exact hwithin.eq_patch

theorem canWake_of_asleep (hserves : canServes s = true) (hsleep : s.getBit R.CAN_STAT_SLEEP n = true)
    (hmode : s.get (R.CAN_CTL_MODE n) = 4) : ¬ (s.get (R.CAN_CTL_MODE n) ≠ 4 ∨
    (!(s.get R.CAN_STAT_SLEEP).testBit n) = true ∨ (!canServes s) = true) := by
  rw [State.getBit] at hsleep
  simp [hserves, hsleep, hmode]

theorem canWake_edge_runs (fr : Option CanFrame) (age : Nat) (hpow : s.powered = true) (hserves : canServes s = true)
    (hsleep : s.getBit R.CAN_STAT_SLEEP n = true) (hmode : s.get (R.CAN_CTL_MODE n) = 4)
    (hwake : s.get (R.CAN_CTL_WAKE n) = 1) :
    Runs (.canWake n ⟨fr, age⟩) s fun t => t.get (R.CAN_CTL_MODE n) = 1 ∧ t.getBit R.CLK_GATE_CAN n = false ∧
    t.flag (R.CAN_EVT_WAKE n) = true ∧ t.can = s.can ∧ (sourceUnwatched s (.can (512 + n.val)) = true →
    t = { s with regs := t.regs }) := by
  have heq : canWake s n fr (s.now - age) = canWakeUp s n := by
    refine (if_neg (canWake_of_asleep hserves hsleep hmode)).trans ?_
    rw [hwake]
    cases fr <;> rfl
  have hwithin := canWakeUp_within s n
  exact runs_of_powered_eq rfl hpow heq (hwithin.part .pending) ⟨canWakeUp_mode s n, canWakeUp_gate s n,
    (canWakeUp_seen s n).flag (f := R.CAN_EVT_WAKE n) rfl rfl, hwithin.part .can, canWakeUp_regsOnly⟩

/-! ### A frame received (R435) -/

/-- What a frame stored touches. -/
def Touch.canStored : Touch := .or ⟨[.can], [.upTo R.CAN_CNT_RXOK 4]⟩ (.or .store .trigger)

@[simp ↓] theorem within_canStore {a : Nat} {w : List Word} {f : CanFrame} {time : Nat} (hT : T.covers .store = true) :
    Within T s (canStore t a w f time) ↔ Within T s t := within_op hT (by simp (disch := decide) [canStore])

/-- A received frame is stored, and may leave an event that is not recorded. -/
theorem canReceive_stored (s : State) (n : Fin 4) (f : CanFrame) (time : Nat) :
    Within .canStored s (canReceive s n f time) ∨
    ∃ u bit, Within .canStored s u ∧ canReceive s n f time = canEvent u n bit false := by
  have hput {u : State} (i : Nat) (hu : Within .canStored s u) : Within .canStored s
      (triggerSource ((match u.canBuf i with
        | some b => u.setCanBuf { b with lastRx := some u.time.loc }
        | none => u).add (R.CAN_CNT_RXOK n) 1) (.can i)) := by
    refine (within_triggerSource (by decide)).mpr ((within_addUpTo R.CAN_CNT_RXOK n.isLt (hT := by decide)).mpr ?_)
    split
    · exact (within_setCanBuf (by decide)).mpr hu
    · exact hu
  unfold canReceive
  split
  · next i _ =>
    unfold canDeliver
    dsimp only
    split
    · exact .inl (hput i ((within_canStore (by decide)).mpr (.refl _ s)))
    · split
      · exact .inr ⟨_, 3, (within_store (by decide)).mpr (.refl _ s), rfl⟩
      · exact .inl (hput i ((within_store (by decide)).mpr ((within_canStore (by decide)).mpr (.refl _ s))))
  · exact .inr ⟨s, 2, .refl _ s, rfl⟩

theorem canReceive_within (s : State) (n : Fin 4) (f : CanFrame) (time : Nat) :
    Within (.or .canStored .canEvent) s (canReceive s n f time) := by
  obtain h | ⟨u, bit, h, heq⟩ := canReceive_stored s n f time
  · exact h.mono (by decide)
  · rw [heq]
    exact (h.mono (by decide)).trans ((canEvent_within n bit).mono (by decide))

theorem CanSeen.canReceive {bit : Nat} (hs : CanSeen n bit s) (f : CanFrame) (time : Nat) :
    CanSeen n bit (canReceive s n f time) := by
  obtain h | ⟨u, b, h, heq⟩ := canReceive_stored s n f time
  · exact hs.within h
  · rw [heq]
    exact (hs.within h).canEvent b false

theorem canWake_frame_runs (f : CanFrame) (age : Nat) (hpow : s.powered = true) (hserves : canServes s = true)
    (hsleep : s.getBit R.CAN_STAT_SLEEP n = true) (hmode : s.get (R.CAN_CTL_MODE n) = 4)
    (hwake : s.get (R.CAN_CTL_WAKE n) = 2) (hide : f.ide = (s.get (R.CAN_WID_ID n)).testBit 29)
    (hid : f.id &&& s.get (R.CAN_WMSK_MASK n) = s.get (R.CAN_WID_ID n) % 2 ^ 29 &&& s.get (R.CAN_WMSK_MASK n)) :
    Runs (.canWake n ⟨some f, age⟩) s fun t => t.get (R.CAN_CTL_MODE n) = 1 ∧ t.flag (R.CAN_EVT_WAKE n) = true ∧
    t = canReceive (canWakeUp s n) n f (s.now - age) := by
  have heq : canWake s n (some f) (s.now - age) = canReceive (canWakeUp s n) n f (s.now - age) := by
    refine (if_neg (canWake_of_asleep hserves hsleep hmode)).trans ?_
    rw [hwake]
    exact if_pos ⟨hide, hid⟩
  have hspare : ∀ n : Fin 4, Touch.spares (.or .canStored .canEvent) (R.CAN_CTL_MODE n) = true := by decide
  have hreceive := canReceive_within (canWakeUp s n) n f (s.now - age)
  have hseen := (canWakeUp_seen s n).canReceive f (s.now - age)
  refine runs_of_powered_eq rfl hpow heq (Eq.trans (hreceive.part .pending) ((canWakeUp_within s n).part .pending :))
    ⟨?_, hseen.flag (f := R.CAN_EVT_WAKE n) rfl rfl, rfl⟩
  rw [hreceive.get _ (hspare n), canWakeUp_mode]

/-! ### Rates (R431, R432) -/

/-- Expert fields derived one after the other. -/
def deriveAll (s : State) (l : List (Fld × Nat)) : State := l.foldl (fun u p => u.derive p.1 p.2) s

theorem derive_regsOnly (s : State) (f : Fld) (v : Nat) : RegsOnly s (s.derive f v) := by
  unfold State.derive
  split
  · rfl
  · rfl

theorem get_derive_same (s : State) {f : Fld} (v : Nat) (h : f.lo + f.width ≤ 36) : (s.derive f v).get f =
    if s.overridden.contains (f.addr, f.lo) then s.get f else v % 2 ^ f.width := by
  unfold State.derive
  split
  · rfl
  · exact State.get_set_whole h

theorem get_derive_apart {f g : Fld} {v : Nat} (h : Apart f g) : (s.derive f v).get g = s.get g := by
  unfold State.derive
  split
  · rfl
  · exact State.get_set_apart h

/-- What holds before the fields are derived and is kept by each holds after them. -/
theorem deriveAll_induction {P : State → Prop} {l : List (Fld × Nat)} (h : P s)
    (hf : ∀ p ∈ l, ∀ u, P u → P (u.derive p.1 p.2)) : P (deriveAll s l) := by
  induction l generalizing s with
  | nil => exact h
  | cons p l ih => exact ih (hf p List.mem_cons_self s h) fun q hq => hf q (List.mem_cons_of_mem _ hq)

theorem deriveAll_regsOnly (s : State) (l : List (Fld × Nat)) : RegsOnly s (deriveAll s l) :=
  deriveAll_induction (.refl s) fun _ _ _ hu => hu.trans (derive_regsOnly _ _ _)

theorem get_deriveAll_apart {g : Fld} {l : List (Fld × Nat)} (h : ∀ p ∈ l, Apart p.1 g) :
    (deriveAll s l).get g = s.get g :=
  deriveAll_induction (P := fun u => u.get g = s.get g) rfl fun p hp _ hu => (get_derive_apart (h p hp)).trans hu

theorem reg_deriveAll {a : Nat} {l : List (Fld × Nat)} (h : ∀ p ∈ l, a ≠ p.1.addr) : (deriveAll s l).reg a = s.reg a := by
  refine deriveAll_induction (P := fun u => u.reg a = s.reg a) rfl fun p hp u hu => ?_
  unfold State.derive
  split
  · exact hu
  · rw [State.reg_set_other _ _ _ (h p hp), hu]

/-- Fields of which none changes the other. -/
def Beside (f g : Fld) : Prop := f.lo + f.width ≤ 36 ∧ g.lo + g.width ≤ 36 ∧
  (g.addr = f.addr → f.lo + f.width ≤ g.lo ∨ g.lo + g.width ≤ f.lo)

theorem Beside.apart {f g : Fld} (h : Beside f g) : Apart f g ∧ Apart g f := by
  obtain ⟨hf, hg, hapart⟩ := h
  exact ⟨⟨hf, hapart⟩, hg, fun e => (hapart e.symm).symm⟩

/-- Each field of a list takes its derived value, where no two of them overlap. -/
theorem get_deriveAll {f : Fld} {v : Nat} {l : List (Fld × Nat)} (hl : l.Pairwise fun p q => Beside p.1 q.1)
    (hf : f.lo + f.width ≤ 36) (hmem : (f, v) ∈ l) : (deriveAll s l).get f =
    if s.overridden.contains (f.addr, f.lo) then s.get f else v % 2 ^ f.width := by
  induction l generalizing s with
  | nil => exact absurd hmem List.not_mem_nil
  | cons p l ih =>
    obtain ⟨hhead, htail⟩ := List.pairwise_cons.mp hl
    change (deriveAll (s.derive p.1 p.2) l).get f = _
    obtain rfl | hmem := List.mem_cons.mp hmem
    · rw [get_deriveAll_apart fun q hq => (hhead q hq).apart.2, get_derive_same _ _ hf]
    · have hover : (s.derive p.1 p.2).overridden = s.overridden := by rw [derive_regsOnly s p.1 p.2]
      rw [ih htail hmem, get_derive_apart (hhead _ hmem).apart.1, hover]

/-- The expert timing fields of a controller with the values that two phases give them. -/
def rateFields (n : Nat) (a d : Nat × Nat × Nat) : List (Fld × Nat) :=
  [(R.CAN_XNBT_NBRP n, a.1 - 1), (R.CAN_XNBT_NTSEG1 n, a.2.1), (R.CAN_XNBT_NTSEG2 n, a.2.2), (R.CAN_XNBT_NSJW n, a.2.2),
   (R.CAN_XDBT_DBRP n, d.1 - 1), (R.CAN_XDBT_DTSEG1 n, d.2.1), (R.CAN_XDBT_DTSEG2 n, d.2.2), (R.CAN_XDBT_DSJW n, d.2.2),
   (R.CAN_XDBT_TDCO n, d.2.1 + 1)]

theorem canDerive_eq {a d : Nat × Nat × Nat} (h : canRates (s.reg (R.CAN_BR_NRATE n).addr) = some (a, d)) :
    canDerive s n = deriveAll s (rateFields n a d) := by
  unfold canDerive
  rw [h]
  simp only [deriveAll, rateFields, List.foldl_cons, List.foldl_nil]

theorem rateFields_beside (n : Nat) (a d : Nat × Nat × Nat) :
    (rateFields n a d).Pairwise fun p q => Beside p.1 q.1 := by
  simp [rateFields, Beside, R.CAN_XNBT_NBRP, R.CAN_XNBT_NTSEG1, R.CAN_XNBT_NTSEG2, R.CAN_XNBT_NSJW, R.CAN_XDBT_DBRP,
    R.CAN_XDBT_DTSEG1, R.CAN_XDBT_DTSEG2, R.CAN_XDBT_DSJW, R.CAN_XDBT_TDCO]

/-- The three lowest bits of CAN_BRn are not of its fields. -/
theorem bitsOf_rate_mask (v : Word) {lo w : Nat} (hlo : 3 ≤ lo) (hw : lo + w ≤ 36) :
    bitsOf (v &&& 0xFFFFFFFF8) lo w = bitsOf v lo w := by
  have hmask : ∀ j : Fin 36, 3 ≤ j.val → (0xFFFFFFFF8 : Word).getLsbD j = true := by decide
  refine congrArg BitVec.toNat (BitVec.eq_of_getLsbD_eq fun i hi => ?_)
  rw [BitVec.getLsbD_extractLsb', BitVec.getLsbD_extractLsb', BitVec.getLsbD_and,
    hmask ⟨lo + i, by omega⟩ (by simp; omega), Bool.and_true]

theorem canRates_rate_mask (v : Word) : canRates (v &&& 0xFFFFFFFF8) = canRates v := by
  rw [canRates, canRates, bitsOf_rate_mask v (by decide) (by decide), bitsOf_rate_mask v (by decide) (by decide),
    bitsOf_rate_mask v (by decide) (by decide), bitsOf_rate_mask v (by decide) (by decide)]

/-- What a legal value of CAN_BRn makes of the state. -/
theorem canRateWrite_eq (m : Nat) {v : Word} {a d : Nat × Nat × Nat} (h : canRates v = some (a, d))
    (hlegal : canRateLegal v = true) : canRateWrite s m n v =
    deriveAll (s.setReg (R.CAN_BR_NRATE n).addr (v &&& 0xFFFFFFFF8)) (rateFields n a d) := by
  refine (if_pos hlegal).trans (canDerive_eq ?_)
  rw [State.reg_setReg, if_pos rfl, canRates_rate_mask, h]

theorem rateFields_addr {n : Fin 4} {a d : Nat × Nat × Nat} {p : Fld × Nat} (h : p ∈ rateFields n a d) :
    p.1.lo + p.1.width ≤ 36 ∧ p.1.addr ≠ (R.CAN_BR_NRATE n).addr ∧
    (p.1.addr = (R.CAN_XNBT_NBRP n).addr ∨ p.1.addr = (R.CAN_XDBT_DBRP n).addr) := by
  have hcheck : ∀ n : Fin 4, ∀ f ∈ (rateFields n (0, 0, 0) (0, 0, 0)).map Prod.fst, f.lo + f.width ≤ 36 ∧
      f.addr ≠ (R.CAN_BR_NRATE n).addr ∧ (f.addr = (R.CAN_XNBT_NBRP n).addr ∨ f.addr = (R.CAN_XDBT_DBRP n).addr) := by
    decide
  have hfields : (rateFields n a d).map Prod.fst = (rateFields n (0, 0, 0) (0, 0, 0)).map Prod.fst := rfl
  exact hcheck n p.1 (hfields ▸ List.mem_map_of_mem h)

/-- A legal value of CAN_BRn stands in it, and gives each expert field that is not overridden its value. -/
theorem canRateWrite_derives (m : Nat) {v : Word} {a d : Nat × Nat × Nat} (h : canRates v = some (a, d))
    (hlegal : canRateLegal v = true) {f : Fld} {x : Nat} (hmem : (f, x) ∈ rateFields n a d) :
    (canRateWrite (s.usedBy m) m n v).get f =
      if s.overridden.contains (f.addr, f.lo) then s.get f else x % 2 ^ f.width := by
  obtain ⟨hf, haddr, -⟩ := rateFields_addr hmem
  have hover (w : Word) : ((s.usedBy m).setReg (R.CAN_BR_NRATE n).addr w).overridden = s.overridden :=
    s.overridden_usedBy m
  rw [canRateWrite_eq m h hlegal, get_deriveAll (rateFields_beside n a d) hf hmem, State.get_setReg_other _ _ _ _ haddr,
    State.get_usedBy, hover]

theorem canRateWrite_regsOnly (m : Nat) {v : Word} {a d : Nat × Nat × Nat} (h : canRates v = some (a, d))
    (hlegal : canRateLegal v = true) : RegsOnly s (canRateWrite s m n v) := by
  rw [canRateWrite_eq m h hlegal]
  exact RegsOnly.trans (RegsOnly.setReg (.refl s) _ _) (deriveAll_regsOnly _ _)

theorem canRateWrite_nrate (m : Nat) {v : Word} {a d : Nat × Nat × Nat} (h : canRates v = some (a, d))
    (hlegal : canRateLegal v = true) : (canRateWrite s m n v).get (R.CAN_BR_NRATE n) = bitsOf v 25 11 := by
  have hreg : (canRateWrite s m n v).reg (R.CAN_BR_NRATE n).addr = v &&& 0xFFFFFFFF8 := by
    rw [canRateWrite_eq m h hlegal, reg_deriveAll fun p hp => (rateFields_addr hp).2.1.symm, State.reg_setReg, if_pos rfl]
  exact (congrArg (bitsOf · 25 11) hreg).trans (bitsOf_rate_mask v (by decide) (by decide))

theorem canRateWrite_other (m : Nat) {v : Word} {a d : Nat × Nat × Nat} (h : canRates v = some (a, d))
    (hlegal : canRateLegal v = true) {adr : Nat} (hbr : adr ≠ (R.CAN_BR_NRATE n).addr)
    (hnbt : adr ≠ (R.CAN_XNBT_NBRP n).addr) (hdbt : adr ≠ (R.CAN_XDBT_DBRP n).addr) :
    (canRateWrite s m n v).reg adr = s.reg adr := by
  rw [canRateWrite_eq m h hlegal, reg_deriveAll fun p hp e => ?_, State.reg_setReg, if_neg hbr]
  obtain ⟨-, -, hp⟩ := rateFields_addr hp
  exact hp.elim (fun k => hnbt (e.trans k)) fun k => hdbt (e.trans k)

/-! ### Timing and integration (R445, R449) -/

theorem canTimingApply_runs (hpow : s.powered = true) :
    Runs (.canTimingApply n) s fun t => (t.canCtl n).nbt = s.reg (R.CAN_XNBT_NBRP n).addr ∧
    (t.canCtl n).dbt = s.reg (R.CAN_XDBT_DBRP n).addr ∧ (t.canCtl n).tec = (s.canCtl n).tec ∧
    t = { s with can := t.can } := by
  refine runs_of_powered_eq (u := canTimingApply s n) rfl hpow rfl rfl ⟨?_, ?_, ?_, rfl⟩
  all_goals rw [canTimingApply, State.canCtl_setCanCtl n.isLt]

theorem canBusIntegration_runs (hpow : s.powered = true) (hlo : 1 ≤ s.get (R.CAN_CTL_MODE n))
    (hhi : s.get (R.CAN_CTL_MODE n) ≤ 3) (herr : s.get (R.CAN_ST_ERRST n) ≠ 2) :
    Runs (.canBusIntegration n) s fun t => t.flag (R.CAN_ST_SYNC n) = true ∧
    t = { s with regs := t.regs } ∧ (∀ a, a ≠ (R.CAN_ST_SYNC n).addr → t.reg a = s.reg a) := by
  have hmode : s.get (R.CAN_CTL_MODE n) = 1 ∨ s.get (R.CAN_CTL_MODE n) = 2 ∨ s.get (R.CAN_CTL_MODE n) = 3 := by omega
  have heq : canIntegrate s n = s.raise (R.CAN_ST_SYNC n) := if_pos (by simpa [herr, or_assoc] using hmode)
  exact runs_of_powered_eq rfl hpow heq rfl ⟨State.flag_set_one ⟨rfl, (by decide : 33 < 36)⟩, rfl,
    fun _ ha => State.reg_set_other _ _ _ ha⟩

/-- Settles O45: each command of a controller stays within what it touches, and what it sets stands after it. -/
theorem canControllers : Obligations.CanControllers := by
  unfold Obligations.CanControllers
  refine ⟨fun s n lec dom hpow hbus => canRxError_runs hpow hbus lec dom,
    fun s n hpow hoff hask => busoffRecovery_runs hpow hoff hask,
    fun s n hpow hoff => recover_runs hpow hoff,
    fun s n hpow hmode => canSleep_runs hpow hmode,
    fun s n fr age hpow hserves hsleep hmode hwake => canWake_edge_runs fr age hpow hserves hsleep hmode hwake,
    fun s n f age hpow hserves hsleep hmode hwake hide hid =>
      canWake_frame_runs f age hpow hserves hsleep hmode hwake hide hid,
    fun s m n v b t1 t2 db d1 d2 hpow hrates hlegal => ?_,
    fun s m n v hpow hlegal => ?_,
    fun s n hpow => canTimingApply_runs hpow,
    fun s n hpow hlo hhi herr => canBusIntegration_runs hpow hlo hhi herr⟩
  · have hregs := canRateWrite_regsOnly (s := s.usedBy m) (n := n) m hrates hlegal
    have hderives (f : Fld) (x : Nat) (hmem : (f, x) ∈ rateFields n (b, t1, t2) (db, d1, d2)) :=
      canRateWrite_derives (s := s) m hrates hlegal hmem
    have hpending : (canRateWrite (s.usedBy m) m n v).pending = s.pending := by rw [hregs, State.pending_usedBy]
    refine runs_of_serve_eq (f := (canRateWrite · m n v)) rfl hpow hpending ?_
    refine ⟨canRateWrite_nrate m hrates hlegal, hderives (R.CAN_XNBT_NBRP n) (b - 1) ?_,
      hderives (R.CAN_XNBT_NTSEG1 n) t1 ?_, hderives (R.CAN_XNBT_NTSEG2 n) t2 ?_, hderives (R.CAN_XNBT_NSJW n) t2 ?_,
      hderives (R.CAN_XDBT_DBRP n) (db - 1) ?_, hderives (R.CAN_XDBT_DTSEG1 n) d1 ?_,
      hderives (R.CAN_XDBT_DTSEG2 n) d2 ?_, hderives (R.CAN_XDBT_DSJW n) d2 ?_, hderives (R.CAN_XDBT_TDCO n) (d1 + 1) ?_,
      s.usedBy_frame m hregs, fun a hbr hnbt hdbt => (canRateWrite_other m hrates hlegal hbr hnbt hdbt).trans (by simp)⟩
    all_goals simp [rateFields]
  · have heq : canRateWrite (s.usedBy m) m n v = (s.usedBy m).rsvd m (R.CAN_BR_NRATE n).addr := if_neg (by simp [hlegal])
    refine runs_of_serve_eq (f := (canRateWrite · m n v)) rfl hpow ?_ heq
    rw [heq]
    exact State.pending_usedBy ..

end
end Sys2Proof.Machine

/-!
The counter cells of the fabric (R143, R171).
-/
namespace Sys2Proof.Machine

/-! ### CV by the edges -/

theorem saturate_of_range {n : Nat} {i : Int} (hlo : -(2 ^ (n - 1) : Nat) ≤ i) (hhi : i < (2 ^ (n - 1) : Nat)) :
    saturate n i = i := by
  rw [saturate, if_neg (by omega), if_neg (by omega)]

/-- Both edges at once, or neither, leave CV. -/
theorem countEdges_same (cv : Int) (b : Bool) : countEdges cv b b = cv := by cases b <;> rfl

theorem countEdges_up (cv : Int) : countEdges cv true false = saturate 36 (cv + 1) := rfl

theorem countEdges_down (cv : Int) : countEdges cv false true = saturate 36 (cv - 1) := rfl

section
variable (ty : Nat) (c : CounterSt) (cu cd r ld : Bool)

/-- CV after an evaluation: R goes before LD, and LD before the edges. -/
theorem counterEval_cv : (counterEval ty c cu cd r ld).cv =
    if r then 0 else if ld then c.pv
    else countEdges c.cv (ty != 1 && risingEdge c.cuPrev cu) (ty != 0 && risingEdge c.cdPrev cd) := rfl

/-- The outputs compare the new CV. -/
theorem counterEval_q : (counterEval ty c cu cd r ld).q =
    if ty = 1 then decide ((counterEval ty c cu cd r ld).cv ≤ 0)
    else decide (c.pv ≤ (counterEval ty c cu cd r ld).cv) := rfl

theorem counterEval_qd : (counterEval ty c cu cd r ld).qd =
    (ty == 2 && decide ((counterEval ty c cu cd r ld).cv ≤ 0)) := rfl

end

/-- Settles O19: CV by R, LD and the edges, and the outputs by CV. -/
theorem counterCells : Obligations.CounterCells := by
  unfold Obligations.CounterCells
  intro ty c cu cd r ld hty up down t
  have hup : (ty != 1 && risingEdge c.cuPrev cu) = up := by simp [up, risingEdge, Bool.and_assoc, bne, beq_eq_decide]
  have hdown : (ty != 0 && risingEdge c.cdPrev cd) = down := by simp [down, risingEdge, Bool.and_assoc, bne, beq_eq_decide]
  have hcv : t.cv = if r then 0 else if ld then c.pv else countEdges c.cv up down := by
    rw [← hup, ← hdown]
    exact counterEval_cv ty c cu cd r ld
  have hcount (hr : r = false) (hl : ld = false) : t.cv = countEdges c.cv up down := by simp [hcv, hr, hl]
  refine ⟨fun hr => by simp [hcv, hr], fun hr hl => by simp [hcv, hr, hl], fun hr hl he => ?_, fun hr hl hu hd hlt hge => ?_,
    fun hr hl hu hd htop => ?_, fun hr hl hu hd hgt hlt => ?_, fun hr hl hu hd hbot => ?_, rfl, rfl, rfl,
    fun h => ?_, fun h => ?_, fun h => ?_⟩
  · rw [hcount hr hl, he, countEdges_same]
  · rw [hcount hr hl, hu, hd, countEdges_up, saturate_of_range] <;> omega
  · rw [hcount hr hl, hu, hd, htop]
    rfl
  · rw [hcount hr hl, hu, hd, countEdges_down, saturate_of_range] <;> omega
  · rw [hcount hr hl, hu, hd, hbot]
    rfl
  · exact (counterEval_q ty c cu cd r ld).trans (if_neg (by omega))
  · exact (counterEval_q ty c cu cd r ld).trans (if_pos h)
  · exact ⟨(counterEval_q ty c cu cd r ld).trans (if_neg (by omega)), by simp [t, counterEval_qd, h]⟩

end Sys2Proof.Machine

/-!
The cycle of a class (R118 to R132): the refutation of CycleBegins and of CommitOrSkip.

Each says of a class without bound CAN buffers that no word outside the image changes, as an equality of the two memories after
`clear 0x600000 0x200000`. `clear` takes the first and the last address; given a start and a length here, its range is empty,
and the clauses say that no word changes at all, the image's own included.
-/
namespace Sys2Proof.Machine
set_option Elab.async false

/-- A program whose one point is an input bit at pin 0, of class 0. -/
def pinContent : FolioContent :=
  { oneEventContent with cores := [], points := [⟨false, false, 0, 0, false, .pin 0⟩] }

/-- A device in RUN with that program, class 0 active and the pin's level 1. -/
def latchState : State :=
  ({ State.reset with
    dev := .run
    folio := { State.reset.folio with content := some pinContent } }.set R.CYC_STAT_ACTIVE 1).set R.FAB_PINLVL_LEVEL 1

theorem exec_latch (s : State) (c : Cls) : exec (.latch c) s = s.answer (latch s c) := rfl

theorem exec_commit (s : State) (c : Cls) : exec (.commit c) s = s.answer (commit s c) := rfl

/-- The LATCH writes the pin's level into the image. -/
theorem latch_latchState : (latch latchState (0 : Cls)).mem.clear 0x600000 0x200000 ≠ latchState.mem.clear 0x600000 0x200000 := by
  decide +kernel

/-- Refutes O14: the LATCH of an idle class takes the level of an input into the image. -/
theorem not_cycleBegins : ¬ Obligations.CycleBegins := by
  unfold Obligations.CycleBegins
  rintro ⟨hlatch, _⟩
  have hmay : mayLatch latchState (0 : Cls) = true := by decide +kernel
  have hidle : (latchState.cls (0 : Cls)).phase = .idle := by decide +kernel
  have hfree : boundChannels latchState (0 : Cls) false 3 = [] := by decide +kernel
  obtain ⟨_, _, _, _, _, _, _, _, hmem⟩ := (hlatch latchState 0 hmay hidle).holds (exec_latch _ _)
  dsimp only at hmem
  have hlogs : latchState.twin.logs = [] := by decide +kernel
  exact latch_latchState (hmem hfree hlogs)

/-- A program whose one point is an output bit of class 0. -/
def outputContent : FolioContent :=
  { oneEventContent with cores := [], points := [⟨false, false, 0, 0, true, .unbound⟩] }

/-- A device in RUN with that program and a cycle of class 0 done and allowed, whose view sets the output. -/
def commitState : State :=
  { State.reset with
    dev := .run
    folio := { State.reset.folio with content := some outputContent } }.setCls 0
    { ClassSt.fresh with phase := .done, checked := true, allowed := true, view := [(0x600000, 1)] }

/-- The COMMIT writes the output into the image. -/
theorem commit_commitState : (commit commitState (0 : Cls)).mem.clear 0x600000 0x200000 ≠ commitState.mem.clear 0x600000 0x200000 := by
  decide +kernel

/-- Refutes O15: the COMMIT of an allowed cycle puts an output of its view into the image. -/
theorem not_commitOrSkip : ¬ Obligations.CommitOrSkip := by
  unfold Obligations.CommitOrSkip
  rintro ⟨_, _, _, _, _, _, _, _, hcommit, _⟩
  have hopen : cycleOpen commitState = true := by decide +kernel
  have hhalted : commitState.getBit R.CYC_STAT_HALTED (0 : Cls) = false := by decide +kernel
  have hfree : boundChannels commitState (0 : Cls) true 3 = [] := by decide +kernel
  obtain ⟨_, _, _, _, _, hmem, _⟩ := (hcommit commitState 0 hopen (by decide) rfl rfl rfl hhalted rfl rfl rfl rfl rfl).holds
    (exec_commit _ _)
  dsimp only at hmem
  exact commit_commitState (hmem hfree)

end Sys2Proof.Machine

/-!
The cores' loads and stores (R146, R147, R225): the refutation of CoreLoads and of CoreStores.

Their first clauses give the core after an LD or an ST whole, so they also say that no other task of the core goes first after
it. The state below breaks that: the rank of an event task is read at the place of its configuration word, and a task record
with an event beyond the 1536 of a folio has that word among the core's own registers, where the instruction's end writes.
-/
namespace Sys2Proof.Machine
set_option Elab.async false

/-- The core's next instructions, kept for later, are no part of a core. -/
theorem State.core_withPending (t : State) (q : List Instr) (c : Nat) : ({ t with pending := q } : State).core c = t.core c := rfl

/-- Core 0 runs a task of class 3; the task of event 2004 is ready, and the word of that event's configuration is ZC_STAT of
the core, whose bits read as PRIO 15: the task ranks behind the one that runs, until ZC_STAT is written. -/
def farRankState : State :=
  { State.reset with
    dev := .run
    cores := State.reset.cores.set 0
      { Core.fresh with task := some ⟨0, 3, none, false⟩, ready := [⟨0, 0, some 2004, false⟩] } }.set
    (R.CYC_ETCFG_PRIO 2004) 15

/-- What LD leaves. -/
def ldState (s : State) (core : Fin 8) (cond : Fin 16) (opnd : BitVec 26) (lit : Word) : State :=
  instruct s core (instrWord cond 8 opnd) (checksM opnd lit true (opField opnd 16 6 == 0)) fun s k =>
    withOperand s core k (opField opnd 0 10) lit fun w s k =>
      complete s core (k.setG (opField opnd 22 4) w) (mdLen (opField opnd 0 10))

theorem exec_ld (s : State) (core : Fin 8) (cond : Fin 16) (opnd : BitVec 26) (lit : Word) :
    exec (.ld core cond opnd lit) s = s.answer (ldState s core cond opnd lit) := rfl

/-- Completing the LD puts the task of event 2004 before the one that runs. -/
theorem ld_preempts : ((ldState farRankState (0 : Fin 8) 0 897#26 0).core (0 : Fin 8)).ready = [] := by decide +kernel

/-- Refutes O26: in `farRankState` an LD ends in a preemption, and the core is another than the clause gives. -/
theorem not_coreLoads : ¬ Obligations.CoreLoads := by
  unfold Obligations.CoreLoads
  rintro ⟨hld, _⟩
  have hready : coreReady farRankState (0 : Fin 8) (instrWord 0 8 897#26)
    (checksM 897#26 0 true (opField 897#26 16 6 == 0)) = true := by decide +kernel
  obtain ⟨hcore, _⟩ := (hld farRankState 0 0 897#26 0 _ _ hready rfl rfl (by decide)).holds (exec_ld _ _ _ _ _)
  rw [State.core_withPending] at hcore
  have hkept := congrArg Core.ready hcore
  rw [ld_preempts] at hkept
  exact absurd hkept (by decide +kernel)

/-- What ST leaves. -/
def stState (s : State) (core : Fin 8) (cond : Fin 16) (opnd : BitVec 26) (lit : Word) : State :=
  instruct s core (instrWord cond 9 opnd) (checksM opnd lit false (opField opnd 16 6 == 0)) fun s k =>
    postStore (complete s core (k.mdModify (opField opnd 0 10)) (mdLen (opField opnd 0 10))) core
      (k.ea (opField opnd 0 10) lit) (k.gr (opField opnd 22 4))

theorem exec_st (s : State) (core : Fin 8) (cond : Fin 16) (opnd : BitVec 26) (lit : Word) :
    exec (.st core cond opnd lit) s = s.answer (stState s core cond opnd lit) := rfl

/-- Completing the ST puts the task of event 2004 before the one that runs. -/
theorem st_preempts : ((stState farRankState (0 : Fin 8) 0 0#26 0).core (0 : Fin 8)).ready = [] := by decide +kernel

/-- Refutes O27: in `farRankState` an ST ends in a preemption, and the core is another than the clause gives. -/
theorem not_coreStores : ¬ Obligations.CoreStores := by
  unfold Obligations.CoreStores
  rintro ⟨hst, _⟩
  have hready : coreReady farRankState (0 : Fin 8) (instrWord 0 9 0#26)
    (checksM 0#26 0 false (opField 0#26 16 6 == 0)) = true := by decide +kernel
  obtain ⟨hcore, _⟩ := (hst farRankState 0 0 0#26 0 _ _ hready rfl rfl (by decide +kernel)).holds (exec_st _ _ _ _ _)
  rw [State.core_withPending] at hcore
  have hkept := congrArg Core.ready hcore
  rw [st_preempts] at hkept
  exact absurd hkept (by decide +kernel)

end Sys2Proof.Machine

/-!
Frames that pass, discovery and the lanes of the spine (R320, R321, R338, R342).
-/
namespace Sys2Proof.Machine
section
variable {s : State}

/-! ### Frames accepted -/

/-- The state that remembers the frames it has taken (R320). -/
def State.noted (s : State) (l : List (Nat × Nat × Nat)) : State := { s with spine := { s.spine with lastSeq := l } }

theorem spineAccept_noted {n : Nat} {h : FrameHead} (hacc : (spineAccept s n h).2 = true) :
    ∃ l, spineAccept s n h = (s.noted l, true) := by
  obtain ⟨l, hl⟩ := spineAccept_accepted hacc
  exact ⟨l, Prod.ext hl hacc⟩

theorem State.noted_within (s : State) (l : List (Nat × Nat × Nat)) : Within ⟨[.spine], []⟩ s (s.noted l) := .parts rfl

/-! ### The time path -/

/-- What the hop count of a time path touches. -/
def Touch.path : Touch := ⟨[], [.field R.SPN_HOPS_HOPS, .field R.SPN_EVT_TPATH]⟩

theorem timePath_within (s : State) (n : Nat) : Within .path s (timePath s n) := by
  simp (disch := decide) [timePath]

theorem timePath_hops (s : State) (n : Nat) : (timePath s n).get R.SPN_HOPS_HOPS = n % 64 :=
  (State.get_when_raise ⟨by decide, by decide⟩).trans (State.get_set_whole (by decide))

/-! ### Lanes (R321, R351) -/

/-- What the state of a spine lane touches. -/
def Touch.lane : Touch := ⟨[], [.upTo R.SPN_LANE_LINK 4, .upTo R.SPN_LANE_ALIGN 4, .upTo R.SPN_LANE_WRAP 4]⟩

theorem laneSet_spine {i : Nat} (hi : i < 4) (s : State) (up : Bool) : laneSet s i up =
    ((s.setFlag (R.SPN_LANE_LINK i) up).setFlag (R.SPN_LANE_ALIGN i) up).setFlag (R.SPN_LANE_WRAP i) (!up) := if_pos hi

theorem laneSet_within {i : Nat} (hi : i < 4) (s : State) (up : Bool) : Within .lane s (laneSet s i up) := by
  rw [laneSet_spine hi]
  exact (within_setFlagUpTo R.SPN_LANE_WRAP hi (hT := by decide)).mpr <|
    (within_setFlagUpTo R.SPN_LANE_ALIGN hi (hT := by decide)).mpr <|
    (within_setFlagUpTo R.SPN_LANE_LINK hi (hT := by decide)).mpr (.refl _ s)

theorem laneSet_link {i : Nat} (hi : i < 4) (s : State) (up : Bool) : (laneSet s i up).flag (R.SPN_LANE_LINK i) = up := by
  rw [laneSet_spine hi]
  refine (State.flag_set_apart ?_).trans <| (State.flag_set_apart ?_).trans (State.flag_set_bitNat ?_) <;>
    simp [Apart, R.SPN_LANE_LINK, R.SPN_LANE_ALIGN, R.SPN_LANE_WRAP]

theorem laneSet_wrap {i : Nat} (hi : i < 4) (s : State) (up : Bool) : (laneSet s i up).flag (R.SPN_LANE_WRAP i) = !up := by
  rw [laneSet_spine hi]
  exact State.flag_set_bitNat (by simp [R.SPN_LANE_WRAP])

/-- The hop count that comes with a lane's change, at a node that tracks the time (R339). -/
def pathTold (s : State) (path : Option Nat) : State :=
  path.elim s fun hops => if s.acting then s else timePath s hops

theorem laneChange_spine {i : Nat} (hi : i < 4) (s : State) (up : Bool) (path : Option Nat) :
    laneChange s i up path = loopStates (pathTold (laneSet s i up) path) := by
  cases path <;> simp [laneChange, pathTold, hi, Nat.not_le.mpr hi]

theorem laneChange_twin {i : Nat} (hi : 4 ≤ i) (s : State) (up : Bool) (path : Option Nat) : laneChange s i up path =
    (s.putBit R.TWN_STAT_LANES (i - 4) up).when (!up) (·.raise R.TWN_EVT_LANE) := by
  cases path <;> simp [laneChange, laneSet, hi, Nat.not_lt.mpr hi]

theorem pathTold_within (s : State) (path : Option Nat) : Within .path s (pathTold s path) := by
  cases path with
  | none => exact .refl _ s
  | some n => exact .ite (fun _ => .refl _ s) fun _ => timePath_within s n

theorem pathTold_acting (h : s.acting = true) (path : Option Nat) : pathTold s path = s := by
  cases path with
  | none => rfl
  | some n => exact if_pos h

theorem pathTold_hops (h : s.acting = false) {path : Option Nat} (hp : path.isSome = true) :
    (pathTold s path).get R.SPN_HOPS_HOPS = path.getD 0 % 64 := by
  obtain ⟨n, rfl⟩ := Option.isSome_iff_exists.mp hp
  have htold : pathTold s (some n) = timePath s n := if_neg (by simp [h])
  rw [htold]
  exact timePath_hops s n

/-- What a change of a spine lane shows. -/
structure LaneShown (s : State) (i : Nat) (up : Bool) (path : Option Nat) (t : State) : Prop where
  link : t.flag (R.SPN_LANE_LINK i) = up
  wrap : t.flag (R.SPN_LANE_WRAP i) = !up
  kept : s.acting = true → t.get R.SPN_HOPS_HOPS = s.get R.SPN_HOPS_HOPS
  told : s.acting = false → path.isSome = true → t.get R.SPN_HOPS_HOPS = path.getD 0 % 64
  frame : t = { s with regs := t.regs }
  pending : t.pending = s.pending

theorem laneChange_shown {i : Nat} (hi : i < 4) (s : State) (up : Bool) (path : Option Nat) :
    LaneShown s i up path (laneChange s i up path) := by
  rw [laneChange_spine hi]
  let u := laneSet s i up
  have hu : Within .lane s u := laneSet_within hi s up
  have hacting : u.acting = s.acting := hu.flag _
  have hloops := loopStates_within (pathTold u path)
  have hafter : Within (.or .path .loops) u (loopStates (pathTold u path)) :=
    ((pathTold_within u path).mono (by decide)).trans (hloops.mono (by decide))
  have hall : Within (.or .lane (.or .path .loops)) s (loopStates (pathTold u path)) :=
    (hu.mono (by decide)).trans (hafter.mono (by decide))
  have hlink : ∀ i < 4, (Touch.or .path .loops).spares (R.SPN_LANE_LINK i) = true := by decide
  have hwrap : ∀ i < 4, (Touch.or .path .loops).spares (R.SPN_LANE_WRAP i) = true := by decide
  refine ⟨(hafter.flag _ (hlink i hi)).trans (laneSet_link hi s up), (hafter.flag _ (hwrap i hi)).trans (laneSet_wrap hi s up),
    fun h => ?_, fun h hp => ?_, hall.eq_patch, hall.part .pending⟩
  · rw [pathTold_acting (hacting.trans h), (loopStates_within u).get R.SPN_HOPS_HOPS]
    exact hu.get _
  · exact (hloops.get _).trans (pathTold_hops (hacting.trans h) hp)

theorem laneDown_spine_runs (s : State) (lane : Fin 6) (path : Option Nat) (hpow : s.powered = true) (hi : lane.val < 4) :
    Runs (.laneDown lane path) s fun t => t.flag (R.SPN_LANE_LINK lane) = false ∧
    t.flag (R.SPN_LANE_WRAP lane) = true ∧ (s.acting = false → path.isSome = true →
    t.get R.SPN_HOPS_HOPS = path.getD 0 % 64) ∧ t = { s with regs := t.regs } := by
  obtain ⟨hlink, hwrap, -, htold, hframe, hpend⟩ := laneChange_shown hi s false path
  exact runs_of_powered rfl hpow hpend ⟨hlink, hwrap, htold, hframe⟩

theorem laneRestored_spine_runs (s : State) (lane : Fin 6) (path : Option Nat) (hpow : s.powered = true) (hi : lane.val < 4) :
    Runs (.laneRestored lane path) s fun t => t.flag (R.SPN_LANE_LINK lane) = true ∧
    t.flag (R.SPN_LANE_WRAP lane) = false ∧ (s.acting = true → t.get R.SPN_HOPS_HOPS = s.get R.SPN_HOPS_HOPS) ∧
    (s.acting = false → path.isSome = true → t.get R.SPN_HOPS_HOPS = path.getD 0 % 64) ∧ t = { s with regs := t.regs } := by
  obtain ⟨hlink, hwrap, hkept, htold, hframe, hpend⟩ := laneChange_shown hi s true path
  exact runs_of_powered rfl hpow hpend ⟨hlink, hwrap, hkept, htold, hframe⟩

theorem laneDown_twin_runs (s : State) (lane : Fin 6) (path : Option Nat) (hpow : s.powered = true) (hi : 4 ≤ lane.val) :
    Runs (.laneDown lane path) s fun t => t.getBit R.TWN_STAT_LANES (lane.val - 4) = false ∧
    t.flag R.TWN_EVT_LANE = true ∧ t = { s with regs := t.regs } ∧ (∀ a, a ≠ R.TWN_STAT_LANES.addr →
    a ≠ R.TWN_EVT_LANE.addr → t.reg a = s.reg a) := by
  refine runs_of_powered_eq rfl hpow (laneChange_twin hi s false path) rfl ⟨?_, State.flag_set_one (by decide), rfl,
    fun a hstat hevt => (State.reg_set_other _ _ _ hevt).trans (State.reg_set_other _ _ _ hstat)⟩
  exact (State.getBit_set_addr (by decide)).trans (State.getBit_putBit_same s false ⟨by simp [R.TWN_STAT_LANES]; omega, by decide⟩)

theorem laneRestored_twin_runs (s : State) (lane : Fin 6) (path : Option Nat) (hpow : s.powered = true) (hi : 4 ≤ lane.val) :
    Runs (.laneRestored lane path) s fun t => t.getBit R.TWN_STAT_LANES (lane.val - 4) = true ∧
    t = { s with regs := t.regs } ∧ (∀ a, a ≠ R.TWN_STAT_LANES.addr → t.reg a = s.reg a) :=
  runs_of_powered_eq rfl hpow (laneChange_twin hi s true path) rfl
    ⟨State.getBit_putBit_same s true ⟨by simp [R.TWN_STAT_LANES]; omega, by decide⟩, rfl,
      fun _ hstat => State.reg_set_other _ _ _ hstat⟩

theorem delayExchange_runs (s : State) (lane : Fin 4) (delay : BitVec 16) (hpow : s.powered = true) :
    Runs (.delayExchange lane delay) s fun t => t.get (R.SPN_LDLY_DELAY lane) = delay.toNat ∧
    t = { s with regs := t.regs } ∧ (∀ a, a ≠ (R.SPN_LDLY_DELAY lane).addr → t.reg a = s.reg a) := by
  refine runs_of_powered_eq rfl hpow rfl rfl ⟨?_, rfl, fun _ ha => State.reg_set_other _ _ _ ha⟩
  exact (State.get_set_whole (by simp [R.SPN_LDLY_DELAY])).trans (Nat.mod_eq_of_lt delay.isLt)

/-! ### Frames that pass (R320, R321) -/

/-- The other lane of a lane's loop. -/
def otherLane (i : Nat) : Nat := if i % 2 = 0 then i + 1 else i - 1

theorem otherLane_lt {i : Nat} (hi : i < 4) : otherLane i < 4 := by
  unfold otherLane
  split <;> omega

/-- A frame as it leaves again: by the other lane of its loop where that is up, and otherwise the way it came. -/
def onward (s : State) (h : FrameHead) : FrameHead :=
  if laneUp s (otherLane h.lane) then { h with lane := otherLane h.lane, hops := (h.hops + 1) % 64 }
  else { h with west := !h.west, hops := (h.hops + 1) % 64 }

/-- A passing frame is sent on, from step 4 of a boot on. -/
theorem frameForward_passes {h : FrameHead} (hboot : s.dev ≠ .boot ∨ s.power.refOk = true) (hsrc : h.src ≠ s.spine.addr)
    (hlane : h.lane < 4) : frameForward s h = { s with spine := { s.spine with forwarded := some (onward s h) } } := by
  have hmod : otherLane h.lane % 4 = otherLane h.lane := Nat.mod_eq_of_lt (otherLane_lt hlane)
  have hpass : ¬ (s.dev == .boot && !s.power.refOk || h.src == s.spine.addr) = true := by
    rcases hboot with hdev | href
    · simp [hdev, hsrc]
    · simp [href, hsrc]
  have hfwd : frameForward s h = { s with
      spine := { s.spine with
        forwarded := some
          (if laneUp s (otherLane h.lane % 4) then { h with lane := otherLane h.lane, hops := (h.hops + 1) % 64 }
          else { h with west := !h.west, hops := (h.hops + 1) % 64 }) } } := if_neg hpass
  rw [hfwd, hmod, onward]

theorem frameForward_onward_runs (s : State) (h : FrameHead) (hpow : s.powered = true)
    (hboot : s.dev ≠ .boot ∨ s.power.refOk = true) (hsrc : h.src ≠ s.spine.addr) (hlane : h.lane < 4)
    (hup : laneUp s (otherLane h.lane) = true) : Runs (.frameForward h) s fun t =>
    t.spine = { s.spine with forwarded := some { h with lane := otherLane h.lane, hops := (h.hops + 1) % 64 } } ∧
    t = { s with spine := t.spine } := by
  have hgoes : onward s h = { h with lane := otherLane h.lane, hops := (h.hops + 1) % 64 } := if_pos hup
  exact runs_of_powered_eq rfl hpow (frameForward_passes hboot hsrc hlane) rfl ⟨by rw [hgoes], rfl⟩

theorem frameForward_back_runs (s : State) (h : FrameHead) (hpow : s.powered = true)
    (hboot : s.dev ≠ .boot ∨ s.power.refOk = true) (hsrc : h.src ≠ s.spine.addr) (hlane : h.lane < 4)
    (hdown : laneUp s (otherLane h.lane) = false) : Runs (.frameForward h) s fun t =>
    t.spine = { s.spine with forwarded := some { h with west := !h.west, hops := (h.hops + 1) % 64 } } ∧
    t = { s with spine := t.spine } := by
  have hturns : onward s h = { h with west := !h.west, hops := (h.hops + 1) % 64 } := if_neg (by simp [hdown])
  exact runs_of_powered_eq rfl hpow (frameForward_passes hboot hsrc hlane) rfl ⟨by rw [hturns], rfl⟩

/-! ### Discovery (R342) -/

/-- The node's cabling reported reversed (R342). -/
def cabling (s : State) (h : FrameHead) : State := s.when (!h.west && h.lane % 2 == 0) (·.raise R.SPN_EVT_CABLE)

theorem cabling_within (s : State) (h : FrameHead) : Within ⟨[], [.field R.SPN_EVT_CABLE]⟩ s (cabling s h) := by
  simp (disch := decide) [cabling]

/-- The cabling says nothing about the node's record. -/
theorem ownRecord_cabling (s : State) (h : FrameHead) : ownRecord (cabling s h) h = ownRecord s h := by
  have hw := cabling_within s h
  have hfolio : (cabling s h).folio = s.folio := hw.part .folio
  have hdev : (cabling s h).dev = s.dev := hw.part .dev
  simp only [ownRecord, State.content, hfolio, hdev, hw.reg R.COL_SER0_SERIAL.addr, hw.reg R.COL_SER1_SERIAL.addr,
    hw.reg R.COL_TYPE_TYPE.addr, hw.get R.STN_SYS_SYSID]

theorem discoverFrame_appends {h : FrameHead} {l : List (Nat × Nat × Nat)} (hl : spineAccept s 3 h = (s.noted l, true))
    (hact : s.acting = false) (records : List NodeRecord) : discoverFrame s h records =
    spineSend (cabling (s.noted l) h) 3 8 (cabling (s.noted l) h).now (ownRecord (cabling (s.noted l) h) h) := by
  have hidle : ¬ (s.noted l).acting = true := by
    show ¬ s.acting = true
    simp [hact]
  unfold discoverFrame
  rw [hl]
  exact if_neg hidle

theorem discoverFrame_appends_runs (s : State) (h : FrameHead) (records : List NodeRecord) (hpow : s.powered = true)
    (hacc : (spineAccept s 3 h).2 = true) (hact : s.acting = false) : Runs (.discoverFrame h records) s fun t =>
    t.spine.sent.head? = some (⟨3, 8, s.now % 2 ^ 36, ownRecord s h⟩ : SentFrame) ∧
    (h.west = false → h.lane % 2 = 0 → t.flag R.SPN_EVT_CABLE = true) ∧
    t = { s with regs := t.regs, spine := t.spine } ∧ (∀ a, a ≠ R.SPN_EVT_CABLE.addr → t.reg a = s.reg a) := by
  obtain ⟨l, hl⟩ := spineAccept_noted hacc
  have hcabling := cabling_within (s.noted l) h
  have hnow : (cabling (s.noted l) h).now = s.now := by
    rw [State.now, show (cabling (s.noted l) h).time = s.time from hcabling.part .time, State.now]
  have hall : Within ⟨[.spine], [.field R.SPN_EVT_CABLE]⟩ s (spineSend (cabling (s.noted l) h) 3 8
      (cabling (s.noted l) h).now (ownRecord (cabling (s.noted l) h) h)) :=
    (within_spineSend (by decide)).mpr (((s.noted_within l).mono (by decide)).trans (hcabling.mono (by decide)))
  refine runs_of_powered_eq rfl hpow (discoverFrame_appends hl hact records) (hall.part .pending)
    ⟨?_, fun hwest hlane => ?_, hall.eq_patch, fun a ha => hall.reg_of_notMem [R.SPN_EVT_CABLE.addr] (by simpa using ha)⟩
  · rw [hnow, ownRecord_cabling]
    rfl
  · exact State.flag_when_raise (s := s.noted l) (by decide) (by simp [hwest, hlane])

theorem discoverFrame_takes_runs (s : State) (h : FrameHead) (records : List NodeRecord) (hpow : s.powered = true)
    (hacc : (spineAccept s 3 h).2 = true) (hact : s.acting = true) (hdisc : s.spine.discovering = true) :
    Runs (.discoverFrame h records) s fun t => (t.spine.records = s.spine.records ++ records.filter (fun x =>
      !s.spine.records.any fun y => y.addr == x.addr)) ∧ t.spine.discovering = true ∧ t = { s with spine := t.spine } := by
  obtain ⟨l, hl⟩ := spineAccept_noted hacc
  have hgathers : ¬ (!(s.noted l).spine.discovering) = true := by
    show ¬ (!s.spine.discovering) = true
    simp [hdisc]
  have htakes : discoverFrame s h records = { s with spine := { s.spine with
      lastSeq := l
      records := s.spine.records ++ records.filter fun x => !s.spine.records.any fun y => y.addr == x.addr } } := by
    unfold discoverFrame
    rw [hl]
    exact (if_pos hact).trans (if_neg hgathers)
  exact runs_of_powered_eq rfl hpow htakes rfl ⟨rfl, hdisc, rfl⟩

end
end Sys2Proof.Machine

/-!
STATUS frames (R131, R267, R319, R322, R360).
-/
namespace Sys2Proof.Machine
section
variable {s t : State}

/-- The instant at which a node's STATUS reached this device (R360). -/
def heardFrom (s : State) (a : Nat) : State :=
  if s.partner.any (·.addr == a) then { s with spine := { s.spine with heardPartner := some s.time.loc } }
  else { s with spine := { s.spine with heardOther := some s.time.loc } }

theorem heardFrom_within (s : State) (a : Nat) : Within ⟨[.spine], []⟩ s (heardFrom s a) :=
  .ite (fun _ => .parts rfl) fun _ => .parts rfl

theorem nodeRow_heardFrom (s : State) (a b : Nat) : (heardFrom s a).nodeRow b = s.nodeRow b := by
  unfold heardFrom
  split <;> rfl

/-- The row of a node with its STATUS. -/
def nodeReported (s : State) (a : Nat) (m : StatusMsg) : State :=
  (heardFrom s a).setNode { (heardFrom s a).nodeRow a with status := some m, lost := false }

theorem nodeReported_within (s : State) (a : Nat) (m : StatusMsg) : Within ⟨[.spine], []⟩ s (nodeReported s a m) :=
  (within_setNode (by decide)).mpr (heardFrom_within s a)

theorem nodeReported_node (s : State) (a : Nat) (m : StatusMsg) :
    (nodeReported s a m).node a = some { s.nodeRow a with status := some m, lost := false } := by
  rw [nodeReported, State.node_setNode, if_pos (State.nodeRow_addr _ a).symm, nodeRow_heardFrom]

theorem nodeReported_heardPartner {a : Nat} (h : s.partner.any (·.addr == a) = true) (m : StatusMsg) :
    (nodeReported s a m).spine.heardPartner = some s.time.loc := by
  rw [nodeReported, heardFrom, if_pos h]
  rfl

theorem nodeReported_heardOther {a : Nat} (h : s.partner.any (·.addr == a) = false) (m : StatusMsg) :
    (nodeReported s a m).spine.heardOther = some s.time.loc := by
  rw [nodeReported, heardFrom, if_neg (by simp [h])]
  rfl

/-! ### The acting manager -/

/-- The reports of a node that the acting manager takes: its state, its commit checks and the works it counts. -/
def reportsTaken (s : State) (a : Nat) (m : StatusMsg) : State :=
  worksCounted (checkReports (s.set (R.SPN_NODE_STATE a) m.state) a m) a

/-- A node's row told the state of RUN at its last STATUS, and this one tells another. -/
def leftRun (s : State) (a : Nat) (m : StatusMsg) : Bool := (s.nodeRow a).status.any (·.state == 4) && m.state != 4

/-- The ends of deliveries that a STATUS tells, and the state of the loops. -/
def statusEnds (s : State) (a : Nat) (m : StatusMsg) : State := loopStates (forwardStatus (deliveryStatus s a m) a m)

/-- What a STATUS makes of the acting manager's state. -/
def statusTold (s : State) (a : Nat) (m : StatusMsg) : State :=
  statusEnds ((reportsTaken (nodeReported s a m) a m).when (leftRun s a m) (hostLoss · a)) a m

theorem statusFrame_refused {h : FrameHead} (hcrc : h.crcOk = false) (m : StatusMsg) :
    statusFrame s h m = s.add (R.SPN_LANE_CRCERR (h.lane % 4)) 1 := by
  have hacc : spineAccept s 2 h = (s.add (R.SPN_LANE_CRCERR (h.lane % 4)) 1, false) := if_pos (by simp [hcrc])
  unfold statusFrame
  rw [hacc]
  rfl

theorem statusFrame_noted {h : FrameHead} {l : List (Nat × Nat × Nat)} (hl : spineAccept s 2 h = (s.noted l, true))
    (hact : s.acting = false) (m : StatusMsg) : statusFrame s h m = nodeReported (s.noted l) (h.src % 128) m := by
  have hidle : (!(nodeReported (s.noted l) (h.src % 128) m).acting) = true := by
    rw [State.acting, (nodeReported_within _ _ _).flag R.SPN_STAT_ACTING]
    show (!s.acting) = true
    simp [hact]
  unfold statusFrame
  rw [hl]
  exact if_pos hidle

theorem statusFrame_told {h : FrameHead} {l : List (Nat × Nat × Nat)} (hl : spineAccept s 2 h = (s.noted l, true))
    (hact : s.acting = true) (m : StatusMsg) : statusFrame s h m = statusTold (s.noted l) (h.src % 128) m := by
  have hacts : ¬ (!(nodeReported (s.noted l) (h.src % 128) m).acting) = true := by
    rw [State.acting, (nodeReported_within _ _ _).flag R.SPN_STAT_ACTING]
    show ¬ (!s.acting) = true
    simp [hact]
  rw [statusTold, leftRun, ← nodeRow_heardFrom _ (h.src % 128)]
  unfold statusFrame
  rw [hl]
  exact if_neg hacts

/-! ### Its parts -/

/-- What the reports of a node touch beside its row. -/
theorem reportsTaken_within {a : Nat} (ha : a < 128) (s : State) (m : StatusMsg) :
    Within ⟨[.cycle, .startAt, .imposer], [.upTo R.SPN_NODE_STATE 128]⟩ s (reportsTaken s a m) :=
  (within_imposer (by decide)).mpr <| (within_cycle (by decide)).mpr <|
    (within_setUpTo R.SPN_NODE_STATE ha (hT := by decide)).mpr (.refl _ s)

theorem reportsTaken_state (s : State) (a : Nat) (m : StatusMsg) :
    (reportsTaken s a m).get (R.SPN_NODE_STATE a) = m.state % 16 := State.get_set_whole (by simp [R.SPN_NODE_STATE])

theorem reportsTaken_peerChecked (s : State) (a : Nat) (m : StatusMsg) {k : Nat} (hk : k < 8) :
    (reportsTaken s a m).cycle.peerChecked.contains (k, a) = (m.checked.testBit k || s.cycle.peerChecked.contains (k, a)) := by
  show List.contains (List.filter _ _ ++ s.cycle.peerChecked) (k, a) = _
  rw [Bool.eq_iff_iff]
  by_cases hold : (k, a) ∈ s.cycle.peerChecked <;> simp [hold, hk]

theorem hostLoss_when_within (s : State) (a : Nat) (b : Bool) : Within ⟨[.imposer], []⟩ s (s.when b (hostLoss · a)) := by
  cases b
  · exact .refl _ s
  · exact hostLoss_within s a

/-- The delivery from the shelf of either loop moved by a STATUS. -/
def shelfStatus (a : Nat) (m : StatusMsg) (x : Option (Nat × Bool)) : Option (Nat × Bool) :=
  match x with
  | some (b, begun) =>
    if b = a then
      match deliveryStep begun m with
      | (begun, none) => some (a, begun)
      | (_, some _) => none
    else x
  | none => none

/-- The delivery by a FORWARD moved by a STATUS. -/
def forwardStep (s : State) (a : Nat) (m : StatusMsg) : State :=
  match s.folio.forward with
  | some (b, begun) =>
    if b = a then
      match deliveryStep begun m with
      | (begun, none) => { s with folio := { s.folio with forward := some (a, begun) } }
      | (_, some (st, cause)) => forwardEnd s st cause
    else s
  | none => s

theorem deliveryStatus_eq (s : State) (a : Nat) (m : StatusMsg) : deliveryStatus s a m =
    { forwardStep s a m with
      folio := { (forwardStep s a m).folio with
        shelfA := shelfStatus a m (forwardStep s a m).folio.shelfA
        shelfB := shelfStatus a m (forwardStep s a m).folio.shelfB } } := rfl

theorem forwardEnd_within (s : State) (n k : Nat) : Within .delivery s (forwardEnd s n k) := by
  refine Within.trans ?_ ((folCommandEnd_within _ true n).mono (by decide))
  simp (disch := decide)

theorem forwardStep_within (s : State) (a : Nat) (m : StatusMsg) : Within .delivery s (forwardStep s a m) := by
  unfold forwardStep
  split
  · refine .ite (fun _ => ?_) fun _ => .refl _ s
    split
    · exact .parts rfl
    · exact forwardEnd_within s _ _
  · exact .refl _ s

theorem forwardStep_other {a : Nat} (h : s.folio.forward.any (·.1 == a) = false) (m : StatusMsg) : forwardStep s a m = s := by
  unfold forwardStep
  split
  · next b begun hf => exact if_neg (by simpa [hf] using h)
  · rfl

theorem deliveryStatus_within (s : State) (a : Nat) (m : StatusMsg) : Within .delivery s (deliveryStatus s a m) := by
  rw [deliveryStatus_eq]
  exact (forwardStep_within s a m).trans (.parts rfl)

theorem deliveryStatus_within_folio {a : Nat} (h : s.folio.forward.any (·.1 == a) = false) (m : StatusMsg) :
    Within ⟨[.folio], []⟩ s (deliveryStatus s a m) := by
  rw [deliveryStatus_eq, forwardStep_other h]
  exact .parts rfl

/-- What the end of a forwarded change touches. -/
def Touch.forwarded : Touch :=
  ⟨[.olc], [.field R.OLC_STAT_CAUSE, .field R.OLC_CMD_STATUS, .field R.PCI_VPEND_PEND]⟩

/-- A forwarded change ends with a status. -/
def forwardedEnd (s : State) (st : Nat) : State := { s with olc := { s.olc with forward := none } }.olcEnd st

theorem forwardedEnd_within (s : State) (st : Nat) : Within .forwarded s (forwardedEnd s st) := by
  simp (disch := decide) [forwardedEnd, State.olcEnd]

theorem forwardStatus_eq {a : Nat} (h : s.olc.forward = some a) (m : StatusMsg) : forwardStatus s a m =
    if m.olcState = 2 then forwardedEnd s 2
    else if m.olcCause ≠ 0 then forwardedEnd (s.set R.OLC_STAT_CAUSE m.olcCause) 6
    else if m.state ≠ 3 ∧ m.state ≠ 4 ∧ m.state ≠ 6 then forwardedEnd (s.set R.OLC_STAT_CAUSE 24) 6
    else s := if_neg (not_not_intro h)

theorem forwardStatus_within (s : State) (a : Nat) (m : StatusMsg) : Within .forwarded s (forwardStatus s a m) := by
  have hfailed (cause : Nat) : Within .forwarded s (forwardedEnd (s.set R.OLC_STAT_CAUSE cause) 6) :=
    .trans ((within_set (by decide)).mpr (.refl _ s)) (forwardedEnd_within _ 6)
  by_cases h : s.olc.forward = some a
  · rw [forwardStatus_eq h]
    exact .ite (fun _ => forwardedEnd_within s 2) fun _ => .ite (fun _ => hfailed _) fun _ =>
      .ite (fun _ => hfailed 24) fun _ => .refl _ s
  · rw [forwardStatus, if_pos h]
    exact .refl _ s

theorem forwardStatus_other {a : Nat} (h : s.olc.forward ≠ some a) (m : StatusMsg) : forwardStatus s a m = s := if_pos h

theorem statusEnds_within (s : State) (a : Nat) (m : StatusMsg) :
    Within (.or .delivery (.or .forwarded .loops)) s (statusEnds s a m) :=
  ((deliveryStatus_within s a m).mono (by decide)).trans <|
    ((forwardStatus_within _ a m).mono (by decide)).trans ((loopStates_within _).mono (by decide))

/-- Without a delivery to the node, the loops and the folio's shelves alone. -/
theorem statusEnds_within_other {a : Nat} (holc : s.olc.forward ≠ some a) (hfwd : s.folio.forward.any (·.1 == a) = false)
    (m : StatusMsg) : Within (.or ⟨[.folio], []⟩ .loops) s (statusEnds s a m) := by
  have hdel := deliveryStatus_within_folio hfwd m
  have hsame : (deliveryStatus s a m).olc = s.olc := hdel.part .olc
  rw [statusEnds, forwardStatus_other (by rw [hsame]; exact holc)]
  exact (hdel.mono (by decide)).trans ((loopStates_within _).mono (by decide))

/-! ### The whole -/

/-- What a STATUS shows at the acting manager. -/
structure StatusTold (s : State) (a : Nat) (m : StatusMsg) (t : State) : Prop where
  state : t.get (R.SPN_NODE_STATE a) = m.state % 16
  node : t.node a = some { s.nodeRow a with status := some m, lost := false }
  overrun : t.cycle.peerOverrun = (s.cycle.peerOverrun ||| m.overrun % 256)
  checked : ∀ k < 8, t.cycle.peerChecked.contains (k, a) = (m.checked.testBit k || s.cycle.peerChecked.contains (k, a))
  loss : ∀ c, s.content = some c → leftRun s a m = true → s.imposer.sheet.any (fun e => e.kind == 1 && e.remote &&
    e.addr == a / 2 * 2 && (hostMembers t c e.addr).isEmpty) = true → t.imposer.lossDue = true
  frame : s.olc.forward ≠ some a → s.folio.forward.any (·.1 == a) = false →
    t = { s with regs := t.regs, spine := t.spine, cycle := t.cycle, imposer := t.imposer, folio := t.folio }
  pending : t.pending = s.pending

/-- The states of the nodes lie apart from a touch of registers before and behind the node table. -/
theorem Touch.spares_nodeState {T : Touch} {a : Nat} (ha : a < 128)
    (hT : (T.bits.all fun p => p.count == some 1 && p.stride == 1 &&
      decide (p.base < 0xC0C100 ∨ 0xC0C200 ≤ p.base)) = true := by decide) :
    T.spares (R.SPN_NODE_STATE a) = true := by
  simp only [Touch.spares, Touch.hits, List.all_eq_true, Bool.not_eq_true', List.any_eq_false]
  intro i _ p hp hhit
  have hsmall := List.all_eq_true.mp hT p hp
  simp only [Bool.and_eq_true, beq_iff_eq, decide_eq_true_eq] at hsmall
  obtain ⟨⟨hcount, hstride⟩, hbase⟩ := hsmall
  simp only [Span.hits, hcount, hstride, Option.all_some, Bool.and_eq_true, decide_eq_true_eq] at hhit
  simp only [R.SPN_NODE_STATE] at hhit
  omega

theorem statusTold_tells {a : Nat} (ha : a < 128) (s : State) (m : StatusMsg) : StatusTold s a m (statusTold s a m) := by
  let u := reportsTaken (nodeReported s a m) a m
  let v := u.when (leftRun s a m) (hostLoss · a)
  have hrow := nodeReported_within s a m
  have hreports : Within ⟨[.cycle, .startAt, .imposer], [.upTo R.SPN_NODE_STATE 128]⟩ (nodeReported s a m) u :=
    reportsTaken_within ha _ m
  have hloss : Within ⟨[.imposer], []⟩ u v := hostLoss_when_within u a _
  have hends := statusEnds_within v a m
  have hafter : Within (.or ⟨[.imposer], []⟩ (.or .delivery (.or .forwarded .loops))) u (statusEnds v a m) :=
    (hloss.mono (by decide)).trans (hends.mono (by decide))
  have hu : Within ⟨[.spine, .cycle, .startAt, .imposer], [.upTo R.SPN_NODE_STATE 128]⟩ s u :=
    (hrow.mono (by decide)).trans (hreports.mono (by decide))
  have hv : Within ⟨[.spine, .cycle, .startAt, .imposer], [.upTo R.SPN_NODE_STATE 128]⟩ s v := hu.trans (hloss.mono (by decide))
  have hspine : (statusEnds v a m).spine = u.spine := hafter.part .spine
  have hcycle : (statusEnds v a m).cycle = u.cycle := hafter.part .cycle
  have hold : (nodeReported s a m).cycle = s.cycle := hrow.part .cycle
  have hpend : (statusEnds v a m).pending = s.pending := Eq.trans (hafter.part .pending) (hu.part .pending)
  refine ⟨(hafter.get _ (Touch.spares_nodeState ha)).trans (reportsTaken_state _ a m), ?_, ?_, fun k hk => ?_,
    fun c hc hleft h => ?_, fun holc hfwd => ?_, hpend⟩
  · rw [statusTold, State.node_congr hspine, State.node_congr (s := nodeReported s a m) (hreports.part .spine), nodeReported_node]
  · rw [statusTold, hcycle, ← hold]
    rfl
  · rw [statusTold, hcycle, reportsTaken_peerChecked _ a m hk, hold]
  · have hleaves : v = hostLoss u a := if_pos hleft
    have himp : (statusTold s a m).imposer = (hostLoss u a).imposer := by
      rw [← hleaves]
      exact hends.part .imposer
    have hrows : (nodeReported s a m).imposer = s.imposer := hrow.part .imposer
    have hsheet : u.imposer.sheet = s.imposer.sheet := by
      rw [← hrows]
      rfl
    have hmembers (n : Nat) : hostMembers (statusTold s a m) c n = hostMembers u c n := hostMembers_congr hspine n
    rw [himp]
    refine hostLoss_due (c := c) (by rw [State.content, show u.folio = s.folio from hu.part .folio]; exact hc) ?_
    simpa only [hmembers, hsheet] using h
  · have holc' : v.olc.forward ≠ some a := by
      rw [show v.olc = s.olc from hv.part .olc]
      exact holc
    have hfwd' : v.folio.forward.any (·.1 == a) = false := by
      rw [show v.folio = s.folio from hv.part .folio]
      exact hfwd
    have hother := statusEnds_within_other holc' hfwd' m
    have hall : Within (.or ⟨[.spine, .cycle, .startAt, .imposer, .folio], [.upTo R.SPN_NODE_STATE 128]⟩ .loops) s
        (statusTold s a m) := (hv.mono (by decide)).trans (hother.mono (by decide))
    exact hall.eq_patch

theorem statusFrame_refused_runs (s : State) (h : FrameHead) (m : StatusMsg) (hpow : s.powered = true) (hcrc : h.crcOk = false) :
    Runs (.statusFrame h m) s fun t => t = s.add (R.SPN_LANE_CRCERR (h.lane % 4)) 1 :=
  runs_of_powered_eq rfl hpow (statusFrame_refused hcrc m) rfl rfl

theorem statusFrame_acting_runs (s : State) (h : FrameHead) (m : StatusMsg) (hpow : s.powered = true)
    (hacc : (spineAccept s 2 h).2 = true) (hact : s.acting = true) :
    Runs (.statusFrame h m) s fun t => t.get (R.SPN_NODE_STATE (h.src % 128)) = m.state % 16 ∧
    (t.node (h.src % 128)).bind (·.status) = some m ∧ (t.node (h.src % 128)).any (·.lost) = false ∧
    t.cycle.peerOverrun = (s.cycle.peerOverrun ||| m.overrun % 256) ∧
    ((List.range 8).all (fun k => t.cycle.peerChecked.contains (k,
    h.src % 128) == (m.checked.testBit k || s.cycle.peerChecked.contains (k, h.src % 128))) = true) ∧ (∀ c,
    s.content = some c → (s.node (h.src % 128)).any (fun n => n.status.any (·.state == 4)) = true → m.state ≠ 4 →
    s.imposer.sheet.any (fun e => e.kind == 1 && e.remote && e.addr == (h.src % 128) / 2 * 2 && (hostMembers t c
      e.addr).isEmpty) = true → t.imposer.lossDue = true) ∧ (s.olc.forward ≠ some (h.src % 128) →
    s.folio.forward.any (·.1 == h.src % 128) = false →
    t = { s with regs := t.regs, spine := t.spine, cycle := t.cycle, imposer := t.imposer, folio := t.folio }) := by
  obtain ⟨l, hl⟩ := spineAccept_noted hacc
  obtain ⟨hstate, hnode, hoverrun, hchecked, hloss, hframe, hpend⟩ :=
    statusTold_tells (a := h.src % 128) (Nat.mod_lt _ (by decide)) (s.noted l) m
  refine runs_of_powered_eq rfl hpow (statusFrame_told hl hact m) hpend ⟨hstate, by rw [hnode]; rfl, by rw [hnode]; rfl,
    hoverrun, ?_, fun c hc hrun hm hsheet => hloss c hc ?_ hsheet, fun holc hfwd => hframe holc hfwd⟩
  · exact List.all_eq_true.mpr fun k hk => beq_iff_eq.mpr (hchecked k (List.mem_range.mp hk))
  · obtain ⟨n, hn, hstatus⟩ := Option.any_eq_true _ _ |>.mp hrun
    have hrow : (s.noted l).nodeRow (h.src % 128) = n := by
      show (s.node (h.src % 128)).getD _ = n
      rw [hn]
      rfl
    rw [leftRun, hrow, hstatus]
    simpa using hm

theorem statusFrame_idle_runs (s : State) (h : FrameHead) (m : StatusMsg) (hpow : s.powered = true)
    (hacc : (spineAccept s 2 h).2 = true) (hact : s.acting = false) :
    Runs (.statusFrame h m) s fun t => (t.node (h.src % 128)).bind (·.status) = some m ∧
    (t.node (h.src % 128)).any (·.lost) = false ∧ (s.partner.any (·.addr == h.src % 128) = true →
    t.spine.heardPartner = some s.time.loc) ∧ (s.partner.any (·.addr == h.src % 128) = false →
    t.spine.heardOther = some s.time.loc) ∧ t = { s with spine := t.spine } := by
  obtain ⟨l, hl⟩ := spineAccept_noted hacc
  have hnode := nodeReported_node (s.noted l) (h.src % 128) m
  have hall : Within ⟨[.spine], []⟩ s (nodeReported (s.noted l) (h.src % 128) m) :=
    (s.noted_within l).trans (nodeReported_within _ _ m)
  have hspine : nodeReported (s.noted l) (h.src % 128) m =
      { s with spine := (nodeReported (s.noted l) (h.src % 128) m).spine } := by
    unfold nodeReported heardFrom
    split <;> rfl
  exact runs_of_powered_eq rfl hpow (statusFrame_noted hl hact m) (hall.part .pending) ⟨by rw [hnode]; rfl, by rw [hnode]; rfl,
    fun hp => nodeReported_heardPartner (s := s.noted l) hp m, fun hp => nodeReported_heardOther (s := s.noted l) hp m, hspine⟩

end
end Sys2Proof.Machine

/-!
TICK frames (R327, R337 to R340).
-/
namespace Sys2Proof.Machine
section
variable {s t u : State} {m : TickMsg}

/-! ### Numbers in a field -/

theorem saturate_range (i : Int) : -131072 ≤ saturate 18 i ∧ saturate 18 i < 131072 := by
  unfold saturate
  split
  · decide
  · split <;> omega

/-- A number in the range of 18 bits reads back from a field of that width. -/
theorem signedOf_natOfInt {i : Int} (hlo : -131072 ≤ i) (hhi : i < 131072) : signedOf 18 (natOfInt 18 i % 2 ^ 18) = i := by
  unfold signedOf natOfInt
  dsimp only
  split <;> omega

/-! ### What a TICK shows -/

/-- The consecutive ticks within the bound of the lock, this one among them (R339). -/
def tickCount (s : State) (m : TickMsg) : Nat := if m.offset.natAbs ≤ 4 * (4 + m.hops) then s.spine.tickGood + 1 else 0

/-- The instant of a tick and the count of good ones. -/
def tickNoted (s : State) (m : TickMsg) : State :=
  { s with spine := { s.spine with tickAt := some s.time.loc, tickGood := tickCount s m } }

/-- Hop count, isolation, error and lock as a tick shows them. -/
def tickShown (s : State) (m : TickMsg) : State :=
  (((tickNoted (timePath s m.hops) m).set R.SPN_STAT_ISOL 0).set R.SPN_TERR_ERR (natOfInt 18 (saturate 18 m.offset))).setFlag
    R.SPN_STAT_SYNC (decide (64 ≤ tickCount (timePath s m.hops) m))

/-- The configured domains, locked. -/
def domainsLocked (s : State) : State := State.forEach (configuredDomains s) (fun d s => setDomainState s d 2) s

/-- A tick shown, with the domains that it locks. -/
def tickLocked (s : State) (m : TickMsg) : State :=
  (tickShown s m).when (decide (64 ≤ tickCount (timePath s m.hops) m)) domainsLocked

/-- The offset that the domains are to slew away. -/
def domainsSlewed (s : State) (m : TickMsg) : State :=
  State.forEach (configuredDomains s) (fun d s =>
    { s with time := { s.time with domSlew := s.time.domSlew.setIfInBounds d (-m.offset * 250000) } }) s

/-- The domains as the tick has them. -/
def domainsTaken (s : State) (m : TickMsg) : State :=
  { s with time := { s.time with dom := ⟨#[m.dom0 % 2 ^ 72, m.dom1 % 2 ^ 72], rfl⟩ } }

/-- The active domain as the tick has it, once the device has one. -/
def activeTaken (s : State) (m : TickMsg) : State :=
  if s.time.active.isSome then { s with time := { s.time with active := some m.active } }.set R.NTM_STAT_ACT m.active else s

/-- A step that waits for a cycle boundary. -/
def stepPlanned (s : State) (m : TickMsg) : State := { s with spine := { s.spine with stepDue := -(m.offset / 4) } }

/-- The offset of a tick, slewed or stepped. -/
def tickCorrected (s : State) (m : TickMsg) : State :=
  if 4000 < m.offset.natAbs then if s.cycling then stepPlanned s m else activeTaken (domainsTaken s m) m
  else domainsSlewed s m

/-- The notices of a tick that the node does not hold yet. -/
def noticesTaken (s : State) (ns : List TimeNotice) : State :=
  State.forEach (ns.filter fun n => !s.time.notices.contains n) (fun n s => noticeAdd s n) s

theorem tickFrame_eq {h : FrameHead} {l : List (Nat × Nat × Nat)} (hl : spineAccept s 1 h = (s.noted l, true))
    (hact : s.acting = false) (m : TickMsg) :
    tickFrame s h m = boundaryStep (noticesTaken (tickCorrected (tickLocked (s.noted l) m) m) m.notices) := by
  have hidle : ¬ (!true || s.acting) = true := by simp [hact]
  unfold tickFrame
  rw [hl]
  exact if_neg hidle

/-! ### What its parts touch -/

/-- What a tick shows, beside the hop count. -/
def Touch.tickShown : Touch := .or .path ⟨[.spine], [.field R.SPN_STAT_ISOL, .field R.SPN_TERR_ERR, .field R.SPN_STAT_SYNC]⟩

/-- What the lock of the domains touches. -/
def Touch.domainLock : Touch :=
  ⟨[], [.upTo R.NTM_DSTAT_STATE 2, .field R.NTM_STAT_Q0, .field R.NTM_STAT_Q1, .field R.NTM_EVT_LOCK]⟩

/-- What correcting the time and taking notices touches. -/
def Touch.tickTaken : Touch := ⟨[.spine, .time], [.field R.NTM_STAT_ACT, .field R.NTM_STAT_PEND]⟩

theorem tickNoted_within (s : State) (m : TickMsg) : Within ⟨[.spine], []⟩ s (tickNoted s m) := .parts rfl

theorem tickShown_within (s : State) (m : TickMsg) : Within .tickShown s (tickShown s m) :=
  (within_setFlag (by decide)).mpr <| (within_set (by decide)).mpr <| (within_set (by decide)).mpr <|
    ((timePath_within s m.hops).mono (by decide)).trans ((tickNoted_within _ m).mono (by decide))

theorem setDomainState_lock (s : State) (d : Nat) : setDomainState s d 2 =
    if s.get (R.NTM_DSTAT_STATE d) = 2 then s
    else (if d = 0 then (s.set (R.NTM_DSTAT_STATE d) 2).set R.NTM_STAT_Q0 2
      else (s.set (R.NTM_DSTAT_STATE d) 2).set R.NTM_STAT_Q1 2).raise R.NTM_EVT_LOCK := rfl

theorem setDomainState_lock_within {d : Nat} (hd : d < 2) (s : State) : Within .domainLock s (setDomainState s d 2) := by
  have hset : Within .domainLock s (s.set (R.NTM_DSTAT_STATE d) 2) :=
    (within_setUpTo R.NTM_DSTAT_STATE hd (hT := by decide)).mpr (.refl _ s)
  rw [setDomainState_lock]
  exact .ite (fun _ => .refl _ s) fun _ => (within_raise (by decide)).mpr <|
    .ite (fun _ => (within_set (by decide)).mpr hset) fun _ => (within_set (by decide)).mpr hset

theorem domainsLocked_within (s : State) : Within .domainLock s (domainsLocked s) :=
  .forEach (.refl _ s) _ fun _ hd u hu => hu.trans (setDomainState_lock_within (configuredDomains_lt hd) u)

theorem tickLocked_within_shown (s : State) (m : TickMsg) : Within .domainLock (tickShown s m) (tickLocked s m) :=
  .when (.refl _ _) (domainsLocked_within _)

theorem tickLocked_within (s : State) (m : TickMsg) : Within (.or .tickShown .domainLock) s (tickLocked s m) :=
  ((tickShown_within s m).mono (by decide)).trans ((tickLocked_within_shown s m).mono (by decide))

theorem domainsSlewed_within (s : State) (m : TickMsg) : Within ⟨[.time], []⟩ s (domainsSlewed s m) :=
  .forEach (.refl _ s) _ fun _ _ _ hu => hu.trans (.parts rfl)

theorem activeTaken_within (s : State) (m : TickMsg) : Within ⟨[.time], [.field R.NTM_STAT_ACT]⟩ s (activeTaken s m) :=
  .ite (fun _ => (within_set (by decide)).mpr (.parts rfl)) fun _ => .refl _ s

theorem tickCorrected_within (s : State) (m : TickMsg) : Within .tickTaken s (tickCorrected s m) :=
  .ite
    (fun _ => .ite (fun _ => .parts rfl) fun _ =>
      Within.trans (t := domainsTaken s m) (.parts rfl) ((activeTaken_within _ m).mono (by decide)))
    fun _ => (domainsSlewed_within s m).mono (by decide)

theorem forEach_noticeAdd_within (ns : List TimeNotice) (s : State) :
    Within ⟨[.time], [.field R.NTM_STAT_PEND]⟩ s (State.forEach ns (fun n s => noticeAdd s n) s) :=
  .forEach (.refl _ s) _ fun _ _ _ hu => (within_raise (by decide)).mpr (hu.trans (.parts rfl))

theorem forEach_noticeAdd_time (ns : List TimeNotice) (s : State) :
    (State.forEach ns (fun n s => noticeAdd s n) s).time = { s.time with notices := s.time.notices ++ ns } := by
  induction ns generalizing s with
  | nil => simp [State.forEach]
  | cons n ns ih =>
    refine (ih (noticeAdd s n)).trans ?_
    show { s.time with notices := (s.time.notices ++ [n]) ++ ns } = _
    rw [List.append_assoc]
    rfl

/-- Notices taken are in the time's list alone. -/
theorem noticesTaken_time (s : State) (ns : List TimeNotice) : (noticesTaken s ns).time =
    { s.time with notices := s.time.notices ++ ns.filter fun n => !s.time.notices.contains n } :=
  forEach_noticeAdd_time _ s

theorem noticesTaken_within (s : State) (ns : List TimeNotice) :
    Within ⟨[.time], [.field R.NTM_STAT_PEND]⟩ s (noticesTaken s ns) := forEach_noticeAdd_within _ s

/-! ### The slew of the configured domains -/

theorem getD_setIfInBounds (v : Vector Int 2) {d : Nat} (hd : d < 2) (e : Nat) (x : Int) :
    (v.setIfInBounds d x).toList.getD e 0 = if e = d then x else v.toList.getD e 0 := by
  have hset : (v.setIfInBounds d x).toList = v.toList.set d x := by simp [Vector.toList, Vector.setIfInBounds]
  rw [hset, List.getD_eq_getElem?_getD, List.getD_eq_getElem?_getD]
  by_cases h : e = d
  · simp [h, hd]
  · rw [List.getElem?_set_ne (Ne.symm h), if_neg h]

theorem domainsSlewed_slews (s : State) (m : TickMsg) :
    ∀ d ∈ configuredDomains s, (domainsSlewed s m).time.domSlew.toList.getD d 0 = -m.offset * 250000 := by
  refine forEach_each (P := fun _ => True) (Q := fun d u => u.time.domSlew.toList.getD d 0 = -m.offset * 250000) trivial
    (fun _ _ _ _ => trivial) (fun d hd u _ => ?_) (fun d hd e u _ he => ?_)
  · exact (getD_setIfInBounds _ (configuredDomains_lt hd) _ _).trans (if_pos rfl)
  · exact (getD_setIfInBounds _ (configuredDomains_lt hd) _ _).trans (ite_eq_left_iff.mpr fun _ => he)

/-- The slew of the domains leaves the rest of the time. -/
theorem domainsSlewed_time (s : State) (m : TickMsg) :
    (domainsSlewed s m).time = { s.time with domSlew := (domainsSlewed s m).time.domSlew } :=
  forEach_induction (P := fun u => u.time = { s.time with domSlew := u.time.domSlew }) rfl fun d _ u hu =>
    congrArg (fun q : TimeSt => { q with domSlew := u.time.domSlew.setIfInBounds d (-m.offset * 250000) }) hu

/-! ### A tick as a whole -/

/-- What a tick shows of hops, error and lock, and what it leaves. -/
structure TickTold (s : State) (m : TickMsg) (t : State) : Prop where
  hops : t.get R.SPN_HOPS_HOPS = m.hops % 64
  count : t.spine.tickGood = tickCount s m
  instant : t.spine.tickAt = some s.time.loc
  error : t.getInt R.SPN_TERR_ERR = saturate 18 m.offset
  sync : t.flag R.SPN_STAT_SYNC = decide (64 ≤ tickCount s m)
  isol : t.flag R.SPN_STAT_ISOL = false
  within : Within (.or .tickShown (.or .domainLock .tickTaken)) s t

theorem tickShown_told (s : State) (m : TickMsg) : TickTold s m (tickShown s m) := by
  have hspine : (timePath s m.hops).spine = s.spine := (timePath_within s m.hops).part .spine
  have htime : (timePath s m.hops).time = s.time := (timePath_within s m.hops).part .time
  have hcount : tickCount (timePath s m.hops) m = tickCount s m := by rw [tickCount, tickCount, hspine]
  refine ⟨?_, hcount, congrArg (fun q : TimeSt => some q.loc) htime, ?_, ?_, ?_, (tickShown_within s m).mono (by decide)⟩
  · refine (State.get_set_apart ⟨by decide, by decide⟩).trans <| (State.get_set_apart ⟨by decide, by decide⟩).trans <|
      (State.get_set_apart ⟨by decide, by decide⟩).trans <| ((tickNoted_within _ m).get _).trans (timePath_hops s _)
  · obtain ⟨hlo, hhi⟩ := saturate_range m.offset
    have hread : (tickShown s m).get R.SPN_TERR_ERR = natOfInt 18 (saturate 18 m.offset) % 2 ^ 18 :=
      (State.get_set_apart ⟨by decide, by decide⟩).trans (State.get_set_whole (by decide))
    rw [State.getInt, hread]
    exact signedOf_natOfInt hlo hhi
  · exact (State.flag_set_bitNat (by decide)).trans (by rw [hcount])
  · exact (State.flag_set_apart ⟨by decide, by decide⟩).trans <| (State.flag_set_apart ⟨by decide, by decide⟩).trans <|
      State.flag_set_same _ _ rfl (by decide)

/-- What comes after the lock leaves what a tick shows. -/
theorem TickTold.later (h : TickTold s m t) (k : Within (.or .domainLock .tickTaken) t u)
    (hcount : u.spine.tickGood = t.spine.tickGood) (hinstant : u.spine.tickAt = t.spine.tickAt) : TickTold s m u := by
  obtain ⟨hhops, hgood, hat, herror, hsync, hisol, hwithin⟩ := h
  refine ⟨(k.get _).trans hhops, hcount.trans hgood, hinstant.trans hat, ?_, (k.flag _).trans hsync, (k.flag _).trans hisol,
    hwithin.trans (k.mono (by decide))⟩
  rw [State.getInt, k.get R.SPN_TERR_ERR]
  exact herror

theorem tickLocked_told (s : State) (m : TickMsg) : TickTold s m (tickLocked s m) := by
  have hlock := tickLocked_within_shown s m
  have hspine : (tickLocked s m).spine = (tickShown s m).spine := hlock.part .spine
  exact (tickShown_told s m).later (hlock.mono (by decide)) (by rw [hspine]) (by rw [hspine])

theorem tickCorrected_spine (s : State) (m : TickMsg) :
    (tickCorrected s m).spine = { s.spine with stepDue := (tickCorrected s m).spine.stepDue } := by
  unfold tickCorrected activeTaken
  split
  · split
    · rfl
    · split <;> rfl
  · have hspine : (domainsSlewed s m).spine = s.spine := (domainsSlewed_within s m).part .spine
    rw [hspine]

/-- The state of a tick, up to a step that a cycle boundary lets through. -/
def tickDone (s : State) (m : TickMsg) : State := noticesTaken (tickCorrected (tickLocked s m) m) m.notices

theorem tickDone_within (s : State) (m : TickMsg) : Within .tickTaken (tickLocked s m) (tickDone s m) :=
  (tickCorrected_within _ m).trans ((noticesTaken_within _ _).mono (by decide))

theorem tickDone_spine (s : State) (m : TickMsg) : (tickDone s m).spine = (tickCorrected (tickLocked s m) m).spine :=
  (noticesTaken_within _ _).part .spine

theorem tickDone_told (s : State) (m : TickMsg) : TickTold s m (tickDone s m) := by
  have hspine := (tickDone_spine s m).trans (tickCorrected_spine _ m)
  exact (tickLocked_told s m).later ((tickDone_within s m).mono (by decide)) (by rw [hspine]) (by rw [hspine])

theorem tickLocked_time (s : State) (m : TickMsg) : (tickLocked s m).time = s.time := (tickLocked_within s m).part .time

theorem tickLocked_cycling (s : State) (m : TickMsg) : (tickLocked s m).cycling = s.cycling := by
  rw [State.cycling, show (tickLocked s m).dev = s.dev from (tickLocked_within s m).part .dev, State.cycling]

theorem tickLocked_stepDue (s : State) (m : TickMsg) : (tickLocked s m).spine.stepDue = s.spine.stepDue := by
  have hlock : (tickLocked s m).spine = (tickShown s m).spine := (tickLocked_within_shown s m).part .spine
  have hpath : (timePath s m.hops).spine = s.spine := (timePath_within s m.hops).part .spine
  rw [hlock, ← hpath]
  rfl

theorem tickLocked_domains (s : State) (m : TickMsg) : configuredDomains (tickLocked s m) = configuredDomains s := by
  have hw := tickLocked_within s m
  refine List.filter_congr fun d hd => ?_
  have hcases : d = 0 ∨ d = 1 := by simpa using hd
  have hmode : (tickLocked s m).get (R.NTM_DCFG_MODE d) = s.get (R.NTM_DCFG_MODE d) := by
    rcases hcases with rfl | rfl <;> exact hw.get _
  rw [hmode]

/-- A tick as a command: no step takes effect with it where none is due, or while cycles run outside a gap. -/
theorem tickFrame_runs {h : FrameHead} {l : List (Nat × Nat × Nat)} (hl : spineAccept s 1 h = (s.noted l, true))
    (hact : s.acting = false) (hpow : s.powered = true)
    (hwaits : boundaryStep (tickDone (s.noted l) m) = tickDone (s.noted l) m) {P : State → Prop}
    (hP : P (tickDone (s.noted l) m)) : Runs (.tickFrame h m) s P :=
  runs_of_powered_eq rfl hpow ((tickFrame_eq hl hact m).trans hwaits) ((tickDone_told (s.noted l) m).within.part .pending) hP

theorem boundaryStep_none (h : s.spine.stepDue = 0) : boundaryStep s = s := if_pos (by simp [h])

theorem boundaryStep_waits (hcycling : s.cycling = true) (hgap : inGap s = false) : boundaryStep s = s :=
  if_pos (by simp [hcycling, hgap])

/-- The frame of a tick. -/
theorem TickTold.frame {l : List (Nat × Nat × Nat)} (h : TickTold (s.noted l) m t) :
    t = { s with regs := t.regs, spine := t.spine, time := t.time, records := t.records, host := t.host, free := t.free } := by
  have hw : Within (.or ⟨[.records, .host, .free], []⟩ (.or .tickShown (.or .domainLock .tickTaken))) s t :=
    ((s.noted_within l).mono (by decide)).trans (h.within.mono (by decide))
  exact hw.eq_patch

theorem tickFrame_slewed_runs (s : State) (h : FrameHead) (m : TickMsg) (hpow : s.powered = true)
    (hacc : (spineAccept s 1 h).2 = true) (hact : s.acting = false) (hdue : s.spine.stepDue = 0)
    (hsmall : m.offset.natAbs ≤ 4000) :
    Runs (.tickFrame h m) s fun t => t.get R.SPN_HOPS_HOPS = m.hops % 64 ∧
    (t.spine.tickGood = (if m.offset.natAbs ≤ 4 * (4 + m.hops) then s.spine.tickGood + 1 else 0)) ∧
    t.spine.tickAt = some s.time.loc ∧ t.getInt R.SPN_TERR_ERR = saturate 18 m.offset ∧
    (t.flag R.SPN_STAT_SYNC = decide (64 ≤ (if m.offset.natAbs ≤ 4 * (4 + m.hops) then s.spine.tickGood + 1 else 0)))
      ∧ t.flag R.SPN_STAT_ISOL = false ∧
    ((configuredDomains s).all (fun d => t.time.domSlew.toList.getD d 0 == -m.offset * 250000) = true) ∧
    t.time.dom = s.time.dom ∧
    (t.time.notices = s.time.notices ++ m.notices.filter (fun n => !s.time.notices.contains n)) ∧
    t = { s with regs := t.regs, spine := t.spine, time := t.time, records := t.records, host := t.host, free := t.free } := by
  obtain ⟨l, hl⟩ := spineAccept_noted hacc
  have htold := tickDone_told (s.noted l) m
  have hslewed : tickCorrected (tickLocked (s.noted l) m) m = domainsSlewed (tickLocked (s.noted l) m) m :=
    if_neg (by omega)
  have hspine : (tickDone (s.noted l) m).spine = (tickLocked (s.noted l) m).spine := by
    rw [tickDone_spine, hslewed]
    exact (domainsSlewed_within _ m).part .spine
  have hslew := domainsSlewed_slews (tickLocked (s.noted l) m) m
  have hrest := domainsSlewed_time (tickLocked (s.noted l) m) m
  have htime : (tickDone (s.noted l) m).time = { s.time with
      domSlew := (domainsSlewed (tickLocked (s.noted l) m) m).time.domSlew
      notices := s.time.notices ++ m.notices.filter fun n => !s.time.notices.contains n } := by
    rw [tickDone, noticesTaken_time, hslewed, hrest, tickLocked_time]
    rfl
  refine tickFrame_runs hl hact hpow (boundaryStep_none ?_)
    ⟨htold.hops, htold.count, htold.instant, htold.error, htold.sync, htold.isol, ?_, by rw [htime], by rw [htime], htold.frame⟩
  · rw [hspine, tickLocked_stepDue]
    exact hdue
  · rw [tickLocked_domains] at hslew
    rw [htime]
    exact List.all_eq_true.mpr fun d hd => beq_iff_eq.mpr (hslew d hd)

theorem tickFrame_planned_runs (s : State) (h : FrameHead) (m : TickMsg) (hpow : s.powered = true)
    (hacc : (spineAccept s 1 h).2 = true) (hact : s.acting = false) (hlarge : 4000 < m.offset.natAbs)
    (hcycling : s.cycling = true) (hgap : inGap s = false) :
    Runs (.tickFrame h m) s fun t => t.get R.SPN_HOPS_HOPS = m.hops % 64 ∧
    (t.spine.tickGood = (if m.offset.natAbs ≤ 4 * (4 + m.hops) then s.spine.tickGood + 1 else 0)) ∧
    t.spine.tickAt = some s.time.loc ∧ t.getInt R.SPN_TERR_ERR = saturate 18 m.offset ∧
    (t.flag R.SPN_STAT_SYNC = decide (64 ≤ (if m.offset.natAbs ≤ 4 * (4 + m.hops) then s.spine.tickGood + 1 else 0)))
      ∧ t.flag R.SPN_STAT_ISOL = false ∧ t.spine.stepDue = -(m.offset / 4) ∧ t.time.dom = s.time.dom ∧
    t.time.domSlew = s.time.domSlew ∧
    t = { s with regs := t.regs, spine := t.spine, time := t.time, records := t.records, host := t.host, free := t.free } := by
  obtain ⟨l, hl⟩ := spineAccept_noted hacc
  have htold := tickDone_told (s.noted l) m
  have hruns : (tickLocked (s.noted l) m).cycling = true := (tickLocked_cycling _ m).trans hcycling
  have hplanned : tickCorrected (tickLocked (s.noted l) m) m = stepPlanned (tickLocked (s.noted l) m) m :=
    (if_pos hlarge).trans (if_pos hruns)
  have htime : (tickDone (s.noted l) m).time = { s.time with
      notices := s.time.notices ++ m.notices.filter fun n => !s.time.notices.contains n } := by
    rw [tickDone, noticesTaken_time, hplanned, show (stepPlanned (tickLocked (s.noted l) m) m).time = s.time from tickLocked_time _ m]
  have hgapKept : inGap (tickDone (s.noted l) m) = inGap s := by
    have hw : Within (.or ⟨[.spine], []⟩ (.or .tickShown (.or .domainLock .tickTaken))) s (tickDone (s.noted l) m) :=
      ((s.noted_within l).mono (by decide)).trans (htold.within.mono (by decide))
    refine inGap_congr (fun c hc => ?_) (hw.get _) (hw.part .cycle) (by rw [State.now, htime, State.now])
    interval_cases c <;> exact hw.get _
  have hcycles : (tickDone (s.noted l) m).cycling = true := by
    rw [State.cycling, show (tickDone (s.noted l) m).dev = s.dev from htold.within.part .dev]
    exact hcycling
  refine tickFrame_runs hl hact hpow (boundaryStep_waits hcycles (hgapKept.trans hgap))
    ⟨htold.hops, htold.count, htold.instant, htold.error, htold.sync, htold.isol, ?_, by rw [htime], by rw [htime], htold.frame⟩
  rw [tickDone_spine, hplanned]
  rfl

theorem tickFrame_set_runs (s : State) (h : FrameHead) (m : TickMsg) (hpow : s.powered = true)
    (hacc : (spineAccept s 1 h).2 = true) (hact : s.acting = false) (hdue : s.spine.stepDue = 0)
    (hlarge : 4000 < m.offset.natAbs) (hcycling : s.cycling = false) :
    Runs (.tickFrame h m) s fun t => t.get R.SPN_HOPS_HOPS = m.hops % 64 ∧
    (t.spine.tickGood = (if m.offset.natAbs ≤ 4 * (4 + m.hops) then s.spine.tickGood + 1 else 0)) ∧
    t.spine.tickAt = some s.time.loc ∧ t.getInt R.SPN_TERR_ERR = saturate 18 m.offset ∧
    (t.flag R.SPN_STAT_SYNC = decide (64 ≤ (if m.offset.natAbs ≤ 4 * (4 + m.hops) then s.spine.tickGood + 1 else 0)))
      ∧ t.flag R.SPN_STAT_ISOL = false ∧ t.time.dom = ⟨#[m.dom0 % 2 ^ 72, m.dom1 % 2 ^ 72], rfl⟩ ∧
    (s.time.active.isSome = true → t.time.active = some m.active) ∧ t.spine.stepDue = 0 ∧
    t = { s with regs := t.regs, spine := t.spine, time := t.time, records := t.records, host := t.host, free := t.free } := by
  obtain ⟨l, hl⟩ := spineAccept_noted hacc
  have htold := tickDone_told (s.noted l) m
  let u := tickLocked (s.noted l) m
  have hidle : u.cycling = false := (tickLocked_cycling _ m).trans hcycling
  have hset : tickCorrected u m = activeTaken (domainsTaken u m) m :=
    (if_pos hlarge).trans (if_neg (by simp [hidle]))
  have hspine : (tickDone (s.noted l) m).spine = u.spine := by
    rw [tickDone_spine, hset]
    exact (activeTaken_within (domainsTaken u m) m).part .spine
  have hstep : (tickDone (s.noted l) m).spine.stepDue = 0 := by
    rw [hspine, tickLocked_stepDue]
    exact hdue
  have hdom : (activeTaken (domainsTaken u m) m).time.dom = ⟨#[m.dom0 % 2 ^ 72, m.dom1 % 2 ^ 72], rfl⟩ := by
    unfold activeTaken
    split <;> rfl
  refine tickFrame_runs hl hact hpow (boundaryStep_none hstep)
    ⟨htold.hops, htold.count, htold.instant, htold.error, htold.sync, htold.isol, ?_, fun hactive => ?_, hstep, htold.frame⟩
  · rw [tickDone, noticesTaken_time, hset]
    exact hdom
  · have htime : u.time = s.time := tickLocked_time (s.noted l) m
    have htakes : (domainsTaken u m).time.active.isSome = true := by
      rw [← htime] at hactive
      exact hactive
    rw [tickDone, noticesTaken_time, hset, activeTaken, if_pos htakes]
    rfl

end

/-- Settles O33: the frames by what they note, a tick by its parts, a STATUS by the reports it carries. -/
theorem spineFrames : Obligations.SpineFrames :=
  ⟨statusFrame_refused_runs, tickFrame_slewed_runs, fun s h m hpow hacc hact _ => tickFrame_planned_runs s h m hpow hacc hact,
    tickFrame_set_runs, statusFrame_acting_runs, statusFrame_idle_runs, discoverFrame_appends_runs, discoverFrame_takes_runs,
    frameForward_onward_runs, frameForward_back_runs, delayExchange_runs, laneDown_spine_runs, laneDown_twin_runs,
    laneRestored_spine_runs, laneRestored_twin_runs⟩

end Sys2Proof.Machine

/-!
Quires, units and cores as they read after a change, and what the errors, taps and answers of passes touch (R161, R162, R222,
R255).
-/
namespace Sys2Proof.Machine
set_option Elab.async false
section
variable {T : Touch} {s t : State}

/-! ### Reads after a change -/

theorem toList_getD_setIfInBounds {α : Type} {n : Nat} (v : Vector α n) (i j : Nat) (x d : α) :
    (v.setIfInBounds i x).toList.getD j d = if j = i ∧ i < n then x else v.toList.getD j d := by
  have hset : (v.setIfInBounds i x).toList = v.toList.set i x := by simp [Vector.toList, Vector.setIfInBounds]
  rw [hset, List.getD_eq_getElem?_getD, List.getD_eq_getElem?_getD, List.getElem?_set]
  by_cases h : i = j
  · subst h
    by_cases hn : i < n <;> simp [hn]
  · simp [h, Ne.symm h]

theorem State.quire_setQuire (s : State) (q r : Nat) (k : QuireSt) :
    (s.setQuire q k).quire r = if r = q ∧ q < 8 then k else s.quire r := toList_getD_setIfInBounds ..

theorem State.cls_setCls (s : State) (c d : Nat) (k : ClassSt) :
    (s.setCls c k).cls d = if d = c ∧ c < 8 then k else s.cls d := toList_getD_setIfInBounds ..

theorem State.core_setCore (s : State) (c d : Nat) (k : Core) :
    (s.setCore c k).core d = if d = c ∧ c < 8 then k else s.core d := toList_getD_setIfInBounds ..

theorem State.quire_congr (h : t.fabric.quires = s.fabric.quires) (q : Nat) : t.quire q = s.quire q := by
  rw [State.quire, h, State.quire]

theorem State.unitSt_congr (h : t.fabric.units = s.fabric.units) (n : Nat) : t.unitSt n = s.unitSt n := by
  rw [State.unitSt, h, State.unitSt]

theorem State.core_congr (h : t.cores = s.cores) (c : Nat) : t.core c = s.core c := by rw [State.core, h, State.core]

/-- A core with a task is one of the eight. -/
theorem State.core_lt {c : Nat} {r : TaskRef} (h : (s.core c).task = some r) : c < 8 := by
  by_contra hc
  have hout : s.core c = Core.fresh := by
    rw [State.core, List.getD_eq_default]
    simpa using Nat.le_of_not_lt hc
  rw [hout] at h
  cases h

/-- A unit put in the place of the first with its number is read there. -/
theorem find?_updateFirst {us : List UnitSt} {n : Nat} {u v : UnitSt} (h : us.find? (·.id == n) = some u) (hv : v.id = n) :
    (updateFirst (·.id == n) (fun _ => v) us).find? (·.id == n) = some v := by
  induction us with
  | nil => cases h
  | cons x xs ih =>
    by_cases hx : x.id = n
    · simp [updateFirst, hx, hv]
    · rw [List.find?_cons_of_neg (by simpa using hx)] at h
      simpa [updateFirst, hx] using ih h

theorem State.unitSt_setUnit {n : Nat} {u v : UnitSt} (h : s.unitSt n = some u) (hv : v.id = n) :
    (s.setUnit v).unitSt n = some v := by
  subst hv
  exact find?_updateFirst h rfl

theorem State.unitSt_id {n : Nat} {u : UnitSt} (h : s.unitSt n = some u) : u.id = n := by
  simpa using List.find?_some h

/-! ### Errors of the memory -/

/-- What an uncorrectable error reported touches (R255). -/
def Touch.memError : Touch := .or ⟨[], [.field R.KPR_ECCUNC_COUNT, .field R.KPR_EVT_UNC, .field R.IMP_ECCUNC_COUNT,
  .field R.IMP_ECCADR_ADDR, .field R.IMP_MEMEVT_UNC]⟩ .report

@[simp ↓] theorem within_memError {a m : Nat} (hT : T.covers .memError = true) :
    Within T s (memError t a m) ↔ Within T s t := within_op hT (by simp (disch := decide) [memError])

/-- The errors of a capture touch what one error does. -/
theorem tapErrors_within (s : State) (u : FabricUnit) : Within .memError s (tapErrors s u) :=
  .forEach (.refl _ s) _ fun _ _ _ h => (within_memError (by decide)).mpr h

/-- A capture that meets no poisoned word reports nothing. -/
theorem tapErrors_of_clean {u : FabricUnit} (h : (u.inTaps.flatMap tapWords).any s.poisoned = false) :
    tapErrors s u = s := by
  rw [tapErrors, List.filter_eq_nil_iff.mpr fun a ha => by simpa using List.any_eq_false.mp h a ha]
  rfl

/-! ### Writes to the image and an instruction's completion -/

/-- What a tap written to an image touches (R147). -/
def Touch.view : Touch := ⟨[.cycle], [.field R.CYC_EVT_XWRITE]⟩

@[simp ↓] theorem within_viewWrite {c n : Nat} {b : Writer} {w g : Bool} {v : Word} (hT : T.covers .view = true) :
    Within T s (viewWrite t c b w g n v) ↔ Within T s t := by
  refine within_op hT ?_
  unfold viewWrite
  split <;> simp (disch := decide)

theorem writeTaps_within (s : State) (u : FabricUnit) (v : UnitSt) (w : Writer) : Within .view s (writeTaps s u v w) :=
  .forEach (.refl _ s) _ fun _ _ _ h => (within_viewWrite (by decide)).mpr h

/-- What the completion of an instruction touches (R212). -/
def Touch.complete : Touch := .or ⟨[.cores], [.all R.ZC_RET_COUNT]⟩ .coreShow

@[simp ↓] theorem within_complete {c n : Nat} {k : Core} (hT : T.covers .complete = true) :
    Within T s (complete t c k n) ↔ Within T s t :=
  within_op hT (by simp (disch := decide) [complete, retired, ↓within_addAll R.ZC_RET_COUNT])

/-- An instruction that completes leaves its core past it. -/
theorem complete_core {c : Nat} (hc : c < 8) (s : State) (k : Core) (n : Nat) :
    (complete s c k n).core c = k.advance n := by
  have hshow : (complete s c k n).cores = (s.setCore c (k.advance n)).cores :=
    ((within_coreShow (T := .or ⟨[], [.all R.ZC_RET_COUNT]⟩ .coreShow) (by decide)).mpr
      ((within_addAll R.ZC_RET_COUNT (hT := by decide)).mpr (.refl _ _))).part .cores
  rw [State.core_congr hshow, State.core_setCore, if_pos ⟨rfl, hc⟩]

end
end Sys2Proof.Machine

/-!
The start and the end of a pass (R161, R162, R164, R165).
-/
namespace Sys2Proof.Machine
set_option Elab.async false
section
variable {s t : State}

/-! ### The start -/

/-- The first pass that waits starts with what it has captured (R161, R165). -/
theorem passStart_starts {q : Nat} {p : Pass} {rest : List Pass} {act st : List FabricUnit} {u : FabricUnit} {us : UnitSt}
    (hrun : passesRun s = true) (hdis : s.flag (R.FAB_QSTAT_DIS q) = false)
    (hq : s.quire q = ⟨none, none, p :: rest, act, st⟩) (hu : s.fabricUnit p.unit = some u)
    (hus : s.unitSt p.unit = some us) :
    passStart s q = (tapErrors s u).setQuire q ⟨some p, some (passResult u us (capture s u)), rest, act, st⟩ := by
  simp [passStart, hq, hrun, hdis, hu, hus]

theorem passStart_idle {q : Nat} (hrunning : (s.quire q).running = none) (hwaiting : (s.quire q).waiting = []) :
    passStart s q = s := by
  simp [passStart, hrunning, hwaiting]

theorem passesRun_of (hdev : s.cycling = true ∨ s.dev = .halt) (hdefer : s.flag R.SYS_STATE_DEFER = false)
    (hpf : s.power.pfStep ≤ 3) (hpll : s.flag R.CLK_STAT_STOPPED = false) : passesRun s = true := by
  simpa [passesRun, hdefer, hpf, hpll] using hdev

theorem fabricPassStart_starts (s : State) (q : Fin 8) (p : Pass) (rest : List Pass) (act st : List FabricUnit)
    (u : FabricUnit) (us : UnitSt) (hdev : s.cycling = true ∨ s.dev = .halt) (hdefer : s.flag R.SYS_STATE_DEFER = false)
    (hpf : s.power.pfStep ≤ 3) (hpll : s.flag R.CLK_STAT_STOPPED = false) (hdis : s.flag (R.FAB_QSTAT_DIS q) = false)
    (hq : s.quire q = ⟨none, none, p :: rest, act, st⟩) (hu : s.fabricUnit p.unit = some u)
    (hus : s.unitSt p.unit = some us) :
    Runs (.fabricPassStart q) s fun t => t.quire q = ⟨some p, some (passResult u us (capture s u)), rest, act, st⟩ ∧
      t.fabric.units = s.fabric.units ∧ ((u.inTaps.flatMap tapWords).any s.poisoned = false → t.regs = s.regs ∧
      t.records = s.records) ∧ t = { s with regs := t.regs, fabric := t.fabric, records := t.records } := by
  have herrors := tapErrors_within s u
  have hwithin : Within (.or .memError ⟨[.fabric], []⟩) s ((tapErrors s u).setQuire q
      ⟨some p, some (passResult u us (capture s u)), rest, act, st⟩) :=
    (within_setQuire (by decide)).mpr (herrors.mono (by decide))
  have hunits : (tapErrors s u).fabric.units = s.fabric.units := congrArg FabricSt.units (herrors.part .fabric)
  refine runs_of_answer_eq (congrArg s.answer
    (passStart_starts (passesRun_of hdev hdefer hpf hpll) hdis hq hu hus)) (hwithin.part .pending)
    ⟨?_, hunits, fun hclean => ?_, hwithin.eq_patch⟩
  · rw [State.quire_setQuire, if_pos ⟨rfl, q.isLt⟩]
  · rw [tapErrors_of_clean hclean]
    exact ⟨rfl, rfl⟩

theorem fabricPassStart_idle (s : State) (q : Fin 8) (hrunning : (s.quire q).running = none)
    (hwaiting : (s.quire q).waiting = []) : Runs (.fabricPassStart q) s fun t => t = s :=
  runs_of_answer_eq (congrArg s.answer (passStart_idle hrunning hwaiting)) rfl rfl

/-! ### The end -/

/-- What a pass writes at its end (R161, R162, R188): the unit's state, its output taps, PASSES and BUSY. -/
def passWritten (s : State) (q : Nat) (p : Pass) (u : FabricUnit) (old new : UnitSt) : State :=
  let v := passMerge u old new
  let s := s.setQuire q { s.quire q with running := none, next := none }
  let s := s.when (retainedChanged u old v) (·.raise R.RET_STAT_DIRTY)
  let s := writeTaps (s.setUnit v) u v (passWriter s p)
  (s.add (R.FAB_QPASS_PASSES q) 1).add (R.FAB_QBUSY_BUSY q) (passClocks s u)

/-- Whoever asked for a pass is answered (R163, R164). -/
def passAnswered (s : State) (p : Pass) : State :=
  match p.by' with
  | .cls => classPassOver s p.cls p.unit
  | .core c t posted => passAnswer s c t posted p.unit false
  | .ended .. => s

theorem passComplete_eq {q : Nat} {p : Pass} {u : FabricUnit} {old new : UnitSt} (hp : (s.quire q).running = some p)
    (hn : (s.quire q).next = some new) (hu : s.fabricUnit p.unit = some u) (hold : s.unitSt p.unit = some old) :
    passComplete s q = passAnswered (passWritten s q p u old new) p := by
  simp only [passComplete, hp, hn, hu, hold]
  rfl

/-- What a pass touches at its end, the answer apart. -/
def Touch.pass : Touch := .or ⟨[.fabric, .startAt], [.field R.RET_STAT_DIRTY, .upTo R.FAB_QPASS_PASSES 8,
  .upTo R.FAB_QBUSY_BUSY 8]⟩ .view

theorem passClocks_congr (h : t.get R.FAB_XSCRUB_RATE = s.get R.FAB_XSCRUB_RATE) (u : FabricUnit) :
    passClocks t u = passClocks s u := by
  rw [passClocks, h, passClocks]

/-- A tap leaves what a class has still to do. -/
theorem viewWrite_work (s : State) (c n : Nat) (b : Writer) (w g : Bool) (v : Word) (d : Nat) :
    ((viewWrite s c b w g n v).cls d).phase = (s.cls d).phase ∧
      ((viewWrite s c b w g n v).cls d).passesLeft = (s.cls d).passesLeft := by
  have hput {k : ClassSt} (hp : k.phase = (s.cls c).phase) (hl : k.passesLeft = (s.cls c).passesLeft) :
      ((s.setCls c k).cls d).phase = (s.cls d).phase ∧ ((s.setCls c k).cls d).passesLeft = (s.cls d).passesLeft := by
    rw [State.cls_setCls]
    split
    next h => exact h.1 ▸ ⟨hp, hl⟩
    next => exact ⟨rfl, rfl⟩
  unfold viewWrite
  split
  · split
    · dsimp only
      split
      · exact hput rfl rfl
      · exact hput rfl rfl
    · exact ⟨rfl, rfl⟩
  · exact ⟨rfl, rfl⟩

theorem writeTaps_work (s : State) (u : FabricUnit) (v : UnitSt) (w : Writer) (d : Nat) :
    ((writeTaps s u v w).cls d).phase = (s.cls d).phase ∧
      ((writeTaps s u v w).cls d).passesLeft = (s.cls d).passesLeft :=
  forEach_induction (P := fun x => (x.cls d).phase = (s.cls d).phase ∧ (x.cls d).passesLeft = (s.cls d).passesLeft)
    ⟨rfl, rfl⟩ fun _ _ _ h => ⟨(viewWrite_work ..).1.trans h.1, (viewWrite_work ..).2.trans h.2⟩

/-- What a pass leaves at its end, before it is answered. -/
structure PassWritten (s : State) (q : Nat) (p : Pass) (u : FabricUnit) (old new : UnitSt) (t : State) : Prop where
  within : Within .pass s t
  quire : t.quire q = { s.quire q with running := none, next := none }
  unit : t.unitSt p.unit = some (passMerge u old new)
  passes : t.get (R.FAB_QPASS_PASSES q) = (s.get (R.FAB_QPASS_PASSES q) + 1) % 2 ^ 36
  busy : t.get (R.FAB_QBUSY_BUSY q) = (s.get (R.FAB_QBUSY_BUSY q) + passClocks s u) % 2 ^ 36
  work : ∀ c, (t.cls c).phase = (s.cls c).phase ∧ (t.cls c).passesLeft = (s.cls c).passesLeft

theorem passWritten_written {p : Pass} {u : FabricUnit} {old new : UnitSt} (q : Fin 8) (hold : s.unitSt p.unit = some old)
    (hid : new.id = p.unit) : PassWritten s q p u old new (passWritten s q p u old new) := by
  let a := s.setQuire q { s.quire q with running := none, next := none }
  let b := a.when (retainedChanged u old (passMerge u old new)) (·.raise R.RET_STAT_DIRTY)
  let c := b.setUnit (passMerge u old new)
  let d := writeTaps c u (passMerge u old new) (passWriter b p)
  have hb : b.fabric = a.fabric := State.when_keeps State.fabric _ rfl
  have hbcycle : b.cycle = s.cycle := State.when_keeps State.cycle _ rfl
  have hc : Within (.or ⟨[.fabric], [.field R.RET_STAT_DIRTY]⟩ .view) s c := by simp (disch := decide) [a, b, c]
  have htaps : Within .view c d := writeTaps_within ..
  have hd : Within (.or ⟨[.fabric], [.field R.RET_STAT_DIRTY]⟩ .view) s d := hc.trans (htaps.mono (by decide))
  have hfabric : d.fabric = c.fabric := htaps.part .fabric
  have hclocks : passClocks d u = passClocks s u := passClocks_congr (hd.get _) u
  have hspares : ∀ q : Fin 8, (Touch.or ⟨[.fabric], [.field R.RET_STAT_DIRTY]⟩ .view).spares (R.FAB_QPASS_PASSES q) ∧
      (Touch.or ⟨[.fabric], [.field R.RET_STAT_DIRTY]⟩ .view).spares (R.FAB_QBUSY_BUSY q) := by decide
  have hne : (R.FAB_QPASS_PASSES q).addr ≠ (R.FAB_QBUSY_BUSY q).addr := by
    simp only [R.FAB_QPASS_PASSES, R.FAB_QBUSY_BUSY]
    omega
  change PassWritten s q p u old new ((d.add (R.FAB_QPASS_PASSES q) 1).add (R.FAB_QBUSY_BUSY q) (passClocks d u))
  refine ⟨?_, ?_, ?_, ?_, ?_, fun n => ?_⟩
  · rw [State.add, within_setUpTo R.FAB_QBUSY_BUSY q.isLt (hT := by decide), State.add,
      within_setUpTo R.FAB_QPASS_PASSES q.isLt (hT := by decide)]
    exact hd.mono (by decide)
  · have hset : b.fabric.quires = a.fabric.quires := congrArg FabricSt.quires hb
    have hquires : d.fabric.quires = a.fabric.quires := (congrArg FabricSt.quires hfabric).trans hset
    exact (State.quire_congr (t := d) hquires q).trans ((State.quire_setQuire s q q _).trans (if_pos ⟨rfl, q.isLt⟩))
  · refine (State.unitSt_congr (congrArg FabricSt.units hfabric) _).trans (State.unitSt_setUnit (u := old) ?_ hid)
    exact (State.unitSt_congr (congrArg FabricSt.units hb) _).trans hold
  · rw [State.add, State.get_set_addr _ _ _ _ hne, State.add,
      State.get_set_same _ (R.FAB_QPASS_PASSES q) _ (Nat.le_refl 36), hd.get _ (hspares q).1]
    rfl
  · rw [State.add, State.get_set_same _ (R.FAB_QBUSY_BUSY q) _ (Nat.le_refl 36), State.add, State.get_set_addr _ _ _ _ hne.symm,
      hd.get _ (hspares q).2, hclocks]
    rfl
  · have hcls : c.cls n = s.cls n := by rw [State.cls, State.cls, show c.cycle = s.cycle from hbcycle]
    have hwork := writeTaps_work c u (passMerge u old new) (passWriter b p) n
    rw [hcls] at hwork
    exact hwork

/-- A class-driven pass that is over is one less to wait for, where it was not the last of SOLVE (R163). -/
theorem classPassOver_eq {c unit : Nat} (h : (s.cls c).phase ≠ .solve ∧ (s.cls c).phase ≠ .late ∨
    (s.cls c).passesLeft.erase unit ≠ []) :
    classPassOver s c unit = s.setCls c { s.cls c with passesLeft := (s.cls c).passesLeft.erase unit } := by
  unfold classPassOver
  dsimp only
  refine if_neg ?_
  rcases h with ⟨hsolve, hlate⟩ | hleft
  · simp [hsolve, hlate]
  · simp [hleft]

theorem exec_fabricPassComplete {q : Fin 8} (hdev : s.cycling = true ∨ s.dev = .halt) :
    exec (.fabricPassComplete q) s = s.answer (passComplete s q) :=
  congrArg s.answer (if_pos (by simpa using hdev))

theorem fabricPassComplete_class (s : State) (q : Fin 8) (p : Pass) (new old : UnitSt) (rest : List Pass)
    (act st : List FabricUnit) (u : FabricUnit) (hdev : s.cycling = true ∨ s.dev = .halt)
    (hq : s.quire q = ⟨some p, some new, rest, act, st⟩) (hu : s.fabricUnit p.unit = some u)
    (hold : s.unitSt p.unit = some old) (hby : p.by' = .cls) (hwork : (s.cls p.cls).phase ≠ .solve ∧
      (s.cls p.cls).phase ≠ .late ∨ (s.cls p.cls).passesLeft.erase p.unit ≠ []) (hid : new.id = p.unit) :
    Runs (.fabricPassComplete q) s fun t => t.quire q = ⟨none, none, rest, act, st⟩ ∧
      t.unitSt p.unit = some (passMerge u old new) ∧
      t.get (R.FAB_QPASS_PASSES q) = (s.get (R.FAB_QPASS_PASSES q) + 1) % 2 ^ 36 ∧
      t.get (R.FAB_QBUSY_BUSY q) = (s.get (R.FAB_QBUSY_BUSY q) + passClocks s u) % 2 ^ 36 ∧ t.cores = s.cores ∧
      t.mem = s.mem ∧ t = { s with regs := t.regs, fabric := t.fabric, cycle := t.cycle } := by
  obtain ⟨hwithin, hquire, hunit, hpasses, hbusy, hkept⟩ := passWritten_written (u := u) q hold hid
  have hanswered : passAnswered (passWritten s q p u old new) p = (passWritten s q p u old new).setCls p.cls
      { (passWritten s q p u old new).cls p.cls with
        passesLeft := ((passWritten s q p u old new).cls p.cls).passesLeft.erase p.unit } := by
    obtain ⟨hphase, hleft⟩ := hkept p.cls
    rw [passAnswered, hby]
    exact classPassOver_eq (by rwa [hphase, hleft])
  have hover : Within .pass s (passAnswered (passWritten s q p u old new) p) := by
    rw [hanswered]
    exact (within_setCls (by decide)).mpr hwithin
  rw [hanswered] at hover
  refine runs_of_answer_eq ((exec_fabricPassComplete hdev).trans (congrArg s.answer
    ((passComplete_eq (by rw [hq]) (by rw [hq]) hu hold).trans hanswered))) (hover.part .pending) ⟨?_, hunit, hpasses, hbusy,
    hover.part .cores, hover.part .mem, hover.eq_patch⟩
  rw [hq] at hquire
  exact hquire

/-! ### The answer to a task -/

theorem coreRuns_congr {T : Touch} (h : Within T s t) (c : Nat) (htask : (t.core c).task = (s.core c).task)
    (hT : (!T.has .dev && !T.has .power && T.spares R.SYS_STATE_DEFER && T.spares R.CLK_STAT_STOPPED) = true := by decide) :
    coreRuns t c = coreRuns s c := by
  simp only [Bool.and_eq_true, Bool.not_eq_true'] at hT
  obtain ⟨⟨⟨hdev, hpower⟩, hdefer⟩, hpll⟩ := hT
  have hd : t.dev = s.dev := h.part .dev hdev
  have hp : t.power = s.power := h.part .power hpower
  rw [coreRuns, coreRuns, State.cycling, State.cycling, hd, hp, htask, h.flag _ hdefer, h.flag _ hpll]

/-- A task whose call has been answered goes on behind it (R222). -/
theorem coreSettle_called {c : Nat} (n : Nat) (hwait : (s.core c).wait = .called none) :
    coreSettle c (n + 1) s = complete s c { s.core c with wait := .none } 1 := by
  simp only [coreSettle, hwait]

/-- A core whose task's call has been answered. -/
def Core.called (k : Core) : Core := { k with wait := .called none }

/-- The answer to a task that waits for its call (R164). -/
theorem passAnswer_called {c unit : Nat} {r : TaskRef} (htask : (s.core c).task = some r)
    (hwait : (s.core c).wait = .fcall unit) : passAnswer s c r false unit false =
      if coreRuns (s.setCore c (s.core c).called) c then coreSettle c settleFuel (s.setCore c (s.core c).called)
      else s.setCore c (s.core c).called := by
  unfold passAnswer
  dsimp only
  rw [if_pos htask]
  simp only [hwait, Bool.false_eq_true, if_false, beq_self_eq_true, if_true]
  rfl

/-- A task that runs goes on behind a call that is answered (R222). -/
theorem passAnswer_completes {c unit : Nat} {r : TaskRef} (hrun : coreRuns s c = true)
    (htask : (s.core c).task = some r) (hwait : (s.core c).wait = .fcall unit) :
    passAnswer s c r false unit false =
      complete (s.setCore c (s.core c).called) c { s.core c with wait := .none } 1 := by
  have hcore : (s.setCore c (s.core c).called).core c = (s.core c).called := by
    rw [State.core_setCore, if_pos ⟨rfl, State.core_lt htask⟩]
  have hset : Within ⟨[.cores], []⟩ s (s.setCore c (s.core c).called) := (within_setCore (by decide)).mpr (.refl _ s)
  rw [passAnswer_called htask hwait, if_pos (by rw [coreRuns_congr hset c (by rw [hcore]; rfl), hrun]), settleFuel,
    coreSettle_called 40 (by rw [hcore]; rfl), hcore]
  rfl

theorem fabricPassComplete_called (s : State) (q : Fin 8) (p : Pass) (new old : UnitSt) (rest : List Pass)
    (act st : List FabricUnit) (u : FabricUnit) (k : Nat) (tk : TaskRef)
    (hq : s.quire q = ⟨some p, some new, rest, act, st⟩) (hu : s.fabricUnit p.unit = some u)
    (hold : s.unitSt p.unit = some old) (hby : p.by' = .core k tk false) (hrun : coreRuns s k = true)
    (htask : (s.core k).task = some tk) (hwait : (s.core k).wait = .fcall p.unit) (hid : new.id = p.unit) :
    Runs (.fabricPassComplete q) s fun t => t.unitSt p.unit = some (passMerge u old new) ∧
      t.get (R.FAB_QPASS_PASSES q) = (s.get (R.FAB_QPASS_PASSES q) + 1) % 2 ^ 36 ∧ (t.quire q).running = none ∧
      t.core k = { s.core k with wait := .none }.advance 1 ∧ t.mem = s.mem := by
  have hdev : s.cycling = true := by
    simp only [coreRuns, Bool.and_eq_true] at hrun
    exact hrun.1.1.1.1
  obtain ⟨hwithin, hquire, hunit, hpasses, -, -⟩ := passWritten_written (u := u) q hold hid
  have hcore : (passWritten s q p u old new).core k = s.core k := State.core_congr (hwithin.part .cores) k
  have hx := passAnswer_completes (s := passWritten s q p u old new) (unit := p.unit)
    (by rw [coreRuns_congr hwithin k (by rw [hcore]), hrun]) (hcore ▸ htask) (hcore ▸ hwait)
  have hanswered : passAnswered (passWritten s q p u old new) p =
      complete ((passWritten s q p u old new).setCore k (s.core k).called) k { s.core k with wait := .none } 1 := by
    rw [hcore] at hx
    rw [← hx, passAnswered, hby]
  have hend : Within .complete (passWritten s q p u old new) (passAnswered (passWritten s q p u old new) p) := by
    rw [hanswered]
    simp (disch := decide)
  have hfabric : (passAnswered (passWritten s q p u old new) p).fabric = (passWritten s q p u old new).fabric :=
    hend.part .fabric
  have hspares : ∀ q : Fin 8, Touch.complete.spares (R.FAB_QPASS_PASSES q) := by decide
  refine runs_of_answer_eq ((exec_fabricPassComplete (.inl hdev)).trans (congrArg s.answer
    (passComplete_eq (by rw [hq]) (by rw [hq]) hu hold))) ((hwithin.part .pending).trans (hend.part .pending))
    ⟨?_, ?_, ?_, ?_, (hwithin.part .mem).trans (hend.part .mem)⟩
  · rw [State.unitSt_congr (congrArg _ hfabric), hunit]
  · rw [hend.get _ (hspares q), hpasses]
  · rw [State.quire_congr (congrArg _ hfabric), hquire]
  · rw [hanswered, complete_core (State.core_lt htask)]

end
end Sys2Proof.Machine

/-!
The exchange of planes (R174): what reflex keeps of the fabric, and the planes of each quire after a switch.
-/
namespace Sys2Proof.Machine
set_option Elab.async false

/-! ### Reflex keeps the units and the planes -/

/-- The units and the quires of the fabric are as they were: what the device drives on the pins may differ. -/
def PlanesKept (s t : State) : Prop := t.fabric.units = s.fabric.units ∧ t.fabric.quires = s.fabric.quires

section
variable {s t : State}

theorem PlanesKept.refl (s : State) : PlanesKept s s := ⟨rfl, rfl⟩

theorem PlanesKept.of_fabric {u : State} (h : PlanesKept s t) (k : u.fabric = t.fabric) : PlanesKept s u := by
  unfold PlanesKept
  rwa [k]

theorem PlanesKept.forEach {α : Type} {f : α → State → State} (h : PlanesKept s t) (xs : List α)
    (hf : ∀ x u, PlanesKept s u → PlanesKept s (f x u)) : PlanesKept s (State.forEach xs f t) :=
  forEach_induction h fun x _ u hu => hf x u hu

theorem PlanesKept.pinLevel (h : PlanesKept s t) (i : Nat) (l : Bool) : PlanesKept s (pinLevel t i l) := by
  have htrigger : Within .trigger (t.putBit R.FAB_PINLVL_LEVEL i l)
      (triggerSource (t.putBit R.FAB_PINLVL_LEVEL i l) (.pin i l)) := (within_triggerSource (by decide)).mpr (.refl _ _)
  unfold Machine.pinLevel
  split
  · exact h
  · exact h.of_fabric (htrigger.part .fabric)

theorem PlanesKept.pinDrive (h : PlanesKept s t) (i : Nat) (l : Bool) : PlanesKept s (pinDrive t i l) := by
  have hdrive : PlanesKept s { t with fabric := { t.fabric with
      drive := withBit t.fabric.drive i true, level := withBit t.fabric.level i l } } := h
  unfold Machine.pinDrive
  dsimp only
  split
  · exact hdrive
  · exact hdrive.pinLevel i l

theorem PlanesKept.tripUpdate (h : PlanesKept s t) (r : ReflexUnit) (i : Nat) : PlanesKept s (tripUpdate t r i) := by
  have htrip : Within ⟨[], Touch.reflex.bits⟩ t (Machine.tripUpdate t r i) := by
    simp (disch := decide) [Machine.tripUpdate, tripSet]
  exact h.of_fabric (htrip.part .fabric)

theorem PlanesKept.reflexPins (h : PlanesKept s t) (r : ReflexUnit) : PlanesKept s (reflexPins t r) := by
  refine h.forEach _ fun i u hu => ?_
  split
  · exact hu
  · split
    · exact hu
    · split
      · exact hu
      · exact hu.pinDrive _ _

theorem PlanesKept.reflexStop (h : PlanesKept s t) (q : Nat) : PlanesKept s (reflexStop t q) :=
  h.forEach _ fun _ _ hu => hu.forEach _ fun _ _ hv => hv

theorem PlanesKept.reflexOnce (h : PlanesKept s t) (q : Nat) : PlanesKept s (reflexOnce t q) := by
  have hshown : PlanesKept s ((t.setFlag (R.FAB_QSTAT_REFLEX q) (reflexRuns t q)).putBit R.FAB_STAT_REFLEX q
      (reflexRuns t q)) := h
  unfold Machine.reflexOnce
  dsimp only
  split
  · exact hshown.forEach _ fun r _ hu => .reflexPins (hu.forEach _ fun i _ hv => hv.tripUpdate r i) r
  · exact hshown.reflexStop q

theorem PlanesKept.reflexSettle (h : PlanesKept s t) : PlanesKept s (reflexSettle t) := by
  have rounds (n : Nat) : PlanesKept s
      (Nat.repeat (fun s => State.forEach (List.range 8) (fun q s => Machine.reflexOnce s q) s) n t) := by
    induction n with
    | zero => exact h
    | succ n ih => exact ih.forEach _ fun q _ hu => hu.reflexOnce q
  exact rounds 4

theorem PlanesKept.reflexSwitch (h : PlanesKept s t) (old : State) : PlanesKept s (reflexSwitch old t) := by
  refine .reflexSettle (.forEach (.forEach h _ fun i u hu => ?_) _ fun _ _ hu => hu)
  dsimp only
  split
  · exact hu
  · exact hu

/-- What reflex touches after a change of planes. -/
theorem reflexSwitch_within (old s : State) : Within (.or .reflex .trigger) s (reflexSwitch old s) := by
  refine .reflexSettle (by decide) (.of_covers (by decide) _) (.forEach (.forEach (.refl _ s) _ fun i _ u hu => ?_) _
    fun _ _ _ hu => (within_pinRelease (by decide)).mpr hu)
  exact .ite (fun _ => hu) fun _ => (within_putBit (by decide)).mpr hu

/-! ### The exchange -/

/-- The planes of a quire exchanged. -/
def QuireSt.exchanged (k : QuireSt) : QuireSt := { k with active := k.staged, staged := k.active }

/-- One quire's planes exchanged, with PLANE. -/
def exchangeOne (q : Nat) (s : State) : State :=
  (s.setQuire q (s.quire q).exchanged).set (R.FAB_QSTAT_PLANE q) (1 - s.get (R.FAB_QSTAT_PLANE q))

theorem exchangeOne_quire (s : State) {q : Nat} (hq : q < 8) (r : Nat) : (exchangeOne q s).quire r =
    if r = q then (s.quire q).exchanged else s.quire r := by
  refine (State.quire_setQuire s q r _).trans ?_
  simp [hq]

theorem exchangeOne_plane (s : State) (q r : Nat) : (exchangeOne q s).get (R.FAB_QSTAT_PLANE r) =
    if r = q then 1 - s.get (R.FAB_QSTAT_PLANE r) else s.get (R.FAB_QSTAT_PLANE r) := by
  split
  next h =>
    subst h
    refine (State.get_set_same _ (R.FAB_QSTAT_PLANE r) _ (Nat.le_succ 35)).trans (Nat.mod_eq_of_lt ?_)
    change _ < 2
    omega
  next h =>
    refine State.get_set_addr _ _ (R.FAB_QSTAT_PLANE r) _ ?_
    simp only [R.FAB_QSTAT_PLANE]
    omega

/-- The planes of a list of quires exchanged. -/
theorem exchange_reads {qs : List Nat} (hlt : ∀ q ∈ qs, q < 8) (hnodup : qs.Nodup) (s : State) (r : Nat) :
    (State.forEach qs exchangeOne s).quire r = (if r ∈ qs then (s.quire r).exchanged else s.quire r) ∧
    (State.forEach qs exchangeOne s).get (R.FAB_QSTAT_PLANE r) =
      if r ∈ qs then 1 - s.get (R.FAB_QSTAT_PLANE r) else s.get (R.FAB_QSTAT_PLANE r) := by
  induction qs generalizing s with
  | nil => exact ⟨rfl, rfl⟩
  | cons q qs ih =>
    obtain ⟨hq, hqs⟩ := List.nodup_cons.mp hnodup
    obtain ⟨hquire, hplane⟩ := ih (fun x hx => hlt x (List.mem_cons_of_mem _ hx)) hqs (exchangeOne q s)
    rw [exchangeOne_quire s (hlt q List.mem_cons_self)] at hquire
    rw [exchangeOne_plane] at hplane
    rw [State.forEach, List.foldl_cons]
    by_cases h : r = q
    · subst h
      simp only [hq, if_true, if_false, List.mem_cons, true_or] at hquire hplane ⊢
      exact ⟨hquire, hplane⟩
    · simp only [h, if_false, List.mem_cons, false_or] at hquire hplane ⊢
      exact ⟨hquire, hplane⟩

/-- What the show of the quires touches. -/
def Touch.quireShow : Touch := ⟨[], [.upTo R.FAB_QSTAT_UNITS 8, .upTo R.FAB_QSTAT_LEAVES 8, .upTo R.FAB_QCELL_TIMERS 8,
  .upTo R.FAB_QCELL_COUNTERS 8, .upTo R.FAB_QMAX_LEVELS 8, .field R.FAB_STAT_USED]⟩

theorem quireShow_within (s : State) : Within .quireShow s (quireShow s) :=
  .forEach (.refl _ s) _ fun q hq u hu => by
    have hq := List.mem_range.mp hq
    simpa (disch := decide) [↓within_setUpTo R.FAB_QSTAT_UNITS hq, ↓within_setUpTo R.FAB_QSTAT_LEAVES hq,
      ↓within_setUpTo R.FAB_QCELL_TIMERS hq, ↓within_setUpTo R.FAB_QCELL_COUNTERS hq,
      ↓within_setUpTo R.FAB_QMAX_LEVELS hq] using hu

theorem planeExchange_eq (s : State) (qs : List Nat) : planeExchange s qs = quireShow (State.forEach qs exchangeOne s) := rfl

/-! ### The switch -/

/-- The quires that a switch names. -/
def namedQuires (mask : Nat) : List Nat := (List.range 8).filter mask.testBit

theorem mem_namedQuires {mask q : Nat} : q ∈ namedQuires mask ↔ q < 8 ∧ mask.testBit q = true := by
  simp [namedQuires]

theorem namedQuires_nonempty {m : BitVec 8} (h : m ≠ 0) : namedQuires m.toNat ≠ [] := by
  intro hnil
  refine h (BitVec.eq_of_getLsbD_eq fun i hi => ?_)
  have hno : i ∉ namedQuires m.toNat := by simp [hnil]
  rw [mem_namedQuires, not_and, Bool.not_eq_true] at hno
  simpa [BitVec.getLsbD] using hno hi

/-- A switch in a gap, with no pass and a staged plane in every quire named, exchanges the planes (R174). -/
theorem planeSwitch_exchanges {m : BitVec 8} (hgap : inGap s = true) (hidle : passesIdle s = true) (hm : m ≠ 0)
    (hstaged : (namedQuires m.toNat).all (fun q => s.flag (R.FAB_QSTAT_STAGED q)) = true) :
    planeSwitch s m.toNat = reflexSwitch s (planeExchange s (namedQuires m.toNat)) := by
  have hne : (namedQuires m.toNat).isEmpty = false := by simpa using namedQuires_nonempty hm
  exact if_pos (by rw [← namedQuires, hgap, hidle, hne, hstaged]; rfl)

/-- A switch that names a quire without a staged plane does nothing (R174). -/
theorem planeSwitch_refused {m : BitVec 8} (h : (namedQuires m.toNat).any (fun q => !s.flag (R.FAB_QSTAT_STAGED q)) = true) :
    planeSwitch s m.toNat = s := by
  refine if_neg ?_
  have hall : (namedQuires m.toNat).all (fun q => s.flag (R.FAB_QSTAT_STAGED q)) = false := by
    simpa [List.all_eq_false] using h
  rw [← namedQuires, hall, Bool.and_false]
  exact Bool.false_ne_true

/-- The planes after a switch, and what the switch leaves. -/
theorem reflexSwitch_exchanges (s : State) (m : BitVec 8) {t : State}
    (ht : t = reflexSwitch s (planeExchange s (namedQuires m.toNat))) :
    (∀ q < 8, t.get (R.FAB_QSTAT_PLANE q) = if m.toNat.testBit q then 1 - s.get (R.FAB_QSTAT_PLANE q)
      else s.get (R.FAB_QSTAT_PLANE q)) ∧
    (∀ q < 8, t.quire q = if m.toNat.testBit q then (s.quire q).exchanged else s.quire q) ∧
    t.fabric.units = s.fabric.units ∧ t.dev = s.dev ∧ t.pending = s.pending := by
  let x := State.forEach (namedQuires m.toNat) exchangeOne s
  have hshow : Within .quireShow x (planeExchange s (namedQuires m.toNat)) := quireShow_within x
  have hswitch := reflexSwitch_within s (planeExchange s (namedQuires m.toNat))
  obtain ⟨hunits, hquires⟩ := (PlanesKept.refl (planeExchange s (namedQuires m.toNat))).reflexSwitch s
  rw [← ht] at hswitch hunits hquires
  obtain ⟨hxunits, hdev, hpending⟩ : x.fabric.units = s.fabric.units ∧ x.dev = s.dev ∧ x.pending = s.pending :=
    forEach_induction (P := fun u => u.fabric.units = s.fabric.units ∧ u.dev = s.dev ∧ u.pending = s.pending)
      ⟨rfl, rfl, rfl⟩ fun _ _ _ h => h
  have hread (q : Nat) := exchange_reads (fun r hr => (mem_namedQuires.mp hr).1) (List.nodup_range.filter _) s (r := q)
    (qs := namedQuires m.toNat)
  have hfabric : (planeExchange s (namedQuires m.toNat)).fabric = x.fabric := hshow.part .fabric
  have hspares : ∀ q < 8, (Touch.or .reflex .trigger).spares (R.FAB_QSTAT_PLANE q) = true ∧
      Touch.quireShow.spares (R.FAB_QSTAT_PLANE q) = true := by decide
  refine ⟨fun q hq => ?_, fun q hq => ?_, ?_, ?_, ?_⟩
  · obtain ⟨hsw, hsh⟩ := hspares q hq
    rw [hswitch.get _ hsw, hshow.get _ hsh, (hread q).2]
    simp [mem_namedQuires, hq]
  · rw [State.quire_congr hquires, State.quire_congr (congrArg _ hfabric), (hread q).1]
    simp [mem_namedQuires, hq]
  · rw [hunits, hfabric, hxunits]
  · exact Eq.trans ((hshow.part .dev).trans (hswitch.part .dev)) hdev
  · exact Eq.trans ((hshow.part .pending).trans (hswitch.part .pending)) hpending

theorem planeSwitch_runs (s : State) (m : BitVec 8) (hdev : s.cycling = true) (hgap : inGap s = true)
    (hidle : passesIdle s = true) (hm : m ≠ 0)
    (hstaged : ((List.range 8).filter m.toNat.testBit).all (fun q => s.flag (R.FAB_QSTAT_STAGED q)) = true) :
    Runs (.planeSwitch m) s fun t => (((List.range 8).all fun q => t.get (R.FAB_QSTAT_PLANE q) == (if m.toNat.testBit
      q then 1 - s.get (R.FAB_QSTAT_PLANE q) else s.get (R.FAB_QSTAT_PLANE q))) = true) ∧
    (((List.range 8).all fun q => t.quire q == (if m.toNat.testBit q then
      { s.quire q with active := (s.quire q).staged, staged := (s.quire q).active }
      else s.quire q)) = true) ∧
    t.fabric.units = s.fabric.units ∧ t.dev = s.dev := by
  obtain ⟨hplanes, hquires, hunits, hd, hp⟩ := reflexSwitch_exchanges s m rfl
  refine runs_of_answer_eq (congrArg s.answer ((if_pos hdev).trans (planeSwitch_exchanges hgap hidle hm hstaged))) hp
    ⟨?_, ?_, hunits, hd⟩
  · exact List.all_eq_true.mpr fun q hq => beq_iff_eq.mpr (hplanes q (List.mem_range.mp hq))
  · exact List.all_eq_true.mpr fun q hq => beq_iff_eq.mpr (hquires q (List.mem_range.mp hq))

theorem planeSwitch_refused_runs (s : State) (m : BitVec 8) (hdev : s.cycling = true)
    (hstaged : ((List.range 8).filter m.toNat.testBit).any (fun q => !s.flag (R.FAB_QSTAT_STAGED q)) = true) :
    Runs (.planeSwitch m) s fun t => t = s :=
  runs_of_answer_eq (congrArg s.answer ((if_pos hdev).trans (planeSwitch_refused hstaged))) rfl rfl

end
end Sys2Proof.Machine

/-!
The fabric's ports (R172, R186): a preset written reaches its cell and FAB_CVAL, a probe shows in FAB_PVAL.
-/
namespace Sys2Proof.Machine
set_option Elab.async false

/-! ### Lists changed at a place -/

theorem updateAt_eq_modify {α : Type} (f : α → α) (i : Nat) (l : List α) : updateAt f i l = l.modify i f := by
  induction l generalizing i with
  | nil => cases i <;> rfl
  | cons x xs ih =>
    cases i with
    | zero => rfl
    | succ i => simp [updateAt, ih]

/-- A part that the change sets to a value. -/
theorem map_updateAt_set {α β : Type} {f : α → α} {g : α → β} {c : β} (h : ∀ x, g (f x) = c) (i : Nat) (l : List α) :
    (updateAt f i l).map g = (l.map g).set i c := by
  induction l generalizing i with
  | nil => cases i <;> rfl
  | cons x xs ih =>
    cases i with
    | zero => simp [updateAt, h]
    | succ i => simp [updateAt, ih]

/-- A part that the change keeps. -/
theorem map_updateAt_kept {α β : Type} {f : α → α} {g : α → β} (h : ∀ x, g (f x) = g x) (i : Nat) (l : List α) :
    (updateAt f i l).map g = l.map g := by
  induction l generalizing i with
  | nil => cases i <;> rfl
  | cons x xs ih =>
    cases i with
    | zero => simp [updateAt, h]
    | succ i => simp [updateAt, ih]

theorem getElem?_updateAt {α : Type} {f : α → α} {i : Nat} {l : List α} (h : i < l.length) :
    (updateAt f i l)[i]? = some (f l[i]) := by
  rw [updateAt_eq_modify, List.getElem?_modify_eq, List.getElem?_eq_getElem h]
  rfl

section
variable {s t : State}

/-! ### What a port's selection names -/

/-- The cells of a unit of a kind that a port selects (R186). -/
def UnitSt.cells (u : UnitSt) (kind : Nat) : Nat :=
  match kind with
  | 0 => u.timers.length
  | 1 => u.counters.length
  | _ => u.leaves.length

theorem portCell_eq_some {kind n i : Nat} {u : UnitSt} :
    portCell s kind n i = some u ↔ s.unitSt n = some u ∧ i < u.cells kind := by
  unfold portCell
  cases hv : s.unitSt n with
  | none => simp
  | some v =>
    change (if i < v.cells kind then some v else none) = some u ↔ _
    constructor
    · intro h
      split at h
      next hi =>
        cases h
        exact ⟨rfl, hi⟩
      next => cases h
    · rintro ⟨⟨⟩, hi⟩
      exact if_pos hi

theorem portCell_congr (h : t.fabric.units = s.fabric.units) (kind n i : Nat) : portCell t kind n i = portCell s kind n i := by
  rw [portCell, portCell, State.unitSt_congr h]

/-- A cell still there once its unit has been replaced. -/
theorem portCell_setUnit {kind n i : Nat} {u v : UnitSt} (h : portCell s kind n i = some u) (hid : v.id = n)
    (hcells : v.cells kind = u.cells kind) : portCell (s.setUnit v) kind n i = some v := by
  obtain ⟨hu, hi⟩ := portCell_eq_some.mp h
  exact portCell_eq_some.mpr ⟨State.unitSt_setUnit hu hid, hcells ▸ hi⟩

theorem portShow_preset {p : Nat} {w : Word} (h : presetValue s p = some w) :
    portShow s p false = s.set (R.FAB_CVAL_VALUE p) w.toNat := by
  simp [portShow, h]

theorem portShow_noPreset {p : Nat} (h : presetValue s p = none) :
    portShow s p false = (s.set (R.FAB_CVAL_VALUE p) 0).raise R.FAB_EVT_SELERR := by
  simp [portShow, h]

/-! ### A use by the port's master -/

@[simp] theorem State.fabric_usedBy (s : State) (m : Nat) : (s.usedBy m).fabric = s.fabric := by
  obtain ⟨w, h⟩ := s.usedBy_eq m
  rw [h]

/-- What a command at a port touches: the fabric's registers and state, and the use of the core PLL. -/
theorem portFrame {p : Nat} (h : t = { s.usedBy p with regs := t.regs, fabric := t.fabric }) :
    t = { s with regs := t.regs, fabric := t.fabric, power := t.power } := by
  obtain ⟨w, hu⟩ := s.usedBy_eq p
  obtain ⟨ρ, φ, rfl⟩ : ∃ ρ φ, t = { s.usedBy p with regs := ρ, fabric := φ } := ⟨_, _, h⟩
  rw [hu]

/-- A field of a whole register, set to a word. -/
theorem State.reg_set_word (s : State) {f : Fld} (v : Word) (hlo : f.lo = 0) (hwidth : f.width = 36) :
    (s.set f v.toNat).reg f.addr = v := by
  refine BitVec.eq_of_getLsbD_eq fun j hj => ?_
  rw [State.reg_set_getLsbD _ _ _ _ _ (by omega), if_pos ⟨rfl, by omega, by omega⟩, hlo]
  rfl

/-! ### Presets -/

/-- A unit with the preset of a timer cell written (R172). -/
def UnitSt.withTimer (u : UnitSt) (i : Nat) (v : Word) : UnitSt :=
  { u with timers := updateAt (fun t : TimerSt => { t with pt := bitsOf v 0 32 }) i u.timers }

/-- A unit with the preset of a counter cell written (R172). -/
def UnitSt.withCounter (u : UnitSt) (i : Nat) (v : Word) : UnitSt :=
  { u with counters := updateAt (fun c : CounterSt => { c with pv := v.toInt }) i u.counters }

theorem UnitSt.withTimer_id (u : UnitSt) (i : Nat) (v : Word) : (u.withTimer i v).id = u.id := rfl

theorem UnitSt.withCounter_id (u : UnitSt) (i : Nat) (v : Word) : (u.withCounter i v).id = u.id := rfl

theorem UnitSt.withTimer_cells (u : UnitSt) (i : Nat) (v : Word) : (u.withTimer i v).cells 0 = u.cells 0 := by
  simp [UnitSt.withTimer, UnitSt.cells, updateAt_eq_modify]

theorem UnitSt.withCounter_cells (u : UnitSt) (i : Nat) (v : Word) : (u.withCounter i v).cells 1 = u.cells 1 := by
  simp [UnitSt.withCounter, UnitSt.cells, updateAt_eq_modify]

theorem UnitSt.withTimer_pt (u : UnitSt) (i : Nat) (v : Word) :
    (u.withTimer i v).timers.map (·.pt) = (u.timers.map (·.pt)).set i (bitsOf v 0 32) := map_updateAt_set (by intro; rfl) ..

theorem UnitSt.withTimer_et (u : UnitSt) (i : Nat) (v : Word) :
    (u.withTimer i v).timers.map (·.et) = u.timers.map (·.et) := map_updateAt_kept (by intro; rfl) ..

theorem UnitSt.withCounter_pv (u : UnitSt) (i : Nat) (v : Word) :
    (u.withCounter i v).counters.map (·.pv) = (u.counters.map (·.pv)).set i v.toInt := map_updateAt_set (by intro; rfl) ..

theorem UnitSt.withCounter_cv (u : UnitSt) (i : Nat) (v : Word) :
    (u.withCounter i v).counters.map (·.cv) = u.counters.map (·.cv) := map_updateAt_kept (by intro; rfl) ..

theorem presetValue_timer {p : Nat} {u : UnitSt} (hkind : s.get (R.FAB_CSEL_KIND p) = 0)
    (hcell : portCell s 0 (s.get (R.FAB_CSEL_UNIT p)) (s.get (R.FAB_CSEL_INDEX p)) = some u) :
    presetValue s p = (u.timers[s.get (R.FAB_CSEL_INDEX p)]?).map fun t => BitVec.ofNat 36 t.pt := by
  rw [presetValue, hkind, hcell]
  rfl

theorem presetValue_counter {p : Nat} {u : UnitSt} (hkind : s.get (R.FAB_CSEL_KIND p) = 1)
    (hcell : portCell s 1 (s.get (R.FAB_CSEL_UNIT p)) (s.get (R.FAB_CSEL_INDEX p)) = some u) :
    presetValue s p = (u.counters[s.get (R.FAB_CSEL_INDEX p)]?).map fun c => wordOfInt c.pv := by
  rw [presetValue, hkind, hcell]
  rfl

/-- A timer's preset written through a port is what FAB_CVAL shows. -/
theorem presetWrite_timer {p : Nat} {u : UnitSt} (v : Word)
    (hcell : portCell s (s.get (R.FAB_CSEL_KIND p)) (s.get (R.FAB_CSEL_UNIT p)) (s.get (R.FAB_CSEL_INDEX p)) = some u)
    (hkind : s.get (R.FAB_CSEL_KIND p) = 0) :
    presetWrite s p v = (s.setUnit (u.withTimer (s.get (R.FAB_CSEL_INDEX p)) v)).set (R.FAB_CVAL_VALUE p)
      (BitVec.ofNat 36 (bitsOf v 0 32)).toNat := by
  rw [hkind] at hcell
  obtain ⟨hu, hi⟩ := portCell_eq_some.mp hcell
  have hput := portCell_setUnit (v := u.withTimer (s.get (R.FAB_CSEL_INDEX p)) v) hcell
    ((u.withTimer_id ..).trans (State.unitSt_id hu)) (u.withTimer_cells ..)
  have hshow : presetValue (s.setUnit (u.withTimer (s.get (R.FAB_CSEL_INDEX p)) v)) p =
      some (BitVec.ofNat 36 (bitsOf v 0 32)) := by
    rw [presetValue_timer (s := s.setUnit _) hkind hput, UnitSt.withTimer]
    exact congrArg _ (getElem?_updateAt hi)
  rw [← portShow_preset hshow]
  simp only [presetWrite, hkind, hcell, if_true]
  rfl

/-- A counter's preset written through a port is what FAB_CVAL shows. -/
theorem presetWrite_counter {p : Nat} {u : UnitSt} (v : Word)
    (hcell : portCell s (s.get (R.FAB_CSEL_KIND p)) (s.get (R.FAB_CSEL_UNIT p)) (s.get (R.FAB_CSEL_INDEX p)) = some u)
    (hkind : s.get (R.FAB_CSEL_KIND p) = 1) : presetWrite s p v =
      (s.setUnit (u.withCounter (s.get (R.FAB_CSEL_INDEX p)) v)).set (R.FAB_CVAL_VALUE p) v.toNat := by
  rw [hkind] at hcell
  obtain ⟨hu, hi⟩ := portCell_eq_some.mp hcell
  have hput := portCell_setUnit (v := u.withCounter (s.get (R.FAB_CSEL_INDEX p)) v) hcell
    ((u.withCounter_id ..).trans (State.unitSt_id hu)) (u.withCounter_cells ..)
  have hshow : presetValue (s.setUnit (u.withCounter (s.get (R.FAB_CSEL_INDEX p)) v)) p = some v := by
    rw [presetValue_counter (s := s.setUnit _) hkind hput, UnitSt.withCounter]
    exact (congrArg _ (getElem?_updateAt hi)).trans (congrArg some BitVec.ofInt_toInt)
  rw [← portShow_preset hshow]
  simp only [presetWrite, hkind, hcell]
  rfl

/-- A selection of nothing reads 0 and sets SELERR. -/
theorem presetWrite_nothing {p : Nat} (v : Word)
    (hcell : portCell s (s.get (R.FAB_CSEL_KIND p)) (s.get (R.FAB_CSEL_UNIT p)) (s.get (R.FAB_CSEL_INDEX p)) = none) :
    presetWrite s p v = (s.set (R.FAB_CVAL_VALUE p) 0).raise R.FAB_EVT_SELERR := by
  rw [← portShow_noPreset (by rw [presetValue, hcell]; rfl)]
  simp only [presetWrite, hcell]

/-- The unit whose cell a port has written. -/
theorem unitSt_presetWritten {p kind i n : Nat} {u v : UnitSt} {f : Fld} {x : Nat} (hid : u.id = n) (hv : v.id = u.id)
    (hcell : portCell s kind n i = some u) : (((s.usedBy p).setUnit v).set f x).unitSt u.id = some v := by
  subst hid
  have hu : (s.usedBy p).unitSt u.id = some u :=
    (State.unitSt_congr (congrArg _ (s.fabric_usedBy p)) _).trans (portCell_eq_some.mp hcell).1
  exact State.unitSt_setUnit hu hv

theorem portCell_usedBy (s : State) (m kind n i : Nat) : portCell (s.usedBy m) kind n i = portCell s kind n i :=
  portCell_congr (congrArg _ (s.fabric_usedBy m)) ..

theorem presetWrite_timer_runs (s : State) (p : Port) (v : Word) (us : UnitSt) (hpow : s.powered = true)
    (hcell : portCell s (s.get (R.FAB_CSEL_KIND p)) (s.get (R.FAB_CSEL_UNIT p)) (s.get (R.FAB_CSEL_INDEX p)) = some us)
    (hkind : s.get (R.FAB_CSEL_KIND p) = 0) (hid : us.id = s.get (R.FAB_CSEL_UNIT p)) :
    Runs (.presetWrite p v) s fun t => ((t.unitSt us.id).map (fun x => x.timers.map (·.pt)) = some ((us.timers.map
      (·.pt)).set (s.get (R.FAB_CSEL_INDEX p)) (bitsOf v 0 32))) ∧
    ((t.unitSt us.id).map (fun x => x.timers.map (·.et)) = some (us.timers.map (·.et))) ∧
    t.get (R.FAB_CVAL_VALUE p) = bitsOf v 0 32 ∧ t = { s with regs := t.regs, fabric := t.fabric, power := t.power } ∧
    (∀ a, a ≠ (R.FAB_CVAL_VALUE p).addr → t.reg a = s.reg a) := by
  have hwrite := presetWrite_timer (s := s.usedBy p) (p := p) v
    (by simpa only [State.get_usedBy, portCell_usedBy] using hcell) ((s.get_usedBy ..).trans hkind)
  rw [State.get_usedBy] at hwrite
  have hunit {f : Fld} {x : Nat} := unitSt_presetWritten (p := p) (f := f) (x := x) hid
    (us.withTimer_id (s.get (R.FAB_CSEL_INDEX p)) v) hcell
  have hvalue : bitsOf v 0 32 < 2 ^ 32 := BitVec.isLt _
  refine runs_of_serve_eq (f := fun s => presetWrite s p v) rfl hpow (by rw [hwrite]; exact s.pending_usedBy p) ?_
  rw [hwrite]
  refine ⟨(congrArg _ hunit).trans (congrArg some (us.withTimer_pt ..)),
    (congrArg _ hunit).trans (congrArg some (us.withTimer_et ..)), ?_, portFrame rfl,
    fun a ha => (State.reg_set_other _ _ _ ha).trans (s.reg_usedBy p a)⟩
  rw [State.get_set_same _ (R.FAB_CVAL_VALUE p) _ (Nat.le_refl 36), BitVec.toNat_ofNat]
  simp only [R.FAB_CVAL_VALUE]
  omega

theorem presetWrite_counter_runs (s : State) (p : Port) (v : Word) (us : UnitSt) (hpow : s.powered = true)
    (hcell : portCell s (s.get (R.FAB_CSEL_KIND p)) (s.get (R.FAB_CSEL_UNIT p)) (s.get (R.FAB_CSEL_INDEX p)) = some us)
    (hkind : s.get (R.FAB_CSEL_KIND p) = 1) (hid : us.id = s.get (R.FAB_CSEL_UNIT p)) :
    Runs (.presetWrite p v) s fun t => ((t.unitSt us.id).map (fun x => x.counters.map (·.pv)) = some ((us.counters.map
      (·.pv)).set (s.get (R.FAB_CSEL_INDEX p)) v.toInt)) ∧
    ((t.unitSt us.id).map (fun x => x.counters.map (·.cv)) = some (us.counters.map (·.cv))) ∧
    t.reg (R.FAB_CVAL_VALUE p).addr = v ∧ t = { s with regs := t.regs, fabric := t.fabric, power := t.power } ∧ (∀ a,
    a ≠ (R.FAB_CVAL_VALUE p).addr → t.reg a = s.reg a) := by
  have hwrite := presetWrite_counter (s := s.usedBy p) (p := p) v
    (by simpa only [State.get_usedBy, portCell_usedBy] using hcell) ((s.get_usedBy ..).trans hkind)
  rw [State.get_usedBy] at hwrite
  have hunit {f : Fld} {x : Nat} := unitSt_presetWritten (p := p) (f := f) (x := x) hid
    (us.withCounter_id (s.get (R.FAB_CSEL_INDEX p)) v) hcell
  refine runs_of_serve_eq (f := fun s => presetWrite s p v) rfl hpow (by rw [hwrite]; exact s.pending_usedBy p) ?_
  rw [hwrite]
  exact ⟨(congrArg _ hunit).trans (congrArg some (us.withCounter_pv ..)),
    (congrArg _ hunit).trans (congrArg some (us.withCounter_cv ..)), State.reg_set_word _ v rfl rfl, portFrame rfl,
    fun a ha => (State.reg_set_other _ _ _ ha).trans (s.reg_usedBy p a)⟩

theorem presetWrite_nothing_runs (s : State) (p : Port) (v : Word) (hpow : s.powered = true)
    (hcell : portCell s (s.get (R.FAB_CSEL_KIND p)) (s.get (R.FAB_CSEL_UNIT p)) (s.get (R.FAB_CSEL_INDEX p)) = none) :
    Runs (.presetWrite p v) s fun t => t.get (R.FAB_CVAL_VALUE p) = 0 ∧ t.flag R.FAB_EVT_SELERR = true ∧
    t = { s with regs := t.regs, power := t.power } ∧ (∀ a, a ≠ (R.FAB_CVAL_VALUE p).addr →
    a ≠ R.FAB_EVT_SELERR.addr → t.reg a = s.reg a) := by
  have hwrite := presetWrite_nothing (s := s.usedBy p) (p := p) v
    (by simpa only [State.get_usedBy, portCell_usedBy] using hcell)
  have hne : (R.FAB_CVAL_VALUE p).addr ≠ R.FAB_EVT_SELERR.addr := by
    simp only [R.FAB_CVAL_VALUE, R.FAB_EVT_SELERR]
    omega
  refine runs_of_serve_eq (f := fun s => presetWrite s p v) rfl hpow (by rw [hwrite]; exact s.pending_usedBy p) ?_
  rw [hwrite]
  refine ⟨?_, State.flag_raise_same _ _, s.usedBy_frame p rfl, fun a ha hb => ?_⟩
  · rw [State.raise, State.get_set_addr _ _ _ _ hne, State.get_set_same _ (R.FAB_CVAL_VALUE p) _ (Nat.le_refl 36)]
    rfl
  · rw [State.raise, State.reg_set_other _ _ _ hb, State.reg_set_other _ _ _ ha, State.reg_usedBy]

/-! ### Probes -/

/-- A probe selected (R186). -/
def probeSelected (s : State) (p what unit idx : Nat) : State :=
  ((s.set (R.FAB_PSEL_WHAT p) what).set (R.FAB_PSEL_UNIT p) unit).set (R.FAB_PSEL_INDEX p) idx

theorem probeSelect_eq (s : State) (p unit idx : Nat) {what : Nat} (h : what < 6) :
    probeSelect s p what unit idx = portShow (probeSelected s p what unit idx) p true := by
  rw [probeSelect, if_neg (by omega)]
  rfl

theorem portShow_probe {p : Nat} {w : Word} (h : probeValue s p = some w) :
    portShow s p true = s.set (R.FAB_PVAL_VALUE p) w.toNat := by
  simp [portShow, h]

theorem portShow_noProbe {p : Nat} (h : probeValue s p = none) :
    portShow s p true = (s.set (R.FAB_PVAL_VALUE p) 0).raise R.FAB_EVT_SELERR := by
  simp [portShow, h]

theorem probeValue_congr {p : Nat} (hfabric : t.fabric = s.fabric)
    (hsel : t.reg (R.FAB_PSEL_WHAT p).addr = s.reg (R.FAB_PSEL_WHAT p).addr) : probeValue t p = probeValue s p := by
  have hwhat : t.get (R.FAB_PSEL_WHAT p) = s.get (R.FAB_PSEL_WHAT p) := State.get_congr hsel
  have hunit : t.get (R.FAB_PSEL_UNIT p) = s.get (R.FAB_PSEL_UNIT p) := State.get_congr hsel
  have hindex : t.get (R.FAB_PSEL_INDEX p) = s.get (R.FAB_PSEL_INDEX p) := State.get_congr hsel
  have hcell := portCell_congr (congrArg FabricSt.units hfabric)
  simp only [probeValue, hwhat, hunit, hindex, hcell]

/-- The three fields of a selection, as written. -/
theorem probeSelected_reads (s : State) (p : Nat) {what unit idx : Nat} (hw : what < 2 ^ 3) (hu : unit < 2 ^ 9)
    (hi : idx < 2 ^ 15) : (probeSelected s p what unit idx).get (R.FAB_PSEL_WHAT p) = what ∧
      (probeSelected s p what unit idx).get (R.FAB_PSEL_UNIT p) = unit ∧
      (probeSelected s p what unit idx).get (R.FAB_PSEL_INDEX p) = idx := by
  have hwhat : (R.FAB_PSEL_WHAT p).lo + (R.FAB_PSEL_WHAT p).width ≤ 36 := Nat.le_refl 36
  have hunit : (R.FAB_PSEL_UNIT p).lo + (R.FAB_PSEL_UNIT p).width ≤ 36 := Nat.le_of_ble_eq_true rfl
  have hindex : (R.FAB_PSEL_INDEX p).lo + (R.FAB_PSEL_INDEX p).width ≤ 36 := Nat.le_of_ble_eq_true rfl
  refine ⟨?_, ?_, ?_⟩ <;> unfold probeSelected
  · rw [State.get_set_bits _ (R.FAB_PSEL_INDEX p) _ _ hindex (.inl (Nat.le_of_ble_eq_true rfl)),
      State.get_set_bits _ (R.FAB_PSEL_UNIT p) _ _ hunit (.inl (Nat.le_of_ble_eq_true rfl)),
      State.get_set_same _ _ _ hwhat]
    exact Nat.mod_eq_of_lt hw
  · rw [State.get_set_bits _ (R.FAB_PSEL_INDEX p) _ _ hindex (.inl (Nat.le_of_ble_eq_true rfl)),
      State.get_set_same _ _ _ hunit]
    exact Nat.mod_eq_of_lt hu
  · rw [State.get_set_same _ _ _ hindex]
    exact Nat.mod_eq_of_lt hi

/-- What a selection shows, and what it leaves. -/
structure Probed (s : State) (p : Nat) (t : State) : Prop where
  value : t.get (R.FAB_PVAL_VALUE p) = (probeValue s p).elim 0 BitVec.toNat
  regs : RegsOnly s t
  reg : ∀ a, a ≠ (R.FAB_PVAL_VALUE p).addr → a ≠ R.FAB_EVT_SELERR.addr → t.reg a = s.reg a

theorem portShow_probed (s : State) (p : Port) : Probed s p (portShow s p true) := by
  have hne : (R.FAB_PVAL_VALUE p).addr ≠ R.FAB_EVT_SELERR.addr := by
    simp only [R.FAB_PVAL_VALUE, R.FAB_EVT_SELERR]
    omega
  cases hv : probeValue s p with
  | some w =>
    rw [portShow_probe hv]
    refine ⟨?_, rfl, fun a ha _ => State.reg_set_other _ _ _ ha⟩
    rw [hv, State.get_set_same _ (R.FAB_PVAL_VALUE p) _ (Nat.le_refl 36)]
    exact Nat.mod_eq_of_lt w.isLt
  | none =>
    rw [portShow_noProbe hv]
    refine ⟨?_, rfl, fun a ha hb => ?_⟩
    · rw [hv, State.raise, State.get_set_addr _ _ _ _ hne, State.get_set_same _ (R.FAB_PVAL_VALUE p) _ (Nat.le_refl 36)]
      rfl
    · rw [State.raise, State.reg_set_other _ _ _ hb, State.reg_set_other _ _ _ ha]

theorem probeSelect_runs (s : State) (p : Port) (w : Fin 8) (u : Fin 512) (i : Fin 32768) (hpow : s.powered = true)
    (hw : w.val < 6) : Runs (.probeSelect p w u i) s fun t => t.get (R.FAB_PSEL_WHAT p) = w.val ∧
    t.get (R.FAB_PSEL_UNIT p) = u.val ∧ t.get (R.FAB_PSEL_INDEX p) = i.val ∧
    (t.get (R.FAB_PVAL_VALUE p) = (match probeValue t p with | some v => v.toNat | none => 0)) ∧ t.fabric = s.fabric ∧
    t = { s with regs := t.regs, power := t.power } ∧ (∀ a, a ≠ (R.FAB_PSEL_WHAT p).addr →
    a ≠ (R.FAB_PVAL_VALUE p).addr → a ≠ R.FAB_EVT_SELERR.addr → t.reg a = s.reg a) := by
  obtain ⟨hwhat, hunit, hindex⟩ := probeSelected_reads (s.usedBy p) p w.isLt u.isLt i.isLt
  obtain ⟨hvalue, hregs, hreg⟩ := portShow_probed (probeSelected (s.usedBy p) p w u i) p
  have hselect := probeSelect_eq (s.usedBy p) p u i hw
  have hset : RegsOnly (s.usedBy p) (probeSelected (s.usedBy p) p w u i) := rfl
  have hframe := hset.trans hregs
  have hsel := hreg (R.FAB_PSEL_WHAT p).addr (by simp [R.FAB_PSEL_WHAT, R.FAB_PVAL_VALUE])
    (by simp only [R.FAB_PSEL_WHAT, R.FAB_EVT_SELERR]; omega)
  have hfabric {x : State} (h : RegsOnly (s.usedBy p) x) : x.fabric = s.fabric := by
    rw [h]
    exact s.fabric_usedBy p
  have hprobe := probeValue_congr ((hfabric hframe).trans (hfabric hset).symm) hsel
  refine runs_of_serve_eq (f := fun s => probeSelect s p w u i) rfl hpow ?_ ?_ <;> rw [hselect]
  · rw [hframe]
    exact s.pending_usedBy p
  · refine ⟨(State.get_congr hsel).trans hwhat, (State.get_congr (f := R.FAB_PSEL_UNIT p) hsel).trans hunit,
      (State.get_congr (f := R.FAB_PSEL_INDEX p) hsel).trans hindex, ?_, hfabric hframe,
      s.usedBy_frame p hframe, fun a ha hb hc => ?_⟩
    · rw [hprobe, hvalue]
      cases probeValue (probeSelected (s.usedBy p) p w u i) p <;> rfl
    · rw [hreg a hb hc, probeSelected, State.reg_set_other _ (R.FAB_PSEL_INDEX p) _ ha,
        State.reg_set_other _ (R.FAB_PSEL_UNIT p) _ ha, State.reg_set_other _ _ _ ha, State.reg_usedBy]

end

/-- Settles O17: a pass by what it captures and what it writes, a switch by the planes that reflex keeps, a port by the cell
that it selects. -/
theorem fabricPasses : Obligations.FabricPasses :=
  ⟨fabricPassStart_starts, fun s q _ _ _ _ => fabricPassStart_idle s q, fabricPassComplete_class, fabricPassComplete_called,
    planeSwitch_runs, planeSwitch_refused_runs, presetWrite_timer_runs, presetWrite_counter_runs, presetWrite_nothing_runs,
    probeSelect_runs⟩

end Sys2Proof.Machine

/-!
Why a trip may not show in FAB_TRIP (R155, R178): its pin triggers an event, and what the core then starts is counted by the
number of its event, which the statement does not bound.
-/
namespace Sys2Proof.Machine
set_option Elab.async false

/-- A unit of two TRIP leaves without arm bits (R176): leaf 0 trips while leaf 1 has not tripped, and drives pin 0; leaf 1
never trips. -/
def twoTripUnit : FabricUnit where
  id := 0
  cls := 0
  passes := 0
  leaves := []
  timers := []
  counters := []
  inTaps := []
  outTaps := []
  reflex := [0x55555555, 0x55555555, 65, 0x20880000, 0, 0, 0, 0x880000]
  arms := []
  cvInit := []
  timerRet := []
  counterRet := []
  fixed := none
  hint := none

/-- In RUN: the unit on quire 5, so that its leaves are the TRIP numbers 20 and 21, and pin 0 a reflex output whose rising
edge triggers event 1. The task of that event is placed on core 0, where the task of an event with the number 978 is ready:
its CYC_ETCNT would lie at FAB_TRIP, with RUNS over the bits from 18 on, of which 18 and 19 read 1. -/
def farCounterState : State :=
  (((({ readyState with
    fabric := { readyState.fabric with
      units := [⟨0, [], [], [], []⟩]
      quires := readyState.fabric.quires.set 5 ⟨none, none, [], [twoTripUnit], []⟩ }
    cores := readyState.cores.set 0 { Core.fresh with ready := [⟨0, 0, some 978, false⟩] } }.set
    (R.CYC_ETCFG_SRC 1) 1).set (R.CYC_ETCFG_EDGE 1) 1).set (R.CYC_ETCFG_PRIO 1) 1).set R.FAB_PINMODE0_MODES 3).set
    R.FAB_TRIP_T 0xC0000

/-- Leaf 0 of the unit as a reflex leaf. -/
def farTripLeaf : ReflexUnit := ⟨twoTripUnit, ⟨0, [], [], [], []⟩, 20⟩

/-- A TRIP leaf whose reflex runs and whose cause is TRUE trips (R178). -/
theorem exec_reflexTrip {s : State} {n : Fin 32} {r : ReflexUnit} {i : Nat} (hleaf : tripLeaf s n = some (r, i))
    (hruns : reflexRuns s (n.val / 4) = true) (hcause : tripCause s r i = true) (hclear : s.getBit R.FAB_TRIP_T n = false) :
    exec (.reflexTrip n) s = s.answer (reflexSettle (tripSet s n)) := by
  change execReflexTrip n s = _
  rw [execReflexTrip, hleaf]
  exact congrArg s.answer (if_pos (by simp [hruns, hcause, hclear]))

/-- The trip raises the pin, its edge starts the task of event 978, and the count of that run carries T 20 over into T 21,
which keeps leaf 0 from tripping again. -/
theorem reflexTrip_lost : (reflexSettle (tripSet farCounterState 20)).getBit R.FAB_TRIP_T 20 = false := by
  decide +kernel

/-- Refutes O18: a trip whose pin starts a task counts its run (R155), and the count of an event with the number 978 lies
over T, so that T of the leaf that trips may read 0 once reflex has settled. -/
theorem not_reflexPaths : ¬ Obligations.ReflexPaths := by
  unfold Obligations.ReflexPaths
  rintro ⟨htrip, _⟩
  have hleaf : tripLeaf farCounterState (20 : Fin 32) = some (farTripLeaf, 0) := by decide +kernel
  have hruns : reflexRuns farCounterState ((20 : Fin 32).val / 4) = true := by decide +kernel
  have hfit : tripsFit farCounterState = true := by decide +kernel
  have hcause : tripCause farCounterState farTripLeaf 0 = true := by decide +kernel
  have hreset : tripReset farCounterState farTripLeaf 0 = false := by decide +kernel
  have harm : 32 ≤ bitsOf (farTripLeaf.unit.reflex.getD (4 * 0 + 3) 0) 14 7 := by decide +kernel
  have hclear : farCounterState.getBit R.FAB_TRIP_T (20 : Fin 32) = false := by decide +kernel
  have hexec := exec_reflexTrip hleaf hruns hcause hclear
  obtain ⟨u, ⟨hset, _⟩, hregs, _⟩ := of_runs hexec
    (htrip farCounterState 20 farTripLeaf 0 hleaf hruns hfit hcause hreset harm hclear)
  rw [State.getBit, State.get, hregs] at hset
  exact Bool.false_ne_true (reflexTrip_lost.symm.trans hset)

end Sys2Proof.Machine

/-!
Why HND_PARG may not read the argument of a CREATE alone (R104, R247): a write leaves the reserved bits of a register as they
are, and the statement does not have them 0.
-/
namespace Sys2Proof.Machine
set_option Elab.async false

/-- In RUN with a task on core 0, and HND_PARG of the core's port with a reserved bit that reads 1. -/
def reservedArgState : State :=
  { State.reset with
    dev := .run
    cores := State.reset.cores.set 0 { Core.fresh with task := some ⟨0, 0, none, false⟩ } }.setReg
    (R.HND_PARG_CLASS 0).addr (BitVec.ofNat 36 (2 ^ 20))

/-- A CREATE with the argument 0 leaves that bit (R7). -/
theorem handleCommand_reservedArg :
    (handleCommand reservedArgState 0 0 0 0 0 true 0).reg (R.HND_PARG_CLASS 0).addr = BitVec.ofNat 36 (2 ^ 20) := by
  decide +kernel

/-- Refutes O25: HCMD CREATE writes the fields of HND_PARG, so that a reserved bit which the state holds as 1 stays, and the
clause of a posted CREATE has the register read the argument's fields alone. -/
theorem not_coreCallsAndHandles : ¬ Obligations.CoreCallsAndHandles := by
  unfold Obligations.CoreCallsAndHandles
  rintro ⟨_, _, _, _, _, _, _, _, _, _, _, _, _, _, _, hcreate, _⟩
  have hready : coreReady reservedArgState 0 (hcmdWord 0 0 0 0 true 0) { legal := (0 : BitVec 15) == 0 } = true := by
    decide +kernel
  have hidle : reservedArgState.get (R.HND_PCMD_STATUS 0) ≠ 1 := by decide +kernel
  have hruns := hcreate reservedArgState 0 0 0 0 true 0 hready rfl hidle
  obtain ⟨u, ⟨_, harg, _⟩, hregs, _⟩ := of_runs (t := handleCommand reservedArgState 0 0 0 0 0 true 0) rfl hruns
  rw [State.reg, hregs] at harg
  exact absurd (handleCommand_reservedArg.symm.trans harg) (by decide +kernel)

end Sys2Proof.Machine

/-!
Why the core that an instruction leaves may be another than the statements about the checks, the false conditions, the
transfers and the strings of the word cores give (R125, R206, R246, R341): its task is preempted or ends at once, or the
instruction waits for one more answer.
-/
namespace Sys2Proof.Machine

/-- A core in the next state that a command answers. -/
def nextCore (r : Result) (c : Fin 8) : Option Core :=
  match r with
  | .next t => some (t.core c)
  | _ => none

/-- What a statement has of a core after a command, the core has in the command's own answer. -/
theorem Runs.nextCore {s : State} {i : Instr} {P : State → Prop} {α : Type} {v : α} {c : Fin 8} (part : Core → α)
    (hruns : Runs i s P) (hP : ∀ u, P u → part (u.core c) = v) : (nextCore (exec i s) c).map part = some v := by
  obtain ⟨t, ht, hPt⟩ := hruns
  rw [ht]
  exact congrArg some (hP t hPt)

/-! ### A trap whose count is the rank of a ready task -/

/-- Core 0 runs a task of class 3, has a handler and has counted 15 traps; the task of event 2005 is ready, and the word
of that event's configuration is ZC_TRAPS of the core, whose bits read as PRIO 15: the task ranks behind the one that runs,
until the next trap is counted. -/
def farTrapState : State :=
  { State.reset with
    dev := .run
    cores := State.reset.cores.set 0
      { Core.fresh with vbase := 1, task := some ⟨0, 3, none, false⟩, ready := [⟨0, 0, some 2005, false⟩] } }.set
    (R.ZC_TRAPS_COUNT 0) 15

/-- The trap of an illegal NOP puts the task of event 2005 before the one that traps. -/
theorem illegalNop_preempts : (nextCore (exec (.nop 0 0 1#20) farTrapState) 0).map Core.ready = some [] := by
  decide +kernel

/-- Refutes O21: in `farTrapState` the trap of an illegal instruction ends in a preemption, and the core is another than at
the entry of its handler. -/
theorem not_coreChecks : ¬ Obligations.CoreChecks := by
  unfold Obligations.CoreChecks
  rintro ⟨_, _, hillegal, _⟩
  have hruns : coreRuns farTrapState (0 : Fin 8) = true := by decide +kernel
  have hdue : preemptDue farTrapState (0 : Fin 8) = false := by decide +kernel
  have hhandler : handlerFree (farTrapState.core (0 : Fin 8)) = true := by decide +kernel
  have hfetch : fetchBad farTrapState (farTrapState.core (0 : Fin 8)).pc.toNat = false := by decide +kernel
  have hready := (hillegal (.nop 0 0 1#20) 0 _ _ farTrapState rfl hruns rfl rfl hdue hhandler hfetch rfl).nextCore
    Core.ready fun _ hcore => congrArg Core.ready hcore.1
  rw [illegalNop_preempts] at hready
  exact absurd hready (by decide +kernel)

/-! ### An instruction whose end writes the rank of a ready task -/

/-- A NOP with a false condition puts the task of event 2004 before the one that runs. -/
theorem falseNop_preempts : (nextCore (exec (.nop 0 1 0#20) farRankState) 0).map Core.ready = some [] := by
  decide +kernel

/-- Refutes O22: in `farRankState` an instruction with a false condition ends in a preemption, and the core does more than
advance. -/
theorem not_falseConditionOnlyAdvances : ¬ Obligations.FalseConditionOnlyAdvances := by
  unfold Obligations.FalseConditionOnlyAdvances
  rintro ⟨hfalse, _⟩
  have hruns : coreRuns farRankState (0 : Fin 8) = true := by decide +kernel
  have hdue : preemptDue farRankState (0 : Fin 8) = false := by decide +kernel
  have hfetch : fetchBad farRankState (farRankState.core (0 : Fin 8)).pc.toNat = false := by decide +kernel
  have hcond : condHolds (bitsOf (instrWord 1 1 (BitVec.ofNat 6 0 ++ 0#20)) 32 4) (farRankState.core (0 : Fin 8)).sw =
      false := by decide +kernel
  have hready := (hfalse (.nop 0 1 0#20) 0 _ _ farRankState rfl hruns rfl rfl hdue hfetch hcond rfl rfl).nextCore
    Core.ready fun _ hcore => congrArg Core.ready hcore.1
  rw [falseNop_preempts] at hready
  exact absurd hready (by decide +kernel)

/-! ### A task that ends as soon as it follows -/

/-- Core 0 has no handler and runs a task of class 0; a task of class 1 is ready, which meets the BUS trap of a unit on a
disabled quire when it starts (R184, R246). -/
def lostUnitState : State :=
  { State.reset with
    dev := .run
    cores := State.reset.cores.set 0
      { Core.fresh with task := some ⟨0, 0, none, false⟩, ready := [⟨1, 1, none, false⟩] } }.setCls 1
    { ClassSt.fresh with busUnit := some (1, 5) }

/-- The task that follows the one that TEND ends traps without a handler, and ends in its turn (R206). -/
theorem tend_endsBoth : (nextCore (exec (.tend 0 0 0#20) lostUnitState) 0).map Core.task = some none := by decide +kernel

/-- Refutes O24: in `lostUnitState` the only ready task follows the one that TEND ends, and ends at once by its BUS trap, so
that the core has no task. -/
theorem not_coreTransfersAndSystem : ¬ Obligations.CoreTransfersAndSystem := by
  unfold Obligations.CoreTransfersAndSystem
  rintro ⟨_, _, _, _, _, _, _, _, htend, _⟩
  have hready : coreReady lostUnitState (0 : Fin 8) (instrWord 0 1 (BitVec.ofNat 6 1 ++ 0#20)) { legal := 0#20 == 0 } =
      true := by decide +kernel
  have hhandler : swBit (lostUnitState.core (0 : Fin 8)).sw swTH = false := by decide +kernel
  have htask := (htend lostUnitState 0 0 0#20 ⟨0, 0, none, false⟩ ⟨1, 1, none, false⟩ hready rfl hhandler rfl rfl rfl
    rfl).nextCore Core.task fun _ hcore => hcore.1
  rw [tend_endsBoth] at htask
  cases htask

/-! ### Two loads of one remote word, and one answer -/

/-- Core 0 compares the string at the start of its remote window with itself: X6 and X7 name one word, and the one answer to
the core tells that the access failed. -/
def selfCompareState : State :=
  { State.reset with
    dev := .run
    cores := State.reset.cores.set 0 (((Core.setG { Core.fresh with vbase := 1, task := some ⟨0, 0, none, false⟩ }
      12 1).setX 6 0x800000).setX 7 0x800000)
    spine := { State.reset.spine with answers := [(0, 0x800000, none)] } }.raise (R.SPN_RSEL_EN 0)

/-- The second of the two loads asks for an answer of its own, and CMPS waits for it (R341). -/
theorem cmps_waits : (nextCore (exec (.cmps 0 0 0#22) selfCompareState) 0).map Core.wait = some (.remote 0x800000) := by
  decide +kernel

/-- Refutes O28: in `selfCompareState` the load at X6 raises BUS, and the load at X7 has an answer only as long as X6 has not
used it up, so that CMPS waits for a second answer where the clause has it trap. -/
theorem not_coreStrings : ¬ Obligations.CoreStrings := by
  unfold Obligations.CoreStrings
  rintro ⟨_, _, _, _, _, _, _, _, _, _, _, _, _, _, _, _, hcmps, _⟩
  have hready : coreReady selfCompareState (0 : Fin 8) (instrWord 0 36 (BitVec.ofNat 4 2 ++ 0#22))
      { legal := 0#22 == 0 } = true := by decide +kernel
  have hcount : (selfCompareState.core (0 : Fin 8)).gr 12 ≠ 0 := by decide +kernel
  have haddress : 0x800000 = ((selfCompareState.core (0 : Fin 8)).xn 6).toNat := by decide +kernel
  have hbus : loadBus selfCompareState (0 : Fin 8) 0x800000 = true := by decide +kernel
  have hanswer : loadWaits selfCompareState (0 : Fin 8) ((selfCompareState.core (0 : Fin 8)).xn 7).toNat = false := by
    decide +kernel
  have hhandler : handlerFree (selfCompareState.core (0 : Fin 8)) = true := by decide +kernel
  have hwait := (hcmps selfCompareState 0 0 0#22 0x800000 hready hcount haddress hbus hanswer hhandler).nextCore Core.wait
    fun _ hcore => congrArg Core.wait hcore.1
  rw [cmps_waits] at hwait
  cases hwait

end Sys2Proof.Machine

/-!
Why a BUS trap of MACD may leave its core as another than the one at its handler's entry (R206, R236): the count of the trap
may put a ready task before the one that traps.
-/
namespace Sys2Proof.Machine

/-- In `farTrapState`, with X1 of core 0 in a reserved range: a load there raises BUS (R199). -/
def farBusState : State := farTrapState.setCore 0 ((farTrapState.core 0).setX 1 0x450000)

/-- The BUS trap of an MACD whose first operand is at X1 puts the task of event 2005 before the one that traps. -/
theorem macdBusTrap_preempts : (nextCore (exec (.macd 0 0 0x4000#26) farBusState) 0).map Core.ready = some [] := by
  decide +kernel

/-- Refutes O60: in `farBusState` the BUS trap on the first operand ends in a preemption, and the core is another than at the
entry of its handler. -/
theorem not_macdBusTrap : ¬ Obligations.MacdBusTrap := by
  unfold Obligations.MacdBusTrap
  rintro ⟨hfirst, _⟩
  have hready : coreReady farBusState (0 : Fin 8) (instrWord 0 25 0x4000#26)
      { legal := opField 0x4000#26 20 3 == 0 && mdLegal (opField 0x4000#26 10 10) && mdLegal (opField 0x4000#26 0 10) &&
          !mdLiteral (opField 0x4000#26 10 10) && !mdLiteral (opField 0x4000#26 0 10) } = true := by decide +kernel
  have hhandler : handlerFree (farBusState.core (0 : Fin 8)) = true := by decide +kernel
  have hanswers : missingAnswer farBusState (0 : Fin 8) [(farBusState.core (0 : Fin 8)).ea (opField 0x4000#26 10 10) 0,
      (farBusState.core (0 : Fin 8)).ea (opField 0x4000#26 0 10) 0] farBusState.spine.answers = none := by decide +kernel
  have hbus : (loadWord farBusState (0 : Fin 8)
      ((farBusState.core (0 : Fin 8)).ea (opField 0x4000#26 10 10) 0)).1 = .bus := by decide +kernel
  have hkept := (hfirst farBusState 0 0 0x4000#26 _ _ hready hhandler rfl rfl hanswers hbus).nextCore
    Core.ready fun _ hcore => congrArg Core.ready hcore.1
  rw [macdBusTrap_preempts] at hkept
  exact absurd hkept (by decide +kernel)

end Sys2Proof.Machine

/-!
The words of the word cores (R214, R217, R218): a word is read as an instruction with that word, an instruction is read back
from its word, and what is read as unassigned.
-/
namespace Sys2Proof.Machine

/-! ### A word as its fields -/

/-- A field of a word as bits. -/
theorem ofNat_bitsOf (w : Word) (lo n : Nat) : BitVec.ofNat n (bitsOf w lo n) = w.extractLsb' lo n := by
  rw [bitsOf, BitVec.ofNat_toNat, BitVec.setWidth_eq]

theorem finOfNat_bitsOf (w : Word) (lo : Nat) : (Fin.ofNat 16 (bitsOf w lo 4)).val = bitsOf w lo 4 :=
  Nat.mod_eq_of_lt (w.extractLsb' lo 4).isLt

theorem ofBool_getLsbD (w : Word) (i : Nat) : BitVec.ofBool (w.getLsbD i) = w.extractLsb' i 1 := by
  refine BitVec.eq_of_getLsbD_eq fun j hj => ?_
  obtain rfl : j = 0 := by omega
  simp

/-- A field and the bits below it. -/
theorem ofNat_append_extractLsb' {w : Word} {lo n fn : Nat} (h : bitsOf w lo n = fn) :
    BitVec.ofNat n fn ++ w.extractLsb' 0 lo = w.extractLsb' 0 (n + lo) := by
  rw [← h, ofNat_bitsOf]
  exact BitVec.extractLsb'_append_extractLsb'_eq_extractLsb' (Nat.zero_add lo).symm

/-- A word is that of its condition, its major and its operand bits (R214). -/
theorem coreWordOf_fields {w : Word} {m : Nat} {o : BitVec 26} (hm : bitsOf w 26 6 = m) (ho : o = w.extractLsb' 0 26) :
    coreWordOf (Fin.ofNat 16 (bitsOf w 32 4)) m o = w := by
  have hbelow : BitVec.ofNat 6 m ++ w.extractLsb' 0 26 = w.extractLsb' 0 32 := ofNat_append_extractLsb' hm
  have hall : BitVec.ofNat 4 (bitsOf w 32 4) ++ w.extractLsb' 0 32 = w.extractLsb' 0 36 := ofNat_append_extractLsb' rfl
  rw [ho, coreWordOf, finOfNat_bitsOf, BitVec.append_assoc, hbelow, BitVec.cast_eq, hall, BitVec.extractLsb'_eq_self]

/-- The operand bits of a fabric call are its unit, its function and its low bits (R245). -/
theorem fabricBits_fields {w : Word} {fn : Nat} (h : bitsOf w 15 2 = fn) :
    w.extractLsb' 17 9 ++ BitVec.ofNat 2 fn ++ w.extractLsb' 0 15 = w.extractLsb' 0 26 := by
  have hbelow : BitVec.ofNat 2 fn ++ w.extractLsb' 0 15 = w.extractLsb' 0 17 := ofNat_append_extractLsb' h
  rw [BitVec.append_assoc, hbelow, BitVec.cast_eq]
  exact BitVec.extractLsb'_append_extractLsb'_eq_extractLsb' rfl

/-- The operand bits of a handle word are its fields (R247). -/
theorem handleBits_fields {w : Word} {fn : Nat} (h : bitsOf w 16 2 = fn) :
    handleBits (Fin.ofNat 16 (bitsOf w 22 4)) (Fin.ofNat 16 (bitsOf w 18 4)) fn (w.getLsbD 15) (w.extractLsb' 0 15) =
      w.extractLsb' 0 26 := by
  have hpost : BitVec.ofBool (w.getLsbD 15) ++ w.extractLsb' 0 15 = w.extractLsb' 0 16 := by
    rw [ofBool_getLsbD]
    exact BitVec.extractLsb'_append_extractLsb'_eq_extractLsb' rfl
  have hfn : BitVec.ofNat 2 fn ++ w.extractLsb' 0 16 = w.extractLsb' 0 18 := ofNat_append_extractLsb' h
  have ha : BitVec.ofNat 4 (bitsOf w 18 4) ++ w.extractLsb' 0 18 = w.extractLsb' 0 22 := ofNat_append_extractLsb' rfl
  have hd : BitVec.ofNat 4 (bitsOf w 22 4) ++ w.extractLsb' 0 22 = w.extractLsb' 0 26 := ofNat_append_extractLsb' rfl
  rw [handleBits, finOfNat_bitsOf, finOfNat_bitsOf]
  simp only [BitVec.append_assoc, BitVec.cast_eq, hpost, hfn, ha, hd]

/-! ### The word of the instruction that a word is read as -/

section
variable {c : Fin 8} {w : Word} {f : Bool}

theorem coreWord_decodeSys (hm : bitsOf w 26 6 = 1) :
    coreWord (decodeSys c (Fin.ofNat 16 (bitsOf w 32 4)) w) = some w := by
  unfold decodeSys
  split
  case h_6 => rfl
  all_goals
    rename_i hfn
    exact congrArg some (coreWordOf_fields hm (ofNat_append_extractLsb' hfn))

theorem coreWord_decodeString (hm : bitsOf w 26 6 = 36) :
    coreWord (decodeString c (Fin.ofNat 16 (bitsOf w 32 4)) w) = some w := by
  unfold decodeString
  split
  case h_5 => rfl
  all_goals
    rename_i hfn
    exact congrArg some (coreWordOf_fields hm (ofNat_append_extractLsb' hfn))

theorem coreWord_decodeFence (hm : bitsOf w 26 6 = 40) :
    coreWord (decodeFence c (Fin.ofNat 16 (bitsOf w 32 4)) w f) = some w := by
  unfold decodeFence
  split
  case h_4 => rfl
  all_goals
    rename_i hfn
    exact congrArg some (coreWordOf_fields hm (ofNat_append_extractLsb' hfn))

theorem coreWord_decodeFabric (hm : bitsOf w 26 6 = 41) :
    coreWord (decodeFabric c (Fin.ofNat 16 (bitsOf w 32 4)) w) = some w := by
  unfold decodeFabric
  split
  case h_4 => rfl
  all_goals
    rename_i hfn
    exact congrArg some (coreWordOf_fields hm (fabricBits_fields hfn))

theorem coreWord_decodeHandle (hm : bitsOf w 26 6 = 42) :
    coreWord (decodeHandle c (Fin.ofNat 16 (bitsOf w 32 4)) w) = some w := by
  unfold decodeHandle
  split
  case h_4 hcreate hdestroy hquery =>
    have hlt : bitsOf w 16 2 < 4 := (w.extractLsb' 16 2).isLt
    have hfn : bitsOf w 16 2 = 3 := by grind
    exact congrArg some (coreWordOf_fields hm (handleBits_fields hfn))
  all_goals
    rename_i hfn
    exact congrArg some (coreWordOf_fields hm (handleBits_fields hfn))

end

/-- Every word is the word of the instruction that it is read as (R214, R217). -/
theorem coreWord_decodeCore (c : Fin 8) (w lit : Word) (f : Bool) : coreWord (decodeCore c w lit f) = some w := by
  unfold decodeCore
  split
  case h_1 hm => exact coreWord_decodeSys hm
  case h_28 hm => exact coreWord_decodeString hm
  case h_29 hm => exact coreWord_decodeFence hm
  case h_30 hm => exact coreWord_decodeFabric hm
  case h_31 hm => exact coreWord_decodeHandle hm
  case h_32 => rfl
  all_goals
    rename_i hm
    exact congrArg some (coreWordOf_fields hm rfl)

/-! ### The words that are read as unassigned -/

section
variable {c : Fin 8} {k : Fin 16} {w : Word} {f : Bool}

theorem decodeSys_unassigned_iff : decodeSys c k w = .unassignedOpcode c w ↔ 5 ≤ bitsOf w 20 6 := by
  unfold decodeSys
  split
  case h_6 => grind
  all_goals
    rename_i hfn
    simp [hfn]

theorem decodeString_unassigned_iff : decodeString c k w = .unassignedOpcode c w ↔ 4 ≤ bitsOf w 22 4 := by
  unfold decodeString
  split
  case h_5 => grind
  all_goals
    rename_i hfn
    simp [hfn]

theorem decodeFence_unassigned_iff : decodeFence c k w f = .unassignedOpcode c w ↔ bitsOf w 24 2 = 0 := by
  have hlt : bitsOf w 24 2 < 4 := (w.extractLsb' 24 2).isLt
  unfold decodeFence
  split
  case h_4 => grind
  all_goals
    rename_i hfn
    simp [hfn]

theorem decodeFabric_unassigned_iff : decodeFabric c k w = .unassignedOpcode c w ↔ bitsOf w 15 2 = 3 := by
  have hlt : bitsOf w 15 2 < 4 := (w.extractLsb' 15 2).isLt
  unfold decodeFabric
  split
  case h_4 => grind
  all_goals
    rename_i hfn
    simp [hfn]

theorem decodeHandle_ne_unassigned : decodeHandle c k w ≠ .unassignedOpcode c w := by
  unfold decodeHandle
  split <;> exact nofun

end

/-- The words of unassigned majors and functions are those that are read as unassigned (R217, R218). -/
theorem decodeCore_unassigned_iff (c : Fin 8) (w lit : Word) (f : Bool) :
    decodeCore c w lit f = .unassignedOpcode c w ↔ wordUnassigned w = true := by
  unfold decodeCore wordUnassigned
  split
  case h_1 hm => simp only [hm, decodeSys_unassigned_iff, decide_eq_true_eq]
  case h_28 hm => simp only [hm, decodeString_unassigned_iff, decide_eq_true_eq]
  case h_29 hm => simp only [hm, decodeFence_unassigned_iff, beq_iff_eq]
  case h_30 hm => simp only [hm, decodeFabric_unassigned_iff, beq_iff_eq]
  case h_31 hm => simp only [hm, decodeHandle_ne_unassigned, Bool.false_eq_true]
  case h_32 => split <;> simp_all
  all_goals
    rename_i hm
    simp [hm]

/-! ### The fields of a word that is written -/

section
variable {k d a : Fin 16} {m lo n fn : Nat} {o : BitVec 26} {p : Bool} {r : BitVec 15}

theorem extractLsb'_coreWordOf (h : lo + n ≤ 26) : (coreWordOf k m o).extractLsb' lo n = o.extractLsb' lo n :=
  BitVec.extractLsb'_append_eq_of_add_le h

theorem bitsOf_coreWordOf (h : lo + n ≤ 26) : bitsOf (coreWordOf k m o) lo n = (o.extractLsb' lo n).toNat :=
  congrArg BitVec.toNat (extractLsb'_coreWordOf h)

theorem major_coreWordOf (h : m < 64) : bitsOf (coreWordOf k m o) 26 6 = m := by
  rw [bitsOf, coreWordOf, BitVec.extractLsb'_append_eq_of_le le_rfl, BitVec.extractLsb'_append_eq_of_add_le le_rfl,
    BitVec.extractLsb'_eq_self, BitVec.toNat_ofNat]
  exact Nat.mod_eq_of_lt h

theorem cond_coreWordOf : Fin.ofNat 16 (bitsOf (coreWordOf k m o) 32 4) = k := by
  rw [bitsOf, coreWordOf, BitVec.extractLsb'_append_eq_of_le (by decide), BitVec.extractLsb'_append_eq_left]
  simp

theorem d_handleBits : Fin.ofNat 16 ((handleBits d a fn p r).extractLsb' 22 4).toNat = d := by
  simp (disch := decide) only [handleBits, BitVec.extractLsb'_append_eq_of_le, Nat.reduceSub, BitVec.extractLsb'_eq_self]
  simp

theorem a_handleBits : Fin.ofNat 16 ((handleBits d a fn p r).extractLsb' 18 4).toNat = a := by
  simp (disch := decide) only [handleBits, BitVec.extractLsb'_append_eq_of_le, Nat.reduceSub,
    BitVec.extractLsb'_append_eq_right]
  simp

theorem fn_handleBits : ((handleBits d a fn p r).extractLsb' 16 2).toNat = fn % 4 := by
  simp (disch := decide) only [handleBits, BitVec.extractLsb'_append_eq_of_le, Nat.reduceSub,
    BitVec.extractLsb'_append_eq_right, BitVec.toNat_ofNat, Nat.reducePow]

theorem rest_handleBits : (handleBits d a fn p r).extractLsb' 0 15 = r :=
  BitVec.extractLsb'_append_eq_right

theorem post_coreWordOf : (coreWordOf k m (handleBits d a fn p r)).getLsbD 15 = p := by
  rw [coreWordOf, BitVec.getLsbD_append, if_pos (by decide), handleBits, BitVec.getLsbD_append, if_neg (by decide),
    BitVec.getLsbD_append]
  simp

/-- The word that a trap shows of an instruction is the one that its fields spell (R214). -/
theorem instrWord_eq_coreWordOf (h : m < 64) : instrWord k m o = coreWordOf k m o := by
  apply BitVec.eq_of_toNat_eq
  have hk := k.isLt
  have ho := o.isLt
  rw [instrWord, coreWordOf, BitVec.toNat_append, BitVec.toNat_append, ← Nat.shiftLeft_add_eq_or_of_lt ho,
    ← Nat.shiftLeft_add_eq_or_of_lt (BitVec.isLt _)]
  simp only [BitVec.toNat_ofNat, Nat.shiftLeft_eq]
  omega

theorem hcmdWord_eq_coreWordOf : hcmdWord k d a fn p r = coreWordOf k 42 (handleBits d a fn p r) := by
  have hpost : BitVec.ofNat 1 (bitNat p) = BitVec.ofBool p := by cases p <;> rfl
  rw [hcmdWord, hpost, instrWord_eq_coreWordOf (by decide), handleBits]

end

/-! ### An instruction read back from its word -/

/-- The literal word of an instruction that may take one (R197, R214); 0 for any other. -/
def literalOf : Instr → Word
  | .lea _ _ _ l | .ld _ _ _ l | .st _ _ _ l | .ldh _ _ _ l | .sth _ _ _ l | .ldd _ _ _ l | .std _ _ _ l
  | .atom _ _ _ l | .alum _ _ _ l | .falum _ _ _ l | .bitm _ _ _ l => l
  | _ => 0

/-- Whether a fence finds earlier accesses in flight (R262); false for any other instruction. -/
def inFlightOf : Instr → Bool
  | .fenceC _ _ w | .fenceD _ _ w | .fenceS _ _ w => w.inFlight
  | _ => false

section
variable {i : Instr} {c : Fin 8} {w : Word} {ch : Checks}

/-- Every instruction of the word cores has the word that its trap shows. -/
theorem coreWord_of_coreIssue (h : coreIssue i = some (c, w, ch)) : coreWord i = some w := by
  unfold coreIssue at h
  split at h <;> cases h
  case h_42.refl | h_43.refl | h_44.refl | h_45.refl => exact congrArg some hcmdWord_eq_coreWordOf.symm
  all_goals exact congrArg some (instrWord_eq_coreWordOf (by decide)).symm

/-- An instruction is read back from its word, its literal word and its fence state: the major picks the decoder, the function
field picks the instruction, and the operand fields are those written. -/
theorem decodeCore_of_coreIssue (h : coreIssue i = some (c, w, ch)) :
    decodeCore c w (literalOf i) (inFlightOf i) = i := by
  unfold coreIssue at h
  split at h <;> cases h
  case h_42.refl | h_43.refl | h_44.refl | h_45.refl =>
    rw [hcmdWord_eq_coreWordOf, decodeCore, major_coreWordOf (by decide)]
    simp (disch := decide) only [decodeHandle, cond_coreWordOf, bitsOf_coreWordOf, extractLsb'_coreWordOf, fn_handleBits,
      d_handleBits, a_handleBits, post_coreWordOf, rest_handleBits, Nat.reduceMod]
  all_goals
    rw [instrWord_eq_coreWordOf (by decide), decodeCore, major_coreWordOf (by decide)]
    simp (disch := decide) only [decodeSys, decodeString, decodeFence, decodeFabric, cond_coreWordOf, bitsOf_coreWordOf,
      extractLsb'_coreWordOf, BitVec.extractLsb'_eq_self, BitVec.extractLsb'_append_eq_of_le,
      BitVec.extractLsb'_append_eq_of_add_le, Nat.reduceSub, BitVec.toNat_ofNat, Nat.reducePow, Nat.reduceMod, literalOf,
      inFlightOf]

end

/-- Settles O23: reading gives an instruction with the word read, by its fields; an instruction is read back from its word,
which is the one that its trap shows; and the unassigned words are told apart as they are read. -/
theorem coreWords : Obligations.CoreWords := by
  unfold Obligations.CoreWords
  exact ⟨coreWord_decodeCore,
    fun i _ _ _ h => ⟨coreWord_of_coreIssue h, literalOf i, inFlightOf i, decodeCore_of_coreIssue h⟩,
    decodeCore_unassigned_iff⟩

end Sys2Proof.Machine

/-!
Why a FEED frame may write the memory (R125, R210, R274): the unit that it makes ready can preempt the task that runs on its
core, and preemption saves that task in its context block.
-/
namespace Sys2Proof.Machine
section
variable {s : State}

/-! ### Words stored one after another -/

/-- The words below those that are stored stay. -/
theorem State.word_storeList_of_lt {a b : Nat} (h : b < a) (ws : List Word) : (s.storeList a ws).word b = s.word b := by
  induction ws generalizing s a with
  | nil => rfl
  | cons w ws ih => rw [State.storeList, ih (by omega), State.word_store, if_neg (by omega)]

/-- The first of the words that are stored lies at their address. -/
theorem State.word_storeList_cons (a : Nat) (w : Word) (ws : List Word) : (s.storeList a (w :: ws)).word a = w := by
  rw [State.storeList, State.word_storeList_of_lt (Nat.lt_succ_self a), State.word_store, if_pos rfl]

/-! ### A preemption -/

/-- G0 is word 0 of a context block (R210). -/
theorem Core.context_eq_cons (k : Core) : k.context = k.g[0] :: k.context.drop 1 := by
  have hlen : 0 < k.context.length := by simp [Core.context]
  have hfirst : k.context[0] = k.g[0] := by simp [Core.context]
  rw [← hfirst]
  exact (List.cons_getElem_drop_succ (h := hlen)).symm

/-- The task that is preempted has its G0 in its context block. -/
theorem taskPreempt_word {c : Nat} {t : TaskRef} (htask : (s.core c).task = some t) :
    (taskPreempt s c).word (contextBase s t) = (s.core c).g[0] := by
  unfold taskPreempt
  simp only [htask]
  rw [Core.context_eq_cons, List.cons_append]
  exact State.word_storeList_cons ..

/-- A task that starts leaves the memory alone. -/
theorem taskStart_mem (s : State) (c : Nat) (t : TaskRef) : (taskStart s c t).mem = s.mem := by
  have hstart : Within (.or ⟨[.cores, .cycle], [.all R.CYC_ETCNT_RUNS]⟩ .coreShow) s (taskStart s c t) := by
    unfold taskStart
    dsimp only
    split <;> simp (disch := decide) [↓within_addAll R.CYC_ETCNT_RUNS]
  exact hstart.part .mem

/-- A core with a task, replaced. -/
theorem State.core_setCore_of_task {c : Nat} {t : TaskRef} (htask : (s.core c).task = some t) (k : Core) :
    (s.setCore c k).core c = k := by rw [State.core_setCore, if_pos ⟨rfl, State.core_lt htask⟩]

/-- A preemption that is due and can happen: G0 of the task that is preempted goes to its context block. -/
theorem preemptSettle_word {c : Nat} {r t : TaskRef} {rs : List TaskRef} (htask : (s.core c).task = some t)
    (hready : (s.core c).ready = r :: rs) (hheld : preemptHeld s c = false) (hrank : taskRank s r < taskRank s t) :
    (preemptSettle s c).word (contextBase s t) = (s.core c).g[0] := by
  have hcore : (s.setCore c { s.core c with ready := rs }).core c = { s.core c with ready := rs } :=
    State.core_setCore_of_task htask _
  have hdue : preemptDue s c = true := by simpa only [preemptDue, htask, hready] using decide_eq_true hrank
  unfold preemptSettle
  simp only [hdue, hheld, hready, Bool.not_false, Bool.and_self, if_true]
  rw [State.word, taskStart_mem]
  exact (taskPreempt_word ((congrArg Core.task hcore).trans htask)).trans (by rw [hcore])

/-- A task that becomes ready where one of a lower rank runs preempts it. -/
theorem taskReady_word {c : Nat} {r t : TaskRef} (hplace : s.coreOf r = some c) (htask : (s.core c).task = some t)
    (hready : (s.core c).ready = []) (hheld : preemptHeld s c = false) (hrank : taskRank s r < taskRank s t) :
    (taskReady s r).word (contextBase s t) = (s.core c).g[0] := by
  have hcore : (s.setCore c { s.core c with ready := [r] }).core c = { s.core c with ready := [r] } :=
    State.core_setCore_of_task htask _
  have hheld' : preemptHeld (s.setCore c { s.core c with ready := [r] }) c = false := by
    unfold preemptHeld
    rw [hcore]
    exact hheld
  have hsettle : taskReady s r = preemptSettle (s.setCore c { s.core c with ready := [r] }) c := by
    unfold taskReady
    simp only [hplace]
    rw [hready, if_neg (by simp [htask]), insertReady]
  rw [hsettle]
  exact (preemptSettle_word ((congrArg Core.task hcore).trans htask) (congrArg Core.ready hcore) hheld' hrank).trans
    (by rw [hcore])

/-- Cores that wait for nothing have nothing that lets them go on. -/
theorem settleAll_of_coresQuiet (hquiet : coresQuiet s = true) : settleAll s = s := by
  refine forEach_induction (P := (· = s)) rfl fun c hc u hu => ?_
  have hwait : (s.core c).wait = .none := beq_iff_eq.mp (List.all_eq_true.mp hquiet c hc)
  simp only [hu, settleFuel, coreSettle, hwait]

/-- The FEED frame of a unit without inputs that was placed here makes its task ready. -/
theorem feedFrame_nil {h : FrameHead} {unit : Nat} {u : CoreUnit} (hacc : (spineAccept s 6 h).2 = true)
    (hcyc : (spineAccept s 6 h).1.cycling = true)
    (hunit : (spineAccept s 6 h).1.imposer.foreignUnits.find? (·.id == unit) = some u) :
    feedFrame s h unit [] = settleAll (taskReady
      ((spineAccept s 6 h).1.setCls u.cls ((spineAccept s 6 h).1.cls u.cls)) ⟨u.id, u.cls, none, true⟩) := by
  unfold feedFrame
  simp only [hacc, hcyc, hunit, Bool.not_true, Bool.or_self, Bool.false_eq_true, if_false]
  rfl

end

/-! ### The refutation -/

/-- A FEED frame from node 2 to node 0. -/
def feedHead : FrameHead := ⟨0, true, 2, false, 0, 1, 0, 1, false, 1⟩

/-- In RUN, with unit 9 of class 1, which a manager placed on core 0. The core runs task 0 of class 3, with 5 in G0 and its
context block at 8#10000. -/
def feedPreemptState : State :=
  { State.reset with
    dev := .run
    imposer := { ImposerSt.fresh with
      sheet := [{ sheetNew 1 9 1 0 0x2000 1 false with foreign := true }, sheetNew 4 0 3 0 0x1000 64 false]
      foreignUnits := [plainUnit 9 1 1000 none] }
    cores := State.reset.cores.set 0 { Core.fresh.setG 0 5 with task := some ⟨0, 3, none, false⟩ } }

theorem feedHead_accepted : (spineAccept feedPreemptState 6 feedHead).2 = true := by decide +kernel

/-- The state that has taken the frame, before the task of its unit is ready. -/
def fedState : State :=
  (spineAccept feedPreemptState 6 feedHead).1.setCls 1 ((spineAccept feedPreemptState 6 feedHead).1.cls 1)

/-- The task of class 3 is preempted by the unit that is fed, and its G0 goes to word 0 of its context block. -/
theorem feedFrame_writes : (feedFrame feedPreemptState feedHead 9 []).word 0x1000 = 5 := by
  have hcyc : (spineAccept feedPreemptState 6 feedHead).1.cycling = true := by decide +kernel
  have hunit : (spineAccept feedPreemptState 6 feedHead).1.imposer.foreignUnits.find? (·.id == 9) =
      some (plainUnit 9 1 1000 none) := by decide +kernel
  have hplace : fedState.coreOf ⟨9, 1, none, true⟩ = some 0 := by decide +kernel
  have htask : (fedState.core 0).task = some ⟨0, 3, none, false⟩ := by decide +kernel
  have hready : (fedState.core 0).ready = [] := by decide +kernel
  have hheld : preemptHeld fedState 0 = false := by decide +kernel
  have hrank : taskRank fedState ⟨9, 1, none, true⟩ < taskRank fedState ⟨0, 3, none, false⟩ := by decide +kernel
  have hbase : contextBase fedState ⟨0, 3, none, false⟩ = 0x1000 := by decide +kernel
  have hg : (fedState.core 0).g[0] = 5 := by decide +kernel
  have hquiet : coresQuiet (taskReady fedState ⟨9, 1, none, true⟩) = true := by decide +kernel
  calc (feedFrame feedPreemptState feedHead 9 []).word 0x1000
      = (settleAll (taskReady fedState ⟨9, 1, none, true⟩)).word 0x1000 :=
        congrArg (·.word 0x1000) (feedFrame_nil feedHead_accepted hcyc hunit)
    _ = (taskReady fedState ⟨9, 1, none, true⟩).word 0x1000 := by rw [settleAll_of_coresQuiet hquiet]
    _ = (taskReady fedState ⟨9, 1, none, true⟩).word (contextBase fedState ⟨0, 3, none, false⟩) := by rw [hbase]
    _ = 5 := (taskReady_word hplace htask hready hheld hrank).trans hg

/-- Refutes O35: the unit that the frame feeds in `feedPreemptState` preempts the task on its core, whose context block is
written (R210), and the clause of a unit placed here has the memory stay as it is. -/
theorem not_spineData : ¬ Obligations.SpineData := by
  unfold Obligations.SpineData
  rintro ⟨_, _, _, _, _, hfeed, _⟩
  have hpow : feedPreemptState.powered = true := by decide +kernel
  obtain ⟨_, _, _, _, hmem⟩ := (hfeed feedPreemptState feedHead 9 [] (plainUnit 9 1 1000 none) hpow feedHead_accepted rfl
    rfl (by decide) .nil rfl).holds_powered (t := feedFrame feedPreemptState feedHead 9 []) rfl hpow
  dsimp only at hmem
  have hword := feedFrame_writes
  rw [State.word, hmem] at hword
  exact absurd hword (by decide +kernel)

end Sys2Proof.Machine

/-!
Commands that a master gives, and the commands of the force table (R306 to R308, R313).
-/
namespace Sys2Proof.Machine

/-! ### The state that a master's command works on -/

/-- The state with the core PLL woken or not, all that a use by a master can change (R54). -/
def State.woken (s : State) (w : Bool) : State := { s with power := { s.power with pllWaking := w } }

section
variable {s t : State}

theorem State.usedBy_eq_woken (s : State) (m : Nat) : ∃ w, s.usedBy m = s.woken w := s.usedBy_eq m

/-- A master's command completes, under power, in what it makes of the state with the PLL woken or not. -/
theorem runs_of_master {c : Instr} {m : Nat} {f : State → State} {P : State → Prop} (h : exec c s = s.serve m f)
    (hpow : s.powered = true) (hP : ∀ w, (f (s.woken w)).pending = s.pending ∧ P (f (s.woken w))) : Runs c s P := by
  obtain ⟨w, hu⟩ := s.usedBy_eq_woken m
  exact runs_of_serve_eq h hpow (by rw [hu]; exact (hP w).1) (by rw [hu]; exact (hP w).2)

/-- `runs_of_master` for a command whose result is known. -/
theorem runs_of_master_eq {c : Instr} {m : Nat} {f g : State → State} {P : State → Prop} (h : exec c s = s.serve m f)
    (hpow : s.powered = true) (heq : ∀ w, f (s.woken w) = g (s.woken w)) (hq : ∀ w, (g (s.woken w)).pending = s.pending)
    (hP : ∀ w, P (g (s.woken w))) : Runs c s P :=
  runs_of_master h hpow fun w => by
    rw [heq w]
    exact ⟨hq w, hP w⟩

theorem woken_within (w : Bool) : Within ⟨[.power], []⟩ s (s.woken w) := .parts rfl

theorem woken_frame {w : Bool} (h : RegsOnly (s.woken w) t) : t = { s with power := t.power, regs := t.regs } := by
  unfold RegsOnly at h
  rw [h]
  rfl

/-! ### What a force command ends with -/

/-- What the end of a force command touches. -/
def Touch.forceEnd : Touch := ⟨[], [.all R.FRC_PCMD_STATUS, .all R.FRC_PERR_CODE, .field R.PCI_VPEND_PEND,
  .field R.FRC_EVT_REFUSE]⟩

theorem forceEnd_within (s : State) (p status err : Nat) : Within .forceEnd s (forceEnd s p status err) := by
  simp (disch := decide) [forceEnd, ↓within_setAll R.FRC_PCMD_STATUS, ↓within_setAll R.FRC_PERR_CODE]

/-- What the end of a force command touches beside STATUS and the error code. -/
def Touch.portEnd : Touch := ⟨[], [.field R.PCI_VPEND_PEND, .field R.FRC_EVT_REFUSE]⟩

theorem portEnd_spares : ∀ p : Port, Touch.portEnd.spares (R.FRC_PCMD_STATUS p) = true ∧
    Touch.portEnd.spares (R.FRC_PERR_CODE p) = true := by decide

/-- STATUS and the error code that a force command ends with. -/
theorem forceEnd_shows (s : State) (p : Port) {status err : Nat} (hs : status < 16) (he : err < 16) :
    (forceEnd s p status err).get (R.FRC_PCMD_STATUS p) = status ∧ (forceEnd s p status err).get (R.FRC_PERR_CODE p) = err := by
  let u := (s.set (R.FRC_PCMD_STATUS p) status).set (R.FRC_PERR_CODE p) err
  have hend : Within .portEnd u (forceEnd s p status err) := by
    simp (disch := decide) [forceEnd, u]
  have hne : (R.FRC_PCMD_STATUS p).addr ≠ (R.FRC_PERR_CODE p).addr := by
    simp only [R.FRC_PCMD_STATUS, R.FRC_PERR_CODE]
    omega
  have hwide : 8 + 4 ≤ 36 ∧ 0 + 4 ≤ 36 := by decide
  constructor
  · rw [hend.get _ (portEnd_spares p).1, State.get_set_addr _ _ _ _ hne, State.get_set_same _ _ _ hwide.1]
    exact Nat.mod_eq_of_lt hs
  · rw [hend.get _ (portEnd_spares p).2, State.get_set_same _ _ _ hwide.2]
    exact Nat.mod_eq_of_lt he

/-- A force command that fails: STATUS 5, the error and the event. -/
theorem forceEnd_fails (s : State) (p : Port) {err : Nat} (he : err < 16) :
    (forceEnd s p 5 err).get (R.FRC_PCMD_STATUS p) = 5 ∧ (forceEnd s p 5 err).get (R.FRC_PERR_CODE p) = err ∧
      (forceEnd s p 5 err).flag R.FRC_EVT_REFUSE = true := by
  obtain ⟨hstatus, herr⟩ := forceEnd_shows s p (status := 5) (by decide) he
  exact ⟨hstatus, herr, State.flag_raise_same _ _⟩

/-! ### A force command that is taken -/

/-- A port that has given a force command: CODE, and no error yet. -/
def forceChecked (s : State) (p code : Nat) : State := (s.set (R.FRC_PCMD_CODE p) code).set (R.FRC_PERR_CODE p) 0

theorem reg_forceChecked {p code a : Nat} (hcmd : a ≠ (R.FRC_PCMD_STATUS p).addr) (herr : a ≠ (R.FRC_PERR_CODE p).addr) :
    (forceChecked s p code).reg a = s.reg a :=
  (State.reg_set_other _ _ _ herr).trans (State.reg_set_other _ _ _ hcmd)

/-- The registers of a port that a command reads lie apart from those that it writes first. -/
theorem frcPort_addr (p : Nat) : ((R.FRC_PSYM_SYM p).addr ≠ (R.FRC_PCMD_STATUS p).addr ∧
      (R.FRC_PSYM_SYM p).addr ≠ (R.FRC_PERR_CODE p).addr) ∧
    ((R.FRC_PVAL_VALUE p).addr ≠ (R.FRC_PCMD_STATUS p).addr ∧ (R.FRC_PVAL_VALUE p).addr ≠ (R.FRC_PERR_CODE p).addr) ∧
    ((R.FRC_PENT_ENTRY p).addr ≠ (R.FRC_PCMD_STATUS p).addr ∧ (R.FRC_PENT_ENTRY p).addr ≠ (R.FRC_PERR_CODE p).addr) := by
  simp only [R.FRC_PSYM_SYM, R.FRC_PCMD_STATUS, R.FRC_PERR_CODE, R.FRC_PVAL_VALUE, R.FRC_PENT_ENTRY]
  omega

@[simp] theorem forceChecked_sym (p code : Nat) : (forceChecked s p code).get (R.FRC_PSYM_SYM p) = s.get (R.FRC_PSYM_SYM p) :=
  State.get_congr (reg_forceChecked (frcPort_addr p).1.1 (frcPort_addr p).1.2)

@[simp] theorem forceChecked_elem (p code : Nat) :
    (forceChecked s p code).get (R.FRC_PSYM_ELEM p) = s.get (R.FRC_PSYM_ELEM p) :=
  State.get_congr (reg_forceChecked (frcPort_addr p).1.1 (frcPort_addr p).1.2)

@[simp] theorem forceChecked_value (p code : Nat) :
    (forceChecked s p code).reg (R.FRC_PVAL_VALUE p).addr = s.reg (R.FRC_PVAL_VALUE p).addr :=
  reg_forceChecked (frcPort_addr p).2.1.1 (frcPort_addr p).2.1.2

@[simp] theorem forceChecked_entry (p code : Nat) :
    (forceChecked s p code).get (R.FRC_PENT_ENTRY p) = s.get (R.FRC_PENT_ENTRY p) :=
  State.get_congr (reg_forceChecked (frcPort_addr p).2.2.1 (frcPort_addr p).2.2.2)

theorem getBit_forceChecked (p : Nat) (code i : Nat) :
    (forceChecked s p code).getBit R.FRC_PERM_PERM i = s.getBit R.FRC_PERM_PERM i := by
  have h : (forceChecked s p code).get R.FRC_PERM_PERM = s.get R.FRC_PERM_PERM :=
    State.get_congr (reg_forceChecked (by simp only [R.FRC_PERM_PERM, R.FRC_PCMD_STATUS]; omega)
      (by simp only [R.FRC_PERM_PERM, R.FRC_PERR_CODE]; omega))
  exact State.getBit_congr h i

/-- A port whose force command is taken: none pending, the state admits it, the port may force, a folio is in force. -/
structure ForceAdmitted (s : State) (p : Port) (c : FolioContent) (read : Bool) : Prop where
  status : s.get (R.FRC_PCMD_STATUS p) ≠ 1
  perm : s.getBit R.FRC_PERM_PERM p = true
  content : s.folio.content = some c
  refusal : forceRefusal s read = none

theorem ForceAdmitted.woken {p : Port} {c : FolioContent} {read : Bool} (h : ForceAdmitted s p c read) (w : Bool) :
    ForceAdmitted (s.woken w) p c read := ⟨h.status, h.perm, h.content, h.refusal⟩

theorem forceCommand_taken {p : Port} {code : Nat} {c : FolioContent} {run : FolioContent → State → State}
    (h : ForceAdmitted s p c (code == 4)) : forceCommand s p code run = run c (forceChecked s p code) := by
  obtain ⟨hst, hperm, hc, href⟩ := h
  have href' : forceRefusal (forceChecked s p code) (code == 4) = none := href
  have hc' : (forceChecked s p code).folio.content = some c := hc
  have hperm' := (getBit_forceChecked p code p).trans hperm
  unfold forceCommand
  simp only [if_neg hst]
  rw [show (s.set (R.FRC_PCMD_CODE p) code).set (R.FRC_PERR_CODE p) 0 = forceChecked s p code from rfl]
  simp only [href', hperm', hc', Bool.not_true, Bool.false_eq_true, if_false]

theorem forceCommand_denied {p code : Nat} {run : FolioContent → State → State}
    (hst : s.get (R.FRC_PCMD_STATUS p) ≠ 1) (hperm : s.getBit R.FRC_PERM_PERM p = false)
    (href : forceRefusal s (code == 4) = none) :
    forceCommand s p code run = forceEnd (forceChecked s p code) p 5 6 := by
  have href' : forceRefusal (forceChecked s p code) (code == 4) = none := href
  have hperm' := (getBit_forceChecked p code p).trans hperm
  unfold forceCommand
  simp only [if_neg hst]
  rw [show (s.set (R.FRC_PCMD_CODE p) code).set (R.FRC_PERR_CODE p) 0 = forceChecked s p code from rfl]
  simp only [href', hperm', Bool.not_false, if_true]

/-! ### What a symbol names -/

/-- What the symbol and element of a port name. -/
def portTarget (s : State) (p : Nat) (c : FolioContent) : Except Nat (Scalar × Point) :=
  forceTarget s c (s.get (R.FRC_PSYM_SYM p)) (s.get (R.FRC_PSYM_ELEM p))

theorem portTarget_checked (p code : Nat) (c : FolioContent) : forceTarget (forceChecked s p code) c
    ((forceChecked s p code).get (R.FRC_PSYM_SYM p)) ((forceChecked s p code).get (R.FRC_PSYM_ELEM p)) = portTarget s p c := by
  rw [forceChecked_sym, forceChecked_elem]
  rfl

theorem eq_ok_of_toOption {α ε : Type} {x : Except ε α} {y : α} (h : x.toOption = some y) : x = .ok y := by
  cases x with
  | ok z => rw [Option.some.inj h]
  | error e => nomatch h

theorem eq_error_of_toOption {α ε : Type} {x : Except ε α} (h : x.toOption = none) : ∃ e, x = .error e := by
  cases x with
  | ok z => nomatch h
  | error e => exact ⟨e, rfl⟩

/-- A symbol that names no point that may be forced fails with a code of its own (R307). -/
theorem forceTarget_error {c : FolioContent} {sym elem e : Nat} (h : forceTarget s c sym elem = .error e) :
    e ≠ 0 ∧ e < 16 := by
  unfold forceTarget at h
  repeat' split at h
  all_goals cases h
  all_goals decide

/-! ### A command that waits for its LATCHes -/

/-- A port whose command waits for the LATCHes of its classes (R308). -/
def forceWaits (s : State) (p : Nat) (classes : List Nat) : State :=
  { s.set (R.FRC_PCMD_STATUS p) 1 with forceCmds := s.forceCmds ++ [⟨p, classes⟩] }

theorem forceStart_waits {p : Nat} {classes : List Nat} (hwait : forceAtOnce s = false) (hne : classes.isEmpty = false) :
    forceStart s p classes = forceWaits s p classes := by
  exact (if_neg (Bool.eq_false_iff.mp hwait)).trans (if_neg (Bool.eq_false_iff.mp hne))

theorem forceWaits_status (p : Nat) (classes : List Nat) : (forceWaits s p classes).get (R.FRC_PCMD_STATUS p) = 1 :=
  s.get_set_same (R.FRC_PCMD_STATUS p) 1 (by decide : 8 + 4 ≤ 36)

end
end Sys2Proof.Machine

/-!
SET, CLEAR, CLEARALL and READ of the force table (R306 to R308, R313).
-/
namespace Sys2Proof.Machine

section
variable {s t : State} {p : Port} {c : FolioContent} {ty : Scalar} {pt : Point}

/-! ### SET -/

/-- The force that a port sets on a point, in an entry. -/
def portForce (s : State) (p : Port) (ty : Scalar) (pt : Point) (e : Nat) : Force :=
  ⟨e, s.get (R.FRC_PSYM_SYM p), s.get (R.FRC_PSYM_ELEM p), s.reg (R.FRC_PVAL_VALUE p).addr, pt.word, pt.num, pt.cls, pt.out,
    ty.forceCode.getD 0, false, false, false, none, s.qual pt.word false pt.num⟩

/-- The table with a force added, its entry shown at the port. -/
def forceAdded (s : State) (p : Port) (ty : Scalar) (pt : Point) (e : Nat) : State :=
  { forceChecked s p 1 with forces := s.forces ++ [portForce s p ty pt e] }.set (R.FRC_PENT_ENTRY p) e

theorem forceSet_new {e : Nat} (h : ForceAdmitted s p c false) (htarget : portTarget s p c = .ok (ty, pt))
    (hrange : forceInRange ty (s.reg (R.FRC_PVAL_VALUE p).addr) = true)
    (hfind : s.forces.find? (fun f => f.word == pt.word && f.num == pt.num) = none) (hfree : forceFree s = some e) :
    forceSet s p = forceStart (forceAdded s p ty pt e) p [pt.cls] := by
  have hfind' : (forceChecked s p 1).forces.find? (fun f => f.word == pt.word && f.num == pt.num) = none := hfind
  have hfree' : forceFree (forceChecked s p 1) = some e := hfree
  unfold forceSet
  rw [forceCommand_taken h]
  simp only [(portTarget_checked p 1 c).trans htarget, forceChecked_value, hrange, hfind', hfree', Bool.not_true,
    Bool.false_eq_true, if_false]
  rw [forceChecked_sym, forceChecked_elem]
  rfl

/-- A force that a port gives a new value. -/
def portRenewed (s : State) (p : Port) (f : Force) : Force :=
  { f with
    sym := s.get (R.FRC_PSYM_SYM p), elem := s.get (R.FRC_PSYM_ELEM p)
    next := some (s.reg (R.FRC_PVAL_VALUE p).addr), ending := false }

/-- The only force of the table with the value that a port gives it. -/
def forceRenewed (s : State) (p : Port) (f : Force) : State :=
  { forceChecked s p 1 with forces := [portRenewed s p f] }.set (R.FRC_PENT_ENTRY p) f.entry

theorem forceSet_renews {f : Force} (h : ForceAdmitted s p c false) (htarget : portTarget s p c = .ok (ty, pt))
    (hrange : forceInRange ty (s.reg (R.FRC_PVAL_VALUE p).addr) = true) (hforces : s.forces = [f]) (hword : f.word = pt.word)
    (hnum : f.num = pt.num) : forceSet s p = forceStart (forceRenewed s p f) p [pt.cls] := by
  have hforces' : (forceChecked s p 1).forces = [f] := hforces
  have hfind : [f].find? (fun f => f.word == pt.word && f.num == pt.num) = some f := by simp [hword, hnum]
  unfold forceSet
  rw [forceCommand_taken h]
  simp only [(portTarget_checked p 1 c).trans htarget, forceChecked_value, hrange, hforces', hfind, Bool.not_true,
    Bool.false_eq_true, if_false, updateFirst, beq_self_eq_true, if_true]
  rw [forceChecked_sym, forceChecked_elem]
  rfl

theorem forceSet_outOfRange (h : ForceAdmitted s p c false) (htarget : portTarget s p c = .ok (ty, pt))
    (hrange : forceInRange ty (s.reg (R.FRC_PVAL_VALUE p).addr) = false) :
    forceSet s p = forceEnd (forceChecked s p 1) p 5 7 := by
  unfold forceSet
  rw [forceCommand_taken h]
  simp only [(portTarget_checked p 1 c).trans htarget, forceChecked_value, hrange, Bool.not_false, if_true]

theorem forceSet_noTarget {e : Nat} (h : ForceAdmitted s p c false) (htarget : portTarget s p c = .error e) :
    forceSet s p = forceEnd (forceChecked s p 1) p 5 e := by
  unfold forceSet
  rw [forceCommand_taken h]
  simp only [(portTarget_checked p 1 c).trans htarget]

/-- What a force command touches until it waits for its LATCHes. -/
def Touch.forceCommand : Touch := ⟨[.power, .forces, .forceCmds], [.all R.FRC_PCMD_CODE, .all R.FRC_PERR_CODE,
  .all R.FRC_PCMD_STATUS, .all R.FRC_PENT_ENTRY]⟩

theorem woken_within_forceCommand (s : State) (w : Bool) : Within .forceCommand s (s.woken w) :=
  (woken_within w).mono (by decide)

theorem forceCommand_frame (h : Within .forceCommand s t) :
    t = { s with power := t.power, regs := t.regs, forces := t.forces, forceCmds := t.forceCmds } := h.eq_patch

@[simp ↓] theorem within_forceChecked {q code : Nat} :
    Within .forceCommand s (forceChecked t q code) ↔ Within .forceCommand s t :=
  within_step (by simp (disch := decide) [forceChecked, ↓within_setAll R.FRC_PCMD_CODE, ↓within_setAll R.FRC_PERR_CODE])

@[simp ↓] theorem within_forceWaits {q : Nat} {classes : List Nat} :
    Within .forceCommand s (forceWaits t q classes) ↔ Within .forceCommand s t :=
  within_step ((within_forceCmds (by decide)).mpr ((within_setAll R.FRC_PCMD_STATUS (hT := by decide)).mpr (.refl _ _)))

@[simp ↓] theorem within_forceAdded {e : Nat} : Within .forceCommand s (forceAdded t p ty pt e) ↔ Within .forceCommand s t :=
  within_step (by simp (disch := decide) [forceAdded, ↓within_setAll R.FRC_PENT_ENTRY])

@[simp ↓] theorem within_forceRenewed {f : Force} : Within .forceCommand s (forceRenewed t p f) ↔ Within .forceCommand s t :=
  within_step (by simp (disch := decide) [forceRenewed, ↓within_setAll R.FRC_PENT_ENTRY])

theorem reg_forceWaits {a : Nat} {classes : List Nat} (hcmd : a ≠ (R.FRC_PCMD_STATUS p).addr) :
    (forceWaits s p classes).reg a = s.reg a := s.reg_set_other _ 1 hcmd

theorem reg_forceAdded {a e : Nat} (hent : a ≠ (R.FRC_PENT_ENTRY p).addr) (hcmd : a ≠ (R.FRC_PCMD_STATUS p).addr)
    (herr : a ≠ (R.FRC_PERR_CODE p).addr) : (forceAdded s p ty pt e).reg a = s.reg a := by
  rw [forceAdded, State.reg_set_other _ _ _ hent]
  exact reg_forceChecked (s := s) (p := p) (code := 1) hcmd herr

/-- A port register written by a command that waits keeps what was written to ENTRY. -/
theorem forceWaits_entry {e : Nat} {x : State} {cls : List Nat} :
    (forceWaits (x.set (R.FRC_PENT_ENTRY p) e) p cls).get (R.FRC_PENT_ENTRY p) = e % 2 ^ 10 :=
  (State.get_set_addr _ (R.FRC_PCMD_STATUS p) (R.FRC_PENT_ENTRY p) 1 (frcPort_addr p).2.2.1).trans
    (State.get_set_same _ (R.FRC_PENT_ENTRY p) _ (by decide : 0 + 10 ≤ 36))

theorem forceSet_first_runs (s : State) (p : Port) (fc : FolioContent) (ty : Scalar) (pt : Point) (e : Nat)
    (hpow : s.powered = true) (h : ForceAdmitted s p fc false) (hwait : forceAtOnce s = false)
    (htarget : portTarget s p fc = .ok (ty, pt)) (hrange : forceInRange ty (s.reg (R.FRC_PVAL_VALUE p).addr) = true)
    (hfind : s.forces.find? (fun f => f.word == pt.word && f.num == pt.num) = none) (hfree : forceFree s = some e) :
    Runs (.forceSet p) s fun t => t.forces = s.forces ++ [portForce s p ty pt e] ∧
    t.get (R.FRC_PCMD_STATUS p) = 1 ∧ t.get (R.FRC_PENT_ENTRY p) = e % 2 ^ 10 ∧
    t.forceCmds = s.forceCmds ++ [⟨p, [pt.cls]⟩] ∧
    t = { s with power := t.power, regs := t.regs, forces := t.forces, forceCmds := t.forceCmds } ∧ (∀ a,
    a ≠ (R.FRC_PCMD_STATUS p).addr → a ≠ (R.FRC_PENT_ENTRY p).addr → a ≠ (R.FRC_PERR_CODE p).addr →
    t.reg a = s.reg a) := by
  refine runs_of_master_eq (f := fun s => forceSet s p) (g := fun s => forceWaits (forceAdded s p ty pt e) p [pt.cls]) rfl hpow
    (fun w => ?_) (fun _ => rfl) fun w => ⟨rfl, forceWaits_status _ _, forceWaits_entry, rfl,
    forceCommand_frame (by simp [woken_within_forceCommand]), fun a hcmd hent herr => ?_⟩
  · exact (forceSet_new (h.woken w) htarget hrange hfind hfree).trans (forceStart_waits hwait rfl)
  · rw [reg_forceWaits hcmd, reg_forceAdded hent hcmd herr]
    rfl

theorem forceSet_renews_runs (s : State) (p : Port) (fc : FolioContent) (ty : Scalar) (pt : Point) (f : Force)
    (hpow : s.powered = true) (h : ForceAdmitted s p fc false) (hwait : forceAtOnce s = false)
    (htarget : portTarget s p fc = .ok (ty, pt)) (hrange : forceInRange ty (s.reg (R.FRC_PVAL_VALUE p).addr) = true)
    (hforces : s.forces = [f]) (hword : f.word = pt.word) (hnum : f.num = pt.num) :
    Runs (.forceSet p) s fun t => t.forces = [portRenewed s p f] ∧
    t.get (R.FRC_PCMD_STATUS p) = 1 ∧ t.get (R.FRC_PENT_ENTRY p) = f.entry % 2 ^ 10 ∧
    t.forceCmds = s.forceCmds ++ [⟨p, [pt.cls]⟩] ∧
    t = { s with power := t.power, regs := t.regs, forces := t.forces, forceCmds := t.forceCmds } := by
  refine runs_of_master_eq (f := fun s => forceSet s p) (g := fun s => forceWaits (forceRenewed s p f) p [pt.cls]) rfl hpow
    (fun w => ?_) (fun _ => rfl) fun w => ⟨rfl, forceWaits_status _ _, forceWaits_entry, rfl,
    forceCommand_frame (by simp [woken_within_forceCommand])⟩
  exact (forceSet_renews (h.woken w) htarget hrange hforces hword hnum).trans (forceStart_waits hwait rfl)

/-- What a force command touches that ends at once and leaves the table. -/
def Touch.forceAnswer : Touch := ⟨[.power], [.all R.FRC_PCMD_CODE, .all R.FRC_PERR_CODE, .all R.FRC_PCMD_STATUS,
  .field R.PCI_VPEND_PEND, .field R.FRC_EVT_REFUSE]⟩

theorem forceAnswer_frame (h : Within .forceAnswer s t) : t = { s with power := t.power, regs := t.regs } := h.eq_patch

theorem forceFails_within (s : State) (w : Bool) (p code status err : Nat) :
    Within .forceAnswer s (forceEnd (forceChecked (s.woken w) p code) p status err) := by
  refine .trans (.trans ((woken_within w).mono (by decide)) ?_) ((forceEnd_within _ _ _ _).mono (by decide))
  simp (disch := decide) [forceChecked, ↓within_setAll R.FRC_PCMD_CODE, ↓within_setAll R.FRC_PERR_CODE]

/-- A command that fails shows its error and leaves the table as it was. -/
theorem runs_of_forceFails {i : Instr} {f : State → State} {code err : Nat} (hexec : exec i s = s.serve p f)
    (hpow : s.powered = true) (heq : ∀ w, f (s.woken w) = forceEnd (forceChecked (s.woken w) p code) p 5 err)
    (herr : err < 16) : Runs i s fun t => t.get (R.FRC_PCMD_STATUS p) = 5 ∧ t.get (R.FRC_PERR_CODE p) = err ∧
      t.forces = s.forces ∧ t.forceCmds = s.forceCmds ∧ t.flag R.FRC_EVT_REFUSE = true ∧
      t = { s with power := t.power, regs := t.regs } := by
  refine runs_of_master_eq (g := fun s => forceEnd (forceChecked s p code) p 5 err) hexec hpow heq
    (fun w => ?_) fun w => ?_
  · exact (forceFails_within s w p code 5 err).part .pending
  obtain ⟨hstatus, hcode, hevt⟩ := forceEnd_fails (forceChecked (s.woken w) p code) p herr
  have hwithin := forceFails_within s w p code 5 err
  exact ⟨hstatus, hcode, hwithin.part .forces, hwithin.part .forceCmds, hevt, forceAnswer_frame hwithin⟩

/-! ### A table that changes at once -/

/-- All that a settlement of the table changes beside the end of the command that waited for it. -/
def Touch.forceTake : Touch := ⟨[.forces, .keeper], [.field R.FRC_STAT_COUNT, .field R.FRC_STAT_LED, .field R.FRC_GEN_GEN,
  .field R.FRC_EVT_CHANGE]⟩

/-- A force that stays in the table, as a settlement leaves it (R308). -/
def Force.settled (mine : Force → Bool) (on : Bool) (f : Force) : Force :=
  if mine f then { f with value := f.next.getD f.value, next := none, applied := true, live := on } else f

/-- The forces that a settlement leaves. -/
def settledForces (s : State) (mine : Force → Bool) (act : Bool) : List Force :=
  (s.forces.filter fun f => !(mine f && f.ending)).map (·.settled mine (act && s.flag R.FRC_CTL_ENABLE))

/-- How many changes a settlement makes. -/
def settledCount (s : State) (mine : Force → Bool) : Nat :=
  ((s.forces.filter mine).filter fun f => f.ending || !f.applied || f.next.isSome).length

theorem forceTake_eq (s : State) (mine : Force → Bool) (act : Bool) : forceTake s mine act =
    forceShow (forceChanged { s with forces := settledForces s mine act } (settledCount s mine)) := rfl

/-- All that showing the table changes. -/
def Touch.forceShow : Touch := ⟨[.keeper], [.field R.FRC_STAT_COUNT, .field R.FRC_STAT_LED]⟩

theorem forceShow_within (s : State) : Within .forceShow s (forceShow s) := by
  unfold forceShow
  simp (disch := decide)

theorem forceChanged_within (s : State) (n : Nat) : Within .forceTake s (forceChanged s n) := by
  simp (disch := decide) [forceChanged]

theorem forceTake_within (s : State) (mine : Force → Bool) (act : Bool) :
    Within .forceTake s (forceTake s mine act) :=
  .trans (.trans ((within_forces (by decide)).mpr (.refl _ _)) (forceChanged_within _ _))
    ((forceShow_within _).mono (by decide))

theorem forceShow_forces (s : State) : (forceShow s).forces = s.forces := rfl

theorem forceChanged_forces (s : State) (n : Nat) : (forceChanged s n).forces = s.forces := by
  unfold forceChanged
  split
  · rfl
  · rfl

/-- FRC_STAT.COUNT follows the table (R313). -/
theorem forceShow_count (s : State) :
    (forceShow s).get R.FRC_STAT_COUNT = (s.forces.filter (·.applied)).length % 2 ^ 11 := by
  obtain ⟨on, hregs⟩ : ∃ on, (forceShow s).regs =
      ((s.set R.FRC_STAT_COUNT (s.forces.filter (·.applied)).length).setFlag R.FRC_STAT_LED on).regs := ⟨_, rfl⟩
  rw [State.get, hregs, ← State.get, State.setFlag_eq, State.get_set_bits _ _ _ _ (by decide) (by decide),
    State.get_set_same _ _ _ (by decide)]
  rfl

theorem forceTake_forces (s : State) (mine : Force → Bool) (act : Bool) :
    (forceTake s mine act).forces = settledForces s mine act := by
  rw [forceTake_eq, forceShow_forces, forceChanged_forces]

theorem forceTake_forceCmds (s : State) (mine : Force → Bool) (act : Bool) :
    (forceTake s mine act).forceCmds = s.forceCmds := (forceTake_within s mine act).part .forceCmds

theorem forceSettle_one {classes : List Nat} (h : s.forceCmds = [⟨p, classes⟩]) :
    forceSettle s = forceEnd { forceTake s (fun _ => true) false with forceCmds := [] } p 2 0 := by
  have hcmds := (forceTake_forceCmds s (fun _ => true) false).trans h
  unfold forceSettle forceCmdsLatched
  simp [hcmds, State.forEach]

/-- The count, the generation and the event after a settlement that changes the table. -/
theorem forceTake_shows (s : State) (mine : Force → Bool) (act : Bool) :
    (forceTake s mine act).get R.FRC_STAT_COUNT = ((settledForces s mine act).filter (·.applied)).length % 2 ^ 11 := by
  rw [forceTake_eq, forceShow_count, forceChanged_forces]

theorem forceTake_changed (s : State) (mine : Force → Bool) (act : Bool) (h : settledCount s mine ≠ 0) :
    (forceTake s mine act).get R.FRC_GEN_GEN = (s.get R.FRC_GEN_GEN + settledCount s mine) % 2 ^ 36 ∧
      (forceTake s mine act).flag R.FRC_EVT_CHANGE = true := by
  rw [forceTake_eq, (forceShow_within _).get R.FRC_GEN_GEN, (forceShow_within _).flag R.FRC_EVT_CHANGE, forceChanged,
    if_neg h]
  refine ⟨?_, State.flag_raise_same _ _⟩
  rw [State.raise, State.get_set_addr _ _ _ _ (by decide), State.add, State.get_set_same _ _ _ (by decide)]
  rfl

/-- The state after a command that took effect at once. -/
def forceDone (s : State) (p : Nat) (classes : List Nat) : State :=
  forceEnd { forceTake (forceWaits s p classes) (fun _ => true) false with forceCmds := [] } p 2 0

theorem forceStart_stop {classes : List Nat} (hdev : s.dev = .stop) (hcmds : s.forceCmds = []) :
    forceStart s p classes = forceDone s p classes := by
  have hnow : forceAtOnce (forceWaits s p classes) = true := by simp [forceAtOnce, forceWaits, hdev]
  have hone : (forceWaits s p classes).forceCmds = [⟨p, classes⟩] := by simp [forceWaits, hcmds]
  exact (if_pos hnow).trans (forceSettle_one hone)

theorem settled_waits (classes : List Nat) : settledForces (forceWaits s p classes) (fun _ => true) false =
    (s.forces.filter fun f => !f.ending).map (·.settled (fun _ => true) false) := rfl

/-- What a command changes that takes effect at once. -/
def Touch.forceDone : Touch := ⟨[.power, .forces, .forceCmds, .keeper], [.field R.FRC_STAT_COUNT, .field R.FRC_STAT_LED,
  .field R.FRC_GEN_GEN, .field R.FRC_EVT_CHANGE, .all R.FRC_PCMD_CODE, .all R.FRC_PERR_CODE,
  .all R.FRC_PCMD_STATUS, .all R.FRC_PENT_ENTRY, .field R.PCI_VPEND_PEND, .field R.FRC_EVT_REFUSE]⟩

theorem forceDone_frame (h : Within .forceDone s t) :
    t = { s with power := t.power, regs := t.regs, forces := t.forces, forceCmds := t.forceCmds, keeper := t.keeper } :=
  h.eq_patch

theorem forceDone_within (s : State) (p : Nat) (classes : List Nat) : Within .forceDone s (forceDone s p classes) := by
  have hwaits : Within .forceDone s (forceWaits s p classes) :=
    Within.mono (U := .forceCommand) (within_forceWaits.mpr (.refl _ _)) (by decide)
  refine .trans (.trans hwaits ?_) ((forceEnd_within _ _ _ _).mono (by decide))
  exact .trans ((forceTake_within _ _ _).mono (by decide)) ((within_forceCmds (by decide)).mpr (.refl _ _))

end

section
variable {s t : State} {p : Port} {c : FolioContent} {ty : Scalar} {pt : Point}

/-! ### SET in STOP -/

theorem within_forceDone_woken {u : State} (w : Bool) (h : Within .forceCommand (s.woken w) u) (classes : List Nat) :
    Within .forceDone s (forceDone u p classes) :=
  .trans (.trans ((woken_within w).mono (by decide)) (h.mono (by decide))) (forceDone_within _ _ _)

theorem forceDone_status (s : State) (p : Port) (classes : List Nat) :
    (forceDone s p classes).get (R.FRC_PCMD_STATUS p) = 2 := (forceEnd_shows _ p (by decide) (by decide)).1

theorem forceDone_forces (s : State) (p : Port) (classes : List Nat) : (forceDone s p classes).forces =
    (s.forces.filter fun f => !f.ending).map (·.settled (fun _ => true) false) := by
  rw [forceDone, (forceEnd_within _ _ _ _).part .forces]
  exact (forceTake_forces _ _ _).trans (settled_waits classes)

theorem forceDone_forceCmds (s : State) (p : Port) (classes : List Nat) : (forceDone s p classes).forceCmds = [] :=
  (forceEnd_within _ _ _ _).part .forceCmds

theorem forceDone_count (s : State) (p : Port) (classes : List Nat) : (forceDone s p classes).get R.FRC_STAT_COUNT =
    (((s.forces.filter fun f => !f.ending).map (·.settled (fun _ => true) false)).filter (·.applied)).length % 2 ^ 11 := by
  rw [forceDone, (forceEnd_within _ _ _ _).get R.FRC_STAT_COUNT]
  exact forceTake_shows (forceWaits s p classes) _ _

theorem forceDone_changed (s : State) (p : Port) (classes : List Nat) (h : settledCount s (fun _ => true) ≠ 0) :
    (forceDone s p classes).get R.FRC_GEN_GEN = (s.get R.FRC_GEN_GEN + settledCount s (fun _ => true)) % 2 ^ 36 ∧
      (forceDone s p classes).flag R.FRC_EVT_CHANGE = true := by
  obtain ⟨hgen, hevt⟩ := forceTake_changed (forceWaits s p classes) (fun _ => true) false h
  have hwaits : Within .forceCommand s (forceWaits s p classes) := within_forceWaits.mpr (.refl _ _)
  rw [hwaits.get R.FRC_GEN_GEN] at hgen
  rw [forceDone, (forceEnd_within _ _ _ _).get R.FRC_GEN_GEN, (forceEnd_within _ _ _ _).flag R.FRC_EVT_CHANGE]
  exact ⟨hgen, hevt⟩

theorem forceFree_empty (h : s.forces = []) : forceFree s = some 0 := by
  unfold forceFree
  rw [h, List.find?_range_eq_some]
  simp

theorem forceSet_stop_runs (hpow : s.powered = true) (h : ForceAdmitted s p c false) (hdev : s.dev = .stop)
    (htarget : portTarget s p c = .ok (ty, pt)) (hrange : forceInRange ty (s.reg (R.FRC_PVAL_VALUE p).addr) = true)
    (hforces : s.forces = []) (hcmds : s.forceCmds = []) :
    Runs (.forceSet p) s fun t => t.get (R.FRC_PCMD_STATUS p) = 2 ∧
    t.forces = [{ portForce s p ty pt 0 with applied := true, live := false }] ∧
    t.get R.FRC_STAT_COUNT = 1 ∧ t.get R.FRC_GEN_GEN = (s.get R.FRC_GEN_GEN + 1) % 2 ^ 36 ∧
    t.flag R.FRC_EVT_CHANGE = true ∧ t.forceCmds = [] ∧
    t = { s with power := t.power, regs := t.regs, forces := t.forces, forceCmds := t.forceCmds, keeper := t.keeper } := by
  have hadded (w : Bool) : (forceAdded (s.woken w) p ty pt 0).forces = [portForce s p ty pt 0] :=
    congrArg (· ++ [portForce s p ty pt 0]) hforces
  have hwithin (w : Bool) : Within .forceCommand (s.woken w) (forceAdded (s.woken w) p ty pt 0) :=
    within_forceAdded.mpr (.refl _ _)
  have hcount (w : Bool) : settledCount (forceAdded (s.woken w) p ty pt 0) (fun _ => true) = 1 := by
    rw [settledCount, hadded]
    rfl
  refine runs_of_master_eq (f := fun s => forceSet s p) (g := fun s => forceDone (forceAdded s p ty pt 0) p [pt.cls]) rfl hpow
    (fun w => ?_) (fun w => ?_) fun w => ?_
  · refine (forceSet_new (h.woken w) htarget hrange (by simp [State.woken, hforces]) (forceFree_empty hforces)).trans ?_
    exact forceStart_stop hdev hcmds
  · exact (within_forceDone_woken w (hwithin w) _).part .pending
  · obtain ⟨hgen, hevt⟩ := forceDone_changed (forceAdded (s.woken w) p ty pt 0) p [pt.cls] (by rw [hcount]; decide)
    rw [hcount, (hwithin w).get R.FRC_GEN_GEN] at hgen
    refine ⟨forceDone_status _ _ _, ?_, ?_, hgen, hevt, forceDone_forceCmds _ _ _,
      forceDone_frame (within_forceDone_woken w (hwithin w) _)⟩
    · rw [forceDone_forces, hadded]
      rfl
    · rw [forceDone_count, hadded]
      rfl

theorem forceSet_fails_runs {err : Nat} (hpow : s.powered = true)
    (heq : ∀ w, forceSet (s.woken w) p = forceEnd (forceChecked (s.woken w) p 1) p 5 err) (herr : err < 16) :
    Runs (.forceSet p) s fun t => t.get (R.FRC_PCMD_STATUS p) = 5 ∧ t.get (R.FRC_PERR_CODE p) = err ∧
      t.forces = s.forces ∧ t.forceCmds = s.forceCmds ∧ t.flag R.FRC_EVT_REFUSE = true ∧
      t = { s with power := t.power, regs := t.regs } :=
  runs_of_forceFails (f := fun s => forceSet s p) rfl hpow heq herr

/-! ### CLEAR and CLEARALL -/

/-- The table with the forces of a kind marked to end (R308). -/
def forceMarked (s : State) (p code : Nat) (mine : Force → Bool) : State :=
  { forceChecked s p code with forces := s.forces.map fun f => if mine f then { f with ending := true } else f }

theorem within_forceMarked (s : State) (p code : Nat) (mine : Force → Bool) :
    Within .forceCommand s (forceMarked s p code mine) :=
  (within_forces (by decide)).mpr (within_forceChecked.mpr (.refl _ _))

theorem reg_forceMarked {q code a : Nat} {mine : Force → Bool} (hcmd : a ≠ (R.FRC_PCMD_STATUS q).addr)
    (herr : a ≠ (R.FRC_PERR_CODE q).addr) : (forceMarked s q code mine).reg a = s.reg a := by
  have hmark : (forceMarked s q code mine).reg a = (forceChecked s q code).reg a := rfl
  rw [hmark, reg_forceChecked hcmd herr]

/-- The forces of a point. -/
def Point.isOf (pt : Point) (f : Force) : Bool := f.word == pt.word && f.num == pt.num

/-- A mark does not move a force to another point. -/
theorem any_marked (l : List Force) :
    (l.map fun f => if pt.isOf f then { f with ending := true } else f).any pt.isOf = l.any pt.isOf := by
  rw [List.any_map]
  refine congrArg l.any (funext fun f => ?_)
  simp only [Function.comp_apply]
  split
  · rfl
  · rfl

theorem forceClear_marks (h : ForceAdmitted s p c false) (htarget : portTarget s p c = .ok (ty, pt))
    (hany : s.forces.any pt.isOf = true) : forceClear s p = forceStart (forceMarked s p 2 pt.isOf) p [pt.cls] := by
  have hmarked : (forceMarked s p 2 pt.isOf).forces.any pt.isOf = true := (any_marked _).trans hany
  unfold forceClear
  rw [forceCommand_taken h]
  simp only [(portTarget_checked p 2 c).trans htarget]
  exact congrArg (forceStart _ p) (if_pos hmarked)

theorem forceClearAll_marks (h : ForceAdmitted s p c false) : forceClearAll s p =
    forceStart (forceMarked s p 3 fun _ => true) p (s.forces.map (·.cls)).eraseDups := by
  have hcls : (s.forces.map fun f => { f with ending := true }).map (·.cls) = s.forces.map (·.cls) := by
    rw [List.map_map]
    rfl
  unfold forceClearAll
  rw [forceCommand_taken h]
  exact congrArg (fun l : List Nat => forceStart (forceMarked s p 3 fun _ => true) p l.eraseDups) hcls

theorem forceClear_waits_runs (hpow : s.powered = true) (h : ForceAdmitted s p c false) (hwait : forceAtOnce s = false)
    (htarget : portTarget s p c = .ok (ty, pt)) (hany : s.forces.any pt.isOf = true) :
    Runs (.forceClear p) s fun t =>
    t.forces = s.forces.map (fun f => if pt.isOf f then { f with ending := true } else f) ∧
    t.get (R.FRC_PCMD_STATUS p) = 1 ∧ t.forceCmds = s.forceCmds ++ [⟨p, [pt.cls]⟩] ∧
    t = { s with power := t.power, regs := t.regs, forces := t.forces, forceCmds := t.forceCmds } ∧ (∀ a,
    a ≠ (R.FRC_PCMD_STATUS p).addr → a ≠ (R.FRC_PERR_CODE p).addr → t.reg a = s.reg a) := by
  refine runs_of_master_eq (f := fun s => forceClear s p) (g := fun s => forceWaits (forceMarked s p 2 pt.isOf) p [pt.cls]) rfl
    hpow (fun w => ?_) (fun _ => rfl) fun w => ⟨rfl, forceWaits_status _ _, rfl,
    forceCommand_frame (.trans (woken_within_forceCommand s w) (within_forceWaits.mpr (within_forceMarked _ _ _ _))),
    fun a hcmd herr => ?_⟩
  · exact (forceClear_marks (h.woken w) htarget hany).trans (forceStart_waits hwait rfl)
  · rw [reg_forceWaits hcmd, reg_forceMarked hcmd herr]
    rfl

theorem forceClearAll_waits_runs (hpow : s.powered = true) (h : ForceAdmitted s p c false) (hwait : forceAtOnce s = false)
    (hne : s.forces.isEmpty = false) : Runs (.forceClearall p) s fun t =>
    t.forces = s.forces.map (fun f => { f with ending := true }) ∧ t.get (R.FRC_PCMD_STATUS p) = 1 ∧
    t.forceCmds = s.forceCmds ++ [⟨p, (s.forces.map (·.cls)).eraseDups⟩] ∧
    t = { s with power := t.power, regs := t.regs, forces := t.forces, forceCmds := t.forceCmds } := by
  have hclasses : (s.forces.map (·.cls)).eraseDups.isEmpty = false := by
    cases hl : s.forces with
    | nil => simp [hl] at hne
    | cons f l => simp [List.eraseDups_cons]
  refine runs_of_master_eq (f := fun s => forceClearAll s p)
    (g := fun s => forceWaits (forceMarked s p 3 fun _ => true) p (s.forces.map (·.cls)).eraseDups) rfl
    hpow (fun w => ?_) (fun _ => rfl) fun w => ⟨rfl, forceWaits_status _ _, rfl,
    forceCommand_frame (.trans (woken_within_forceCommand s w) (within_forceWaits.mpr (within_forceMarked _ _ _ _)))⟩
  exact (forceClearAll_marks (h.woken w)).trans (forceStart_waits hwait hclasses)

/-- When every force is marked, none is left. -/
theorem filter_marked (l : List Force) :
    ((l.map fun f => { f with ending := true }).filter fun f => !f.ending) = ([] : List Force) := by
  rw [List.filter_eq_nil_iff]
  simp

theorem forceClearAll_stop_runs (hpow : s.powered = true) (h : ForceAdmitted s p c false) (hdev : s.dev = .stop)
    (hcmds : s.forceCmds = []) : Runs (.forceClearall p) s fun t => t.get (R.FRC_PCMD_STATUS p) = 2 ∧ t.forces = [] ∧
    t.get R.FRC_STAT_COUNT = 0 ∧ t.forceCmds = [] ∧
    t = { s with power := t.power, regs := t.regs, forces := t.forces, forceCmds := t.forceCmds, keeper := t.keeper } := by
  have hnone (w : Bool) : ((forceMarked (s.woken w) p 3 fun _ => true).forces.filter fun f => !f.ending) = [] :=
    filter_marked s.forces
  refine runs_of_master_eq (f := fun s => forceClearAll s p)
    (g := fun s => forceDone (forceMarked s p 3 fun _ => true) p (s.forces.map (·.cls)).eraseDups) rfl hpow
    (fun w => ?_) (fun w => ?_) fun w => ?_
  · exact (forceClearAll_marks (h.woken w)).trans (forceStart_stop hdev hcmds)
  · exact (within_forceDone_woken w (within_forceMarked _ _ _ _) _).part .pending
  · refine ⟨forceDone_status _ _ _, ?_, ?_, forceDone_forceCmds _ _ _,
      forceDone_frame (within_forceDone_woken w (within_forceMarked _ _ _ _) _)⟩
    · rw [forceDone_forces, hnone]
      rfl
    · rw [forceDone_count, hnone]
      rfl

/-! ### READ -/

/-- A port that shows no force. -/
def forceBlank (s : State) (p : Nat) : State := (forceChecked s p 4).setReg (R.FRC_PINFO_VALID p).addr 0

/-- A port that shows a force, its value left out. -/
def forceShown (s : State) (p : Nat) (f : Force) : State :=
  (((((forceBlank s p).set (R.FRC_PINFO_VALID p) 1).set (R.FRC_PINFO_DIR p) (bitNat f.out)).set (R.FRC_PINFO_TYPE p)
    f.ty).set (R.FRC_PINFO_SRCQ p) f.srcq).set (R.FRC_PINFO_POINT p) f.num

/-- The force that a port reads. -/
def forceAt (s : State) (p : Nat) : Option Force :=
  s.forces.find? fun f => f.applied && f.entry == s.get (R.FRC_PENT_ENTRY p)

theorem forceAt_checked (code : Nat) : (forceChecked s p code).forces.find?
    (fun f => f.applied && f.entry == (forceChecked s p code).get (R.FRC_PENT_ENTRY p)) = forceAt s p := by
  rw [forceChecked_entry]
  rfl

theorem forceRead_none (h : ForceAdmitted s p c true) (hnone : forceAt s p = none) :
    forceRead s p = forceEnd (forceBlank s p) p 2 0 := by
  unfold forceRead
  rw [forceCommand_taken h]
  simp only [(forceAt_checked 4).trans hnone]
  rfl

theorem forceRead_some {f : Force} (h : ForceAdmitted s p c true) (hsome : forceAt s p = some f) :
    forceRead s p = forceEnd ((forceShown s p f).setReg (R.FRC_PVAL_VALUE p).addr f.value) p 2 0 := by
  unfold forceRead
  rw [forceCommand_taken h]
  simp only [(forceAt_checked 4).trans hsome]
  rfl

theorem woken_kept {w : Bool} (h : RegsOnly (s.woken w) t) : t.pending = s.pending ∧ t.forces = s.forces := by
  rw [h]
  exact ⟨rfl, rfl⟩

theorem forceChecked_regs (s : State) (p code : Nat) : RegsOnly s (forceChecked s p code) := rfl

theorem forceEnd_regs (s : State) (p status err : Nat) : RegsOnly s (forceEnd s p status err) :=
  (forceEnd_within s p status err).eq_patch

theorem forceBlank_regs (s : State) (p : Nat) : RegsOnly s (forceBlank s p) := (forceChecked_regs s p 4).setReg _ _

theorem forceShown_regs (s : State) (p : Nat) (f : Force) : RegsOnly s (forceShown s p f) :=
  (((((forceBlank_regs s p).set _ _).set _ _).set _ _).set _ _).set _ _

/-- The end of a force command leaves the registers in which a port shows a force. -/
theorem forceEnd_sparesShow : ∀ p : Port, Touch.forceEnd.sparesReg (R.FRC_PINFO_VALID p).addr = true ∧
    Touch.forceEnd.sparesReg (R.FRC_PVAL_VALUE p).addr = true := by decide

theorem reg_forceEnd_info (u : State) (p : Port) (status err : Nat) :
    (forceEnd u p status err).reg (R.FRC_PINFO_VALID p).addr = u.reg (R.FRC_PINFO_VALID p).addr :=
  (forceEnd_within _ _ _ _).reg _ (forceEnd_sparesShow p).1

theorem reg_forceEnd_value (u : State) (p : Port) (status err : Nat) :
    (forceEnd u p status err).reg (R.FRC_PVAL_VALUE p).addr = u.reg (R.FRC_PVAL_VALUE p).addr :=
  (forceEnd_within _ _ _ _).reg _ (forceEnd_sparesShow p).2

/-- The fields of PINFO lie beside each other. -/
theorem frcInfo_apart (p : Nat) :
    (Apart (R.FRC_PINFO_POINT p) (R.FRC_PINFO_SRCQ p) ∧ Apart (R.FRC_PINFO_POINT p) (R.FRC_PINFO_DIR p) ∧
      Apart (R.FRC_PINFO_POINT p) (R.FRC_PINFO_VALID p)) ∧
    (Apart (R.FRC_PINFO_SRCQ p) (R.FRC_PINFO_DIR p) ∧ Apart (R.FRC_PINFO_SRCQ p) (R.FRC_PINFO_VALID p)) ∧
    (Apart (R.FRC_PINFO_TYPE p) (R.FRC_PINFO_DIR p) ∧ Apart (R.FRC_PINFO_TYPE p) (R.FRC_PINFO_VALID p)) ∧
    Apart (R.FRC_PINFO_DIR p) (R.FRC_PINFO_VALID p) := by
  simp [Apart, R.FRC_PINFO_POINT, R.FRC_PINFO_SRCQ, R.FRC_PINFO_DIR, R.FRC_PINFO_VALID, R.FRC_PINFO_TYPE]

/-- What PINFO shows of a force. -/
theorem forceShown_shows (s : State) (p : Nat) (f : Force) : (forceShown s p f).flag (R.FRC_PINFO_VALID p) = true ∧
    (forceShown s p f).get (R.FRC_PINFO_SRCQ p) = f.srcq % 4 ∧ (forceShown s p f).flag (R.FRC_PINFO_DIR p) = f.out := by
  obtain ⟨⟨hps, hpd, hpv⟩, ⟨hsd, hsv⟩, ⟨htd, htv⟩, hdv⟩ := frcInfo_apart p
  unfold forceShown
  refine ⟨?_, ?_, ?_⟩
  · rw [State.flag_set_apart hpv, State.flag_set_apart hsv, State.flag_set_apart htv,
      State.flag_set_apart hdv]
    exact State.flag_set_one ⟨rfl, (by decide : 35 < 36)⟩
  · rw [State.get_set_apart hps]
    exact State.get_set_same _ _ _ (by decide : 29 + 2 ≤ 36)
  · rw [State.flag_set_apart hpd, State.flag_set_apart hsd, State.flag_set_apart htd]
    exact State.flag_set_bitNat ⟨rfl, (by decide : 34 < 36)⟩

theorem forceRead_none_runs (hpow : s.powered = true) (h : ForceAdmitted s p c true) (hnone : forceAt s p = none) :
    Runs (.forceRead p) s fun t => t.get (R.FRC_PCMD_STATUS p) = 2 ∧ t.reg (R.FRC_PINFO_VALID p).addr = 0 ∧
    t.forces = s.forces ∧ t = { s with power := t.power, regs := t.regs } := by
  have hregs (w : Bool) : RegsOnly (s.woken w) (forceEnd (forceBlank (s.woken w) p) p 2 0) :=
    (forceBlank_regs _ _).trans (forceEnd_regs _ _ _ _)
  refine runs_of_master_eq (f := fun s => forceRead s p) (g := fun s => forceEnd (forceBlank s p) p 2 0) rfl hpow
    (fun w => forceRead_none (h.woken w) hnone) (fun w => ?_) fun w => ⟨?_, ?_, ?_, woken_frame (hregs w)⟩
  · exact (woken_kept (hregs w)).1
  · exact (forceEnd_shows _ p (by decide) (by decide)).1
  · rw [reg_forceEnd_info, forceBlank, State.reg_setReg, if_pos rfl]
  · exact (woken_kept (hregs w)).2

theorem forceRead_some_runs {f : Force} (hpow : s.powered = true) (h : ForceAdmitted s p c true)
    (hsome : forceAt s p = some f) :
    Runs (.forceRead p) s fun t => t.get (R.FRC_PCMD_STATUS p) = 2 ∧ t.flag (R.FRC_PINFO_VALID p) = true ∧
    t.reg (R.FRC_PVAL_VALUE p).addr = f.value ∧ t.get (R.FRC_PINFO_SRCQ p) = f.srcq % 4 ∧
    t.flag (R.FRC_PINFO_DIR p) = f.out ∧ t.forces = s.forces ∧ t = { s with power := t.power, regs := t.regs } := by
  let u (w : Bool) : State := (forceShown (s.woken w) p f).setReg (R.FRC_PVAL_VALUE p).addr f.value
  have hregs (w : Bool) : RegsOnly (s.woken w) (forceEnd (u w) p 2 0) :=
    ((forceShown_regs _ _ _).setReg _ _).trans (forceEnd_regs _ _ _ _)
  have hne : (R.FRC_PINFO_VALID p).addr ≠ (R.FRC_PVAL_VALUE p).addr := by
    simp only [R.FRC_PINFO_VALID, R.FRC_PVAL_VALUE]
    omega
  have hinfo (w : Bool) : (forceEnd (u w) p 2 0).reg (R.FRC_PINFO_VALID p).addr =
      (forceShown (s.woken w) p f).reg (R.FRC_PINFO_VALID p).addr := by
    rw [reg_forceEnd_info, State.reg_setReg, if_neg hne]
  refine runs_of_master_eq (f := fun s => forceRead s p)
    (g := fun s => forceEnd ((forceShown s p f).setReg (R.FRC_PVAL_VALUE p).addr f.value) p 2 0) rfl hpow
    (fun w => forceRead_some (h.woken w) hsome) (fun w => (woken_kept (hregs w)).1) fun w => ?_
  obtain ⟨hvalid, hsrcq, hdir⟩ := forceShown_shows (s.woken w) p f
  refine ⟨(forceEnd_shows _ p (by decide) (by decide)).1, (State.flag_congr (hinfo w)).trans hvalid, ?_,
    (State.get_congr (f := R.FRC_PINFO_SRCQ p) (hinfo w)).trans hsrcq,
    (State.flag_congr (f := R.FRC_PINFO_DIR p) (hinfo w)).trans hdir, (woken_kept (hregs w)).2,
    woken_frame (hregs w)⟩
  rw [reg_forceEnd_value, State.reg_setReg, if_pos rfl]

end

/-- Settles O30: a command is taken for what its state admits, and its target is the point that its symbol names. -/
theorem forceCommands : Obligations.ForceCommands := by
  unfold Obligations.ForceCommands
  refine ⟨?_, ?_, ?_, ?_, ?_, ?_, ?_, ?_, ?_, ?_, ?_⟩
  · intro s p fc ty pt e hpow hst hperm hc href hwait htarget hrange hfind hfree
    exact forceSet_first_runs s p fc ty pt e hpow ⟨hst, hperm, hc, href⟩ hwait (eq_ok_of_toOption htarget) hrange
      hfind hfree
  · intro s p fc ty pt hpow hst hperm hc href hdev htarget hrange hforces hcmds
    exact forceSet_stop_runs hpow ⟨hst, hperm, hc, href⟩ hdev (eq_ok_of_toOption htarget) hrange hforces hcmds
  · intro s p fc ty pt hpow hst hperm hc href htarget hrange
    obtain ⟨t, ht, hstatus, herr, hforces, -, hevt, hframe⟩ := forceSet_fails_runs (err := 7) hpow
      (fun w => forceSet_outOfRange (.woken ⟨hst, hperm, hc, href⟩ w) (eq_ok_of_toOption htarget) hrange) (by decide)
    exact ⟨t, ht, hstatus, herr, hforces, hevt, hframe⟩
  · intro s p fc ty pt f hpow hst hperm hc href hwait htarget hrange hforces hword hnum
    exact forceSet_renews_runs s p fc ty pt f hpow ⟨hst, hperm, hc, href⟩ hwait (eq_ok_of_toOption htarget) hrange
      hforces hword hnum
  · intro s p fc hpow hst hperm hc href htarget
    obtain ⟨e, he⟩ := eq_error_of_toOption htarget
    obtain ⟨hne, hlt⟩ := forceTarget_error he
    obtain ⟨t, ht, hstatus, herr, hrest⟩ := forceSet_fails_runs hpow
      (fun w => forceSet_noTarget (.woken ⟨hst, hperm, hc, href⟩ w) he) hlt
    exact ⟨t, ht, hstatus, herr ▸ hne, hrest⟩
  · intro s p fc ty pt hpow hst hperm hc href hwait htarget hany
    exact forceClear_waits_runs hpow ⟨hst, hperm, hc, href⟩ hwait (eq_ok_of_toOption htarget) hany
  · intro s p fc hpow hst hperm hc href hdev hcmds
    exact forceClearAll_stop_runs hpow ⟨hst, hperm, hc, href⟩ hdev hcmds
  · intro s p fc hpow hst hperm hc href hwait hne
    exact forceClearAll_waits_runs hpow ⟨hst, hperm, hc, href⟩ hwait hne
  · intro s p fc f hpow hst hperm hc href hsome
    exact forceRead_some_runs hpow ⟨hst, hperm, hc, href⟩ hsome
  · intro s p fc hpow hst hperm hc href hnone
    exact forceRead_none_runs hpow ⟨hst, hperm, hc, href⟩ hnone
  · intro s p hpow hst href hperm
    obtain ⟨t, ht, hstatus, herr, hforces, -, hevt, hframe⟩ := runs_of_forceFails (i := .forceClear p)
      (f := fun s => forceClear s p) rfl hpow (fun w => forceCommand_denied (s := s.woken w) hst hperm href) (by decide)
    exact ⟨t, ht, hstatus, herr, hforces, hevt, hframe⟩

end Sys2Proof.Machine

/-!
Online change: what a command of OLC_CMD and the staging of a tip-in do (R282 to R285, R294, R301).
-/
namespace Sys2Proof.Machine

/-! ### Power and the PLL do not matter to a placement -/

section
variable {s t : State}

theorem powered_of_olcStates (h : s.dev = .run ∨ s.dev = .stop ∨ s.dev = .halt) : s.powered = true := by
  obtain h | h | h := h <;> rw [State.powered, h] <;> rfl

theorem placeCores_woken (w : Bool) (us : List CoreUnit) (acc : List (CoreUnit × Nat)) :
    placeCores (s.woken w) us acc = placeCores s us acc := by
  induction us generalizing acc with
  | nil => rfl
  | cons u us ih =>
    unfold placeCores
    simp only [ih]
    rfl

theorem placeFabric_woken (w : Bool) (dis : Nat → Bool) (us : List FabricUnit) (acc : List (FabricUnit × Nat)) :
    placeFabric (s.woken w) dis us acc = placeFabric s dis us acc := by
  induction us generalizing acc with
  | nil => rfl
  | cons u us ih =>
    unfold placeFabric
    simp only [ih]
    rfl

theorem placeStaged_woken (w : Bool) (a b : FolioContent) : placeStaged (s.woken w) a b = placeStaged s a b := by
  unfold placeStaged
  simp only [placeCores_woken, placeFabric_woken]
  rfl

theorem fitsStaged_woken (w : Bool) (c : FolioContent) : fitsStaged (s.woken w) c = fitsStaged s c := by
  unfold fitsStaged
  simp only [placeStaged_woken]
  rfl

/-- A tip-in is the only kind that a staging admits. -/
theorem kind_of_wordsFault {ws : List Word} (h : wordsFault s ws [2] = none) : folioKind ws = 2 := by
  by_contra hkind
  have hone : oneOf (folioKind ws) [2] = false := by simp [oneOf, hkind]
  unfold wordsFault at h
  simp only [hone, Bool.not_false, if_true] at h
  split at h
  · cases h
  split at h
  · cases h
  split at h
  · cases h
  · cases h

theorem programFault_woken {ws : List Word} (hkind : folioKind ws = 2) (w : Bool) (c : FolioContent) :
    programFault (s.woken w) ws c fitsStaged = programFault s ws c fitsStaged := by
  unfold programFault
  simp only [hkind, if_true, fitsStaged_woken]
  rfl

/-- Whether a tip-in passes its checks does not depend on the PLL. -/
theorem verify_woken (w : Bool) (img : FolioImage) :
    verify (s.woken w) img [2] fitsStaged = verify s img [2] fitsStaged := by
  unfold verify
  have hwords : wordsFault (s.woken w) img.words [2] = wordsFault s img.words [2] := rfl
  dsimp only
  rw [hwords]
  cases h : wordsFault s img.words [2] with
  | some f => rfl
  | none =>
    simp only [kind_of_wordsFault h, if_true, programFault_woken (kind_of_wordsFault h)]
    rfl

/-! ### A command of OLC_CMD -/

/-- The command register with the code that a master wrote. -/
def olcCoded (s : State) (code : Nat) : State := s.set R.OLC_CMD_CODE code

/-- A state in which a command of OLC_CMD is taken. -/
structure OlcAdmitted (s : State) : Prop where
  dev : s.dev ≠ .standby
  status : s.get R.OLC_CMD_STATUS ≠ 1
  pfail : s.power.pfStep = 0

theorem OlcAdmitted.woken (h : OlcAdmitted s) (w : Bool) : OlcAdmitted (s.woken w) := ⟨h.dev, h.status, h.pfail⟩

theorem olcCommand_taken (h : OlcAdmitted s) (m code : Nat) (run : State → State) :
    olcCommand s m code run = run (olcCoded s code) := by
  obtain ⟨hdev, hst, hpf⟩ := h
  have hdev' : (olcCoded s code).dev ≠ .standby := hdev
  have hpf' : (olcCoded s code).power.pfStep = 0 := hpf
  unfold olcCommand
  simp only [if_neg hst]
  rw [show s.set R.OLC_CMD_CODE code = olcCoded s code from rfl]
  simp [hdev', hpf']

/-- The code that is written leaves every field outside it. -/
theorem get_olcCoded (code : Nat) {f : Fld} (h : Apart R.OLC_CMD_CODE f) : (olcCoded s code).get f = s.get f :=
  State.get_set_apart h

theorem olcState_olcCoded (code : Nat) : olcState (olcCoded s code) = olcState s :=
  get_olcCoded code ⟨by decide, by decide⟩

/-! ### A STAGE that is refused (R282) -/

/-- What a command that is refused touches. -/
def Touch.olcRefusal : Touch := ⟨[.power], [.field R.OLC_CMD_CODE, .field R.OLC_CMD_STATUS]⟩

theorem olcStage_refused (h : OlcAdmitted s) (hno : olcState s ≠ 0 ∨ (s.dev ≠ .run ∧ s.dev ≠ .stop ∧ s.dev ≠ .halt))
    (m : Nat) (img : Option FolioImage) : olcStage s m img = (olcCoded s 1).set R.OLC_CMD_STATUS 3 := by
  have hbad : (!olcStates (olcCoded s 1) || olcState (olcCoded s 1) != 0) = true := by
    rw [olcState_olcCoded]
    obtain hst | ⟨hrun, hstop, hhalt⟩ := hno
    · simp [hst]
    · have hdev : (olcCoded s 1).dev = s.dev := rfl
      simp [olcStates, hdev, hrun, hstop, hhalt]
  unfold olcStage
  rw [olcCommand_taken h]
  exact if_pos hbad

theorem olcRefusal_frame (h : Within .olcRefusal s t) : t = { s with regs := t.regs, power := t.power } := h.eq_patch

theorem olcStage_refused_runs (s : State) (m : Fin 18) (img : Option FolioImage) (hpow : s.powered = true)
    (h : OlcAdmitted s) (hno : olcState s ≠ 0 ∨ (s.dev ≠ .run ∧ s.dev ≠ .stop ∧ s.dev ≠ .halt)) :
    Runs (.olcStage m img) s fun t => t.get R.OLC_CMD_STATUS = 3 ∧ t.olc = s.olc ∧ t.mem = s.mem ∧
    t = { s with regs := t.regs, power := t.power } ∧ (∀ a, a ≠ R.OLC_CMD_STATUS.addr → t.reg a = s.reg a) := by
  have hwithin (w : Bool) : Within .olcRefusal s ((olcCoded (s.woken w) 1).set R.OLC_CMD_STATUS 3) :=
    .trans ((woken_within w).mono (by decide)) (by simp (disch := decide) [olcCoded])
  refine runs_of_master_eq (f := fun s => olcStage s m img) (g := fun s => (olcCoded s 1).set R.OLC_CMD_STATUS 3) rfl hpow
    (fun w => olcStage_refused (h.woken w) hno m img) (fun w => (hwithin w).part .pending) fun w =>
    ⟨?_, (hwithin w).part .olc, (hwithin w).part .mem, olcRefusal_frame (hwithin w), fun a ha => ?_⟩
  · exact State.get_set_same _ _ _ (by decide)
  · exact (hwithin w).reg_of_notMem [R.OLC_CMD_STATUS.addr] (by simpa using ha)

end

/-! ### A STAGE that is checked (R282, R283) -/

section
variable {s t : State} {img : FolioImage} {a b : FolioContent} {sheet : List SheetEntry}

/-- The registers as a check begins. -/
def olcChecked (s : State) : State :=
  (((olcCoded s 1).set R.OLC_STAT_TWCAUSE 0).set R.OLC_STAT_TWINRDY 0).set R.OLC_STAT_CAUSE 0

/-- A state in which a STAGE is checked. -/
structure StageAdmitted (s : State) : Prop where
  dev : s.dev = .run ∨ s.dev = .stop ∨ s.dev = .halt
  status : s.get R.OLC_CMD_STATUS ≠ 1
  pfail : s.power.pfStep = 0
  idle : olcState s = 0
  master : s.flag R.PCI_STAT_BME = true

theorem StageAdmitted.woken (h : StageAdmitted s) (w : Bool) : StageAdmitted (s.woken w) :=
  ⟨h.dev, h.status, h.pfail, h.idle, h.master⟩

theorem olcStates_of (h : s.dev = .run ∨ s.dev = .stop ∨ s.dev = .halt) : olcStates s = true ∧ s.dev ≠ .standby := by
  unfold olcStates
  obtain h | h | h := h <;> simp [h]

theorem StageAdmitted.command (h : StageAdmitted s) : OlcAdmitted s := ⟨(olcStates_of h.dev).2, h.status, h.pfail⟩

/-- The command of a staging that goes on stays pending. -/
def stagePending (s : State) (img : FolioImage) : State :=
  (s.set R.OLC_CMD_STATUS 1).when (hasStandby (s.set R.OLC_CMD_STATUS 1)) fun s =>
    twinSend s 38 8 s.now (img.words.take 256)

/-- The state of a staging that goes on, or the end of the command. -/
def olcStaged (s : State) (img : FolioImage) : State :=
  if olcState s = 1 then stagePending s img else s.olcEnd 6

theorem olcStage_checked (h : StageAdmitted s) (m : Nat) (img : FolioImage) :
    olcStage s m (some img) = olcStaged (olcStageTip (olcChecked s) img) img := by
  have hgood : ¬ (!olcStates (olcCoded s 1) || olcState (olcCoded s 1) != 0) = true := by
    have hstates : olcStates (olcCoded s 1) = true := (olcStates_of h.dev).1
    simp [olcState_olcCoded, h.idle, hstates]
  have hwithin : Within ⟨[], [.word R.OLC_STAT_STATE.addr, .word R.OLC_CMD_CODE.addr]⟩ s (olcChecked s) := by
    simp (disch := decide) [olcChecked, olcCoded]
  have hbme : (if (olcChecked s).flag R.PCI_STAT_BME then some img else none) = some img :=
    if_pos ((hwithin.flag R.PCI_STAT_BME).trans h.master)
  unfold olcStage
  rw [olcCommand_taken h.command]
  simp only [if_neg hgood]
  rw [show (((olcCoded s 1).set R.OLC_STAT_TWCAUSE 0).set R.OLC_STAT_TWINRDY 0).set R.OLC_STAT_CAUSE 0 = olcChecked s
    from rfl, hbme]
  rfl

/-! ### A tip-in that is placed (R283, R284) -/

/-- A staging that has begun. -/
def stageBegun (s : State) (img : FolioImage) (b : FolioContent) : State :=
  ({ s with
      olc := { s.olc with
        staged := some img, next := some b, dirty := [], period := [], acked := none, armAt := none } }.set
    R.OLC_STAT_STATE 1).set R.OLC_STAT_CAUSE 0

/-- A prepared improvement dropped, and the staging shown as the last trigger (R267, R271). -/
def stageReady (s : State) : State :=
  (s.when (s.imposer.prepared.any fun pr => decide (2 ≤ pr.trig) && decide (pr.trig ≤ 4)) prepareEnd).set R.IMP_STAT_TRIG 5

theorem olcStageTip_passes (hverify : verify s img [2] fitsStaged = none) (hc : s.content = some a)
    (hb : combine a (img.program s) (gatherings img.words) = b) (hplace : placeStaged s a b = some sheet) :
    olcStageTip s img = stageWrite (stageReady (stageBegun s img b)) a b sheet := by
  unfold olcStageTip
  simp only [hverify, hc, hb, hplace]
  rfl

/-- What a preparation that is dropped touches. -/
def Touch.stageReady : Touch := ⟨[.imposer], [.field R.IMP_STAT_WAIT, .field R.IMP_STAT_TRIG]⟩

theorem stageReady_within (s : State) : Within .stageReady s (stageReady s) := by
  simp (disch := decide) [stageReady, prepareEnd]

theorem stageReady_sheet (s : State) : (stageReady s).imposer.sheet = s.imposer.sheet := by
  unfold stageReady
  cases s.imposer.prepared.any fun pr => decide (2 ≤ pr.trig) && decide (pr.trig ≤ 4)
  · rfl
  · rfl

/-- The registers that show the staged planes. -/
def Touch.planesShown : Touch := ⟨[], [.upTo R.FAB_QSTAT_STAGED 8, .field R.FAB_STAT_STAGED]⟩

theorem stagedValid_shown {qs : List Nat} (h : ∀ q ∈ qs, q < 8) (ok : Nat → Bool) :
    Within .planesShown s (stagedValid s qs ok) := by
  refine (within_forEach fun q hq u => ?_).mpr (.refl _ s)
  simp (disch := decide) [↓within_setFlagUpTo R.FAB_QSTAT_STAGED (h q hq)]

theorem changedQuires_lt {old new : List SheetEntry} : ∀ q ∈ changedQuires s a b old new, q < 8 := fun _ hq =>
  List.mem_range.mp (List.mem_of_mem_filter hq)

/-- What the writing of a placement touches beside the sheet that it takes. -/
def Touch.stageWrite : Touch := .or ⟨[.mem, .poison, .fabric], []⟩ .planesShown

theorem stagePlanes_within {qs : List Nat} (h : ∀ q ∈ qs, q < 8) (c : FolioContent) (sheet : List SheetEntry) :
    Within .stageWrite s (stagePlanes s qs c sheet) := by
  refine .trans ?_ ((stagedValid_shown h _).mono (by decide))
  exact .forEach (.refl _ s) _ fun q _ u hu => (within_setQuire (by decide)).mpr hu

/-- A placement written has its sheet; beside that code, data and planes differ. -/
theorem stageWrite_within (s : State) (a b : FolioContent) (sheet : List SheetEntry) :
    Within .stageWrite { s with olc := { s.olc with sheet := sheet } } (stageWrite s a b sheet) := by
  refine .trans (.forEach (.forEach (.refl _ _) _ fun u _ v hv => ?_) _ fun g _ v hv => ?_)
    (stagePlanes_within changedQuires_lt b sheet)
  · exact (within_fill (by decide)).mpr hv
  · exact (within_fill (by decide)).mpr hv

/-- The state that a tip-in leaves that passes. -/
def stagePlaced (s : State) (img : FolioImage) (a b : FolioContent) (sheet : List SheetEntry) : State :=
  stageWrite (stageReady (stageBegun s img b)) a b sheet

/-- What a staging touches once it has begun. -/
def Touch.stagePlaced : Touch := .or ⟨[.olc], []⟩ (.or .stageReady .stageWrite)

theorem stagePlaced_within (s : State) (img : FolioImage) (a b : FolioContent) (sheet : List SheetEntry) :
    Within .stagePlaced (stageBegun s img b) (stagePlaced s img a b sheet) :=
  .trans (.trans ((stageReady_within _).mono (by decide)) ((within_olc (by decide)).mpr (.refl _ _)))
    ((stageWrite_within _ _ _ _).mono (by decide))

theorem stagePlaced_olc (s : State) (img : FolioImage) (a b : FolioContent) (sheet : List SheetEntry) :
    (stagePlaced s img a b sheet).olc = { s.olc with
      staged := some img, next := some b, dirty := [], period := [], acked := none, armAt := none, sheet := sheet } := by
  have hready : (stageReady (stageBegun s img b)).olc = (stageBegun s img b).olc := (stageReady_within _).part .olc
  have hwrite : (stagePlaced s img a b sheet).olc = { (stageReady (stageBegun s img b)).olc with sheet := sheet } :=
    (stageWrite_within _ _ _ _).part .olc
  rw [hwrite, hready]
  rfl

theorem stagePlaced_sheet (s : State) (img : FolioImage) (a b : FolioContent) (sheet : List SheetEntry) :
    (stagePlaced s img a b sheet).imposer.sheet = s.imposer.sheet := by
  have hwrite : (stagePlaced s img a b sheet).imposer = (stageReady (stageBegun s img b)).imposer :=
    (stageWrite_within _ _ _ _).part .imposer
  rw [hwrite, stageReady_sheet]
  rfl

theorem stagePlaced_shows (s : State) (img : FolioImage) (a b : FolioContent) (sheet : List SheetEntry) :
    (stagePlaced s img a b sheet).get R.OLC_STAT_STATE = 1 ∧ (stagePlaced s img a b sheet).get R.OLC_STAT_CAUSE = 0 := by
  rw [(stagePlaced_within s img a b sheet).get R.OLC_STAT_STATE, (stagePlaced_within s img a b sheet).get R.OLC_STAT_CAUSE]
  unfold stageBegun
  constructor
  · rw [State.get_set_bits _ _ _ _ (by decide) (by decide), State.get_set_same _ _ _ (by decide)]
    rfl
  · rw [State.get_set_same _ _ _ (by decide)]
    rfl

/-- What a staging touches, with the command that began it. -/
def Touch.staging : Touch := .or ⟨[.power, .twin], [.word R.OLC_STAT_STATE.addr, .word R.OLC_CMD_CODE.addr]⟩ .stagePlaced

theorem staging_frame (h : Within .staging s t) : t = { s with
      regs := t.regs, olc := t.olc, mem := t.mem, poison := t.poison, fabric := t.fabric, imposer := t.imposer
      twin := t.twin, power := t.power } :=
  h.eq_patch

theorem stagePending_within (s : State) (img : FolioImage) :
    Within ⟨[.twin], []⟩ (s.set R.OLC_CMD_STATUS 1) (stagePending s img) := by
  simp (disch := decide) [stagePending]

theorem stagePending_shows (s : State) (img : FolioImage) : (stagePending s img).get R.OLC_CMD_STATUS = 1 ∧
    (stagePending s img).get R.OLC_STAT_STATE = s.get R.OLC_STAT_STATE ∧
    (stagePending s img).get R.OLC_STAT_CAUSE = s.get R.OLC_STAT_CAUSE ∧ (stagePending s img).olc = s.olc ∧
    (stagePending s img).imposer = s.imposer := by
  have h := stagePending_within s img
  refine ⟨?_, ?_, ?_, h.part .olc, h.part .imposer⟩
  · rw [h.get R.OLC_CMD_STATUS, State.get_set_same _ _ _ (by decide)]
    rfl
  · rw [h.get R.OLC_STAT_STATE, State.get_set_addr _ _ _ _ (by decide)]
  · rw [h.get R.OLC_STAT_CAUSE, State.get_set_addr _ _ _ _ (by decide)]

theorem staging_within (s : State) (w : Bool) (img : FolioImage) (a b : FolioContent) (sheet : List SheetEntry) :
    Within .staging s (stagePending (stagePlaced (olcChecked (s.woken w)) img a b sheet) img) := by
  have hchecked : Within .staging s (olcChecked (s.woken w)) :=
    .trans ((woken_within w).mono (by decide)) (by simp (disch := decide) [olcChecked, olcCoded])
  have hbegun (u : State) : Within .staging u (stageBegun u img b) := by
    simp (disch := decide) [stageBegun]
  refine .trans (.trans (.trans hchecked (hbegun _)) ((stagePlaced_within _ _ a b sheet).mono (by decide))) ?_
  exact .trans (by simp (disch := decide)) ((stagePending_within _ _).mono (by decide))

theorem olcStage_passes_runs (s : State) (m : Fin 18) (img : FolioImage) (a : FolioContent) (sh : List SheetEntry)
    (h : StageAdmitted s) (hc : s.content = some a) (hverify : verify (olcChecked s) img [2] fitsStaged = none)
    (hb : combine a (img.program (olcChecked s)) (gatherings img.words) = b)
    (hplace : placeStaged (olcChecked s) a b = some sh) :
    Runs (.olcStage m (some img)) s fun t => t.get R.OLC_STAT_STATE = 1 ∧ t.get R.OLC_STAT_CAUSE = 0 ∧
    t.get R.OLC_CMD_STATUS = 1 ∧ t.olc.staged = some img ∧ t.olc.next = some b ∧ t.olc.sheet = sh ∧ t.folio = s.folio ∧
    t.imposer.sheet = s.imposer.sheet ∧ t.dev = s.dev ∧
    t = { s with
      regs := t.regs, olc := t.olc, mem := t.mem, poison := t.poison, fabric := t.fabric, imposer := t.imposer
      twin := t.twin, power := t.power } := by
  refine runs_of_master_eq (f := fun s => olcStage s m (some img))
    (g := fun s => stagePending (stagePlaced (olcChecked s) img a b sh) img) rfl (powered_of_olcStates h.dev)
    (fun w => ?_) (fun w => (staging_within s w img a b sh).part .pending) fun w => ?_
  · have htip : olcStageTip (olcChecked (s.woken w)) img = stagePlaced (olcChecked (s.woken w)) img a b sh :=
      olcStageTip_passes ((verify_woken (s := olcChecked s) w img).trans hverify) hc hb
        ((placeStaged_woken (s := olcChecked s) w a b).trans hplace)
    rw [olcStage_checked (h.woken w), htip]
    exact if_pos (stagePlaced_shows _ _ _ _ _).1
  · obtain ⟨hstatus, hstate, hcause, holc, himp⟩ := stagePending_shows (stagePlaced (olcChecked (s.woken w)) img a b sh) img
    obtain ⟨hstate', hcause'⟩ := stagePlaced_shows (olcChecked (s.woken w)) img a b sh
    have holc' := holc.trans (stagePlaced_olc (olcChecked (s.woken w)) img a b sh)
    have hwithin := staging_within s w img a b sh
    refine ⟨hstate.trans hstate', hcause.trans hcause', hstatus, ?_, ?_, ?_, hwithin.part .folio, ?_, hwithin.part .dev,
      staging_frame hwithin⟩
    · rw [holc']
    · rw [holc']
    · rw [holc']
    · rw [himp, stagePlaced_sheet]
      rfl

end

/-! ### Registers written in a loop -/

section
variable {s t : State} {img : FolioImage} {a b : FolioContent}

theorem Even.addr_ne {f : Nat → Fld} (he : Even f) {i j : Nat} (h : i ≠ j) : (f i).addr ≠ (f j).addr := by
  obtain ⟨hpos, heven⟩ := he
  rw [(heven i).1, (heven j).1]
  intro hij
  exact h (Nat.eq_of_mul_eq_mul_left (Nat.sub_pos_of_lt hpos) (Nat.add_left_cancel hij))

theorem get_forEach_set_notMem {f : Nat → Fld} (he : Even f) (v : Nat → Nat) {i : Nat} {l : List Nat} (h : i ∉ l) :
    (State.forEach l (fun j s => s.set (f j) (v j)) s).get (f i) = s.get (f i) := by
  refine forEach_induction (P := fun t => t.get (f i) = s.get (f i)) rfl fun j hj u hu => ?_
  have hij : i ≠ j := fun hij => h (hij ▸ hj)
  rw [State.get_set_addr _ _ _ _ (he.addr_ne hij), hu]

theorem get_forEach_set {f : Nat → Fld} (he : Even f) (v : Nat → Nat) {i : Nat} {l : List Nat} (h : i ∈ l)
    (hw : (f i).lo + (f i).width ≤ 36) :
    (State.forEach l (fun j s => s.set (f j) (v j)) s).get (f i) = v i % 2 ^ (f i).width := by
  induction l generalizing s with
  | nil => simp at h
  | cons x xs ih =>
    by_cases hi : i ∈ xs
    · exact ih hi
    · obtain rfl : i = x := (List.mem_cons.mp h).resolve_right hi
      exact (get_forEach_set_notMem he v hi).trans (State.get_set_same _ _ _ hw)

/-! ### A STAGE that a check refuses (R283, R89) -/

/-- What the release of a staging touches. -/
def Touch.olcRelease : Touch := .or ⟨[.olc, .fabric], [.field R.OLC_STAT_STATE, .field R.OLC_STAT_TWINRDY,
  .field R.OLC_STAT_TRIES]⟩ .planesShown

theorem clearStaged_within (s : State) : Within (.or ⟨[.fabric], []⟩ .planesShown) s (clearStaged s) := by
  unfold clearStaged
  refine .trans ?_ ((stagedValid_shown (fun _ => List.mem_range.mp) _).mono (by decide))
  exact .forEach (.refl _ s) _ fun q _ u hu => (within_setQuire (by decide)).mpr hu

theorem olcRelease_within (s : State) : Within .olcRelease s (olcRelease s) := by
  have h : Within .olcRelease s (clearStaged s) := (clearStaged_within s).mono (by decide)
  simp (disch := decide) [olcRelease, h]

theorem olcRelease_olc (s : State) : (olcRelease s).olc = { s.olc with
    staged := none, next := none, sheet := [], dirty := [], period := [], acked := none, armAt := none } := by
  have h : (clearStaged s).olc = s.olc := (clearStaged_within s).part .olc
  rw [← h]
  rfl

theorem olcRelease_state (s : State) : (olcRelease s).get R.OLC_STAT_STATE = 0 := by
  unfold olcRelease
  rw [State.get_set_bits _ _ _ _ (by decide) (by decide), State.get_set_bits _ _ _ _ (by decide) (by decide),
    State.get_set_same _ _ _ (by decide)]
  rfl

/-- What a refused staging touches beside its release. -/
def Touch.olcRefuse : Touch := .or ⟨[], [.field R.OLC_STAT_CAUSE]⟩ (.or .report .olcRelease)

theorem olcRefuse_within (s : State) (cause pos : Nat) (img : Option FolioImage) :
    Within .olcRefuse s (olcRefuse s cause pos img) := by
  have h : Within .olcRefuse s (olcRelease s) := (olcRelease_within s).mono (by decide)
  simp (disch := decide) [olcRefuse, h]

theorem olcRefuse_olc (s : State) (cause pos : Nat) (img : Option FolioImage) :
    (olcRefuse s cause pos img).olc = (olcRelease s).olc := by
  have h : Within (.or ⟨[], [.field R.OLC_STAT_CAUSE]⟩ .report) (olcRelease s) (olcRefuse s cause pos img) := by
    simp (disch := decide) [olcRefuse]
  exact h.part .olc

theorem olcRefuse_shows (s : State) {cause : Nat} (pos : Nat) (img : Option FolioImage) (h : cause < 32) :
    (olcRefuse s cause pos img).get R.OLC_STAT_STATE = 0 ∧ (olcRefuse s cause pos img).get R.OLC_STAT_CAUSE = cause := by
  have hreport : Within .report ((olcRelease s).set R.OLC_STAT_CAUSE cause) (olcRefuse s cause pos img) := by
    simp (disch := decide) [olcRefuse]
  constructor
  · rw [hreport.get R.OLC_STAT_STATE, State.get_set_bits _ _ _ _ (by decide) (by decide), olcRelease_state]
  · rw [hreport.get R.OLC_STAT_CAUSE, State.get_set_same _ _ _ (by decide)]
    exact Nat.mod_eq_of_lt h

/-- The end of a command of OLC_CMD. -/
theorem olcEnd_ends (s : State) (n : Nat) :
    Within ⟨[], [.field R.OLC_CMD_STATUS, .field R.PCI_VPEND_PEND]⟩ s (s.olcEnd n) := by
  simp (disch := decide) [State.olcEnd]

theorem olcEnd_olc (s : State) (n : Nat) : (s.olcEnd n).olc = s.olc := (olcEnd_ends s n).part .olc

theorem olcEnd_status (s : State) {n : Nat} (h : n < 16) : (s.olcEnd n).get R.OLC_CMD_STATUS = n := by
  have hvector : Within ⟨[], [.field R.PCI_VPEND_PEND]⟩ (s.set R.OLC_CMD_STATUS n) (s.olcEnd n) := by
    simp (disch := decide) [State.olcEnd, State.vector]
  rw [hvector.get R.OLC_CMD_STATUS, State.get_set_same _ _ _ (by decide)]
  exact Nat.mod_eq_of_lt h

theorem olcStageTip_fails {cause pos : Nat} (h : verify s img [2] fitsStaged = some (cause, pos)) :
    olcStageTip s img = olcRefuse s cause pos (some img) := by
  unfold olcStageTip
  simp only [h]

/-- What a STAGE that a check refuses touches. -/
def Touch.stageRefused : Touch := .or ⟨[.power], [.word R.OLC_STAT_STATE.addr, .word R.OLC_CMD_CODE.addr,
  .field R.PCI_VPEND_PEND]⟩ .olcRefuse

theorem stageRefused_frame (h : Within .stageRefused s t) :
    t = { s with regs := t.regs, olc := t.olc, fabric := t.fabric, records := t.records, power := t.power } := h.eq_patch

theorem stageRefused_within (s : State) (w : Bool) (cause pos : Nat) (img : Option FolioImage) :
    Within .stageRefused s ((olcRefuse (olcChecked (s.woken w)) cause pos img).olcEnd 6) := by
  have hchecked : Within .stageRefused s (olcChecked (s.woken w)) :=
    .trans ((woken_within w).mono (by decide)) (by simp (disch := decide) [olcChecked, olcCoded])
  exact .trans (.trans hchecked ((olcRefuse_within _ _ _ _).mono (by decide))) ((olcEnd_ends _ _).mono (by decide))

theorem olcStage_fails_runs (s : State) (m : Fin 18) (img : FolioImage) (cause pos : Nat) (h : StageAdmitted s)
    (hverify : verify (olcChecked s) img [2] fitsStaged = some (cause, pos)) (hcause : cause < 32) :
    Runs (.olcStage m (some img)) s fun t => t.get R.OLC_STAT_STATE = 0 ∧ t.get R.OLC_STAT_CAUSE = cause ∧
    t.get R.OLC_CMD_STATUS = 6 ∧ t.olc.staged = none ∧ t.olc.next = none ∧ t.folio = s.folio ∧ t.mem = s.mem ∧
    t = { s with regs := t.regs, olc := t.olc, fabric := t.fabric, records := t.records, power := t.power } := by
  refine runs_of_master_eq (f := fun s => olcStage s m (some img))
    (g := fun s => (olcRefuse (olcChecked s) cause pos (some img)).olcEnd 6) rfl (powered_of_olcStates h.dev)
    (fun w => ?_) (fun w => (stageRefused_within s w cause pos (some img)).part .pending) fun w => ?_
  · obtain ⟨hstate, -⟩ := olcRefuse_shows (olcChecked (s.woken w)) pos (some img) hcause
    have hne : ¬ olcState (olcRefuse (olcChecked (s.woken w)) cause pos (some img)) = 1 := by
      rw [olcState, hstate]
      decide
    have htip : olcStageTip (olcChecked (s.woken w)) img = olcRefuse (olcChecked (s.woken w)) cause pos (some img) :=
      olcStageTip_fails ((verify_woken (s := olcChecked s) w img).trans hverify)
    rw [olcStage_checked (h.woken w), htip]
    exact if_neg hne
  · let u := olcRefuse (olcChecked (s.woken w)) cause pos (some img)
    obtain ⟨hstate, hshown⟩ := olcRefuse_shows (olcChecked (s.woken w)) pos (some img) hcause
    have hend := olcEnd_ends u 6
    have holc : (u.olcEnd 6).olc = (olcRelease (olcChecked (s.woken w))).olc :=
      (olcEnd_olc u 6).trans (olcRefuse_olc _ _ _ _)
    have hwithin := stageRefused_within s w cause pos (some img)
    refine ⟨(hend.get R.OLC_STAT_STATE).trans hstate, (hend.get R.OLC_STAT_CAUSE).trans hshown, olcEnd_status u (by decide),
      ?_, ?_, hwithin.part .folio, hwithin.part .mem, stageRefused_frame hwithin⟩
    · rw [holc, olcRelease_olc]
    · rw [holc, olcRelease_olc]

/-! ### DISCARD (R285) -/

theorem olcDiscard_released (h : OlcAdmitted s) (hst : olcState s = 2 ∨ olcState s = 3) (m : Nat) :
    olcDiscard s m = olcTell ((olcRelease (olcCoded s 5)).olcEnd 2) := by
  have hready : ¬ (olcState (olcCoded s 5) ≠ 2 ∧ olcState (olcCoded s 5) ≠ 3) := by
    rw [olcState_olcCoded]
    omega
  unfold olcDiscard
  rw [olcCommand_taken h]
  exact if_neg hready

/-- What a DISCARD touches. -/
def Touch.olcDiscard : Touch := .or ⟨[.power, .twin], [.word R.OLC_CMD_CODE.addr, .field R.PCI_VPEND_PEND]⟩ .olcRelease

theorem olcDiscard_frame (h : Within .olcDiscard s t) :
    t = { s with regs := t.regs, olc := t.olc, fabric := t.fabric, twin := t.twin, power := t.power } := h.eq_patch

theorem olcTell_within (s : State) : Within ⟨[.twin], []⟩ s (olcTell s) := (within_olcTell (by decide)).mpr (.refl _ s)

theorem olcTell_olc (s : State) : (olcTell s).olc = s.olc := (olcTell_within s).part .olc

theorem olcDiscard_within (s : State) (w : Bool) :
    Within .olcDiscard s (olcTell ((olcRelease (olcCoded (s.woken w) 5)).olcEnd 2)) := by
  have hcoded : Within .olcDiscard s (olcCoded (s.woken w) 5) :=
    .trans ((woken_within w).mono (by decide)) (by simp (disch := decide) [olcCoded])
  exact .trans (.trans (.trans hcoded ((olcRelease_within _).mono (by decide))) ((olcEnd_ends _ _).mono (by decide)))
    ((olcTell_within _).mono (by decide))

theorem olcDiscard_runs (s : State) (m : Fin 18) (hpow : s.powered = true) (h : OlcAdmitted s)
    (hst : olcState s = 2 ∨ olcState s = 3) : Runs (.olcDiscard m) s fun t => t.get R.OLC_STAT_STATE = 0 ∧
    t.get R.OLC_CMD_STATUS = 2 ∧ t.olc.staged = none ∧ t.olc.next = none ∧ t.olc.old = s.olc.old ∧ t.folio = s.folio ∧
    t.mem = s.mem ∧ t = { s with regs := t.regs, olc := t.olc, fabric := t.fabric, twin := t.twin, power := t.power } := by
  refine runs_of_master_eq (f := fun s => olcDiscard s m) (g := fun s => olcTell ((olcRelease (olcCoded s 5)).olcEnd 2)) rfl hpow
    (fun w => olcDiscard_released (h.woken w) hst m) (fun w => (olcDiscard_within s w).part .pending) fun w => ?_
  let u := olcRelease (olcCoded (s.woken w) 5)
  have holc : (olcTell (u.olcEnd 2)).olc = u.olc := (olcTell_olc _).trans (olcEnd_olc u 2)
  have hwithin := olcDiscard_within s w
  refine ⟨?_, ?_, ?_, ?_, ?_, hwithin.part .folio, hwithin.part .mem, olcDiscard_frame hwithin⟩
  · rw [(olcTell_within _).get R.OLC_STAT_STATE, (olcEnd_ends _ _).get R.OLC_STAT_STATE, olcRelease_state]
  · rw [(olcTell_within _).get R.OLC_CMD_STATUS, olcEnd_status _ (by decide)]
  · rw [holc, olcRelease_olc]
  · rw [holc, olcRelease_olc]
  · rw [holc, olcRelease_olc]
    rfl

end

/-! ### FORWARD (R282) -/

section
variable {s t : State} {a b : FolioContent}

/-- The registers that FORWARD reads lie outside the command register. -/
theorem forward_reads (s : State) : olcTarget (olcCoded s 6) = olcTarget s ∧
    (olcCoded s 6).flag (R.SPN_NODE_PRESENT (olcTarget s)) = s.flag (R.SPN_NODE_PRESENT (olcTarget s)) ∧
    (olcCoded s 6).get (R.SPN_NODE_STATE (olcTarget s)) = s.get (R.SPN_NODE_STATE (olcTarget s)) := by
  refine ⟨?_, State.flag_set_apart ⟨by decide, fun h => ?_⟩, State.get_set_apart ⟨by decide, fun h => ?_⟩⟩
  · unfold olcTarget
    rw [get_olcCoded 6 ⟨by decide, by decide⟩, get_olcCoded 6 ⟨by decide, by decide⟩,
      get_olcCoded 6 ⟨by decide, by decide⟩]
  · simp only [R.SPN_NODE_PRESENT, R.OLC_CMD_CODE] at h
    omega
  · simp only [R.SPN_NODE_STATE, R.OLC_CMD_CODE] at h
    omega

/-- A delivery begun. -/
def olcForwarded (s : State) : State :=
  spineSend ({ olcCoded s 6 with olc := { s.olc with forward := some (olcTarget s) } }.set R.OLC_CMD_STATUS 1) 9 8 s.now []

theorem olcForward_begins (h : OlcAdmitted s) (hdev : s.dev = .run ∨ s.dev = .stop ∨ s.dev = .halt) (hact : s.acting = true)
    (hnode : s.get R.OLC_SRC_NODE ≠ 0) (hpresent : s.flag (R.SPN_NODE_PRESENT (olcTarget s)) = true)
    (hstate : s.get (R.SPN_NODE_STATE (olcTarget s)) = 4) (hbme : s.flag R.PCI_STAT_BME = true) (m : Nat) :
    olcForward s m = olcForwarded s := by
  obtain ⟨htarget, hpresent', hstate'⟩ := forward_reads s
  have hact' : (olcCoded s 6).acting = true := (State.flag_set_apart ⟨by decide, by decide⟩).trans hact
  have hbme' : (olcCoded s 6).flag R.PCI_STAT_BME = true := (State.flag_set_apart ⟨by decide, by decide⟩).trans hbme
  have hnode' : (olcCoded s 6).get R.OLC_SRC_NODE ≠ 0 := by
    rw [get_olcCoded 6 ⟨by decide, by decide⟩]
    exact hnode
  have hstates : olcStates (olcCoded s 6) = true := (olcStates_of hdev).1
  unfold olcForward
  rw [olcCommand_taken h]
  simp only [htarget, hpresent', hpresent, hstate', hstate, hact', hbme', hnode', hstates, oneOf, Bool.not_true,
    Bool.false_eq_true, if_false]
  rfl

/-- What FORWARD touches. -/
def Touch.olcForward : Touch := ⟨[.power, .olc, .spine], [.word R.OLC_CMD_STATUS.addr]⟩

theorem olcForward_frame (h : Within .olcForward s t) :
    t = { s with regs := t.regs, olc := t.olc, spine := t.spine, power := t.power } := h.eq_patch

theorem olcForwarded_within (s : State) (w : Bool) : Within .olcForward s (olcForwarded (s.woken w)) := by
  refine .trans ((woken_within w).mono (by decide)) ?_
  have hcoded : Within .olcForward (s.woken w) (olcCoded (s.woken w) 6) := (within_set (by decide)).mpr (.refl _ _)
  exact (within_spineSend (by decide)).mpr ((within_set (by decide)).mpr ((within_olc (by decide)).mpr hcoded))

theorem olcForward_runs (s : State) (m : Fin 18) (h : OlcAdmitted s) (hdev : s.dev = .run ∨ s.dev = .stop ∨ s.dev = .halt)
    (hact : s.acting = true) (hnode : s.get R.OLC_SRC_NODE ≠ 0)
    (hpresent : s.flag (R.SPN_NODE_PRESENT (olcTarget s)) = true) (hstate : s.get (R.SPN_NODE_STATE (olcTarget s)) = 4)
    (hbme : s.flag R.PCI_STAT_BME = true) : Runs (.olcForward m) s fun t => t.olc.forward = some (olcTarget s) ∧
    t.get R.OLC_CMD_STATUS = 1 ∧ t.get R.OLC_STAT_STATE = s.get R.OLC_STAT_STATE ∧ t.spine.sent.head? = some (⟨9, 8,
    s.now % 2 ^ 36, []⟩ : SentFrame) ∧
    t = { s with regs := t.regs, olc := t.olc, spine := t.spine, power := t.power } ∧ (∀ a,
    a ≠ R.OLC_CMD_STATUS.addr → t.reg a = s.reg a) := by
  refine runs_of_master_eq (f := fun s => olcForward s m) (g := olcForwarded) rfl (powered_of_olcStates hdev)
    (fun w => olcForward_begins (h.woken w) hdev hact hnode hpresent hstate hbme m)
    (fun w => (olcForwarded_within s w).part .pending) fun w => ?_
  have hwithin := olcForwarded_within s w
  refine ⟨rfl, ?_, hwithin.get R.OLC_STAT_STATE, rfl, olcForward_frame hwithin,
    fun a ha => hwithin.reg_of_notMem [R.OLC_CMD_STATUS.addr] (by simpa using ha)⟩
  exact State.get_set_same _ R.OLC_CMD_STATUS 1 (by decide)

/-! ### The end of a staging (R285) -/

/-- The staged planes that a staging's end reads back, and its result digest. -/
def stagingRead (s : State) (a b : FolioContent) : State :=
  putDigest (stagedValid s.draw.2 (changedQuires s.draw.2 a b s.imposer.sheet s.olc.sheet) s.draw.1.testBit)
    R.OLC_DIGEST_DIGEST ((b.mapDigests.map (·.2)).getD [])

/-- READY. -/
def stagingReady (s : State) : State := (s.set R.OLC_STAT_STATE 2).when (s.get R.OLC_CMD_STATUS = 1) (·.olcEnd 2)

/-- What showing READY touches. -/
def Touch.stagingReady : Touch := ⟨[], [.field R.OLC_STAT_STATE, .field R.OLC_CMD_STATUS, .field R.PCI_VPEND_PEND]⟩

theorem stagingReady_within (s : State) : Within .stagingReady s (stagingReady s) := by
  simp (disch := decide) [stagingReady, State.olcEnd]

theorem stagingReady_shows (s : State) : (stagingReady s).get R.OLC_STAT_STATE = 2 ∧
    (stagingReady s).get R.OLC_CMD_STATUS = if s.get R.OLC_CMD_STATUS = 1 then 2 else s.get R.OLC_CMD_STATUS := by
  have hready : (s.set R.OLC_STAT_STATE 2).get R.OLC_STAT_STATE = 2 := State.get_set_same _ _ _ (by decide)
  unfold stagingReady
  by_cases h : s.get R.OLC_CMD_STATUS = 1
  · simp only [h, decide_true, State.when, if_true]
    exact ⟨((olcEnd_ends _ 2).get R.OLC_STAT_STATE).trans hready, olcEnd_status _ (by decide)⟩
  · simp only [h, decide_false, State.when, Bool.false_eq_true, if_false]
    exact ⟨hready, State.get_set_addr _ _ _ _ (by decide)⟩

theorem stagingDone_reads (hst : olcState s = 1) (hc : s.content = some a) (hn : s.olc.next = some b) :
    stagingDone s = olcTell (olcPredict (stagingReady (stagingRead s a b))) := by
  unfold stagingDone
  simp only [hc, hn]
  exact if_neg (by simp [hst])

theorem putDigest_within (s : State) (ws : List Word) :
    Within ⟨[], [.upTo R.OLC_DIGEST_DIGEST 8]⟩ s (putDigest s R.OLC_DIGEST_DIGEST ws) :=
  (within_forEach fun _ hi _ => (within_setUpTo R.OLC_DIGEST_DIGEST (List.mem_range.mp hi) (hT := by decide)).mpr
    (.refl _ _)).mpr (.refl _ _)

/-- What a staging's end reads back touches. -/
def Touch.stagingRead : Touch := .or ⟨[.free], [.upTo R.OLC_DIGEST_DIGEST 8]⟩ .planesShown

theorem stagingRead_within (s : State) (a b : FolioContent) : Within .stagingRead s (stagingRead s a b) := by
  have hdraw : Within .stagingRead s s.draw.2 := (within_draw (by decide)).mpr (.refl _ s)
  exact .trans (.trans hdraw ((stagedValid_shown changedQuires_lt _).mono (by decide)))
    ((putDigest_within _ _).mono (by decide))

theorem olcPredict_within (s : State) : Within ⟨[], [.field R.OLC_PRED_T]⟩ s (olcPredict s) := by
  unfold olcPredict
  split
  · simp (disch := decide)
  · exact .refl _ s

/-- What follows the digest at the end of a staging. -/
def Touch.stagingTold : Touch := .or ⟨[.twin], [.field R.OLC_PRED_T]⟩ .stagingReady

theorem stagingTold_within (s : State) : Within .stagingTold s (olcTell (olcPredict (stagingReady s))) :=
  .trans (.trans ((stagingReady_within s).mono (by decide)) ((olcPredict_within _).mono (by decide)))
    ((olcTell_within _).mono (by decide))

theorem stagingTold_sparesDigest : ∀ i < 8, Touch.stagingTold.spares (R.OLC_DIGEST_DIGEST i) = true := by decide

theorem stagingRead_digest (s : State) (a b : FolioContent) {i : Nat} (h : i < 8) :
    (stagingRead s a b).get (R.OLC_DIGEST_DIGEST i) = ((b.mapDigests.elim [] Prod.snd).getD i 0).toNat % 2 ^ 32 := by
  have helim : (b.mapDigests.map (·.2)).getD [] = b.mapDigests.elim [] Prod.snd := by cases b.mapDigests <;> rfl
  rw [← helim]
  exact get_forEach_set ⟨by decide, fun _ => ⟨rfl, rfl, rfl⟩⟩ _ (List.mem_range.mpr h) (by decide : 0 + 32 ≤ 36)

/-- What the end of a staging touches. -/
def Touch.stagingDone : Touch := .or .stagingRead .stagingTold

theorem stagingDone_frame (h : Within .stagingDone s t) : t = { s with regs := t.regs, twin := t.twin, free := t.free } :=
  h.eq_patch

theorem stagingDone_runs (s : State) (a b : FolioContent) (hpow : s.powered = true) (hst : olcState s = 1)
    (hc : s.content = some a) (hn : s.olc.next = some b) : Runs (.stagingDone) s fun t => t.get R.OLC_STAT_STATE = 2 ∧
    (t.get R.OLC_CMD_STATUS = (if s.get R.OLC_CMD_STATUS = 1 then 2 else s.get R.OLC_CMD_STATUS)) ∧
    (((List.range 8).map fun i => BitVec.ofNat 36 (t.get (R.OLC_DIGEST_DIGEST i))) = (List.range 8).map fun i =>
      BitVec.ofNat 36 (((b.mapDigests.elim [] Prod.snd).getD i 0).toNat % 2 ^ 32)) ∧ t.folio = s.folio ∧
    t.mem = s.mem ∧ t.olc = s.olc ∧ t = { s with regs := t.regs, twin := t.twin, free := t.free } := by
  let u := stagingRead s a b
  have hread := stagingRead_within s a b
  have htold := stagingTold_within u
  have hwithin : Within .stagingDone s (olcTell (olcPredict (stagingReady u))) :=
    .trans (hread.mono (by decide)) (htold.mono (by decide))
  have hlast : Within ⟨[.twin], [.field R.OLC_PRED_T]⟩ (stagingReady u) (olcTell (olcPredict (stagingReady u))) :=
    .trans ((olcPredict_within _).mono (by decide)) ((olcTell_within _).mono (by decide))
  obtain ⟨hstate, hstatus⟩ := stagingReady_shows u
  refine runs_of_powered_eq rfl hpow (stagingDone_reads hst hc hn) (hwithin.part .pending) ⟨?_, ?_, ?_,
    hwithin.part .folio, hwithin.part .mem, hwithin.part .olc, stagingDone_frame hwithin⟩
  · exact (hlast.get R.OLC_STAT_STATE).trans hstate
  · rw [hlast.get R.OLC_CMD_STATUS, hstatus, hread.get R.OLC_CMD_STATUS]
  · refine List.map_congr_left fun i hi => congrArg (BitVec.ofNat 36) ?_
    have hi := List.mem_range.mp hi
    exact (htold.get _ (stagingTold_sparesDigest i hi)).trans (stagingRead_digest s a b hi)

/-! ### The background copy (R285) -/

theorem WMap.rd_wrList_other (m : WMap) {a x : Nat} {ws : List Word} (h : x < a ∨ a + ws.length ≤ x) :
    (m.wrList a ws).rd x = m.rd x := by
  induction ws generalizing m a with
  | nil => rfl
  | cons w ws ih =>
    simp only [List.length_cons] at h
    rw [WMap.wrList, ih _ (by omega), WMap.rd_wr_other _ _ (by omega)]

theorem WMap.rd_wrList (m : WMap) (a : Nat) {ws : List Word} {i : Nat} (h : i < ws.length) :
    (m.wrList a ws).rd (a + i) = ws[i] := by
  induction ws generalizing m a i with
  | nil => simp at h
  | cons w ws ih =>
    rw [WMap.wrList]
    cases i with
    | zero => exact (WMap.rd_wrList_other _ (.inl (Nat.lt_succ_self a))).trans (WMap.rd_wr_same ..)
    | succ i =>
      rw [show a + (i + 1) = a + 1 + i by omega]
      exact ih _ _ (Nat.lt_of_succ_lt_succ h)

/-- Words written are read. -/
theorem WMap.rdList_wrList (m : WMap) (a : Nat) (ws : List Word) : (m.wrList a ws).rdList a ws.length = ws := by
  refine List.ext_getElem (by simp [WMap.rdList]) fun i hi hi' => ?_
  simpa [WMap.rdList] using WMap.rd_wrList m a hi'

theorem length_words (s : State) (a n : Nat) : (s.words a n).length = n := by simp [State.words, WMap.rdList]

/-- A carried symbol's words copied to a place: what was read stands there, and nothing else differs. -/
theorem fill_words (s : State) (dest src n : Nat) : (s.fill dest (s.words src n)).words dest n = s.words src n ∧
    ∀ x, x < dest ∨ dest + n ≤ x → (s.fill dest (s.words src n)).word x = s.word x := by
  have hlen := length_words s src n
  constructor
  · have h := WMap.rdList_wrList s.mem dest (s.words src n)
    rw [hlen] at h
    exact h
  · intro x hx
    rw [← hlen] at hx
    exact WMap.rd_wrList_other s.mem hx

/-- The copy of one carried symbol. -/
def copyTo (s : State) (dest src n : Nat) : State := if dest = src then s else s.fill dest (s.words src n)

theorem copyTo_words (s : State) (dest src n : Nat) : (copyTo s dest src n).words dest n = s.words src n ∧
    ∀ x, x < dest ∨ dest + n ≤ x → (copyTo s dest src n).word x = s.word x := by
  unfold copyTo
  split
  · next h => exact ⟨by rw [h], fun _ _ => rfl⟩
  · exact fill_words s dest src n

theorem copyTo_frame (s : State) (dest src n : Nat) : copyTo s dest src n =
    { s with mem := (copyTo s dest src n).mem, poison := (copyTo s dest src n).poison } := by
  unfold copyTo
  split
  · rfl
  · rfl

/-- No word is dirty after the copy. -/
def copyEnd (s : State) : State := { s with olc := { s.olc with dirty := [] } }

theorem copyEnd_frame (h : t = { s with mem := t.mem, poison := t.poison }) :
    (copyEnd t).olc = { s.olc with dirty := [] } ∧
      copyEnd t = { s with mem := (copyEnd t).mem, poison := (copyEnd t).poison, olc := (copyEnd t).olc } := by
  rw [h]
  exact ⟨rfl, rfl⟩

theorem backgroundCopy_one {i j u v o q : Nat} {x y : Symbol} (hst : olcState s = 2 ∨ olcState s = 3)
    (hc : s.content = some a) (hn : s.olc.next = some b) (hpairs : mapPairs b = [(i, 1, j)])
    (hy : b.symbols[i]? = some y) (hx : a.symbols[j]? = some x) (hyh : y.home = .seg u o) (hxh : x.home = .seg v q) :
    backgroundCopy s =
      copyEnd (copyTo s (segBase b s.olc.sheet u + o) (segBase a s.imposer.sheet v + q) (symbolWords y)) := by
  have hgo : ¬ (olcState s ≠ 2 ∧ olcState s ≠ 3) := by omega
  have hone : ([(i, 1, j)].filter fun p => p.2.1 == 1) = [(i, 1, j)] := rfl
  unfold backgroundCopy copyTo
  simp only [hc, hn, if_neg hgo, hpairs, hone, State.forEach, List.foldl_cons, List.foldl_nil, hy, hx, hyh, hxh]
  by_cases hsame : segBase b s.olc.sheet u + o = segBase a s.imposer.sheet v + q
  · simp only [if_pos hsame]
    rfl
  · simp only [if_neg hsame]
    rfl

theorem backgroundCopy_runs (s : State) (a b : FolioContent) (i j u v o q : Nat) (x y : Symbol) (hpow : s.powered = true)
    (hst : olcState s = 2 ∨ olcState s = 3) (hc : s.content = some a) (hn : s.olc.next = some b)
    (hpairs : mapPairs b = [(i, 1, j)]) (hy : b.symbols[i]? = some y) (hx : a.symbols[j]? = some x)
    (hyh : y.home = .seg u o) (hxh : x.home = .seg v q) :
    Runs (.backgroundCopy) s fun t => t.words (segBase b s.olc.sheet u + o) (symbolWords y) = s.words (segBase a
      s.imposer.sheet v + q) (symbolWords y) ∧ t.olc = { s.olc with dirty := [] } ∧ (∀ x,
    x < segBase b s.olc.sheet u + o ∨ segBase b s.olc.sheet u + o + symbolWords y ≤ x → t.word x = s.word x) ∧
    t = { s with mem := t.mem, poison := t.poison, olc := t.olc } := by
  obtain ⟨hwords, hrest⟩ := copyTo_words s (segBase b s.olc.sheet u + o) (segBase a s.imposer.sheet v + q) (symbolWords y)
  have hcopy := copyTo_frame s (segBase b s.olc.sheet u + o) (segBase a s.imposer.sheet v + q) (symbolWords y)
  obtain ⟨holc, hframe⟩ := copyEnd_frame hcopy
  exact runs_of_powered_eq rfl hpow (backgroundCopy_one hst hc hn hpairs hy hx hyh hxh) (by rw [hframe])
    ⟨hwords, holc, hrest, hframe⟩

end

/-- Settles O31: the checks decide whether a tip-in is staged, and every step of a staging leaves the folio in force. -/
theorem onlineChangeStages : Obligations.OnlineChangeStages := by
  unfold Obligations.OnlineChangeStages
  refine ⟨?_, ?_, ?_, ?_, ?_, ?_, ?_⟩
  · intro s m img a sh hdev hst hpf hidle hbme hc hverify hplace
    exact olcStage_passes_runs s m img a sh ⟨hdev, hst, hpf, hidle, hbme⟩ hc hverify rfl hplace
  · intro s m img a cause pos hdev hst hpf hidle hbme hc hverify hcause
    exact olcStage_fails_runs s m img cause pos ⟨hdev, hst, hpf, hidle, hbme⟩ hverify hcause
  · intro s m hdev hst hpf hact hnode hpresent hstate hbme
    exact olcForward_runs s m ⟨(olcStates_of hdev).2, hst, hpf⟩ hdev hact hnode hpresent hstate hbme
  · exact stagingDone_runs
  · intro s a b i j u v o q x y hpow hst hc hn hpairs hy hx hyh hxh _
    exact backgroundCopy_runs s a b i j u v o q x y hpow hst hc hn hpairs hy hx hyh hxh
  · intro s m hpow hdev hst hpf hready
    exact olcDiscard_runs s m hpow ⟨hdev, hst, hpf⟩ hready
  · intro s m img hpow hdev hst hpf hno
    exact olcStage_refused_runs s m img hpow ⟨hdev, hst, hpf⟩ hno

end Sys2Proof.Machine

/-!
What a change of program touches (R289 to R296): of the registers of online change only the count of conversions, neither the
device state nor the folio beside its content; the active time and its timers only where channels change.
-/
namespace Sys2Proof.Machine

/-- What a change of program touches beside the content and the timers of channels. -/
def Touch.switch : Touch where
  parts := [.mem, .poison, .handles, .cycle, .startAt, .fabric, .imposer, .forces, .olc, .watchdog, .keeper, .records,
    .field, .meter, .can, .net]
  bits := [⟨0xC00000, 1, some 0xA000, 0, 36⟩, .field R.OLC_CONV_COUNT, ⟨0xC0B000, 1, none, 0, 36⟩]

/-- The same with the timers of channels. -/
def Touch.switchTimed : Touch := .or ⟨[.time], []⟩ .switch

section
variable {s t : State}

/-! ### Channels (R296) -/

theorem timed_setReg {a : Nat} (w : Word) (ha : 0xC0B000 ≤ a) : Within .switchTimed s (s.setReg a w) := by
  refine ⟨fun c _ => by cases c <;> rfl, fun b j hj => ?_⟩
  rw [State.reg_setReg]
  split
  · next h =>
    subst h
    have hwide : 36 ≤ j := by
      have hspan := List.any_eq_false.mp hj ⟨0xC0B000, 1, none, 0, 36⟩ (by simp [Touch.switchTimed, Touch.or, Touch.switch])
      simp [Span.hits, ha, Nat.mod_one] at hspan
      exact hspan
    rw [BitVec.getLsbD_of_ge _ _ hwide, BitVec.getLsbD_of_ge _ _ hwide]
  · rfl

theorem timed_channelAttach (s : State) (cls idx : Nat) (w : List Word) :
    Within .switchTimed s (channelAttach s cls idx w) := by
  unfold channelAttach
  split <;> simp (disch := decide) [↓within_setAll R.FIO_CCFG_CFG, stnAttach, canAttach, mtrAttach, pqcAttach, viewAttach,
    State.setStation, ↓within_setAll R.STN_ST_STATE, mtrCommit, pqcCommit]

theorem timed_mtrDetach (s : State) (i : Nat) : Within .switchTimed s (mtrDetach s i) := by
  unfold mtrDetach
  dsimp only
  split <;> simp (disch := decide) [mtrCommit]

theorem timed_pqcDetach (s : State) (i : Nat) : Within .switchTimed s (pqcDetach s i) := by
  unfold pqcDetach
  dsimp only
  split <;> simp (disch := decide) [pqcCommit]

theorem timed_stnDetach (s : State) (i : Nat) : Within .switchTimed s (stnDetach s i) := by
  have ha : 0xC0B000 ≤ (R.STN_ST_STATE i).addr := by simp only [R.STN_ST_STATE]; omega
  unfold stnDetach
  exact (within_set (by decide)).mpr (.trans ((within_net (by decide)).mpr (.refl _ s)) (timed_setReg 0 ha))

theorem timed_channelDetach (s : State) (cls idx : Nat) : Within .switchTimed s (channelDetach s cls idx) := by
  unfold channelDetach
  split
  case h_2 => exact timed_stnDetach s idx
  case h_4 => exact timed_mtrDetach s idx
  case h_5 => exact timed_pqcDetach s idx
  all_goals simp (disch := decide) [↓within_setAll R.FIO_CCFG_CFG, canDetach, viewDetach]

theorem switch_poolShow (s : State) : Within .switch s (poolShow s) :=
  .forEach (.refl _ s) _ fun _ hi _ hu =>
    (within_setUpTo R.HND_POOL_USED (List.mem_range.mp hi) (hT := by decide)).mpr hu

theorem timed_poolShow (s : State) : Within .switchTimed s (poolShow s) := (switch_poolShow s).mono (by decide)

theorem timed_channelPut (s : State) (c : Channel) : Within .switchTimed s (channelPut s c) :=
  .trans (.trans ((within_handles (by decide)).mpr (.refl _ s)) (timed_channelAttach _ _ _ _)) (timed_poolShow _)

theorem timed_channelDrop (s : State) (cls idx : Nat) : Within .switchTimed s (channelDrop s cls idx) := by
  refine .trans (.trans (timed_channelDetach s cls idx) ?_) (timed_poolShow _)
  simp (disch := decide) [genAdvance]

theorem timed_channelsSwitch (s : State) (l : List Nat) (new : List ChannelDef) :
    Within .switchTimed s (channelsSwitch s l new) := by
  refine (within_configDue (by decide)).mpr <| (within_handles (by decide)).mpr <|
    .forEach (.forEach (.refl _ s) _ fun c _ u hu => ?_) _ fun d _ u hu => ?_
  · split
    · exact .ite (fun _ => hu.trans (timed_channelDrop _ _ _)) fun _ => hu
    · next d _ =>
      have hnew : Within .switchTimed s (channelPut (channelDetach u c.cls c.idx) { c with words := d.words }) :=
        (hu.trans (timed_channelDetach _ _ _)).trans (timed_channelPut _ _)
      refine .ite (fun _ => (hu.trans (timed_channelDrop _ _ _)).trans (timed_channelPut _ _)) fun _ =>
        .ite (fun _ => hu) fun _ => .ite (fun _ => ?_) fun _ => hnew
      split
      · exact (within_record (by decide)).mpr ((within_setMeterCh (by decide)).mpr hnew)
      · exact hnew
  · exact .ite (fun _ => hu) fun _ => hu.trans (timed_channelPut _ _)

/-- Where no class is named, no channel changes. -/
theorem switch_channelsSwitch_nil (s : State) (new : List ChannelDef) : Within .switch s (channelsSwitch s [] new) := by
  have hnone (l : List Channel) : l.filter (fun c => ([] : List Nat).contains c.cls) = [] := by simp
  have hnone' (l : List ChannelDef) : l.filter (fun c => ([] : List Nat).contains c.cls) = [] := by simp
  unfold channelsSwitch
  rw [hnone, hnone']
  exact (within_configDue (by decide)).mpr ((within_handles (by decide)).mpr (.refl _ s))

/-! ### Values, points, units and forces (R290 to R295) -/

theorem switch_carryPoints (s : State) (a b : FolioContent) (ps : List (Nat × Nat)) :
    Within .switch s (carryPoints s a b ps) :=
  (within_cycle (by decide)).mpr (.forEach (.refl _ s) _ fun _ _ _ hu => (within_putQual (by decide)).mpr hu)

theorem switch_poolSizes (s : State) (c : FolioContent) : Within .switch s (poolSizes s c) :=
  .forEach (.refl _ s) _ fun _ hi _ hu =>
    (within_setUpTo R.HND_POOL_SIZE (List.mem_range.mp hi) (hT := by decide)).mpr hu

theorem switch_carryInstance (s : State) (a b : FolioContent) (l : List UnitSt) (x y : SymHome) :
    Within .switch s (carryInstance s a b l x y) := by
  unfold carryInstance
  dsimp only
  split
  case h_4 => exact .refl _ s
  all_goals split <;> simp (disch := decide)

theorem switch_sheetPut (s : State) (c : FolioContent) (l : List SheetEntry) : Within .switch s (sheetPut s c l) := by
  unfold sheetPut
  extract_lets +lift imposer s₁ s₂ s₃
  have h₁ : Within .switch s s₁ := (within_imposer (by decide)).mpr (.refl _ s)
  have h₂ : Within .switch s s₂ := by
    unfold s₂
    split
    · simp (disch := decide) [h₁]
    · exact h₁
  have h₃ : Within .switch s s₃ := by simp (disch := decide) [s₃, h₂]
  refine .forEach h₃ _ fun k hk u hu => ?_
  have hk := configuredClasses_lt hk
  split
  · exact (within_setUpTo R.IMP_PMARG_MARG hk (hT := by decide)).mpr
      ((within_setUpTo R.IMP_PS_S hk (hT := by decide)).mpr hu)
  · exact hu

theorem switch_writeMember (s : State) (c : FolioContent) (l : List SheetEntry) (h : SymHome) (m : Member) (v : Nat) :
    Within .switch s (writeMember s c l h m v) := by
  unfold writeMember
  split
  · dsimp only
    split <;> simp (disch := decide)
  · simp (disch := decide)
  · exact .refl _ s

theorem switch_putSymbol (s : State) (c : FolioContent) (l : List SheetEntry) (o n : Symbol) (vs : List Nat) :
    Within .switch s (putSymbol s c l o n vs) := by
  refine .forEach (.refl _ s) _ fun p _ u hu => ?_
  have hput (v : Nat) := hu.trans (switch_writeMember u c l n.home p.1 v)
  split
  · exact hu
  · dsimp only
    refine .ite (fun _ => hput _) fun _ => ?_
    split
    · exact (within_add (by decide)).mpr (hput _)
    · exact hu

theorem switch_armsFollow (s : State) (b : FolioContent) (f : FabricUnit → Bool) : Within .switch s (armsFollow s b f) :=
  (within_fabric (by decide)).mpr (.refl _ s)

theorem switch_forceShow (s : State) : Within .switch s (forceShow s) := (forceShow_within s).mono (by decide)

theorem switch_forcesFollow (s : State) (c : FolioContent) (ps : List (Nat × Nat)) (l : List Force) :
    Within .switch s (forcesFollow s c ps l) := by
  refine .trans (.forEach ((within_forces (by decide)).mpr (.refl _ s)) _ fun f _ u hu => ?_) (switch_forceShow _)
  simp (disch := decide) [forceDrop, hu]

theorem switch_slotsSwitch (s : State) (b : FolioContent) : Within .switch s (slotsSwitch s b) := by
  refine .when (.forEach (.refl _ s) _ fun x _ u hu => ?_) (by simp (disch := decide) [windowBegin])
  split
  · simp (disch := decide) [hu, ↓within_setAll R.WDG_SLOT_CLASS, ↓within_setFlagAll R.WDG_SLOT_EVT,
      ↓within_setAll R.WDG_SLOT_TASK]
  · simp (disch := decide) [hu, ↓within_setAll R.WDG_SLOT_EN]

theorem switch_initSymbol (s : State) (b : FolioContent) (l : List SheetEntry) (y : Symbol) :
    Within .switch s (initSymbol s b l y) := by
  unfold initSymbol
  split
  · split
    · exact .forEach (.refl _ s) _ fun _ _ _ hu => (within_store (by decide)).mpr hu
    · exact .refl _ s
  · exact .forEach (.refl _ s) _ fun _ _ _ hu => (within_putPoint (by decide)).mpr hu
  · exact .refl _ s

/-! ### The program changed (R289) -/

/-- The state of a change of program when its content is in force. -/
def programBegun (s : State) (a b : FolioContent) (pairs : List (Nat × Nat)) : State :=
  { carryPoints s a b pairs with folio := { (carryPoints s a b pairs).folio with content := some b } }

/-- A touch that holds a change of program whose channels of the named classes change. -/
structure SwitchTouch (T : Touch) (classes : List Nat) (new : List ChannelDef) : Prop where
  covers : T.covers .switch = true
  channels : ∀ s, Within T s (channelsSwitch s classes new)

theorem switchTouch_nil (new : List ChannelDef) : SwitchTouch .switch [] new :=
  ⟨by decide, fun s => switch_channelsSwitch_nil s new⟩

theorem switchTouch_timed (classes : List Nat) (new : List ChannelDef) : SwitchTouch .switchTimed classes new :=
  ⟨by decide, fun s => timed_channelsSwitch s classes new⟩

theorem programSwitch_after {T : Touch} {classes : List Nat} {b : FolioContent} (hT : SwitchTouch T classes b.channels)
    (s : State) (a : FolioContent) (sheet : List SheetEntry) (pairs : List (Nat × Nat)) (unit0 : FabricUnit → UnitSt) :
    Within T (programBegun s a b pairs) (programSwitch s a b sheet pairs classes unit0) := by
  have step {u v w : State} (h : Within T u v) (k : Within .switch v w) : Within T u w := h.trans (k.mono hT.covers)
  unfold programSwitch
  extract_lets +lift old oldForces vals s₁ oldUnits folio s₂ units fabric s₃ s₄ s₅ s₆ s₇ s₈ s₉ s₁₀
  have h₂ : Within T (programBegun s a b pairs) s₂ := .refl _ _
  have h₃ : Within T (programBegun s a b pairs) s₃ :=
    step (step h₂ ((within_fabric (by decide)).mpr (.refl _ _))) (switch_poolSizes _ _)
  have h₄ : Within T (programBegun s a b pairs) s₄ := by
    refine .forEach h₃ _ fun v _ u hu => ?_
    split
    · exact .ite (fun _ => hu) fun _ => step hu (switch_carryInstance _ _ _ _ _ _)
    · exact hu
  have h₆ : Within T (programBegun s a b pairs) s₆ :=
    step (step h₄ (switch_sheetPut _ _ _)) ((within_add (by decide)).mpr (.refl _ _))
  have h₇ : Within T (programBegun s a b pairs) s₇ := .forEach h₆ _ fun v _ u hu => step hu (switch_putSymbol _ _ _ _ _ _)
  have h₈ : Within T (programBegun s a b pairs) s₈ :=
    .forEach h₇ _ fun p _ u hu => step hu ((within_cycle (by decide)).mpr (.refl _ _))
  have h₉ : Within T (programBegun s a b pairs) s₉ := step h₈ (switch_armsFollow _ _ _)
  have h₁₀ : Within T (programBegun s a b pairs) s₁₀ := step (h₉.trans (hT.channels s₉)) (switch_poolShow _)
  exact step (step h₁₀ (switch_forcesFollow _ _ _ _)) (switch_slotsSwitch _ _)

/-- The content of the new program is in force, and of the folio nothing else differs. -/
theorem programSwitch_folio (s : State) (a b : FolioContent) (sheet : List SheetEntry) (pairs : List (Nat × Nat))
    (classes : List Nat) (unit0 : FabricUnit → UnitSt) :
    (programSwitch s a b sheet pairs classes unit0).folio = { s.folio with content := some b } := by
  have hafter : (programSwitch s a b sheet pairs classes unit0).folio = (programBegun s a b pairs).folio :=
    (programSwitch_after (switchTouch_timed _ _) s a sheet pairs unit0).part .folio
  have hcarry : (carryPoints s a b pairs).folio = s.folio := (switch_carryPoints s a b pairs).part .folio
  rw [hafter, ← hcarry]
  rfl

theorem programSwitch_within {T : Touch} {classes : List Nat} {b : FolioContent} (hT : SwitchTouch T classes b.channels)
    (hfolio : T.has .folio = true) (s : State) (a : FolioContent) (sheet : List SheetEntry) (pairs : List (Nat × Nat))
    (unit0 : FabricUnit → UnitSt) : Within T s (programSwitch s a b sheet pairs classes unit0) := by
  have hbegun : Within T s (programBegun s a b pairs) :=
    (within_folio hfolio).mpr ((switch_carryPoints s a b pairs).mono hT.covers)
  exact hbegun.trans (programSwitch_after hT s a sheet pairs unit0)

end
end Sys2Proof.Machine

/-!
An activation, its undo and its confirmation: what is in force after each, and what each shows (R289, R297, R298).
-/
namespace Sys2Proof.Machine

section
variable {s t : State} {T : Touch}

theorem SwitchTouch.mono {U : Touch} {classes : List Nat} {new : List ChannelDef} (h : SwitchTouch U classes new)
    (hT : T.covers U = true) : SwitchTouch T classes new :=
  ⟨Touch.covers_trans hT h.covers, fun s => (h.channels s).mono hT⟩

/-! ### The planes exchanged (R174) -/

theorem switch_planeExchange {qs : List Nat} (hqs : ∀ q ∈ qs, q < 8) (s : State) :
    Within .switch s (planeExchange s qs) := by
  refine .trans (.forEach (.refl _ s) _ fun q hq u hu => ?_) ((quireShow_within _).mono (by decide))
  exact (within_setUpTo R.FAB_QSTAT_PLANE (hqs q hq) (hT := by decide)).mpr ((within_setQuire (by decide)).mpr hu)

/-- The planes of quires exchanged, with reflex taken over where there are any. -/
def planesTaken (was s : State) (qs : List Nat) : State := (planeExchange s qs).when (!qs.isEmpty) (reflexSwitch was)

theorem Within.reflexSwitch (hT : T.covers .switch = true) (htrig : Triggers T s) (was : State) (h : Within T s t) :
    Within T s (reflexSwitch was t) := by
  have hreflex : T.covers .reflex = true := Touch.covers_trans hT (by decide)
  refine .reflexSettle hreflex htrig (.trans h (.mono (U := .switch) ?_ hT))
  refine .forEach (.forEach (.refl _ t) _ fun i _ u hu => ?_) _ fun _ _ _ hu => (within_pinRelease (by decide)).mpr hu
  exact .ite (fun _ => hu) fun _ => (within_putBit (by decide)).mpr hu

theorem Within.planesTaken (hT : T.covers .switch = true) (htrig : Triggers T s) (was : State) {qs : List Nat}
    (hqs : ∀ q ∈ qs, q < 8) (h : Within T s t) : Within T s (planesTaken was t qs) := by
  have hexchange := h.trans ((switch_planeExchange hqs t).mono hT)
  unfold Machine.planesTaken State.when
  exact .ite (fun _ => hexchange.reflexSwitch hT htrig was) fun _ => hexchange

/-! ### The switch (R289) -/

/-- The old program as a switch keeps it. -/
def keptProgram (s : State) (a b : FolioContent) : OldProgram :=
  ⟨a, s.imposer.sheet, s.fabric.units,
    ((List.range a.symbols.length).filter fun i => !((mapPairs b).map fun p => (p.1, p.2.2)).any (·.2 == i)).map fun i =>
      (i, (a.symbols[i]?).elim [] (symbolValues s a s.imposer.sheet))⟩

/-- The symbols of a new program that carry no value. -/
def freshSymbols (a b : FolioContent) : List Symbol :=
  (((List.range b.symbols.length).filter fun j => !((mapPairs b).map fun p => (p.1, p.2.2)).any (·.1 == j)).filterMap
    (b.symbols[·]?)).filter fun y => match y.home with
      | .seg id _ => a.segments.any fun g => g.id == id
      | _ => true

/-- A switch up to its planes. -/
def switchBody (s : State) (a b : FolioContent) : State :=
  let sheet := sheetFor s a b s.olc.sheet
  let u := programSwitch (s.set R.OLC_STAT_STATE 4) a b sheet ((mapPairs b).map fun p => (p.1, p.2.2)) (stagedClasses s)
    unitInit
  planesTaken s (State.forEach (freshSymbols a b) (fun y s => initSymbol s b sheet y) u)
    (changedQuires s a b s.imposer.sheet sheet)

/-- What a switch shows once the new program is in force, beside its count. -/
def switchShown (s : State) (kept : OldProgram) (at' : Nat) : State :=
  (({ s with olc := { s.olc with old := some kept, acked := none, armAt := none, dirty := [] } }.set
    R.OLC_STAT_STATE 5).set R.OLC_STAT_NOUNDO 0).set R.OLC_LAST_AT (at' % 2 ^ 36)

/-- A command of OLC_CMD ended where one is pending, the tiles gated and the partner told. -/
def olcDone (s : State) (pending : Bool) : State := olcTell (gateTiles (s.when pending (·.olcEnd 2)))

/-- The end of a switch. -/
def switchDone (s : State) : State := olcDone (s.add R.OLC_COUNT_SWITCHES 1) (s.get R.OLC_CMD_STATUS = 1)

theorem olcSwitchNow_eq {a b : FolioContent} (hc : s.content = some a) (hn : s.olc.next = some b) :
    olcSwitchNow s = switchDone (switchShown (switchBody s a b) (keptProgram s a b) (nextMajor s)) := by
  unfold olcSwitchNow
  simp only [hc, hn]
  rfl

/-- What the end of a switch, an undo or a confirmation touches. -/
def Touch.olcDone : Touch := ⟨[.twin], [.field R.OLC_CMD_STATUS, .field R.PCI_VPEND_PEND, .word R.CLK_GATE_CORE.addr,
  .field R.CLK_STAT_PERLOCK, .field R.CLK_STAT_LANELOCK]⟩

theorem gateTiles_within (s : State) : Within .olcDone s (gateTiles s) := by
  unfold gateTiles
  simp (disch := decide)

theorem olcDone_within (s : State) (b : Bool) : Within .olcDone s (olcDone s b) := by
  have hend : Within .olcDone s (s.when b (·.olcEnd 2)) := .when (.refl _ s) ((olcEnd_ends s 2).mono (by decide))
  exact .trans (hend.trans (gateTiles_within _)) ((olcTell_within _).mono (by decide))

/-- A pending command ends as done. -/
theorem olcDone_status (s : State) : (olcDone s true).get R.OLC_CMD_STATUS = 2 := by
  have hgates : Within ⟨[], [.word R.CLK_GATE_CORE.addr, .field R.CLK_STAT_PERLOCK, .field R.CLK_STAT_LANELOCK]⟩
      (s.olcEnd 2) (gateTiles (s.olcEnd 2)) := by
    unfold gateTiles
    simp (disch := decide)
  exact ((olcTell_within _).get R.OLC_CMD_STATUS).trans ((hgates.get R.OLC_CMD_STATUS).trans (olcEnd_status _ (by decide)))

theorem switchBody_within {a b : FolioContent} (hT : SwitchTouch T (stagedClasses s) b.channels)
    (hfolio : T.has .folio = true) (hset : T.sets R.OLC_STAT_STATE = true) (htrig : Triggers T s) :
    Within T s (switchBody s a b) := by
  refine .planesTaken hT.covers htrig s changedQuires_lt (.forEach ?_ _ fun y _ u hu =>
    hu.trans ((switch_initSymbol _ _ _ _).mono hT.covers))
  exact .trans ((within_set hset).mpr (.refl _ s)) (programSwitch_within hT hfolio _ _ _ _ _)

theorem switchBody_content (s : State) (a b : FolioContent) : (switchBody s a b).folio.content = some b := by
  let u := programSwitch (s.set R.OLC_STAT_STATE 4) a b (sheetFor s a b s.olc.sheet) ((mapPairs b).map fun p => (p.1, p.2.2))
    (stagedClasses s) unitInit
  have hrest : Within (.or .trigger .switch) u (switchBody s a b) :=
    .planesTaken (by decide) (.of_covers (by decide) u) s changedQuires_lt (.forEach (.refl _ u) _ fun y _ v hv =>
      hv.trans ((switch_initSymbol _ _ _ _).mono (by decide)))
  have hfolio : (switchBody s a b).folio = u.folio := hrest.part .folio
  rw [hfolio, programSwitch_folio]

/-- What showing a switch touches. -/
def Touch.switchShown : Touch := ⟨[.olc], [.field R.OLC_STAT_STATE, .field R.OLC_STAT_NOUNDO, .field R.OLC_LAST_AT]⟩

theorem switchShown_within (s : State) (kept : OldProgram) (at' : Nat) : Within .switchShown s (switchShown s kept at') :=
  (within_set (by decide)).mpr <| (within_set (by decide)).mpr <| (within_set (by decide)).mpr <|
    (within_olc (by decide)).mpr (.refl _ s)

theorem switchShown_shows (s : State) (kept : OldProgram) (at' : Nat) :
    (switchShown s kept at').get R.OLC_STAT_STATE = 5 ∧ (switchShown s kept at').get R.OLC_LAST_AT = at' % 2 ^ 36 ∧
      (switchShown s kept at').olc.old = some kept := by
  unfold switchShown
  refine ⟨?_, ?_, rfl⟩
  · rw [State.get_set_addr _ _ _ _ (by decide), State.get_set_bits _ _ _ _ (by decide) (by decide),
      State.get_set_same _ _ _ (by decide)]
    rfl
  · rw [State.get_set_same _ _ _ (by decide)]
    exact Nat.mod_mod _ _

/-- What the end of a switch touches. -/
def Touch.switchDone : Touch := .or ⟨[], [.field R.OLC_COUNT_SWITCHES]⟩ .olcDone

theorem switchDone_within (s : State) : Within .switchDone s (switchDone s) :=
  .trans ((within_add (by decide)).mpr (.refl _ s)) ((olcDone_within _ _).mono (by decide))

theorem switchDone_count (s : State) :
    (switchDone s).get R.OLC_COUNT_SWITCHES = (s.get R.OLC_COUNT_SWITCHES + 1) % 2 ^ 18 :=
  ((olcDone_within _ _).get R.OLC_COUNT_SWITCHES).trans (State.get_set_same _ _ _ (by decide))

theorem switchDone_status (h : s.get R.OLC_CMD_STATUS = 1) : (switchDone s).get R.OLC_CMD_STATUS = 2 := by
  unfold switchDone
  rw [decide_eq_true h]
  exact olcDone_status _

/-- What a switch makes of a state (R289). -/
structure Switched (s t : State) (a b : FolioContent) : Prop where
  pending : t.pending = s.pending
  dev : t.dev = s.dev
  content : t.folio.content = some b
  old : t.olc.old = some (keptProgram s a b)
  state : t.get R.OLC_STAT_STATE = 5
  lastAt : t.get R.OLC_LAST_AT = nextMajor s % 2 ^ 36
  count : t.get R.OLC_COUNT_SWITCHES = (s.get R.OLC_COUNT_SWITCHES + 1) % 2 ^ 18
  ended : s.dev ≠ .run → s.get R.OLC_CMD_STATUS = 1 → t.get R.OLC_CMD_STATUS = 2
  time : stagedClasses s = [] → t.time = s.time

/-- What a switch touches before it is shown. -/
def Touch.switchBody : Touch := .or ⟨[.folio], [.field R.OLC_STAT_STATE]⟩ .switch

theorem olcSwitchNow_switched {a b : FolioContent} (hc : s.content = some a) (hn : s.olc.next = some b) :
    Switched s (olcSwitchNow s) a b := by
  let v := switchShown (switchBody s a b) (keptProgram s a b) (nextMajor s)
  have hbody : Within (.or ⟨[.time], []⟩ (.or .trigger .switchBody)) s (switchBody s a b) :=
    switchBody_within ((switchTouch_timed _ _).mono (by decide)) (by decide) (by decide) (.of_covers (by decide) s)
  have hshown := switchShown_within (switchBody s a b) (keptProgram s a b) (nextMajor s)
  obtain ⟨hstate, hat, hold⟩ := switchShown_shows (switchBody s a b) (keptProgram s a b) (nextMajor s)
  have hdone := switchDone_within v
  have hlate : Within (.or .switchShown .switchDone) (switchBody s a b) (switchDone v) :=
    .trans (hshown.mono (by decide)) (hdone.mono (by decide))
  have hfolio : (switchDone v).folio = (switchBody s a b).folio := hlate.part .folio
  have holc : (switchDone v).olc = v.olc := hdone.part .olc
  have hall : Within (.or ⟨[.time], []⟩ (.or (.or .trigger .switchBody) (.or .switchShown .switchDone))) s (switchDone v) :=
    .trans (hbody.mono (by decide)) (hlate.mono (by decide))
  rw [olcSwitchNow_eq hc hn]
  refine ⟨hall.part .pending, hall.part .dev, ?_, ?_, (hdone.get R.OLC_STAT_STATE).trans hstate,
    (hdone.get R.OLC_LAST_AT).trans hat, ?_, fun hdev hst => ?_, fun hnil => ?_⟩
  · rw [hfolio, switchBody_content]
  · rw [holc, hold]
  · rw [switchDone_count, hshown.get R.OLC_COUNT_SWITCHES, hbody.get R.OLC_COUNT_SWITCHES]
  · have hquiet : Within (.or ⟨[.time], []⟩ .switchBody) s (switchBody s a b) :=
      switchBody_within ((switchTouch_timed _ _).mono (by decide)) (by decide) (by decide) (.of_not_run (by decide) hdev)
    refine switchDone_status ?_
    rw [hshown.get R.OLC_CMD_STATUS, hquiet.get R.OLC_CMD_STATUS, hst]
  · have hclasses : SwitchTouch (.or .trigger .switchBody) (stagedClasses s) b.channels := by
      rw [hnil]
      exact (switchTouch_nil _).mono (by decide)
    have hkeep : Within (.or .trigger .switchBody) s (switchBody s a b) :=
      switchBody_within hclasses (by decide) (by decide) (.of_covers (by decide) s)
    exact Eq.trans (hlate.part .time) (hkeep.part .time)

end

section
variable {s t : State} {T : Touch}

/-! ### The undo (R298) -/

/-- The values of the old program put back. -/
def undoValues (s : State) (o : OldProgram) (sheet : List SheetEntry) : State :=
  State.forEach o.values (fun v s => match o.content.symbols[v.1]? with
    | some y => putSymbol s o.content sheet y y v.2
    | none => s) s

theorem switch_undoValues (s : State) (o : OldProgram) (sheet : List SheetEntry) :
    Within .switch s (undoValues s o sheet) := by
  refine .forEach (.refl _ s) _ fun v _ u hu => ?_
  split
  · exact hu.trans (switch_putSymbol _ _ _ _ _ _)
  · exact hu

/-- The old program brought back up to its values. -/
def undoProgram (s : State) (b : FolioContent) (o : OldProgram) : State :=
  programSwitch s b o.content (sheetFor s b o.content o.sheet) ((mapPairs b).map fun p => (p.2.2, p.1)) (stagedClasses s)
    fun u => (o.units.find? (·.id == u.id)).getD (unitInit u)

/-- An undo up to its planes. -/
def undoBody (s : State) (b : FolioContent) (o : OldProgram) : State :=
  planesTaken s (undoValues (undoProgram s b o) o (sheetFor s b o.content o.sheet))
    (changedQuires s b o.content s.imposer.sheet (sheetFor s b o.content o.sheet))

/-- The undo counted and recorded, and what was staged released. -/
def undoShown (s : State) (cause : Nat) : State :=
  let u := (s.add R.OLC_COUNT_UNDOS 1).record 66 10 (if cause ≤ 1 then 2 else cause + 1) (s.get R.OLC_STAT_CAUSE)
  olcRelease ({ u with olc := { u.olc with old := none, confirmDue := false, undoDue := 0 } }.set R.OLC_STAT_NOUNDO 0)

theorem undoNow_eq {b : FolioContent} {o : OldProgram} (hc : s.content = some b) (ho : s.olc.old = some o) :
    undoNow s = olcDone (undoShown (undoBody s b o) s.olc.undoDue)
      ((undoShown (undoBody s b o) s.olc.undoDue).get R.OLC_CMD_STATUS = 1) := by
  unfold undoNow
  simp only [hc, ho]
  rfl

/-- What showing an undo touches beside its count. -/
def Touch.undoShown : Touch := .or ⟨[], [.field R.OLC_STAT_NOUNDO]⟩ (.or .report .olcRelease)

theorem undoShown_within (s : State) (cause : Nat) : Within .undoShown (s.add R.OLC_COUNT_UNDOS 1) (undoShown s cause) :=
  .trans ((within_set (by decide)).mpr <| (within_olc (by decide)).mpr <| (within_record (by decide)).mpr (.refl _ _))
    ((olcRelease_within _).mono (by decide))

theorem undoShown_shows (s : State) (cause : Nat) : (undoShown s cause).get R.OLC_STAT_STATE = 0 ∧
    (undoShown s cause).olc.old = none ∧ (undoShown s cause).olc.undoDue = 0 ∧
    (undoShown s cause).get R.OLC_COUNT_UNDOS = (s.get R.OLC_COUNT_UNDOS + 1) % 2 ^ 18 := by
  refine ⟨olcRelease_state _, ?_, ?_, ?_⟩
  · rw [undoShown, olcRelease_olc]
    rfl
  · rw [undoShown, olcRelease_olc]
    rfl
  · rw [(undoShown_within s cause).get R.OLC_COUNT_UNDOS]
    exact State.get_set_same _ _ _ (by decide)

/-- What an undo makes of a state (R298). -/
structure Undone (s t : State) (o : OldProgram) : Prop where
  pending : t.pending = s.pending
  dev : t.dev = s.dev
  content : t.folio.content = some o.content
  old : t.olc.old = none
  due : t.olc.undoDue = 0
  state : t.get R.OLC_STAT_STATE = 0
  count : t.get R.OLC_COUNT_UNDOS = (s.get R.OLC_COUNT_UNDOS + 1) % 2 ^ 18

/-- What an undo touches before it is shown. -/
def Touch.undoBody : Touch := .or ⟨[.folio, .time], []⟩ (.or .trigger .switch)

theorem undoBody_within (s : State) (b : FolioContent) (o : OldProgram) : Within .undoBody s (undoBody s b o) := by
  have hprogram : Within .undoBody s (undoProgram s b o) :=
    programSwitch_within ((switchTouch_timed _ _).mono (by decide)) (by decide) _ _ _ _ _
  exact .planesTaken (by decide) (.of_covers (by decide) s) s changedQuires_lt
    (hprogram.trans ((switch_undoValues _ _ _).mono (by decide)))

theorem undoBody_content (s : State) (b : FolioContent) (o : OldProgram) :
    (undoBody s b o).folio.content = some o.content := by
  have hrest : Within (.or .trigger .switch) (undoProgram s b o) (undoBody s b o) :=
    .planesTaken (by decide) (.of_covers (by decide) _) s changedQuires_lt ((switch_undoValues _ _ _).mono (by decide))
  have hfolio : (undoBody s b o).folio = (undoProgram s b o).folio := hrest.part .folio
  rw [hfolio, undoProgram, programSwitch_folio]

theorem undoNow_undone {b : FolioContent} {o : OldProgram} (hc : s.content = some b) (ho : s.olc.old = some o) :
    Undone s (undoNow s) o := by
  let v := undoShown (undoBody s b o) s.olc.undoDue
  have hbody := undoBody_within s b o
  have hshown : Within (.or ⟨[], [.field R.OLC_COUNT_UNDOS]⟩ .undoShown) (undoBody s b o) v :=
    .trans ((within_add (by decide)).mpr (.refl _ _)) ((undoShown_within _ _).mono (by decide))
  obtain ⟨hstate, hold, hdue, hcount⟩ := undoShown_shows (undoBody s b o) s.olc.undoDue
  have hdone := olcDone_within v (v.get R.OLC_CMD_STATUS = 1)
  have hlate : Within (.or (.or ⟨[], [.field R.OLC_COUNT_UNDOS]⟩ .undoShown) .olcDone) (undoBody s b o) _ :=
    .trans (hshown.mono (by decide)) (hdone.mono (by decide))
  have hall : Within (.or .undoBody (.or (.or ⟨[], [.field R.OLC_COUNT_UNDOS]⟩ .undoShown) .olcDone)) s _ :=
    .trans (hbody.mono (by decide)) (hlate.mono (by decide))
  have hfolio : (olcDone v (v.get R.OLC_CMD_STATUS = 1)).folio = (undoBody s b o).folio := hlate.part .folio
  have holc : (olcDone v (v.get R.OLC_CMD_STATUS = 1)).olc = v.olc := hdone.part .olc
  rw [undoNow_eq hc ho]
  refine ⟨hall.part .pending, hall.part .dev, ?_, ?_, ?_, (hdone.get R.OLC_STAT_STATE).trans hstate, ?_⟩
  · rw [hfolio, undoBody_content]
  · rw [holc, hold]
  · rw [holc, hdue]
  · rw [hdone.get R.OLC_COUNT_UNDOS, hcount, hbody.get R.OLC_COUNT_UNDOS]

/-! ### The confirmation (R297) -/

/-- The folio of a confirmed program, with the digest that its tip-in gives. -/
def confirmBegun (s : State) (b : FolioContent) : State :=
  match b.mapDigests with
  | some d => putDigest s R.FOL_DIGEST_DIGEST d.2
  | none => s

/-- The folio in force after a confirmation, with its program digest. -/
def confirmMerged (s : State) (b : FolioContent) : State :=
  let u := confirmBegun s b
  (putDigest { u with folio := { u.folio with bodies := confirmedBodies u b } } R.FOL_PDIGEST_DIGEST
    (programSha (confirmedBodies u b))).raise R.FOL_STAT_DIVERGED

/-- The old program let go, and what was staged released. -/
def confirmReleased (s : State) (b : FolioContent) : State :=
  let u := s.when (s.olc.old.any fun o => o.content.retainDigest != b.retainDigest) (storeTrigger · true false)
  let v := u.record 66 10 1 (u.get R.OLC_STAT_CAUSE)
  olcRelease ({ v with olc := { v.olc with old := none, confirmDue := false, undoDue := 0 } }.set R.OLC_STAT_NOUNDO 0)

/-- The end of a confirmation. -/
def confirmDone (s : State) : State := olcTell (forceShow (s.when (s.get R.OLC_CMD_STATUS = 1) (·.olcEnd 2)))

theorem confirmNow_eq {b : FolioContent} (hc : s.content = some b) :
    confirmNow s = confirmDone (confirmReleased (confirmMerged s b) b) := by
  unfold confirmNow
  simp only [hc]
  rfl

/-- What the merged folio touches. -/
def Touch.confirmMerged : Touch := ⟨[.folio], [.upTo R.FOL_DIGEST_DIGEST 8, .upTo R.FOL_PDIGEST_DIGEST 8,
  .field R.FOL_STAT_DIVERGED]⟩

theorem putDigest_upTo (f : Nat → Fld) (s : State) (ws : List Word)
    (he : Even f := by exact ⟨by decide, fun _ => ⟨rfl, rfl, rfl⟩⟩) (hT : T.setsUpTo f 8 = true := by decide) :
    Within T s (putDigest s f ws) :=
  .forEach (.refl _ s) _ fun _ hi _ hu => (within_setUpTo f (List.mem_range.mp hi) he hT).mpr hu

theorem confirmBegun_within (s : State) (b : FolioContent) :
    Within ⟨[], [.upTo R.FOL_DIGEST_DIGEST 8]⟩ s (confirmBegun s b) := by
  unfold confirmBegun
  split
  · exact putDigest_upTo R.FOL_DIGEST_DIGEST s _
  · exact .refl _ s

theorem confirmMerged_within (s : State) (b : FolioContent) : Within .confirmMerged s (confirmMerged s b) := by
  refine (within_raise (by decide)).mpr (.trans ?_ (putDigest_upTo R.FOL_PDIGEST_DIGEST _ _))
  exact (within_folio (by decide)).mpr ((confirmBegun_within s b).mono (by decide))

/-- The folio of a merged program keeps all but its bodies. -/
theorem confirmMerged_folio (s : State) (b : FolioContent) :
    (confirmMerged s b).folio = { s.folio with bodies := confirmedBodies (confirmBegun s b) b } := by
  let u := confirmBegun s b
  have hdigest : Within ⟨[], [.upTo R.FOL_PDIGEST_DIGEST 8, .field R.FOL_STAT_DIVERGED]⟩
      { u with folio := { u.folio with bodies := confirmedBodies u b } } (confirmMerged s b) :=
    (within_raise (by decide)).mpr (putDigest_upTo R.FOL_PDIGEST_DIGEST _ _)
  have hbegun : u.folio = s.folio := (confirmBegun_within s b).part .folio
  have hmerged : (confirmMerged s b).folio = { u.folio with bodies := confirmedBodies u b } := hdigest.part .folio
  rw [hmerged, hbegun]

/-- A digest's words put and read again. -/
theorem digest_reads {f : Nat → Fld} (he : Even f) (hw : ∀ i, (f i).lo = 0 ∧ (f i).width = 36) {ws : List Word}
    (hlen : ws.length = 8) (h : ∀ i < 8, t.get (f i) = (putDigest s f ws).get (f i)) :
    ((List.range 8).map fun i => BitVec.ofNat 36 (t.get (f i))) = ws := by
  refine List.ext_getElem (by simp [hlen]) fun i hi hi' => ?_
  have hi8 : i < 8 := hlen ▸ hi'
  have hput : (putDigest s f ws).get (f i) = (ws.getD i 0).toNat % 2 ^ (f i).width :=
    get_forEach_set he _ (List.mem_range.mpr hi8) (by rw [(hw i).1, (hw i).2])
  rw [List.getElem_map, List.getElem_range, h i hi8, hput, (hw i).2, List.getD_eq_getElem _ _ hi',
    Nat.mod_eq_of_lt ws[i].isLt, BitVec.ofNat_toNat, BitVec.setWidth_eq]

/-- What the release of the old program touches. -/
def Touch.confirmReleased : Touch := .or ⟨[], [.field R.OLC_STAT_NOUNDO]⟩ (.or .retain (.or .report .olcRelease))

theorem confirmReleased_within (s : State) (b : FolioContent) : Within .confirmReleased s (confirmReleased s b) := by
  refine .trans ?_ ((olcRelease_within _).mono (by decide))
  refine (within_set (by decide)).mpr <| (within_olc (by decide)).mpr <| (within_record (by decide)).mpr ?_
  exact .when (.refl _ s) ((within_storeTrigger (by decide)).mpr (.refl _ s))

theorem confirmReleased_shows (s : State) (b : FolioContent) : (confirmReleased s b).get R.OLC_STAT_STATE = 0 ∧
    (confirmReleased s b).olc.old = none ∧ (confirmReleased s b).olc.staged = none ∧
    (confirmReleased s b).olc.confirmDue = false := by
  refine ⟨olcRelease_state _, ?_, ?_, ?_⟩
  · rw [confirmReleased, olcRelease_olc]
    rfl
  · rw [confirmReleased, olcRelease_olc]
  · rw [confirmReleased, olcRelease_olc]
    rfl

/-- What the end of a confirmation touches. -/
def Touch.confirmDone : Touch := .or ⟨[.twin], [.field R.OLC_CMD_STATUS, .field R.PCI_VPEND_PEND]⟩ .forceShow

theorem confirmDone_within (s : State) : Within .confirmDone s (confirmDone s) := by
  have hend : Within .confirmDone s (s.when (s.get R.OLC_CMD_STATUS = 1) (·.olcEnd 2)) :=
    .when (.refl _ s) ((olcEnd_ends s 2).mono (by decide))
  exact .trans (hend.trans ((forceShow_within _).mono (by decide))) ((olcTell_within _).mono (by decide))

theorem confirmDone_status (h : s.get R.OLC_CMD_STATUS = 1) : (confirmDone s).get R.OLC_CMD_STATUS = 2 := by
  unfold confirmDone
  rw [decide_eq_true h]
  exact ((olcTell_within _).get R.OLC_CMD_STATUS).trans
    (((forceShow_within _).get R.OLC_CMD_STATUS).trans (olcEnd_status _ (by decide)))

/-- What a confirmation makes of a state (R297). -/
structure Confirmed (s t : State) : Prop where
  pending : t.pending = s.pending
  dev : t.dev = s.dev
  imposer : t.imposer = s.imposer
  content : t.folio.content = s.folio.content
  old : t.olc.old = none
  staged : t.olc.staged = none
  due : t.olc.confirmDue = false
  state : t.get R.OLC_STAT_STATE = 0
  diverged : t.flag R.FOL_STAT_DIVERGED = true
  digest : ((List.range 8).map fun i => BitVec.ofNat 36 (t.get (R.FOL_PDIGEST_DIGEST i))) = programSha t.folio.bodies
  ended : s.get R.OLC_CMD_STATUS = 1 → t.get R.OLC_CMD_STATUS = 2

/-- What follows the merged folio spares its digest. -/
theorem confirmLate_sparesDigest : ∀ i < 8,
    (Touch.or .confirmReleased .confirmDone).spares (R.FOL_PDIGEST_DIGEST i) = true := by decide

theorem confirmNow_confirmed {b : FolioContent} (hc : s.content = some b) : Confirmed s (confirmNow s) := by
  let u := confirmMerged s b
  let v := confirmReleased u b
  have hmerged := confirmMerged_within s b
  have hreleased := confirmReleased_within u b
  have hdone := confirmDone_within v
  have hlate : Within (.or .confirmReleased .confirmDone) u (confirmDone v) :=
    .trans (hreleased.mono (by decide)) (hdone.mono (by decide))
  have hall : Within (.or .confirmMerged (.or .confirmReleased .confirmDone)) s (confirmDone v) :=
    .trans (hmerged.mono (by decide)) (hlate.mono (by decide))
  have hfolio : (confirmDone v).folio = { s.folio with bodies := confirmedBodies (confirmBegun s b) b } :=
    Eq.trans (hlate.part .folio) (confirmMerged_folio s b)
  have holc : (confirmDone v).olc = v.olc := hdone.part .olc
  obtain ⟨hstate, hold, hstaged, hdue⟩ := confirmReleased_shows u b
  rw [confirmNow_eq hc]
  refine ⟨hall.part .pending, hall.part .dev, hall.part .imposer, ?_, ?_, ?_, ?_, (hdone.get R.OLC_STAT_STATE).trans hstate,
    ?_, ?_, fun hst => confirmDone_status ?_⟩
  · rw [hfolio]
  · rw [holc, hold]
  · rw [holc, hstaged]
  · rw [holc, hdue]
  · exact (hlate.flag R.FOL_STAT_DIVERGED).trans (State.flag_raise_same _ _)
  · rw [hfolio]
    refine digest_reads ⟨by decide, fun _ => ⟨rfl, rfl, rfl⟩⟩ (fun _ => ⟨rfl, rfl⟩) (by simp [programSha, byteWords])
      fun i hi => ((hlate.get _ (confirmLate_sparesDigest i hi)).trans (State.get_set_addr _ _ _ _ ?_))
    simp only [R.FOL_PDIGEST_DIGEST, R.FOL_STAT_DIVERGED]
    omega
  · rw [hreleased.get R.OLC_CMD_STATUS, hmerged.get R.OLC_CMD_STATUS, hst]

end
end Sys2Proof.Machine

/-!
The commands and boundaries of an activation, on one device and on a pair (R286 to R289, R297 to R301).
-/
namespace Sys2Proof.Machine

section
variable {s t : State} {a b : FolioContent}

/-! ### What an activation reads stays while its registers change -/

/-- What a command of OLC_CMD or a frame of the partner touches before an activation begins. -/
def Touch.olcShown : Touch := ⟨[.power, .olc, .twin], [.word R.OLC_STAT_STATE.addr, .word R.OLC_CMD_CODE.addr]⟩

theorem olcShown_sparesPlanes : ∀ q < 8, Touch.olcShown.spares (R.FAB_QSTAT_DIS q) = true ∧
    Touch.olcShown.spares (R.FAB_QSTAT_STAGED q) = true := by decide

theorem changedQuires_of_olcShown (h : Within .olcShown s t) (a b : FolioContent) (old new : List SheetEntry) :
    changedQuires t a b old new = changedQuires s a b old new := by
  refine List.filter_congr fun q hq => ?_
  rw [h.flag _ (olcShown_sparesPlanes q (List.mem_range.mp hq)).1]

theorem planesReady_of_olcShown (h : Within .olcShown s t) {qs : List Nat} (hqs : ∀ q ∈ qs, q < 8) (c : FolioContent)
    (sheet : List SheetEntry) : planesReady t qs c sheet = planesReady s qs c sheet := by
  have hfabric : t.fabric = s.fabric := h.part .fabric
  unfold planesReady
  rw [Bool.eq_iff_iff, List.all_eq_true, List.all_eq_true]
  refine forall₂_congr fun q hq => ?_
  rw [h.flag _ (olcShown_sparesPlanes q (hqs q hq)).2, State.quire_congr (congrArg _ hfabric)]

theorem switchPlanes_of_olcShown (h : Within .olcShown s t) (a b : FolioContent) (sheet : List SheetEntry) :
    switchPlanes t a b (sheetFor t a b sheet) = switchPlanes s a b (sheetFor s a b sheet) := by
  have hfabric : t.fabric = s.fabric := h.part .fabric
  have himposer : t.imposer = s.imposer := h.part .imposer
  unfold switchPlanes sheetFor passesIdle
  simp only [himposer, hfabric, changedQuires_of_olcShown h, planesReady_of_olcShown h changedQuires_lt]

theorem hasStandby_of_regs (h : Within ⟨[.power], [.word R.OLC_STAT_STATE.addr, .word R.OLC_CMD_CODE.addr]⟩ s t) :
    hasStandby t = hasStandby s := by
  have hfolio : t.folio = s.folio := h.part .folio
  have htwin : t.twin = s.twin := h.part .twin
  unfold hasStandby State.partner State.content
  rw [hfolio, htwin, h.flag R.TWN_STAT_PRIMARY]

/-! ### ARM (R286) -/

/-- The command register as ARM is checked. -/
def armCoded (s : State) (at' : Bool) : State := (olcCoded s 2).setFlag R.OLC_CMD_AT at'

/-- The registers as ARM goes on. -/
def armChecked (s : State) (at' : Bool) : State := ((armCoded s at').set R.OLC_STAT_CAUSE 0).set R.OLC_STAT_TRIES 0

theorem armCoded_within (s : State) (at' : Bool) :
    Within ⟨[], [.field R.OLC_CMD_CODE, .field R.OLC_CMD_AT]⟩ s (armCoded s at') := by
  simp (disch := decide) [armCoded, olcCoded]

theorem armChecked_within (s : State) (at' : Bool) : Within ⟨[], [.field R.OLC_CMD_CODE, .field R.OLC_CMD_AT,
    .field R.OLC_STAT_CAUSE, .field R.OLC_STAT_TRIES]⟩ s (armChecked s at') := by
  simp (disch := decide) [armChecked, armCoded, olcCoded]

/-- The base tick that OLC_SWAT names. -/
def armTick (s : State) : Nat := s.now / 31250 + (s.get R.OLC_SWAT_AT + 2 ^ 36 - s.now / 31250 % 2 ^ 36) % 2 ^ 36

/-- A boundary that ARM may name: a major LATCH, and far enough ahead. -/
def ArmTickFits (s : State) : Prop := armTick s % max 1 (s.get R.CYC_MAJOR_M) = 0 ∧
  s.now + s.get R.OLC_XCFG_LEAD * 10000 ≤ armTick s * 31250

theorem armTick_armCoded (at' : Bool) : armTick (armCoded s at') = armTick s := by
  have hnow : (armCoded s at').now = s.now := rfl
  unfold armTick
  rw [hnow, (armCoded_within s at').get R.OLC_SWAT_AT]

theorem olcArm_checked (h : OlcAdmitted s) (hst : olcState s = 2) (hdev : s.dev = .run ∨ s.dev = .stop ∨ s.dev = .halt)
    (hno : hasStandby s = false) (m : Nat) (at' : Bool) : olcArm s m at' =
      if (armChecked s at').dev == .stop then
        match (armChecked s at').content, (armChecked s at').olc.next with
        | some a, some b =>
          if switchPlanes (armChecked s at') a b (sheetFor (armChecked s at') a b (armChecked s at').olc.sheet) then
            olcSwitchNow ((armChecked s at').set R.OLC_CMD_STATUS 1)
          else ((armChecked s at').set R.OLC_STAT_CAUSE 21).olcEnd 6
        | _, _ => (armChecked s at').set R.OLC_CMD_STATUS 3
      else if at' && (armTick (armCoded s at') % max 1 ((armCoded s at').get R.CYC_MAJOR_M) != 0 ||
          decide (armTick (armCoded s at') * 31250 < (armChecked s at').now + (armChecked s at').get R.OLC_XCFG_LEAD * 10000))
        then ((armChecked s at').set R.OLC_STAT_CAUSE 23).olcEnd 6
      else olcTell (({ armChecked s at' with olc := { (armChecked s at').olc with
        armAt := if at' then some ((armCoded s at').get R.OLC_SWAT_AT) else none, acked := none } }.set
          R.OLC_STAT_STATE 3).set R.OLC_CMD_STATUS 1) := by
  have hgood : ¬ (olcState (armCoded s at') ≠ 2 ∨ (!olcStates (armCoded s at')) = true) := by
    have hstates : olcStates (armCoded s at') = true := (olcStates_of (s := s) hdev).1
    have hstate : olcState (armCoded s at') = 2 := ((armCoded_within s at').get R.OLC_STAT_STATE).trans hst
    simp [hstates, hstate]
  have halone : ¬ (hasStandby (armChecked s at') = true ∧ (!(armChecked s at').flag R.OLC_STAT_TWINRDY) = true) := by
    rw [hasStandby_of_regs ((armChecked_within s at').mono (by decide)), hno]
    simp
  unfold olcArm
  rw [olcCommand_taken h]
  exact (if_neg hgood).trans (if_neg halone)

/-- An activation armed. -/
def olcArmed (s : State) (at' : Bool) : State :=
  olcTell (({ armChecked s at' with olc := { s.olc with
    armAt := if at' then some (s.get R.OLC_SWAT_AT) else none, acked := none } }.set R.OLC_STAT_STATE 3).set R.OLC_CMD_STATUS 1)

theorem olcArm_armed (h : OlcAdmitted s) (hst : olcState s = 2) (hdev : s.dev = .run ∨ s.dev = .halt)
    (hno : hasStandby s = false) (m : Nat) {at' : Bool} (hat : at' = false ∨ ArmTickFits s) :
    olcArm s m at' = olcArmed s at' := by
  have hlive : ¬ ((armChecked s at').dev == .stop) = true := by
    have hsame : (armChecked s at').dev = s.dev := rfl
    rw [hsame]
    obtain hdev | hdev := hdev <;> simp [hdev]
  have hfits : ¬ (at' && (armTick (armCoded s at') % max 1 ((armCoded s at').get R.CYC_MAJOR_M) != 0 ||
      decide (armTick (armCoded s at') * 31250 < (armChecked s at').now + (armChecked s at').get R.OLC_XCFG_LEAD * 10000))) =
      true := by
    have hnow : (armChecked s at').now = s.now := rfl
    rw [hnow, armTick_armCoded, (armCoded_within s at').get R.CYC_MAJOR_M, (armChecked_within s at').get R.OLC_XCFG_LEAD]
    obtain rfl | ⟨hmajor, hlead⟩ := hat
    · simp
    · simp [hmajor, hlead]
  have hstates : s.dev = .run ∨ s.dev = .stop ∨ s.dev = .halt := hdev.imp_right .inr
  rw [olcArm_checked h hst hstates hno, if_neg hlive, if_neg hfits, (armCoded_within s at').get R.OLC_SWAT_AT]
  rfl

/-- What ARM touches. -/
theorem olcArmed_within (s : State) (w at' : Bool) : Within .olcShown s (olcArmed (s.woken w) at') := by
  have hchecked : Within .olcShown s (armChecked (s.woken w) at') :=
    .trans ((woken_within w).mono (by decide)) ((armChecked_within _ _).mono (by decide))
  refine .trans ?_ ((olcTell_within _).mono (by decide))
  exact (within_set (by decide)).mpr ((within_set (by decide)).mpr ((within_olc (by decide)).mpr hchecked))

theorem olcShown_frame (h : Within .olcShown s t) :
    t = { s with regs := t.regs, olc := t.olc, twin := t.twin, power := t.power } := h.eq_patch

theorem armChecked_shows (s : State) (at' : Bool) : (armChecked s at').get R.OLC_STAT_TRIES = 0 ∧
    (armChecked s at').get R.OLC_STAT_CAUSE = 0 := by
  unfold armChecked
  constructor
  · rw [State.get_set_same _ _ _ (by decide)]
    rfl
  · rw [State.get_set_bits _ _ _ _ (by decide) (by decide), State.get_set_same _ _ _ (by decide)]
    rfl

theorem olcArmed_shows (s : State) (at' : Bool) : (olcArmed s at').get R.OLC_STAT_STATE = 3 ∧
    (olcArmed s at').get R.OLC_STAT_TRIES = 0 ∧ (olcArmed s at').get R.OLC_STAT_CAUSE = 0 ∧
    (olcArmed s at').get R.OLC_CMD_STATUS = 1 := by
  obtain ⟨htries, hcause⟩ := armChecked_shows s at'
  unfold olcArmed
  rw [(olcTell_within _).get R.OLC_STAT_STATE, (olcTell_within _).get R.OLC_STAT_TRIES,
    (olcTell_within _).get R.OLC_STAT_CAUSE, (olcTell_within _).get R.OLC_CMD_STATUS]
  refine ⟨?_, ?_, ?_, ?_⟩
  · rw [State.get_set_addr _ _ _ _ (by decide), State.get_set_same _ _ _ (by decide)]
    rfl
  · rw [State.get_set_addr _ _ _ _ (by decide), State.get_set_bits _ _ _ _ (by decide) (by decide)]
    exact htries
  · rw [State.get_set_addr _ _ _ _ (by decide), State.get_set_bits _ _ _ _ (by decide) (by decide)]
    exact hcause
  · rw [State.get_set_same _ _ _ (by decide)]
    rfl

theorem olcArmed_olc (s : State) (at' : Bool) : (olcArmed s at').olc =
    { s.olc with armAt := if at' then some (s.get R.OLC_SWAT_AT) else none, acked := none } := olcTell_olc _

theorem powered_of_dev {d : Dev} (h : s.dev = d) (hd : (d != .off) = true := by rfl) : s.powered = true := by
  rw [State.powered, h, hd]

theorem olcArm_armed_runs (s : State) (m : Fin 18) (at' : Bool) (hdev : s.dev = .run ∨ s.dev = .halt) (h : OlcAdmitted s)
    (hst : olcState s = 2) (hno : hasStandby s = false) (hat : at' = false ∨ ArmTickFits s) :
    Runs (.olcArm m at') s fun t => t.get R.OLC_STAT_STATE = 3 ∧ t.get R.OLC_STAT_TRIES = 0 ∧
    t.get R.OLC_STAT_CAUSE = 0 ∧ t.get R.OLC_CMD_STATUS = 1 ∧
    (t.olc = { s.olc with armAt := if at' then some (s.get R.OLC_SWAT_AT) else none, acked := none }) ∧
    t.folio = s.folio ∧ t = { s with regs := t.regs, olc := t.olc, twin := t.twin, power := t.power } := by
  refine runs_of_master_eq (f := fun s => olcArm s m at') (g := fun s => olcArmed s at') rfl
    (powered_of_olcStates (hdev.imp_right .inr)) (fun w => olcArm_armed (h.woken w) hst hdev hno m hat)
    (fun w => (olcArmed_within s w at').part .pending) fun w => ?_
  obtain ⟨hstate, htries, hcause, hstatus⟩ := olcArmed_shows (s.woken w) at'
  have hwithin := olcArmed_within s w at'
  exact ⟨hstate, htries, hcause, hstatus, olcArmed_olc (s.woken w) at', hwithin.part .folio, olcShown_frame hwithin⟩

/-- The state in which ARM switches in STOP. -/
def armPending (s : State) (at' : Bool) : State := (armChecked s at').set R.OLC_CMD_STATUS 1

theorem olcArm_switches (h : OlcAdmitted s) (hst : olcState s = 2) (hdev : s.dev = .stop) (hno : hasStandby s = false)
    (hc : s.content = some a) (hn : s.olc.next = some b)
    (hplanes : switchPlanes s a b (sheetFor s a b s.olc.sheet) = true) (m : Nat) (at' : Bool) :
    olcArm s m at' = olcSwitchNow (armPending s at') := by
  have hstop : ((armChecked s at').dev == .stop) = true := by
    have hsame : (armChecked s at').dev = s.dev := rfl
    rw [hsame, hdev]
    rfl
  have hc' : (armChecked s at').content = some a := hc
  have hn' : (armChecked s at').olc.next = some b := hn
  have hplanes' : switchPlanes (armChecked s at') a b (sheetFor (armChecked s at') a b (armChecked s at').olc.sheet) = true :=
    (switchPlanes_of_olcShown ((armChecked_within s at').mono (by decide)) a b _).trans hplanes
  rw [olcArm_checked h hst (.inr (.inl hdev)) hno, if_pos hstop]
  simp only [hc', hn', if_pos hplanes']
  rfl

theorem armPending_within (s : State) (w at' : Bool) :
    Within ⟨[.power], [.field R.OLC_CMD_CODE, .field R.OLC_CMD_AT, .field R.OLC_STAT_CAUSE, .field R.OLC_STAT_TRIES,
      .field R.OLC_CMD_STATUS]⟩ s (armPending (s.woken w) at') :=
  .trans ((woken_within w).mono (by decide))
    ((within_set (by decide)).mpr ((armChecked_within (s.woken w) at').mono (by decide)))

theorem olcArm_stop_runs (s : State) (m : Fin 18) (at' : Bool) (a n : FolioContent) (hdev : s.dev = .stop)
    (h : OlcAdmitted s) (hst : olcState s = 2) (hno : hasStandby s = false) (hc : s.content = some a)
    (hn : s.olc.next = some n) (hplanes : switchPlanes s a n (sheetFor s a n s.olc.sheet) = true) :
    Runs (.olcArm m at') s fun t => t.folio.content = some n ∧
    t.olc.old.map (·.content) = some a ∧ t.get R.OLC_STAT_STATE = 5 ∧ t.get R.OLC_CMD_STATUS = 2 ∧
    t.get R.OLC_COUNT_SWITCHES = (s.get R.OLC_COUNT_SWITCHES + 1) % 2 ^ 18 ∧ t.dev = .stop := by
  have hswitched (w : Bool) : Switched (armPending (s.woken w) at') (olcSwitchNow (armPending (s.woken w) at')) a n :=
    olcSwitchNow_switched hc hn
  refine runs_of_master_eq (f := fun s => olcArm s m at') (g := fun s => olcSwitchNow (armPending s at')) rfl
    (powered_of_dev hdev) (fun w => olcArm_switches (h.woken w) hst hdev hno hc hn hplanes m at')
    (fun w => (hswitched w).pending) fun w => ?_
  have hpending := armPending_within s w at'
  obtain ⟨-, hkept, hcontent, hold, hstate, -, hcount, hended, -⟩ := hswitched w
  refine ⟨hcontent, ?_, hstate, hended ?_ ?_, ?_, hkept.trans hdev⟩
  · rw [hold]
    rfl
  · rw [show (armPending (s.woken w) at').dev = s.dev from rfl, hdev]
    exact Dev.noConfusion
  · exact State.get_set_same _ _ _ (by decide)
  · rw [hcount, hpending.get R.OLC_COUNT_SWITCHES]

/-! ### The gap of an armed switch (R287) -/

/-- A gap in which an armed switch is decided. -/
structure SwitchGap (s : State) : Prop where
  state : olcState s = 3
  dev : s.dev = .run
  gap : inGap s = true
  pfail : s.power.pfStep < 3
  defer : s.flag R.SYS_STATE_DEFER = false

/-- Whether R287 lets an armed switch happen. -/
def switchFits (s : State) (a b : FolioContent) : Bool :=
  switchAllowed s a b (sheetFor s a b s.olc.sheet) .switch (switchTime s b (stagedClasses s) (dirtyCarried s a b))

theorem olcSwitch_decides (h : SwitchGap s) (hc : s.content = some a) (hn : s.olc.next = some b)
    (hat : s.olc.armAt.all (fun x => x == nextMajor s % 2 ^ 36) = true) :
    olcSwitch s = if switchFits s a b then olcSwitchNow s else armFailed s := by
  obtain ⟨hst, hdev, hgap, hpf, hdefer⟩ := h
  have hgo : ¬ (olcState s ≠ 3 ∨ s.dev ≠ .run ∨ (!inGap s) = true ∨ 3 ≤ s.power.pfStep ∨ s.flag R.SYS_STATE_DEFER = true) := by
    simp [hst, hdev, hgap, hdefer, hpf]
  unfold olcSwitch
  simp only [hc, hn, if_neg hgo]
  cases harm : s.olc.armAt with
  | none => rfl
  | some x =>
    rw [harm, Option.all_some] at hat
    simp only [hat]
    rfl

theorem olcSwitch_switches_runs (s : State) (a b : FolioContent) (h : SwitchGap s) (hc : s.content = some a)
    (hn : s.olc.next = some b) (hat : s.olc.armAt.all (fun x => x == nextMajor s % 2 ^ 36) = true)
    (hfits : switchFits s a b = true) : Runs (.olcSwitch) s fun t => t.folio.content = some b ∧
    t.olc.old.map (·.content) = some a ∧
    t.olc.old.map (·.sheet) = some s.imposer.sheet ∧ t.get R.OLC_STAT_STATE = 5 ∧
    t.get R.OLC_LAST_AT = nextMajor s % 2 ^ 36 ∧
    t.get R.OLC_COUNT_SWITCHES = (s.get R.OLC_COUNT_SWITCHES + 1) % 2 ^ 18 ∧ t.dev = .run ∧ (stagedClasses s = [] →
    t.time = s.time) := by
  obtain ⟨hpending, hkept, hcontent, hold, hstate, hlast, hcount, -, htime⟩ := olcSwitchNow_switched hc hn
  refine runs_of_powered_eq rfl (powered_of_dev h.dev) ((olcSwitch_decides h hc hn hat).trans (if_pos hfits)) hpending
    ⟨hcontent, ?_, ?_, hstate, hlast, hcount, hkept.trans h.dev, htime⟩
  · rw [hold]
    rfl
  · rw [hold]
    rfl

/-- A boundary failed that leaves tries (R287). -/
def boundaryFailed (s : State) : State :=
  { s.addSat R.OLC_STAT_TRIES 1 with olc := { s.olc with acked := none } }

theorem boundaryFailed_tries (h : s.get R.OLC_STAT_TRIES + 1 < s.get R.OLC_XCFG_TRIES) :
    (boundaryFailed s).get R.OLC_STAT_TRIES = s.get R.OLC_STAT_TRIES + 1 := by
  have hlt : s.get R.OLC_XCFG_TRIES < 2 ^ 6 := s.get_lt R.OLC_XCFG_TRIES
  have hget : (boundaryFailed s).get R.OLC_STAT_TRIES = min (s.get R.OLC_STAT_TRIES + 1) (2 ^ 6 - 1) % 2 ^ 6 :=
    State.get_set_same _ R.OLC_STAT_TRIES _ (by decide)
  rw [hget]
  omega

theorem boundaryFailed_within (s : State) : Within ⟨[.olc], [.field R.OLC_STAT_TRIES]⟩ s (boundaryFailed s) :=
  (within_olc (by decide)).mpr ((within_addSat (by decide)).mpr (.refl _ s))

theorem armFailed_eq (hat : s.olc.armAt = none) (h : s.get R.OLC_STAT_TRIES + 1 < s.get R.OLC_XCFG_TRIES) :
    armFailed s = boundaryFailed s := by
  have hnone : ¬ (boundaryFailed s).olc.armAt.isSome = true := by
    rw [show (boundaryFailed s).olc.armAt = s.olc.armAt from rfl, hat]
    decide
  have hleft : ¬ (boundaryFailed s).get R.OLC_XCFG_TRIES ≤ (boundaryFailed s).get R.OLC_STAT_TRIES := by
    rw [(boundaryFailed_within s).get R.OLC_XCFG_TRIES, boundaryFailed_tries h]
    omega
  exact (if_neg hnone).trans (if_neg hleft)

theorem olcSwitch_fails_runs (s : State) (a b : FolioContent) (h : SwitchGap s) (hc : s.content = some a)
    (hn : s.olc.next = some b) (hat : s.olc.armAt = none) (hfits : switchFits s a b = false)
    (htries : s.get R.OLC_STAT_TRIES + 1 < s.get R.OLC_XCFG_TRIES) :
    Runs (.olcSwitch) s fun t => t.get R.OLC_STAT_TRIES = s.get R.OLC_STAT_TRIES + 1 ∧ t.get R.OLC_STAT_STATE = 3 ∧
    t.folio = s.folio ∧ t.olc = { s.olc with acked := none } ∧ t = { s with regs := t.regs, olc := t.olc } ∧ (∀ a,
    a ≠ R.OLC_STAT_TRIES.addr → t.reg a = s.reg a) := by
  have hwithin := boundaryFailed_within s
  have hdecides := olcSwitch_decides h hc hn (by rw [hat]; rfl)
  rw [hfits, if_neg Bool.false_ne_true, armFailed_eq hat htries] at hdecides
  exact runs_of_powered_eq rfl (powered_of_dev h.dev) hdecides (hwithin.part .pending)
    ⟨boundaryFailed_tries htries, (hwithin.get R.OLC_STAT_STATE).trans h.state, hwithin.part .folio, rfl, rfl,
      fun a ha => hwithin.reg_of_notMem [R.OLC_STAT_TRIES.addr] (by simpa using ha)⟩

end

section
variable {s t : State} {a b : FolioContent}

/-! ### CONFIRM (R297) -/

/-- A command of OLC_CMD that is pending. -/
def olcPending (s : State) (code : Nat) : State := (olcCoded s code).set R.OLC_CMD_STATUS 1

/-- What a command of OLC_CMD that waits touches. -/
def Touch.olcWaits : Touch := ⟨[.power, .olc], [.word R.OLC_CMD_STATUS.addr]⟩

theorem olcWaits_frame (h : Within .olcWaits s t) :
    t = { s with regs := t.regs, olc := t.olc, power := t.power } := h.eq_patch

theorem olcPending_within (s : State) (w : Bool) (code : Nat) :
    Within ⟨[.power], [.word R.OLC_CMD_STATUS.addr]⟩ s (olcPending (s.woken w) code) :=
  .trans ((woken_within w).mono (by decide)) (by simp (disch := decide) [olcPending, olcCoded])

theorem olcPending_status (s : State) (code : Nat) : (olcPending s code).get R.OLC_CMD_STATUS = 1 :=
  State.get_set_same _ _ _ (by decide)

theorem olcConfirm_taken (h : OlcAdmitted s) (hst : olcState s = 5) (m : Nat) : olcConfirm s m =
    if (olcPending s 3).dev == .stop || (olcPending s 3).dev == .safe then confirmNow (olcPending s 3)
    else { olcPending s 3 with olc := { (olcPending s 3).olc with confirmDue := true } } := by
  have hgood : ¬ olcState (olcCoded s 3) ≠ 5 := by
    rw [olcState_olcCoded, hst]
    decide
  unfold olcConfirm
  rw [olcCommand_taken h]
  exact if_neg hgood

/-- A confirmation that waits for its boundary. -/
def confirmWaits (s : State) : State := { olcPending s 3 with olc := { s.olc with confirmDue := true } }

theorem confirmWaits_within (s : State) (w : Bool) : Within .olcWaits s (confirmWaits (s.woken w)) :=
  (within_olc (by decide)).mpr ((olcPending_within s w 3).mono (by decide))

theorem olcConfirm_waits_runs (s : State) (m : Fin 18) (hdev : s.dev = .run ∨ s.dev = .halt) (h : OlcAdmitted s)
    (hst : olcState s = 5) : Runs (.olcConfirm m) s fun t => t.get R.OLC_CMD_STATUS = 1 ∧
    t.olc = { s.olc with confirmDue := true } ∧ t = { s with regs := t.regs, olc := t.olc, power := t.power } ∧ (∀ a,
    a ≠ R.OLC_CMD_STATUS.addr → t.reg a = s.reg a) := by
  have hlive (w : Bool) : ¬ ((olcPending (s.woken w) 3).dev == .stop || (olcPending (s.woken w) 3).dev == .safe) = true := by
    rw [show (olcPending (s.woken w) 3).dev = s.dev from rfl]
    obtain hdev | hdev := hdev <;> simp [hdev]
  refine runs_of_master_eq (f := fun s => olcConfirm s m) (g := confirmWaits) rfl
    (powered_of_olcStates (hdev.imp_right .inr)) (fun w => (olcConfirm_taken (h.woken w) hst m).trans (if_neg (hlive w)))
    (fun w => (confirmWaits_within s w).part .pending) fun w => ?_
  have hwithin := confirmWaits_within s w
  exact ⟨olcPending_status (s.woken w) 3, rfl, olcWaits_frame hwithin,
    fun a ha => hwithin.reg_of_notMem [R.OLC_CMD_STATUS.addr] (by simpa using ha)⟩

theorem olcConfirm_confirms_runs (s : State) (m : Fin 18) (b : FolioContent) (hdev : s.dev = .stop ∨ s.dev = .safe)
    (h : OlcAdmitted s) (hst : olcState s = 5) (hc : s.content = some b) :
    Runs (.olcConfirm m) s fun t => t.get R.OLC_CMD_STATUS = 2 ∧ t.get R.OLC_STAT_STATE = 0 ∧ t.olc.old = none ∧
    t.olc.staged = none ∧ t.folio.content = some b ∧ t.flag R.FOL_STAT_DIVERGED = true ∧ t.dev = s.dev := by
  have hidle (w : Bool) : ((olcPending (s.woken w) 3).dev == .stop || (olcPending (s.woken w) 3).dev == .safe) = true := by
    rw [show (olcPending (s.woken w) 3).dev = s.dev from rfl]
    obtain hdev | hdev := hdev <;> simp [hdev]
  have hpow : s.powered = true := hdev.elim (powered_of_dev ·) (powered_of_dev ·)
  have hconfirmed (w : Bool) : Confirmed (olcPending (s.woken w) 3) (confirmNow (olcPending (s.woken w) 3)) :=
    confirmNow_confirmed hc
  refine runs_of_master_eq (f := fun s => olcConfirm s m) (g := fun s => confirmNow (olcPending s 3)) rfl hpow
    (fun w => (olcConfirm_taken (h.woken w) hst m).trans (if_pos (hidle w))) (fun w => (hconfirmed w).pending) fun w => ?_
  have hw := hconfirmed w
  exact ⟨hw.ended (olcPending_status _ _), hw.state, hw.old, hw.staged, hw.content.trans hc, hw.diverged, hw.dev⟩

theorem olcConfirmApply_confirms (hst : olcState s = 5) (hdue : s.olc.confirmDue = true) (hdev : s.dev = .run)
    (hgap : inGap s = true) (hpair : hasStandby s = false ∨ s.olc.acked = some (nextMajor s, .confirm)) :
    olcConfirmApply s = confirmNow s := by
  have hgo : ¬ (olcState s ≠ 5 ∨ (!s.olc.confirmDue) = true ∨ s.dev ≠ .run ∨ (!inGap s) = true) := by
    simp [hst, hdue, hdev, hgap]
  have hmay : ¬ (hasStandby s && s.olc.acked != some (nextMajor s, .confirm)) = true := by
    obtain hno | hacked := hpair
    · simp [hno]
    · simp [hacked]
  exact (if_neg hgo).trans (if_neg hmay)

theorem olcConfirmApply_runs (s : State) (b : FolioContent) (hst : olcState s = 5) (hdue : s.olc.confirmDue = true)
    (hdev : s.dev = .run) (hgap : inGap s = true)
    (hpair : hasStandby s = false ∨ s.olc.acked = some (nextMajor s, .confirm)) (hc : s.content = some b) :
    Runs (.olcConfirmApply) s fun t => t.get R.OLC_STAT_STATE = 0 ∧ t.olc.old = none ∧ t.olc.staged = none ∧
    t.olc.confirmDue = false ∧ t.folio.content = some b ∧ t.flag R.FOL_STAT_DIVERGED = true ∧
    (((List.range 8).map fun i => BitVec.ofNat 36 (t.get (R.FOL_PDIGEST_DIGEST i))) = programSha t.folio.bodies) ∧
    t.dev = .run ∧ t.imposer = s.imposer := by
  have h := confirmNow_confirmed hc
  exact runs_of_powered_eq rfl (powered_of_dev hdev) (olcConfirmApply_confirms hst hdue hdev hgap hpair) h.pending
    ⟨h.state, h.old, h.staged, h.due, h.content.trans hc, h.diverged, h.digest, h.dev.trans hdev, h.imposer⟩

/-! ### UNDO (R298, R299) -/

/-- An undo that waits for its boundary. -/
def undoWaits (s : State) : State := { olcCoded s 4 with olc := { s.olc with undoDue := 1 } }.set R.OLC_CMD_STATUS 1

theorem olcUndo_waits (h : OlcAdmitted s) (hdev : s.dev = .run ∨ s.dev = .halt) (hst : olcState s = 5)
    (hundo : s.flag R.OLC_STAT_NOUNDO = false) (m : Nat) : olcUndo s m = undoWaits s := by
  have hgood : ¬ (olcState (olcCoded s 4) ≠ 5 ∨ (olcCoded s 4).flag R.OLC_STAT_NOUNDO = true) := by
    have hflag : (olcCoded s 4).flag R.OLC_STAT_NOUNDO = false :=
      (State.flag_set_apart ⟨by decide, by decide⟩).trans hundo
    rw [olcState_olcCoded, hst, hflag]
    decide
  have hlive : ¬ ((undoWaits s).dev == .stop || (undoWaits s).dev == .safe) = true := by
    rw [show (undoWaits s).dev = s.dev from rfl]
    obtain hdev | hdev := hdev <;> simp [hdev]
  unfold olcUndo
  rw [olcCommand_taken h]
  exact (if_neg hgood).trans (if_neg hlive)

theorem undoWaits_within (s : State) (w : Bool) : Within .olcWaits s (undoWaits (s.woken w)) := by
  have hcoded : Within .olcWaits s (olcCoded (s.woken w) 4) :=
    .trans ((woken_within w).mono (by decide)) ((within_set (by decide)).mpr (.refl _ _))
  exact (within_set (by decide)).mpr ((within_olc (by decide)).mpr hcoded)

theorem olcUndo_waits_runs (s : State) (m : Fin 18) (hdev : s.dev = .run ∨ s.dev = .halt) (h : OlcAdmitted s)
    (hst : olcState s = 5) (hundo : s.flag R.OLC_STAT_NOUNDO = false) :
    Runs (.olcUndo m) s fun t => t.get R.OLC_CMD_STATUS = 1 ∧
    t.olc = { s.olc with undoDue := 1 } ∧ t = { s with regs := t.regs, olc := t.olc, power := t.power } ∧ (∀ a,
    a ≠ R.OLC_CMD_STATUS.addr → t.reg a = s.reg a) := by
  refine runs_of_master_eq (f := fun s => olcUndo s m) (g := undoWaits) rfl (powered_of_olcStates (hdev.imp_right .inr))
    (fun w => olcUndo_waits (h.woken w) hdev hst hundo m) (fun w => (undoWaits_within s w).part .pending) fun w => ?_
  have hwithin := undoWaits_within s w
  exact ⟨State.get_set_same _ R.OLC_CMD_STATUS 1 (by decide), rfl, olcWaits_frame hwithin,
    fun a ha => hwithin.reg_of_notMem [R.OLC_CMD_STATUS.addr] (by simpa using ha)⟩

theorem olcUndoApply_runs (s : State) (b : FolioContent) (o : OldProgram) (hpow : s.powered = true)
    (hc : s.content = some b) (ho : s.olc.old = some o) (hst : olcState s = 5) (hdue : s.olc.undoDue ≠ 0)
    (hgap : inGap s = true) (hundo : s.flag R.OLC_STAT_NOUNDO = false)
    (hfits : switchAllowed s b o.content (sheetFor s b o.content o.sheet) .undo (switchTime s b (stagedClasses s)
      (dirtyCarried s o.content b)) = true) : Runs (.olcUndoApply) s fun t => t.folio.content = some o.content ∧
    t.olc.old = none ∧ t.olc.undoDue = 0 ∧ t.get R.OLC_STAT_STATE = 0 ∧
    t.get R.OLC_COUNT_UNDOS = (s.get R.OLC_COUNT_UNDOS + 1) % 2 ^ 18 ∧ t.dev = s.dev := by
  have hgo : ¬ (olcState s ≠ 5 ∨ s.olc.undoDue = 0 ∨ (!inGap s) = true ∨ s.flag R.OLC_STAT_NOUNDO = true) := by
    simp [hst, hdue, hgap, hundo]
  have hundoes : olcUndoApply s = undoNow s := by
    unfold olcUndoApply
    simp only [hc, ho, if_neg hgo, if_pos hfits]
  obtain ⟨hpending, hdev, hcontent, hold, hdue', hstate, hcount⟩ := undoNow_undone hc ho
  exact runs_of_powered_eq rfl hpow hundoes hpending ⟨hcontent, hold, hdue', hstate, hcount, hdev⟩

theorem undotExpiry_runs (s : State) (hpow : s.powered = true) (htime : 0 < s.get R.OLC_CFG_UNDOT) (hst : olcState s = 5)
    (hdue : s.olc.undoDue = 0) (hundo : s.flag R.OLC_STAT_NOUNDO = false) :
    Runs (.undotExpiry) s fun t => t = { s with olc := { s.olc with undoDue := 3 } } := by
  have hgo : (s.powered && decide (0 < s.get R.OLC_CFG_UNDOT)) = true := by simp [hpow, htime]
  have hrequest : undoRequest s 3 = { s with olc := { s.olc with undoDue := 3 } } :=
    if_pos ⟨hst, hdue, by rw [hundo]; rfl⟩
  refine runs_of_answer_eq (t := undoRequest s 3) ?_ ?_ ?_
  · exact congrArg s.answer (if_pos hgo)
  · rw [hrequest]
  · exact hrequest

end

section
variable {s t : State} {a b : FolioContent}

/-! ### The messages of a pair (R301) -/

/-- A state that has heard a twin frame. -/
def State.heard (s : State) (l : List (Nat × Nat)) : State := { s with twin := { s.twin with lastSeq := l } }

theorem twinAccept_accepted {n : Nat} {h : FrameHead} (hacc : (twinAccept s n h).2 = true) :
    ∃ l, (twinAccept s n h).1 = s.heard l := by
  unfold twinAccept at hacc ⊢
  dsimp only at hacc ⊢
  split at hacc
  · exact absurd hacc Bool.false_ne_true
  split at hacc
  · exact absurd hacc Bool.false_ne_true
  · next hcrc hnew => exact ⟨_, by rw [if_neg hcrc, if_neg hnew]; rfl⟩

/-- Something of an activation is armed or due. -/
def OlcDue (s : State) : Prop := olcState s = 3 ∨ s.olc.confirmDue = true ∨ s.olc.undoDue ≠ 0

theorem armMessage_sends_runs (s : State) (hpow : s.powered = true) (hpair : hasStandby s = true) (hdue : OlcDue s) :
    Runs (.armMessage none) s fun t => t.twin.sent.head? = some (⟨36, 8,
    nextMajor s * 31250 % 2 ^ 36, [s.reg R.OLC_STAT_STATE.addr]⟩ : SentFrame) ∧ t = { s with twin := t.twin } := by
  have hgo : (hasStandby s && (olcState s == 3 || s.olc.confirmDue || s.olc.undoDue != 0)) = true := by
    obtain hst | hconfirm | hundo := hdue
    · simp [hpair, hst]
    · simp [hpair, hconfirm]
    · simp [hpair, hundo]
  have hsends : armMessage s none = twinSend s 36 8 (nextMajor s * 31250) [s.reg R.OLC_STAT_STATE.addr] := if_pos hgo
  exact runs_of_powered_eq rfl hpow hsends rfl ⟨rfl, rfl⟩

theorem armMessage_hears (h : FrameHead) (act : OlcAct) (at' : Nat) (hdev : s.dev = .standby)
    (hacc : (twinAccept s 36 h).2 = true) : ∃ l, armMessage s (some (h, act, at')) =
      twinSend { s.heard l with olc := { s.olc with acked := some (at', act) } } 36 8 (at' * 31250) [BitVec.ofNat 36 at'] := by
  obtain ⟨l, hl⟩ := twinAccept_accepted hacc
  have hgo : ¬ (!(twinAccept s 36 h).2 || s.dev != .standby) = true := by simp [hacc, hdev]
  refine ⟨l, ?_⟩
  unfold armMessage
  dsimp only
  rw [if_neg hgo, hl]
  rfl

theorem armMessage_hears_runs (s : State) (h : FrameHead) (act : OlcAct) (at' : Nat) (hdev : s.dev = .standby)
    (hacc : (twinAccept s 36 h).2 = true) :
    Runs (.armMessage (some (h, act, at'))) s fun t => t.olc = { s.olc with acked := some (at', act) } ∧
    t.twin.sent.head? = some (⟨36, 8, at' * 31250 % 2 ^ 36, [BitVec.ofNat 36 at']⟩ : SentFrame) ∧
    t = { s with olc := t.olc, twin := t.twin } := by
  obtain ⟨l, hl⟩ := armMessage_hears h act at' hdev hacc
  exact runs_of_powered_eq rfl (powered_of_dev hdev) hl rfl ⟨rfl, rfl, rfl⟩

/-- What a primary has due. -/
def dueAct (s : State) : OlcAct := if olcState s = 3 then .switch else if s.olc.confirmDue then .confirm else .undo

theorem dueAct_some (hdue : OlcDue s) : (if olcState s = 3 then some OlcAct.switch
    else if s.olc.confirmDue then some .confirm else if s.olc.undoDue != 0 then some .undo else none) = some (dueAct s) := by
  unfold dueAct
  by_cases hst : olcState s = 3
  · simp only [if_pos hst]
  by_cases hconfirm : s.olc.confirmDue = true
  · simp only [if_neg hst, if_pos hconfirm]
  · have hundo : (s.olc.undoDue != 0) = true := bne_iff_ne.mpr ((hdue.resolve_left hst).resolve_left hconfirm)
    simp only [if_neg hst, if_neg hconfirm, if_pos hundo]

theorem armAcknowledge_keeps (h : FrameHead) (at' : Nat) (hacc : (twinAccept s 36 h).2 = true)
    (hpair : hasStandby s = true) (hdue : OlcDue s) (htime : s.now + s.get R.OLC_XCFG_LEAD * 10000 ≤ at' * 31250) :
    ∃ l, armAcknowledge s h at' = { s.heard l with olc := { s.olc with acked := some (at', dueAct s) } } := by
  obtain ⟨l, hl⟩ := twinAccept_accepted hacc
  have hgo : ¬ (!(twinAccept s 36 h).2 || !hasStandby s) = true := by simp [hacc, hpair]
  have htime' : (s.heard l).now + (s.heard l).get R.OLC_XCFG_LEAD * 10000 ≤ at' * 31250 := htime
  have hact := dueAct_some (s := s.heard l) hdue
  refine ⟨l, ?_⟩
  unfold armAcknowledge
  dsimp only
  rw [if_neg hgo, hl, if_pos htime', hact]
  rfl

theorem armAcknowledge_keeps_runs (s : State) (h : FrameHead) (at' : Nat) (hpow : s.powered = true)
    (hacc : (twinAccept s 36 h).2 = true) (hpair : hasStandby s = true) (hdue : OlcDue s)
    (htime : s.now + s.get R.OLC_XCFG_LEAD * 10000 ≤ at' * 31250) :
    Runs (.armAcknowledge h at') s fun t => (t.olc = { s.olc with acked := some (at', dueAct s) }) ∧
    t = { s with olc := t.olc, twin := t.twin } := by
  obtain ⟨l, hl⟩ := armAcknowledge_keeps h at' hacc hpair hdue htime
  exact runs_of_powered_eq rfl hpow hl rfl ⟨rfl, rfl⟩

/-- An acknowledgement that is late changes nothing but what the twin has heard. -/
theorem armAcknowledge_late (h : FrameHead) (at' : Nat) (hacc : (twinAccept s 36 h).2 = true)
    (htime : at' * 31250 < s.now + s.get R.OLC_XCFG_LEAD * 10000) : armAcknowledge s h at' = (twinAccept s 36 h).1 := by
  obtain ⟨l, hl⟩ := twinAccept_accepted hacc
  have htime' : ¬ (s.heard l).now + (s.heard l).get R.OLC_XCFG_LEAD * 10000 ≤ at' * 31250 := Nat.not_le.mpr htime
  unfold armAcknowledge
  dsimp only
  rw [hl, if_neg htime', ite_self]

theorem armAcknowledge_late_runs (s : State) (h : FrameHead) (at' : Nat) (hpow : s.powered = true)
    (hacc : (twinAccept s 36 h).2 = true) (htime : at' * 31250 < s.now + s.get R.OLC_XCFG_LEAD * 10000) :
    Runs (.armAcknowledge h at') s fun t => t = (twinAccept s 36 h).1 := by
  obtain ⟨l, hl⟩ := twinAccept_accepted hacc
  exact runs_of_powered_eq rfl hpow (armAcknowledge_late h at' hacc htime) (by rw [hl]; rfl) rfl

/-! ### GO (R301) -/

/-- The standby's state as it does what it has acknowledged. -/
def goTaken (s : State) (l : List (Nat × Nat)) : State := { s.heard l with olc := { s.olc with acked := none } }

/-- What a standby does at GO. -/
def goAct (s : State) : OlcAct → State
  | .switch =>
    match s.content, s.olc.next with
    | some a, some b =>
      if (olcState s = 2 ∨ olcState s = 3) ∧ switchPlanes s a b (sheetFor s a b s.olc.sheet) then olcSwitchNow s else s
    | _, _ => s
  | .confirm => if olcState s = 5 then confirmNow s else s
  | .undo => if olcState s = 5 ∧ undoPlanes s then undoNow s else s
  | .discard => olcRelease s

/-- A standby that hears a GO, outside a deferral. -/
structure GoHeard (s : State) (h : FrameHead) : Prop where
  dev : s.dev = .standby
  accepted : (twinAccept s 36 h).2 = true
  defer : s.flag R.SYS_STATE_DEFER = false

theorem goMessage_acts {h : FrameHead} (hgo : GoHeard s h) {n : Nat} {act : OlcAct} (hack : s.olc.acked = some (n, act)) :
    ∃ l, goMessage s h = goAct (goTaken s l) act := by
  obtain ⟨hdev, hacc, hdefer⟩ := hgo
  obtain ⟨l, hl⟩ := twinAccept_accepted hacc
  have hhears : ¬ (!(twinAccept s 36 h).2 || s.dev != .standby || s.flag R.SYS_STATE_DEFER) = true := by
    simp [hacc, hdev, hdefer]
  have hack' : (s.heard l).olc.acked = some (n, act) := hack
  refine ⟨l, ?_⟩
  unfold goMessage
  dsimp only
  rw [if_neg hhears, hl, hack']
  cases act <;> rfl

theorem goTaken_within (s : State) (l : List (Nat × Nat)) : Within .olcShown s (goTaken s l) :=
  (within_olc (by decide)).mpr ((within_twin (by decide)).mpr (.refl _ s))

/-- What a standby that discards touches. -/
def Touch.goDiscard : Touch := .or ⟨[.olc, .twin], []⟩ .olcRelease

theorem goDiscard_frame (h : Within .goDiscard s t) :
    t = { s with regs := t.regs, olc := t.olc, twin := t.twin, fabric := t.fabric } := h.eq_patch

theorem goMessage_discards_runs (s : State) (h : FrameHead) (n : Nat) (hgo : GoHeard s h)
    (hack : s.olc.acked = some (n, .discard)) :
    Runs (.goMessage h) s fun t => t.get R.OLC_STAT_STATE = 0 ∧ t.olc.staged = none ∧ t.olc.next = none ∧
    t.olc.acked = none ∧ t.folio = s.folio ∧
    t = { s with regs := t.regs, olc := t.olc, twin := t.twin, fabric := t.fabric } := by
  obtain ⟨l, hl⟩ := goMessage_acts hgo hack
  have htaken : Within ⟨[.olc, .twin], []⟩ s (goTaken s l) :=
    (within_olc (by decide)).mpr ((within_twin (by decide)).mpr (.refl _ s))
  have hwithin : Within .goDiscard s (olcRelease (goTaken s l)) :=
    .trans (htaken.mono (by decide)) ((olcRelease_within _).mono (by decide))
  refine runs_of_powered_eq rfl (powered_of_dev hgo.dev) hl (hwithin.part .pending)
    ⟨olcRelease_state _, ?_, ?_, ?_, hwithin.part .folio, goDiscard_frame hwithin⟩
  · exact congrArg OlcSt.staged (olcRelease_olc _)
  · exact congrArg OlcSt.next (olcRelease_olc _)
  · exact congrArg OlcSt.acked (olcRelease_olc _)

theorem goMessage_switches_runs (s : State) (h : FrameHead) (n : Nat) (a b : FolioContent) (hgo : GoHeard s h)
    (hack : s.olc.acked = some (n, .switch)) (hst : olcState s = 2 ∨ olcState s = 3) (hc : s.content = some a)
    (hn : s.olc.next = some b) (hplanes : switchPlanes s a b (sheetFor s a b s.olc.sheet) = true) :
    Runs (.goMessage h) s fun t => t.folio.content = some b ∧ t.get R.OLC_STAT_STATE = 5 ∧
    t.olc.old.map (·.content) = some a ∧ t.dev = .standby := by
  obtain ⟨l, hl⟩ := goMessage_acts hgo hack
  have hc' : (goTaken s l).content = some a := hc
  have hn' : (goTaken s l).olc.next = some b := hn
  have hmay : (olcState (goTaken s l) = 2 ∨ olcState (goTaken s l) = 3) ∧
      switchPlanes (goTaken s l) a b (sheetFor (goTaken s l) a b (goTaken s l).olc.sheet) = true :=
    ⟨hst, (switchPlanes_of_olcShown (goTaken_within s l) a b _).trans hplanes⟩
  have hswitches : goMessage s h = olcSwitchNow (goTaken s l) := by
    rw [hl, goAct]
    simp only [hc', hn', if_pos hmay]
  obtain ⟨hpending, hdev, hcontent, hold, hstate, -⟩ := olcSwitchNow_switched hc' hn'
  refine runs_of_powered_eq rfl (powered_of_dev hgo.dev) hswitches hpending ⟨hcontent, hstate, ?_, hdev.trans hgo.dev⟩
  rw [hold]
  rfl

theorem goMessage_confirms_runs (s : State) (h : FrameHead) (n : Nat) (b : FolioContent) (hgo : GoHeard s h)
    (hack : s.olc.acked = some (n, .confirm)) (hst : olcState s = 5) (hc : s.content = some b) :
    Runs (.goMessage h) s fun t => t.folio.content = some b ∧ t.get R.OLC_STAT_STATE = 0 ∧ t.olc.old = none ∧
    t.dev = .standby := by
  obtain ⟨l, hl⟩ := goMessage_acts hgo hack
  have hc' : (goTaken s l).content = some b := hc
  have hst' : olcState (goTaken s l) = 5 := hst
  have hconfirmed := confirmNow_confirmed hc'
  exact runs_of_powered_eq rfl (powered_of_dev hgo.dev) (hl.trans (if_pos hst')) hconfirmed.pending
    ⟨hconfirmed.content.trans hc, hconfirmed.state, hconfirmed.old, hconfirmed.dev.trans hgo.dev⟩

theorem undoPlanes_goTaken (l : List (Nat × Nat)) : undoPlanes (goTaken s l) = undoPlanes s := by
  have hc : (goTaken s l).content = s.content := rfl
  have ho : (goTaken s l).olc.old = s.olc.old := rfl
  unfold undoPlanes
  rw [hc, ho]
  split
  · exact switchPlanes_of_olcShown (goTaken_within s l) _ _ _
  · rfl

theorem goMessage_undoes_runs (s : State) (h : FrameHead) (n : Nat) (b : FolioContent) (o : OldProgram)
    (hgo : GoHeard s h) (hack : s.olc.acked = some (n, .undo)) (hst : olcState s = 5) (hc : s.content = some b)
    (ho : s.olc.old = some o) (hplanes : undoPlanes s = true) :
    Runs (.goMessage h) s fun t => t.folio.content = some o.content ∧ t.get R.OLC_STAT_STATE = 0 ∧ t.olc.old = none ∧
    t.dev = .standby := by
  obtain ⟨l, hl⟩ := goMessage_acts hgo hack
  have hc' : (goTaken s l).content = some b := hc
  have ho' : (goTaken s l).olc.old = some o := ho
  have hmay : olcState (goTaken s l) = 5 ∧ undoPlanes (goTaken s l) = true := ⟨hst, (undoPlanes_goTaken l).trans hplanes⟩
  have hundone := undoNow_undone hc' ho'
  exact runs_of_powered_eq rfl (powered_of_dev hgo.dev) (hl.trans (if_pos hmay)) hundone.pending
    ⟨hundone.content, hundone.state, hundone.old, hundone.dev.trans hgo.dev⟩

end

/-- Settles O32: an activation changes the program as a whole, or its boundary fails and the program stays. -/
theorem onlineChangeSwitches : Obligations.OnlineChangeSwitches := by
  have admitted {s : State} (hdev : s.dev ≠ .standby) (hst : s.get R.OLC_CMD_STATUS ≠ 1) (hpf : s.power.pfStep = 0) :
      OlcAdmitted s := ⟨hdev, hst, hpf⟩
  have live {s : State} (hdev : s.dev = .run ∨ s.dev = .halt) : s.dev ≠ .standby := (olcStates_of (hdev.imp_right .inr)).2
  unfold Obligations.OnlineChangeSwitches
  refine ⟨?_, ?_, ?_, ?_, ?_, ?_, ?_, ?_, ?_, ?_, ?_, ?_, ?_, ?_, ?_, ?_, ?_, ?_⟩
  · intro s m b hdev hst hpf hready hno hat
    exact olcArm_armed_runs s m b hdev (admitted (live hdev) hst hpf) hready hno hat
  · intro s m b a n hdev hst hpf hready hno hc hn hplanes
    exact olcArm_stop_runs s m b a n hdev (admitted (by simp [hdev]) hst hpf) hready hno hc hn hplanes
  · intro s a b hc hn hst hdev hgap hpf hdefer hat hfits
    exact olcSwitch_switches_runs s a b ⟨hst, hdev, hgap, hpf, hdefer⟩ hc hn hat hfits
  · intro s a b hc hn hst hdev hgap hpf hdefer hat hfits htries
    exact olcSwitch_fails_runs s a b ⟨hst, hdev, hgap, hpf, hdefer⟩ hc hn hat hfits htries
  · intro s m hdev hst hpf hswitched
    exact olcConfirm_waits_runs s m hdev (admitted (live hdev) hst hpf) hswitched
  · intro s m b hdev hst hpf hswitched hc
    have hnot : s.dev ≠ .standby := by obtain hdev | hdev := hdev <;> simp [hdev]
    exact olcConfirm_confirms_runs s m b hdev (admitted hnot hst hpf) hswitched hc
  · exact olcConfirmApply_runs
  · intro s m hdev hst hpf hswitched hundo
    exact olcUndo_waits_runs s m hdev (admitted (live hdev) hst hpf) hswitched hundo
  · exact olcUndoApply_runs
  · exact undotExpiry_runs
  · exact armMessage_sends_runs
  · exact armMessage_hears_runs
  · intro s h at' hpow hacc hpair hdue htime
    exact armAcknowledge_keeps_runs s h at' hpow hacc hpair hdue htime
  · exact armAcknowledge_late_runs
  · intro s h n hdev hacc hdefer hack
    exact goMessage_discards_runs s h n ⟨hdev, hacc, hdefer⟩ hack
  · intro s h n a b hdev hacc hdefer hack hst hc hn hplanes
    exact goMessage_switches_runs s h n a b ⟨hdev, hacc, hdefer⟩ hack hst hc hn hplanes
  · intro s h n b hdev hacc hdefer hack hst hc
    exact goMessage_confirms_runs s h n b ⟨hdev, hacc, hdefer⟩ hack hst hc
  · intro s h n b o hdev hacc hdefer hack hst hc ho hplanes
    exact goMessage_undoes_runs s h n b o ⟨hdev, hacc, hdefer⟩ hack hst hc ho hplanes

end Sys2Proof.Machine
